-- ==== Sys2Proof/Word.lean ====
section
/-! DEFINITION. The word types of the LN9192 (spec/00_scope.md R8, R9, R11; spec/02 R41): bytes, the 36-bit
word of the Col cores, handles, and the fixed-width wire fields. -/

namespace Sys2Proof

/-- One byte. -/
abbrev Byte := BitVec 8

/-- A 36-bit word of four nonets (R9). -/
abbrev Word36 := BitVec 36

/-- One nonet: the mark bit above eight data bits (R9). -/
abbrev Nonet := BitVec 9

/-- A handle: kind [31:24], generation [23:16], index [15:0] (R11). -/
abbrev Handle := BitVec 32

/-- Wire type U8 of R41. -/
abbrev U8 := BitVec 8
/-- Wire type U16 of R41. -/
abbrev U16 := BitVec 16
/-- Wire type U32 of R41. -/
abbrev U32 := BitVec 32
/-- Wire type U64 of R41. -/
abbrev U64 := BitVec 64

/-- A wire RECORD of `n` bytes (R41), big-endian: byte 0 is the most significant. -/
abbrev Rec (n : Nat) := BitVec (8 * n)

end Sys2Proof
end

