-- ==== Sys2Proof/Syntax.lean ====
section
/-! DEFINITION. The commands of the LN9192: one constructor of `Instr` per row of spec/opcode_table.json, with the
operands the row's rule names. Operand types are as narrow as the wire or the part makes them, so that what the spec
itself range-checks (RANGE, R13) can still be written down and what cannot exist (a ninth thread) cannot. -/

namespace Sys2Proof

/-- The two Vales (R6, R71). -/
inductive Vale where
  | east | west
deriving DecidableEq, Repr

/-- The dictionary roles of R12. -/
inductive Role where
  | operator | host | tenant | vault
deriving DecidableEq, Repr

/-- A write of a ring register of a Vale (R187, R188, R245): its value, and whether it comes from the host's BAR4 window. -/
structure RingWrite (n : Nat) where
  val : BitVec n
  host : Bool
deriving DecidableEq, Repr

/-- A read of a queue engine that failed (R326, R327): of the ring or of an indirect list, or of a descriptor's data; and the position
it serves. -/
structure FailedRead where
  descRead : Bool
  pos : BitVec 16
deriving DecidableEq, Repr

/-- Who makes a dictionary request: the role bound to the session (R12), the session's bound tenancy handle (R53;
`0` for the other roles) and the session identifier (`0`: none, R55). -/
structure Who where
  role : Role
  bound : Handle
  sess : Nat
deriving DecidableEq, Repr

/-- Glen's five request queues (R63). -/
inductive GlenQueue where
  | o | h | t | v | u
deriving DecidableEq, Repr

/-- The transports of R57. -/
inductive Transport where
  | mgmt | mctp | pf0
deriving DecidableEq, Repr

/-- The address that a datagram on the MGMT port was sent to (R58, R69). -/
inductive MgmtAddr where
  | linkLocal
  | ipv4 (a : U32)
  | ipv6 (a : BitVec 128)
deriving DecidableEq, Repr

/-- An Idien message (R46). The header's length field is the length of `payload`. -/
structure IdienMsg where
  verMajor : U8
  verMinor : U8
  opcode : U8
  flags : U8
  sequence : U16
  handle : Handle
  index : U16
  subindex : U8
  count : U8
  payload : List Byte
deriving DecidableEq, Repr

/-- A UDP datagram to the MGMT port (R58): the address it was sent to, its length, and the session and Idien message of a secured
message. -/
structure Datagram where
  dst : MgmtAddr
  len : Nat
  msg : Option (Nat × IdienMsg)
deriving DecidableEq, Repr

/-- Where a request comes from: a session, or a transport with session identifier 0 (R55). -/
inductive ReqSource where
  | session (id : Nat)
  | open_ (t : Transport)
deriving DecidableEq, Repr

/-- A unit that reports ready to the epoch control (R37, R153, R161, R208). -/
inductive EpochUnit where
  | stage (v : Vale) (k : Fin 12)
  | tm (v : Vale)
  | core (v : Vale) (n : Fin 100)
deriving DecidableEq, Repr

/-- One thread of one Col core (R93). -/
structure Thr where
  v : Vale
  core : Fin 100
  t : Fin 8
deriving DecidableEq, Repr

/-- A pool of packet threads (R28). -/
inductive Pool where
  | operator
  | static (ten : Fin 256)
  | dynamic (ten : Fin 256)
deriving DecidableEq, Repr

/-- A non-wire source of an intake grant (R76): the queue context of a transmit queue, a Saddle region, a Steppe injection queue, the recirculation path. -/
inductive NwSource where
  | host (ctx : Nat)
  | saddle (r : Fin 64)
  | steppe (q : Fin 64)
  | recirc
deriving DecidableEq, Repr

/-- The two ends of a tenancy mailbox (R369); the operator view is reached by the internal address space or through PF0. -/
inductive MbSide where
  | tenant | operator | pf0
deriving DecidableEq, Repr

/-- The two directions of the host link (R300). -/
inductive LinkDir where
  | toHost | fromHost
deriving DecidableEq, Repr

/-- What took the host link down (R297). -/
inductive LinkDownCause where
  | hotReset | linkDown | linkDisable | perstLow
deriving DecidableEq, Repr

/-- A received TLP error or completion error (the conditions of R302). -/
inductive TlpError where
  | correctable (bit : Nat)
  | poisonedWrite (f : Nat)
  | unsupported (f : Option Nat)
  | completionTimeout (f : Nat)
  | completionError (f : Nat)
  | unexpectedCompletion
  | malformed (bit : Nat)     -- data link protocol 4, flow control 13, receiver overflow 17, malformed TLP 18
  | surpriseDown
  | msixEntry (f : Nat) (vec : Nat)
  | internalRead
deriving DecidableEq, Repr

/-- A bit or field of a function's configuration space that R280, R299, R292, R293 and R302 name; status bits clear when written
as 1. -/
inductive ConfigField where
  | busMaster | d3hot | msixEnable | functionMask | intxDisable | relaxedOrdering
  | corErrEn | nonFatalErrEn | fatalErrEn
  | maxPayload (code : BitVec 3) | maxRead (code : BitVec 3) | tag10 | completionRange (code : BitVec 4)
  | corStatus (bit : Fin 32) | corMask (bit : Fin 32)
  | uncStatus (bit : Fin 32) | uncMask (bit : Fin 32) | severity (bit : Fin 32)
deriving DecidableEq, Repr

/-- The kind of a request from attached logic (R266, R269). -/
inductive SgKind where
  | read (len : Nat)
  | write (data : List Byte)
  | unsupported (posted : Bool)
deriving DecidableEq, Repr

/-- A request from attached logic as it arrives at a Saddle port (R266, R267). -/
structure SgReq where
  ours : Bool                -- bus and device are those assigned to the port (R266 step 1)
  func : U8
  pasid : Option (BitVec 20)
  addr : U64
  kind : SgKind
deriving DecidableEq, Repr

/-- The header registers a shell answers with (R260) and its region blocks (R261). -/
structure ShellRegion where
  present : Bool
  pkt : Bool
  dma : Bool
  pasidEn : Bool
  func : U8
  pasid : BitVec 20
  rxOff : BitVec 20
  rxLog2 : BitVec 4
  rxSize : BitVec 2
  bar2 : U64                 -- bytes of BAR2 of FUNC (R263)
deriving DecidableEq, Repr

structure ShellOffer where
  magic : U32
  offer : U32
  regions : List ShellRegion
deriving DecidableEq, Repr

/-- A wake source of R467. -/
inductive WakeSource where
  | wakeN | rtcAlarm | tamper | perst | hostTlp | mgmtFrame | mctp | gpio | idien
deriving DecidableEq, Repr

/-- A wake: the source, and those that arrive in the same AON cycle (R467). -/
structure WakeCall where
  source : WakeSource
  others : List WakeSource
deriving DecidableEq, Repr

/-- The clock sources of R445, in table order. -/
inductive ClkSource where
  | ref25 | pcieRefclk | sdsRef | aon32k | rco20 | lpo
deriving DecidableEq, Repr

/-- The PLLs of R448. -/
inductive Pll where
  | vale (v : Vale)
  | quad (q : Fin 6)
  | ctl
  | timeA | timeB
  | host
  | fab
  | ddr | hbm0 | hbm1
  | sds (q : Fin 4)
deriving DecidableEq, Repr

/-- A cell that a clock monitor watches (R451): a power domain of R460, or the REF25 input. -/
inductive ClkCell where
  | domain (d : Fin 45)
  | ref25
deriving DecidableEq, Repr

/-- A reading of the core regulator (R455). -/
structure AvsReading where
  answered : Bool
  current : Nat              -- 0.1 A
  estimate : Nat             -- on-die estimate, 0.1 W
  power : Nat                -- 0.1 W
deriving DecidableEq, Repr

/-- Rows of the error tables of the chapters (R89, R127, R176, R203, R227, R247, R278, R303, R328, R349, R368, R399,
R424, R443, R468): what ERROR_ARRIVAL carries. -/
inductive ErrKind where
  -- R89
  | basinSbe (v : Vale)
  | basinDbe (v : Vale) (pkt : Nat)
  | basinDbeTx (v : Vale) (pkt : Nat)
  | basinLists (v : Vale)
  | narrowsTokens (v : Vale)
  -- R127
  | colSbe (v : Vale) (core : Fin 100) (dmem : Bool) (addr : Nat)
  | colParity (v : Vale) (core : Fin 100) (t : Fin 8)
  | colDbe (v : Vale) (core : Fin 100)
  | colSupervisor (v : Vale) (core : Fin 100) (code : Nat)
  -- R176
  | stageSbe (v : Vale)
  | stageActionDbe (v : Vale) (k : Fin 12) (entry : Nat)
  | stageTemplateDbe (v : Vale) (t : Nat)
  | stageParity (v : Vale) (pkt : Nat)
  | stageSequencing (v : Vale) (k : Fin 12)
  -- R203
  | tableSbe (v : Vale) (p : Nat) (pos : Nat)
  | tableRow (v : Vale) (p : Nat) (pos : Nat) (dbe : Bool) (hit : Option Nat)  -- hit: the packet whose lookup found it
  | tableBank (v : Vale) (mem : Fin 7) (bank : Nat)
  | tableEngine (v : Vale)
  | sortManager (v : Vale)
  -- R227
  | tmSbe (v : Vale)
  | tmQueueDbe (v : Vale) (q : Nat)
  | tmShaperDbe (v : Vale) (sh : Nat)
  | floodPacket (v : Vale) (pkt : Nat)
  | floodLinks (v : Vale) (q : Nat)
  | tmScheduler (v : Vale)
  -- R247
  | pgrSbe (v : Vale)
  | policerDbe (v : Vale) (p : Nat)
  | gateEntryDbe (v : Vale)
  | gateEntryBoth (v : Vale) (n : Fin 8)
  | replMemberDbe (v : Vale) (g : Nat) (m : Nat)
  | timeCounter
  -- R278
  | saddleLane (p : Fin 8)
  | saddlePoisoned (r : Fin 64) (addr : U64)
  | saddleCacheLine (p : Fin 8)
  | saddleFaultLimit (r : Fin 64)
  | saddlePort (p : Fin 8)
  | saddleSlot (q : Fin 4)
  | saddleWindow (owner : Handle) (w : Fin 63)
  | saddleGate
  -- R303
  | hostSbe
  | hostWindowDbe (i : Nat)
  | hostMsixDbe (f : Nat) (vec : Nat)
  | hostFunction (f : Nat) (reason : Nat)
  | hostController
  -- R328
  | qeSbe
  | qeDescDbe (ctx : Nat)
  | qeStartedDbe (ctx : Nat) (pos : Nat)
  | qeContextDbe (ctx : Nat)
  | qeScheduler
  -- R349
  | storSbe
  | storBuffer (c : Nat) (tag : Nat)
  | storController (c : Nat)
  | storTable
  -- R368
  | dplSbe
  | dplWord (ten : Fin 256) (range : Fin 8) (word : Nat)
  | dplCache
  -- R399, R392
  | memSbe
  | memDbe (addr : Nat) (repair : Bool)
  | memRow (hbm : Bool) (addr : Nat)
  | ddrRowNoRepair (addr : Nat)
  | hbmRowNoRepair (stack : Fin 2) (frame : Nat)
  | scacheLine (addr : Nat)
  | quadFault (q : Fin 6)
  | glenFault
  | memController
  -- R424
  | vaultSbe
  | vaultKeyCache
  | vaultTrngThird
  | vaultKeyStore
  | vaultSealedOne
  | vaultSealedBoth
  | vaultCore
  -- R443 (running firmware sees only the digest row; the others are steps of ROM_BOOT)
  | bootDigest
  -- R468
  | blockNoClock (d : Fin 45)
  | pllFailed (p : Pll)
  | telemetryBad
deriving DecidableEq, Repr

/-- An error as it arrives at a handler (R470, R471): the row of its chapter's table and the owner of its resource. -/
structure ErrArrival where
  kind : ErrKind
deriving DecidableEq, Repr

/-- A handler of R470: level 2 (block), 3 (region) or 4 (chip) and the unit identifier it belongs to (R473); a cell
handler is named at level 1. -/
structure HandlerId where
  level : Fin 5
  unit : U32
deriving DecidableEq, Repr

/-- The plain registers of the memory-mapped blocks that a REGISTER_WRITE reaches (R10): those with no row of their
own. -/
inductive RegTarget where
  | dict (who : Who) (handle : Handle) (index : U16) (sub : U8) (value : List Byte)   -- a dictionary object (R42)
  | mbIntrEn (v : U32)                                   -- MB_INTR_EN, R60
  | tc (v : Vale) (r : Fin 8) (off : Nat) (w : U32) (host : Bool) -- R187, all but EN=1, TAIL; through PF0 or internal
  | telem (v : Vale) (off : Nat) (w : U32) (host : Bool) -- R245, all but EN=1
  | qeCmdBuf (f : Nat) (off : Nat) (b : Byte)            -- R307 CMD_BUF
  | qeCtrl (f : Nat) (w : U32)                           -- R307 offset 0
  | nvmeReg (c : Nat) (off : Nat) (w : U32)              -- R331, R332
  | mbox (n : Fin 256) (side : MbSide) (off : Nat) (w : U32) -- R370 0x020, 0x024
  | mbPending (k : Fin 8) (w : U32) (host : Bool)                      -- R373, RW1C
  | steppeRing (r : Nat) (off : Nat) (w : U32)           -- R383 base, DROPS, EN = 0
  | hartPc (h : Fin 24) (hi : Bool) (w : U32)            -- R378 RESTART_PC
  | msixEntry (f : Nat) (vec : Nat) (word : Fin 4) (w : U32) -- R292
deriving DecidableEq, Repr

/-- The pin straps sampled on the rise of RST_N (R496) and the golden-slot pin (R432). -/
structure Straps where
  mgmtSel : Bool
  testMode : Bool
  goldLow : Bool
deriving DecidableEq, Repr

/-- One command of the LN9192: one row of spec/opcode_table.json each, in the table's order. -/
inductive Instr where
  -- 01 tenancies and epochs
  | tenancyCreate (who : Who) (r : Rec 8)
  | tenancyDestroy (who : Who) (h : Handle)
  | teardownIsolate (i : Fin 256) (silent : List (Fin 64))
  | teardownFlush (i : Fin 256)
  | teardownPurge (i : Fin 256)
  | teardownRelease (i : Fin 256)
  | tenReset (who : Who) (h : Handle) (v : U8)
  | tenResetComplete (i : Fin 256)
  | tenQuotaWrite (who : Who) (h : Handle) (kind : U8) (v : U32)
  | tenShareWrite (who : Who) (h : Handle) (v : Vale) (x : U16)
  | stagedWrite (who : Who) (index : U16) (sub : U8) (bytes : List Byte)
  | epochCommit (who : Who)
  | epochDiscard (who : Who)
  | unitReady (u : EpochUnit)
  | commitTimeout
  | retireComplete
  | retireTimeout
  | portNodeSwitch (v : Vale) (n : Fin 15)
  -- 02 Idien, SPDM and transports
  | requestEnqueue (src : ReqSource) (m : IdienMsg)
  | getVersion (q : GlenQueue)
  | read (q : GlenQueue)
  | write (q : GlenQueue)
  | describe (q : GlenQueue)
  | list (q : GlenQueue)
  | unitAnswerTimeout (q : GlenQueue)
  | persistCommit
  | spdmGetVersion (conn : Nat)
  | getCapabilities (conn : Nat)
  | negotiateAlgorithms (conn : Nat) (p384 sha384 ecdhe gcm : Bool)
  | getDigests (conn : Nat)
  | getCertificate (conn : Nat) (slot : U8) (offset len : U16)
  | challenge (conn : Nat) (slot : U8) (nonce : List Byte)
  | getMeasurements (conn : Nat) (index : U8) (signed : Bool)
  | keyExchange (conn : Nat) (t : Transport) (root : List Byte) (mutualAuth : Bool)
  | finish (conn : Nat) (ok : Bool)
  | heartbeat (sid : Nat)
  | keyUpdate (sid : Nat)
  | endSession (sid : Nat)
  | sessionIdleTimeout (sid : Nat)
  | mgmtDatagram (d : Datagram) (valid : Bool)
  | setEndpointId (eid : U8)
  | getVendorDefinedMessageSupport
  | mbGo
  | mbRequestTaken
  | mbBufferWrite (off : Nat) (b : Byte)
  | mbDoneClear
  -- 03 packet path
  | portModeWrite (who : Who) (v : Vale) (m : U8)
  | linkUp (v : Vale) (k : Fin 8)
  | linkDown (v : Vale) (k : Fin 8)
  | wireFrameStart (v : Vale) (k : Fin 8) (bytes : List Byte)
  | intakeGrant (v : Vale) (src : NwSource)
  | frameTail (v : Vale) (pkt : Nat) (rest : List Byte) (ok : Bool)
  | tailTimeout (v : Vale) (pkt : Nat)
  | distribute (v : Vale) (p : Pool)
  | headerBytesArrive (v : Vale) (pkt : Nat) (bytes : List Byte)
  | hdrWaitLimit (th : Thr)
  | tableResultReturn (th : Thr)
  | tblWaitLimit (th : Thr)
  | watchdog (v : Vale) (pkt : Nat)
  | storeDrain (th : Thr)
  | releaseBufferEntry (th : Thr)
  | narrowsForward (v : Vale)
  -- 05 Col instructions
  | add (th : Thr) (a b c : BitVec 4)
  | sub (th : Thr) (a b c : BitVec 4)
  | and_ (th : Thr) (a b c : BitVec 4)
  | or_ (th : Thr) (a b c : BitVec 4)
  | xor (th : Thr) (a b c : BitVec 4)
  | shl (th : Thr) (a b c : BitVec 4)
  | shr (th : Thr) (a b c : BitVec 4)
  | sar (th : Thr) (a b c : BitVec 4)
  | minu (th : Thr) (a b c : BitVec 4)
  | maxu (th : Thr) (a b c : BitVec 4)
  | cmp (th : Thr) (b c : BitVec 4)
  | tst (th : Thr) (b c : BitVec 4)
  | mul (th : Thr) (a b c : BitVec 4)
  | mov (th : Thr) (a b : BitVec 4)
  | pack (th : Thr) (a b : BitVec 4)
  | unpk (th : Thr) (a b : BitVec 4)
  | crc (th : Thr) (a b c : BitVec 4)
  | addi (th : Thr) (a b : BitVec 4) (d : BitVec 18)
  | andi (th : Thr) (a b : BitVec 4) (d : BitVec 18)
  | ori (th : Thr) (a b : BitVec 4) (d : BitVec 18)
  | xori (th : Thr) (a b : BitVec 4) (d : BitVec 18)
  | shli (th : Thr) (a b : BitVec 4) (d : BitVec 18)
  | shri (th : Thr) (a b : BitVec 4) (d : BitVec 18)
  | sari (th : Thr) (a b : BitVec 4) (d : BitVec 18)
  | cmpi (th : Thr) (b : BitVec 4) (d : BitVec 18)
  | mvi (th : Thr) (a : BitVec 4) (d : BitVec 18)
  | lui (th : Thr) (a : BitVec 4) (d : BitVec 18)
  | ext (th : Thr) (a b : BitVec 4) (d : BitVec 18)
  | ins (th : Thr) (a b : BitVec 4) (d : BitVec 18)
  | tsti (th : Thr) (b : BitVec 4) (d : BitVec 18)
  | ldh (th : Thr) (a b c : BitVec 4) (d : BitVec 18)
  | prb (th : Thr) (a b c : BitVec 4) (d : BitVec 18)
  | ldr (th : Thr) (a b : BitVec 4) (d : BitVec 18)
  | str (th : Thr) (a b : BitVec 4) (d : BitVec 18)
  | rbs (th : Thr) (d : BitVec 18)
  | rbc (th : Thr) (d : BitVec 18)
  | ldd (th : Thr) (a b c : BitVec 4) (d : BitVec 18)
  | std (th : Thr) (a b c : BitVec 4) (d : BitVec 18)
  | xadd (th : Thr) (a b c : BitVec 4) (d : BitVec 18)
  | fence (th : Thr)
  | br (th : Thr) (a : BitVec 4) (d : BitVec 18)
  | cbeq (th : Thr) (b c : BitVec 4) (d : BitVec 18)
  | cbne (th : Thr) (b c : BitVec 4) (d : BitVec 18)
  | call (th : Thr) (a : BitVec 4) (d : BitVec 18)
  | jr (th : Thr) (b : BitVec 4)
  | jtab (th : Thr) (b c : BitVec 4) (d : BitVec 18)
  | nop (th : Thr)
  | fork (th : Thr) (a b c : BitVec 4) (d : BitVec 18)
  | join (th : Thr)
  | release (th : Thr) (d : BitVec 18)
  | end_ (th : Thr)
  | tlk (th : Thr) (a b c : BitVec 4) (d : BitVec 18)
  | mfc (th : Thr) (a : BitVec 4) (d : BitVec 18)
  | mtc (th : Thr) (b : BitVec 4) (d : BitVec 18)
  | wait (th : Thr)
  | npop (th : Thr) (a : BitVec 4)
  | ldim (th : Thr) (a b : BitVec 4) (d : BitVec 18)
  | stim (th : Thr) (a b : BitVec 4) (d : BitVec 18)
  | synci (th : Thr)
  | illegal (th : Thr) (w : Word36)
  -- 04 Col supervisor, test and programs
  | timerExpiry (v : Vale) (core : Fin 100) (i : Fin 4)
  | edgeDetect (v : Vale) (core : Fin 100) (i : Fin 8) (rising : Bool)
  | handlerStart (v : Vale) (core : Fin 100)
  | supervisorHandlerLimit (v : Vale) (core : Fin 100)
  | colTest (who : Who) (v : Vale) (n : U8)
  | colTestDrained (v : Vale)
  | colTestDrainTimeout (v : Vale)
  | colTestDone (v : Vale) (pass : Bool)
  | substitutionComplete (v : Vale) (core : Fin 100)
  | condQueueWrite (who : Who) (v : Vale) (i : Fin 32) (r : Rec 12)
  | colProgram (who : Who) (v : Vale) (r : Rec 12)
  | colProgLoaded (v : Vale)
  -- 06 match stages
  | stageExecute (v : Vale) (k : Fin 12)
  | extLookupReturn (v : Vale) (k : Fin 12)
  | stageLookupTimeout (v : Vale) (k : Fin 12)
  | puntDeliver (v : Vale)
  | stageDefWrite (who : Who) (v : Vale) (k : Fin 12) (r : Rec 20)
  | partMapWrite (who : Who) (v : Vale) (k : Fin 12) (n : Fin 256) (h : Handle)
  -- 07 tables
  | partitionCreate (who : Who) (v : Vale) (r : Rec 24)
  | partitionDestroy (who : Who) (v : Vale) (h : Handle)
  | tcRingEnable (v : Vale) (r : Fin 8) (w : RingWrite 32)
  | tcDoorbell (v : Vale) (r : Fin 8) (x : RingWrite 12)
  | tcInsert (v : Vale) (r : Fin 8)
  | tcDelete (v : Vale) (r : Fin 8)
  | tcRead (v : Vale) (r : Fin 8)
  | tcLock (v : Vale) (r : Fin 8)
  | tcUpdate (v : Vale) (r : Fin 8)
  | tcUnlock (v : Vale) (r : Fin 8)
  | tcWalk (v : Vale) (r : Fin 8)
  | tcFlush (v : Vale) (r : Fin 8)
  | tableLockExpired (v : Vale) (l : Fin 4096)
  | learnInsert (v : Vale)
  | learnLogRead (who : Who) (v : Vale)
  | ageTick (v : Vale)
  | agerVisit (v : Vale) (p : Fin 1024) (pos : Nat)
  | tcamScrub (v : Vale) (p : Fin 1024) (pos : Nat) (differs : Bool)
  | tableBankTest (who : Who) (v : Vale) (x : U16)
  | tableMigrationDone (v : Vale)
  | tableTestDone (v : Vale) (pass : Bool)
  -- 08 traffic manager
  | queueCreate (who : Who) (v : Vale) (r : Rec 32)
  | queueConfWrite (who : Who) (v : Vale) (q : Fin 32768) (r : Rec 32)
  | queueDestroy (who : Who) (v : Vale) (h : Handle)
  | shaperCreate (who : Who) (v : Vale) (r : Rec 20)
  | shaperWrite (who : Who) (v : Vale) (i : Fin 36864) (r : Rec 16)
  | shaperDestroy (who : Who) (v : Vale) (h : Handle)
  | enqueue (v : Vale)
  | crossingTransfer (v : Vale)
  | dequeue (v : Vale) (n : Fin 15)
  | spillWriteComplete (v : Vale) (pkt : Nat)
  | refill (v : Vale) (q : Fin 32768)
  | floodSizeWrite (who : Who) (v : Vale) (x : U8)
  | tick
  | timeSet (who : Who) (r : Rec 12)
  | timeStep (who : Who) (r : Rec 8)
  -- 09 policers, gates, replication, telemetry
  | policerCreate (who : Who) (v : Vale) (r : Rec 28)
  | policerWrite (who : Who) (v : Vale) (p : Fin 16384) (r : Rec 24)
  | policerDestroy (who : Who) (v : Vale) (h : Handle)
  | police (v : Vale)
  | gateApply (who : Who) (v : Vale) (n : U8)
  | gateListChange (v : Vale) (n : Fin 8)
  | gateEntryEnd (v : Vale) (n : Fin 8)
  | replCreate (who : Who) (v : Vale) (owner : Handle)
  | replDestroy (who : Who) (v : Vale) (h : Handle)
  | replWrite (who : Who) (v : Vale) (bytes : List Byte)
  | replApply (who : Who) (v : Vale) (r : Rec 6)
  | replQuery (who : Who) (v : Vale) (r : Rec 6)
  | replicate (v : Vale)
  | telemSample (v : Vale) (w : Fin 4096)
  | telemRingEnable (v : Vale) (w : RingWrite 32)
  | telemLogRead (who : Who) (v : Vale)
  -- 10 Saddle ports
  | slotModeWrite (who : Who) (q : Fin 4) (m : U8)
  | slotPower (who : Who) (q : Fin 4) (on : U8) (present : Bool)
  | slotPgoodRise (q : Fin 4)
  | slotPgoodTimeout (q : Fin 4)
  | slotPgoodFall (q : Fin 4)
  | slotLoad (who : Who) (r : Rec 24)
  | manifestVerified (q : Fin 4)
  | cfgInitRise (q : Fin 4)
  | cfgInitTimeout (q : Fin 4)
  | cfgInitFall (q : Fin 4)
  | cfgDone (q : Fin 4)
  | cfgDoneTimeout (q : Fin 4)
  | saddleLinkUp (p : Fin 8) (speed width : U8)
  | saddleLinkTimeout (p : Fin 8)
  | shReady (p : Fin 8) (o : ShellOffer)
  | shReadyTimeout (p : Fin 8)
  | slotUnload (who : Who) (q : U8)
  | regionCreate (who : Who) (r : Rec 24)
  | isoAckFall (r : Fin 64)
  | regionDestroy (who : Who) (h : Handle)
  | isoAckSet (r : Fin 64)
  | isoAckTimeout (r : Fin 64)
  | regionReset (who : Who) (h : Handle)
  | resetDone (r : Fin 64)
  | resetDoneTimeout (r : Fin 64)
  | saddleRequest (p : Fin 8) (q : SgReq)
  | pageEntryFetch (p : Fin 8)
  | gateQueueRelease (r : Fin 64)
  | windowWrite (who : Who) (owner : Handle) (w : Fin 63) (r : Rec 32)
  | sgInvalidate (who : Who) (r : Rec 16)
  | saddleRxWrite (r : Fin 64)
  | apertureWrite (r : Fin 64) (off : Nat) (bytes : List Byte)
  | rxConsWrite (r : Fin 64) (x : U16)
  | saddlePortReset (who : Who) (p : Fin 8)
  | saddleCplTimeout (p : Fin 8)
  | saddleL1Entry (p : Fin 8)
  | saddleL1Exit (p : Fin 8)
  | regionFaultRead (who : Who) (r : Fin 64)
  -- 11 host interface
  | pciePerstRise
  | hostConfigLoaded
  | vfAssign (who : Who) (r : Rec 8)
  | vfRelease (who : Who) (h : Handle)
  | vfReset (who : Who) (h : Handle)
  | initiateFlr (f : Fin 1028)
  | functionSilenced (f : Fin 1028)
  | flrQueueReset (f : Fin 1028)
  | flrComplete (f : Fin 1028)
  | hostLinkDown (c : LinkDownCause)
  | vfEnableChange (pf : Fin 4) (en : Bool) (num : Nat)
  | configWrite (f : Fin 1028) (fld : ConfigField) (x : Bool)
  | bar2Request (f : Fin 1028) (off : Nat) (data : Option (List Byte)) (len : Nat)
  | winEntryWrite (who : Who) (i : Fin 4096) (r : Rec 24)
  | msixSend (f : Fin 1028) (vec : Nat)
  | intxAck (f : Fin 4) (vec : BitVec 11)
  | hostArbGrant (d : LinkDir)
  | hostTlpError (e : TlpError)
  -- 12 work queues
  | qeCreate (f : Fin 1028)
  | qeArm (f : Fin 1028)
  | qeDestroy (f : Fin 1028)
  | qeInvalidate (f : Fin 1028)
  | qeQuery (f : Fin 1028)
  | sqDb (f : Fin 1028) (lq : Nat) (x : U16)
  | cqDb (f : Fin 1028) (lq : Nat) (x : U16)
  | descriptorFetch (ctx : Fin 65536)
  | descriptorStart
  | txFrameTaken (ctx : Fin 65536)
  | rxDeliver (ctx : Fin 65536)
  | controlCopyDone (ctx : Fin 65536) (pos : U16)
  | coalTimerExpiry (ctx : Fin 65536)
  | qeReadTimeout (ctx : Fin 65536) (descRead : Bool) (pos : U16)
  | qeReadError (ctx : Fin 65536) (x : FailedRead)
  -- 13 storage
  | ccEnSet (c : Fin 256) (cc : U32)
  | ccEnClear (c : Fin 256)
  | nvmeSqDoorbell (f : Fin 1028) (y : Nat) (x : U16)
  | nvmeCqDoorbell (f : Fin 1028) (y : Nat) (x : U16)
  | nvmeCommandFetch (c : Fin 256) (sq : Nat)
  | deleteIoSq (c : Fin 256)
  | createIoSq (c : Fin 256)
  | getLogPage (c : Fin 256)
  | deleteIoCq (c : Fin 256)
  | createIoCq (c : Fin 256)
  | identify (c : Fin 256)
  | abort (c : Fin 256)
  | setFeatures (c : Fin 256)
  | getFeatures (c : Fin 256)
  | asynchronousEventRequest (c : Fin 256)
  | formatNvm (c : Fin 256)
  | nvmeFlush (c : Fin 256) (tag : Nat)
  | nvmeWrite (c : Fin 256) (tag : Nat) (prpOk : Bool)
  | nvmeRead (c : Fin 256) (tag : Nat) (prpOk : Bool)
  | writeZeroes (c : Fin 256) (tag : Nat)
  | datasetManagement (c : Fin 256) (tag : Nat) (prpOk : Bool)
  | nvmeBackendStart (tag : Nat)
  | backendResponse (tag : Nat) (status : U16) (data : List Byte)
  | rlockWaitLimit (tag : Nat)
  | nvmeBackendTimeout (tag : Nat)
  | nvmeCqFullLimit (c : Fin 256) (cq : Nat)
  | nvmeSqReadFailed (c : Fin 256) (sq : Nat) (timeout : Bool)
  | autonomousPowerStateTransition (c : Fin 256) (ps : Fin 4)
  | nvmeCtrlCreate (who : Who) (r : Rec 8)
  | nvmeCtrlDestroy (who : Who) (h : Handle)
  | nvmeVolWrite (who : Who) (v : Fin 4096) (r : Rec 48)
  -- 14 migration and mailboxes
  | dplRangeWrite (who : Who) (ten : Handle) (k : Fin 8) (r : Rec 24)
  | dplCtrl (who : Who) (ten : Handle) (x : U8)
  | dplHarvest (who : Who) (ten : Handle) (r : Rec 32)
  | migHold (who : Who) (ten : Handle) (x : U8)
  | migHoldDrained (i : Fin 256)
  | migHoldExpired (i : Fin 256)
  | mbOfferWrite (n : Fin 256) (side : MbSide) (w : U32)
  | mbCountWrite (n : Fin 256) (side : MbSide) (producer : Bool) (x : U16)
  | mbSlotWrite (n : Fin 256) (side : MbSide) (slot : Fin 16) (off : Fin 64) (b : Byte)
  | mbReset (who : Who) (ten : Handle)
  | mbFunctionWrite (who : Who) (ten : Handle) (h : Handle)
  | mbResetComplete (n : Fin 256)
  -- 15 Steppe, memory, Glen
  | hartRunWrite (h : Fin 24) (run : Bool)
  | quadTest (who : Who) (q : U8)
  | quadTestDone (pass : Bool)
  | steppeRingEnable (r : Fin 1216) (w : U32)
  | steppeRingCountWrite (r : Fin 1216) (x : U16)
  | injectionTake (q : Fin 64)
  | spitCommand (w : U32)
  | spitCsRise (words : List U32) (inWord : Bool) (extraEdges : Bool)
  | spiEdgeGap
  | spitSnapshot
  | periphEnWrite (who : Who) (x : U16)
  | glenWatchdog
  | ddrTraining (trained : List Bool) (gib : Nat)
  | zqCalibration (ch : Fin 4)
  | hbmTraining (ok0 ok1 : Bool)
  | patrolScrub (stack : Fin 2) (word : Nat) (corrected : Bool)
  -- 16 vault
  | lcAdvance (who : Who) (r : Rec 132)
  | keyGenerate (who : Who) (r : Rec 8)
  | keyImport (who : Who) (r : Rec 72)
  | keyImportT (who : Who) (ten : Handle) (r : Rec 68)
  | keyDestroy (who : Who) (slot : U16)
  | sealedStoreWrite
  | debugChallenge (who : Who)
  | debugUnlock (who : Who) (r : Rec 148)
  | tamperSample (high0 high1 : Bool)
  | tamperLockWrite (who : Who) (x : U8)
  | trngFailed
  | vaultHash (who : Who) (alg : U8) (addr : U64) (len : U32)
  | vaultSign (who : Who) (alg : U8) (slot : U16) (msg : List Byte)
  | vaultVerify (who : Who) (alg : U8) (operands : List Byte)
  | vaultEcdh (who : Who) (alg : U8) (slot : U16) (peer : List Byte)
  | vaultRandom (who : Who) (len : U32)
  | saWrite (who : Who) (a : Fin 16384) (r : Rec 64)
  -- 17 boot
  | romBoot
  | flashReadTimeout
  | componentLoad (kind : Fin 6)
  | steppeRelease
  | colRelease (v : Vale)
  | flashRelease
  | imgInstall (who : Who) (r : Rec 16)
  | installCheckDone
  | installWriteDone (ok : Bool)
  | installVerifyDone
  | imgMark (who : Who) (slot st : U8)
  | rollbackCommit (who : Who) (x : U8)
  | rollbackFuseStep
  | imgKeyRevoke (who : Who) (x : U8)
  | goldRequest
  -- 18 clocks and power
  | qualifyWindow (c : ClkSource) (pass : Bool)
  | qualifyLimit (c : ClkSource)
  | clkRequalify (who : Who) (x : U8)
  | clkSourceWrite (who : Who) (d : Fin 45) (x : U8)
  | pllLossOfLock (p : Pll)
  | pllRelock (p : Pll)
  | pllRestart (p : Pll)
  | memoryPllTimeout (p : Pll)
  | steppeFreqWrite (who : Who) (q : Fin 6) (x : U16)
  | clkMonTrip (c : ClkCell)
  | droopTrip (k : Fin 48)
  | droopHold (k : Fin 48)
  | avsPoll (r : AvsReading)
  | pmbusPoll (rail : Nat) (answered inRange phaseFault : Bool)
  | vrAlert
  | powerCapClear (who : Who) (alertHigh : Bool)
  | thermalSample (t : Int)
  | thermtrip
  | powerDomainWrite (who : Who) (d : Fin 45) (x : U8)
  | domainChangeDone (d : Fin 45)
  | ladderRequest (who : Who) (x : U8)
  | ladderStepDone
  | ladderStepLimit
  | wake (w : WakeCall)
  | rtcAlarm
  | boardPwrEnRaise
  -- 19 errors, test and repair
  | errorArrival (e : ErrArrival)
  | errorActionComplete (h : HandlerId)
  | chipReset (who : Who) (x : U8)
  | failstopResetDelay
  | rstN (high : Bool) (straps : Straps)
  | eventLogRead (who : Who)
  | errorLogRead (who : Who)
  | laneTest (who : Who) (x : U8)
  | laneTestDone (pass : Bool)
  | saddlePortTest (who : Who) (x : U8)
  | saddlePortTestDone (pass : Bool)
  -- 20 electrical, and the rows the table adds at its end
  | powerUp
  | vaonLoss
  | winFirstMissRead (who : Who)
  | qeLastFaultRead (who : Who)
  | crossFifoPeakRead (who : Who) (v : Vale)
  | relbufPeakRead (who : Who) (v : Vale)
  | registerWrite (t : RegTarget)
  | hostLinkUp
  | saddleLinkDown (p : Fin 8)
  | teardownDrainTimeout (i : Fin 256)
  | powerStateTransitionDone (c : Fin 256)
  | erasureComplete
  | trngStartupTestDone
  | ladderReversalDone
  | ssdEnumerated (p : Fin 8) (nsid : U32) (lbads : U8) (lbas : U64) (mqes : U16) (granted : Nat)
deriving DecidableEq, Repr

end Sys2Proof
end

