-- ==== Sys2Proof/Config.lean ====
section
/-! DEFINITION. What an implementation fixes and the spec leaves open: free values (opaque constants without a body) and
the cryptographic functions, which the spec takes from outside standards. -/

namespace Sys2Proof.Config

/-- A value that the spec leaves open, drawn under the number `n` (log entry 1). -/
opaque freeNat (n : Nat) : Nat
/-- True random bits (R412), drawn under the number `n` (log entry 1). -/
opaque trng (n : Nat) : Nat
/-- The keyed 32-bit hash h2 of R182: secret, key, key width (log entry 2). -/
opaque tableHash (secret : Nat) (key width : Nat) : Nat
/-- SHA-384 of a byte string (R54, R413; log entry 2). -/
opaque sha384 (bs : List Byte) : List Byte
/-- SHA-256 and SHA-512 (R413; log entry 2): algorithm code, bytes. -/
opaque hash (alg : Nat) (bs : List Byte) : List Byte
/-- Signature verification (R414, R409; log entry 2): public key, message, signature. -/
opaque verify (key msg sig : List Byte) : Bool
/-- Signature by a key (R414; log entry 2): key material, message, the number of the random draw. -/
opaque sign (key msg : List Byte) (n : Nat) : List Byte
/-- ECDH (R414; log entry 2): private key, peer's public key; none where the peer point is not valid. -/
opaque ecdh (key peer : List Byte) : Option (List Byte)
/-- The public key of a private key (log entry 2). -/
opaque publicKey (key : List Byte) : List Byte
/-- AES-256-GCM protection (R418-R423; log entry 2): key, nonce, associated data, plaintext; ciphertext and tag. -/
opaque gcmSeal (key nonce aad plain : List Byte) : List Byte
/-- AES-256-GCM validation (log entry 2): none where the tag does not fit. -/
opaque gcmOpen (key nonce aad cipher : List Byte) : Option (List Byte)
/-- AES-256-XTS encryption of a block (R335; log entry 2): key, block number, data. -/
opaque xtsEncrypt (key : List Byte) (lba : Nat) (bs : List Byte) : List Byte
/-- AES-256-XTS decryption (log entry 2). -/
opaque xtsDecrypt (key : List Byte) (lba : Nat) (bs : List Byte) : List Byte
/-- The session and plaintext that a secured message in the PF0 mailbox opens to (R54, R60; log entry 2); none: the
buffer holds a message outside a session. -/
opaque openSecured (bs : List Byte) : Option (Nat × List Byte)
/-- The secured message that carries a message of a session after a number of key updates (R54; log entry 2). -/
opaque sealSecured (session updates : Nat) (bs : List Byte) : List Byte
/-- The fuses (R68): HX part. -/
opaque hx : Bool
/-- The fuses (R68): the parts of SERIAL. -/
opaque lotChar (k : Nat) : Nat
opaque wafer : BitVec 8
opaque dieColumn : BitVec 8
opaque dieRow : BitVec 8
opaque serialNumber : BitVec 32
/-- SERIAL (R68): the fab lot as 8 ASCII characters, the wafer, the die's column and row, a zero byte, the sequence number. -/
def serial : List (BitVec 8) :=
  (List.range 8).map (fun k => BitVec.ofNat 8 (lotChar k % 128)) ++ [wafer, dieColumn, dieRow, 0] ++
    (List.range 4).map (fun k => serialNumber.extractLsb' (24 - 8 * k) 8)
/-- The fuses (R68): VENDOR_IANA. -/
opaque vendorIana : BitVec 32

/-- The fuses (R401): SHA-384 of an image public key, of the debug public key; the device secret; the host and device
identifiers of HOST_IDS and HOST_SUBSYS. -/
opaque imgKeyHash (k : Nat) : List Byte
opaque debugKeyHash : List Byte
opaque uds : List Byte
opaque hostIds : Nat
opaque hostSubsys : Nat
/-- The sealed store's encryption key from the UDS and the key register fits (R404): none is needed beyond comparing the
register; the device certificate chains of R417 (log entry 2). -/
opaque certChain (slot lc : Nat) (image : List Byte) : List Byte
/-- The private keys behind the certificate slots of R417: slot 0 the DeviceID key, slot 1 the alias key of a life-cycle state
and image (log entry 2). -/
opaque attestKey (slot lc : Nat) (image : List Byte) : List Byte
/-- REG_MAP as the image gives it (R469). -/
opaque regMap : Nat
/-- The group orders and field primes are those of the standards; the outcome of the point checks of R416: 0 passes
(log entry 2). -/
opaque pointCheck (alg : Nat) (operands : List Byte) : Nat

end Sys2Proof.Config
end

