-- ==== Sys2Proof/Machine/State.lean ====
section
/-! DEFINITION. The state of the LN9192, all of it plain data, and the state right after reset. -/

namespace Sys2Proof.Machine

/-- A table by number: entries with rising numbers, one per number; a number that is not listed has the default its
owner gives (`tget` of Machine/Tab.lean). -/
abbrev Tab (α : Type) := List (Nat × α)

/-- Why the machine stops with a fault. No command of the LN9192 ends so: the spec answers every access to what does
not exist with a status, a halt reason or a discarded access of its own. -/
inductive Fault where
  /-- Raised by nobody in this model; kept because the interface wants a type. Safe. -/
  | absent
deriving DecidableEq, Repr

/-- Why a command is refused. -/
inductive Refusal where
  /-- The command has no meaning yet; raised by Dispatch only. Safe. -/
  | notModelled (mnemonic : String)
  /-- READ, WRITE or DESCRIBE of a vendor test index 0xF000-0xFFFF outside life-cycle state Field, which R44 calls
  "Not described"; raised by the READ, WRITE, DESCRIBE, REGISTER_WRITE and UNIT_ANSWER_TIMEOUT rows. Safe. -/
  | vendorTest (index : Nat)
deriving DecidableEq, Repr

/-- Status codes (R13). -/
inductive Status where
  | ok | busy | range | access | staleHandle | version | notReady | timeout | locked | noResource | halted
deriving DecidableEq, Repr

/-- The answer of the last dictionary request: status, retry_after in milliseconds (R46), response payload. -/
structure Resp where
  status : Status := .ok
  retry : Nat := 0
  payload : List Byte := []
deriving DecidableEq, Repr

/-! ### Errors and events (chapter 19) -/

/-- An error record (R475). -/
structure ErrRec where
  seq : Nat := 0
  unit : Nat := 0
  level : Nat := 0
  origin : Nat := 0
  cause : Nat := 0
  flags : Nat := 0
  resource : Nat := 0
  tenancy : Handle := 0
  sec : Nat := 0
  ns : Nat := 0
  parent : Nat := 0
  detail : Nat := 0
  action : Nat := 0
deriving DecidableEq, Repr

/-- An event record (R476); `seq` is the event sequence of R67. -/
structure EvtRec where
  seq : Nat := 0
  cls : Nat := 0
  level : Nat := 0
  unit : Nat := 0
  resource : Nat := 0
  tenancy : Handle := 0
  sec : Nat := 0
  ns : Nat := 0
  detail : Nat := 0
  name : String := ""
  errSeq : Nat := 0
deriving DecidableEq, Repr

/-- An error that a handler holds: its record and the row of its chapter's table that it follows. -/
structure Pend where
  er : ErrRec
  kind : ErrKind
deriving DecidableEq, Repr

/-- A handler of R470: one active error and a pending queue of 4. -/
structure Handler where
  active : Option Pend := none
  queue : List Pend := []
deriving DecidableEq, Repr

/-- An always-on error record (R478). -/
structure AonErr where
  unit : Nat
  cause : Nat
  level : Nat
  rtc : Nat
deriving DecidableEq, Repr

/-- LEVEL_STATS of one level (R487). -/
structure LevelStat where
  handled : Nat := 0
  nested : Nat := 0
  escalated : Nat := 0
  peak : Nat := 0
deriving DecidableEq, Repr

/-- The state of chapter 19. -/
structure ErrState where
  handlers : Tab Handler := []          -- key level * 2^32 + unit (R470)
  errSeq : Nat := 1                     -- next error sequence (R475)
  evtSeq : Nat := 0                     -- next event sequence (R67)
  events : List EvtRec := []            -- newest first, at most 1,024 (R477)
  errors : List ErrRec := []            -- newest first, at most 512 (R477)
  chipErrors : List ErrRec := []        -- newest first, at most 16, kept in flash (R477)
  aonErrors : List AonErr := []         -- newest first, at most 4 (R478)
  failStop : Bool := false              -- R479
  vaultCause : Bool := false            -- the vault itself caused fail-stop (R479)
  firstWord : Nat := 0                  -- first word of the chip record (R479, R396)
  resetCause : Nat := 1                 -- R481
  stats : Tab LevelStat := []           -- R487
  laneTest : Option Nat := none         -- lane under test (R484)
  laneStart : Nat := 0                  -- nanoseconds of the tick base at its start (R504)
  portTest : Option Nat := none         -- Saddle port under test (R485)
  portStart : Nat := 0                  -- nanoseconds of the tick base at its start (R504)
  testFails : List Nat := []            -- units under test in which an error was recorded (R483)
deriving DecidableEq, Repr

/-! ### Idien (chapter 2) -/

/-- A response message (R46): the request's header fields that are echoed, and the answer. -/
structure RespMsg where
  opcode : U8 := 0
  verMajor : U8 := 0
  verMinor : U8 := 0
  sequence : U16 := 0
  handle : Handle := 0
  index : U16 := 0
  subindex : U8 := 0
  count : U8 := 0
  resp : Resp := {}
deriving DecidableEq, Repr

/-- A session (R53, R56) with its per-session objects (R69, R487, R248). -/
structure Session where
  role : Role
  bound : Handle                        -- the bound tenancy of a T session (R53)
  transport : Transport
  major : Nat := 0                      -- negotiated version, 0 none yet (R52)
  minor : Nat := 0
  eventMask : Nat := 0                  -- EVENT_MASK
  evtCursor : Nat := 0                  -- EVENT_CURSOR (device's 16-bit event sequence)
  errCursor : Nat := 0                  -- ERROR_CURSOR
  logLost : Nat := 0                    -- LOG_LOST
  replQuery : Tab (List Byte) := []     -- REPL_QUERY answer by Vale (R241)
  cached : Option (U16 × RespMsg) := none  -- the cached response (R50)
  keyGen : Nat := 0                     -- KEY_UPDATEs done (R54)
  events : List (List Byte) := []       -- EVENT messages sent (R46, R67), newest first, the last 16
deriving DecidableEq, Repr

/-- An SPDM connection before a session stands (R54). -/
structure Conn where
  version : Bool := false
  capabilities : Bool := false
  algorithms : Bool := false
  pending : Option (Role × Handle × Transport) := none   -- after KEY_EXCHANGE, before FINISH
  answer : List Byte := []              -- the last SPDM response's content
  refused : Status := .ok               -- the status of the last refusal
deriving DecidableEq, Repr

/-- A queued request (R63). -/
structure Req where
  src : ReqSource
  msg : IdienMsg
deriving DecidableEq, Repr

/-- The PF0 mailbox (R60). -/
structure Pf0Mb where
  go : Bool := false
  done : Bool := false
  overrun : Bool := false
  reqLen : Nat := 0
  respLen : U32 := 0
  intrEn : U32 := 0
  reqBuf : Tab Byte := []               -- offsets 0..1279, unlisted 0
  respBuf : List Byte := []
  held : List (List Byte) := []         -- responses that Glen holds while DONE is 1 (R61)
deriving DecidableEq, Repr

/-- The state of chapter 2. -/
structure Idien where
  sessions : Tab Session := []
  conns : Tab Conn := []
  nextSession : Nat := 1
  qO : List Req := []
  qH : List Req := []
  qT : List Req := []
  qV : List Req := []
  qU : List Req := []
  left : Tab Nat := []                  -- weighted round robin: services left in this round, by queue (R63)
  served : Nat := 0                     -- requests served since Glen started, saturating at 64 (R63)
  pf0 : Pf0Mb := {}
  last : Option RespMsg := none         -- the last response sent
  eid : U8 := 0                         -- MCTP endpoint ID (R59)
  learnTokens : Tab Nat := []           -- by Vale, in parts of `token`, default full (R66)
  telemTokens : Tab Nat := []
  vdmAnswer : List Byte := []           -- answer to Get Vendor Defined Message Support (R59)
  spdm : List Byte := []                -- the last SPDM response inside a session (R54)
  secured : Nat := 0                    -- datagrams accepted as secured messages (R58)
deriving DecidableEq, Repr

/-! ### Dictionary storage -/

/-- Values of the dictionary (R40, R43). A key is index * 256 + subindex; a tenancy-relative object's key adds
(tenancy index + 1) * 2^24. A value that is not listed is the object's default. -/
structure Dict where
  nums : Tab Nat := []                  -- active values: numbers, handles and fixed RECORDs (big-endian)
  octs : Tab (List Byte) := []          -- OCTETS and STRING values
  staged : Tab Nat := []                -- staging copies of epoch N+1 (R35)
  flashNums : Tab Nat := []             -- the dictionary store in flash (R43)
  flashOcts : Tab (List Byte) := []
  pending : List Nat := []              -- keys written but not yet committed, oldest first (PERSIST_PENDING)
  gens : Tab Nat := []                  -- generation by kind * 65536 + index, default 1 (R17)
  fresh : Tab Nat := []                 -- by kind: the lowest index never issued (R18)
  freed : Tab (List Nat) := []          -- by kind: freed indices, longest free first (R18)
  owners : Tab Handle := []             -- owner of every live object, by kind * 65536 + index (R19, R23)
  usage : Tab Nat := []                 -- TEN_USAGE by tenancy * 256 + kind (R23)
deriving DecidableEq, Repr

/-! ### Tenancies and epochs (chapters 1 and 14) -/

/-- States of R30 other than Free. -/
inductive TenState where
  | active | halted | destroying
deriving DecidableEq, Repr

/-- A tenancy that is not Free (R20, R30). -/
structure Tenancy where
  st : TenState := .active
  mode : Nat := 1
  dyn : Bool := false
  shareEast : Nat := 0
  shareWest : Nat := 0
  handle : Handle := 0                  -- the handle it was created with
  step : Nat := 0                       -- teardown step in progress (R32), 0 none
  resetting : Bool := false             -- a tenancy reset runs (R30)
  errQ : List ErrRec := []              -- error queue of R25, oldest first, at most 4
  halt : Option ErrRec := none          -- halt entry (R353)
  held : List (Nat × Nat) := []         -- ended objects whose indices wait for the last teardown step: kind, index (R32)
deriving DecidableEq, Repr

/-- A dirty-page range (R360). -/
structure DplRange where
  base : Nat
  pages : Nat
  bitmap : Nat
deriving DecidableEq, Repr

/-- Dirty-page log and migration hold of one tenancy index (R360-R366). -/
structure Mig where
  on : Bool := false
  incomplete : Bool := false
  uncovered : Nat := 0
  marked : Nat := 0
  ranges : Tab DplRange := []
  hold : Nat := 0                       -- MIG_HOLD_STATE
deriving DecidableEq, Repr

/-- A tenancy mailbox (R370). -/
structure Mailbox where
  operOffer : U32 := 0
  tenOffer : U32 := 0
  sel : U32 := 0
  txProd : U16 := 0
  txCons : U16 := 0
  rxProd : U16 := 0
  rxCons : U16 := 0
  intEn : Bool := false
  vector : Nat := 0
  peerResetTen : Bool := false          -- PEER_RESET of the tenant view
  peerResetOper : Bool := false         -- PEER_RESET of the operator view
  violations : Nat := 0
  txSlots : Tab Byte := []              -- 1,024 bytes, unlisted 0
  rxSlots : Tab Byte := []
  resetting : Bool := false             -- a reset runs (R374)
deriving DecidableEq, Repr

/-- Epoch states (R37), coded as EPOCH_STATE. -/
inductive EpochSt where
  | idle | staging | committing | retiring
deriving DecidableEq, Repr

/-- The epoch control (R36, R37). -/
structure Epoch where
  st : EpochSt := .idle
  active : Nat := 0
  ready : List EpochUnit := []
  lastResult : Status := .ok
  abortDrops : Nat := 0
  notReady : Nat := 0
  switched : List Nat := []             -- port nodes switched to N+1: Vale * 16 + node (R225)
  start : Nat := 0                      -- nanoseconds of the tick base at the start of the commit or of the retirement (R504)
deriving DecidableEq, Repr

/-! ### Packet path (chapter 3) -/

/-- An edit of the edit list (R168). -/
structure Edit where
  op : Nat
  off : Nat
  param : Nat
  arg : BitVec 32
deriving DecidableEq, Repr

/-- Where a packet is (R84). -/
inductive Loc where
  | mac                   -- a MACsec frame that the MAC holds until it is validated (R420)
  | basin                 -- waiting for distribution
  | thread                -- held by a Col family
  | relbuf                -- in the release buffer (R111)
  | stage (k : Nat)       -- at match stage k
  | extWait (k : Nat)     -- stage k waits for an HBM extension bucket (R184)
  | exited                -- left the match stages, before the policer
  | policed               -- before the replication engine's input queue
  | repl                  -- in the replication engine's input queue
  | crossWait             -- before the crossing FIFO
  | crossing              -- in the crossing FIFO toward the other Vale
  | atEnqueue             -- before enqueue
  | queued (q : Nat)      -- in a traffic-manager queue, cells in Basin
  | flood (q : Nat)       -- in a traffic-manager queue, in the Floodplain
  | spilling (q : Nat)    -- being written to the Floodplain
  | toHost (ctx : Nat)    -- dequeued toward a receive queue
  | toSaddle (r : Nat)    -- dequeued toward a Saddle region
  | punt                  -- before the punt ring
deriving DecidableEq, Repr

/-- A packet in a Vale: the record of R81, the frame in Basin, the edit list, and what travels beside them. -/
structure Packet where
  srcClass : Nat := 0
  srcIndex : Nat := 0
  bytes : List Byte := []               -- frame bytes in Basin
  tail : Bool := true                   -- the tail is in Basin
  bad : Bool := false                   -- FCS or MAC check failed (R80)
  discarded : Bool := false             -- tail timeout (R80)
  cells : Nat := 0                      -- Basin cells held
  token : Option Nat := none            -- Narrows token (R110)
  words : Tab Word36 := []              -- record words 0-63, unlisted 0
  preset : Handle := 0                  -- TENANCY as preset (R83)
  epoch : Nat := 0                      -- EPOCH stamp
  pool : Option Pool := none            -- the pool it is charged to (R27)
  loc : Loc := .basin
  edits : List Edit := []               -- in request order (R168)
  lookPart : Handle := 0                -- the partition of a lookup that waits for the extension (R163)
  puntCode : Nat := 0
  puntStage : Nat := 0xFF
  mirror : Bool := false                -- a mirror copy (R172)
  floodAddr : Nat := 0                  -- first 256-byte cell in the Floodplain area
  recirc : Nat := 0                     -- RECIRC_COUNT
  stamp : Nat := 0                      -- order of its last move between units
  template : Nat := 0xFFFF              -- a replication member's template (R242)
  group : Handle := 0                   -- the replication group it is a copy of
  share : Option Nat := none            -- copies that share Basin cells (R242)
  out : List Byte := []                 -- the frame after its edits, fixed at enqueue (R216)
  ttl : Bool := false                   -- a decrement has met a TTL or hop limit of 0 or 1 (R169)
  flen : Nat := 0                       -- frame bytes F, fixed at enqueue (R216)
  enqNs : Nat := 0                      -- device time at enqueue
deriving DecidableEq, Repr

/-- A frame on the wire: the port node, the packet number, and the bytes with the FCS that the MAC appended (R74). -/
structure TxFrame where
  port : Nat
  pkt : Nat
  bytes : List Byte
deriving DecidableEq, Repr

/-- The intake, Basin and Narrows of a Vale. -/
structure Path where
  packets : Tab Packet := []
  nextPkt : Nat := 0
  basinFree : Nat := 196608
  arrival : List Nat := []              -- packets without a thread, oldest first
  narrows : List Nat := []              -- packets that hold a token, in token order (R110)
  tokFresh : Nat := 0                   -- lowest token never used
  tokFree : List Nat := []              -- returned tokens, longest free first
  noToken : List Nat := []              -- packets waiting for a token, oldest first
  linkUp : BitVec 8 := 0                -- LINK_UP
  outOfService : Bool := false          -- R89
  stopped : Bool := false               -- intake stopped by an error action
  nwPps : Int := 0                      -- non-wire frame credit, thousandths of a frame (R76)
  nwBytes : Int := 0                    -- non-wire byte credit (R76)
  recircGrant : Bool := false           -- the intake has granted a recirculation start (R76, R215)
  hostGrant : Bool := false             -- the intake has granted a host start (R76, R324)
  nwLeft : Tab Nat := []                -- weighted round robin: starts left in this round, by class 0-3
  crossBytes : Nat := 0                 -- bytes in the crossing FIFO (R71)
  crossPeak : Nat := 0                  -- CROSS_FIFO_PEAK
  relPeak : Nat := 0                    -- RELBUF_PEAK
  nextStamp : Nat := 0                  -- stamp of the next move between units
  shares : Tab (Nat × Nat) := []        -- by share: copies left, cells
  nextShare : Nat := 0
  txFrames : List TxFrame := []         -- frames the network ports emitted, newest first (R85), the last 8
  staleDrops : Tab Nat := []            -- by tenancy index: packets dropped for a stale generation (R33)
  corrected : Nat := 0                  -- single-bit errors corrected in Basin cells (R89)
deriving DecidableEq, Repr

/-! ### Col cores (chapters 4 and 5) -/

/-- A program image (R149), checked. -/
structure Image where
  progId : Nat := 0
  code : Tab Word36 := []
  codeWords : Nat := 0
  dmem : Tab Word36 := []
  packetEntry : Nat := 0
  supEntry : Nat := 0
  oddClear : Nat := 0
  vectors : List Nat := []
  tmrPeriod : List Nat := []
  tmrCtrl : List Nat := []
  edCtrl : List Nat := []
  digest : List Byte := []              -- SHA-384 of the image, measured by the vault (R417)
deriving DecidableEq, Repr

/-- Thread states (R101); `waiting` is the supervisor thread's Waiting (R118). -/
inductive ThSt where
  | free | running | waitHeader | waitTable | waitJoin (rel : Bool) | releasing | waiting
deriving DecidableEq, Repr

/-- A store-buffer entry (R144): a record word (whole) or `count` nonets from nonet `first` of a data-memory word;
`val` holds the nonets at their places in the word. -/
structure StoreEnt where
  toRec : Bool
  addr : Nat
  first : Nat := 0
  count : Nat := 4
  val : Word36
deriving DecidableEq, Repr

/-- What a thread in Wait-header or Wait-table waits for. -/
structure WaitFor where
  addr : Nat := 0
  n : Nat := 0
  raw : Bool := false
  a : BitVec 4 := 0
  part : Nat := 0
  key : Nat := 0
  since : Nat := 0
deriving DecidableEq, Repr

/-- A thread of a Col core (R93, R132). -/
structure Thread where
  st : ThSt := .free
  pc : Nat := 0
  regs : Vector Word36 16 := Vector.replicate 16 0
  z : Bool := false
  n : Bool := false
  c : Bool := false
  v : Bool := false
  m : Bool := false
  e : Bool := false
  pkt : Option Nat := none
  parent : Option Nat := none
  grant : Option (Nat × Nat) := none    -- first record word, count (R104)
  sb : List StoreEnt := []              -- store buffer, oldest first (R144)
  bank : Bool := false
  wait : WaitFor := {}
  drop : Bool := false                  -- RELEASE with D[0] = 1
  off : Bool := false                   -- out of use (R127)
  parity : Option Nat := none           -- nanoseconds of the tick base of the last parity error (R127)
deriving DecidableEq, Repr

/-- A timer (R120, R148). -/
structure Timer where
  period : Nat := 0
  en : Bool := false
  periodic : Bool := false
  slot : Nat := 0
  ovr : Nat := 0
  due : Nat := 0                        -- the tick of its next expiry (R120, R230)
deriving DecidableEq, Repr

/-- An edge detector (R121, R148). -/
structure EdgeDet where
  en : Bool := false
  edge : Nat := 0
  line : Nat := 0
  slot : Nat := 0
  ovr : Nat := 0
  seen : Bool := false                  -- the level of its line that it saw last
deriving DecidableEq, Repr

/-- A queued STIM (R146). -/
structure StimEnt where
  bank : Bool
  addr : Nat
  val : Word36
deriving DecidableEq, Repr

/-- States of a physical core (R124). -/
inductive CoreSt where
  | active | spare | testing | retired
deriving DecidableEq, Repr

/-- A Col core (R92). -/
structure Core where
  st : CoreSt := .active
  slot : Option Nat := none             -- logical slot of the distribution ring
  bank0 : Option Image := none
  bank1 : Option Image := none
  cur : Bool := false                   -- the active bank
  supBank : Bool := false               -- the supervisor's current bank
  dmem : Tab Word36 := []
  threads : Tab Thread := []
  timers : Tab Timer := []
  eds : Tab EdgeDet := []
  latchTmr : BitVec 4 := 0
  latchEd : BitVec 8 := 0
  notes : List (List Word36) := []      -- notification queue, oldest first, at most 16
  stimQ : List StimEnt := []            -- oldest first, at most 8
  secLatch : Option Nat := none         -- TIME_SEC latched by a read of TIME_NS (R148)
  substFor : Option Nat := none         -- the logical slot it will fill (R125)
  draining : Bool := false              -- leaves the ring for a test (R126)
deriving DecidableEq, Repr

/-- The Col cores of a Vale. -/
structure ColState where
  cores : Tab Core := []
  held : Bool := true                   -- held in reset (R151, R436)
  ring : Nat := 95                      -- the slot last given a packet (R113)
  distLeft : Tab Nat := []              -- by dynamic tenancy: threads left to it in this round (R28)
  staged : Option Image := none         -- the staged image (R152)
  active : Option Image := none         -- the image of the active epoch
  loading : Bool := false
  testSt : Nat := 0                     -- COL_TEST_STATE
  testCore : Nat := 0                   -- the core that drains or is under test
  testNamed : Nat := 0                  -- COL_TEST_CORE
  testStart : Nat := 0                  -- nanoseconds of the tick base at its start (R504)
  loadStart : Nat := 0                  -- nanoseconds of the tick base at which the load began (R504)
  testResult : Status := .ok
  testQueue : List Nat := []            -- cores queued for test (R127)
  queueLines : List Nat := []           -- queue-threshold lines that were high when last sampled (R122)
  progState : Nat := 0                  -- COL_PROG_STATE
  progReject : Nat := 0                 -- COL_PROG_REJECT
deriving DecidableEq, Repr

/-! ### Match stages and tables (chapters 6 and 7) -/

/-- The match stages of a Vale beyond their dictionary objects. -/
structure StageState where
  order : List Nat := []                -- packets inside the stages, oldest first
  bad : List Nat := []                  -- entries marked bad: stage * 1024 + entry, 12288 + template (R176)
  puntTokens : Tab Nat := []            -- by tenancy index, 256 the operator; in parts of `token`, default full (R173)
deriving DecidableEq, Repr

/-- A table entry (R178, R185). -/
structure Entry where
  key : Nat := 0
  mask : Nat := 0                       -- ternary
  high : Nat := 0                       -- range
  order : Nat := 0                      -- prefix length or priority
  index : Nat := 0
  result : BitVec 64 := 0
  ts : Nat := 0
  static : Bool := false
  slot : Nat := 0xFF                    -- learn slot
  lock : Option Nat := none
deriving DecidableEq, Repr

/-- A partition (R179). -/
structure Partition where
  memory : Nat
  kind : Nat
  flags : Nat
  learnWord : Nat := 0
  keyWidth : Nat
  learnAction : Nat := 0
  owner : Handle
  capacity : Nat
  extCapacity : Nat := 0
  ageLimit : Nat := 0
  seed : BitVec 32
  secret : BitVec 128
  units : List Nat                      -- allocation units, in partition order
  slots : Tab Entry := []               -- by position; extension positions follow the on-die ones
  moves : Nat := 0
  extLookups : Nat := 0
  cacheHits : Nat := 0
  extUnits : List Nat := []
deriving DecidableEq, Repr

/-- A lock (R193). -/
structure Lock where
  part : Nat                            -- partition index
  pos : Nat                             -- the entry's position, carried along by moves
  ticket : Nat
  staged : Option (BitVec 64 × Bool) := none
  since : Nat := 0
deriving DecidableEq, Repr

/-- A table command ring (R187). -/
structure TcRing where
  cmdLo : U32 := 0
  cmdHi : U32 := 0
  cplLo : U32 := 0
  cplHi : U32 := 0
  en : Bool := false
  space : Bool := false
  intEn : Bool := false
  log2 : Nat := 0
  vector : Nat := 0
  tail : Nat := 0
  head : Nat := 0
  halted : Bool := false
  reason : Nat := 0
  phase : Bool := false
deriving DecidableEq, Repr

/-- A queued learn request (R195). -/
structure LearnReq where
  part : Nat
  handle : Handle
  key : Nat
  value : BitVec 32
  slot : Nat
deriving DecidableEq, Repr

/-- The table memories of a Vale. -/
structure TableState where
  parts : Tab Partition := []
  locks : Tab Lock := []
  lockSeq : Tab Nat := []               -- by lock number: the last sequence number
  expired : List (Nat × Nat × Nat) := []  -- expired tickets with the partition and the entry's identity (R194)
  rings : Tab TcRing := []
  learnQ : List LearnReq := []          -- at most 4,096
  learnLog : List (List Byte) := []     -- oldest first, at most 16,384
  now : Nat := 0                        -- AGE_NOW
  retired : List (Nat × Nat) := []      -- dead logical banks: memory code, bank (R202)
  spares : Tab Nat := []                -- spare banks used, by memory code
  rowsUsed : Tab Nat := []              -- spare rows used, by memory * 256 + bank
  rowSbe : Tab (List Nat) := []         -- by memory * 2^24 + row: when its last single-bit errors came (R203)
  spareRows : Tab (List Nat) := []      -- by memory code: spare rows used in banks that became spares (R201)
  testRows : Nat := 0                   -- spare rows used in the bank under test
  ageDue : Nat := 125000000             -- the tick of the next AGE_TICK (R199, R230)
  testSt : Nat := 0                     -- TABLE_TEST_STATE
  testStart : Nat := 0                  -- nanoseconds of the tick base at its start (R504)
  testBank : Nat := 0                   -- memory code * 256 + bank
  testResult : Status := .ok
  extCache : Tab (List Nat) := []       -- by set of 8 ways: cached extension buckets, most recently used first (R184)
  stopped : Bool := false
  replacing : List Nat := []            -- banks replaced because of errors (R203)
deriving DecidableEq, Repr

/-- A logical bank number keyed with its memory code. -/
abbrev bankKey (mem bank : Nat) : Nat := mem * 256 + bank
/-! ### Traffic manager, policers, gates, replication, telemetry (chapters 8 and 9) -/

/-- A traffic-manager queue beyond its QUEUE_CONF record (R222, R228): its packets in order, in Basin and spilled. -/
structure TmQueue where
  basin : List Nat := []                -- packets in Basin, oldest first
  flood : List Nat := []                -- packets of the Floodplain part, oldest first
  spilling : Bool := false
  sent : Nat := 0                       -- bytes dequeued
  dropped : Nat := 0                    -- packets dropped
  high : Nat := 0                       -- highest sojourn since the last sample, nanoseconds
deriving DecidableEq, Repr

/-- A visit that a node makes to a child (R213). -/
structure Visit where
  child : Nat := 0                      -- the child's index; the ring goes on after it
  now : Bool := false                   -- the visit goes on
  sent : Nat := 0                       -- frame bytes sent in it
deriving DecidableEq, Repr

/-- A shaper (R217-R220): the record in force, its tokens in 1/65,536 byte, and a load at the next tick. -/
structure Shaper where
  act : Nat := 0
  tokens : Int := 0
  load : Bool := false
deriving DecidableEq, Repr

/-- A policer (R231, R232): the record in force, its counts in 1/65,536 byte (te or tp second), a load at the next tick. -/
structure Policer where
  act : Nat := 0
  tc : Nat := 0
  te : Nat := 0
  load : Bool := false
deriving DecidableEq, Repr

/-- A gate list (R235): base time in nanoseconds, intervals and masks. -/
structure GateList where
  enable : Bool := false
  base : Nat := 0
  overhead : Int := 20
  entries : List (Nat × Nat) := []
deriving DecidableEq, Repr

/-- The gates of a port node: the list in force, the entry that governs, and the list that waits for its change time. -/
structure Gate where
  act : GateList := {}
  pos : Nat := 0
  next : Option (Nat × GateList) := none
deriving DecidableEq, Repr

/-- A replication group (R241). -/
structure ReplGroup where
  active : List Nat := []               -- 8-byte members
  pend : Tab Nat := []
  copies : Nat := 0
  drops : Nat := 0
  bad : List Nat := []                  -- members marked bad (R247)
deriving DecidableEq, Repr

/-- The telemetry ring (R245). -/
structure TelemRing where
  baseLo : U32 := 0
  baseHi : U32 := 0
  en : Bool := false
  space : Bool := false
  intEn : Bool := false
  log2 : Nat := 0
  vector : Nat := 0
  prod : Nat := 0
  cons : Nat := 0
  drops : Nat := 0
  phase : Bool := false
deriving DecidableEq, Repr

/-- The traffic manager of a Vale. -/
structure TmState where
  queues : Tab TmQueue := []
  deficits : Tab Int := []              -- by element identifier (R206)
  visits : Tab Visit := []              -- by the node's element identifier
  shapers : Tab Shaper := []
  polices : Tab Policer := []
  gates : Tab Gate := []                -- by port node
  groups : Tab ReplGroup := []
  ring : TelemRing := {}
  watchAt : Tab Nat := []               -- by watch entry: tick of its last sample point
  log : List (List Byte) := []          -- TELEM_LOG, newest first, at most 32
  floodNext : Nat := 0                  -- next cell of the Floodplain area to be used (log entry 27)
  stopped : Bool := false
deriving DecidableEq, Repr

/-! ### Saddle ports (chapter 10) -/

/-- Slot states, coded as SLOT_STATE (R257). -/
inductive SlotSt where
  | off | empty | verifying | configuring | linking | negotiating | ready | failed
deriving DecidableEq, Repr

/-- Where the configuration channel is (R258). -/
inductive CfgStep where
  | none | clearing | shifting
deriving DecidableEq, Repr

/-- A Saddle slot (R249-R263), its pins among its fields. -/
structure Slot where
  st : SlotSt := .off
  result : Status := .ok                -- SLOT_RESULT
  powering : Bool := false              -- SLOT_PGOOD is awaited
  pwrEn : Bool := false                 -- SLOT_PWR_EN
  clampN : Bool := false                -- SLOT_CLAMP_N
  progN : Bool := false                 -- CFG_PROG_N
  progAt : Option Nat := none           -- nanoseconds of the tick base at which CFG_PROG_N went low to clear the FPGA (R258)
  present : Bool := false               -- SLOT_PRSNT_N low, as last seen
  cfgStart : Nat := 0                   -- nanoseconds of the tick base at which the first byte was shifted (R258)
  owner : Handle := 0                   -- owner of the load
  manAddr : Nat := 0
  bitAddr : Nat := 0
  manifest : List Byte := []            -- the manifest as verified
  cfg : CfgStep := .none
  shifted : List Byte := []             -- SHA-384 of the bytes shifted out (R259)
  shell : List ShellRegion := []        -- region blocks as enumerated
  version : Nat := 0                    -- SHELL_VERSION
  sel : Nat := 0                        -- shell register 0x008: SEL_VALID, SEL_MAJOR, SEL_MINOR (R260)
  relink : Bool := false                -- Linking and Negotiating are repeated after a port reset (R276)
deriving DecidableEq, Repr

/-- What a Saddle port answered to a request from attached logic (R266-R269). -/
inductive SgCpl where
  | data (bs : List Byte)
  | poisoned
  | unsupported
deriving DecidableEq, Repr

/-- A request that waits for its page entry (R268). -/
structure SgWait where
  region : Nat
  req : SgReq
deriving DecidableEq, Repr

/-- A Saddle port. -/
structure SPort where
  link : Bool := false
  speed : Nat := 0
  width : Nat := 0
  pstate : Nat := 0                     -- 0 L0, 1 L1, 2 L1.2
  clkreqN : Bool := false               -- SLOT_CLKREQ_N released
  perstN : Bool := false                -- SLOT_PERST_N
  resets : Nat := 0
  recent : List Nat := []               -- nanoseconds of the tick base of the last port resets
  corrected : Nat := 0
  cache : Tab (List (Nat × Nat)) := []  -- by set of 8 ways: page-entry address and value, most recent first
  waits : List SgWait := []
  cpls : List SgCpl := []               -- completions returned, newest first, the last 8
  mmio : List (Nat × List Byte) := []   -- host writes sent to the attached device, newest first, the last 8: BAR2 offset, bytes (R289)
  aerUnc : BitVec 32 := 0               -- AER status of the root port (R251)
  aerCor : BitVec 32 := 0
deriving DecidableEq, Repr

/-- Region states (R265). -/
inductive RegSt where
  | open_ | isolated | recovering
deriving DecidableEq, Repr

/-- Why a region is being isolated (R274). -/
inductive IsoWhy where
  | destroy | reset | tenReset | halt | teardown
deriving DecidableEq, Repr

/-- A bound Saddle region (R264), with the control bits its shell block was written. -/
structure SRegion where
  conf : Nat                            -- the 24-byte REGION_CREATE record
  st : RegSt := .isolated
  iso : Option IsoWhy := none           -- ISO_ACK is awaited
  opening : Bool := true                -- the release sequence waits for ISO_ACK to fall (R273)
  resetting : Bool := false             -- RESET_DONE is awaited (R275)
  byWrite : Bool := false               -- a REGION_RESET write waits for its answer
  byReq : Option Req := none            -- the Idien request that carried it
  isoReq : Bool := true
  enable : Bool := false
  rgReset : Bool := false
  faults : Nat := 0
  first : Nat := 0                      -- first-fault part of REGION_FAULT: code, type, reserved, PASID, address
  recent : List Nat := []               -- nanoseconds of the tick base of the faults of the last millisecond
  evtNs : Option Nat := none            -- last SADDLE_XLATE_FAULT
  tokens : Int := 0
  load : Bool := true                   -- tokens are set at the next tick
  queue : List SgReq := []              -- the gate queue, oldest first, at most 64
  rxProd : Nat := 0
  rxCons : Nat := 0
  credit : Nat := 0                     -- TX_CREDIT
  taken : Nat := 0                      -- aperture packets taken
  apLen : Nat := 0                      -- length of the packet being written, 0 none
  apOff : Nat := 0                      -- next offset expected in its slot
  apBuf : List Byte := []               -- its frame bytes before intake is granted
  apPkt : Option (Nat) := none          -- its packet number once intake has started it
  apWait : List (List Byte) := []       -- whole packets in the aperture that intake has not yet taken, oldest first (R273)
  rx : List (Nat × List Byte) := []     -- receive slots written, newest first, the last 8: offset in BAR2 of FUNC, bytes
deriving DecidableEq, Repr

/-- A window or SG_INVALIDATE write that waits for the host writes already translated (R267, R268), with the
Idien request it answers. -/
structure GateWait where
  wins : List Nat
  req : Option Req
deriving DecidableEq, Repr

/-- The Saddle ports of the chip. -/
structure Saddle where
  slots : Tab Slot := []
  ports : Tab SPort := []
  regions : Tab SRegion := []
  badWindows : List Nat := []           -- windows treated as invalid: key of the record (R278)
  gateWaits : List GateWait := []       -- writes held until translated host writes complete
deriving DecidableEq, Repr

/-! ### Host interface (chapter 11) -/

/-- An MSI-X table entry (R292). -/
structure MsixEntry where
  lo : U32 := 0
  hi : U32 := 0
  data : U32 := 0
  ctrl : U32 := 1
deriving DecidableEq, Repr

/-- A function (R284-R299): 0-3 the physical ones, 4 + g the virtual ones. -/
structure HostFn where
  busMaster : Bool := false
  d3hot : Bool := false
  msixEn : Bool := false
  fmask : Bool := false
  intxDis : Bool := false
  relaxed : Bool := true                -- Enable Relaxed Ordering
  mps : Nat := 0                        -- Max_Payload_Size as coded, 128 bytes times 2^n (R280; log entry 33)
  mrrs : Nat := 2                       -- Max_Read_Request_Size as coded
  tag10 : Bool := false                 -- 10-Bit Tag Requester Enable
  cplRange : Nat := 0                   -- Completion Timeout Value
  vfEnable : Bool := false              -- physical functions
  numVfs : Nat := 0
  flr : Nat := 0                        -- step of R296 in progress, 0 none
  releasing : Bool := false             -- VF_RELEASE waits for the end of the reset (R286)
  silenced : Bool := false
  reason : Nat := 0                     -- HALT_REASON; not 0: HALTED
  pend : List Nat := []                 -- pending vectors, oldest first
  msix : Tab MsixEntry := []
  level : Bool := false                 -- emulated INTx level (R293)
  cor : Nat := 0                        -- AER correctable status
  unc : Nat := 0                        -- AER uncorrectable status
  first : Nat := 0                      -- First Error Pointer
  hdr : Nat := 0                        -- Header Log
  tlpPrefix : Nat := 0                  -- TLP Prefix Log
  corMask : Nat := 0xE000               -- AER masks and severity (log entry 33)
  uncMask : Nat := 0x400000
  sev : Nat := 0x462030
  errEn : Nat := 0                      -- Device Control enables: bit 0 correctable, 1 non-fatal, 2 fatal
deriving DecidableEq, Repr

/-- A request of a function that waits for the host-link arbiters (R300): a write with its data, or the read of a
queue entry. -/
structure HReq where
  fn : Nat
  dir : LinkDir
  addr : Nat
  len : Nat
  data : List Byte := []
  log : Bool := true                    -- the page is recorded while the owner's log is on (R362)
  win : Nat := 0                        -- the key of the window record it was translated under, 0 none (R267)
  granted : Bool := false               -- a granted read, whose data have not come back
  relaxed : Bool := false               -- carries the relaxed-ordering attribute (R282)
  holds : List Nat := []                -- vectors raised after this write, whose messages it precedes (R282)
deriving DecidableEq, Repr

/-- A message on the host link outside the arbiters (R301). -/
inductive HMsg where
  | msix (fn addr data : Nat)
  | intx (pf : Nat) (assert : Bool)
  | err (fn : Nat) (severity : Nat)     -- 0 correctable, 1 non-fatal, 2 fatal
deriving DecidableEq, Repr

/-- The host region. -/
structure HostSt where
  perstN : Bool := false                -- PCIE_PERST_N high
  configured : Bool := false            -- the stored configuration is loaded (R283)
  link : Nat := 0                       -- 0 down, 1 L0, 2 L1
  rate : Nat := 0
  width : Nat := 0
  downs : Nat := 0
  corrected : Nat := 0
  split : Nat := 0x020001000100         -- VF_SPLIT in force
  pfMsix : Nat := 0x0040080008000100    -- PF_MSIX in force
  vfMsix : Nat := 0x004000400010        -- VF_MSIX in force
  bar2 : Nat := 0x1E1E1E2218141A        -- BAR2_LOG2 in force
  fns : Tab HostFn := []
  reqs : List HReq := []                -- oldest first
  msgs : List HMsg := []                -- newest first, the last 16
  bar : Option (List Byte) := none      -- data of the last completed BAR read
  badWin : List Nat := []               -- window entries treated as invalid (R303)
  arbDef : Tab Int := []                -- deficits by direction * 1024 + client
  arbCur : Tab (Nat × Bool) := []       -- by direction: the client visited, and whether its visit goes on
  arbFn : Tab Nat := []                 -- by direction * 1024 + client: the function served last
  tokens : Tab Int := []                -- by direction * 1024 + tenancy
  loads : List Nat := []                -- tenancies whose tokens are set full at the next tick
  oldWeights : Tab Nat := []            -- by tenancy: the HOST_WEIGHT in force until the next tick (R304)
deriving DecidableEq, Repr

/-! ### Queue engine (chapter 12) -/

/-- Queue states (R312), coded as QUEUE_INFO. -/
inductive QSt where
  | free | running | idle | halted
deriving DecidableEq, Repr

/-- A started descriptor. -/
structure Started where
  pos : Nat
  desc : List Byte
  segs : List (Nat × Nat) := []         -- host address and length
  data : List Byte := []                -- the frame of a transmit descriptor
  pkt : Option (Nat) := none            -- the packet of a transmit descriptor
  lost : Bool := false                  -- its state is lost; it ends with ERROR (R328)
deriving DecidableEq, Repr

/-- A queue context of types 1-3 (R305-R312). -/
structure QCtx where
  type : Nat
  fn : Nat
  lq : Nat
  vale : Nat := 0
  logRing : Nat
  logCpl : Nat
  major : Nat
  minor : Nat
  ring : Nat
  cpl : Nat
  vector : Nat
  coalCount : Nat
  coalUsec : Nat
  weight : Nat
  burst : Nat
  st : QSt := .running
  door : Nat := 0                       -- last accepted doorbell
  fetched : Nat := 0
  oldest : Nat := 0                     -- oldest position held
  cleared : List Nat := []              -- positions beyond it whose OWN is cleared
  written : Nat := 0                    -- completions written
  consumed : Nat := 0
  phase : Bool := true
  cache : List (Nat × List Byte) := []  -- fetched descriptors not yet started, in position order, at most 8
  started : List Started := []
  startPos : Nat := 0                   -- next position to start
  ringRead : Option (Nat × Nat) := none -- the ring read under way: first position and count (R315)
  unsig : Nat := 0                      -- completions since the last raise
deriving DecidableEq, Repr

/-- The queue-engine block of a function (R307). -/
structure QeBlk where
  go : Bool := false
  done : Bool := false
  opcode : Nat := 0
  status : Nat := 0
  handle : Handle := 0
  selMajor : Nat := 0
  selMinor : Nat := 0
  lq : Nat := 0
  cmd : Tab Byte := []                  -- CMD_BUF, unlisted 0
  result : List Byte := []              -- RESULT_BUF
deriving DecidableEq, Repr

/-- The queue engine. -/
structure QeState where
  ctx : Tab QCtx := []
  blks : Tab QeBlk := []
  cliDef : Tab Int := []                -- deficits of the clients of R324
  cliCur : Nat × Bool := (0, true)      -- the client visited, and whether its visit goes on
  qDef : Tab Int := []                  -- deficits of the queues of R324, by scheduling number
  qCur : Tab (Nat × Nat) := []          -- by client: the queue visited, descriptors served in the visit
  tokens : Tab Int := []                -- by tenancy, in parts of `token`
  loads : List Nat := []                -- tenancies whose tokens are set full at the next tick
  oldWeights : Tab Nat := []            -- by tenancy: the QE_WEIGHT in force until the next tick (R329)
deriving DecidableEq, Repr

/-! ### NVMe (chapter 13) -/

/-- A submission or completion queue of a controller (R336, R343), by its context index. -/
structure NvQ where
  ctrl : Nat
  sq : Bool                             -- a submission queue
  qid : Nat
  base : Nat
  size : Nat                            -- entries
  cq : Nat := 0                         -- a submission queue's completion queue
  vector : Nat := 0
  ien : Bool := false
  head : Nat := 0                       -- SQ: fetch point; CQ: last accepted head
  tail : Nat := 0                       -- SQ: last accepted tail; CQ: next entry written
  phase : Bool := true
  used : Nat := 0                       -- CQ: entries posted and not consumed
  unsig : Nat := 0
  frozen : Bool := false
  deleting : Option Nat := none         -- a delete waits for the queue's commands: command identifier (R344)
  wait : Option (List Byte) := none     -- a command that waits for range-lock entries (R338)
  entry : Option (List Byte) := none    -- a fetched admin command that its own row will run
deriving DecidableEq, Repr

/-- A command that has been fetched and not completed, by its tag. -/
structure NvCmd where
  ctrl : Nat
  sq : Nat                              -- context of its submission queue
  cid : Nat
  op : Nat
  bytes : List Byte                     -- the submission entry
  vol : Nat := 0
  ranges : List (Nat × Nat) := []       -- range-lock entries: first LBA, LBAs
  ready : Bool := false                 -- its own row has run: it may start at its backend
  started : Bool := false
  pair : Nat := 0                       -- SSD queue pair or backend ring
  buffer : Nat := 0                     -- backend buffer in HBM
  len : Nat := 0
  spans : List (Nat × Nat) := []        -- host memory of its data
  left : Nat := 0                       -- backend responses still to come
  cpl : Option (Nat × Nat) := none      -- its status and dword 0, waiting for room in its completion queue
deriving DecidableEq, Repr

/-- An NVMe controller (R330-R348). -/
structure NvCtrl where
  fn : Nat
  maxQ : Nat
  owner : Handle
  cc : U32 := 0
  rdy : Bool := false
  cfs : Bool := false
  intms : U32 := 0
  aqa : U32 := 0
  asqLo : U32 := 0
  asqHi : U32 := 0
  acqLo : U32 := 0
  acqHi : U32 := 0
  ps : Nat := 0
  psOp : Nat := 0                       -- last operational state
  psTo : Option Nat := none             -- a transition runs to this state
  aers : List Nat := []                 -- command identifiers of waiting Asynchronous Event Requests
  evts : List (Nat × Nat) := []         -- events not yet reported: information, log page
  masked : List Nat := []               -- log pages whose event waits to be re-armed
  feats : Tab Nat := []                 -- feature values, default per R330
  vecCfg : Tab Nat := []                -- Interrupt Vector Configuration by vector
  apst : List Byte := []                -- Autonomous Power State Transition data
  total : Nat := 0                      -- freezes logged
  log : List (List Byte) := []          -- freeze log entries, newest first, at most 16
  errs : List (List Byte) := []         -- error information entries, newest first, at most 16
  errCount : Nat := 0
  reads : Nat := 0
  writes : Nat := 0
deriving DecidableEq, Repr

/-- An enumerated SSD (R345). -/
structure Ssd where
  nss : Tab (Nat × Nat) := []           -- by namespace: lbads, LBAs
  mqes : Nat := 0
  pairs : Nat := 0
deriving DecidableEq, Repr

/-- A backend ring (R346). -/
structure BRing where
  reqPos : Nat := 0
  reqPhase : Bool := true
  respPos : Nat := 0
  respPhase : Bool := true
deriving DecidableEq, Repr

/-- The storage units. -/
structure NvState where
  ctrls : Tab NvCtrl := []
  qs : Tab NvQ := []                    -- by context index
  cmds : Tab NvCmd := []                -- by tag, which rises in fetch order
  nextTag : Nat := 0
  ssds : Tab Ssd := []                  -- by Saddle port
  rings : Tab BRing := []
  sent : List (Nat × List Byte) := []   -- commands sent to SSDs: Saddle port, 64 bytes; newest first, the last 8
deriving DecidableEq, Repr

/-! ### Steppe, memory, Glen (chapter 15) -/

/-- A hart's control block (R378). -/
structure Hart where
  run : Bool := false
  stopped : Bool := true
  pcLo : U32 := 0
  pcHi : Nat := 0
  pc : Nat := 0                         -- where it was last started
deriving DecidableEq, Repr

/-- A Steppe ring (R383). -/
structure SRing where
  baseLo : U32 := 0
  baseHi : Nat := 0
  en : Bool := false
  log2 : Nat := 0
  size : Nat := 0
  irq : Nat := 0
  prod : Nat := 0
  cons : Nat := 0
  drops : Nat := 0
  presented : Bool := false             -- injection: the entry at CONS is presented to intake (R385)
deriving DecidableEq, Repr

/-- The SPI target (R395-R398). -/
structure Spit where
  active : Bool := false                -- a transaction runs (SPIT_CS_N low, command taken)
  ignore : Bool := false                -- the rest of the transaction is ignored
  op : Nat := 0
  count : Nat := 0
  addr : Nat := 0
  out : List U32 := []                  -- words a read shifts out: turnaround, then data
  gap : Bool := false                   -- an edge gap has ended the transaction's words
  snap : List U32 := [0, 0, 0, 0, 0, 0, 0]  -- the current snapshot, words 0x000-0x018
  snaps : Nat := 0                      -- snapshot count
deriving DecidableEq, Repr

/-- HBM areas of a stack as carved at chip reset (R390), in GiB. -/
structure Carve where
  flood : Nat := 0
  ext : Nat := 0
  nvme : Nat := 0
  trained : Bool := false
  failed : Bool := false
  repaired : Nat := 0
deriving DecidableEq, Repr

/-- The control and memory regions. -/
structure CtlState where
  harts : Tab Hart := []
  rings : Tab SRing := []
  irqs : List (Nat × Nat × Nat) := []   -- identities pending in the interrupt files: hart, file, eiid
  quadTest : Option Nat := none         -- quad under test (R379)
  quadStart : Nat := 0                  -- nanoseconds of the tick base at the start of its test (R504)
  quadQueue : List Nat := []            -- quads queued for test (R399)
  spit : Spit := {}
  ddr : List Nat := [0, 0, 0, 0]        -- channel states of DDR_STATUS
  ddrGib : Nat := 0                     -- capacity of a channel, GiB
  ddrSpeed : Nat := 8000                -- MT/s of this boot (R388)
  hbm : List Carve := [{}, {}]
  poison : List Nat := []               -- poisoned 8-byte words, by address
deriving DecidableEq, Repr

/-! ### The vault (chapter 16) -/

/-- A key slot in use (R404-R406). -/
structure KeySlot where
  kind : Nat
  flags : Nat
  owner : Handle
  mat : List Byte
  lost : Bool := false
deriving DecidableEq, Repr

/-- What follows steps 3 and 4 of an erasure (R408). -/
inductive AfterErase where
  | nothing | openPorts (scope : Nat) | lcWord (k : Nat)
deriving DecidableEq, Repr

/-- The vault. -/
structure Vault where
  up : Bool := false                    -- released from reset
  slots : Tab KeySlot := []
  sealed : Option (Nat × Tab KeySlot) := none   -- the sealed store: sequence, persistent slots
  sealedDirty : Bool := false           -- a persistent slot has changed
  keyReg : Nat := 0                     -- the battery-backed key register (always-on)
  keyRegLost : Bool := false
  lc : List Nat := [0, 0, 0, 0]         -- the LC fuse words
  rollback : Nat := 0                   -- programmed ROLLBACK fuses
  rollTo : Nat := 0                     -- target of a running ROLLBACK_COMMIT
  revoke : Nat := 0                     -- IMG_KEY_REVOKE fuses
  debugKey : List Byte := []            -- the debug public key of the provisioning
  lcBoot : Nat := 0                     -- the life-cycle state read at the last chip reset
  nonce : Option (List Byte × Nat) := none  -- the last nonce and the device second of its read
  scope : Nat := 0                      -- open debug ports
  erasing : Option AfterErase := none   -- steps 3 and 4 run
  eraseStart : Nat := 0                 -- nanoseconds of the tick base at their start (R504)
  erasures : Nat := 0                   -- erasures in Field (R417)
  tamper0 : Nat := 0                    -- consecutive active samples of TAMPER0_N
  tamper1 : Nat := 0
  tamperLog : List (Nat × Nat) := []    -- input, RTC seconds; newest first, at most 4 (always-on)
  tamperErase : Bool := false           -- steps 3 and 4 follow at the next boot
  trng : Nat := 1                       -- TRNG_STATUS
  trngFails : List Nat := []            -- device seconds of health-test failures
  replay : Tab Nat := []                -- by association: bit i set, number pn - 1 - i accepted (R422)
  cached : List Nat := []               -- key slots cached in an engine (R424)
deriving DecidableEq, Repr

/-! ### Boot (chapter 17) -/

/-- A journal record (R430). -/
structure JRec where
  jseq : Nat
  stA : Nat
  stB : Nat
  seqA : Nat
  seqB : Nat
deriving DecidableEq, Repr

/-- States of an install (R438), coded as IMG_INSTALL_STATE. -/
inductive InstSt where
  | idle | checking | writing | verifying | marking
deriving DecidableEq, Repr

/-- Boot, image slots and flash. -/
structure Boot where
  glenUp : Bool := false                -- Glen runs and serves
  hostUp : Bool := false                -- the host region is released
  steppeUp : Bool := false
  stage : Nat := 0                      -- boot stage (R437)
  j0 : List (Option JRec) := []         -- records of sector J0 in order; none: torn or corrupt
  j1 : List (Option JRec) := []
  ptr : Option (Nat × Nat) := none      -- always-on journal pointer: sector, position
  slotA : List Byte := []               -- contents of the image slots in flash
  slotB : List Byte := []
  exclude : Option Nat := none          -- always-on exclude record
  goldLow : Bool := false               -- GOLD_N as the ROM took it
  goldReq : Bool := false               -- the last reset was a gold request
  running : Nat := 0                    -- slot booted
  goldRes : Nat := 0                    -- BOOT_STATUS gold request
  outA : Nat := 0
  outB : Nat := 0
  corrupt : Nat := 0
  cands : List Nat := []                -- candidates not yet tried
  tries : Nat := 0                      -- flash reads that did not complete in this check
  msTo6 : Nat := 0
  inst : InstSt := .idle
  instSlot : Nat := 0
  instAddr : Nat := 0
  instLen : Nat := 0
  instStart : Nat := 0                  -- nanoseconds of the tick base at its start (R504)
  version : Nat := 0                    -- version of the running image (R68)
  header : List Byte := []              -- header of the running image, as the ROM read it (R427)
  instResult : Status := .ok
  flashFree : Bool := false             -- the SPI host pins are high impedance (R437)
  loaded : List Nat := []               -- component kinds loaded and checked
  tablesInit : Bool := false            -- the table memories are initialised
  mgmtSel : Bool := false               -- straps of the last rise of RST_N (R496)
  testMode : Bool := false
  rstLow : Bool := false                -- RST_N is low
deriving DecidableEq, Repr

/-! ### Clocks and power (chapter 18) -/

/-- A clock source (R445, R446): CLK_STATUS state, consecutive passing windows. -/
structure ClkSt where
  st : Nat := 1
  passes : Nat := 0
deriving DecidableEq, Repr

/-- A PLL (R448, R450). -/
structure PllSt where
  locked : Bool := true
  restarts : Nat := 0
  failed : Bool := false
deriving DecidableEq, Repr

/-- A power domain (R460, R461): state reached, target of a change in progress. -/
structure DomSt where
  st : Nat := 2
  target : Option Nat := none
deriving DecidableEq, Repr

/-- The chip-wide ladder (R463-R466). -/
structure Ladder where
  st : Nat := 0                         -- LADDER_STATE
  target : Nat := 0
  step : Nat := 0                       -- entry step in progress, 0 none
  wakes : Nat := 0                      -- wake sources latched
  reversing : Nat := 0                  -- steps still to reverse
  result : Status := .ok
  stopRtc : Nat := 0                    -- RTC seconds at which device time stopped
  pwrEn : Bool := false                 -- BOARD_PWR_EN
  pwrWake : Bool := false               -- a wake waits for BOARD_PWR_EN to be raised
deriving DecidableEq, Repr

/-- A wake record (R467). -/
structure WakeRec where
  src : Nat := 0
  state : Nat := 0
  step : Nat := 0
  abandoned : Bool := false
  mask : Nat := 0
  rtc : Nat := 0
deriving DecidableEq, Repr

/-- Clocks, power, temperature. -/
structure ClkState where
  srcs : Tab ClkSt := []                -- by source in table order
  coarse : Bool := false                -- the RTC runs on LPO
  plls : Tab PllSt := []                -- by PLL number
  doms : Tab DomSt := []
  monTrip : List Nat := []              -- cells switched to RCO20 by their monitor, by domain
  heldCells : List Nat := []            -- cells held in reset (R453)
  stretch : List Nat := []              -- droop zones that stretch
  power : List Nat := []                -- the last ten readings, newest first, 0.1 W
  estimate : Nat := 0
  bad : List Bool := []                 -- the last samples' differences of more than 40 %
  currents : List Nat := []             -- the last three core currents, newest first, 0.1 A
  same : Nat := 0                       -- unchanged samples
  sameEst : Nat := 0                    -- the on-die estimate when they began
  telBad : Bool := false
  goodPolls : Nat := 0
  phaseCap : Bool := false
  alertLow : Bool := false              -- VR_ALERT_N low
  limiting : Bool := false
  thermCut : Nat := 0                   -- per cent of the limit taken away above THERM_CAP
  therm : Int := 0                      -- hottest junction, 0.125 degrees
  warned : Bool := false
  tripped : Bool := false               -- THERMTRIP_N low
  vddTarget : Nat := 873                -- VDD_CORE target in mV, a free value within 873-927 (R455)
  ladder : Ladder := {}
  wake : WakeRec := {}
  rtc : Nat := 0                        -- RTC seconds (always-on)
  vaon : Bool := false                  -- VAON is valid
deriving DecidableEq, Repr

/-- One Vale. -/
structure ValeState where
  path : Path := {}
  col : ColState := {}
  stage : StageState := {}
  table : TableState := {}
  tm : TmState := {}
deriving DecidableEq, Repr

/-- Device time (R229): seconds and nanoseconds; it counts 8 ns a tick. -/
structure DevTime where
  sec : Nat := 0
  ns : Nat := 0
  frac : Nat := 0                       -- sixteenths of a nanosecond
  acc : Nat := 0                        -- below 1/16 ns, in 10^-12 sixteenths
  ticks : Nat := 0                      -- ticks of the tick base since reset
  held : Bool := false                  -- the time counter is lost (R247)
deriving DecidableEq, Repr

/-- The whole state of the LN9192 as a block. -/
structure State where
  pending : List Instr := []            -- commands waiting, first in, first out
  free : Nat := 0                       -- the model's own counter of free values drawn
  resp : Resp := {}                     -- the last dictionary answer
  time : DevTime := {}
  dict : Dict := {}
  idien : Idien := {}
  tens : Tab Tenancy := []              -- by tenancy index; not listed: Free
  mig : Tab Mig := []                   -- by tenancy index
  mbox : Tab Mailbox := []              -- by tenancy index
  mbPend : Tab Nat := []                -- MB_PENDING: register k, 32 bits each (R373)
  epoch : Epoch := {}
  east : ValeState := {}
  west : ValeState := {}
  err : ErrState := {}
  saddle : Saddle := {}
  host : HostSt := {}
  qe : QeState := {}
  nv : NvState := {}
  ctl : CtlState := {}
  vault : Vault := {}
  boot : Boot := {}
  clk : ClkState := {}
  mem : List Host.Cell := []            -- internal physical memory, canonical
  hmem : List Host.Cell := []           -- host memory, canonical
deriving DecidableEq, Repr

/-- The machine right after reset. -/
def State.reset : State :=
  { clk := { srcs := [(5, { st := 2 })], vaon := true, ladder := { pwrEn := true } } }

end Sys2Proof.Machine
end

