-- ==== Sys2Proof/Machine/Tab.lean ====
section
/-! DEFINITION. Tables by number (`Tab`) and byte memory: look up, set and erase, keeping the numbers rising. -/

namespace Sys2Proof.Machine

/-- The value listed for `k`. -/
def tget {α : Type} : Tab α → Nat → Option α
  | [], _ => none
  | (j, x) :: t, k => if j = k then some x else tget t k

/-- The value listed for `k`, or the default. -/
def tgetD {α : Type} (t : Tab α) (k : Nat) (d : α) : α :=
  match tget t k with
  | some x => x
  | none => d

/-- Sets the value of `k`, keeping numbers rising. -/
def tset {α : Type} : Tab α → Nat → α → Tab α
  | [], k, v => [(k, v)]
  | (j, x) :: t, k, v =>
    if k < j then (k, v) :: (j, x) :: t
    else if k = j then (k, v) :: t
    else (j, x) :: tset t k v

/-- Removes the value of `k`. -/
def terase {α : Type} : Tab α → Nat → Tab α
  | [], _ => []
  | (j, x) :: t, k => if j = k then terase t k else (j, x) :: terase t k

/-- Applies `f` to the value of `k` (the default where none is listed) and stores the result. -/
def tmod {α : Type} (t : Tab α) (k : Nat) (d : α) (f : α → α) : Tab α :=
  tset t k (f (tgetD t k d))

/-- Applies `f` to every listed value. -/
def tmap {α : Type} (t : Tab α) (f : Nat → α → α) : Tab α :=
  t.map (fun p => (p.1, f p.1 p.2))

/-- The listed values whose number and value satisfy `f`. -/
def tfilter {α : Type} (t : Tab α) (f : Nat → α → Bool) : Tab α :=
  t.filter (fun p => f p.1 p.2)

/-- What an unlisted byte of memory reads as (DESIGN CHOICE, log entry 3). -/
def memDefault : Byte := 0

/-- Canonical form of memory: numbers strictly rising from `lo` on, no cell equal to what an unlisted one reads as. -/
def memWf (lo : Nat) : List Host.Cell → Bool
  | [] => true
  | (a, b) :: t => decide (lo ≤ a) && decide (b ≠ memDefault) && memWf (a + 1) t

/-- A byte of memory. -/
def memRead (m : List Host.Cell) (a : Nat) : Byte := tgetD m a memDefault

/-- Writes a byte, keeping the canonical form. -/
def memWrite (m : List Host.Cell) (a : Nat) (b : Byte) : List Host.Cell :=
  if b = memDefault then terase m a else tset m a b

/-- Reads `n` bytes from `a` on. -/
def memReadN (m : List Host.Cell) (a n : Nat) : List Byte :=
  (List.range n).map (fun i => memRead m (a + i))

/-- Writes a list of bytes from `a` on. -/
def memWriteN (m : List Host.Cell) (a : Nat) : List Byte → List Host.Cell
  | [] => m
  | b :: bs => memWriteN (memWrite m a b) (a + 1) bs

/-- Bytes to a number, first byte most significant (R41). -/
def beNat (bs : List Byte) : Nat := bs.foldl (fun n b => n * 256 + b.toNat) 0

/-- The low `n` bytes of a number, most significant first. -/
def beBytes : Nat → Nat → List Byte
  | 0, _ => []
  | n + 1, v => beBytes n (v / 256) ++ [BitVec.ofNat 8 v]

/-- Bytes to a number, first byte least significant. -/
def leNat (bs : List Byte) : Nat := beNat bs.reverse

/-- The low `n` bytes of a number, least significant first. -/
def leBytes (n v : Nat) : List Byte := (beBytes n v).reverse

/-- Bits [lo + w - 1 : lo] of a number. -/
def bitsOf (v lo w : Nat) : Nat := v / 2 ^ lo % 2 ^ w

/-- Bit `i` of a number. -/
def bitOf (v i : Nat) : Bool := v.testBit i

/-- The field at byte offset `off`, `n` bytes long, of an `m`-byte big-endian record. -/
def recField (m off n : Nat) (v : Nat) : Nat := v / 256 ^ (m - off - n) % 256 ^ n

/-- The record with the field at byte offset `off` replaced. -/
def recSet (m off n : Nat) (v x : Nat) : Nat :=
  v - recField m off n v * 256 ^ (m - off - n) + x % 256 ^ n * 256 ^ (m - off - n)

/-- The record with its reserved bytes zero (R10), which a write leaves so: offsets and lengths. -/
def recClear (m : Nat) (rs : List (Nat × Nat)) (v : Nat) : Nat := rs.foldl (fun a c => recSet m c.1 c.2 a 0) v

/-- The record with only the low `k` bits of its flags byte, the others being reserved (R10). -/
def recFlags (m off k v : Nat) : Nat := recSet m off 1 v (recField m off 1 v % 2 ^ k)

/-- The record with the reserved bits of an element identifier zero (R10, R206). -/
def recElem (m off v : Nat) : Nat :=
  let e := recField m off 4 v
  recSet m off 4 v (e / 0x10000000 * 0x10000000 + e % 0x10000)

/-- The first `n` elements after dropping `k`, padded with `d`. -/
def sliceD {α : Type} (l : List α) (k n : Nat) (d : α) : List α :=
  let t := (l.drop k).take n
  t ++ List.replicate (n - t.length) d

/-- Bit for a Boolean. -/
def bit1 (b : Bool) : Nat := if b then 1 else 0

/-- Quotient rounded up. -/
def ceilDiv (a b : Nat) : Nat := (a + b - 1) / b

end Sys2Proof.Machine
end

