-- ==== Sys2Proof/Machine/Ops.lean ====
section
/-! DEFINITION. The shared operations of the dictionary requests: handles, generations, free lists, quotas, statuses,
answers, counters, events, free values. -/

namespace Sys2Proof.Machine

/-- What a command answers. -/
abbrev Out := Host.Outcome State Fault Refusal

/-! ### Vales and keys -/

def State.vale (s : State) : Vale → ValeState
  | .east => s.east
  | .west => s.west

def State.setVale (s : State) (v : Vale) (x : ValeState) : State :=
  match v with
  | .east => { s with east := x }
  | .west => { s with west := x }

def State.modVale (s : State) (v : Vale) (f : ValeState → ValeState) : State :=
  s.setVale v (f (s.vale v))

/-- East 0, West 1. -/
def valeNum : Vale → Nat
  | .east => 0
  | .west => 1

def otherVale : Vale → Vale
  | .east => .west
  | .west => .east

/-- West's objects stand 0x0800 above East's (R44). -/
def valeOff (v : Vale) : Nat := valeNum v * 0x800

/-- The key of object index.sub. -/
def okey (index sub : Nat) : Nat := index * 256 + sub

/-- The key of a Vale's object, named by its East index. -/
def vkey (v : Vale) (index sub : Nat) : Nat := (index + valeOff v) * 256 + sub

/-- The key of tenancy-relative object index.sub of tenancy index `t`. -/
def tkey (t index sub : Nat) : Nat := (t + 1) * 0x1000000 + index * 256 + sub

/-- A numeric dictionary value, `d` its default. -/
def numD (s : State) (k d : Nat) : Nat := tgetD s.dict.nums k d

def setNum (s : State) (k x : Nat) : State :=
  { s with dict := { s.dict with nums := tset s.dict.nums k x } }

def octD (s : State) (k : Nat) : List Byte := tgetD s.dict.octs k []

def setOct (s : State) (k : Nat) (x : List Byte) : State :=
  { s with dict := { s.dict with octs := tset s.dict.octs k x } }

/-- A value of an epoch-staged object for a packet of epoch `e`: the active value for the active epoch, otherwise the
staging copy (R35, R37). -/
def cfgNum (s : State) (e k d : Nat) : Nat :=
  if e = s.epoch.active then numD s k d else tgetD s.dict.staged k (numD s k d)

/-- Adds `n` to a counter of `w` bits, which wraps. -/
def bump (s : State) (k w n : Nat) : State := setNum s k ((numD s k 0 + n) % 2 ^ w)

/-- Adds one to a U64 counter. -/
def count (s : State) (k : Nat) : State := bump s k 64 1

/-! ### Free values -/

/-- Draws a free value below `b` (log entry 1). -/
def drawFree (s : State) (b : Nat) : Nat × State :=
  (Config.freeNat s.free % b, { s with free := s.free + 1 })

/-- Draws `w` random bits (R412; log entry 1). -/
def drawTrng (s : State) (w : Nat) : Nat × State :=
  (Config.trng s.free % 2 ^ w, { s with free := s.free + 1 })

/-- One token of a bucket that fills at a rate per second: a tick of 8 ns adds as many of its 125,000,000 parts as the rate
says (R66, R173, R324). -/
def token : Nat := 125000000

/-! ### Handles (R11, R16-R19) -/

def hKind (h : Handle) : Nat := h.toNat / 0x1000000
def hGen (h : Handle) : Nat := h.toNat / 0x10000 % 256
def hIdx (h : Handle) : Nat := h.toNat % 0x10000
def mkHandle (kind gen idx : Nat) : Handle := BitVec.ofNat 32 (kind * 0x1000000 + gen * 0x10000 + idx)

/-- The number of indices of a kind (R16); 0 for an unknown kind. -/
def kindCount (k : Nat) : Nat :=
  if k = 0x01 then 256 else if k = 0x02 then 65536 else if k = 0x03 then 1024 else if k = 0x04 then 256
  else if k = 0x05 then 64 else if k = 0x06 then 256 else if k = 0x07 then 256
  else if k = 0x10 || k = 0x11 then 32768 else if k = 0x12 || k = 0x13 then 16384
  else if k = 0x14 || k = 0x15 then 36864 else if k = 0x16 || k = 0x17 then 65536
  else if k = 0x18 || k = 0x19 then 1024 else 0

/-- The current generation of an object, 1 at the start (R17). -/
def genOf (s : State) (kind idx : Nat) : Nat := tgetD s.dict.gens (kind * 65536 + idx) 1

/-- The current handle of an object. -/
def handleOf (s : State) (kind idx : Nat) : Handle := mkHandle kind (genOf s kind idx) idx

/-- After 255 the next generation is 1 (R17). -/
def nextGen (g : Nat) : Nat := if g = 255 then 1 else g + 1

/-- A destruction is accepted: the generation rises (R17). -/
def bumpGen (s : State) (kind idx : Nat) : State :=
  { s with dict := { s.dict with gens := tset s.dict.gens (kind * 65536 + idx) (nextGen (genOf s kind idx)) } }

/-- Kind and index name a possible object of kind `k` (R16). -/
def handleFits (h : Handle) (k : Nat) : Bool := decide (hKind h = k) && decide (hIdx h < kindCount k)

/-- The generation is the current one (R11). -/
def handleCurrent (s : State) (h : Handle) : Bool := decide (hGen h = genOf s (hKind h) (hIdx h))

/-- Generation 0 names nothing but "no object" (R11, R17). -/
def genZero (h : Handle) : Bool := decide (h ≠ 0) && decide (hGen h = 0)

/-- The next index of a kind: one never issued, else the one free longest (R18). -/
def allocIndex (s : State) (kind : Nat) : Option (Nat × State) :=
  let f := tgetD s.dict.fresh kind 0
  if f < kindCount kind then some (f, { s with dict := { s.dict with fresh := tset s.dict.fresh kind (f + 1) } })
  else
    match tgetD s.dict.freed kind [] with
    | [] => none
    | i :: r => some (i, { s with dict := { s.dict with freed := tset s.dict.freed kind r } })

/-- A freed index returns to the end of its free list (R18). -/
def freeIndex (s : State) (kind idx : Nat) : State :=
  { s with dict := { s.dict with freed := tset s.dict.freed kind (tgetD s.dict.freed kind [] ++ [idx]) } }

/-- Indices of a kind that are free. -/
def freeCount (s : State) (kind : Nat) : Nat := kindCount kind - tgetD s.dict.fresh kind 0 + (tgetD s.dict.freed kind []).length

/-- The owner of a live object; none for a free index. -/
def ownerOf (s : State) (kind idx : Nat) : Option Handle := tget s.dict.owners (kind * 65536 + idx)

def setOwner (s : State) (kind idx : Nat) (h : Handle) : State :=
  { s with dict := { s.dict with owners := tset s.dict.owners (kind * 65536 + idx) h } }

def clearOwner (s : State) (kind idx : Nat) : State :=
  { s with dict := { s.dict with owners := terase s.dict.owners (kind * 65536 + idx) } }

/-- The object is owned by the operator or by `ten` (R171). -/
def ownedBy (s : State) (h ten : Handle) : Bool :=
  match ownerOf s (hKind h) (hIdx h) with
  | some o => decide (o = 0) || decide (o = ten)
  | none => false

def hasFree (s : State) (kind : Nat) : Bool := (allocIndex s kind).isSome

/-! ### Tenancies as owners -/

def tenAt (s : State) (i : Nat) : Option Tenancy := tget s.tens i

def setTen (s : State) (i : Nat) (t : Tenancy) : State := { s with tens := tset s.tens i t }

def modTen (s : State) (i : Nat) (f : Tenancy → Tenancy) : State :=
  match tenAt s i with
  | some t => setTen s i (f t)
  | none => s

/-- A current handle of a tenancy that is not in teardown: its destruction ended it (R17). -/
def tenCurrent (s : State) (h : Handle) : Bool :=
  handleFits h 1 && handleCurrent s h && match tenAt s (hIdx h) with
    | some t => decide (t.st ≠ .destroying)
    | none => false

/-- The owner is a tenancy whose teardown runs. -/
def ownerDying (s : State) (o : Handle) : Bool :=
  decide (o ≠ 0) && match tenAt s (hIdx o) with
    | some t => decide (t.st = .destroying) && decide (t.handle = o)
    | none => false

/-- A handle of one of the kinds that names a live object: current generation, not free, its owner not in teardown. -/
def objLive (s : State) (h : Handle) : Bool :=
  handleCurrent s h && match ownerOf s (hKind h) (hIdx h) with
    | some o => !ownerDying s o
    | none => false

/-- The owner is a Halted tenancy (R31). -/
def ownerHalted (s : State) (h : Handle) : Bool :=
  decide (h ≠ 0) && match tenAt s (hIdx h) with
    | some t => decide (t.st = .halted)
    | none => false

/-- The tenancy's mode (R20): 1 P, 2 F, 3 PF; 0 for the operator. -/
def modeOf (s : State) (h : Handle) : Nat :=
  if h = 0 then 0 else match tenAt s (hIdx h) with
    | some t => t.mode
    | none => 0

def usageOf (s : State) (t kind : Nat) : Nat := tgetD s.dict.usage (t * 256 + kind) 0

def setUsage (s : State) (t kind n : Nat) : State :=
  { s with dict := { s.dict with usage := tset s.dict.usage (t * 256 + kind) n } }

def quotaOf (s : State) (t kind : Nat) : Nat := numD s (tkey t 0xC001 kind) 0

/-- One more object of the kind stays within the owner's quota (R19, R23). -/
def quotaOk (s : State) (owner : Handle) (kind : Nat) : Bool :=
  decide (owner = 0) || decide (usageOf s (hIdx owner) kind < quotaOf s (hIdx owner) kind)

def addUsage (s : State) (owner : Handle) (kind : Nat) : State :=
  if owner = 0 then s else setUsage s (hIdx owner) kind (usageOf s (hIdx owner) kind + 1)

def subUsage (s : State) (owner : Handle) (kind : Nat) : State :=
  if owner = 0 then s else setUsage s (hIdx owner) kind (usageOf s (hIdx owner) kind - 1)

/-- An object ends: the owner's usage falls, and its index returns to its free list, or with those of a tenancy in
teardown in its last step (R18, R23, R32). -/
def endObj (s : State) (kind i : Nat) : State :=
  let o := (ownerOf s kind i).getD 0
  let s1 := clearOwner (subUsage s o kind) kind i
  if ownerDying s o then modTen s1 (hIdx o) (fun t => { t with held := t.held ++ [(kind, i)] }) else freeIndex s1 kind i

/-- The generation of a handle is 0, or is not the current one of the object of the kind and index it names, whatever kind
is expected there (R11, R17). A virtual function, a mailbox and a tenancy's Idien objects stand whoever owns them; a
handle of any other kind must name a live object (DESIGN CHOICE, log entry 79). -/
def handleStale (s : State) (h : Handle) : Bool :=
  genZero h || (decide (h ≠ 0) && decide (hIdx h < kindCount (hKind h)) &&
    !(if hKind h = 1 then tenCurrent s h
      else if hKind h = 3 then handleCurrent s h && !ownerDying s ((ownerOf s 3 (hIdx h)).getD 0)
      else if hKind h = 6 ∨ hKind h = 7 then handleCurrent s h else objLive s h))

/-- The conditions on an owner handle of a create: RANGE, STALE_HANDLE, HALTED. -/
def ownerChecks (s : State) (owner : Handle) : List (Status × Bool) :=
  [(.range, decide (owner ≠ 0) && !handleFits owner 1),
   (.staleHandle, handleStale s owner),
   (.halted, tenCurrent s owner && ownerHalted s owner)]

/-! ### Statuses and answers (R13, R14) -/

def statusCode : Status → Nat
  | .ok => 0 | .busy => 1 | .range => 2 | .access => 3 | .staleHandle => 4 | .version => 5 | .notReady => 6
  | .timeout => 7 | .locked => 8 | .noResource => 9 | .halted => 0xA

/-- The order of R14. -/
def statusOrder : List Status :=
  [.version, .access, .staleHandle, .range, .halted, .notReady, .locked, .busy, .noResource, .timeout]

/-- The first applicable failure in the order of R14, or OK. -/
def firstStatus (cs : List (Status × Bool)) : Status :=
  match statusOrder.find? (fun st => cs.any (fun c => decide (c.1 = st) && c.2)) with
  | some st => st
  | none => .ok

/-- A dictionary operation: its status in a state, its effect and response payload when the status is OK, and the
target's estimate for a BUSY answer (R504), and what a failed request records beside its status. -/
structure DictOp where
  status : State → Status
  effect : State → State × List Byte
  retry : State → Nat := fun _ => 1000
  onFail : State → Status → State := fun s _ => s

/-- retry_after is held within 1-1,000 ms (R46, R504). -/
def clampRetry (n : Nat) : Nat := if n < 1 then 1 else if 1000 < n then 1000 else n

def respond (s : State) (st : Status) (retry : Nat) (payload : List Byte) : State :=
  { s with resp := { status := st, retry := retry, payload := payload } }

/-- Glen serves dictionary requests. -/
def glenServes (s : State) : Bool := s.boot.glenUp

/-- Runs a dictionary operation: nothing at all while Glen serves no request; the effect and OK; or the failure alone. -/
def runOp (op : DictOp) (s : State) : State :=
  if glenServes s then
    match op.status s with
    | .ok => respond (op.effect s).1 .ok 0 (op.effect s).2
    | .busy => respond (op.onFail s .busy) .busy (clampRetry (op.retry s)) []
    | st => respond (op.onFail s st) st 0 []
  else s

/-- The checks every request passes: the role's right (R12, R42), and HALTED in fail-stop (R479). -/
def baseChecks (s : State) (allowed : Bool) : List (Status × Bool) :=
  [(.access, !allowed), (.halted, s.err.failStop)]

def isO (w : Who) : Bool := decide (w.role = .operator)
def isV (w : Who) : Bool := decide (w.role = .vault)

/-- The handle names a live object of the kind whose owner is Halted (R31). -/
def objHalted (s : State) (h : Handle) (kind : Nat) : Bool :=
  handleFits h kind && objLive s h && ownerHalted s ((ownerOf s kind (hIdx h)).getD 0)

/-- The checks on the handle of a destroy: kind and index, current, live, its owner not Halted. -/
def destroyChecks (s : State) (h : Handle) (kind : Nat) : List (Status × Bool) :=
  [(.range, !handleFits h kind),
   (.staleHandle, handleStale s h),
   (.halted, objHalted s h kind)]

/-! ### Version negotiation (R51) -/

/-- The highest common major with the lower of its two minors; offers are lists of major and highest minor, a major of 0
being no entry. -/
def negotiate (a b : List (Nat × Nat)) : Option (Nat × Nat) :=
  (a.filter (fun x => decide (x.1 ≠ 0))).foldl (fun best x =>
    match b.find? (fun y => decide (y.1 = x.1)) with
    | none => best
    | some y =>
      let c := (x.1, min x.2 y.2)
      match best with
      | none => some c
      | some z => if z.1 < c.1 then some c else best) none

/-! ### Sessions (R56) -/

/-- A queued request belongs to a session that `f` keeps, or to none. -/
def reqKept (t : Tab Session) (f : Nat → Session → Bool) (r : Req) : Bool :=
  match r.src with
  | .session n => (match tget t n with | some x => f n x | none => true)
  | .open_ _ => true

/-- The sessions that `f` does not keep end, and their queued requests are discarded without effect (R56). -/
def keepSessions (x : Idien) (f : Nat → Session → Bool) : Idien :=
  let g := fun (l : List Req) => l.filter (reqKept x.sessions f)
  { x with
    sessions := tfilter x.sessions f
    qO := g x.qO
    qH := g x.qH
    qT := g x.qT
    qV := g x.qV }

/-! ### Units, time, events (R473, R476, R67) -/

/-- A unit identifier (R473). -/
def unitId (level region block cell : Nat) : Nat :=
  level * 0x10000000 + region * 0x1000000 + block * 0x1000 + cell

/-- A block of a Vale (R474). -/
def valeBlock (v : Vale) (block : Nat) : Nat := unitId 2 (1 + valeNum v) block 0xFFF

def regionId (region : Nat) : Nat := unitId 3 region 0xFFF 0xFFF

def chipId : Nat := unitId 4 0 0xFFF 0xFFF

/-- Keeps the first `n` of a list. -/
def keep {α : Type} (n : Nat) (l : List α) : List α := l.take n

/-- What an event says (R476), but for sequence and time. -/
structure EvtMsg where
  cls : Nat
  name : String
  unit : Nat
  level : Nat := 0
  resource : Nat := 0
  tenancy : Handle := 0
  detail : Nat := 0
  errSeq : Nat := 0

/-- A session receives events of the classes in its mask; a tenant session only those of its bound tenancy (R67, R359). -/
def receives (x : Session) (e : EvtRec) : Bool :=
  x.eventMask.testBit e.cls && (decide (x.role ≠ .tenant) || (decide (e.tenancy = x.bound) && decide (e.tenancy ≠ 0)))

/-- Text as ASCII, zero-padded to `n` bytes. -/
def ascii (t : String) (n : Nat) : List Byte := sliceD (t.toList.map (fun c => BitVec.ofNat 8 c.toNat)) 0 n 0

/-- An event record as it is read (R476). -/
def evtBytes (e : EvtRec) : List Byte :=
  beBytes 1 e.cls ++ beBytes 1 e.level ++ beBytes 2 0 ++ beBytes 4 e.unit ++ beBytes 4 e.resource ++ beBytes 4 e.tenancy.toNat
    ++ beBytes 4 e.sec ++ beBytes 4 e.ns ++ beBytes 8 e.detail ++ ascii e.name 28 ++ beBytes 4 e.errSeq

/-- The EVENT message of an event in a session (R46, R47): opcode 0x06, bit 7 of the flags, the session's version, the event
sequence, and the record as its payload. R46 keeps count 0 for GET_VERSION and LIST; an event names no object, and its
count is 1, its handle, index and subindex 0 (DESIGN CHOICE, log entry 78). -/
def eventMsg (x : Session) (e : EvtRec) : List Byte :=
  beBytes 1 x.major ++ beBytes 1 x.minor ++ [0x06, 0x80] ++ beBytes 2 (e.seq % 65536) ++ [0, 0] ++ beBytes 4 0 ++ beBytes 2 0
    ++ [0, 1] ++ beBytes 2 (evtBytes e).length ++ beBytes 2 0 ++ evtBytes e

/-- Sends an EVENT message to a session that receives it. -/
def sendEvent (e : EvtRec) (_ : Nat) (x : Session) : Session :=
  if receives x e then { x with events := keep 16 (eventMsg x e :: x.events) } else x

/-- Raises an event: the log keeps it (R477), and it is sent to the sessions whose mask selects it. -/
def raise (s : State) (m : EvtMsg) : State :=
  let e : EvtRec := { seq := s.err.evtSeq, cls := m.cls, level := m.level, unit := m.unit, resource := m.resource,
                      tenancy := m.tenancy, sec := s.time.sec % 2 ^ 32, ns := s.time.ns, detail := m.detail,
                      name := m.name, errSeq := m.errSeq }
  { s with
    err := { s.err with events := keep 1024 (e :: s.err.events), evtSeq := s.err.evtSeq + 1 }
    idien := { s.idien with sessions := tmap s.idien.sessions (sendEvent e) } }

/-- Nanoseconds of device time. -/
def nowNs (s : State) : Nat := s.time.sec * 1000000000 + s.time.ns

/-- Nanoseconds of the tick base: what has passed whatever TIME_SET and TIME_STEP do to device time. -/
def tickNs (s : State) : Nat := s.time.ticks * 8

/-- Milliseconds left of a duration of `typ` nanoseconds begun at `start` of the tick base, rounded up (R504). -/
def estimateMs (s : State) (typ start : Nat) : Nat := ceilDiv (typ - (tickNs s - start)) 1000000

/-- A stored object's value was written: it waits for its commit to flash (R43). -/
def persist (s : State) (k : Nat) : State :=
  if s.dict.pending.contains k then s
  else { s with dict := { s.dict with pending := s.dict.pending ++ [k] } }

end Sys2Proof.Machine
end

