-- ==== Sys2Proof/Machine/ClkBase.lean ====
section
/-! DEFINITION. Clocks and power as other units see them (R445-R462): sources, PLLs, domains, a Vale on a slow clock. -/

namespace Sys2Proof.Machine

/-! ### Sources (R445) -/

def srcNum : ClkSource → Nat
  | .ref25 => 0
  | .pcieRefclk => 1
  | .sdsRef => 2
  | .aon32k => 3
  | .rco20 => 4
  | .lpo => 5

def srcOf (s : State) (c : ClkSource) : ClkSt := tgetD s.clk.srcs (srcNum c) {}

def setSrc (s : State) (c : ClkSource) (x : ClkSt) : State := { s with clk := { s.clk with srcs := tset s.clk.srcs (srcNum c) x } }

/-- The ready flag of a source (R446). -/
def srcReady (s : State) (c : ClkSource) : Bool := decide ((srcOf s c).st = 2)

/-! ### PLLs (R448) -/

def pllNum : Pll → Nat
  | .vale .east => 0
  | .vale .west => 1
  | .quad q => 2 + q
  | .ctl => 8
  | .timeA => 9
  | .timeB => 10
  | .host => 11
  | .fab => 12
  | .ddr => 13
  | .hbm0 => 14
  | .hbm1 => 15
  | .sds q => 16 + q

def pllOf (s : State) (p : Pll) : PllSt := tgetD s.clk.plls (pllNum p) {}

def setPll (s : State) (p : Pll) (x : PllSt) : State := { s with clk := { s.clk with plls := tset s.clk.plls (pllNum p) x } }

/-! ### Domains (R460) -/

/-- State of a domain after chip reset: Steppe quads are powered at the Steppe release (R436), fused-off SerDes quads
never (R2). -/
def domReset (hx : Bool) (d : Nat) : DomSt :=
  if 3 ≤ d ∧ d ≤ 8 then { st := 0 } else if hx ∧ (d = 42 ∨ d = 44) then { st := 0 } else {}

def domOf (s : State) (d : Nat) : DomSt := tgetD s.clk.doms d (domReset Config.hx d)

def setDom (s : State) (d : Nat) (x : DomSt) : State := { s with clk := { s.clk with doms := tset s.clk.doms d x } }

def domOn (s : State) (d : Nat) : Bool := decide ((domOf s d).st = 2)

/-- The domain of a Col core's group. -/
def colDom (v : Vale) (n : Nat) : Nat := 9 + valeNum v * 9 + n / 12

/-- The Vale of a cell (R460). -/
def domVale (d : Nat) : Option Vale :=
  if 9 ≤ d ∧ d ≤ 17 ∨ d = 27 then some .east else if 18 ≤ d ∧ d ≤ 26 ∨ d = 28 then some .west else none

/-- The Vale runs on the divided reference or, after a monitor trip, on RCO20 (R449, R451). -/
def valeSlow (s : State) (v : Vale) : Bool :=
  !(pllOf s (.vale v)).locked || (s.clk.monTrip ++ s.clk.heldCells).any (fun d => decide (domVale d = some v))

/-- The SerDes quad of a lane has power and a clock. -/
def laneClocked (s : State) (lane : Nat) : Bool := domOn s (41 + lane / 4) && (tgetD s.clk.plls (16 + lane / 4) {}).locked

/-- The median of the last three samples, newest first (R455); of fewer, the newest. -/
def median3 : List Nat → Nat
  | [a, b, c] => max (min a b) (min (max a b) c)
  | a :: _ => a
  | [] => 0

/-- Package power: from the regulator, or the on-die estimate while its readings are implausible (R457). -/
def packagePower (s : State) : Nat := if s.clk.telBad then s.clk.estimate else median3 (s.clk.power.take 3)

/-- A cell of the Vale is held in reset and has no clock (R452, R453). -/
def valeHeld (s : State) (v : Vale) : Bool := s.clk.heldCells.any (fun d => decide (domVale d = some v))

/-- The ladder stands in Run with no entry or exit in progress; otherwise core clocks are gated (R464, R465). -/
def ladderRuns (s : State) : Bool :=
  let l := s.clk.ladder
  decide (l.st = 0) && decide (l.step = 0) && decide (l.reversing = 0)

/-- Entry steps that are complete and not reversed (R465). -/
def ladderDone (s : State) : Nat :=
  let l := s.clk.ladder
  if l.step ≠ 0 then l.step - 1
  else if l.st = 0 then l.reversing
  else if l.st = 1 then 1 else if l.st = 2 then 3 else if l.st = 3 then 5 else 6

end Sys2Proof.Machine
end

