-- ==== Sys2Proof/Machine/ErrBase.lean ====
section
/-! DEFINITION. The handlers and records of chapter 19 (R470-R479): how an error arrives, queues, nests and escalates;
the tenancy error queue of R352; fail-stop. -/

namespace Sys2Proof.Machine

/-- The key of the handler of a level (R470): cell and block handlers belong to a block. -/
def handlerKey (level region block : Nat) : Nat :=
  level * 0x100000000 +
    (if level ≤ 2 then unitId 2 region block 0xFFF else if level = 3 then regionId region else chipId)

def handlerAt (s : State) (k : Nat) : Handler := tgetD s.err.handlers k {}

def setHandler (s : State) (k : Nat) (h : Handler) : State :=
  { s with err := { s.err with handlers := tset s.err.handlers k h } }

def statAt (s : State) (l : Nat) : LevelStat := tgetD s.err.stats l {}

def setStat (s : State) (l : Nat) (x : LevelStat) : State :=
  { s with err := { s.err with stats := tset s.err.stats l x } }

/-- An always-on error record (R478). -/
def aonRecord (s : State) (unit cause level rtc : Nat) : State :=
  let e : AonErr := { unit := unit, cause := cause, level := level, rtc := rtc }
  { s with err := { s.err with aonErrors := keep 4 (e :: s.err.aonErrors) } }

/-- Logs an error record (R475, R477): the 512 newest are kept, and the 16 newest chip-level ones in flash (R477). -/
def logErr (s : State) (r : ErrRec) : State :=
  { s with err := { s.err with
      errors := keep 512 (r :: s.err.errors)
      errSeq := s.err.errSeq + 1
      chipErrors := if r.level = 4 then keep 16 (r :: s.err.chipErrors) else s.err.chipErrors } }

/-- What an error is, for its way through the handlers: the unit that errs, and by level the action of its chapter's
table (or of R472), and the action code of R475. `unit` names the unit in error where it is not the one of the first
handler. -/
structure ErrDesc where
  kind : ErrKind
  region : Nat
  block : Nat
  cell : Nat := 0xFFF
  resource : Nat := 0
  tenancy : Handle := 0
  cause : Nat := 1
  detail : Nat := 0
  unit : Option Nat := none
  code : Nat → Nat := fun _ => 1
  log1 : Bool := false                  -- a cell-level error whose chapter raises an event is logged (R475)

/-- The record of an error at a level: at its own level the unit that errs, above it the handler's unit, with the
number of the lower unit as the resource (log entry 20). -/
def errRecord (s : State) (d : ErrDesc) (first level flags parent : Nat) : ErrRec :=
  { seq := s.err.errSeq
    unit := if level = first then
              d.unit.getD (if level = 1 then unitId 1 d.region d.block d.cell
               else if level = 2 then unitId 2 d.region d.block 0xFFF
               else if level = 3 then regionId d.region else chipId)
            else if level = 2 then unitId 2 d.region d.block 0xFFF
            else if level = 3 then regionId d.region else chipId
    level := level
    origin := first
    cause := if level = first then d.cause else 10
    flags := flags
    resource := if level = first then d.resource else if level = 2 then d.cell else if level = 3 then d.block
                else d.region
    tenancy := d.tenancy
    sec := s.time.sec % 2 ^ 32
    ns := s.time.ns
    parent := parent
    detail := d.detail
    action := d.code level }

def sameResource (a b : ErrRec) : Bool := decide (a.unit = b.unit) && decide (a.resource = b.resource)

/-- The record of the same resource that a handler holds, active or queued. -/
def findSame (h : Handler) (r : ErrRec) : Option ErrRec :=
  match h.active with
  | none => none
  | some p =>
    if sameResource p.er r then some p.er
    else match h.queue.find? (fun q => sameResource q.er r) with
      | some q => some q.er
      | none => none

/-- One error at the handler of `level` (R471), with `fuel` levels above it. `act` is the action of R470 and R472. -/
def arriveAt (act : ErrKind → Nat → ErrRec → State → State) (d : ErrDesc) (first : Nat) :
    Nat → Nat → Nat → Nat → State → State
  | 0, _, _, _, s => s
  | fuel + 1, level, flags, parent, s =>
    let k := handlerKey level d.region d.block
    let h := handlerAt s k
    let r := errRecord s d first level flags parent
    let logged := decide (2 ≤ level) || d.log1
    match h.active with
    | none =>
      let s1 := if logged then logErr s r else s
      let s2 := setStat s1 level { statAt s1 level with handled := (statAt s1 level).handled + 1 }
      act d.kind level r (if level = 4 then s2 else setHandler s2 k { h with active := some { er := r, kind := d.kind } })
    | some a =>
      let esc (bits par : Nat) : State :=
        let s1 := setStat s level { statAt s level with escalated := (statAt s level).escalated + 1 }
        if level = 4 then act d.kind 4 r (logErr s1 r)
        else arriveAt act d first fuel (level + 1) (2 + bits) par s1
      match findSame h r with
      | some x => esc 8 (if 2 ≤ x.level then x.seq else 0)
      | none =>
        if h.queue.length < 4 then
          let q : ErrRec := { r with flags := flags + 1 }
          let s1 := if logged then logErr s q else s
          let st := statAt s1 level
          let s2 := setStat s1 level { st with nested := st.nested + 1, peak := max st.peak (h.queue.length + 1) }
          setHandler s2 k { h with queue := h.queue ++ [{ er := q, kind := d.kind }] }
        else esc 4 (if 2 ≤ a.er.level then a.er.seq else 0)

/-- A unit under test: the error is recorded with flag bit 5 and cause 8, and decides the test (R483). -/
def testError (s : State) (d : ErrDesc) (level unit : Nat) : State :=
  let s1 := logErr s { errRecord s d level level 32 0 with cause := 8 }
  { s1 with err := { s1.err with testFails := if s1.err.testFails.contains unit then s1.err.testFails else unit :: s1.err.testFails } }

/-- The end of a unit's test: whether it passes, its recorded errors being cleared. -/
def testVerdict (s : State) (unit : Nat) (pass : Bool) : Bool × State :=
  (pass && !s.err.testFails.contains unit,
   { s with err := { s.err with testFails := s.err.testFails.filter (fun u => decide (u ≠ unit)) } })

/-- An error that its block cannot contain goes to the region at once (R5): no block handler is used. -/
def arriveRegion (act : ErrKind → Nat → ErrRec → State → State) (d : ErrDesc) (s : State) : State :=
  arriveAt act d 2 4 3 2 0 (setStat s 2 { statAt s 2 with escalated := (statAt s 2).escalated + 1 })

/-- An error arrives at the handler of its own level. -/
def arrive (act : ErrKind → Nat → ErrRec → State → State) (d : ErrDesc) (level : Nat) (s : State) : State :=
  arriveAt act d level 5 level 0 0 s

/-! ### The tenancy error queue (R25, R352, R353) -/

/-- The tenancy takes errors in its own queue: F and PF mode. -/
def ownQueue (s : State) (owner : Handle) : Bool := decide (modeOf s owner = 2) || decide (modeOf s owner = 3)

/-- The entry record of R352. -/
def tenRecord (s : State) (d : ErrDesc) (origin flags parent action : Nat) : ErrRec :=
  { errRecord s d 2 2 flags parent with origin := origin, action := action }

/-- An entry leaves the error queue when its resource has recovered (R352): the entries of a unit and resource. -/
def tenErrLeave (s : State) (owner : Handle) (unit resource : Nat) : State :=
  if owner = 0 then s
  else modTen s (hIdx owner) (fun t =>
    { t with errQ := t.errQ.filter (fun e => !(decide (e.unit = unit) && decide (e.resource = resource))) })

end Sys2Proof.Machine
end

