-- ==== Sys2Proof/Machine/ColBase.lean ====
section
/-! DEFINITION. Packets in a Vale and Col cores and threads: how they are read and written, dropping a packet (R88), ending a family
(R106), notifications (R123), the record's access rules (R81). -/

namespace Sys2Proof.Machine

/-! ### Packets -/

def pktAt (s : State) (v : Vale) (i : Nat) : Option Packet := tget (s.vale v).path.packets i

def State.modPath (s : State) (v : Vale) (f : Path → Path) : State :=
  s.modVale v (fun x => { x with path := f x.path })

def setPkt (s : State) (v : Vale) (i : Nat) (p : Packet) : State :=
  s.modPath v (fun x => { x with packets := tset x.packets i p })

def modPkt (s : State) (v : Vale) (i : Nat) (f : Packet → Packet) : State :=
  match pktAt s v i with
  | some p => setPkt s v i (f p)
  | none => s

/-- Record word `i` of a packet. -/
def recAt (p : Packet) (i : Nat) : Word36 := tgetD p.words i 0

def recPut (p : Packet) (i : Nat) (w : Word36) : Packet := { p with words := tset p.words i w }

/-- Bits [lo + n - 1 : lo] of record word `i`. -/
def recBits (p : Packet) (i lo n : Nat) : Nat := bitsOf (recAt p i).toNat lo n

/-- The word with bits [lo + n - 1 : lo] replaced. -/
def putBits (w : Word36) (lo n x : Nat) : Word36 :=
  BitVec.ofNat 36 (w.toNat - bitsOf w.toNat lo n * 2 ^ lo + x % 2 ^ n * 2 ^ lo)

def recPutBits (p : Packet) (i lo n x : Nat) : Packet := recPut p i (putBits (recAt p i) lo n x)

/-- TENANCY of the record (R81). -/
def pktTen (p : Packet) : Handle := BitVec.ofNat 32 (recBits p 1 0 32)

/-- LENGTH of the frame in Basin. -/
def pktLen (p : Packet) : Nat := p.bytes.length

/-- Cells of a frame of `n` bytes (R78). -/
def cellsOf (n : Nat) : Nat := ceilDiv n 256

/-- The I bits of record words 0-15 (R81). -/
def iMask (i : Nat) : Word36 :=
  if i = 0 then 0xFFFFF3FFF else if i = 2 then 0x0FFFF1FFF else if i = 3 then 0xFFFFFFFFF
  else if i = 4 then 0x0FFFFFFFF else if i = 5 then 0x398000000 else if i = 13 then 0x0FFF00000 else 0

/-- The bits of record words 0-15 that are not reserved (R81). -/
def validMask (i : Nat) : Word36 :=
  if i = 0 then 0xFFFFF3FFF else if i = 1 then 0x0FFFFFFFF else if i = 2 then 0x0FFFF1FFF
  else if i = 3 then 0xFFFFFFFFF else if i = 4 then 0x0FFFFFFFF else if i = 5 then 0xFF8000000
  else if i = 6 then 0xFFFFFFFFF else if i = 7 then 0xFFFFFFFC0 else if i = 8 then 0x0FFFFFFFF
  else if i = 9 then 0x3FFFFFFFF else if i = 10 then 0x0FFFFFFFF else if i = 11 then 0x8FFFFFFFF
  else if i = 12 then 0xE0000FFFF else if i = 13 then 0xFFFFE0000 else if i = 14 then 0x0FFFFFFFF
  else if i = 15 then 0xFF0000000 else 0xFFFFFFFFF

/-- What a store leaves in record word `i`: I fields keep their value, reserved bits read zero (R81, R10, R145). -/
def storeMasked (i : Nat) (cur new : Word36) : Word36 :=
  if i < 16 then (cur &&& iMask i) ||| (new &&& (validMask i &&& ~~~ (iMask i))) else new

/-- The store tries to change an I bit (R81). -/
def roWrite (i : Nat) (cur new : Word36) : Bool := decide ((cur ^^^ new) &&& iMask i ≠ 0)

/-- A waiting packet takes a token that has become free, in arrival order (R110). -/
def giveToken (x : Path) : Path :=
  match x.noToken with
  | [] => x
  | i :: r =>
    if x.tokFresh < 8192 then
      { x with noToken := r, narrows := x.narrows ++ [i], tokFresh := x.tokFresh + 1,
               packets := tmod x.packets i {} (fun p => { p with token := some x.tokFresh }) }
    else
      match x.tokFree with
      | [] => x
      | t :: ts => { x with noToken := r, narrows := x.narrows ++ [i], tokFree := ts,
                            packets := tmod x.packets i {} (fun p => { p with token := some t }) }

/-- A token returns to Narrows (R111). -/
def freeToken (x : Path) (i : Nat) (p : Packet) : Path :=
  match p.token with
  | none => x
  | some t => giveToken { x with narrows := x.narrows.filter (fun j => decide (j ≠ i)), tokFree := x.tokFree ++ [t] }

/-- A packet moves to another unit of the path: its stamp orders it behind those that moved before. -/
def moveTo (s : State) (v : Vale) (i : Nat) (l : Loc) : State :=
  s.modPath v (fun x => { x with
    packets := tmod x.packets i {} (fun p => { p with loc := l, stamp := x.nextStamp })
    nextStamp := x.nextStamp + 1 })

/-- Of two packets the one that moved to its unit earlier. -/
def earlier (a b : Nat × Packet) : Nat × Packet := if b.2.stamp < a.2.stamp then b else a

/-- The packet that has been longest at a place of the path. -/
def oldestAt (s : State) (v : Vale) (l : Loc) : Option Nat :=
  match (s.vale v).path.packets.filter (fun q => decide (q.2.loc = l)) with
  | [] => none
  | q :: r => some (r.foldl earlier q).1

/-- The number of packets at a place of the path. -/
def countAt (s : State) (v : Vale) (l : Loc) : Nat :=
  ((s.vale v).path.packets.filter (fun q => decide (q.2.loc = l))).length

/-- The Basin cells of a packet are freed: with shared cells when the last copy frees them (R242). -/
def freeCells (x : Path) (p : Packet) : Path :=
  match p.share with
  | none => { x with basinFree := x.basinFree + p.cells }
  | some g =>
    match tget x.shares g with
    | none => x
    | some (n, c) =>
      if n ≤ 1 then { x with shares := terase x.shares g, basinFree := x.basinFree + c }
      else { x with shares := tset x.shares g (n - 1, c) }

/-- The traffic-manager queue that a place of the path belongs to. -/
def locQueue : Loc → Option Nat
  | .queued q => some q
  | .flood q => some q
  | .spilling q => some q
  | _ => none

/-- A packet leaves its traffic-manager queue. -/
def leaveQueue (x : TmState) (i : Nat) (p : Packet) : TmState :=
  match locQueue p.loc with
  | none => x
  | some q =>
    { x with queues := tmod x.queues q {} (fun y => { y with
        basin := y.basin.filter (fun j => decide (j ≠ i))
        flood := y.flood.filter (fun j => decide (j ≠ i))
        spilling := y.spilling && !(y.flood.filter (fun j => decide (j ≠ i))).isEmpty }) }

/-- The bytes a packet holds in the crossing FIFO (R71, R86). -/
def crossShare (p : Packet) : Nat := if p.loc = .crossing then p.bytes.length else 0

/-- A packet leaves the Vale: its cells, its token and its bytes in the crossing FIFO are free. -/
def removePkt (s : State) (v : Vale) (i : Nat) : State :=
  match pktAt s v i with
  | none => s
  | some p =>
    s.modVale v (fun x =>
      let y := freeCells (freeToken { x.path with
                 arrival := x.path.arrival.filter (fun j => decide (j ≠ i))
                 noToken := x.path.noToken.filter (fun j => decide (j ≠ i))
                 crossBytes := x.path.crossBytes - crossShare p } i p) p
      { x with
        path := { y with packets := terase y.packets i }
        tm := leaveQueue x.tm i p
        stage := { x.stage with order := x.stage.order.filter (fun j => decide (j ≠ i)) } })

/-- A drop from a queue counts among the queue's dropped packets (R228). -/
def countQueueDrop (s : State) (v : Vale) (p : Packet) : State :=
  match locQueue p.loc with
  | none => s
  | some q => s.modVale v (fun x => { x with tm := { x.tm with
      queues := tmod x.tm.queues q {} (fun y => { y with dropped := (y.dropped + 1) % 2 ^ 64 }) } })

/-- A drop for a stale generation counts against the tenancy's index as well (R33); a TENANCY that is no tenancy handle
has none. -/
def countStale (s : State) (v : Vale) (p : Packet) (reason : Nat) : State :=
  if reason = 0x06 ∧ handleFits (pktTen p) 1 then
    s.modPath v (fun x => { x with staleDrops := tset x.staleDrops (hIdx (pktTen p)) (tgetD x.staleDrops (hIdx (pktTen p)) 0 + 1) })
  else s

/-- A packet is dropped: its cells are freed at once and the drop is counted with its reason (R88), a stale one against
its tenancy too; a mirror copy is counted in MIRROR_REFUSED as well (R172). -/
def dropPkt (s : State) (v : Vale) (i reason : Nat) : State :=
  match pktAt s v i with
  | none => s
  | some p =>
    let s1 := countStale (count (removePkt (countQueueDrop s v p) v i) (vkey v 0x3004 reason)) v p reason
    if p.mirror then count s1 (vkey v 0x3070 0x08) else s1

/-- A copy's drop in one of the cases of R243 is counted in its group as well, while that group lasts. -/
def countCopyDrop (s : State) (h : Handle) : State :=
  if handleCurrent s h then
    let v : Vale := if hKind h = 0x17 then .west else .east
    s.modVale v (fun x => { x with tm := { x.tm with groups :=
      (match tget x.tm.groups (hIdx h) with
       | some g => tset x.tm.groups (hIdx h) { g with drops := (g.drops + 1) % 2 ^ 64 }
       | none => x.tm.groups) } })
  else s

/-- A drop that is one of the cases of R243: a stale member queue, an admission refused, a full crossing FIFO, an egress that is
down, reset or clamped. -/
def dropCopy (s : State) (v : Vale) (i reason : Nat) : State :=
  dropPkt (countCopyDrop s ((pktAt s v i).getD {}).group) v i reason

/-- Every packet that fits is dropped at its egress (R85). -/
def dropDown (s : State) (v : Vale) (f : Nat → Packet → Bool) : State :=
  ((s.vale v).path.packets.filter (fun q => f q.1 q.2)).foldl (fun a q => dropCopy a v q.1 0x0C) s

/-- Drops every packet of a Vale that `f` selects. -/
def dropWhere (s : State) (v : Vale) (f : Nat → Packet → Bool) (reason : Nat) : State :=
  ((s.vale v).path.packets.filter (fun q => f q.1 q.2)).foldl (fun a q => dropPkt a v q.1 reason) s

/-- TENANCY of the packet is current under R33: the operator, or a live tenancy's current handle. -/
def tenFresh (s : State) (h : Handle) : Bool := decide (h = 0) || tenCurrent s h

/-! ### Cores and threads -/

/-- A physical core at reset: 0-95 Active in the slot of their number, 96-99 Spare (R124). -/
def coreReset (n : Nat) : Core :=
  if n < 96 then { st := .active, slot := some n } else { st := .spare }

def coreOf (x : ColState) (n : Nat) : Core := tgetD x.cores n (coreReset n)

def coreAt (s : State) (v : Vale) (n : Nat) : Core := coreOf (s.vale v).col n

def State.modCol (s : State) (v : Vale) (f : ColState → ColState) : State :=
  s.modVale v (fun x => { x with col := f x.col })

def setCore (s : State) (v : Vale) (n : Nat) (c : Core) : State :=
  s.modCol v (fun x => { x with cores := tset x.cores n c })

def modCore (s : State) (v : Vale) (n : Nat) (f : Core → Core) : State := setCore s v n (f (coreAt s v n))

def threadOf (c : Core) (t : Nat) : Thread := tgetD c.threads t {}

def thrAt (s : State) (th : Thr) : Thread := threadOf (coreAt s th.v th.core) th.t

def setThr (s : State) (th : Thr) (x : Thread) : State :=
  modCore s th.v th.core (fun c => { c with threads := tset c.threads th.t x })

def modThr (s : State) (th : Thr) (f : Thread → Thread) : State := setThr s th (f (thrAt s th))

/-- The bank a thread runs from. -/
def bankOf (c : Core) (b : Bool) : Option Image := if b then c.bank1 else c.bank0

def setBank (c : Core) (b : Bool) (i : Option Image) : Core := if b then { c with bank1 := i } else { c with bank0 := i }

def timerOf (c : Core) (i : Nat) : Timer := tgetD c.timers i {}
def edOf (c : Core) (i : Nat) : EdgeDet := tgetD c.eds i {}

/-- The members of the family of packet `i` in a core: thread numbers. -/
def familyOf (c : Core) (i : Nat) : List Nat := (List.range 8).filter (fun t => decide ((threadOf c t).pkt = some i))

/-- The live children of thread `t` (R105). -/
def childrenOf (c : Core) (t : Nat) : List Nat :=
  (List.range 8).filter (fun k => decide ((threadOf c k).parent = some t) && decide ((threadOf c k).st ≠ .free))

/-- A packet thread that can take a packet: Free, its buffer empty, in use (R93, R106, R127). -/
def threadFree (c : Core) (t : Nat) : Bool :=
  decide (1 ≤ t) && decide ((threadOf c t).st = .free) && (threadOf c t).sb.isEmpty && !(threadOf c t).off

/-- A notification (R123); with 16 queued it is discarded and counted. -/
def pushNote (s : State) (v : Vale) (n : Nat) (ws : List Word36) : State :=
  let c := coreAt s v n
  if c.notes.length < 16 then setCore s v n { c with notes := c.notes ++ [ws] }
  else count s (vkey v 0x3013 0x41)

/-- The four words of a notification (R123). -/
def noteWords (kind thread code pc : Nat) (p : Packet) (detail : Nat) : List Word36 :=
  [BitVec.ofNat 36 (kind * 2 ^ 32 + thread * 2 ^ 29 + code * 2 ^ 21 + pc % 2 ^ 14),
   BitVec.ofNat 36 (recBits p 0 33 3 * 2 ^ 33 + recBits p 2 0 13 * 2 ^ 16 + recBits p 0 16 16),
   BitVec.ofNat 36 (recBits p 1 0 32),
   BitVec.ofNat 36 detail]

/-- A thread whose family has ended: Free; its data-memory stores stay in the buffer and drain (R106). -/
def threadEnded (x : Thread) : Thread :=
  { x with st := .free, pkt := none, parent := none, grant := none, drop := false, wait := {},
           sb := x.sb.filter (fun e => !e.toRec) }

/-- Every member of the family of packet `i` is Free. -/
def freeFamily (s : State) (v : Vale) (n i : Nat) : State :=
  modCore s v n (fun c =>
    let ts := (familyOf c i).foldl (fun ts t => tset ts t (threadEnded (tgetD ts t {}))) c.threads
    { c with threads := ts })

/-- The reason of a drop at release: tail timeout goes before watchdog and fault (R109). -/
def endReason (s : State) (v : Vale) (i reason : Nat) : Nat :=
  match pktAt s v i with
  | some p => if p.discarded then 0x04 else reason
  | none => reason

/-- A family ends (R106, R107): every member Free, the token released as a drop. -/
def endFamily (s : State) (v : Vale) (n i reason : Nat) : State :=
  dropPkt (freeFamily s v n i) v i (endReason s v i reason)

/-- The fault codes (R106, R142). -/
inductive FaultCode where
  | hdrEnd | hdrWait | hdrRange | hdrStore | tblWait | recOwn | family | dmemRange | imemRange | illegal | supOnly
  | parity | recRange | tblAccess | tblKey | align | ctlRange | imemAddr | noPacket | forkRange
deriving DecidableEq, Repr

def faultNum : FaultCode → Nat
  | .hdrEnd => 0x01 | .hdrWait => 0x02 | .hdrRange => 0x03 | .hdrStore => 0x04 | .tblWait => 0x05
  | .recOwn => 0x06 | .family => 0x07 | .dmemRange => 0x08 | .imemRange => 0x09 | .illegal => 0x0A
  | .supOnly => 0x0B | .parity => 0x0C | .recRange => 0x20 | .tblAccess => 0x21 | .tblKey => 0x22
  | .align => 0x23 | .ctlRange => 0x24 | .imemAddr => 0x25 | .noPacket => 0x26 | .forkRange => 0x27

/-- The order of R505. -/
def faultOrder : List FaultCode :=
  [.parity, .imemRange, .illegal, .supOnly, .noPacket, .family, .align, .forkRange, .recRange, .dmemRange,
   .hdrRange, .imemAddr, .ctlRange, .hdrStore, .tblAccess, .tblKey, .recOwn, .hdrEnd]

/-- The first fault that applies in the order of R505. -/
def firstFault (cs : List (FaultCode × Bool)) : Option FaultCode :=
  faultOrder.find? (fun f => cs.any (fun c => decide (c.1 = f) && c.2))

/-! ### The pools of packet threads (R28, R29) -/

/-- Packet threads of a Vale in use: those of filled slots, less the ones out of use. -/
def packetThreads (x : ColState) : Nat :=
  (List.range 100).foldl (fun n i =>
    let c := coreOf x i
    if c.slot.isSome && decide (c.st = .active) then
      n + (List.range 7).foldl (fun k t => if (threadOf c (t + 1)).off then k else k + 1) 0
    else n) 0

/-- A filled logical slot. -/
def slotFilled (c : Core) : Bool := c.slot.isSome && decide (c.st = .active) && !c.draining

/-- Cores in state Active (COL_ACTIVE). -/
def coresIn (x : ColState) (st : CoreSt) : Nat :=
  (List.range 100).foldl (fun n i => if (coreOf x i).st = st then n + 1 else n) 0

/-- LINE_RATE_OK: condition 2 of R90. -/
def lineRateOk (x : ColState) : Bool :=
  decide (96 ≤ (List.range 100).foldl (fun n i => if slotFilled (coreOf x i) then n + 1 else n) 0)

/-- The sum of the static shares in a Vale. -/
def staticSum (s : State) (v : Vale) : Nat :=
  s.tens.foldl (fun n p => if p.2.dyn then n else n + (match v with | .east => p.2.shareEast | .west => p.2.shareWest)) 0

/-- The size of the operator pool (R28, R29): up to 96 of the threads beyond the static reservations. -/
def operPoolSize (s : State) (v : Vale) : Nat := min 96 (packetThreads (s.vale v).col - staticSum s v)

/-- COL_POOL_SHORT is raised when the operator pool holds fewer than 96 threads (R29). -/
def poolShortEvent (s : State) (v : Vale) : State :=
  if operPoolSize s v < 96 then
    raise s { cls := 2, name := "COL_POOL_SHORT", unit := regionId (1 + valeNum v), level := 3,
              detail := packetThreads (s.vale v).col }
  else s

/-- The operator pool has become smaller: COL_POOL_SHORT where it is short (R29). -/
def afterShare (old s : State) (v : Vale) : State :=
  if operPoolSize s v < operPoolSize old v then poolShortEvent s v else s

/-- The pool a tenancy's packets take threads from (R28). -/
def poolOf (s : State) (h : Handle) : Pool :=
  if h = 0 then .operator
  else match tenAt s (hIdx h) with
    | some t => if t.dyn then .dynamic ⟨hIdx h % 256, Nat.mod_lt _ (by decide)⟩
                else .static ⟨hIdx h % 256, Nat.mod_lt _ (by decide)⟩
    | none => .operator

/-- The pool that a packet on a thread is charged to: wire traffic of a shared port to the operator's until the program
stamps the tenancy, and to that tenancy's from then on (R27). -/
def chargedTo (s : State) (p : Packet) : Option Pool :=
  if p.pool = some .operator ∧ p.srcClass = 0 ∧ p.recirc = 0 ∧ p.preset = 0 ∧ tenCurrent s (pktTen p) then
    some (poolOf s (pktTen p))
  else p.pool

/-- Threads that hold packets charged to a pool (R27). -/
def poolUse (s : State) (v : Vale) (p : Pool) : Nat :=
  (s.vale v).col.cores.foldl (fun n c =>
    c.2.threads.foldl (fun k t =>
      match t.2.pkt with
      | some i => (match pktAt s v i with
        | some q => if chargedTo s q = some p then k + 1 else k
        | none => k)
      | none => k) n) 0

/-- A tenancy's static share in a Vale. -/
def shareOf (t : Tenancy) : Vale → Nat
  | .east => t.shareEast
  | .west => t.shareWest

/-- Threads that the pools of others leave to dynamic tenancies (R28). -/
def dynPoolSize (s : State) (v : Vale) : Nat :=
  packetThreads (s.vale v).col - staticSum s v - operPoolSize s v

/-- Threads held by all dynamic tenancies. -/
def dynUse (s : State) (v : Vale) : Nat :=
  s.tens.foldl (fun n p => if p.2.dyn then n + poolUse s v (.dynamic ⟨p.1 % 256, Nat.mod_lt _ (by decide)⟩) else n) 0

/-- How many threads a static share lets its tenancy hold (R27): the share itself, or its proportion of the threads where
there are fewer of them than the static reservations (R29; a proportion is cut to a whole number, log entry 73). -/
def staticLimit (s : State) (v : Vale) (t : Tenancy) : Nat :=
  if packetThreads (s.vale v).col < staticSum s v then
    shareOf t v * packetThreads (s.vale v).col / staticSum s v
  else shareOf t v

/-- Reserved threads that their owners leave idle (R28). -/
def idleReserved (s : State) (v : Vale) : Nat :=
  s.tens.foldl (fun n p => if p.2.dyn then n else
    n + (staticLimit s v p.2 - poolUse s v (.static ⟨p.1 % 256, Nat.mod_lt _ (by decide)⟩))) 0

/-- Threads lent beyond a pool's own size: to the operator pool and to dynamic tenancies. -/
def lentThreads (s : State) (v : Vale) : Nat :=
  (poolUse s v .operator - operPoolSize s v) + (dynUse s v - dynPoolSize s v)

/-- The pool may take one more thread: its own size, or, outside a static share, which is a limit (R27, R114), a reserved
thread left idle and lent (R28). -/
def poolHasThread (s : State) (v : Vale) (p : Pool) : Bool :=
  let lent := decide (lentThreads s v < idleReserved s v)
  match p with
  | .operator => decide (poolUse s v .operator < operPoolSize s v) || lent
  | .static t => (match tenAt s t with
      | some x => decide (poolUse s v p < staticLimit s v x)
      | none => false)
  | .dynamic _ => decide (dynUse s v < dynPoolSize s v) || lent

end Sys2Proof.Machine
end

