-- ==== Sys2Proof/Machine/FailStop.lean ====
section
/-! DEFINITION. Fail-stop (R479): the state every unit is in by its end. -/

namespace Sys2Proof.Machine

/-! ### Functions and their AER capability (R302) -/

def fnOf (s : State) (f : Nat) : HostFn := tgetD s.host.fns f {}

def setFn (s : State) (f : Nat) (x : HostFn) : State := { s with host := { s.host with fns := tset s.host.fns f x } }

def modFn (s : State) (f : Nat) (g : HostFn → HostFn) : State := setFn s f (g (fnOf s f))

/-- A message on the host link outside the arbiters (R301). -/
def pushMsg (s : State) (m : HMsg) : State := { s with host := { s.host with msgs := keep 16 (m :: s.host.msgs) } }

/-- A function signals an error as its enables allow (R302): severity 0 correctable, 1 non-fatal, 2 fatal. -/
def sendErr (s : State) (f severity : Nat) : State :=
  if s.host.link ≠ 0 ∧ bitOf (fnOf s f).errEn severity then pushMsg s (.err f severity) else s

/-- A correctable condition is logged in a function. -/
def aerCor (s : State) (f bit : Nat) : State :=
  let s1 := modFn s f (fun x => { x with cor := x.cor ||| 2 ^ bit })
  if bitOf (fnOf s f).corMask bit then s1 else sendErr s1 f 0

/-- An uncorrectable condition is logged in a function: its bit, and while no other is logged its number, the header and the
TLP prefixes (free values); a header log in use counts as full (bit 15). -/
def aerUnc (s : State) (f bit : Nat) : State :=
  let x := fnOf s f
  let d := drawFree s (2 ^ 128)
  let g := drawFree d.2 (2 ^ 128)
  let s1 := if x.unc = 0 then setFn g.2 f { x with first := bit, unc := 2 ^ bit, hdr := d.1, tlpPrefix := g.1 }
    else aerCor (setFn s f { x with unc := x.unc ||| 2 ^ bit }) f 15
  if bitOf x.uncMask bit then s1 else sendErr s1 f (if bitOf x.sev bit then 2 else 1)

/-- A Vale in fail-stop: every packet inside is dropped with reason 0x0D. -/
def failStopVale (s : State) (v : Vale) : State := dropWhere s v (fun _ _ => true) 0x0D

/-- Fabric, storage and Steppe in fail-stop: ports held in reset and clamped, CSTS.CFS set, harts stopped. -/
def failStopUnits (s : State) : State :=
  { s with
    saddle := { s.saddle with
      slots := tmap s.saddle.slots (fun _ x => { x with clampN := false })
      ports := tmap s.saddle.ports (fun _ x => { x with perstN := false, link := false }) }
    nv := { s.nv with ctrls := tmap s.nv.ctrls (fun _ c => { c with cfs := true }) }
    ctl := { s.ctl with harts := tmap s.ctl.harts (fun _ h => { h with run := false, stopped := true }) } }

/-- Every physical function logs the halt as an uncorrectable internal error (R302). -/
def failStopAer (s : State) : State := (List.range 4).foldl (fun a f => aerUnc a f 22) s

/-- The always-on record of a chip-level error (R478). -/
def aonChip (r : ErrRec) (s : State) : State := aonRecord s r.unit r.cause 4 s.clk.rtc

/-- Fail-stop begins (R479); where it is in force already nothing more happens (R472). Every function counts as halted
with HALT_REASON 3 from then on. When the vault is the cause every session ends. -/
def enterFailStop (r : ErrRec) (s : State) : State :=
  if s.err.failStop then aonChip r s
  else
    let byVault := decide (r.unit / 0x1000000 % 16 = 7)
    let s1 := failStopAer (failStopUnits (failStopVale (failStopVale (aonChip r s) .east) .west))
    { s1 with
      err := { s1.err with failStop := true, firstWord := r.seq, vaultCause := byVault }
      idien := if byVault then keepSessions s1.idien (fun _ _ => false) else s1.idien }

end Sys2Proof.Machine
end

