-- ==== Sys2Proof/Machine/CondLines.lean ====
section
/-! DEFINITION. The condition lines of the edge detectors (R121, R122, R250), with the state they read: link up, queue depth,
Saddle slots and COND_SW. -/

namespace Sys2Proof.Machine

/-! ### What the lines read -/

def queueKind (v : Vale) : Nat := 0x10 + valeNum v
def tmQueue (s : State) (v : Vale) (q : Nat) : TmQueue := tgetD (s.vale v).tm.queues q {}

/-- Cells of a list of packets. -/
def cellsIn (s : State) (v : Vale) (l : List Nat) : Nat :=
  l.foldl (fun n i => n + cellsOf (match pktAt s v i with | some p => p.bytes.length | none => 0)) 0

def queueDepth (s : State) (v : Vale) (x : TmQueue) : Nat := cellsIn s v x.basin + cellsIn s v x.flood

def slotOf (s : State) (q : Nat) : Slot := tgetD s.saddle.slots q {}

/-- SLOT_MODE of a slot. -/
def slotMode (s : State) (q : Nat) : Nat := numD s (okey 0x6800 q) 0

/-- The port is formed (R249). -/
def portFormedSaddle (s : State) (p : Nat) : Bool :=
  if p % 2 = 0 then decide (slotMode s (p / 2) = 1 ∨ slotMode s (p / 2) = 2) else decide (slotMode s (p / 2) = 2)

/-! ### Levels -/

/-- A record of COND_QUEUE. -/
def condRec (s : State) (v : Vale) (k : Nat) : Nat := numD s (vkey v 0x3015 k) 0

/-- The level of queue-threshold line 8 + `k` (R122): high once the depth reaches `on`, low once it is at `off` or below,
and between them as it stood; low for handle 0 and for a queue destroyed after the write. -/
def queueLine (s : State) (v : Vale) (k : Nat) : Bool :=
  let r := condRec s v k
  let h : Handle := BitVec.ofNat 32 (recField 12 0 4 r)
  let d := queueDepth s v (tmQueue s v (hIdx h))
  handleFits h (queueKind v) && handleCurrent s h &&
    (if recField 12 4 4 r ≤ d then true else if d ≤ recField 12 8 4 r then false else (s.vale v).col.queueLines.contains k)

/-- The queue-threshold lines are taken over as they stand: at each point where a depth may rise. -/
def sampleLines (s : State) (v : Vale) : State :=
  let l := (List.range 32).filter (queueLine s v)
  s.modCol v (fun x => { x with queueLines := l })

/-- The level of a condition line (R121, R250). -/
def lineLevel (s : State) (v : Vale) (line : Nat) : Bool :=
  if line < 8 then (s.vale v).path.linkUp.getLsbD line
  else if line < 40 then queueLine s v (line - 8)
  else if line < 48 then
    let p := line - 40
    portFormedSaddle s p && (tgetD s.saddle.ports p {}).link && (decide (p % 2 = 1) || decide ((slotOf s (p / 2)).st = .ready))
  else if line < 56 then bitOf (numD s (vkey v 0x3016 1) 0) (line - 48)
  else false

end Sys2Proof.Machine
end

