-- ==== Sys2Proof/Machine/ColCore.lean ====
section
/-! DEFINITION. Col cores as units: substitution (R125), leaving the ring, retirement, errors of a core (R119, R127, R143, R472). -/

namespace Sys2Proof.Machine

/-- The flags and registers of a thread at its start (R132). -/
def freshThread (x : Thread) : Thread := { st := .running, off := x.off, parity := x.parity }

/-- Timers of an image (R149). -/
def imageTimers (i : Image) : Tab Timer :=
  (List.range 4).map (fun k =>
    let c := i.tmrCtrl.getD k 0
    let p := i.tmrPeriod.getD k 0
    (k, { period := p, en := bitOf c 7, periodic := bitOf c 6, slot := bitsOf c 0 4 }))

/-- Edge detectors of an image (R149). -/
def imageEds (i : Image) : Tab EdgeDet :=
  (List.range 8).map (fun k =>
    let c := i.edCtrl.getD k 0
    (k, { en := bitOf c 15, edge := bitsOf c 13 2, line := bitsOf c 6 6, slot := bitsOf c 0 4 }))

/-- The image a core is brought into service with: of epoch N, and of N+1 during Retiring (R154). -/
def serviceImage (s : State) (v : Vale) : Option Image :=
  let x := (s.vale v).col
  match s.epoch.st with
  | .retiring => (match x.staged with | some i => some i | none => x.active)
  | _ => x.active

/-- Steps 1 to 3 of R125 on a core: data memory, timers and detectors from the image, latches clear, and the supervisor
starts at sup_entry. -/
def startCore (c : Core) (i : Image) : Core :=
  let sup := freshThread (threadOf c 0)
  { c with
    dmem := i.dmem
    timers := imageTimers i
    eds := imageEds i
    latchTmr := 0
    latchEd := 0
    notes := []
    supBank := c.cur
    threads := tset c.threads 0 { sup with pc := i.supEntry, bank := c.cur } }

/-- A timer that starts counts its period from now (R120); a detector knows the level its line has now (R121). -/
def startTimer (s : State) (t : Timer) : Timer := { t with due := s.time.ticks + t.period }
def startEd (s : State) (v : Vale) (e : EdgeDet) : EdgeDet := { e with seen := lineLevel s v e.line }

/-- A core starts from an image: as `startCore`, its timers and detectors from this moment on. -/
def startCoreAt (s : State) (v : Vale) (c : Core) (i : Image) : Core :=
  { startCore c i with
    timers := tmap (imageTimers i) (fun _ t => startTimer s t)
    eds := tmap (imageEds i) (fun _ e => startEd s v e) }

/-- The lowest-numbered Spare that is not already being substituted, its group not off (R461). -/
def findSpare (s : State) (v : Vale) : Option Nat :=
  let x := (s.vale v).col
  (List.range 100).find? (fun n => decide ((coreOf x n).st = .spare) && decide ((coreOf x n).substFor = none)
    && decide ((domOf s (colDom v n)).st ≠ 0))

/-- A group in retention is turned on before its Spares are substituted (R461). -/
def groupOn (s : State) (v : Vale) (n : Nat) : State :=
  if (domOf s (colDom v n)).st = 1 then setDom s (colDom v n) { st := 2 } else s

/-- A Spare starts substituting for logical slot `slot` (R125 steps 1-3). -/
def startSubst (s : State) (v : Vale) (slot : Nat) : State :=
  match findSpare s v with
  | none => s
  | some n =>
    modCore (groupOn s v n) v n (fun c =>
      match serviceImage s v with
      | some i => { startCoreAt s v c i with substFor := some slot }
      | none => { c with substFor := some slot })

/-- Every family in a core ends, its packets dropped with reason 0x02. -/
def endFamilies (s : State) (v : Vale) (n : Nat) : State :=
  (List.range 8).foldl (fun a t =>
    match (threadOf (coreAt a v n) t).pkt with
    | some i => endFamily a v n i 0x02
    | none => a) s

/-- A core's supervisor, timers and detectors stop; latches, notifications and queued STIMs are discarded (R126). -/
def stopSup (c : Core) : Core :=
  { c with
    threads := tmod c.threads 0 {} (fun x => { x with st := .free, sb := [] })
    latchTmr := 0
    latchEd := 0
    notes := []
    stimQ := [] }

/-- Starts the test of a core that waits for one, when no test runs in the chip (R126, R127). -/
def testIdle (s : State) : Bool := decide (s.east.col.testSt = 0) && decide (s.west.col.testSt = 0)

/-- An automatic test of a core under R127: it starts when no test runs in the chip, else it waits. A core whose own
commanded test is draining goes over to Testing, and one that is under test or waits already does not wait again. -/
def queueTest (s : State) (v : Vale) (n : Nat) : State :=
  let x := (s.vale v).col
  if testIdle s then s.modCol v (fun x => { x with testSt := 2, testCore := n, testStart := tickNs s })
  else if x.testSt ≠ 0 ∧ x.testCore = n then s.modCol v (fun x => { x with testSt := 2 })
  else if x.testQueue.contains n then s
  else s.modCol v (fun x => { x with testQueue := x.testQueue ++ [n] })

/-- The next core that waits for a test starts it. -/
def nextTest (s : State) (v : Vale) : State :=
  if testIdle s then
    match (s.vale v).col.testQueue with
    | [] => s
    | n :: r => s.modCol v (fun x => { x with testSt := 2, testCore := n, testQueue := r, testStart := tickNs s })
  else s

/-- The logical slot a core fills, or is about to fill as a substitute. -/
def slotServed (c : Core) : Option Nat := match c.slot with | some k => some k | none => c.substFor

/-- The core leaves the ring at once and every family in it ends; a Spare, when one exists, is substituted, for a substitute
that was still loading as well (R127). -/
def leaveRing (s : State) (v : Vale) (n : Nat) (st : CoreSt) : State :=
  let slot := slotServed (coreAt s v n)
  let s1 := endFamilies s v n
  let s2 := modCore s1 v n (fun c => { stopSup c with st := st, slot := none, draining := false, substFor := none })
  match slot with
  | some k => startSubst s2 v k
  | none => s2

/-- The block of a core error. -/
def coreErr (v : Vale) (n : Nat) (k : ErrKind) (cause detail : Nat) : ErrDesc :=
  { kind := k, region := 1 + valeNum v, block := n, cause := cause, detail := detail,
    code := fun l => if l = 4 then 6 else if l = 3 then 3 else 2 }

/-- The region row of R127: the Vale continues with one slot fewer. -/
def coreRegionAct (v : Vale) (_ : ErrKind) (l : Nat) (r : ErrRec) (s : State) : State :=
  if l = 4 then enterFailStop r s else poolShortEvent s v

/-- The actions on an error of core `n`: at block level R127; escalated to the region it is retired without test (R472);
at chip level fail-stop. Without a Spare the region row of R127 applies. -/
def coreAct (v : Vale) (n : Nat) (k : ErrKind) (l : Nat) (r : ErrRec) (s : State) : State :=
  if l = 4 then enterFailStop r s
  else
    let short := (slotServed (coreAt s v n)).isSome && decide (findSpare s v = none)
    let s1 := if l = 3 then
        (let a := leaveRing s v n .retired
         let b := a.modCol v (fun x =>
           { x with testQueue := x.testQueue.filter (fun m => decide (m ≠ n)),
                    testSt := if x.testSt = 2 ∧ x.testCore = n then 0 else x.testSt })
         raise b { cls := 2, name := "COL_RETIRED", unit := valeBlock v n, level := 3, errSeq := r.seq })
      else
        raise (queueTest (leaveRing s v n .testing) v n)
          { cls := 2, name := "COL_REPLACED", unit := valeBlock v n, level := 2, errSeq := r.seq }
    if short then arrive (coreRegionAct v) { coreErr v n k 9 0 with unit := some (valeBlock v n) } 3 s1 else s1

/-- A block-level error of a core: supervisor fault, handler limit, double-bit error (R119, R127, R143). -/
def coreBlockError (s : State) (v : Vale) (n : Nat) (k : ErrKind) (cause detail : Nat) : State :=
  arrive (coreAct v n) (coreErr v n k cause detail) 2 s

/-! ### Faults -/

/-- A fault of a thread (R106, R119, R143): of a packet thread it ends the family with reason 0x02, is counted in
COL_FAULTS and notified with kind 1; of the supervisor thread it is a block-level error of the core. -/
def colFault (s : State) (th : Thr) (f : FaultCode) (detail : Nat) : State :=
  let x := thrAt s th
  let s1 := count s (vkey th.v 0x3013 (faultNum f))
  match x.pkt with
  | some i =>
    let p := (pktAt s th.v i).getD {}
    pushNote (endFamily s1 th.v th.core i 0x02) th.v th.core (noteWords 1 th.t (faultNum f) x.pc p detail)
  | none => coreBlockError s1 th.v th.core (.colSupervisor th.v th.core (faultNum f)) 4 (faultNum f)

/-- The DETAIL of a fault code (R123) from the candidates of the instruction. -/
def faultDetail (f : FaultCode) (hdr dmem : Nat) : Nat :=
  match f with
  | .hdrEnd | .hdrRange => hdr
  | .dmemRange => dmem
  | _ => 0

end Sys2Proof.Machine
end

