-- ==== Sys2Proof/Machine/Flags.lean ====
section
/-! DEFINITION. The flag computations of the Col cores (R132, R133) and the arithmetic they go with. -/

namespace Sys2Proof.Machine

/-- ZNCV of an addition (R132, R135): carry out of bit 35, signed overflow. -/
def addFlags (a b : Word36) (x : Thread) : Thread :=
  let r := a + b
  { x with z := decide (r = 0), n := r.msb, c := decide (2 ^ 36 ≤ a.toNat + b.toNat),
           v := decide (a.msb = b.msb) && decide (r.msb ≠ a.msb) }

/-- ZNCV of a subtraction or compare: C is the borrow (R132). -/
def subFlags (a b : Word36) (x : Thread) : Thread :=
  let r := a - b
  { x with z := decide (r = 0), n := r.msb, c := decide (a.toNat < b.toNat),
           v := decide (a.msb ≠ b.msb) && decide (r.msb ≠ a.msb) }

/-- ZN of a result (R132). -/
def znFlags (r : Word36) (x : Thread) : Thread := { x with z := decide (r = 0), n := r.msb }

/-- The conditions of field A (R133). -/
def condHolds (a : BitVec 4) (x : Thread) : Bool :=
  match a.toNat with
  | 0 => true
  | 1 => x.z
  | 2 => !x.z
  | 3 => x.c
  | 4 => !x.c
  | 5 => x.n != x.v
  | 6 => x.n == x.v
  | 7 => x.z || (x.n != x.v)
  | 8 => !x.z && (x.n == x.v)
  | 9 => x.n
  | 10 => !x.n
  | 11 => x.v
  | 12 => x.m
  | 13 => !x.m
  | 14 => x.e
  | _ => !x.e

/-- Left shift; 0 when the amount is 36 or more (R135). -/
def shl36 (a : Word36) (k : Nat) : Word36 := if 36 ≤ k then 0 else a <<< k

/-- Logical right shift, as shl. -/
def shr36 (a : Word36) (k : Nat) : Word36 := if 36 ≤ k then 0 else a >>> k

/-- Arithmetic right shift; amounts of 36 or more give the sign in every bit. -/
def sar36 (a : Word36) (k : Nat) : Word36 := a.sshiftRight (if 36 ≤ k then 36 else k)

/-- One bit step of CRC-32C in reflected form. -/
def crcBit (c : BitVec 32) : BitVec 32 := if c.getLsbD 0 then (c >>> 1) ^^^ 0x82F63B78#32 else c >>> 1

/-- CRC-32C state advanced over one byte, with no inversion (R135). -/
def crcByte (c : BitVec 32) (b : Byte) : BitVec 32 :=
  crcBit (crcBit (crcBit (crcBit (crcBit (crcBit (crcBit (crcBit (c ^^^ b.zeroExtend 32))))))))

/-- CRC-32C state advanced over bytes. -/
def crcBytes (c : BitVec 32) (bs : List Byte) : BitVec 32 := bs.foldl crcByte c

/-- CRC-32C with the standard seed and final inversion (R149). -/
def crc32c (bs : List Byte) : BitVec 32 := ~~~ (crcBytes 0xFFFFFFFF#32 bs)

/-- Nonet `i` of a word (R9). -/
def nonetAt (w : Word36) (i : Nat) : Nonet := w.extractLsb' (27 - 9 * i) 9

/-- The data bytes of nonets 0-3, nonet 0 most significant (R135 pack). -/
def packWord (w : Word36) : Word36 :=
  ((nonetAt w 0).extractLsb' 0 8 ++ (nonetAt w 1).extractLsb' 0 8 ++ (nonetAt w 2).extractLsb' 0 8
    ++ (nonetAt w 3).extractLsb' 0 8 : BitVec 32).zeroExtend 36

/-- At least one nonet carries its mark bit. -/
def anyMark (w : Word36) : Bool := w.getLsbD 35 || w.getLsbD 26 || w.getLsbD 17 || w.getLsbD 8

/-- Four bytes to unmarked nonets (R135 unpk). -/
def unpackWord (w : Word36) : Word36 :=
  (0#1 ++ w.extractLsb' 24 8 ++ 0#1 ++ w.extractLsb' 16 8 ++ 0#1 ++ w.extractLsb' 8 8 ++ 0#1 ++ w.extractLsb' 0 8 :
    BitVec 36)

/-- A word's low 32 bits as four bytes, most significant first. -/
def wordBytes (w : Word36) : List Byte :=
  [w.extractLsb' 24 8, w.extractLsb' 16 8, w.extractLsb' 8 8, w.extractLsb' 0 8]

end Sys2Proof.Machine
end

