-- ==== Sys2Proof/Machine/ColWord.lean ====
section
/-! DEFINITION. Instruction words of the Col cores (R129, R130, R135-R141): the fields of a word, the instruction that it is, the
word of an instruction, and the word that a thread fetches. -/

namespace Sys2Proof.Machine

/-- A word from its fields OP, A, B, C and D (R129). -/
def colFields (op : BitVec 6) (a b c : BitVec 4) (d : BitVec 18) : Word36 := op ++ a ++ b ++ c ++ d

/-- Opcode 0o01 (R135): the function code of D[5:0], with D[17:6] zero. -/
def aluInstr (th : Thr) (a b c : BitVec 4) (d : BitVec 18) (w : Word36) : Instr :=
  match d.toNat with
  | 0o00 => .add th a b c
  | 0o01 => .sub th a b c
  | 0o02 => .and_ th a b c
  | 0o03 => .or_ th a b c
  | 0o04 => .xor th a b c
  | 0o05 => .shl th a b c
  | 0o06 => .shr th a b c
  | 0o07 => .sar th a b c
  | 0o10 => .minu th a b c
  | 0o11 => .maxu th a b c
  | 0o12 => .cmp th b c
  | 0o13 => .tst th b c
  | 0o14 => .mul th a b c
  | 0o15 => .mov th a b
  | 0o16 => .pack th a b
  | 0o17 => .unpk th a b
  | 0o20 => .crc th a b c
  | _ => .illegal th w

/-- The instruction that a word is (R129, R130): fields that it does not use are ignored; an opcode or a function code that the
chapter does not list is an undefined encoding. -/
def colInstr (th : Thr) (w : Word36) : Instr :=
  let a := w.extractLsb' 26 4
  let b := w.extractLsb' 22 4
  let c := w.extractLsb' 18 4
  let d := w.extractLsb' 0 18
  match (w.extractLsb' 30 6).toNat with
  | 0o01 => aluInstr th a b c d w
  | 0o02 => .addi th a b d
  | 0o03 => .andi th a b d
  | 0o04 => .ori th a b d
  | 0o05 => .xori th a b d
  | 0o06 => .shli th a b d
  | 0o07 => .shri th a b d
  | 0o10 => .sari th a b d
  | 0o11 => .cmpi th b d
  | 0o12 => .mvi th a d
  | 0o13 => .lui th a d
  | 0o14 => .ext th a b d
  | 0o15 => .ins th a b d
  | 0o16 => .tsti th b d
  | 0o20 => .ldh th a b c d
  | 0o21 => .prb th a b c d
  | 0o22 => .ldr th a b d
  | 0o23 => .str th a b d
  | 0o24 => .rbs th d
  | 0o25 => .rbc th d
  | 0o26 => .ldd th a b c d
  | 0o27 => .std th a b c d
  | 0o30 => .xadd th a b c d
  | 0o31 => .fence th
  | 0o32 => .br th a d
  | 0o33 => .cbeq th b c d
  | 0o34 => .cbne th b c d
  | 0o35 => .call th a d
  | 0o36 => .jr th b
  | 0o37 => .jtab th b c d
  | 0o40 => .fork th a b c d
  | 0o41 => .join th
  | 0o42 => .release th d
  | 0o43 => .end_ th
  | 0o44 => .tlk th a b c d
  | 0o50 => .mfc th a d
  | 0o51 => .mtc th b d
  | 0o52 => .wait th
  | 0o54 => .npop th a
  | 0o55 => .ldim th a b d
  | 0o56 => .stim th a b d
  | 0o57 => .synci th
  | 0o61 => .nop th
  | _ => .illegal th w

/-- The word of an instruction, as assemblers write it: zero in the fields that it does not use (R130). -/
def colWord : Instr → Option (Thr × Word36)
  | .add th a b c => some (th, colFields 0o01 a b c 0o00)
  | .sub th a b c => some (th, colFields 0o01 a b c 0o01)
  | .and_ th a b c => some (th, colFields 0o01 a b c 0o02)
  | .or_ th a b c => some (th, colFields 0o01 a b c 0o03)
  | .xor th a b c => some (th, colFields 0o01 a b c 0o04)
  | .shl th a b c => some (th, colFields 0o01 a b c 0o05)
  | .shr th a b c => some (th, colFields 0o01 a b c 0o06)
  | .sar th a b c => some (th, colFields 0o01 a b c 0o07)
  | .minu th a b c => some (th, colFields 0o01 a b c 0o10)
  | .maxu th a b c => some (th, colFields 0o01 a b c 0o11)
  | .cmp th b c => some (th, colFields 0o01 0 b c 0o12)
  | .tst th b c => some (th, colFields 0o01 0 b c 0o13)
  | .mul th a b c => some (th, colFields 0o01 a b c 0o14)
  | .mov th a b => some (th, colFields 0o01 a b 0 0o15)
  | .pack th a b => some (th, colFields 0o01 a b 0 0o16)
  | .unpk th a b => some (th, colFields 0o01 a b 0 0o17)
  | .crc th a b c => some (th, colFields 0o01 a b c 0o20)
  | .addi th a b d => some (th, colFields 0o02 a b 0 d)
  | .andi th a b d => some (th, colFields 0o03 a b 0 d)
  | .ori th a b d => some (th, colFields 0o04 a b 0 d)
  | .xori th a b d => some (th, colFields 0o05 a b 0 d)
  | .shli th a b d => some (th, colFields 0o06 a b 0 d)
  | .shri th a b d => some (th, colFields 0o07 a b 0 d)
  | .sari th a b d => some (th, colFields 0o10 a b 0 d)
  | .cmpi th b d => some (th, colFields 0o11 0 b 0 d)
  | .mvi th a d => some (th, colFields 0o12 a 0 0 d)
  | .lui th a d => some (th, colFields 0o13 a 0 0 d)
  | .ext th a b d => some (th, colFields 0o14 a b 0 d)
  | .ins th a b d => some (th, colFields 0o15 a b 0 d)
  | .tsti th b d => some (th, colFields 0o16 0 b 0 d)
  | .ldh th a b c d => some (th, colFields 0o20 a b c d)
  | .prb th a b c d => some (th, colFields 0o21 a b c d)
  | .ldr th a b d => some (th, colFields 0o22 a b 0 d)
  | .str th a b d => some (th, colFields 0o23 a b 0 d)
  | .rbs th d => some (th, colFields 0o24 0 0 0 d)
  | .rbc th d => some (th, colFields 0o25 0 0 0 d)
  | .ldd th a b c d => some (th, colFields 0o26 a b c d)
  | .std th a b c d => some (th, colFields 0o27 a b c d)
  | .xadd th a b c d => some (th, colFields 0o30 a b c d)
  | .fence th => some (th, colFields 0o31 0 0 0 0)
  | .br th a d => some (th, colFields 0o32 a 0 0 d)
  | .cbeq th b c d => some (th, colFields 0o33 0 b c d)
  | .cbne th b c d => some (th, colFields 0o34 0 b c d)
  | .call th a d => some (th, colFields 0o35 a 0 0 d)
  | .jr th b => some (th, colFields 0o36 0 b 0 0)
  | .jtab th b c d => some (th, colFields 0o37 0 b c d)
  | .fork th a b c d => some (th, colFields 0o40 a b c d)
  | .join th => some (th, colFields 0o41 0 0 0 0)
  | .release th d => some (th, colFields 0o42 0 0 0 d)
  | .end_ th => some (th, colFields 0o43 0 0 0 0)
  | .tlk th a b c d => some (th, colFields 0o44 a b c d)
  | .mfc th a d => some (th, colFields 0o50 a 0 0 d)
  | .mtc th b d => some (th, colFields 0o51 0 b 0 d)
  | .wait th => some (th, colFields 0o52 0 0 0 0)
  | .npop th a => some (th, colFields 0o54 a 0 0 0)
  | .ldim th a b d => some (th, colFields 0o55 a b 0 d)
  | .stim th a b d => some (th, colFields 0o56 a b 0 d)
  | .synci th => some (th, colFields 0o57 0 0 0 0)
  | .nop th => some (th, colFields 0o61 0 0 0 0)
  | _ => none

/-- An instruction word of a bank. DESIGN CHOICE (log entry 81): a load replaces the bank whole, and a word at or above code_words
reads 0 after it. -/
def codeWord (c : Core) (b : Bool) (i : Nat) : Word36 := tgetD ((bankOf c b).getD {}).code i 0

/-- The word that a thread fetches: at its program counter, from the bank of its packet or the supervisor's current bank (R153). -/
def fetched (s : State) (th : Thr) : Word36 :=
  let c := coreAt s th.v th.core
  codeWord c (if th.t.val = 0 then c.supBank else (thrAt s th).bank) (thrAt s th).pc

/-- The thread's next instruction is this one: the word that it fetches says so. Beyond instruction memory nothing is fetched, and
every instruction meets IMEM_RANGE (R106). -/
def fetches (s : State) (th : Thr) (i : Instr) : Bool :=
  decide (16384 ≤ (thrAt s th).pc) || decide (colInstr th (fetched s th) = i)

end Sys2Proof.Machine
end

