-- ==== Sys2Proof/Machine/Operands.lean ====
section
/-! DEFINITION. The operand forms of the Col instructions: registers, immediates, addresses, header-window loads (R97-R100, R138),
record words and data memory through the store buffer (R144, R145), and how an instruction issues. -/

namespace Sys2Proof.Machine

/-! ### Registers and immediates (R131, R132) -/

def getR (x : Thread) (a : BitVec 4) : Word36 := x.regs[a.toNat]'(by have := a.isLt; omega)

def putR (x : Thread) (a : BitVec 4) (w : Word36) : Thread :=
  { x with regs := x.regs.set a.toNat w (by have := a.isLt; omega) }

/-- sext(D). -/
def sextD (d : BitVec 18) : Word36 := d.signExtend 36

/-- zext(D). -/
def zextD (d : BitVec 18) : Word36 := d.zeroExtend 36

/-- w[B] + zext(D) without wrap. -/
def addrOf (x : Thread) (b : BitVec 4) (d : BitVec 18) : Nat := (getR x b).toNat + d.toNat

/-- The branch target D[13:0]. -/
def targetOf (d : BitVec 18) : Nat := d.toNat % 16384

/-- D[5:0] and D[11:6]. -/
def dLow (d : BitVec 18) : Nat := d.toNat % 64
def dMid (d : BitVec 18) : Nat := d.toNat / 64 % 64

/-- The next instruction. -/
def stepPc (x : Thread) : Thread := { x with pc := x.pc + 1 }

/-! ### Issue -/

/-- A thread issues the instruction `i`: nothing while it is not Running or its next instruction is another one; the first fault
that applies in the order of R505, IMEM_RANGE among them (R106), or the instruction's effect. -/
def issue (s : State) (th : Thr) (i : Instr) (faults : List (FaultCode × Bool)) (detail : FaultCode → Nat) (body : State) : State :=
  if (thrAt s th).st = .running ∧ ladderRuns s ∧ fetches s th i then
    match firstFault ((.imemRange, decide (16384 ≤ (thrAt s th).pc)) :: faults) with
    | some f => colFault s th f (detail f)
    | none => body
  else s

/-- An instruction that changes only its own thread and goes on to the next instruction. -/
def issueReg (s : State) (th : Thr) (i : Instr) (faults : List (FaultCode × Bool)) (f : Thread → Thread) : State :=
  issue s th i faults (fun _ => 0) (modThr s th (fun x => stepPc (f x)))

def isSup (th : Thr) : Bool := decide (th.t.val = 0)

/-- SUP_ONLY in a packet thread (R141); NO_PACKET in the supervisor thread (R140). -/
def supOnly (th : Thr) : FaultCode × Bool := (.supOnly, !isSup th)
def noPacket (th : Thr) : FaultCode × Bool := (.noPacket, isSup th)

/-- The packet of a thread. -/
def pktOf (s : State) (th : Thr) : Packet :=
  match (thrAt s th).pkt with
  | some i => (pktAt s th.v i).getD {}
  | none => {}

/-! ### The header window -/

/-- The conditions of a nonet (R97). -/
inductive NonetCond where
  | present (b : Byte)
  | pending
  | ended
deriving DecidableEq, Repr

/-- The nonet at an offset of a packet's header window (R79, R80, R97). -/
def nonetCond (p : Packet) (o : Nat) : NonetCond :=
  match p.bytes[o]? with
  | some b => .present b
  | none => if p.tail || p.discarded then .ended else .pending

def condNonet : NonetCond → Nonet
  | .present b => b.zeroExtend 9
  | .pending => 0x1FF
  | .ended => 0x100

def touched (p : Packet) (addr n : Nat) : List NonetCond := (List.range n).map (fun i => nonetCond p (addr + i))

def anyEnded (cs : List NonetCond) : Bool := cs.any (fun c => decide (c = .ended))
def anyPending (cs : List NonetCond) : Bool := cs.any (fun c => decide (c = .pending))

/-- The lowest touched offset in a condition (R123 DETAIL). -/
def lowestIn (p : Packet) (addr n : Nat) (c : NonetCond) : Nat :=
  addr + ((List.range n).find? (fun i => decide (nonetCond p (addr + i) = c))).getD 0

/-- The value of a header load (R138): raw nonets in the low positions, or their data bytes packed. -/
def hdrValue (cs : List NonetCond) (raw : Bool) : Word36 :=
  if raw then cs.foldl (fun w c => (w <<< 9) ||| (condNonet c).zeroExtend 36) 0
  else cs.foldl (fun w c => (w <<< 8) ||| ((condNonet c).extractLsb' 0 8).zeroExtend 36) 0

/-- C[3:2] + 1 nonets, C[1] raw. -/
def hdrCount (c : BitVec 4) : Nat := c.toNat / 4 + 1
def hdrRaw (c : BitVec 4) : Bool := c.getLsbD 1

/-! ### The store buffer (R144, R145) -/

/-- The bits of nonets [first, first + count) of a word. -/
def nonetMask (first count : Nat) : Word36 :=
  BitVec.ofNat 36 ((2 ^ (9 * count) - 1) * 2 ^ (36 - 9 * (first + count)))

/-- A word with the nonets of a store put in. -/
def mergeStore (w : Word36) (e : StoreEnt) : Word36 :=
  (w &&& ~~~ (nonetMask e.first e.count)) ||| (e.val &&& nonetMask e.first e.count)

/-- A store takes effect in its memory. -/
def applyStore (s : State) (th : Thr) (e : StoreEnt) : State :=
  if e.toRec then
    match (thrAt s th).pkt with
    | some i => modPkt s th.v i (fun p => recPut p e.addr e.val)
    | none => s
  else modCore s th.v th.core (fun c => { c with dmem := tset c.dmem e.addr (mergeStore (tgetD c.dmem e.addr 0) e) })

/-- The oldest buffered store drains. -/
def drainOne (s : State) (th : Thr) : State :=
  match (thrAt s th).sb with
  | [] => s
  | e :: r => modThr (applyStore s th e) th (fun x => { x with sb := r })

/-- `n` stores drain, in program order. -/
def drainN (th : Thr) : Nat → State → State
  | 0, s => s
  | n + 1, s => drainN th n (drainOne s th)

/-- The buffer empties. -/
def drainAll (s : State) (th : Thr) : State := drainN th (thrAt s th).sb.length s

/-- A store enters the buffer, waiting for an entry when four are taken (R144). -/
def pushStore (s : State) (th : Thr) (e : StoreEnt) : State :=
  let s1 := if 4 ≤ (thrAt s th).sb.length then drainOne s th else s
  modThr s1 th (fun x => { x with sb := x.sb ++ [e] })

/-- A store writes a nonet that a load of [first, first + count) of the word reads. -/
def storeTouches (e : StoreEnt) (toRec : Bool) (addr first count : Nat) : Bool :=
  decide (e.toRec = toRec) && decide (e.addr = addr) &&
    decide (e.first < first + count) && decide (first < e.first + e.count)

def storeCovers (e : StoreEnt) (first count : Nat) : Bool :=
  decide (e.first ≤ first) && decide (first + count ≤ e.first + e.count)

/-- The youngest buffered store that touches the load, and the number of stores up to and including it. -/
def youngest (sb : List StoreEnt) (toRec : Bool) (addr first count : Nat) : Option (Nat × StoreEnt) :=
  (sb.foldl (fun (q : Nat × Option (Nat × StoreEnt)) e =>
    (q.1 + 1, if storeTouches e toRec addr first count then some (q.1 + 1, e) else q.2)) (0, none)).2

/-- A load's word (R144): forwarded from the youngest touching store when that covers it; otherwise the store drains first
and the rule is applied again; with no touching store the memory is read. -/
def loadWord (th : Thr) (toRec : Bool) (addr first count : Nat) : Nat → State → Word36 × State
  | 0, s => (0, s)
  | fuel + 1, s =>
    match youngest (thrAt s th).sb toRec addr first count with
    | none =>
      (if toRec then recAt (pktOf s th) addr else tgetD (coreAt s th.v th.core).dmem addr 0, s)
    | some (k, e) =>
      if storeCovers e first count then (e.val, s)
      else loadWord th toRec addr first count fuel (drainN th k s)

/-- A record word as a load of this thread reads it. -/
def loadRec (s : State) (th : Thr) (i : Nat) : Word36 := (loadWord th true i 0 4 5 s).1

/-- The record word may not be written by this thread (R104). -/
def recNotOwned (s : State) (th : Thr) (i : Nat) : Bool :=
  let c := coreAt s th.v th.core
  let x := thrAt s th
  match x.parent with
  | some _ => (match x.grant with
    | some (f, n) => decide (i < f) || decide (f + n ≤ i)
    | none => true)
  | none => (childrenOf c th.t).any (fun k => match (threadOf c k).grant with
    | some (f, n) => decide (f ≤ i) && decide (i < f + n)
    | none => false)

/-- A store to record word `i` (R81, R145): the I fields keep their values, an attempt to change one is counted, and the
whole word enters the buffer. -/
def storeRec (s : State) (th : Thr) (i : Nat) (w : Word36) : State :=
  let cur := recAt (pktOf s th) i
  let s1 := if i < 16 ∧ roWrite i cur w then count s (vkey th.v 0x3007 2) else s
  pushStore s1 th { toRec := true, addr := i, val := storeMasked i cur w }

end Sys2Proof.Machine
end

