-- ==== Sys2Proof/Machine/TableBase.lean ====
section
/-! DEFINITION. Table partitions: layout of the memories (R178), lookups (R162, R182, R184), the inserter (R183), the sort manager
(R185), locks (R193) and learn-slot counts (R195). -/

namespace Sys2Proof.Machine

/-! ### Memories (R178) -/

def unitSize (m : Nat) : Nat :=
  if m = 1 then 4096 else if m = 2 then 65536 else if m = 3 then 4096 else if m = 4 then 256 else if m = 5 then 1024
  else 64

def memCapacity (m : Nat) : Nat :=
  if m = 1 then 2097152 else if m = 2 then 67108864 else if m = 3 then 1048576 else if m = 4 then 98304
  else if m = 5 then 524288 else if m = 6 then 16384 else 0

def memBanks (m : Nat) : Nat :=
  if m = 1 then 64 else if m = 3 then 32 else if m = 4 then 48 else if m = 5 then 16 else if m = 6 then 16 else 0

def bankSize (m : Nat) : Nat := memCapacity m / max 1 (memBanks m)

def memSpares (m : Nat) : Nat :=
  if m = 1 then 2 else if m = 3 then 1 else if m = 4 then 2 else if m = 5 then 1 else if m = 6 then 1 else 0

/-- Spare banks left (TABLE_SPARES). -/
def sparesLeft (x : TableState) (m : Nat) : Nat := memSpares m - tgetD x.spares m 0

/-- Slots that an entry occupies: in memory 4 one per 160 bits (R185). -/
def entrySlots (p : Partition) : Nat := if p.memory = 4 then p.keyWidth / 160 else 1

/-- Entries or slots of a partition. -/
def partSize (p : Partition) : Nat := p.units.length * unitSize p.memory

/-- The memory's own number of a position of a partition. -/
def memPos (p : Partition) (pos : Nat) : Nat :=
  p.units.getD (pos / unitSize p.memory) 0 * unitSize p.memory + pos % unitSize p.memory

/-- The logical bank of a position. -/
def posBank (p : Partition) (pos : Nat) : Nat := memPos p pos / bankSize p.memory

/-- The position lies in a retired bank whose slots are dead (R202). -/
def posDead (x : TableState) (p : Partition) (pos : Nat) : Bool :=
  x.retired.contains (p.memory, posBank p pos)

/-- Usable on-die capacity, in entries. -/
def usableCap (x : TableState) (p : Partition) : Nat :=
  ((List.range p.units.length).foldl (fun n i =>
    if posDead x p (i * unitSize p.memory) then n else n + unitSize p.memory) 0) / entrySlots p

def partAt (s : State) (v : Vale) (i : Nat) : Option Partition := tget (s.vale v).table.parts i

def State.modTable (s : State) (v : Vale) (f : TableState → TableState) : State :=
  s.modVale v (fun x => { x with table := f x.table })

def setPart (s : State) (v : Vale) (i : Nat) (p : Partition) : State :=
  s.modTable v (fun x => { x with parts := tset x.parts i p })

def partKind (v : Vale) : Nat := 0x18 + valeNum v

/-! ### Exact and forwarding partitions (R182) -/

def keyBytes (p : Partition) (key : Nat) : List Byte := beBytes (p.keyWidth / 8) key

def hash1 (p : Partition) (key : Nat) : Nat := (crcBytes p.seed (keyBytes p key)).toNat
def hash2 (p : Partition) (key : Nat) : Nat := Config.tableHash p.secret.toNat key p.keyWidth % 2 ^ 32

/-- The two candidate buckets of a key among `n` buckets. -/
def buckets (p : Partition) (key n : Nat) : Nat × Nat :=
  let b1 := hash1 p key % n
  let b2 := hash2 p key % n
  (b1, if b2 = b1 then (b1 + 1) % n else b2)

def dieBuckets (p : Partition) : Nat := p.capacity / 4
def extBuckets (p : Partition) : Nat := p.extCapacity / 4

/-- Positions of a bucket; extension buckets stand after the on-die positions. -/
def bucketPos (base b : Nat) : List Nat := [base + b * 4, base + b * 4 + 1, base + b * 4 + 2, base + b * 4 + 3]

/-- Positions of the key's candidate on-die buckets that are not dead. -/
def diePositions (x : TableState) (p : Partition) (key : Nat) : List Nat :=
  let b := buckets p key (dieBuckets p)
  (bucketPos 0 b.1 ++ bucketPos 0 b.2).filter (fun q => !posDead x p q)

def extPositions (p : Partition) (key : Nat) : List Nat :=
  if p.extCapacity = 0 then []
  else
    let b := buckets p key (extBuckets p)
    bucketPos p.capacity b.1 ++ bucketPos p.capacity b.2

/-- The position among `ps` that holds the key. -/
def findKey (p : Partition) (ps : List Nat) (key : Nat) : Option Nat :=
  ps.find? (fun q => match tget p.slots q with
    | some e => decide (e.key = key)
    | none => false)

def findFreePos (p : Partition) (ps : List Nat) : Option Nat := ps.find? (fun q => (tget p.slots q).isNone)

/-! ### Lookups (R162) -/

/-- An entry of a longest-prefix, ternary or range partition matches the key. -/
def entryMatches (p : Partition) (e : Entry) (key : Nat) : Bool :=
  if p.kind = 2 then decide (key / 2 ^ (p.keyWidth - e.order) = e.key / 2 ^ (p.keyWidth - e.order))
  else if p.kind = 3 then decide ((key ^^^ e.key) &&& e.mask = 0)
  else if p.kind = 5 then decide (e.key ≤ key) && decide (key ≤ e.high)
  else decide (e.key = key)

/-- Of two range entries the better one: higher priority, then the lower index. -/
def betterRange (a b : Nat × Entry) : Nat × Entry :=
  if b.2.order > a.2.order ∨ (b.2.order = a.2.order ∧ b.2.index < a.2.index) then b else a

/-- The on-die lookup: position of the hit. -/
def lookupDie (x : TableState) (p : Partition) (key : Nat) : Option Nat :=
  if p.kind = 1 then findKey p (diePositions x p key) key
  else if p.kind = 4 then (tget p.slots key).map (fun _ => key)
  else if p.kind = 5 then
    ((p.slots.filter (fun q => entryMatches p q.2 key)).foldl
      (fun (b : Option (Nat × Entry)) q => match b with
        | none => some q
        | some a => some (betterRange a q)) none).map (·.1)
  else (p.slots.find? (fun q => entryMatches p q.2 key)).map (·.1)

/-- The extension lookup. -/
def lookupExt (p : Partition) (key : Nat) : Option Nat := findKey p (extPositions p key) key

/-- The whole lookup: on die first, the extension only on a miss there (R184). -/
def lookupAll (x : TableState) (p : Partition) (key : Nat) : Option Nat :=
  match lookupDie x p key with
  | some q => some q
  | none => lookupExt p key

/-- The extension's own numbers of the key's two extension buckets. -/
def extBucketIds (p : Partition) (key : Nat) : List Nat :=
  let b := buckets p key (extBuckets p)
  let f := fun (i : Nat) => p.extUnits.getD (i / 16384) 0 * 16384 + i % 16384
  [f b.1, f b.2]

def bucketCached (x : TableState) (id : Nat) : Bool := (tgetD x.extCache (id % 4096) []).contains id

/-- A bucket is used: it becomes the most recent of its set, the least recently used leaves (R184). -/
def touchBucket (x : TableState) (id : Nat) : TableState :=
  let l := tgetD x.extCache (id % 4096) []
  { x with extCache := tset x.extCache (id % 4096) (keep 8 (id :: l.filter (fun j => decide (j ≠ id)))) }

/-! ### The inserter (R183) -/

/-- The other candidate bucket of an occupant. -/
def otherBucket (p : Partition) (base n : Nat) (e : Entry) (pos : Nat) : Nat :=
  let b := buckets p e.key n
  if (pos - base) / 4 = b.1 then b.2 else b.1

/-- Breadth-first search for the shortest chain of moves: `paths` hold positions, the last one first, their occupants
to be moved; `fuel` is the number of moves left. -/
def searchChain (free : Nat → Bool) (movable : Nat → Option (List Nat)) :
    Nat → List (List Nat) → List Nat → Option (List Nat)
  | 0, _, _ => none
  | fuel + 1, paths, seen =>
    let nexts := paths.map (fun path => (path, (match path with
      | [] => []
      | q :: _ => (movable q).getD [])))
    match nexts.find? (fun c => c.2.any free) with
    | some c => some ((c.2.find? free).getD 0 :: c.1)
    | none =>
      let grown := nexts.foldl (fun (acc : List (List Nat) × List Nat) c =>
        c.2.foldl (fun a q => if a.2.contains q then a else (a.1 ++ [q :: c.1], q :: a.2)) acc) ([], seen)
      searchChain free movable fuel grown.1 grown.2

/-- Moves along a chain, from the free-slot end backward; the first position of the chain's far end is then free. -/
def moveAlong : List Nat → Tab Entry → Tab Entry
  | [], t => t
  | [_], t => t
  | f :: q :: r, t =>
    match tget t q with
    | some e => moveAlong (q :: r) (terase (tset t f e) q)
    | none => moveAlong (q :: r) t

/-- Where a new key goes among the buckets of one memory: the position freed for it, the partition after the moves, and the
number of moves. -/
def placeKey (p : Partition) (base n : Nat) (dead : Nat → Bool) (key : Nat) : Option (Nat × Partition × Nat) :=
  let b := buckets p key n
  let ps := (bucketPos base b.1 ++ bucketPos base b.2).filter (fun q => !dead q)
  match findFreePos p ps with
  | some q => some (q, p, 0)
  | none =>
    let free := fun q => !dead q && (tget p.slots q).isNone
    let movable := fun q => match tget p.slots q with
      | none => none
      | some e => if e.lock.isSome then none else some (bucketPos base (otherBucket p base n e q))
    match searchChain free movable 32 (ps.map (fun q => [q])) ps with
    | none => none
    | some path =>
      some (path.getLast?.getD 0, { p with slots := moveAlong path p.slots, moves := (p.moves + (path.length - 1)) % 2 ^ 32 },
            path.length - 1)

/-- The outcome of an insertion. -/
structure Inserted where
  status : Status
  existed : Bool := false
  moves : Nat := 0
  inExt : Bool := false
  pos : Nat := 0
  part : Partition

/-- Inserts a key of an exact or forwarding partition; `put old` gives the entry to store. -/
def insertExact (x : TableState) (p : Partition) (key : Nat) (put : Option Entry → Entry) : Inserted :=
  match lookupAll x p key with
  | some q =>
    match tget p.slots q with
    | some e =>
      if e.lock.isSome then { status := .locked, part := p }
      else { status := .ok, existed := true, inExt := decide (p.capacity ≤ q), pos := q,
             part := { p with slots := tset p.slots q (put (some e)) } }
    | none => { status := .locked, part := p }
  | none =>
    match placeKey p 0 (dieBuckets p) (posDead x p) key with
    | some (q, p1, n) => { status := .ok, moves := n, pos := q, part := { p1 with slots := tset p1.slots q (put none) } }
    | none =>
      if p.extCapacity = 0 then { status := .noResource, part := p }
      else match placeKey p p.capacity (extBuckets p) (fun _ => false) key with
        | some (q, p1, n) =>
          { status := .ok, moves := n, inExt := true, pos := q, part := { p1 with slots := tset p1.slots q (put none) } }
        | none => { status := .noResource, part := p }

/-! ### The sort manager (R185) -/

/-- Entry `a` stands before entry `b` in the partition's order. -/
def sortsBefore (p : Partition) (a b : Entry) : Bool :=
  if p.kind = 2 then decide (b.order ≤ a.order)
  else decide (b.order < a.order) || (decide (a.order = b.order) && decide (a.index < b.index))

/-- Entries move along a list of groups, each into the group before it; the last group is open then. -/
def shiftEntries (p : Partition) : Nat → List Nat → Tab Entry → Tab Entry
  | _, [], t => t
  | f, g :: r, t =>
    let w := entrySlots p
    shiftEntries p g r (match tget t (g * w) with
      | some e => tset (terase t (g * w)) (f * w) e
      | none => t)

/-- A slot of a longest-prefix or ternary partition is opened for an entry (R185): its group, the partition after the moves, and
their number. Entries move toward the nearest free slot, at equal distance the lower one; dead groups hold no entry and are
passed over (R202). -/
def openSlot (x : TableState) (p : Partition) (e : Entry) : Option (Nat × Partition × Nat) :=
  let w := entrySlots p
  let live := (List.range (partSize p / w)).filter (fun g => !posDead x p (g * w))
  let free := fun g => (tget p.slots (g * w)).isNone
  let before := (p.slots.filter (fun q => sortsBefore p q.2 e)).map (fun q => q.1 / w)
  let after := (p.slots.filter (fun q => !sortsBefore p q.2 e)).map (fun q => q.1 / w)
  let lo := match before.getLast? with | some g => g + 1 | none => 0
  let hi := match after.head? with | some g => g | none => partSize p / w
  match live.find? (fun g => decide (lo ≤ g) && decide (g < hi) && free g) with
  | some g => some (g, p, 0)
  | none =>
    let below := live.reverse.find? (fun g => decide (g < lo) && free g)
    let above := live.find? (fun g => decide (hi ≤ g) && free g)
    let shift := fun (f : Nat) (l : List Nat) =>
      match l.getLast? with
      | some g => some (g, { p with slots := shiftEntries p f l p.slots, moves := (p.moves + l.length) % 2 ^ 32 }, l.length)
      | none => none
    let down := fun (f : Nat) => shift f (live.filter (fun g => decide (f < g) && decide (g < lo)))
    let up := fun (f : Nat) => shift f (live.filter (fun g => decide (hi ≤ g) && decide (g < f))).reverse
    match below, above with
    | none, none => none
    | some f, none => down f
    | none, some f => up f
    | some f, some g => if lo - 1 - f ≤ g - hi then down f else up g

/-- The locks of a partition point to their entries' positions again after moves. -/
def relock (x : TableState) (i : Nat) (p : Partition) : TableState :=
  { x with locks := tmap x.locks (fun n l =>
      if l.part = i then
        match p.slots.find? (fun q => decide (q.2.lock = some n)) with
        | some q => { l with pos := q.1 }
        | none => l
      else l) }

/-! ### Learn slots (R195) -/

/-- The key of a learn-slot object: East 0x00-0x07, West 0x08-0x0F, and 0x10. -/
def learnKey (v : Vale) (index slot : Nat) : Nat := vkey v index (slot % 256)

def addLearn (s : State) (v : Vale) (slot : Nat) : State :=
  if slot = 0xFF then s else setNum s (learnKey v 0x3632 slot) (numD s (learnKey v 0x3632 slot) 0 + 1)

def subLearn (s : State) (v : Vale) (slot : Nat) : State :=
  if slot = 0xFF then s else setNum s (learnKey v 0x3632 slot) (numD s (learnKey v 0x3632 slot) 0 - 1)

/-- A notification passes the token bucket of R66, or is counted as dropped; the log keeps 16,384 records (R198). -/
def notify (s : State) (v : Vale) (kind slot : Nat) (h : Handle) (arg key keyWidth : Nat) : State :=
  let t := tgetD s.idien.learnTokens (valeNum v) (4096 * token)
  if t < token then count s (okey 0x1105 3)
  else
    let s1 := { s with idien := { s.idien with learnTokens := tset s.idien.learnTokens (valeNum v) (t - token) } }
    let x := (s1.vale v).table
    if 16384 ≤ x.learnLog.length then count s1 (vkey v 0x3635 6)
    else
      let r := beBytes 1 kind ++ beBytes 1 slot ++ beBytes 2 0 ++ beBytes 4 h.toNat ++ beBytes 4 arg
        ++ beBytes 2 x.now ++ beBytes 2 0 ++ beBytes (keyWidth / 8) key ++ beBytes (12 - keyWidth / 8) 0 ++ beBytes 4 0
      s1.modTable v (fun y => { y with learnLog := y.learnLog ++ [r] })

/-- A lock is released: the entry's lock bit clears. -/
def dropLock (x : TableState) (n : Nat) : TableState :=
  match tget x.locks n with
  | none => x
  | some l =>
    { x with locks := terase x.locks n,
             parts := tmap x.parts (fun i p => if i = l.part then
               { p with slots := tmap p.slots (fun _ e => if e.lock = some n then { e with lock := none } else e) } else p) }

/-- Deletes the entry at a position: its lock goes with it, and a learned entry leaves its slot's count. -/
def deleteEntry (s : State) (v : Vale) (i pos : Nat) : State :=
  match partAt s v i with
  | none => s
  | some p =>
    match tget p.slots pos with
    | none => s
    | some e =>
      let s1 := setPart s v i { p with slots := terase p.slots pos }
      let s2 := s1.modTable v (fun x => { x with locks := tfilter x.locks (fun n _ => decide (e.lock ≠ some n)) })
      if p.memory = 3 then subLearn s2 v e.slot else s2

end Sys2Proof.Machine
end

