-- ==== Sys2Proof/Machine/MemMap.lean ====
section
/-! DEFINITION. The internal physical address space (R386-R390): which addresses exist, poisoned words, and the deficit round
robin that several units share (R213). -/

namespace Sys2Proof.Machine

def ddrBase : Nat := 0x004000000000
def hbmBase (stack : Nat) : Nat := if stack = 0 then 0x001000000000 else 0x001800000000
def gib : Nat := 0x40000000
def hbmBytes : Nat := 24 * gib

/-- Channels that work (R388). -/
def ddrWorking (s : State) : Nat := (s.ctl.ddr.filter (fun c => decide (c = 1))).length

/-- DDR_CAPACITY in bytes. -/
def ddrCapacity (s : State) : Nat := ddrWorking s * s.ctl.ddrGib * gib

/-- The range [a, a + n) lies wholly in [base, base + size). -/
def within (a n base size : Nat) : Bool := decide (base ≤ a) && decide (a + n ≤ base + size)

def inDdr (s : State) (a n : Nat) : Bool := within a n ddrBase (ddrCapacity s)

def carveOf (s : State) (stack : Nat) : Carve := s.ctl.hbm.getD stack {}

def setCarve (s : State) (stack : Nat) (c : Carve) : State :=
  { s with ctl := { s.ctl with hbm := s.ctl.hbm.set stack c } }

/-- Bytes of general memory of a stack (R390). -/
def generalBytes (s : State) (stack : Nat) : Nat :=
  let c := carveOf s stack
  (24 - c.flood - c.ext - c.nvme) * gib

/-- The range lies wholly in one HBM stack. -/
def inHbm (a n : Nat) : Bool := within a n (hbmBase 0) hbmBytes || within a n (hbmBase 1) hbmBytes

/-- The range lies wholly in DDR5 or HBM. -/
def inDdrHbm (s : State) (a n : Nat) : Bool := inDdr s a n || inHbm a n

/-- The range lies wholly in DDR5 or the general memory of HBM (R383). -/
def inGeneral (s : State) (a n : Nat) : Bool :=
  inDdr s a n || within a n (hbmBase 0) (generalBytes s 0) || within a n (hbmBase 1) (generalBytes s 1)

/-- A write of internal memory; a word that is rewritten is no longer poisoned (R399). -/
def writeInt (s : State) (a : Nat) (bs : List Byte) : State :=
  { s with
    mem := memWriteN s.mem a bs
    ctl := { s.ctl with poison := s.ctl.poison.filter (fun w => !(decide (a ≤ w) && decide (w + 8 ≤ a + bs.length))) } }

def readInt (s : State) (a n : Nat) : List Byte := memReadN s.mem a n

/-- HBM bank sets retired of a stack (R392): 48 bits. -/
def retiredSets (s : State) (stack : Nat) : Nat :=
  beNat ((sliceD (octD s (okey 0x7030 5)) (6 * stack) 6 0))

/-- The 2 MiB frame of an HBM offset belongs to this bank set (R392). -/
def bankSetOf (off : Nat) : Nat := off / 0x200000 % 48

/-- An offset of a stack lies in a retired bank set. -/
def hbmRetired (s : State) (stack off : Nat) : Bool := bitOf (retiredSets s stack) (bankSetOf off)

/-- The address lies in a stack that failed training, or in a retired bank set (R392, R436). -/
def hbmLost (s : State) (a : Nat) : Bool :=
  [0, 1].any (fun k => within a 1 (hbmBase k) hbmBytes && ((carveOf s k).failed || hbmRetired s k (a - hbmBase k)))

/-- A word of the range reads as poisoned (R392, R399, R436). -/
def poisoned (s : State) (a n : Nat) : Bool :=
  s.ctl.poison.any (fun w => decide (w < a + n) && decide (a < w + 8))
  || (List.range (n / 0x200000 + 1)).any (fun i => hbmLost s (a + i * 0x200000)) || hbmLost s (a + n - 1)

/-! ### Deficit round robin (R213) -/

/-- The visits a child needs until its deficit is positive, `credit` being added at each visit while it is not. -/
def visitsNeeded (credit : Nat) (d : Int) : Nat :=
  if 0 < d then 1 else max 1 (ceilDiv (1 - d).toNat (max 1 credit))

/-- The deficits of the children visited: those before the chosen one get one credit a round, the chosen one and those
after it as far as the ring has come. -/
def creditAll (r : Nat) (chosen : Nat) (credit : Nat → Nat) (d : Nat → Int) : Bool → List Nat → List (Nat × Int)
  | _, [] => []
  | past, c :: cs =>
    let k := if past && decide (c ≠ chosen) then r - 1 else r
    let x := if 0 < d c then d c else d c + (k * credit c : Nat)
    (c, x) :: creditAll r chosen credit d (past || decide (c = chosen)) cs

/-- The child that a node serves next among its eligible children (in rising order), and the deficits after the credits
of the visits on the way. `cur` is the child visited last and whether that visit may go on. -/
def drrPick (kids : List Nat) (credit : Nat → Nat) (d : Nat → Int) (cur : Option (Nat × Bool)) :
    Option (Nat × List (Nat × Int) × Bool) :=
  let goOn := match cur with
    | some (c, true) => kids.contains c && decide (0 < d c)
    | _ => false
  if goOn then cur.map (fun c => (c.1, [], true))
  else
    let ring := match cur with
      | some (c, _) => kids.filter (fun k => decide (c < k)) ++ kids.filter (fun k => decide (k ≤ c))
      | none => kids
    match ring with
    | [] => none
    | k :: ks =>
      let r := ks.foldl (fun m c => min m (visitsNeeded (credit c) (d c))) (visitsNeeded (credit k) (d k))
      match ring.find? (fun c => decide (visitsNeeded (credit c) (d c) = r)) with
      | none => none
      | some c => some (c, creditAll r c credit d false ring, false)

end Sys2Proof.Machine
end

