-- ==== Sys2Proof/Machine/EpochBase.lean ====
section
/-! DEFINITION. Staging of epoch-staged objects (R35-R38). -/

namespace Sys2Proof.Machine

/-- The epoch accepts a staged write (R38). -/
def stagingOpen (s : State) : Bool := decide (s.epoch.st = .idle) || decide (s.epoch.st = .staging)

/-- A staged write: the staging copy changes, and the first one moves the control from Idle to Staging (R35, R37). -/
def stage (s : State) (k x : Nat) : State :=
  { s with
    dict := { s.dict with staged := tset s.dict.staged k x }
    epoch := { s.epoch with st := if s.epoch.st = .idle then .staging else s.epoch.st } }

/-- The epoch of packets that the N+1 configuration serves. -/
def nextEpoch (s : State) : Nat := (s.epoch.active + 1) % 65536

/-- The stamp that ingress gives (R37). -/
def ingressEpoch (s : State) : Nat :=
  match s.epoch.st with
  | .committing | .retiring => nextEpoch s
  | _ => s.epoch.active

/-- The estimate for a BUSY answer of the epoch control: what is left of the commit or retire timeout (R504). -/
def epochRetry (s : State) : Nat :=
  match s.epoch.st with
  | .committing => estimateMs s (numD s (okey 0x2420 4) 50 * 1000000) s.epoch.start
  | .retiring => estimateMs s (numD s (okey 0x2420 5) 500 * 1000000) s.epoch.start
  | _ => 1

end Sys2Proof.Machine
end

