-- ==== Sys2Proof/Machine/HostBase.lean ====
section
/-! DEFINITION. Functions of the host interface and what units do through them (R282-R301): requests to the host, reads, vectors,
the dirty-page log's marks (R361-R363), the AER status (R302). -/

namespace Sys2Proof.Machine

/-- The owner of a function: its virtual function's, 0 for physical and unassigned ones (R294). -/
def fnOwner (s : State) (f : Nat) : Handle := if f < 4 then 0 else (ownerOf s 3 (f - 4)).getD 0

/-- A virtual function is assigned. -/
def vfAssigned (s : State) (g : Nat) : Bool := (ownerOf s 3 g).isSome

/-- TotalVFs of PF1-PF3 (R285). -/
def totalVfs (s : State) (pf : Nat) : Nat := recField 6 (2 * (pf - 1)) 2 s.host.split

/-- The physical function of a function (R285): 0-3. -/
def pfOf (s : State) (f : Nat) : Nat :=
  if f < 4 then f
  else if f - 4 < totalVfs s 1 then 1
  else if f - 4 < totalVfs s 1 + totalVfs s 2 then 2 else 3

/-- First global index of a physical function's virtual functions. -/
def vfFirst (s : State) (pf : Nat) : Nat :=
  if pf = 1 then 0 else if pf = 2 then totalVfs s 1 else totalVfs s 1 + totalVfs s 2

/-- First VF Offset of a physical function (R285); VF Stride is 1. -/
def vfOffset (s : State) (pf : Nat) : Nat := 4 + vfFirst s pf - pf

/-- Routing ID of a function, with PF0 at `b` (R285). -/
def routingId (b f : Nat) : Nat := b + f

/-- Class code of a function, and of the virtual functions of a physical one (R284). -/
def classCode (s : State) (f : Nat) : Nat := [0x120000, 0x020000, 0x010802, 0x120000].getD (pfOf s f) 0

/-- Interrupt Pin of a function (R284, R293): INTA-INTD, 0 none. -/
def intPin (f : Nat) : Nat := if f < 4 then f + 1 else 0

/-- ACS Capability register of every function (R281): P2P Request Redirect, P2P Completion Redirect, Upstream Forwarding and P2P
Egress Control, at the bits of the PCI Express Base Specification (PRESUMED, log entry 33). -/
def acsCap : Nat := 0x3C

/-- MSI-X table size of a function (R291). -/
def msixSize (s : State) (f : Nat) : Nat :=
  if f < 4 then recField 8 (2 * f) 2 s.host.pfMsix else recField 6 (2 * (pfOf s f - 1)) 2 s.host.vfMsix

/-- BAR2 size of a function in bytes (R287). -/
def bar2Size (s : State) (f : Nat) : Nat :=
  2 ^ (if f < 4 then recField 7 f 1 s.host.bar2 else recField 7 (3 + pfOf s f) 1 s.host.bar2)

/-- HALT_REASON (R294, R298): 3 for every function in fail-stop. -/
def fnReason (s : State) (f : Nat) : Nat := if s.err.failStop then 3 else (fnOf s f).reason

def fnHalted (s : State) (f : Nat) : Bool := decide (fnReason s f ≠ 0)

/-- The function answers and takes doorbells: not in reset, not halted, not silenced (R295-R298). -/
def fnServes (s : State) (f : Nat) : Bool :=
  let x := fnOf s f
  decide (x.flr = 0) && !fnHalted s f && !x.silenced && (decide (f < 4) || vfAssigned s (f - 4))

/-- The function issues requests (R299). -/
def fnIssues (s : State) (f : Nat) : Bool :=
  fnServes s f && (fnOf s f).busMaster && !(fnOf s f).d3hot && decide (s.host.link ≠ 0)

/-- The tenancy's migration hold keeps the function's requests (R366). -/
def fnHeld (s : State) (f : Nat) : Bool :=
  let o := fnOwner s f
  decide (o ≠ 0) && decide ((tgetD s.mig (hIdx o) {}).hold ≠ 0)

/-! ### INTx and vectors (R292, R293) -/

/-- The emulated level follows the pending bits; its changes are sent. -/
def updateIntx (s : State) (f : Nat) : State :=
  if 4 ≤ f then s
  else
    let x := fnOf s f
    let l := !x.msixEn && !x.intxDis && !x.pend.isEmpty
    if l = x.level then s
    else if fnServes s f then pushMsg (setFn s f { x with level := l }) (.intx f l) else s

/-- The message of a vector follows the writes of its function that wait now: it publishes their data (R282). -/
def holdVector (s : State) (f vec : Nat) : State :=
  { s with host := { s.host with reqs := s.host.reqs.map (fun r =>
      if r.fn = f ∧ r.dir = .toHost then { r with holds := vec :: r.holds } else r) } }

/-- A source raises a vector: its pending bit is set (R292). A vector beyond the table raises nothing (R291). -/
def raiseVector (s : State) (f vec : Nat) : State :=
  if vec < msixSize s f then
    updateIntx (holdVector (modFn s f (fun x => if x.pend.contains vec then x else { x with pend := x.pend ++ [vec] })) f vec) f
  else s

/-! ### The dirty-page log (R360-R363) -/

def migOf (s : State) (t : Nat) : Mig := tgetD s.mig t {}

def setMig (s : State) (t : Nat) (m : Mig) : State := { s with mig := tset s.mig t m }

/-- The used range of a log that holds a host address, and the page's number in it. -/
def dplRange (m : Mig) (addr : Nat) : Option (DplRange × Nat) :=
  match m.ranges.find? (fun r => decide (r.2.base ≤ addr) && decide (addr < r.2.base + r.2.pages * 4096)) with
  | some r => some (r.2, (addr - r.2.base) / 4096)
  | none => none

/-- Bit `n` of a bitmap is set. -/
def dplSet (s : State) (bitmap n : Nat) : State :=
  let a := bitmap + 8 * (n / 64) + n % 64 / 8
  { s with mem := memWrite s.mem a (memRead s.mem a ||| BitVec.ofNat 8 (2 ^ (n % 8))) }

/-- One page touched by a write of a tenancy. -/
def dplPage (s : State) (t addr : Nat) : State :=
  let m := migOf s t
  if !m.on then s
  else match dplRange m addr with
    | some (r, n) => setMig (dplSet s r.bitmap n) t { m with marked := (m.marked + 1) % 2 ^ 64 }
    | none => s

/-- The host pages that a write touches. -/
def pagesOf (addr n : Nat) : List Nat :=
  (List.range ((addr + max n 1 - 1) / 4096 - addr / 4096 + 1)).map (fun i => (addr / 4096 + i) * 4096)

/-- A write that touches a page outside every used range is counted as uncovered (R362). -/
def dplUncovered (s : State) (t : Nat) (pages : List Nat) : State :=
  let m := migOf s t
  if m.on && pages.any (fun p => (dplRange m p).isNone) then
    setMig s t { m with uncovered := (m.uncovered + 1) % 2 ^ 64, incomplete := true }
  else s

/-- Every page that a write touches is recorded before the write is issued (R362, R363). -/
def dplMark (s : State) (t addr n : Nat) : State :=
  dplUncovered ((pagesOf addr n).foldl (fun a p => dplPage a t p) s) t (pagesOf addr n)

/-! ### Requests to the host (R282, R295, R299, R300) -/

/-- A write toward host memory is handed to the host region; a silenced function's is discarded (R295). -/
def hostIssue (s : State) (f addr : Nat) (bs : List Byte) (log : Bool) (win : Nat) (payload : Bool) : State :=
  if (fnOf s f).silenced || decide (bs = []) then s
  else { s with host := { s.host with
    reqs := s.host.reqs ++ [{ fn := f, dir := .toHost, addr := addr, len := bs.length, data := bs, log := log, win := win,
                              relaxed := payload && (fnOf s f).relaxed }] } }

/-- A write that publishes data: never with relaxed ordering (R282). -/
def hostWrite (s : State) (f addr : Nat) (bs : List Byte) : State := hostIssue s f addr bs true 0 false

/-- A payload write: with relaxed ordering where the function enables it (R282). -/
def hostData (s : State) (f addr : Nat) (bs : List Byte) : State := hostIssue s f addr bs true 0 true

/-- The read of a queue entry waits for the arbiter. -/
def hostReadReq (s : State) (f addr n : Nat) : State :=
  { s with host := { s.host with
    reqs := s.host.reqs ++ [{ fn := f, dir := .fromHost, addr := addr, len := n }] } }

/-- The clients of R300 and R324: 0 the operator, 1 the F tenancies, 2 + t a P or PF tenancy. -/
def clientOf (s : State) (f : Nat) : Nat :=
  let o := fnOwner s f
  if o = 0 then 0 else if modeOf s o = 2 then 1 else 2 + hIdx o

def dirNum : LinkDir → Nat
  | .toHost => 0
  | .fromHost => 1

/-- Tokens of a P or PF client in a direction, full where none have been charged (R301). -/
def hostTokens (s : State) (d t : Nat) : Int :=
  tgetD s.host.tokens (d * 1024 + t) ((numD s (tkey t 0xC040 4) 65536 : Nat) * 65536)

/-- A granted request is charged: its bytes and 16 in the deficit, its bytes against the token bucket (R300, R301). -/
def hostCharge (s : State) (d : LinkDir) (f n : Nat) : State :=
  let c := clientOf s f
  let k := dirNum d * 1024 + c
  let def1 := tset s.host.arbDef k (tgetD s.host.arbDef k 0 - (n + 16 : Nat))
  let tok := if 2 ≤ c then
      tset s.host.tokens (dirNum d * 1024 + (c - 2)) (hostTokens s (dirNum d) (c - 2) - (max n 1 * 65536 : Nat))
    else s.host.tokens
  { s with host := { s.host with arbDef := def1, tokens := tok, arbFn := tset s.host.arbFn k f } }

/-- The weight of a client; a written HOST_WEIGHT is in force from the next tick on (R300, R304). -/
def hostWeight (s : State) (c : Nat) : Nat :=
  if c = 0 then numD s (okey 0x5020 1) 64 else if c = 1 then numD s (okey 0x5020 2) 16
  else tgetD s.host.oldWeights (c - 2) (numD s (tkey (c - 2) 0xC040 1) 16)

/-- Non-posted requests outstanding: reads that are granted and have not come back (R280). -/
def readsOut (s : State) : Nat := (s.host.reqs.filter (fun r => r.granted)).length

/-- The arbiter of a direction may grant a request of the function (R280, R295, R299, R301, R366). -/
def fnMay (s : State) (d : LinkDir) (f : Nat) : Bool :=
  let x := fnOf s f
  let c := clientOf s f
  !x.silenced && x.busMaster && !x.d3hot && decide (s.host.link ≠ 0) && !fnHeld s f
    && (decide (d = .toHost) || decide (readsOut s < 768))
    && (decide (c < 2) || decide (0 < hostTokens s (dirNum d) (c - 2)))

/-- A waiting request that the arbiter of its direction may grant. -/
def hostMay (s : State) (d : LinkDir) (r : HReq) : Bool := decide (r.dir = d) && !r.granted && fnMay s d r.fn

/-- The client that an arbiter serves next, with the credits of the visits on the way (R300); `also`: a function whose data read asks
beside the waiting requests. -/
def arbPick (s : State) (d : LinkDir) (also : Option Nat) : Option (Nat × State) :=
  let k := fun (c : Nat) => dirNum d * 1024 + c
  let cs := (List.range 258).filter (fun c => s.host.reqs.any (fun r => hostMay s d r && decide (clientOf s r.fn = c))
    || also.any (fun f => fnMay s d f && decide (clientOf s f = c)))
  match drrPick cs (fun c => hostWeight s c * 256) (fun c => tgetD s.host.arbDef (k c) 0) (tget s.host.arbCur (dirNum d)) with
  | none => none
  | some (c, ds, _) => some (c, { s with host := { s.host with
      arbDef := ds.foldl (fun t p => tset t (k p.1) p.2) s.host.arbDef
      arbCur := tset s.host.arbCur (dirNum d) (c, true) } })

/-- A client without a request keeps no positive deficit (R214). -/
def arbSettle (s : State) (d : LinkDir) (c : Nat) : State :=
  if s.host.reqs.any (fun r => decide (r.dir = d) && !r.granted && decide (clientOf s r.fn = c)) then s
  else
    let k := dirNum d * 1024 + c
    { s with host := { s.host with arbDef := tset s.host.arbDef k (min 0 (tgetD s.host.arbDef k 0)) } }

/-- The visit to a client that its token bucket now holds back ends (R213, R301). -/
def arbEnd (s : State) (d : LinkDir) (c : Nat) : State :=
  if c < 2 ∨ 0 < hostTokens s (dirNum d) (c - 2) then s
  else { s with host := { s.host with arbCur := tset s.host.arbCur (dirNum d) (c, false) } }

/-- A data read of a function is the next of its client: in order of arrival for the F client, in the functions' turn for another. -/
def readFirst (s : State) (f : Nat) : Bool :=
  let c := clientOf s f
  let mine := s.host.reqs.filter (fun r => hostMay s .fromHost r && decide (clientOf s r.fn = c))
  if mine = [] then true
  else if c = 1 ∨ mine.any (fun r => decide (r.fn = f)) then false
  else
    let last := tgetD s.host.arbFn (1024 + c) 1028
    ((List.range 1028).map (fun i => (last + 1 + i) % 1028)).find? (fun g => decide (g = f) || mine.any (fun r => decide (r.fn = g)))
      == some f

/-- The turn of a function's data read at the from-host arbiter (R300, R301): the state in which it is granted; none where it waits
(log entry 28). -/
def readTurn (s : State) (f : Nat) : Option State :=
  if !readFirst s f then none
  else match arbPick s .fromHost (some f) with
    | some (c, s1) => if c = clientOf s f then some s1 else none
    | none => none

/-- A granted data read of host memory: what the memory holds, the from-host client charged (log entry 28). -/
def hostRead (s : State) (f addr n : Nat) : List Byte × State :=
  let c := clientOf s f
  (memReadN s.hmem addr n, arbEnd (arbSettle (hostCharge s .fromHost f n) .fromHost c) .fromHost c)

/-- The pending read of a function's queue entry at an address. -/
def pendingRead (s : State) (f addr : Nat) : Option HReq :=
  s.host.reqs.find? (fun r => decide (r.fn = f) && decide (r.dir = .fromHost) && decide (r.addr = addr))

/-- The pending read of a function's queue entry ends. -/
def takeRead (s : State) (f addr : Nat) : State :=
  match pendingRead s f addr with
  | some r => { s with host := { s.host with reqs := s.host.reqs.erase r } }
  | none => s

end Sys2Proof.Machine
end

