-- ==== Sys2Proof/Machine/IdienBase.lean ====
section
/-! DEFINITION. Answers of Idien requests (R46, R50, R60, R61): the response message and its way to the requester. -/

namespace Sys2Proof.Machine

/-- A response message: the header of R46 and the payload. -/
def respBytes (m : RespMsg) : List Byte :=
  [m.verMajor, m.verMinor, m.opcode, 0x80] ++ beBytes 2 m.sequence.toNat ++ beBytes 1 (statusCode m.resp.status) ++ [0]
    ++ beBytes 4 m.handle.toNat ++ beBytes 2 m.index.toNat ++ [m.subindex, m.count] ++ beBytes 2 m.resp.payload.length
    ++ beBytes 2 m.resp.retry ++ m.resp.payload

/-- A feature of version `major`.`minor` is there (R51, R52). -/
def verHas (x : Session) (major minor : Nat) : Bool :=
  (decide (x.major = major) && decide (minor ≤ x.minor)) || decide (major < x.major)

/-- The vault's internal port, which reaches Glen without an external session (R53): session 0. -/
def vaultPort : Session := { role := .vault, bound := 0, transport := .pf0 }

/-- A session that stands. -/
def sessionAt (s : State) (n : Nat) : Option Session :=
  match tget s.idien.sessions n with
  | some x => some x
  | none => if n = 0 then some vaultPort else none

def setSession (s : State) (n : Nat) (x : Session) : State :=
  { s with idien := { s.idien with sessions := tset s.idien.sessions n x } }

/-- A response fills the mailbox's buffer and sets DONE; MSI-X vector 0 is signalled when MB_INTR_EN bit 0 is 1 (R60). -/
def mbFill (s : State) (bs : List Byte) : State :=
  let m := s.idien.pf0
  let s1 : State := { s with
    idien := { s.idien with pf0 := { m with done := true, respLen := BitVec.ofNat 32 bs.length, respBuf := bs } } }
  if m.intrEn.getLsbD 0 then raiseVector s1 0 0 else s1

/-- A response for the mailbox; while DONE is 1 Glen holds it (R61). -/
def mbRespond (s : State) (bs : List Byte) : State :=
  if s.idien.pf0.done then
    { s with idien := { s.idien with pf0 := { s.idien.pf0 with held := s.idien.pf0.held ++ [bs] } } }
  else mbFill s bs

/-- Sends a response over the transport of its source; that of a session that has ended is discarded (R56). -/
def sendResp (s : State) (src : ReqSource) (m : RespMsg) : State :=
  match src with
  | .open_ t =>
    let s1 : State := { s with idien := { s.idien with last := some m } }
    if t = .pf0 then mbRespond s1 (respBytes m) else s1
  | .session n =>
    match sessionAt s n with
    | none => s
    | some x =>
      let s1 : State := { s with idien := { s.idien with last := some m } }
      if x.transport = .pf0 ∧ n ≠ 0 then mbRespond s1 (Config.sealSecured n x.keyGen (respBytes m)) else s1

/-- The response to a request. -/
def respMsg (q : IdienMsg) (r : Resp) : RespMsg :=
  { opcode := q.opcode, verMajor := q.verMajor, verMinor := q.verMinor, sequence := q.sequence, handle := q.handle,
    index := q.index, subindex := q.subindex, count := q.count, resp := r }

/-- The version a requester goes by has retry_after (R52); outside a session no version is negotiated. -/
def retryShown (s : State) : ReqSource → Bool
  | .open_ _ => true
  | .session n => (match sessionAt s n with | some x => verHas x 1 2 | none => false)

/-- Answers a request: the response is sent, and a session keeps it as its cached response (R50). -/
def answerReq (s : State) (r : Req) (a : Resp) : State :=
  let a' : Resp := { a with retry := if a.status = .busy ∧ retryShown s r.src then a.retry else 0 }
  let m := respMsg r.msg a'
  let s1 : State := { s with resp := a' }
  let s2 := match r.src with
    | .session n => (match sessionAt s1 n with
      | some x => setSession s1 n { x with cached := some (r.msg.sequence, m) }
      | none => s1)
    | .open_ _ => s1
  sendResp s2 r.src m

/-- Answers a write whose effect has ended, of a direct command or of an Idien request. -/
def answerWrite (s : State) (q : Option Req) (st : Status) : State :=
  match q with
  | none => respond s st 0 []
  | some r => answerReq s r { status := st }

/-! ### Writes that wait for requests under way (R267, R268) -/

/-- A request translated under one of the window records has not completed at its target. -/
def gateBusy (s : State) (ks : List Nat) : Bool := s.host.reqs.any (fun r => decide (r.win ≠ 0) && ks.contains r.win)

/-- A write with its effect done and its answer waiting. -/
def holdWrite (s : State) (ks : List Nat) (q : Option Req) : State :=
  { s with saddle := { s.saddle with gateWaits := s.saddle.gateWaits ++ [{ wins := ks, req := q }] } }

/-- Writes whose requests have completed are answered. -/
def settleGate (s : State) : State :=
  let done := s.saddle.gateWaits.filter (fun w => !gateBusy s w.wins)
  done.foldl (fun a w => answerWrite a w.req .ok)
    { s with saddle := { s.saddle with gateWaits := s.saddle.gateWaits.filter (fun w => gateBusy s w.wins) } }

/-- Runs a write of window records whose answer waits while a request translated under one of them is under way. -/
def runGated (op : DictOp) (ks : List Nat) (s : State) : State :=
  if glenServes s ∧ op.status s = .ok ∧ gateBusy s ks then holdWrite (op.effect s).1 ks none else runOp op s

end Sys2Proof.Machine
end

