-- ==== Sys2Proof/Machine/ColMem.lean ====
section
/-! DEFINITION. Memory access of the Col cores (R137, R138, R144, R145). -/

namespace Sys2Proof.Machine

/-- Fault details of a header load: the lowest Ended offset, or the address (R123). -/
def hdrDetail (p : Packet) (addr n : Nat) (f : FaultCode) : Nat :=
  match f with
  | .hdrEnd => lowestIn p addr n .ended
  | .hdrRange => addr
  | _ => 0

/-- An ordinary header load (R99, R138): it faults on an Ended nonet, waits in Wait-header while one is Pending, and
completes otherwise. -/
def execLdh (th : Thr) (a b c : BitVec 4) (d : BitVec 18) (s : State) : Out :=
  let p := pktOf s th
  let addr := addrOf (thrAt s th) b d
  let cs := touched p addr (hdrCount c)
  .next (issue s th (.ldh th a b c d)
    [noPacket th, (.hdrRange, decide (511 < addr + hdrCount c - 1)), (.hdrEnd, anyEnded cs)]
    (hdrDetail p addr (hdrCount c))
    (if anyPending cs then
      modThr s th (fun x => { x with
        st := .waitHeader
        wait := { addr := addr, n := hdrCount c, raw := hdrRaw c, a := a, since := nowNs s } })
     else modThr s th (fun x => stepPc (putR x a (hdrValue cs (hdrRaw c))))))

/-- A probe load (R100, R138): it never waits and sets M and E. -/
def execPrb (th : Thr) (a b c : BitVec 4) (d : BitVec 18) (s : State) : Out :=
  let p := pktOf s th
  let addr := addrOf (thrAt s th) b d
  let cs := touched p addr (hdrCount c)
  .next (issue s th (.prb th a b c d)
    [noPacket th, (.hdrRange, decide (511 < addr + hdrCount c - 1))]
    (hdrDetail p addr (hdrCount c))
    (modThr s th (fun x => stepPc { putR x a (hdrValue cs (hdrRaw c)) with
      m := anyEnded cs || anyPending cs, e := anyEnded cs })))

/-- Loads a record word through the store buffer. -/
def execLdr (th : Thr) (a b : BitVec 4) (d : BitVec 18) (s : State) : Out :=
  let addr := addrOf (thrAt s th) b d
  .next (issue s th (.ldr th a b d) [noPacket th, (.recRange, decide (63 < addr))] (fun _ => 0)
    (modThr s th (fun x => stepPc (putR x a (loadRec s th addr)))))

/-- Stores a record word through the store buffer (R81, R104, R144). -/
def execStr (th : Thr) (a b : BitVec 4) (d : BitVec 18) (s : State) : Out :=
  let addr := addrOf (thrAt s th) b d
  .next (issue s th (.str th a b d)
    [noPacket th, (.recRange, decide (63 < addr)), (.recOwn, recNotOwned s th addr)] (fun _ => 0)
    (modThr (storeRec s th addr (getR (thrAt s th) a)) th stepPc))

/-- The faults of RBS and RBC. -/
def bitFaults (s : State) (th : Thr) (d : BitVec 18) : List (FaultCode × Bool) :=
  [noPacket th, (.align, decide (35 < dLow d)), (.recOwn, recNotOwned s th (dMid d))]

/-- Sets one record bit as a whole-word store formed at issue (R144). -/
def execRbs (th : Thr) (d : BitVec 18) (s : State) : Out :=
  .next (issue s th (.rbs th d) (bitFaults s th d) (fun _ => 0)
    (modThr (storeRec s th (dMid d) (loadRec s th (dMid d) ||| (1#36 <<< dLow d))) th stepPc))

/-- Clears one record bit as a whole-word store formed at issue (R144). -/
def execRbc (th : Thr) (d : BitVec 18) (s : State) : Out :=
  .next (issue s th (.rbc th d) (bitFaults s th d) (fun _ => 0)
    (modThr (storeRec s th (dMid d) (loadRec s th (dMid d) &&& ~~~ (1#36 <<< dLow d))) th stepPc))

/-- The nonets of LDD and STD: C[3:2] + 1 from nonet C[1:0]. -/
def ddCount (c : BitVec 4) : Nat := c.toNat / 4 + 1
def ddFirst (c : BitVec 4) : Nat := c.toNat % 4

/-- The faults of LDD and STD (R137). -/
def ddFaults (c : BitVec 4) (addr : Nat) : List (FaultCode × Bool) :=
  [(.align, decide (3 < c.toNat / 4 + c.toNat % 4)), (.dmemRange, decide (8191 < addr))]

/-- DETAIL of DMEM_RANGE is the address (R123). -/
def dmemDetail (addr : Nat) (f : FaultCode) : Nat := if f = .dmemRange then addr else 0

/-- Nonets of a word in the low positions. -/
def takeNonets (w : Word36) (first n : Nat) : Word36 := (w >>> (36 - 9 * (first + n))) &&& lowMask' (9 * n)
where lowMask' (k : Nat) : Word36 := BitVec.ofNat 36 (2 ^ k - 1)

/-- Data-memory load with forwarding (R144). -/
def execLdd (th : Thr) (a b c : BitVec 4) (d : BitVec 18) (s : State) : Out :=
  let addr := addrOf (thrAt s th) b d
  let r := loadWord th false addr (ddFirst c) (ddCount c) 5 s
  .next (issue s th (.ldd th a b c d) (ddFaults c addr) (dmemDetail addr)
    (modThr r.2 th (fun x => stepPc (putR x a (takeNonets r.1 (ddFirst c) (ddCount c))))))

/-- Data-memory store of the low nonets of w[A] (R137). -/
def execStd (th : Thr) (a b c : BitVec 4) (d : BitVec 18) (s : State) : Out :=
  let addr := addrOf (thrAt s th) b d
  .next (issue s th (.std th a b c d) (ddFaults c addr) (dmemDetail addr)
    (modThr (pushStore s th {
        toRec := false, addr := addr, first := ddFirst c, count := ddCount c,
        val := getR (thrAt s th) a <<< (36 - 9 * (ddFirst c + ddCount c)) }) th stepPc))

/-- Atomic fetch and add (R145); w[C] is read before w[A] is written (log entry 21). -/
def execXadd (th : Thr) (a b c : BitVec 4) (d : BitVec 18) (s : State) : Out :=
  let addr := addrOf (thrAt s th) b d
  let s1 := drainAll s th
  let old := tgetD (coreAt s1 th.v th.core).dmem addr 0
  .next (issue s th (.xadd th a b c d) [(.dmemRange, decide (8191 < addr))] (dmemDetail addr)
    (modThr (modCore s1 th.v th.core (fun k => { k with dmem := tset k.dmem addr (old + getR (thrAt s th) c) })) th
      (fun x => stepPc (putR x a old))))

/-- Waits until the store buffer is empty: the buffer drains (R137). -/
def execFence (th : Thr) (s : State) : Out :=
  .next (issue s th (.fence th) [] (fun _ => 0) (modThr (drainAll s th) th stepPc))

end Sys2Proof.Machine
end

