-- ==== Sys2Proof/Machine/ColFlow.lean ====
section
/-! DEFINITION. Control flow of the Col cores (R139), undefined encodings (R130). -/

namespace Sys2Proof.Machine

/-- Branches to the target, or goes on. -/
def branch (taken : Bool) (d : BitVec 18) (x : Thread) : Thread := { x with pc := if taken then targetOf d else x.pc + 1 }

def execBr (th : Thr) (a : BitVec 4) (d : BitVec 18) (s : State) : Out :=
  .next (issue s th (.br th a d) [] (fun _ => 0) (modThr s th (fun x => branch (condHolds a x) d x)))

def execCbeq (th : Thr) (b c : BitVec 4) (d : BitVec 18) (s : State) : Out :=
  .next (issue s th (.cbeq th b c d) [] (fun _ => 0) (modThr s th (fun x => branch (decide (getR x b = getR x c)) d x)))

def execCbne (th : Thr) (b c : BitVec 4) (d : BitVec 18) (s : State) : Out :=
  .next (issue s th (.cbne th b c d) [] (fun _ => 0) (modThr s th (fun x => branch (decide (getR x b ≠ getR x c)) d x)))

def execCall (th : Thr) (a : BitVec 4) (d : BitVec 18) (s : State) : Out :=
  .next (issue s th (.call th a d) [] (fun _ => 0)
    (modThr s th (fun x => { putR x a (BitVec.ofNat 36 (x.pc + 1)) with pc := targetOf d })))

/-- A value of 16,384 or more faults at the next fetch. -/
def execJr (th : Thr) (b : BitVec 4) (s : State) : Out :=
  .next (issue s th (.jr th b) [] (fun _ => 0) (modThr s th (fun x => { x with pc := (getR x b).toNat })))

def execJtab (th : Thr) (b c : BitVec 4) (d : BitVec 18) (s : State) : Out :=
  .next (issue s th (.jtab th b c d) [] (fun _ => 0) (modThr s th (fun x =>
    { x with pc := if (getR x b).toNat ≤ c.toNat then targetOf d + (getR x b).toNat else x.pc + 1 })))

def execNop (th : Thr) (s : State) : Out :=
  .next (issue s th (.nop th) [] (fun _ => 0) (modThr s th stepPc))

/-- An undefined encoding faults with ILLEGAL (R130). -/
def execIllegal (th : Thr) (w : Word36) (s : State) : Out :=
  .next (issue s th (.illegal th w) [(.illegal, true)] (fun _ => 0) s)

end Sys2Proof.Machine
end

