-- ==== Sys2Proof/Machine/ColFamily.lean ====
section
/-! DEFINITION. Packets, families and table lookups of the Col cores (R103-R105, R140), and the release to Narrows
(R83, R109, R111). -/

namespace Sys2Proof.Machine

/-! ### Release -/

/-- TENANCY at release (R83): a preset value is restored, and the attempt counted when the program left another. -/
def releaseTen (s : State) (v : Vale) (i : Nat) : State :=
  match pktAt s v i with
  | none => s
  | some p =>
    if p.preset ≠ 0 ∧ pktTen p ≠ p.preset then
      count (setPkt s v i (recPutBits p 1 0 32 p.preset.toNat)) (vkey v 0x3007 3)
    else s

/-- The drop reason at release (R109), `drop` for DROP set by the program. -/
def releaseReason (s : State) (p : Packet) (drop : Bool) : Option Nat :=
  if p.discarded then some 0x04
  else if !tenFresh s (pktTen p) then some 0x06
  else if drop || decide (recBits p 5 35 1 = 1) then some 0x01
  else none

/-- The packet's own thread releases (R101, R111): its buffer has drained; a drop frees the thread at once, otherwise it
waits in Releasing. -/
def doRelease (s : State) (th : Thr) (drop : Bool) : State :=
  let s1 := drainAll s th
  match (thrAt s1 th).pkt with
  | none => s1
  | some i =>
    let s2 := releaseTen s1 th.v i
    let p := (pktAt s2 th.v i).getD {}
    match releaseReason s2 p drop with
    | some r => dropPkt (modThr s2 th threadEnded) th.v i r
    | none => modThr s2 th (fun x => { x with st := .releasing })

/-- The threads of a core other than one. -/
def parentThr (th : Thr) (t : Nat) : Thr := { th with t := ⟨t % 8, Nat.mod_lt _ (by decide)⟩ }

/-- The last child has ended: the parent leaves Wait-join (R101). -/
def childEnded (s : State) (th : Thr) (parent : Nat) : State :=
  let pt := parentThr th parent
  if childrenOf (coreAt s th.v th.core) parent = [] then
    match (thrAt s pt).st with
    | .waitJoin false => modThr s pt (fun x => stepPc { x with st := .running })
    | .waitJoin true => doRelease s pt (thrAt s pt).drop
    | _ => s
  else s

/-! ### FORK, JOIN, RELEASE, END -/

def isChild (s : State) (th : Thr) : Bool := (thrAt s th).parent.isSome

/-- The lowest-numbered Free packet thread (log entry 22). -/
def findFreeThread (c : Core) : Option Nat := (List.range 8).find? (threadFree c)

/-- Two ranges of record words meet. -/
def rangesMeet (f n g m : Nat) : Bool := decide (f < g + m) && decide (g < f + n)

/-- The grant overlaps that of a live child. -/
def grantOverlaps (s : State) (th : Thr) (f n : Nat) : Bool :=
  let c := coreAt s th.v th.core
  (childrenOf c th.t).any (fun k => match (threadOf c k).grant with
    | some (g, m) => rangesMeet f n g m
    | none => false)

/-- The pool of the thread's packet has a thread left (R103). -/
def forkHasShare (s : State) (th : Thr) : Bool :=
  match chargedTo s (pktOf s th) with
  | some p => poolHasThread s th.v p
  | none => true

/-- FORK with its faults passed and its buffer drained (R103, R140). -/
def doFork (s : State) (th : Thr) (a : BitVec 4) (first n : Nat) (d : BitVec 18) : State :=
  let s1 := drainAll s th
  let c := coreAt s1 th.v th.core
  let refuse := count (modThr s1 th (fun x => stepPc { putR x a 0 with z := true })) (vkey th.v 0x3013 0x40)
  if 3 ≤ (childrenOf c th.t).length ∨ ¬ forkHasShare s1 th then refuse
  else match findFreeThread c with
    | none => refuse
    | some t =>
      let x := thrAt s1 th
      let child : Thread := { putR x a 0 with
        st := .running, pc := targetOf d, parent := some th.t.val, grant := some (first, n), sb := [],
        off := (threadOf c t).off, parity := (threadOf c t).parity }
      modThr (setThr s1 (parentThr th t) child) th (fun y => stepPc { putR y a (BitVec.ofNat 36 t) with z := false })

def execFork (th : Thr) (a b c : BitVec 4) (d : BitVec 18) (s : State) : Out :=
  let first := (getR (thrAt s th) b).toNat
  let n := c.toNat + 1
  .next (issue s th (.fork th a b c d)
    [noPacket th, (.family, isChild s th), (.forkRange, decide (first < 16) || decide (64 < first + n)),
     (.recOwn, grantOverlaps s th first n)] (fun _ => 0)
    (doFork s th a first n d))

def execJoin (th : Thr) (s : State) : Out :=
  .next (issue s th (.join th) [noPacket th, (.family, isChild s th)] (fun _ => 0)
    (if childrenOf (coreAt s th.v th.core) th.t = [] then modThr s th stepPc
     else modThr s th (fun x => { x with st := .waitJoin false })))

def execRelease (th : Thr) (d : BitVec 18) (s : State) : Out :=
  let drop := d.getLsbD 0
  .next (issue s th (.release th d) [noPacket th, (.family, isChild s th)] (fun _ => 0)
    (if childrenOf (coreAt s th.v th.core) th.t = [] then doRelease s th drop
     else modThr s th (fun x => { x with st := .waitJoin true, drop := drop })))

def execEnd (th : Thr) (s : State) : Out :=
  .next (issue s th (.end_ th) [noPacket th, (.family, !isChild s th)] (fun _ => 0)
    (match (thrAt s th).parent with
     | none => s
     | some q => childEnded (modThr (drainAll s th) th threadEnded) th q))

/-! ### TLK -/

/-- The TLK key (R140): bits [31:0] of the record words, first word most significant. -/
def tlkKey (s : State) (th : Thr) (first n : Nat) : Nat :=
  (List.range n).foldl (fun k i => k * 2 ^ 32 + (recAt (pktOf s th) (first + i)).toNat % 2 ^ 32) 0

/-- The partition is not Col-visible or belongs to another (R140): the preset tenancy and the operator count. -/
def tblNoAccess (s : State) (th : Thr) (part : Option Partition) : Bool :=
  match part with
  | none => true
  | some p => !bitOf p.flags 0 || (decide (p.owner ≠ 0) && decide (p.owner ≠ (pktOf s th).preset))

/-- The key length differs from the partition's key width rounded up to 32 bits. -/
def tblBadKey (part : Option Partition) (n : Nat) : Bool :=
  match part with
  | none => false
  | some p => decide (32 * n ≠ ceilDiv p.keyWidth 32 * 32)

def execTlk (th : Thr) (a b c : BitVec 4) (d : BitVec 18) (s : State) : Out :=
  let first := (getR (thrAt s th) b).toNat
  let n := c.toNat % 4 + 1
  let part := partAt s th.v (d.toNat % 1024)
  let s1 := drainAll s th
  .next (issue s th (.tlk th a b c d)
    [noPacket th, (.align, decide (a.toNat % 2 = 1)), (.recRange, decide (63 < first + c.toNat % 4)),
     (.tblAccess, tblNoAccess s th part), (.tblKey, tblBadKey part n)] (fun _ => 0)
    (modThr s1 th (fun x => { x with
       st := .waitTable
       wait := { part := d.toNat % 1024, key := tlkKey s1 th first n, a := a, since := nowNs s } })))

/-- The result of a TLK (R181): a key of direct and range partitions with a bit above the key width misses. -/
def tlkResult (s : State) (v : Vale) (part key : Nat) : Option (BitVec 64) :=
  match partAt s v part with
  | none => none
  | some p =>
    if (p.kind = 4 ∨ p.kind = 5) ∧ 2 ^ p.keyWidth ≤ key then none
    else match lookupAll (s.vale v).table p key with
      | some q => (tget p.slots q).map (·.result)
      | none => none

/-- A table lookup that misses on-die in a partition with an extension searches there: PART_INFO counts it, and its buckets are
the most recent of the cache (R184). -/
def tlkExt (s : State) (v : Vale) (part key : Nat) : State :=
  match partAt s v part with
  | none => s
  | some p =>
    let x := (s.vale v).table
    if p.extCapacity = 0 ∨ (lookupDie x p key).isSome ∨ ((p.kind = 4 ∨ p.kind = 5) ∧ 2 ^ p.keyWidth ≤ key) then s
    else
      let ids := extBucketIds p key
      let hit := if ids.all (bucketCached x) then 1 else 0
      (setPart s v part { p with
        extLookups := (p.extLookups + 1) % 2 ^ 64, cacheHits := (p.cacheHits + hit) % 2 ^ 64 }).modTable v
        (fun y => ids.foldl touchBucket y)

/-- A table result returns to a thread in Wait-table. -/
def execTableResultReturn (th : Thr) (s : State) : Out :=
  .next (if (thrAt s th).st = .waitTable then
      let w := (thrAt s th).wait
      let s := tlkExt s th.v w.part w.key
      match tlkResult s th.v w.part w.key with
      | some r =>
        let hi : Word36 := (r.extractLsb' 32 32).zeroExtend 36
        let lo : Word36 := (r.extractLsb' 0 32).zeroExtend 36
        modThr s th (fun x => stepPc { putR (putR x w.a hi) (w.a + 1) lo with st := .running, z := false })
      | none => modThr s th (fun x => stepPc { putR (putR x w.a 0) (w.a + 1) 0 with st := .running, z := true })
    else s)

/-- A table wait reaches its limit (R101): fault TBL_WAIT. -/
def execTblWaitLimit (th : Thr) (s : State) : Out :=
  .next (if (thrAt s th).st = .waitTable ∧ ¬ valeSlow s th.v then colFault s th .tblWait 0 else s)

/-- A header wait reaches its limit (R99): fault HDR_WAIT, DETAIL the lowest offset still Pending. -/
def execHdrWaitLimit (th : Thr) (s : State) : Out :=
  .next (if (thrAt s th).st = .waitHeader ∧ ¬ valeSlow s th.v then
      let w := (thrAt s th).wait
      colFault s th .hdrWait (lowestIn (pktOf s th) w.addr w.n .pending)
    else s)

/-- One store-buffer entry of a thread drains (R144). -/
def execStoreDrain (th : Thr) (s : State) : Out := .next (drainOne s th)

end Sys2Proof.Machine
end

