-- ==== Sys2Proof/Machine/ColSup.lean ====
section
/-! DEFINITION. Supervisor instructions and control words (R141, R146-R148). -/

namespace Sys2Proof.Machine

/-! ### Control words (R148) -/

def ctlExists (i : Nat) : Bool :=
  decide (i ≤ 0x00B) || (decide (0x010 ≤ i) && decide (i ≤ 0x027))

/-- Slot `n` is bound in an image's vector table (R117, R149). -/
def slotBound (i : Image) (n : Nat) : Bool := decide (i.vectors.getD n 0xFFFF ≠ 0xFFFF)

def supImage (c : Core) : Image := (bankOf c c.supBank).getD {}

/-- Bit n set when slot n is bound. -/
def boundBits (c : Core) : Nat :=
  (List.range 16).foldl (fun w n => if slotBound (supImage c) n then w + 2 ^ n else w) 0

/-- The value of a control word. DESIGN CHOICE (log entry 81): LOGICAL_SLOT of a core without a slot that is
not Spare (Draining) reads 127. -/
def ctlRead (s : State) (v : Vale) (n : Nat) (c : Core) (i : Nat) : Nat :=
  if i < 4 then (timerOf c i).period
  else if i < 8 then
    let t := timerOf c (i - 4)
    bit1 t.en * 2 ^ 35 + bit1 t.periodic * 2 ^ 34 + t.slot
  else if i < 0xC then (timerOf c (i - 8)).ovr
  else if i < 0x18 then
    let e := edOf c (i - 0x10)
    bit1 e.en * 2 ^ 35 + e.edge * 2 ^ 33 + e.line * 2 ^ 8 + e.slot
  else if i < 0x20 then (edOf c (i - 0x18)).ovr
  else if i = 0x20 then c.latchEd.toNat * 16 + c.latchTmr.toNat
  else if i = 0x21 then boundBits c
  else if i = 0x22 then valeNum v * 2 ^ 35 + n * 2 ^ 16 + (c.slot.getD 127)
  else if i = 0x23 then c.notes.length
  else if i = 0x24 then s.time.ns
  else if i = 0x25 then c.secLatch.getD (s.time.sec % 2 ^ 32)
  else if i = 0x26 then (supImage c).progId
  else s.epoch.active

/-- A read's effect: TIME_NS latches TIME_SEC, and the next read of TIME_SEC takes the latched value. -/
def ctlReadEffect (s : State) (c : Core) (i : Nat) : Core :=
  if i = 0x24 then { c with secLatch := some (s.time.sec % 2 ^ 32) }
  else if i = 0x25 then { c with secLatch := none }
  else c

/-- An accepted write of a control word; none: refused. -/
def ctlWrite (c : Core) (i w : Nat) : Option Core :=
  if i < 4 then
    let p := bitsOf w 0 32
    if p = 0 then none else some { c with timers := tset c.timers i { timerOf c i with period := p } }
  else if i < 8 then
    let t := timerOf c (i - 4)
    let slot := bitsOf w 0 4
    if slot = 15 ∨ (bitOf w 35 ∧ t.period = 0) then none
    else some { c with timers := tset c.timers (i - 4) { t with en := bitOf w 35, periodic := bitOf w 34, slot := slot } }
  else if i < 0xC then some { c with timers := tset c.timers (i - 8) { timerOf c (i - 8) with ovr := 0 } }
  else if i < 0x18 then
    let e := edOf c (i - 0x10)
    let slot := bitsOf w 0 4
    let edge := bitsOf w 33 2
    if slot = 15 ∨ edge = 0 then none
    else
      let e1 : EdgeDet := { e with en := bitOf w 35, edge := edge, line := bitsOf w 8 6, slot := slot }
      some { c with eds := tset c.eds (i - 0x10) e1 }
  else if i < 0x20 then some { c with eds := tset c.eds (i - 0x18) { edOf c (i - 0x18) with ovr := 0 } }
  else if i = 0x20 then
    some { c with latchTmr := c.latchTmr &&& ~~~ (BitVec.ofNat 4 w),
                  latchEd := c.latchEd &&& ~~~ (BitVec.ofNat 8 (w / 16)) }
  else none

def execMfc (th : Thr) (a : BitVec 4) (d : BitVec 18) (s : State) : Out :=
  let i := d.toNat % 4096
  let c := coreAt s th.v th.core
  .next (issue s th (.mfc th a d) [supOnly th, (.ctlRange, !ctlExists i)] (fun _ => 0)
    (modThr (setCore s th.v th.core (ctlReadEffect s c i)) th
      (fun x => stepPc (putR x a (BitVec.ofNat 36 (ctlRead s th.v th.core c i))))))

/-- What an accepted write starts: a stopped timer that is enabled starts from zero (R148); a detector that is set up knows the
level its line has now. -/
def ctlStart (s : State) (v : Vale) (c c1 : Core) (i : Nat) : Core :=
  if 4 ≤ i ∧ i < 8 ∧ (timerOf c1 (i - 4)).en ∧ ¬ (timerOf c (i - 4)).en then
    { c1 with timers := tset c1.timers (i - 4) (startTimer s (timerOf c1 (i - 4))) }
  else if 0x10 ≤ i ∧ i < 0x18 then { c1 with eds := tset c1.eds (i - 0x10) (startEd s v (edOf c1 (i - 0x10))) }
  else c1

def execMtc (th : Thr) (b : BitVec 4) (d : BitVec 18) (s : State) : Out :=
  let i := d.toNat % 4096
  let c := coreAt s th.v th.core
  .next (issue s th (.mtc th b d) [supOnly th, (.ctlRange, !ctlExists i)] (fun _ => 0)
    (match ctlWrite c i (getR (thrAt s th) b).toNat with
     | some c1 => modThr (setCore s th.v th.core (ctlStart s th.v c c1 i)) th (fun x => stepPc { x with v := false })
     | none => modThr s th (fun x => stepPc { x with v := true })))

/-- The bank a supervisor uses from its next Waiting onward (R153): the new one during Retiring. -/
def waitBank (s : State) (v : Vale) (c : Core) : Bool :=
  if s.epoch.st = .retiring ∧ (s.vale v).col.staged.isSome then !c.cur else c.cur

/-- Ends the running handler or the entry code and waits (R118, R141, R153). -/
def execWait (th : Thr) (s : State) : Out :=
  .next (issue s th (.wait th) [supOnly th] (fun _ => 0)
    (modThr (modCore s th.v th.core (fun c => { c with supBank := waitBank s th.v c })) th
      (fun x => { x with st := .waiting })))

def execNpop (th : Thr) (a : BitVec 4) (s : State) : Out :=
  .next (issue s th (.npop th a) [supOnly th, (.align, decide (a.toNat % 4 ≠ 0))] (fun _ => 0)
    (match (coreAt s th.v th.core).notes with
     | [] => modThr s th (fun x => stepPc { x with z := true })
     | ws :: r =>
       modThr (modCore s th.v th.core (fun c => { c with notes := r })) th (fun x =>
         stepPc { putR (putR (putR (putR x a (ws.getD 0 0)) (a + 1) (ws.getD 1 0)) (a + 2) (ws.getD 2 0)) (a + 3)
           (ws.getD 3 0) with z := false })))

def execLdim (th : Thr) (a b : BitVec 4) (d : BitVec 18) (s : State) : Out :=
  let addr := addrOf (thrAt s th) b d
  let c := coreAt s th.v th.core
  .next (issue s th (.ldim th a b d) [supOnly th, (.imemAddr, decide (16383 < addr))] (fun _ => 0)
    (modThr s th (fun x => stepPc (putR x a (codeWord c c.supBank addr)))))

/-- A queued STIM reaches instruction memory. -/
def applyStim (c : Core) (e : StimEnt) : Core :=
  let i := (bankOf c e.bank).getD {}
  setBank c e.bank (some { i with code := tset i.code e.addr e.val })

/-- SYNCI (R147): the data store buffer drains, then every queued STIM is written and counted. -/
def doSynci (s : State) (th : Thr) : State :=
  let s1 := drainAll s th
  let q := (coreAt s1 th.v th.core).stimQ
  let s2 := modCore s1 th.v th.core (fun c => { q.foldl applyStim c with stimQ := [] })
  bump s2 (vkey th.v 0x3017 5) 64 q.length

/-- STIM (R146): queued; with eight queued already a full SYNCI comes first. -/
def execStim (th : Thr) (a b : BitVec 4) (d : BitVec 18) (s : State) : Out :=
  let addr := addrOf (thrAt s th) b d
  let s1 := if 8 ≤ (coreAt s th.v th.core).stimQ.length then doSynci s th else s
  let bank := (coreAt s th.v th.core).supBank
  .next (issue s th (.stim th a b d) [supOnly th, (.imemAddr, decide (16383 < addr))] (fun _ => 0)
    (modThr (modCore s1 th.v th.core (fun c =>
      { c with stimQ := c.stimQ ++ [{ bank := bank, addr := addr, val := getR (thrAt s th) a }] })) th stepPc))

def execSynci (th : Thr) (s : State) : Out :=
  .next (issue s th (.synci th) [supOnly th] (fun _ => 0) (modThr (doSynci s th) th stepPc))

end Sys2Proof.Machine
end

