-- ==== Sys2Proof/Machine/ColEvents.lean ====
section
/-! DEFINITION. Events of the Col cores (R118-R127), COL_TEST, COND_QUEUE and program images (R149-R154). -/

namespace Sys2Proof.Machine

/-! ### Latches and handlers (R118-R121) -/

/-- The core runs: Active, substituting (R125), or Draining for a test (R126). -/
def coreRuns (s : State) (v : Vale) (n : Nat) : Bool :=
  !(s.vale v).col.held && (decide ((coreAt s v n).st = .active) || (coreAt s v n).substFor.isSome || (coreAt s v n).draining)

/-- An overrun: the count rises, saturating at 255; passing a multiple of 16 is notified with kind 3 (R118, R123). DESIGN
CHOICE (log entry 81): a count has passed a multiple of 16 when it reaches it. -/
def overrun (s : State) (v : Vale) (n : Nat) (ovr source : Nat) : State :=
  if ovr < 255 ∧ (ovr + 1) % 16 = 0 then
    pushNote s v n [BitVec.ofNat 36 (3 * 2 ^ 32 + source * 2 ^ 21), 0, 0, 0]
  else s

/-- The timer has counted its period in ticks of the tick base (R120, R230). -/
def timerDue (s : State) (t : Timer) : Bool := t.en && decide (t.due ≤ s.time.ticks)

/-- A timer reaches its period (R118, R120); before its tick the command does nothing. The next expiry of a periodic timer
falls one period, as it is then, after this one (R148). -/
def execTimerExpiry (v : Vale) (core : Fin 100) (i : Fin 4) (s : State) : Out :=
  let c := coreAt s v core
  let t := timerOf c i
  .next (if coreRuns s v core && timerDue s t then
      let t1 : Timer := { t with en := t.periodic, due := t.due + t.period }
      if c.latchTmr.getLsbD i then
        overrun (setCore s v core { c with timers := tset c.timers i { t1 with ovr := min 255 (t.ovr + 1) } }) v core
          t.ovr i
      else setCore s v core { c with timers := tset c.timers i t1, latchTmr := c.latchTmr ||| (1#4 <<< i.val) }
    else s)

/-- A detector selects an edge: 1 rising, 2 falling, 3 both (R148). -/
def edgeSelected (e : EdgeDet) (rising : Bool) : Bool :=
  e.en && decide (e.line < 56) && (if rising then bitOf e.edge 0 else bitOf e.edge 1)

/-- The edge that a detector meets: its line stands at the level after the edge, and it saw the other level last (R121). Of
changes less than a command apart it may see none. -/
def edgeArises (s : State) (v : Vale) (e : EdgeDet) (rising : Bool) : Bool :=
  decide (lineLevel s v e.line = rising) && decide (e.seen ≠ rising)

/-- An edge on a detector's line (R118, R121). -/
def execEdgeDetect (v : Vale) (core : Fin 100) (i : Fin 8) (rising : Bool) (s : State) : Out :=
  let c := coreAt s v core
  let e := edOf c i
  .next (if coreRuns s v core && edgeArises s v e rising then
      let e1 : EdgeDet := { e with seen := rising }
      if !edgeSelected e rising then setCore s v core { c with eds := tset c.eds i e1 }
      else if c.latchEd.getLsbD i then
        overrun (setCore s v core { c with eds := tset c.eds i { e1 with ovr := min 255 (e.ovr + 1) } }) v core
          e.ovr (4 + i)
      else setCore s v core { c with latchEd := c.latchEd ||| (1#8 <<< i.val), eds := tset c.eds i e1 }
    else s)

/-- Slot `n` has a latched source (R118). -/
def slotLatched (c : Core) (n : Nat) : Bool :=
  if n = 15 then !c.notes.isEmpty
  else (List.range 4).any (fun i => c.latchTmr.getLsbD i && decide ((timerOf c i).slot = n))
    || (List.range 8).any (fun i => c.latchEd.getLsbD i && decide ((edOf c i).slot = n))

/-- The lowest latched slot that is bound. -/
def dueSlot (c : Core) : Option Nat := (List.range 16).find? (fun n => slotBound (supImage c) n && slotLatched c n)

/-- Clears the latches of a slot's sources. -/
def clearSlot (c : Core) (n : Nat) : Core :=
  { c with
    latchTmr := (List.range 4).foldl (fun w i => if (timerOf c i).slot = n then w &&& ~~~ (1#4 <<< i) else w) c.latchTmr
    latchEd := (List.range 8).foldl (fun w i => if (edOf c i).slot = n then w &&& ~~~ (1#8 <<< i) else w) c.latchEd }

/-- The waiting supervisor starts the handler of the lowest latched bound slot (R118). -/
def execHandlerStart (v : Vale) (core : Fin 100) (s : State) : Out :=
  let c := coreAt s v core
  .next (if coreRuns s v core && decide ((threadOf c 0).st = .waiting) then
      match dueSlot c with
      | none => s
      | some n =>
        let c1 := clearSlot c n
        setCore s v core { c1 with threads := tmod c1.threads 0 {} (fun x =>
          { x with st := .running, pc := (supImage c).vectors.getD n 0xFFFF, bank := c.supBank }) }
    else s)

/-- A handler that has run for 100 µs is a block-level error of the core (R119). -/
def execSupervisorHandlerLimit (v : Vale) (core : Fin 100) (s : State) : Out :=
  .next (if coreRuns s v core && decide ((threadOf (coreAt s v core) 0).st = .running) then
      coreBlockError s v core (.colSupervisor v core 0) 7 0
    else s)

/-! ### COL_TEST (R126) -/

/-- The in-field test of a core; a Spare is tested without substitution and is Testing meanwhile (R124). COL_TEST (R126). DESIGN CHOICE (log entry 81): a Spare that is loading as
a substitute, and a core that waits for its automatic test, are answered BUSY. -/
def colTestOp (who : Who) (v : Vale) (n : U8) : DictOp where
  status := fun s =>
    let c := coreAt s v n.toNat
    firstStatus (baseChecks s (isO who) ++
      [(.range, decide (99 < n.toNat) || decide (c.st = .retired)),
       (.busy, !testIdle s || decide (c.st = .testing) || c.substFor.isSome)])
  effect := fun s =>
    let n := n.toNat
    let c := coreAt s v n
    if c.st = .spare then
      ((modCore s v n (fun c => { c with st := .testing })).modCol v (fun x =>
        { x with testSt := 2, testCore := n, testNamed := n, testStart := tickNs s }), [])
    else
      let s1 := s.modCol v (fun x => { x with testSt := 1, testCore := n, testNamed := n, testStart := tickNs s })
      let s2 := modCore s1 v n (fun c => { c with st := .testing, slot := none, draining := true })
      match c.slot, findSpare s2 v with
      | some k, some _ => (startSubst s2 v k, [])
      | _, _ => (poolShortEvent s2 v, [])
  retry := fun s => max (estimateMs s 3000000 s.east.col.testStart) (estimateMs s 3000000 s.west.col.testStart)

def execColTest (who : Who) (v : Vale) (n : U8) (s : State) : Out := .next (runOp (colTestOp who v n) s)

/-- Testing begins: the supervisor, timers and detectors stop (R126). -/
def toTesting (s : State) (v : Vale) (n : Nat) : State :=
  (modCore s v n (fun c => { stopSup c with draining := false })).modCol v (fun x => { x with testSt := 2 })

/-- All packet threads of a core are Free. -/
def coreDrained (c : Core) : Bool := (List.range 7).all (fun t => decide ((threadOf c (t + 1)).st = .free))

def execColTestDrained (v : Vale) (s : State) : Out :=
  let x := (s.vale v).col
  .next (if x.testSt = 1 ∧ coreDrained (coreOf x x.testCore) then toTesting s v x.testCore else s)

/-- Families still present are ended per R106 with code PARITY (R126). -/
def execColTestDrainTimeout (v : Vale) (s : State) : Out :=
  let x := (s.vale v).col
  let n := x.testCore
  .next (if x.testSt = 1 then
      let s1 := (List.range 8).foldl (fun a t =>
        match (threadOf (coreAt a v n) t).pkt with
        | some i => count (endFamily a v n i 0x02) (vkey v 0x3013 (faultNum .parity))
        | none => a) s
      toTesting s1 v n
    else s)

/-- A core that becomes Spare is loaded with the active image, and the staged one in its shadow bank (R154). -/
def spareCore (x : ColState) : Core :=
  { st := .spare, bank0 := x.active, bank1 := if x.progState = 2 then x.staged else none }

/-- A logical slot that no core fills or is about to fill. -/
def emptySlot (x : ColState) : Option Nat :=
  (List.range 96).find? (fun k => (List.range 100).all (fun n =>
    decide ((coreOf x n).slot ≠ some k) && decide ((coreOf x n).substFor ≠ some k)))

/-- The test ends (R126): on a pass the core becomes Spare, and fills a slot that stands empty (log entry 23); on a
fail it is Retired. Then the next core that waits for a test starts it (R127). -/
def execColTestDone (v : Vale) (pass : Bool) (s : State) : Out :=
  let x := (s.vale v).col
  let n := x.testCore
  .next (if x.testSt = 2 then
      let ok := testVerdict s (valeBlock v n) pass
      let s1 := ok.2.modCol v (fun y => { y with testSt := 0, testResult := if ok.1 then .ok else .halted })
      let s2 :=
        if ok.1 then
          let a := setCore s1 v n (spareCore x)
          match emptySlot (a.vale v).col with
          | some k => startSubst a v k
          | none => a
        else
          raise (setCore s1 v n { st := .retired }) { cls := 2, name := "COL_RETIRED", unit := valeBlock v n }
      nextTest (nextTest s2 v) (otherVale v)
    else s)

/-- The substitute takes the logical slot and becomes Active (R125). -/
def execSubstitutionComplete (v : Vale) (core : Fin 100) (s : State) : Out :=
  let c := coreAt s v core
  .next (match c.substFor with
    | some k => setCore s v core { c with st := .active, slot := some k, substFor := none }
    | none => s)

/-! ### COND_QUEUE (R122) -/

/-- The checks on a queue handle of a COND_QUEUE write: of this Vale's queue kind, or 0. -/
def condQueueOp (who : Who) (v : Vale) (i : Fin 32) (r : Rec 12) : DictOp where
  status := fun s =>
    let h : Handle := BitVec.ofNat 32 (recField 12 0 4 r.toNat)
    firstStatus (baseChecks s (isO who) ++
      [(.range, decide (recField 12 4 4 r.toNat < recField 12 8 4 r.toNat)
          || (decide (h ≠ 0) && !handleFits h (0x10 + valeNum v))),
       (.staleHandle, handleStale s h),
       (.halted, objHalted s h (0x10 + valeNum v))])
  effect := fun s =>
    ((setNum s (vkey v 0x3015 i) r.toNat).modCol v (fun x => { x with queueLines := x.queueLines.filter (fun k => decide (k ≠ i.val)) }), [])

def execCondQueueWrite (who : Who) (v : Vale) (i : Fin 32) (r : Rec 12) (s : State) : Out :=
  .next (runOp (condQueueOp who v i r) s)

/-! ### Program images (R149-R152) -/

/-- A big-endian field of an image. -/
def imgField (bs : List Byte) (off n : Nat) : Nat := beNat ((bs.drop off).take n)

/-- A 16-bit vector entry is bound and at or above the code (R150 check 7). -/
def badVector (bs : List Byte) (codeWords slot : Nat) : Bool :=
  let e := imgField bs (32 + 2 * slot) 2
  decide (e ≠ 0xFFFF) && decide (codeWords ≤ e)

/-- Check 8 of R150: the lowest offset that fails. -/
def badTimers (bs : List Byte) : Option Nat :=
  match (List.range 4).find? (fun i => bitOf (imgField bs (80 + i) 1) 7 && decide (imgField bs (64 + 4 * i) 4 = 0)) with
  | some i => some (64 + 4 * i)
  | none =>
    match (List.range 4).find? (fun i => decide (bitsOf (imgField bs (80 + i) 1) 0 4 = 15)) with
    | some i => some (80 + i)
    | none =>
      match (List.range 8).find? (fun i =>
          let c := imgField bs (84 + 2 * i) 2
          (bitOf c 15 && decide (bitsOf c 13 2 = 0)) || decide (bitsOf c 0 4 = 15)) with
      | some i => some (84 + 2 * i)
      | none => none

/-- The checks of R150 in their order: status and recorded offset of the first that fails. -/
def imageCheck (bs : List Byte) : Option (Status × Nat) :=
  let code := imgField bs 12 2
  let dmem := imgField bs 14 2
  let crc := (crc32c (bs.take 20 ++ [0, 0, 0, 0] ++ bs.drop 24)).toNat
  if imgField bs 0 4 ≠ 0x434F4C50 then some (.range, 0)
  else if imgField bs 4 1 ≠ 1 then some (.version, 4)
  else if code = 0 ∨ 16384 < code then some (.range, 12)
  else if 8192 < dmem then some (.range, 14)
  else if bs.length ≠ 104 + 8 * (code + dmem) then some (.range, 12)
  else if imgField bs 20 4 ≠ crc then some (.range, 20)
  else if imgField bs 24 8 % 2 ^ 16 ≠ 0 then some (.range, 24)
  else if code ≤ imgField bs 16 2 then some (.range, 16)
  else if code ≤ imgField bs 18 2 then some (.range, 18)
  else match (List.range 16).find? (badVector bs code) with
    | some n => some (.range, 32 + 2 * n)
    | none => match badTimers bs with
      | some o => some (.range, o)
      | none => match (List.range (code + dmem)).find? (fun i => decide (2 ^ 36 ≤ imgField bs (104 + 8 * i) 8)) with
        | some i => some (.range, 104 + 8 * i)
        | none => none

/-- The words of an image from word `first` on, zeros left out. -/
def imgWords (bs : List Byte) (first n : Nat) : Tab Word36 :=
  (List.range n).foldr (fun i t =>
    let w := imgField bs (104 + 8 * (first + i)) 8
    if w = 0 then t else (i, BitVec.ofNat 36 w) :: t) []

/-- The image that checked bytes hold (R149). -/
def parseImage (bs : List Byte) : Image :=
  let code := imgField bs 12 2
  { progId := imgField bs 8 4
    code := imgWords bs 0 code
    codeWords := code
    dmem := imgWords bs code (imgField bs 14 2)
    packetEntry := imgField bs 16 2
    supEntry := imgField bs 18 2
    oddClear := imgField bs 24 8
    vectors := (List.range 16).map (fun i => imgField bs (32 + 2 * i) 2)
    tmrPeriod := (List.range 4).map (fun i => imgField bs (64 + 4 * i) 4)
    tmrCtrl := (List.range 4).map (fun i => imgField bs (80 + i) 1)
    edCtrl := (List.range 8).map (fun i => imgField bs (84 + 2 * i) 2)
    digest := Config.sha384 bs }

/-- A cold load (R151): bank 0 becomes the active bank; data memory, timers, detectors and vector slots are set. -/
def coldLoad (i : Image) (c : Core) : Core :=
  if c.st = .active ∨ c.st = .spare then
    { c with
      bank0 := some i
      bank1 := none
      cur := false
      supBank := false
      dmem := i.dmem
      timers := imageTimers i
      eds := imageEds i
      latchTmr := 0
      latchEd := 0
      notes := [] }
  else c

/-- Every physical core of a Vale changed by `f`. -/
def mapCores (s : State) (v : Vale) (f : Core → Core) : State :=
  s.modCol v (fun x => { x with cores := (List.range 100).map (fun n => (n, f (coreOf x n))) })

/-- The address of a COL_PROGRAM write is not acceptable (R150). -/
def imageBadAddr (s : State) (addr len : Nat) : Bool := !inDdrHbm s addr len || decide (addr % 8 ≠ 0)

def imageBadLen (len : Nat) : Bool := decide (len < 104) || decide (196712 < len)

/-- The failure that COL_PROGRAM's image checks give: nothing is looked at while the write cannot be accepted. -/
def progFailure (s : State) (r : Rec 12) : Option (Status × Nat) :=
  let addr := recField 12 0 8 r.toNat
  let len := recField 12 8 4 r.toNat
  if imageBadAddr s addr len then some (.range, 0xFFFFFFFF)
  else if imageBadLen len then some (.range, len)
  else imageCheck (memReadN s.mem addr len)

/-- COL_PROGRAM cannot be accepted now: a load runs, or a commit (R38, R152). -/
def progBusy (s : State) (v : Vale) : Bool :=
  !(s.vale v).col.held && ((s.vale v).col.loading || !stagingOpen s)

/-- A write of COL_PROGRAM (R150-R152). -/
def colProgramOp (who : Who) (v : Vale) (r : Rec 12) : DictOp where
  status := fun s =>
    match firstStatus (baseChecks s (isO who)) with
    | .ok =>
      if imageBadAddr s (recField 12 0 8 r.toNat) (recField 12 8 4 r.toNat) || imageBadLen (recField 12 8 4 r.toNat) then
        .range
      else if progBusy s v then .busy
      else (match progFailure s r with
        | some f => f.1
        | none => .ok)
    | st => st
  effect := fun s =>
    let i := parseImage (memReadN s.mem (recField 12 0 8 r.toNat) (recField 12 8 4 r.toNat))
    if (s.vale v).col.held then
      let s1 := (mapCores s v (coldLoad i)).modCol v (fun x =>
        { x with active := some i, staged := none, progState := 0, loading := false })
      (setNum (setNum s1 (vkey v 0x3017 1) r.toNat) (vkey v 0x3017 2) i.progId, [])
    else
      let s1 := (stage s (vkey v 0x3017 1) r.toNat).modCol v (fun x =>
        { x with staged := some i, progState := 1, loading := true, loadStart := tickNs s })
      (s1, [])
  retry := fun s => if (s.vale v).col.loading then estimateMs s 2000000 (s.vale v).col.loadStart else epochRetry s
  onFail := fun s st =>
    if st = .range ∨ st = .version then
      match progFailure s r with
      | some f => s.modCol v (fun x =>
          { x with progReject := f.2, progState := if x.staged.isSome then x.progState else 3 })
      | none => s
    else s

def execColProgram (who : Who) (v : Vale) (r : Rec 12) (s : State) : Out := .next (runOp (colProgramOp who v r) s)

/-- The staged image has reached every core's shadow bank (R152). -/
def execColProgLoaded (v : Vale) (s : State) : Out :=
  let x := (s.vale v).col
  .next (if x.loading then
      (mapCores s v (fun c => if c.st = .active ∨ c.st = .spare ∨ c.draining then setBank c (!c.cur) x.staged else c)).modCol v
        (fun y => { y with loading := false, progState := 2 })
    else s)

end Sys2Proof.Machine
end

