-- ==== Sys2Proof/Machine/Path.lean ====
section
/-! DEFINITION. The packet path up to the match stages (R72-R83, R97-R116): ports, intake, distribution, header bytes, the watchdog
and Narrows. -/

namespace Sys2Proof.Machine

/-! ### Ports (R72-R74) -/

/-- PORT_MODE of a Vale. -/
def portMode (s : State) (v : Vale) : Nat := numD s (vkey v 0x3000 1) (if Config.hx then 2 else 3)

/-- Lanes per port in a mode (R72). -/
def portWidth (hx : Bool) (m : Nat) : Nat :=
  if hx then (if m = 0 then 4 else if m = 1 then 2 else 1)
  else (if m = 0 then 8 else if m = 1 then 4 else if m = 2 then 2 else 1)

/-- Lanes of a Vale that are not fused off (R2). -/
def laneCount (hx : Bool) : Nat := if hx then 4 else 8

/-- A port whose first lane within the Vale is `k` is formed in mode `m`. -/
def portFormed (hx : Bool) (m k : Nat) : Bool :=
  decide (k % portWidth hx m = 0) && decide (k + portWidth hx m ≤ laneCount hx)

/-- The lane is retired or under test (R484). -/
def laneBad (s : State) (v : Vale) (l : Nat) : Bool :=
  bitOf (numD s (okey 0x2450 3) 0) (valeNum v * 8 + l) || decide (s.err.laneTest = some (valeNum v * 8 + l))

/-- The port of first lane `k` can come up. -/
def portCanLink (s : State) (v : Vale) (k : Nat) : Bool :=
  portFormed Config.hx (portMode s v) k
    && (List.range (portWidth Config.hx (portMode s v))).all (fun j =>
      !laneBad s v (k + j) && laneClocked s (valeNum v * 8 + k + j))

/-- The Vale takes frames: neither fail-stop, nor out of service, nor stopped by an error action. -/
def intakeOpen (s : State) (v : Vale) : Bool :=
  !s.err.failStop && !(s.vale v).path.outOfService && !(s.vale v).path.stopped && !valeHeld s v

/-- A network port completes training (R121). -/
def execLinkUp (v : Vale) (k : Fin 8) (s : State) : Out :=
  .next (if portCanLink s v k && !s.err.failStop then
      s.modPath v (fun x => { x with linkUp := x.linkUp ||| (1#8 <<< k.val) })
    else s)

/-- A network port loses its link (R85). -/
def execLinkDown (v : Vale) (k : Fin 8) (s : State) : Out :=
  .next (s.modPath v (fun x => { x with linkUp := x.linkUp &&& ~~~ (1#8 <<< k.val) }))

def linkIsUp (s : State) (v : Vale) (k : Nat) : Bool := (s.vale v).path.linkUp.getLsbD k

/-! ### Intake (R76-R80) -/

/-- A packet enters the Vale: record words with its stamps (R81), a token when one is free, in order of arrival (R110). A
source that knows the length of its frame takes the cells of the whole frame (R78). -/
def admitPkt (s : State) (v : Vale) (p : Packet) : State :=
  let i := (s.vale v).path.nextPkt
  let w0 := p.srcClass * 2 ^ 33 + valeNum v * 2 ^ 32 + p.srcIndex * 2 ^ 16 + p.bytes.length
  let w5 := bit1 (decide (p.recirc > 0)) * 2 ^ 31 + p.recirc * 2 ^ 27
  let q : Packet := { p with
    epoch := ingressEpoch s
    cells := max p.cells (cellsOf p.bytes.length)
    words := [(0, BitVec.ofNat 36 w0), (2, BitVec.ofNat 36 (ingressEpoch s * 2 ^ 16)),
              (3, BitVec.ofNat 36 (s.time.frac * 2 ^ 32 + s.time.ns)), (4, BitVec.ofNat 36 (s.time.sec % 2 ^ 32)),
              (5, recAt p 5 ||| BitVec.ofNat 36 w5)] }
  s.modPath v (fun x => giveToken { x with
    packets := tset x.packets i q
    nextPkt := i + 1
    arrival := x.arrival ++ [i]
    noToken := x.noToken ++ [i]
    basinFree := x.basinFree - q.cells })

/-- The drop of a wire frame that finds no free cell (R78). -/
def basinDrop (s : State) (v : Vale) (k : Nat) : State :=
  count (count s (vkey v 0x3005 (valeNum v * 8 + k))) (vkey v 0x3004 0x10)

/-- The core that holds a packet's family. -/
def coreOfPkt (s : State) (v : Vale) (i : Nat) : Option Nat :=
  (((s.vale v).col.cores).find? (fun c => decide (familyOf c.2 i ≠ []))).map (·.1)

/-- A packet without a thread. -/
def beforeThread (p : Packet) : Bool := decide (p.loc = .basin)

/-- Header bytes have arrived or ended: threads of the family in Wait-header resume, or fault with HDR_END (R99). -/
def wakeThread (s : State) (th : Thr) : State :=
  let x := thrAt s th
  if x.st = .waitHeader then
    let p := pktOf s th
    let cs := touched p x.wait.addr x.wait.n
    if anyEnded cs then colFault s th .hdrEnd (lowestIn p x.wait.addr x.wait.n .ended)
    else if anyPending cs then s
    else modThr s th (fun y => stepPc { putR y x.wait.a (hdrValue cs x.wait.raw) with st := .running })
  else s

def wakeHeader (s : State) (v : Vale) (i : Nat) : State :=
  match coreOfPkt s v i with
  | none => s
  | some n =>
    (List.range 8).foldl (fun a t =>
      let th : Thr := { v := v, core := ⟨n % 100, Nat.mod_lt _ (by decide)⟩, t := ⟨t % 8, Nat.mod_lt _ (by decide)⟩ }
      if (thrAt a th).pkt = some i then wakeThread a th else a) s

/-- A packet whose frame Basin drops, or whose check failed: before a thread takes it and after its release it is dropped;
while a family holds it, the family goes with it when `now`. -/
def dropHeld (s : State) (v : Vale) (i reason : Nat) : State :=
  match coreOfPkt s v i with
  | some n => dropPkt (freeFamily s v n i) v i reason
  | none => dropPkt s v i reason

/-- A Vale goes out of service until chip reset (R89): intake stops, every packet in it is dropped. The rule gives these
drops no reason: 0x0D is the model's (DESIGN CHOICE, log entry 80). -/
def valeOut (s : State) (v : Vale) : State :=
  let s1 := s.modPath v (fun x => { x with outOfService := true })
  (s1.vale v).path.packets.foldl (fun a q => dropHeld a v q.1 0x0D) s1

/-- Wire frames that are partly admitted when the Vale's clock slows down are dropped (R449). -/
def dropPartialFrames (s : State) (v : Vale) : State :=
  ((s.vale v).path.packets.filter (fun q => decide (q.2.srcClass = 0) && !q.2.tail)).foldl
    (fun a q => count (dropHeld a v q.1 0x10) (okey 0x2003 2)) s

/-- Bytes of a frame reach Basin; without a free cell a wire frame is dropped from there on (R78; log entry 24), and a
family that holds it ends at once (DESIGN CHOICE, log entry 80). A frame from elsewhere holds its cells from its start. -/
def appendBytes (s : State) (v : Vale) (i : Nat) (bs : List Byte) : State :=
  match pktAt s v i with
  | none => s
  | some p =>
    let more := cellsOf (p.bytes.length + bs.length) - p.cells
    if p.tail || p.discarded then s
    else if p.loc = .mac then setPkt s v i { p with bytes := p.bytes ++ bs }
    else if (s.vale v).path.basinFree < more then
      count (dropHeld s v i 0x10) (vkey v 0x3005 p.srcIndex)
    else
      (setPkt s v i { p with bytes := p.bytes ++ bs, cells := p.cells + more }).modPath v
        (fun x => { x with basinFree := x.basinFree - more })

/-- The frame is longer than MAX_FRAME, FCS included (R91). -/
def tooLong (s : State) (v : Vale) (n : Nat) : Bool := decide (numD s (vkey v 0x3003 2) 9216 < n + 4)

/-- A frame that is whole at its start and longer than MAX_FRAME is dropped (R91). -/
def dropLong (s : State) (v : Vale) (i : Nat) : State :=
  if (pktAt s v i).any (fun p => p.tail && tooLong s v p.bytes.length) then dropPkt s v i 0x05 else s

/-- A packet past Narrows. -/
def pastNarrows (p : Packet) : Bool := !decide (p.loc = .basin) && !decide (p.loc = .thread)

/-- A frame's tail reaches Basin (R78, R80): its length is known; a failed check drops it with reason 0x05, at once
unless a thread holds it. -/
def frameTail (s : State) (v : Vale) (i : Nat) (rest : List Byte) (ok : Bool) : State :=
  let s1 := appendBytes s v i rest
  match pktAt s1 v i with
  | none => s1
  | some p =>
    if p.tail || p.discarded then s
    else
      let bad := !ok || tooLong s1 v p.bytes.length
      let q := recPutBits { p with tail := true, bad := bad } 0 0 14 p.bytes.length
      let s2 := setPkt s1 v i q
      if bad && !decide (p.loc = .thread) then dropPkt s2 v i 0x05
      else wakeHeader s2 v i

/-- A frame's tail will not come (R80): the frame is discarded; a thread that holds it goes on and sees the end of frame. -/
def tailLost (s : State) (v : Vale) (i : Nat) : State :=
  match pktAt s v i with
  | none => s
  | some p =>
    if p.tail || p.discarded then s
    else if p.loc = .thread then wakeHeader (setPkt s v i { p with discarded := true }) v i
    else dropPkt s v i 0x04

/-- TAIL_TIMEOUT expires (R80); it is suspended on a slow clock (R449). -/
def execTailTimeout (v : Vale) (pkt : Nat) (s : State) : Out := .next (if valeSlow s v then s else tailLost s v pkt)

/-- Header bytes reach Basin (R97). -/
def execHeaderBytesArrive (v : Vale) (pkt : Nat) (bytes : List Byte) (s : State) : Out :=
  .next (wakeHeader (appendBytes s v pkt bytes) v pkt)

/-! ### Distribution (R27, R28, R79, R113, R114) -/

/-- TENANCY as the source presets it (R27, R81): the assigned port's tenancy at distribution; other sources carry theirs. -/
def presetOf (s : State) (v : Vale) (p : Packet) : Handle :=
  if p.srcClass = 0 ∧ p.recirc = 0 then BitVec.ofNat 32 (numD s (vkey v 0x3001 p.srcIndex) 0) else p.preset

/-- The packet can be handed out: a token, and its first cell or the whole frame in Basin (R79, R110). -/
def distributable (p : Packet) : Bool :=
  p.token.isSome && beforeThread p && (p.tail || decide (256 ≤ p.bytes.length))

/-- The bank a packet runs from (R153); none: the core holds it back. -/
def packetBank (s : State) (v : Vale) (e n : Nat) : Option Bool :=
  let c := coreAt s v n
  if e = s.epoch.active then some c.cur
  else match (s.vale v).col.staged with
    | none => some c.cur
    | some _ =>
      if s.epoch.st ≠ .committing ∨ s.epoch.ready.contains (.core v ⟨n % 100, Nat.mod_lt _ (by decide)⟩) then some (!c.cur)
      else none

/-- The logical slot `k` holds a core with a Free packet thread. -/
def slotOffer (x : ColState) (k : Nat) : Option (Nat × Nat) :=
  match (List.range 100).find? (fun n => decide ((coreOf x n).slot = some k) && slotFilled (coreOf x n)) with
  | none => none
  | some n => ((List.range 8).find? (threadFree (coreOf x n))).map (fun t => (n, t))

/-- The next slot after the pointer that offers a thread: slot, core, thread (R113). -/
def nextOffer (x : ColState) : Option (Nat × Nat × Nat) :=
  match (List.range 96).find? (fun d => (slotOffer x ((x.ring + 1 + d) % 96)).isSome) with
  | none => none
  | some d => (slotOffer x ((x.ring + 1 + d) % 96)).map (fun q => ((x.ring + 1 + d) % 96, q.1, q.2))

/-- Weighted round robin among the waiting clients: the client `i` may be served while it has turns left, or when no
waiting client has (a new round). The turns left after serving it. -/
def wrrServe (left : Tab Nat) (weight : Nat → Nat) (waiting : List Nat) (i : Nat) : Option (Tab Nat) :=
  if waiting.contains i then
    if 0 < tgetD left i 0 then some (tset left i (tgetD left i 0 - 1))
    else if waiting.all (fun j => decide (tgetD left j 0 = 0)) then
      let round := waiting.foldl (fun l j => tset l j (weight j)) left
      some (tset round i (tgetD round i 0 - 1))
    else none
  else none

/-- The oldest packet of a pool that can be handed out. -/
def poolHead (s : State) (v : Vale) (p : Pool) : Option Nat :=
  (s.vale v).path.arrival.find? (fun i => match pktAt s v i with
    | some q => distributable q && decide (poolOf s (presetOf s v q) = p)
    | none => false)

/-- A packet starts on a thread (R79, R81, R101, R132). LENGTH of a frame whose tail is still pending is a free value
(log entry 25). -/
def startPacket (s : State) (v : Vale) (i n t : Nat) (bank : Bool) (p : Pool) : State :=
  match pktAt s v i with
  | none => s
  | some q =>
    let h := presetOf s v q
    let r := if q.tail then (q.bytes.length, s) else drawFree s 16384
    let w := recPutBits q 0 0 14 r.1
    let w2 := recPutBits (recPutBits w 2 0 13 (q.token.getD 0)) 1 0 32 h.toNat
    let w3 := recPutBits w2 5 33 1 (bit1 (!q.tail))
    let s1 := setPkt r.2 v i { w3 with preset := h, pool := some p, loc := .thread }
    let s2 := s1.modPath v (fun x => { x with arrival := x.arrival.filter (fun j => decide (j ≠ i)) })
    modCore s2 v n (fun c =>
      let x := freshThread (threadOf c t)
      let y : Thread := { x with pkt := some i, bank := bank, pc := ((bankOf c bank).getD {}).packetEntry }
      { c with threads := tset c.threads t y })

/-- Dynamic tenancies with a packet that can be handed out. -/
def dynWaiting (s : State) (v : Vale) : List Nat :=
  (s.tens.filter (fun t => t.2.dyn && (poolHead s v (.dynamic ⟨t.1 % 256, Nat.mod_lt _ (by decide)⟩)).isSome)).map (·.1)

/-- A dynamic tenancy's weight in a Vale (R20, R28). -/
def dynWeight (s : State) (v : Vale) (t : Nat) : Nat := match tenAt s t with | some x => shareOf x v | none => 0

/-- The turns that are left among the dynamic tenancies when a pool is served (R28); none: it is not its turn. -/
def distTurn (s : State) (v : Vale) (p : Pool) : Option (Tab Nat) :=
  match p with
  | .dynamic t => wrrServe (s.vale v).col.distLeft (dynWeight s v) (dynWaiting s v) t
  | _ => some (s.vale v).col.distLeft

/-- The distributor assigns the oldest packet of a pool (R113), the dynamic tenancies taking turns by their weights. -/
def execDistribute (v : Vale) (p : Pool) (s : State) : Out :=
  .next (if (s.vale v).col.held || s.err.failStop then s
    else match poolHead s v p, nextOffer (s.vale v).col with
      | some i, some (k, n, t) =>
        let q := (pktAt s v i).getD {}
        (match poolHasThread s v p, packetBank s v q.epoch n, distTurn s v p with
         | true, some bank, some left => (startPacket s v i n t bank p).modCol v (fun x => { x with ring := k, distLeft := left })
         | _, _, _ => s)
      | _, _ => s)

/-! ### Watchdog and release (R107-R111) -/

/-- The state code of kind 2 notifications (R123). -/
def watchState : ThSt → Nat
  | .waitHeader => 2
  | .waitTable => 3
  | .waitJoin _ => 4
  | _ => 1

/-- A packet's watchdog expires (R107); it is suspended on a slow clock (R449). -/
def execWatchdog (v : Vale) (pkt : Nat) (s : State) : Out :=
  .next (match coreOfPkt s v pkt with
    | none => s
    | some n =>
      let c := coreAt s v n
      match (familyOf c pkt).find? (fun t => decide ((threadOf c t).parent = none)) with
      | none => s
      | some t =>
        let x := threadOf c t
        if x.st = .releasing ∨ valeSlow s v then s
        else
          let p := (pktAt s v pkt).getD {}
          pushNote (endFamily s v n pkt 0x03) v n (noteWords 2 t 0 x.pc p (watchState x.st)))

/-- Two packets have the same source (R87); a recirculated packet has no order with any other (R112). -/
def sameSource (a b : Packet) : Bool :=
  decide (a.srcClass = b.srcClass) && decide (a.srcIndex = b.srcIndex) && decide (a.recirc = 0) && decide (b.recirc = 0)

/-- The packet's token is the oldest of its chain (R111). -/
def oldestOfChain (s : State) (v : Vale) (i : Nat) : Bool :=
  match pktAt s v i with
  | none => false
  | some p =>
    if p.recirc ≠ 0 then true
    else match (s.vale v).path.narrows.find? (fun j => match pktAt s v j with
      | some q => sameSource p q
      | none => false) with
    | some j => decide (j = i)
    | none => false

/-- Records in the release buffer. -/
def relbufUse (s : State) (v : Vale) : Nat :=
  ((s.vale v).path.packets.filter (fun q => decide (q.2.loc = .relbuf))).length

/-- The number of VLAN tags after the addresses, at most two (R115; log entry 26). -/
def vlanTags (p : Packet) : Nat :=
  let isTag := fun (o : Nat) =>
    let e := beNat ((p.bytes.drop o).take 2)
    decide (e = 0x8100) || decide (e = 0x88A8)
  if isTag 12 then (if isTag 16 then 2 else 1) else 0

/-- What is cleared of an odd packet's record (R116). -/
def clearOdd (oddClear : Nat) (p : Packet) : Packet :=
  if recBits p 5 29 1 = 1 then
    let l3 := recBits p 6 27 9
    let off := if l3 = 0 then 12 + 4 * vlanTags p else l3
    let a := recPutBits (recPutBits (recPutBits (recPutBits p 6 18 9 0) 6 9 9 0) 6 0 9 0) 7 27 9 0
    let b := recPutBits (recPutBits a 7 6 6 0) 7 18 9 off
    (List.range 48).foldl (fun q k => if bitOf oddClear (k + 16) then recPut q (k + 16) 0 else q) b
  else p

/-- The odd-clear mask of the image a packet ran from. -/
def oddMask (s : State) (v : Vale) (p : Packet) : Nat :=
  let x := (s.vale v).col
  let i := if p.epoch = s.epoch.active then x.active else (match x.staged with | some y => some y | none => x.active)
  (i.getD {}).oddClear

/-- The thread in Releasing that holds a packet. -/
def releasingThr (s : State) (v : Vale) (i : Nat) : Option Thr :=
  match coreOfPkt s v i with
  | none => none
  | some n => ((List.range 8).find? (fun t =>
      decide ((threadOf (coreAt s v n) t).pkt = some i) && decide ((threadOf (coreAt s v n) t).st = .releasing))).map
    (fun t => { v := v, core := ⟨n % 100, Nat.mod_lt _ (by decide)⟩, t := ⟨t % 8, Nat.mod_lt _ (by decide)⟩ })

/-- The record that Narrows forwards next: a direct one, held by a thread in Releasing, else one in the release buffer;
either is the oldest of its chain (R111). -/
def forwardNext (s : State) (v : Vale) : Option Nat :=
  let x := (s.vale v).path
  match x.narrows.find? (fun i => (releasingThr s v i).isSome && oldestOfChain s v i) with
  | some i => some i
  | none => x.narrows.find? (fun i => (pktAt s v i).any (fun p => decide (p.loc = .relbuf)) && oldestOfChain s v i)

/-- The thread in Releasing that holds a packet becomes Free, and is no longer charged to the tenancy (R101). -/
def freeReleasing (s : State) (v : Vale) (i : Nat) : State :=
  match releasingThr s v i with
  | some th => modPkt (modThr s th threadEnded) v i (fun p => { p with pool := none })
  | none => s

/-- A record is forwarded to match stage 1 or the punt path and its token freed; a discarded frame drops with 0x04 (R80),
a stale TENANCY with 0x06 (R33, R83), in the order of R109. -/
def forwardRec (s0 : State) (v : Vale) (i : Nat) : State :=
  let s := freeReleasing s0 v i
  match pktAt s v i with
  | none => s
  | some p =>
    if p.discarded then dropPkt s v i 0x04
    else if !tenFresh s (pktTen p) then dropPkt s v i 0x06
    else
      let q := clearOdd (oddMask s v p) p
      let punt := decide (recBits q 5 34 1 = 1)
      let s1 := s.modVale v (fun x =>
        let y := freeToken x.path i p
        { x with
          path := { y with packets := tset y.packets i { q with token := none } }
          stage := if punt then x.stage else { x.stage with order := x.stage.order ++ [i] } })
      moveTo s1 v i (if punt then .punt else .stage 0)

def forwardOne (s : State) (v : Vale) : State :=
  match forwardNext s v with
  | none => s
  | some i => forwardRec s v i

/-- A thread in Releasing becomes Free (R101, R111): its packet takes a forwarding slot as the oldest of its chain and is
forwarded directly, or takes a release-buffer entry; a frame whose tail is lost is a drop (R80). -/
def execReleaseBufferEntry (th : Thr) (s : State) : Out :=
  .next (if (thrAt s th).st = .releasing then
      match (thrAt s th).pkt with
      | none => s
      | some i =>
        if (pktAt s th.v i).any (·.discarded) then dropPkt (modThr s th threadEnded) th.v i 0x04
        else if oldestOfChain s th.v i then
          if s.err.failStop || (s.vale th.v).path.outOfService then s else forwardRec s th.v i
        else if relbufUse s th.v < 1024 then
          (modPkt (modThr s th threadEnded) th.v i (fun p => { p with loc := .relbuf, pool := none })).modPath th.v
            (fun x => { x with relPeak := max x.relPeak (relbufUse s th.v + 1) })
        else s
    else s)

/-- Narrows forwards up to two records (R111). -/
def execNarrowsForward (v : Vale) (s : State) : Out :=
  .next (if s.err.failStop || (s.vale v).path.outOfService then s else forwardOne (forwardOne s v) v)

end Sys2Proof.Machine
end

