-- ==== Sys2Proof/Machine/Stage.lean ====
section
/-! DEFINITION. Match stages (R157-R173): definitions and keys, lookups, the learner's part, actions, edits, leaving the
sequence. -/

namespace Sys2Proof.Machine

/-! ### Definitions (R160, R161) -/

def stageDefKey (v : Vale) (k : Nat) : Nat := vkey v (0x3020 + k) 1
def segKey (v : Vale) (k j : Nat) : Nat := vkey v (0x3030 + k) j
def actionKey (v : Vale) (k a : Nat) : Nat := vkey v (0x3100 + 64 * k + a / 16) (a % 16)
def templateKey (v : Vale) (t : Nat) : Nat := vkey v (0x3400 + t / 8) (t % 8)
def partMapKey (v : Vale) (k n : Nat) : Nat := vkey v (0x3040 + 2 * k + n / 128) (n % 128)

/-- A STAGE_DEF record (R160). -/
structure StageDef where
  kind : Nat
  select : Nat
  segments : Nat
  flags : Nat
  keyWidth : Nat
  missAction : Nat
  part : Handle
  dflt : Handle
  resultWord : Nat

def stageDefOf (r : Nat) : StageDef :=
  { kind := recField 20 0 1 r, select := recField 20 1 1 r, segments := recField 20 2 1 r, flags := recField 20 3 1 r,
    keyWidth := recField 20 4 2 r, missAction := recField 20 6 2 r, part := BitVec.ofNat 32 (recField 20 8 4 r),
    dflt := BitVec.ofNat 32 (recField 20 12 4 r), resultWord := recField 20 16 1 r }

/-- The definition of stage `k` for packets of epoch `e` (R175). -/
def stageDef (s : State) (v : Vale) (k e : Nat) : StageDef := stageDefOf (cfgNum s e (stageDefKey v k) 0)

/-- Width and value of a key segment on a record (R161). -/
def segValue (p : Packet) (r : Nat) : Nat × Nat :=
  let word := recField 8 0 1 r
  let width := recField 8 2 1 r
  if word = 0xFF then (width, recField 8 4 4 r % 2 ^ width)
  else (width, bitsOf (recAt p word).toNat (recField 8 1 1 r) width)

/-- The key: the segments, first most significant, padded with zeros at the low end (R161). -/
def buildKey (s : State) (v : Vale) (k : Nat) (d : StageDef) (p : Packet) : Nat :=
  let q := (List.range d.segments).foldl (fun (a : Nat × Nat) j =>
    let w := segValue p (cfgNum s p.epoch (segKey v k j) 0)
    (a.1 + w.1, a.2 * 2 ^ w.1 + w.2)) (0, 0)
  q.2 * 2 ^ (d.keyWidth - q.1)

/-- Key widths of the kinds (R162). -/
def keyWidthOk (kind w : Nat) : Bool :=
  if kind = 1 then decide (w = 32 ∨ w = 64 ∨ w = 96 ∨ w = 128)
  else if kind = 2 ∨ kind = 3 then decide (w = 160 ∨ w = 320 ∨ w = 640)
  else if kind = 4 then decide (1 ≤ w) && decide (w ≤ 24)
  else if kind = 5 then decide (1 ≤ w) && decide (w ≤ 64)
  else true

/-- The partition chosen for a record (R163): none where the lookup is a miss without more. -/
def choosePart (s : State) (v : Vale) (k : Nat) (d : StageDef) (p : Packet) : Handle :=
  if d.select = 0 then d.part
  else
    let t := pktTen p
    if t = 0 then d.dflt
    else
      let m := numD s (partMapKey v k (hIdx t % 256)) 0
      if m ≠ 0 then BitVec.ofNat 32 m
      else if bitOf d.flags 1 then d.dflt else 0

/-- The chosen handle names a partition that fits the definition (R163). -/
def partFits (s : State) (v : Vale) (d : StageDef) (h : Handle) : Bool :=
  handleFits h (partKind v) && handleCurrent s h &&
    match partAt s v (hIdx h) with
    | some p => decide (p.kind = d.kind) && decide (p.keyWidth = d.keyWidth)
    | none => false

/-! ### Edits (R168) -/

/-- The anchor's value in record words 6 and 7. -/
def anchorValue (p : Packet) (a : Nat) : Nat :=
  if a = 1 then recBits p 6 27 9 else if a = 2 then recBits p 6 18 9 else if a = 3 then recBits p 6 9 9
  else if a = 4 then recBits p 6 0 9 else if a = 5 then recBits p 7 27 9 else if a = 6 then recBits p 7 18 9 else 0

/-- The IP version in the first byte of the header at an offset of the received frame. -/
def ipVersion (p : Packet) (off : Nat) : Nat := (p.bytes.getD off 0).toNat / 16

/-- The bytes an edit affects: offset and number (R168). -/
def editSpan (p : Packet) (e : Edit) : Nat × Nat :=
  if e.op = 2 then (e.off, e.param)
  else if e.op = 3 then (if ipVersion p e.off = 4 then (e.off + 8, 1) else (e.off + 7, 1))
  else if e.op = 4 then (e.off, e.param % 4 + 1)
  else (e.off, 0)

/-- The edit does not fit a frame of `len` bytes, or is a decrement of no IP header (R168). -/
def editBad (p : Packet) (len : Nat) (e : Edit) : Bool :=
  let sp := editSpan p e
  (if e.op = 1 then decide (512 < e.off) || decide (len < e.off) else decide (512 < sp.1 + sp.2) || decide (len < sp.1 + sp.2))
  || (decide (e.op = 3) && decide (ipVersion p e.off ≠ 4) && decide (ipVersion p e.off ≠ 6))

/-- An edit request (R168): none where it fails and the packet is dropped. -/
def requestEdit (p : Packet) (w3 : Nat) (arg : BitVec 32) : Option Packet :=
  let op := bitsOf w3 32 3
  let anchor := bitsOf w3 28 4
  let e : Edit := { op := op, off := anchorValue p anchor + bitsOf w3 20 8, param := bitsOf w3 8 12, arg := arg }
  let bad :=
    (decide (anchor ≠ 0) && decide (anchorValue p anchor = 0))
    || (if p.tail then editBad p (recBits p 0 0 14) e else decide (op ≠ 3) && editBad p 0x3FFF e)
    || decide (4 ≤ p.edits.length)
  if bad then none else some { p with edits := p.edits ++ [e] }

/-! ### Actions (R164-R166) -/

/-- A value goes to a destination of ARG_TO or CONST_TO (R165). -/
def writeDest (p : Packet) (dest word : Nat) (x : BitVec 32) : Packet :=
  let f := fun (i : Nat) => recPutBits p i 0 32 x.toNat
  if dest = 1 then f 8 else if dest = 2 then f 9 else if dest = 3 then f 10 else if dest = 4 then f 11
  else if dest = 5 then f 14 else if dest = 6 then recPut p word (x.zeroExtend 36) else if dest = 7 then f 1 else p

/-- NEXT_STAGE after stage `k`, and whether it counts in BACKSKIPS (R158). -/
def nextStage (k next : Nat) : Nat × Bool :=
  if next = 0 then (k + 1, false)
  else if next ≤ k then (k + 1, true)
  else if next ≤ 12 then (next, false)
  else (12, true)

/-- The four words of an action entry. -/
def actionWord (r i : Nat) : Nat := recField 32 (8 * i) 8 r

/-- Steps 1 to 4 of R166 on a record. -/
def actWords (p : Packet) (d : StageDef) (r : Nat) (hit : Option (BitVec 64)) : Packet :=
  let w0 := actionWord r 0
  let w2 := actionWord r 2
  let res : BitVec 64 := hit.getD 0
  let aux := bitsOf res.toNat 32 22
  let arg : BitVec 32 := res.extractLsb' 0 32
  let p1 := (List.range (bitsOf w2 24 6)).foldl (fun q j => recPut q (bitsOf w2 30 6 + j) 0) p
  let p2 := if hit.isSome ∧ d.resultWord ≠ 0 then
      recPut (recPut p1 d.resultWord ((res.extractLsb' 32 32).zeroExtend 36)) (d.resultWord + 1) (arg.zeroExtend 36)
    else p1
  let p3 := writeDest p2 (bitsOf w0 23 3) (bitsOf w2 12 6) (BitVec.ofNat 32 (actionWord r 1))
  let p4 := writeDest p3 (bitsOf w0 26 3) (bitsOf w2 18 6) arg
  let p5 := if bitsOf w0 21 2 = 1 then recPutBits p4 13 17 3 (bitsOf w0 18 3)
    else if bitsOf w0 21 2 = 2 then recPutBits p4 13 17 3 (bitsOf aux 0 3) else p4
  let p6 := if bitsOf w0 16 2 = 1 then recPutBits p5 9 32 2 (bitsOf w0 14 2)
    else if bitsOf w0 16 2 = 2 then recPutBits p5 9 32 2 (bitsOf aux 3 2) else p5
  if bitOf w0 13 then
    recPutBits (recPutBits (recPutBits p6 12 34 2 (bitsOf w0 11 2)) 12 33 1 (bitsOf w0 10 1)) 12 0 16 (bitsOf aux 6 16)
  else p6

/-! ### Leaving the sequence (R171) -/

/-- A TM_QUEUE or MIRROR_QUEUE value is a live queue of either Vale, owned by the operator or by TENANCY. -/
def queueValid (s : State) (h ten : Handle) : Bool :=
  (handleFits h 0x10 || handleFits h 0x11) && objLive s h && ownedBy s h ten

/-- A handle of this Vale's kind is live and owned so; 0 names none. -/
def objValid (s : State) (h : Handle) (kind : Nat) (ten : Handle) : Bool :=
  decide (h = 0) || (handleFits h kind && objLive s h && ownedBy s h ten)

def recHandle (p : Packet) (i : Nat) : Handle := BitVec.ofNat 32 (recBits p i 0 32)

/-- The exit checks; the first failure drops the packet and is counted. -/
def exitChecks (s : State) (v : Vale) (i : Nat) : State :=
  match pktAt s v i with
  | none => s
  | some p =>
    let ten := pktTen p
    let q := recHandle p 8
    let g := recHandle p 10
    if !tenFresh s ten then dropPkt s v i 0x06
    else if !(queueValid s q ten || (decide (q = 0) && decide (g ≠ 0))) then
      dropPkt (count s (vkey v 0x3070 1)) v i 0x0E
    else if !objValid s (recHandle p 9) (0x12 + valeNum v) ten then dropPkt (count s (vkey v 0x3070 2)) v i 0x0E
    else if !objValid s g (0x16 + valeNum v) ten then dropPkt (count s (vkey v 0x3070 3)) v i 0x0E
    else
      let noMirror := decide (recBits p 11 35 1 = 1) && !queueValid s (recHandle p 11) ten
      let s1 := if noMirror then count s (vkey v 0x3070 4) else s
      let p1 := if noMirror then recPutBits p 11 35 1 0 else p
      (moveTo (setPkt s1 v i p1) v i .exited).modVale v
        (fun x => { x with stage := { x.stage with order := x.stage.order.filter (fun j => decide (j ≠ i)) } })

/-- The record goes on past stage `k`. -/
def passStage (s : State) (v : Vale) (k i : Nat) : State :=
  if k < 11 then modPkt s v i (fun p => { p with loc := .stage (k + 1) }) else exitChecks s v i

/-- The key of an entry that R176 may mark bad: an action entry, or a template above them. -/
def badKey (v : Vale) (code : Nat) : Nat :=
  if code < 12288 then actionKey v (code / 1024) (code % 1024) else templateKey v (code - 12288)

/-- An entry is marked bad and operator software has not rewritten it: a packet of the staged epoch meets what was rewritten
there (R176). -/
def entryBad (s : State) (v : Vale) (code epoch : Nat) : Bool :=
  (s.vale v).stage.bad.contains code && (decide (epoch = s.epoch.active) || (tget s.dict.staged (badKey v code)).isNone)

/-- A stage applies its action to a record (R166), `hit` being the result of the lookup. -/
def applyAction (s : State) (v : Vale) (k i : Nat) (d : StageDef) (hit : Option (BitVec 64)) : State :=
  match pktAt s v i with
  | none => s
  | some p =>
    let entry := match hit with
      | some r => bitsOf r.toNat 54 10
      | none => d.missAction
    let s0 := count s (vkey v (0x3060 + k) (if hit.isSome then 1 else 2))
    if entryBad s v (k * 1024 + entry) p.epoch then dropPkt s0 v i 0x08
    else
      let r := cfgNum s p.epoch (actionKey v k entry) 0
      let w0 := actionWord r 0
      let p0 := if hit.isSome then recPutBits p 13 (20 + k) 1 1 else p
      let p1 := actWords p0 d r hit
      let ns := nextStage k (bitsOf w0 29 4)
      let p2 := recPutBits p1 13 32 4 ns.1
      let s1 := if ns.2 then count s0 (vkey v 0x3070 9) else s0
      let arg : BitVec 32 := (hit.getD 0).extractLsb' 0 32
      match (if bitOf (actionWord r 3) 35 then requestEdit p2 (actionWord r 3) arg else some p2) with
      | none => dropPkt (count s1 (vkey v 0x3070 6)) v i 0x08
      | some p3 =>
        let p4 := if bitOf w0 33 then recPutBits p3 11 35 1 1 else p3
        if bitOf w0 35 then dropPkt s1 v i 0x08
        else if bitOf w0 34 then
          let p5 : Packet := { recPutBits p4 5 34 1 1 with puntCode := bitsOf w0 0 8, puntStage := k }
          (moveTo (setPkt s1 v i p5) v i .punt).modVale v
            (fun x => { x with stage := { x.stage with order := x.stage.order.filter (fun j => decide (j ≠ i)) } })
        else passStage (setPkt s1 v i p4) v k i

/-! ### The learner's part (R195, R196) -/

/-- The learn slot of a packet. -/
def learnSlot (p : Packet) : Nat := if p.srcClass = 0 ∧ p.recirc = 0 then p.srcIndex else 16

/-- Excess handling: true when the packet is dropped. -/
def learnExcess (s : State) (v : Vale) (slot : Nat) : State × Bool :=
  (count s (learnKey v 0x3634 slot), decide (numD s (learnKey v 0x3633 slot) 0 = 1))

def slotFull (s : State) (v : Vale) (slot : Nat) : Bool :=
  decide (numD s (learnKey v 0x3631 slot) 1048576 ≤ numD s (learnKey v 0x3632 slot) 0)

/-- What the learner does on a hit at position `q`. -/
def learnHit (s : State) (v : Vale) (pi : Nat) (p : Partition) (q : Nat) (e : Entry) (value : BitVec 32) (slot : Nat) :
    State × Bool :=
  if e.lock.isSome then (count s (vkey v 0x3635 3), false)
  else if e.static then (s, false)
  else
    let e1 : Entry := { e with ts := (s.vale v).table.now }
    let s1 := setPart s v pi { p with slots := tset p.slots q e1 }
    if e.result.extractLsb' 0 32 = value then (s1, false)
    else if slotFull s v slot then learnExcess s1 v slot
    else
      let e2 : Entry := { e1 with
        result := e.result.extractLsb' 32 32 ++ value
        slot := slot }
      let s2 := addLearn (subLearn (setPart s1 v pi { p with slots := tset p.slots q e2 }) v e.slot) v slot
      (notify (count s2 (vkey v 0x3635 4)) v 2 slot (handleOf s (partKind v) pi) value.toNat e.key p.keyWidth, false)

/-- What the learner does on a miss. -/
def learnMiss (s : State) (v : Vale) (pi key : Nat) (value : BitVec 32) (slot : Nat) : State × Bool :=
  if slotFull s v slot then learnExcess s v slot
  else if 4096 ≤ (s.vale v).table.learnQ.length then (count s (vkey v 0x3635 1), false)
  else
    let r : LearnReq := { part := pi, handle := handleOf s (partKind v) pi, key := key, value := value, slot := slot }
    ((addLearn s v slot).modTable v (fun x => { x with learnQ := x.learnQ ++ [r] }), false)

/-- The learner acts before the stage's action; true when the packet is dropped. -/
def learnStep (s : State) (v : Vale) (pi : Nat) (p : Partition) (key : Nat) (hit : Option Nat) (pk : Packet) :
    State × Bool :=
  let value : BitVec 32 := (recAt pk p.learnWord).extractLsb' 0 32
  match hit with
  | some q => (match tget p.slots q with
    | some e => learnHit s v pi p q e value (learnSlot pk)
    | none => (s, false))
  | none => learnMiss s v pi key value (learnSlot pk)

/-! ### Executing a stage (R157-R159) -/

/-- The oldest record at stage `k`; none while a lookup of the stage waits for the extension (R159). -/
def stageHead (s : State) (v : Vale) (k : Nat) : Option Nat :=
  let loc := fun (l : Loc) (i : Nat) => match pktAt s v i with
    | some p => decide (p.loc = l)
    | none => false
  if (s.vale v).stage.order.any (loc (.extWait k)) then none else (s.vale v).stage.order.find? (loc (.stage k))

/-- The stage holds an N+1 packet back until it has reported ready (R37). -/
def stageHolds (s : State) (v : Vale) (k : Fin 12) (p : Packet) : Bool :=
  decide (s.epoch.st = .committing) && decide (p.epoch ≠ s.epoch.active) && !s.epoch.ready.contains (.stage v k)

/-- The result at a position. -/
def resultAt (p : Partition) (q : Option Nat) : Option (BitVec 64) :=
  match q with
  | some i => (tget p.slots i).map (·.result)
  | none => none

/-- Stage `k` looks a record up in its partition and applies its action. -/
def lookupStage (s : State) (v : Vale) (k i : Nat) (d : StageDef) (pk : Packet) : State :=
  let h := choosePart s v k d pk
  if !partFits s v d h then
    applyAction (if h = 0 then s else count s (vkey v (0x3060 + k) 4)) v k i d none
  else
    match partAt s v (hIdx h) with
    | none => s
    | some p =>
      let key := buildKey s v k d pk
      let x := (s.vale v).table
      match lookupDie x p key with
      | some q =>
        let l := if bitOf d.flags 0 then learnStep s v (hIdx h) p key (some q) pk else (s, false)
        if l.2 then dropPkt l.1 v i 0x08 else applyAction l.1 v k i d (resultAt p (some q))
      | none =>
        if p.extCapacity = 0 then
          let l := if bitOf d.flags 0 then learnStep s v (hIdx h) p key none pk else (s, false)
          if l.2 then dropPkt l.1 v i 0x08 else applyAction l.1 v k i d none
        else
          let ids := extBucketIds p key
          if ids.all (bucketCached x) then
            let s1 := setPart s v (hIdx h) { p with
              extLookups := (p.extLookups + 1) % 2 ^ 64, cacheHits := (p.cacheHits + 1) % 2 ^ 64 }
            let s2 := s1.modTable v (fun y => ids.foldl touchBucket y)
            applyAction s2 v k i d (resultAt p (lookupExt p key))
          else
            modPkt (setPart s v (hIdx h) { p with extLookups := (p.extLookups + 1) % 2 ^ 64 }) v i
              (fun q => { q with loc := .extWait k, lookPart := h })

/-- STAGE_EXECUTE: the oldest record at stage `k` passes it or is executed (R158). -/
def execStageExecute (v : Vale) (k : Fin 12) (s : State) : Out :=
  .next (if s.err.failStop || (s.vale v).path.stopped then s else
    match stageHead s v k with
    | none => s
    | some i =>
      match pktAt s v i with
      | none => s
      | some p =>
        if stageHolds s v k p then s
        else if !tenFresh s (pktTen p) then dropPkt s v i 0x06
        else if recBits p 13 32 4 ≠ k.val then passStage s v k i
        else
          let d := stageDef s v k p.epoch
          if d.kind = 0 then passStage (setPkt s v i (recPutBits p 13 32 4 (k + 1))) v k i
          else lookupStage s v k i d p)

/-- The record that waits for the extension at stage `k`. -/
def extWaiting (s : State) (v : Vale) (k : Nat) : Option Nat :=
  (s.vale v).stage.order.find? (fun i => match pktAt s v i with
    | some p => decide (p.loc = .extWait k)
    | none => false)

/-- An extension bucket read returns and the stage completes the lookup (R184), in the partition it started in (R163). -/
def execExtLookupReturn (v : Vale) (k : Fin 12) (s : State) : Out :=
  .next (match extWaiting s v k with
    | none => s
    | some i =>
      match pktAt s v i with
      | none => s
      | some pk =>
        let d := stageDef s v k pk.epoch
        let h := pk.lookPart
        if !partFits s v d h then applyAction (count s (vkey v (0x3060 + k) 4)) v k i d none
        else match partAt s v (hIdx h) with
          | none => s
          | some p =>
            let key := buildKey s v k d pk
            let s1 := s.modTable v (fun y => (extBucketIds p key).foldl touchBucket y)
            applyAction s1 v k i d (resultAt p (lookupExt p key)))

/-- An extension lookup has not returned in time (R159). -/
def execStageLookupTimeout (v : Vale) (k : Fin 12) (s : State) : Out :=
  .next (match extWaiting s v k with
    | none => s
    | some i => if valeSlow s v then s else dropPkt (count s (vkey v (0x3060 + k) 3)) v i 0x08)

/-! ### STAGE_DEF and PART_MAP writes (R160, R163, R195) -/

/-- A partition handle of a STAGE_DEF does not fit: not of this Vale's kind, not operator-owned, or of another kind or
key width. -/
def defPartBad (s : State) (v : Vale) (d : StageDef) (h : Handle) : Bool :=
  !handleFits h (partKind v) || (handleCurrent s h &&
    match partAt s v (hIdx h) with
    | some p => decide (p.owner ≠ 0) || decide (p.kind ≠ d.kind) || decide (p.keyWidth ≠ d.keyWidth)
    | none => true)

/-- The handles of a definition that the write checks. -/
def defParts (d : StageDef) : List Handle :=
  if d.kind = 0 then [] else if d.select = 0 then [d.part] else if d.dflt = 0 then [] else [d.dflt]

/-- A learning stage must have select 0 and a fixed partition with the learning flag (R195). -/
def learnBad (s : State) (v : Vale) (d : StageDef) : Bool :=
  bitOf d.flags 0 &&
    (decide (d.select ≠ 0) || !handleFits d.part (partKind v) || (decide (d.kind = 0) && !handleCurrent s d.part)
      || match partAt s v (hIdx d.part) with
      | some p => !bitOf p.flags 1
      | none => true)

/-- The fields of a definition are out of range (R160). -/
def defRangeBad (d : StageDef) : Bool :=
  decide (5 < d.kind) || decide (1 < d.select) || decide (24 < d.segments)
  || (decide (d.kind ≠ 0) && decide (d.segments = 0)) || !keyWidthOk d.kind d.keyWidth
  || decide (1023 < d.missAction)
  || (decide (d.resultWord ≠ 0) && (decide (d.resultWord < 16) || decide (62 < d.resultWord)))

/-- A definition as it is taken: reserved bits zero (R10). -/
def stageDefIn (r : Nat) : Nat := recClear 20 [(17, 3)] (recFlags 20 3 2 r)

def stageDefOp (who : Who) (v : Vale) (k : Fin 12) (r : Rec 20) : DictOp where
  status := fun s =>
    let d := stageDefOf r.toNat
    firstStatus (baseChecks s (isO who) ++
      [(.staleHandle, (defParts d).any (handleStale s)),
       (.range, defRangeBad d || (defParts d).any (defPartBad s v d) || learnBad s v d),
       (.busy, !stagingOpen s)])
  effect := fun s => (stage s (stageDefKey v k) (stageDefIn r.toNat), [])
  retry := epochRetry

def execStageDefWrite (who : Who) (v : Vale) (k : Fin 12) (r : Rec 20) (s : State) : Out :=
  .next (runOp (stageDefOp who v k r) s)

/-- A write of PART_MAP (R163); a partition of a Halted tenancy is refused (R31). -/
def partMapOp (who : Who) (v : Vale) (k : Fin 12) (n : Fin 256) (h : Handle) : DictOp where
  status := fun s =>
    firstStatus (baseChecks s (isO who) ++
      [(.staleHandle, handleStale s h),
       (.range, decide (h ≠ 0) && (!handleFits h (partKind v) ||
          match partAt s v (hIdx h) with
          | some p => decide (p.owner ≠ 0) && decide (hIdx p.owner ≠ n.val)
          | none => true)),
       (.halted, objHalted s h (partKind v))])
  effect := fun s => (setNum s (partMapKey v k n) h.toNat, [])

def execPartMapWrite (who : Who) (v : Vale) (k : Fin 12) (n : Fin 256) (h : Handle) (s : State) : Out :=
  .next (runOp (partMapOp who v k n h) s)

end Sys2Proof.Machine
end

