-- ==== Sys2Proof/Machine/SteppeBase.lean ====
section
/-! DEFINITION. What units do toward the Steppe cluster: interrupt identities (R381), the rings that the LN9192 produces
(R383, R384), the VECTOR fields of rings (R187, R245). -/

namespace Sys2Proof.Machine

/-- The route of an interrupt identity (R381): hart, file, eiid. -/
def irqRoute (s : State) (i : Nat) : Nat × Nat × Nat :=
  let r := numD s (okey (0x7010 + i / 128) (i % 128)) 0xFF000000
  (recField 4 0 1 r, recField 4 1 1 r, recField 4 2 2 r)

def quadRetired (s : State) (q : Nat) : Bool := bitOf (numD s (okey 0x7000 5) 0) q

/-- An identity becomes pending in an interrupt file, where it stays until its hart takes it (R378, R380). -/
def pendIrq (s : State) (r : Nat × Nat × Nat) : State :=
  { s with ctl := { s.ctl with irqs := if s.ctl.irqs.contains r then s.ctl.irqs else s.ctl.irqs ++ [r] } }

/-- A source signals an interrupt identity (R381). -/
def steppeIrq (s : State) (i : Nat) : State :=
  let r := irqRoute s i
  if i = 0 ∨ 2047 < i ∨ 24 ≤ r.1 then s
  else if quadRetired s (r.1 / 4) then count s (okey 0x7002 1)
  else pendIrq s r

/-- The VECTOR of a ring: an interrupt identity with SPACE 0, an MSI-X vector of PF0 with SPACE 1. -/
def ringVector (s : State) (space : Bool) (vec : Nat) : State :=
  if space then raiseVector s 0 vec else steppeIrq s vec

/-! ### Rings (R382-R384) -/

def sringOf (s : State) (r : Nat) : SRing := tgetD s.ctl.rings r {}

def setSring (s : State) (r : Nat) (x : SRing) : State := { s with ctl := { s.ctl with rings := tset s.ctl.rings r x } }

def sringSlots (x : SRing) : Nat := 2 ^ x.log2
def sringSlotBytes (x : SRing) : Nat := 1024 * 2 ^ x.size
def sringBase (x : SRing) : Nat := x.baseHi * 2 ^ 32 + x.baseLo.toNat
def sringHeld (x : SRing) : Nat := (x.prod + 65536 - x.cons) % 65536

/-- A ring with EN = 0 counts as full (R384). -/
def sringFull (x : SRing) : Bool := !x.en || decide (sringSlots x ≤ sringHeld x)

/-- The address of the slot of a count. -/
def sringSlotAt (x : SRing) (c : Nat) : Nat := sringBase x + c % sringSlots x * sringSlotBytes x

/-- DROPS of a ring counts. -/
def sringDrop (s : State) (r : Nat) : State :=
  let x := sringOf s r
  setSring s r { x with drops := (x.drops + 1) % 2 ^ 32 }

/-- An entry is written into slot PROD, then PROD advances; IRQ is raised when the ring then holds one entry (R384). -/
def sringPush (s : State) (r : Nat) (entry : List Byte) : State :=
  let x := sringOf s r
  let s1 := writeInt s (sringSlotAt x x.prod) (entry.take (sringSlotBytes x))
  let y : SRing := { x with prod := (x.prod + 1) % 65536 }
  let s2 := setSring s1 r y
  if sringHeld y = 1 then steppeIrq s2 x.irq else s2

/-- The 32-byte header of R272: the length of the frame written (log entry 29), SRC_CLASS, VALE, SRC_INDEX, TENANCY, timestamps, flags. -/
def rxHeader (p : Packet) : List Byte :=
  beBytes 2 (recBits p 0 0 14) ++ beBytes 1 p.srcClass ++ beBytes 1 (recBits p 0 32 1) ++ beBytes 2 p.srcIndex ++ beBytes 2 0
    ++ beBytes 4 (pktTen p).toNat ++ beBytes 4 (recBits p 4 0 32) ++ beBytes 4 (recBits p 3 0 30)
    ++ beBytes 4 (recBits p 5 32 1 + recBits p 5 31 1 * 2) ++ beBytes 8 0

end Sys2Proof.Machine
end

