-- ==== Sys2Proof/Machine/SaddleBase.lean ====
section
/-! DEFINITION. Slots, Saddle ports and regions as other units see them (R249-R265, R272-R274): accessors, room in a receive ring,
the start of an isolation, a slot that fails. -/

namespace Sys2Proof.Machine

def setSlot (s : State) (q : Nat) (x : Slot) : State := { s with saddle := { s.saddle with slots := tset s.saddle.slots q x } }
def modSlot (s : State) (q : Nat) (f : Slot → Slot) : State := setSlot s q (f (slotOf s q))

def sportOf (s : State) (p : Nat) : SPort := tgetD s.saddle.ports p {}
def setSport (s : State) (p : Nat) (x : SPort) : State :=
  { s with saddle := { s.saddle with ports := tset s.saddle.ports p x } }
def modSport (s : State) (p : Nat) (f : SPort → SPort) : State := setSport s p (f (sportOf s p))

def regionOf (s : State) (r : Nat) : Option SRegion := tget s.saddle.regions r
def setRegion (s : State) (r : Nat) (x : SRegion) : State :=
  { s with saddle := { s.saddle with regions := tset s.saddle.regions r x } }
def modRegion (s : State) (r : Nat) (f : SRegion → SRegion) : State :=
  match regionOf s r with
  | some x => setRegion s r (f x)
  | none => s

/-! ### The REGION_CREATE record (R264) -/

def rgPort (c : Nat) : Nat := recField 24 0 1 c
def rgShell (c : Nat) : Nat := recField 24 1 1 c
def rgVale (c : Nat) : Vale := if recField 24 2 1 c = 1 then .west else .east
def rgOwner (c : Nat) : Handle := BitVec.ofNat 32 (recField 24 4 4 c)
def rgRate (c : Nat) : Nat := recField 24 8 4 c
def rgBurst (c : Nat) : Nat := recField 24 12 4 c
def rgLimit (c : Nat) : Nat := recField 24 16 2 c
def rgSlot (c : Nat) : Nat := rgPort c / 2

def saddleRetired (s : State) (p : Nat) : Bool := bitOf (numD s (okey 0x2451 3) 0) p

/-- The shell's block of a region. -/
def shellOf (s : State) (x : SRegion) : Option ShellRegion := (slotOf s (rgSlot x.conf)).shell[rgShell x.conf]?

def rgPkt (s : State) (x : SRegion) : Bool := match shellOf s x with | some h => h.pkt | none => false
def rxSlots (s : State) (x : SRegion) : Nat := match shellOf s x with | some h => 2 ^ h.rxLog2.toNat | none => 0
def rxSlotBytes (s : State) (x : SRegion) : Nat := match shellOf s x with | some h => 2 ^ (11 + h.rxSize.toNat) | none => 0

/-- The region translates, delivers and is granted credit. -/
def regionOpen (x : SRegion) : Bool := decide (x.st = .open_) && decide (x.iso = none)

/-- Receive slots filled and not emptied. -/
def rxHeld (x : SRegion) : Nat := (x.rxProd + 65536 - x.rxCons) % 65536

/-- The partial aperture packet of a region is given up: with reason 0x05 (R273, R274), or at a port reset by ending its
missing bytes, which drops it at release with reason 0x04 (R276 step 4). -/
def dropPartial (s : State) (r : Nat) (atReset : Bool) : State :=
  match regionOf s r with
  | none => s
  | some x =>
    let s1 := setRegion s r { x with apLen := 0, apOff := 0, apBuf := [], apPkt := none }
    match x.apPkt with
    | some i => if atReset then tailLost s1 (rgVale x.conf) i else frameTail s1 (rgVale x.conf) i [] false
    | none => if x.apLen = 0 then s1 else count s1 (vkey (rgVale x.conf) 0x3004 (if atReset then 0x04 else 0x05))

/-- Packets dequeued toward a region are dropped with reason 0x0C (R265). -/
def dropToRegion (s : State) (r : Nat) : State :=
  dropDown (dropDown s .east (fun _ p => decide (p.loc = .toSaddle r))) .west (fun _ p => decide (p.loc = .toSaddle r))

/-- A status bit of the root port's AER registers. -/
def rootAer (s : State) (p bit : Nat) : State := modSport s p (fun x => { x with aerUnc := x.aerUnc ||| BitVec.ofNat 32 (2 ^ bit) })

/-- A completion returns to the attached logic of a port. -/
def pushCpl (s : State) (p : Nat) (c : SgCpl) : State :=
  modSport s p (fun x => { x with cpls := keep 8 (c :: x.cpls) })

/-- The request awaits a completion. -/
def nonPosted (q : SgReq) : Bool :=
  match q.kind with
  | .read _ => true
  | .write _ => false
  | .unsupported posted => !posted

/-- Requests of a region that are not yet translated are discarded; the non-posted ones complete with Unsupported Request. -/
def discardGate (s : State) (r : Nat) : State :=
  match regionOf s r with
  | none => s
  | some x =>
    let p := rgPort x.conf
    let mine := ((sportOf s p).waits.filter (fun w => decide (w.region = r))).map (·.req)
    let s1 := modSport (setRegion s r { x with queue := [] }) p
      (fun y => { y with waits := y.waits.filter (fun w => decide (w.region ≠ r)) })
    ((mine ++ x.queue).filter nonPosted).foldl (fun a _ => pushCpl a p .unsupported) s1

/-- Step 3 of R274: translation closes; what waits in the gate is not yet translated and is discarded. -/
def closeRegion (s : State) (r : Nat) : State :=
  modRegion (discardGate (dropToRegion (dropPartial s r false) r) r) r (fun x =>
    { x with st := .isolated, iso := none, opening := false, isoReq := true, enable := false })

/-- The release sequence of R273 starts: ENABLE 1, ISO_REQ 0; ISO_ACK must fall. -/
def startRelease (s : State) (r : Nat) : State :=
  modRegion s r (fun x => { x with opening := true, isoReq := false, enable := true, iso := none, resetting := false,
                                   rgReset := false })

/-- Regions bound behind a port. -/
def regionsOn (s : State) (p : Nat) : List Nat :=
  (s.saddle.regions.filter (fun q => decide (rgPort q.2.conf = p))).map (·.1)

/-- The unit of a region's errors: its port; the region is the resource. -/
def rgUnit (x : SRegion) : Nat := unitId 2 4 (rgPort x.conf) 0xFFF

/-- A region reset fails (R275): the region stays Isolated; a write that waits is answered. -/
def resetFails (s : State) (r : Nat) (x : SRegion) (st : Status) : State :=
  let s1 := raise (setRegion s r { x with resetting := false, byWrite := false, byReq := none })
    { cls := 5, name := "SADDLE_REGION_RESET_FAILED", unit := rgUnit x, resource := r, tenancy := rgOwner x.conf,
      detail := statusCode st }
  if x.byWrite then answerWrite s1 x.byReq st else s1

/-- A reset of the region ends without success. -/
def abortReset (s : State) (r : Nat) (st : Status) : State :=
  match regionOf s r with
  | some x => if x.byWrite || x.resetting then resetFails s r x st else s
  | none => s

/-- What an isolation for another cause does to a reset of the region. -/
def endReset (s : State) (r : Nat) (why : IsoWhy) : State :=
  match why with
  | .halt => abortReset s r .halted
  | .destroy | .teardown => abortReset s r .staleHandle
  | .reset | .tenReset => s

/-- A destroyed region is free (R264, R274). -/
def freeRegion (s : State) (r : Nat) : State :=
  match regionOf s r with
  | none => s
  | some x =>
    let o := (ownerOf s 5 r).getD 0
    let s0 := x.apWait.foldl (fun a _ => count a (vkey (rgVale x.conf) 0x3004 0x05)) (abortReset s r .staleHandle)
    let s1 := tenErrLeave { s0 with saddle := { s0.saddle with regions := terase s0.saddle.regions r } } o (rgUnit x) r
    endObj s1 5 r

/-- RG_RESET is written under shell version 2.1 or above (R275). -/
def askReset (s : State) (r : Nat) : State :=
  match regionOf s r with
  | none => s
  | some x =>
    if 0x0201 ≤ (slotOf s (rgSlot x.conf)).version then setRegion s r { x with resetting := true, rgReset := true }
    else resetFails s r x .version

/-- What follows an isolation (R274, R275). -/
def afterIso (s : State) (r : Nat) (why : IsoWhy) : State :=
  match why with
  | .destroy => freeRegion s r
  | .reset | .tenReset => askReset s r
  | .halt | .teardown => s

/-- Step 1 of R274: no credit, no delivery, ISO_REQ 1 and ENABLE 0; ISO_ACK is awaited. A destroy under way goes on as a destroy,
and a halt, a destroy or a teardown ends a reset (log entry 83). -/
def startIsolation (s : State) (r : Nat) (why : IsoWhy) : State :=
  match regionOf s r with
  | none => s
  | some x =>
    if x.iso = some .destroy then s
    else modRegion (endReset s r why) r (fun x => { x with iso := some why, opening := false, isoReq := true, enable := false })

/-- A region that must be isolated for a cause: by handshake where it is Open or about to open, else at once. -/
def isolateFor (s : State) (r : Nat) (why : IsoWhy) : State :=
  match regionOf s r with
  | none => s
  | some x =>
    if (x.st = .open_ ∨ x.opening ∨ x.iso ≠ none) ∧ x.st ≠ .recovering then startIsolation s r why
    else afterIso (endReset s r why) r why

/-- A region without handshake: clamped at once; what its pending isolation served follows (R274, R275). -/
def forceIsolate (s : State) (r : Nat) : State :=
  match regionOf s r with
  | none => s
  | some x => match x.iso with
    | some why => afterIso (closeRegion s r) r why
    | none => closeRegion s r

end Sys2Proof.Machine
end

