-- ==== Sys2Proof/Machine/FlrBase.lean ====
section
/-! DEFINITION. The start of a function reset (R296 step 1, R297) and what it reaches at once: mailboxes (R374), the PF0 mailbox
(R62), rings in host memory. -/

namespace Sys2Proof.Machine

/-! ### Mailbox resets (R373, R374) -/

def mbOf (s : State) (n : Nat) : Mailbox := tgetD s.mbox n {}
def setMb (s : State) (n : Nat) (m : Mailbox) : State := { s with mbox := tset s.mbox n m }

/-- Bit `n` of MB_PENDING is set and the target of MB_OPER_IRQ signalled (R373). -/
def mbPendSet (s : State) (n : Nat) : State :=
  let w := tgetD s.mbPend (n / 32) 0
  let s1 := { s with mbPend := tset s.mbPend (n / 32) (w ||| 2 ^ (n % 32)) }
  let r := numD s (okey 0x2430 2) 0
  if recField 4 0 1 r = 1 then raiseVector s1 0 (recField 4 2 2 r) else steppeIrq s1 (recField 4 2 2 r)

/-- A mailbox reset starts: counts, slots, TEN_OFFER, SEL and VIOLATIONS are zero, PEER_RESET is set for the other side. -/
def mbResetStart (s : State) (n : Nat) (byTenant : Bool) : State :=
  let m := mbOf s n
  let m1 : Mailbox := { operOffer := m.operOffer, intEn := m.intEn, vector := m.vector, resetting := true,
                        peerResetTen := m.peerResetTen || !byTenant, peerResetOper := m.peerResetOper || byTenant }
  let s1 := setMb s n m1
  if byTenant then mbPendSet s1 n else s1

/-- The tenancies whose mailbox function is a virtual function. -/
def mbFnTens (s : State) (f : Nat) : List Nat :=
  (s.tens.filter (fun p =>
    let h : Handle := BitVec.ofNat 32 (numD s (tkey p.1 0xC070 1) 0)
    decide (h ≠ 0) && decide (hIdx h + 4 = f) && handleCurrent s h)).map (·.1)

/-! ### The start of a function reset -/

/-- Rings in host memory stop with PF0 (R296). -/
def stopHostRings (x : ValeState) : ValeState :=
  { x with
    table := { x.table with rings := tmap x.table.rings (fun _ r => if r.space then { r with en := false } else r) }
    tm := { x.tm with ring := if x.tm.ring.space then { x.tm.ring with en := false } else x.tm.ring } }

/-- What PF0's reset does beside R296: the mailbox registers return to their reset values, its sessions end (R62). -/
def resetPf0 (s : State) : State :=
  { s with
    idien := { keepSessions s.idien (fun _ x => decide (x.transport ≠ .pf0)) with
      pf0 := {}, qU := s.idien.qU.filter (fun r => decide (r.src ≠ .open_ .pf0)) }
    east := stopHostRings s.east
    west := stopHostRings s.west }

/-- Step 1 of R296 for one function: FLR_ACTIVE; a reset that runs goes on as it is. -/
def startFlrOne (s : State) (f : Nat) : State :=
  if (fnOf s f).flr ≠ 0 then s
  else
    let s1 := modFn s f (fun x => { x with flr := 1 })
    let s2 := (mbFnTens s1 f).foldl (fun a n => mbResetStart a n true) s1
    if f = 0 then resetPf0 s2 else s2

/-- The virtual functions of a physical function, as function numbers. -/
def vfsOf (s : State) (pf : Nat) : List Nat :=
  if pf = 0 then [] else (List.range (totalVfs s pf)).map (fun i => 4 + vfFirst s pf + i)

/-- A function reset starts; with PF1-PF3 each of their virtual functions is reset and VF Enable clears (R296). -/
def flrTree (s : State) (f : Nat) : State :=
  if 1 ≤ f ∧ f < 4 then
    let s1 := modFn s f (fun x => { x with vfEnable := false })
    (vfsOf s1 f).foldl startFlrOne (startFlrOne s1 f)
  else startFlrOne s f

/-- A function reset is started; one that runs goes on as it is, and so do its virtual functions (R296). -/
def startFlr (s : State) (f : Nat) : State := if (fnOf s f).flr ≠ 0 then s else flrTree s f

/-- Every function is reset at once and VF Enable cleared (R297). -/
def resetAllFns (s : State) : State := [0, 1, 2, 3].foldl flrTree s

end Sys2Proof.Machine
end

