-- ==== Sys2Proof/Machine/QeBase.lean ====
section
/-! DEFINITION. Queue contexts as other units see them (R305-R326): completion entries, halts of queues and functions, the tenancy
error queue and the halt of a tenancy (R352, R353), queue faults. -/

namespace Sys2Proof.Machine

/-! ### Contexts -/

def ctxOf (s : State) (i : Nat) : Option QCtx := tget s.qe.ctx i
def setCtx (s : State) (i : Nat) (q : QCtx) : State := { s with qe := { s.qe with ctx := tset s.qe.ctx i q } }
def modCtx (s : State) (i : Nat) (f : QCtx → QCtx) : State :=
  match ctxOf s i with
  | some q => setCtx s i (f q)
  | none => s

def ringSize (q : QCtx) : Nat := 2 ^ q.logRing
def cplSize (q : QCtx) : Nat := 2 ^ q.logCpl

/-- Difference of two free-running 16-bit counts. -/
def cdiff (a b : Nat) : Nat := (a + 65536 - b % 65536) % 65536

/-- Completion entries written and not consumed. -/
def cplHeld (q : QCtx) : Nat := cdiff q.written q.consumed

/-- The completion ring has room (R322). -/
def cplRoom (q : QCtx) : Bool := decide (cplHeld q < cplSize q)

/-- The contexts of a function, types 1-3. -/
def ctxsOf (s : State) (f : Nat) : List (Nat × QCtx) := s.qe.ctx.filter (fun p => decide (p.2.fn = f))

/-- The context of a local queue number. -/
def lqCtx (s : State) (f lq : Nat) : Option (Nat × QCtx) :=
  s.qe.ctx.find? (fun p => decide (p.2.fn = f) && decide (p.2.lq = lq))

/-- Packets dequeued toward a receive queue and not delivered. -/
def toHostCount (s : State) (i : Nat) : Nat := countAt s .east (.toHost i) + countAt s .west (.toHost i)

/-- A free receive entry for one more packet (R319). -/
def rxEntryFree (s : State) (i : Nat) (q : QCtx) : Bool :=
  decide (q.st = .running) && decide (toHostCount s i < cdiff q.door q.startPos)
    && decide (cplHeld q + toHostCount s i < cplSize q)

/-- The receive queue can be a destination at all: Running, and its function neither reset nor halted (R85, R312). -/
def rxAlive (s : State) (q : QCtx) : Bool :=
  decide (q.st = .running) && decide ((fnOf s q.fn).flr = 0) && !fnHalted s q.fn

/-! ### Completion entries (R321-R323) -/

/-- The fields of a completion entry other than PHASE. -/
structure Cpl where
  error : Bool := false
  status : Status := .ok
  pos : Nat
  tag : Nat := 0xFFFFFF
  len : Nat := 0
  cause : Nat := 0
  rx : List Byte := List.replicate 16 0    -- offsets 13 to 28
  detail : Nat := 0

def cplBytes (phase : Bool) (c : Cpl) : List Byte :=
  beBytes 1 (bit1 phase * 128 + bit1 c.error * 64) ++ beBytes 1 (statusCode c.status) ++ beBytes 2 c.pos
    ++ beBytes 4 (c.tag % 0x1000000) ++ beBytes 4 c.len ++ beBytes 1 c.cause ++ c.rx ++ beBytes 1 c.detail ++ beBytes 2 0

/-- A queue raises its vector; both counts start again (R323). -/
def qeRaise (s : State) (i : Nat) (q : QCtx) : State :=
  let s1 := setCtx s i { q with unsig := 0 }
  if q.vector = 0xFFFF then s1 else raiseVector s1 q.fn q.vector

/-- A completion entry is written into the next slot of the ring. -/
def writeCpl (s : State) (i : Nat) (c : Cpl) : State :=
  match ctxOf s i with
  | none => s
  | some q =>
    let slot := q.written % cplSize q
    let s1 := hostWrite s q.fn (q.cpl + 32 * slot) (cplBytes q.phase c)
    let q1 : QCtx := { q with
      written := (q.written + 1) % 65536
      phase := if slot + 1 = cplSize q then !q.phase else q.phase
      unsig := q.unsig + 1 }
    if c.error || decide (max 1 q.coalCount ≤ q1.unsig) then qeRaise s1 i q1 else setCtx s1 i q1

/-- OWN of a position is cleared, the other flag bits unchanged (R313), and the oldest position held advances. -/
def clearOwn (s : State) (i pos : Nat) (flags : Byte) : State :=
  match ctxOf s i with
  | none => s
  | some q =>
    let s1 := hostWrite s q.fn (q.ring + 64 * (pos % ringSize q)) [flags &&& 0x7F#8]
    let cl := pos :: q.cleared
    let r := cl.foldl (fun (a : Nat × List Nat × Bool) _ =>
      if a.2.2 && a.2.1.contains a.1 then ((a.1 + 1) % 65536, a.2.1.filter (fun x => decide (x ≠ a.1)), true)
      else (a.1, a.2.1, false)) (q.oldest, cl, true)
    setCtx s1 i { q with oldest := r.1, cleared := r.2.1 }

/-! ### Halts (R298, R312) -/

/-- Every queue of a function becomes Halted. -/
def haltQueues (s : State) (f : Nat) : State :=
  { s with qe := { s.qe with ctx := tmap s.qe.ctx (fun _ q =>
      if q.fn = f ∧ q.st = .running then { q with st := .halted } else q) } }

/-- A function halts: HALTED and its reason, the AER bit of R302, the event of R303 (its name is not given). -/
def haltFn (s : State) (f reason : Nat) (errSeq : Nat) : State :=
  if fnHalted s f then s
  else
    let s1 := aerUnc (modFn s f (fun x => { x with reason := reason })) f 22
    raise s1 { cls := 6, name := "", unit := unitId 2 3 1 0xFFF, level := 2, resource := f, tenancy := fnOwner s f,
               detail := reason, errSeq := errSeq }

/-- The virtual functions of a tenancy, as function numbers. -/
def tenFns (s : State) (h : Handle) : List Nat :=
  (List.range 1024).filterMap (fun g => if h ≠ 0 ∧ ownerOf s 3 g = some h then some (g + 4) else none)

/-- The Saddle regions of a tenancy. -/
def tenRegions (s : State) (h : Handle) : List Nat :=
  (s.saddle.regions.filter (fun p => decide (rgOwner p.2.conf = h))).map (·.1)

/-- A tenancy moves to Halted (R30): its functions halt with reason 2, its queues halt, its Saddle regions are isolated. -/
def haltTenancy (s : State) (h : Handle) (errSeq : Nat) : State :=
  let s1 := modTen s (hIdx h) (fun t => { t with st := .halted })
  let s2 := (tenFns s h).foldl (fun a f => haltFn (haltQueues a f) f 2 errSeq) s1
  let s3 := (tenRegions s h).foldl (fun a r => isolateFor a r .halt) s2
  raise s3 { cls := 1, name := "TENANCY_HALTED", unit := chipId, resource := h.toNat, tenancy := h, errSeq := errSeq }

/-- An error takes an entry of the tenancy's error queue, or halts the tenancy (R352, R353). The number is the record's. -/
def tenErr (s : State) (h : Handle) (d : ErrDesc) (origin : Nat) : State :=
  match tenAt s (hIdx h) with
  | none => s
  | some t =>
    if t.st ≠ .active then s
    else
      let e := tenRecord s d origin (16 + bit1 (!t.errQ.isEmpty)) 0 1
      match t.errQ.find? (fun x => sameResource x e) with
      | some x =>
        let r := tenRecord s d origin (16 + 8) x.seq 4
        haltTenancy (bump (setTen (logErr s r) (hIdx h) { t with halt := some r }) (tkey (hIdx h) 0xC080 2) 32 1) h r.seq
      | none =>
        if 4 ≤ t.errQ.length then
          let r := tenRecord s d origin (16 + 4) 0 4
          haltTenancy (bump (setTen (logErr s r) (hIdx h) { t with halt := some r }) (tkey (hIdx h) 0xC080 2) 32 1) h r.seq
        else setTen (logErr s e) (hIdx h) { t with errQ := t.errQ ++ [e] }

/-- A block-level error of a resource with an owner: into the tenancy's error queue for F and PF owners, otherwise into the
block's handler. `act` is the action of the row itself, done in both cases. -/
def ownedError (act : ErrKind → Nat → ErrRec → State → State) (d : ErrDesc) (s : State) : State :=
  if ownQueue s d.tenancy then act d.kind 2 (tenRecord s d 2 16 0 1) (tenErr s d.tenancy d 2)
  else arrive act d 2 s

/-! ### Queue faults (R325, R326) -/

/-- The queue engine is a block of the host region; a queue context is the resource. -/
def qeErr (s : State) (i : Nat) (q : QCtx) (cause detail : Nat) : ErrDesc :=
  { kind := .qeContextDbe i, region := 3, block := 2, resource := i, tenancy := fnOwner s q.fn, cause := cause,
    detail := detail, code := fun l => if l = 4 then 6 else if l = 3 then 5 else 1 }

/-- QE_LAST_FAULT (R329). -/
def qeLastFault (s : State) (i : Nat) (q : QCtx) (pos cause detail : Nat) : State :=
  setNum s (okey 0x5802 1)
    (beNat (beBytes 2 q.fn ++ beBytes 2 q.lq ++ beBytes 4 (handleOf s 2 i).toNat ++ beBytes 2 pos ++ beBytes 1 cause
      ++ beBytes 1 detail))

/-- The region row of R328: every function is reset, and so every queue becomes Idle. -/
def qeRegionAct (r : ErrRec) (s : State) : State :=
  raise (resetAllFns s) { cls := 6, name := "QE_RESET", unit := regionId 3, level := 3, errSeq := r.seq }

/-- The action on a queue fault at the queue's block: the queue and every other of its function halt, and the function with
`reason`; in the region every function is reset. -/
def qeFaultAct (i f reason : Nat) (_ : ErrKind) (l : Nat) (r : ErrRec) (s : State) : State :=
  if l = 4 then enterFailStop r s
  else if l = 3 then qeRegionAct r s
  else
    let s1 := modCtx s i (fun q => { q with st := .halted })
    let s2 := haltFn (haltQueues s1 f) f reason r.seq
    raise s2 { cls := 6, name := "QE_QUEUE_FAULT", unit := unitId 2 3 2 0xFFF, level := 2, resource := i,
               tenancy := fnOwner s f, errSeq := r.seq }

/-- A queue fault outside PF0's malformed entries (R325, R326). -/
def queueFault (s : State) (i : Nat) (q : QCtx) (reason pos cause detail : Nat) : State :=
  ownedError (qeFaultAct i q.fn reason) (qeErr s i q (if cause = 2 then 3 else 4) pos) (qeLastFault s i q pos cause detail)

/-- A malformed entry (R325): a completion entry when the ring has room; then the queue halts with its function, or on PF0 the
chip enters fail-stop. -/
def malformed (s : State) (i pos tag item : Nat) : State :=
  match ctxOf s i with
  | none => s
  | some q =>
    let c : Cpl := { error := true, status := .range, pos := pos, tag := tag, cause := 1, detail := item }
    let s1 := if cplRoom q then writeCpl s i c else s
    let q1 := (ctxOf s1 i).getD q
    if q.fn = 0 then
      let s2 := qeLastFault (setCtx s1 i { q1 with st := .halted }) i q pos 1 item
      arrive (fun _ _ r a => enterFailStop r a)
        { qeErr s2 i q 4 pos with unit := some (unitId 2 3 2 0xFFF), code := fun _ => 6 } 4 s2
    else queueFault s1 i q1 1 pos 1 item

end Sys2Proof.Machine
end

