-- ==== Sys2Proof/Machine/NvBase.lean ====
section
/-! DEFINITION. NVMe controllers as other units see them (R330-R348): accessors, the reset of a controller, submission queues that
can be served; and the service order of R324, which work queues and submission queues share. -/

namespace Sys2Proof.Machine

def nvCtrl (s : State) (c : Nat) : Option NvCtrl := tget s.nv.ctrls c
def setNv (s : State) (c : Nat) (x : NvCtrl) : State := { s with nv := { s.nv with ctrls := tset s.nv.ctrls c x } }
def modNv (s : State) (c : Nat) (f : NvCtrl → NvCtrl) : State :=
  match nvCtrl s c with
  | some x => setNv s c (f x)
  | none => s

def setNvQ (s : State) (i : Nat) (q : NvQ) : State := { s with nv := { s.nv with qs := tset s.nv.qs i q } }
def modNvQ (s : State) (i : Nat) (f : NvQ → NvQ) : State :=
  match tget s.nv.qs i with
  | some q => setNvQ s i (f q)
  | none => s

/-- The queue of a controller by kind and identifier, with its context index. -/
def nvFind (s : State) (c : Nat) (sq : Bool) (qid : Nat) : Option (Nat × NvQ) :=
  s.nv.qs.find? (fun p => decide (p.2.ctrl = c) && decide (p.2.sq = sq) && decide (p.2.qid = qid))

/-- The controller of a function. -/
def nvOfFn (s : State) (f : Nat) : Option Nat := (s.nv.ctrls.find? (fun p => decide (p.2.fn = f))).map (·.1)

/-- CC.EN. -/
def nvEn (x : NvCtrl) : Bool := x.cc.getLsbD 0

/-- Range-lock entries in use (R338): every fetched command holds its own until it ends. -/
def rlockUsed (s : State) : Nat := s.nv.cmds.foldl (fun n p => n + p.2.ranges.length) 0

/-- The block of NVMe emulation (R474). -/
def nvUnit : Nat := unitId 2 3 3 0xFFF

/-! ### Queue contexts leave the pool (R312, R348) -/

/-- A context index returns to the pool; `bump`: its generation rises now (R17). -/
def freeContext (s : State) (i : Nat) (bump : Bool) : State :=
  endObj (if bump && !ownerDying s ((ownerOf s 2 i).getD 0) then bumpGen s 2 i else s) 2 i

/-- An I/O queue is deleted; the entry of a frozen one leaves the tenancy's error queue (R352). -/
def dropNvQ (s : State) (i : Nat) (bump : Bool) : State :=
  match tget s.nv.qs i with
  | none => s
  | some q =>
    let o := match nvCtrl s q.ctrl with | some x => x.owner | none => 0
    freeContext (tenErrLeave { s with nv := { s.nv with qs := terase s.nv.qs i } } o nvUnit i) i bump

/-- The reset of a controller (R348): I/O queues deleted, outstanding commands and their entries gone, the admin queues
empty; `regs`: its registers are reset too. -/
def nvReset (s : State) (c : Nat) (regs : Bool) : State :=
  match nvCtrl s c with
  | none => s
  | some x =>
    let io := (s.nv.qs.filter (fun p => decide (p.2.ctrl = c) && decide (p.2.qid ≠ 0))).map (·.1)
    let s1 := io.foldl (fun a i => dropNvQ a i true) s
    let s2 := (s1.nv.qs.filter (fun p => decide (p.2.ctrl = c))).foldl (fun a p => tenErrLeave a x.owner nvUnit p.1) s1
    let fresh := fun (q : NvQ) => ({ ctrl := q.ctrl, sq := q.sq, qid := q.qid, base := 0, size := 0, cq := q.cq } : NvQ)
    let y : NvCtrl := {
      fn := x.fn, maxQ := x.maxQ, owner := x.owner
      cc := if regs then 0 else x.cc &&& 0xFFFFFFFE#32, intms := 0
      aqa := if regs then 0 else x.aqa, asqLo := if regs then 0 else x.asqLo, asqHi := if regs then 0 else x.asqHi
      acqLo := if regs then 0 else x.acqLo, acqHi := if regs then 0 else x.acqHi
      errCount := x.errCount, reads := x.reads, writes := x.writes }
    { s2 with nv := { s2.nv with
      ctrls := tset s2.nv.ctrls c y
      qs := tmap s2.nv.qs (fun _ q => if q.ctrl = c then fresh q else q)
      cmds := tfilter s2.nv.cmds (fun _ m => decide (m.ctrl ≠ c)) } }

/-! ### Work queues that can start (R324) -/

/-- The selected version has SUPPRESS (R311). -/
def hasSuppress (q : QCtx) : Bool := decide (3 ≤ q.major) || (decide (q.major = 2) && decide (1 ≤ q.minor))

/-- Started descriptors that a queue may hold (R318, R320). -/
def startLimit (q : QCtx) : Nat := if q.type = 1 then 4 else 8

/-- The Vale of a transmit queue. -/
def ctxVale (q : QCtx) : Vale := if q.vale = 1 then .west else .east

/-- A transmit or control queue has a descriptor to start: fetched and below the doorbell, its completion ring has room, its
function issues requests. -/
def qeReady (s : State) (q : QCtx) : Bool :=
  decide (q.type ≠ 2) && decide (q.st = .running) && (q.cache.any (fun d => decide (d.1 = q.startPos)))
    && cplRoom q && decide (q.started.length < startLimit q) && fnIssues s q.fn && !fnHeld s q.fn

/-- The queue is eligible: a transmit queue needs an intake grant as well (R324). -/
def qeEligible (s : State) (q : QCtx) : Bool :=
  qeReady s q && (decide (q.type ≠ 1) || ((s.vale (ctxVale q)).path.hostGrant && intakeOpen s (ctxVale q)))

/-- A submission queue can be fetched from (R337, R338, R341-R344). -/
def sqEligible (s : State) (q : NvQ) : Bool :=
  q.sq && match nvCtrl s q.ctrl with
    | none => false
    | some x =>
      let cqOk := match nvFind s q.ctrl false q.cq with | some p => !p.2.frozen | none => false
      x.rdy && !x.cfs && !q.frozen && cqOk && decide (q.head ≠ q.tail) && decide (q.deleting = none)
        && decide (q.wait = none) && decide (q.entry = none) && fnIssues s x.fn && !fnHeld s x.fn
        && (decide (q.qid = 0) || (decide (x.psTo = none) && decide (x.ps ≠ 3)))

/-- A queue as the service order sees it. -/
structure Cand where
  client : Nat
  weight : Nat
  burst : Nat

def sqKey (q : NvQ) : Nat := 0x100000 + q.ctrl * 256 + q.qid

/-- Tokens of a P or PF client's rate cap, full where none have been charged. -/
def qeTokens (s : State) (t : Nat) : Int := tgetD s.qe.tokens t ((numD s (tkey t 0xC050 3) 1024 : Nat) * (token : Int))

/-- The client has a token, or needs none. -/
def clientMay (s : State) (c : Nat) : Bool := decide (c < 2) || decide ((token : Int) ≤ qeTokens s (c - 2))

/-- The eligible queues of all clients, by scheduling number. -/
def qeCands (s : State) : Tab Cand :=
  let work := (s.qe.ctx.filter (fun p => qeEligible s p.2)).foldl
    (fun (t : Tab Cand) p => tset t p.1 { client := clientOf s p.2.fn, weight := p.2.weight, burst := p.2.burst }) []
  let nvme := (s.nv.qs.filter (fun p => sqEligible s p.2)).foldl
    (fun (t : Tab Cand) p =>
      let f := match nvCtrl s p.2.ctrl with | some x => x.fn | none => 2
      tset t (sqKey p.2) { client := clientOf s f, weight := if p.2.qid = 0 then 4 else 1, burst := 8 }) work
  tfilter nvme (fun _ c => clientMay s c.client)

/-- The weight of a client; a written QE_WEIGHT is in force from the next tick on (R329). -/
def qeCliWeight (s : State) (c : Nat) : Nat :=
  if c = 0 then numD s (okey 0x5800 3) 64 else if c = 1 then numD s (okey 0x5800 4) 16 
  else tgetD s.qe.oldWeights (c - 2) (numD s (tkey (c - 2) 0xC050 1) 16)

/-- The choice of R324: client, scheduling number, and what the visits on the way change. -/
def qePick (s : State) : Option (Nat × Nat × State) :=
  let cs := qeCands s
  let clients := (List.range 258).filter (fun c => cs.any (fun p => decide (p.2.client = c)))
  match drrPick clients (qeCliWeight s) (fun c => tgetD s.qe.cliDef c 0) (some s.qe.cliCur) with
  | none => none
  | some (c, d1, _) =>
    let mine := tfilter cs (fun _ x => decide (x.client = c))
    let cur := (tget s.qe.qCur c).map (fun v =>
      (v.1, decide (v.2 < (match tget mine v.1 with | some x => x.burst | none => 0))))
    match drrPick (mine.map (·.1)) (fun k => match tget mine k with | some x => x.weight | none => 1)
        (fun k => tgetD s.qe.qDef k 0) cur with
    | none => none
    | some (k, d2, goOn) =>
      let served := if goOn then (tgetD s.qe.qCur c (k, 0)).2 else 0
      let cd := d1.foldl (fun t p => tset t p.1 p.2) s.qe.cliDef
      let qd := d2.foldl (fun t p => tset t p.1 p.2) s.qe.qDef
      some (c, k, { s with qe := { s.qe with
        cliDef := tset cd c (tgetD cd c 0 - 1), cliCur := (c, true)
        qDef := tset qd k (tgetD qd k 0 - 1), qCur := tset s.qe.qCur c (k, served + 1)
        tokens := if 2 ≤ c then tset s.qe.tokens (c - 2) (qeTokens s (c - 2) - (token : Int)) else s.qe.tokens } })

/-- The visit to a client that its rate cap now holds back ends (R213, R324). -/
def endCliVisit (s : State) (c : Nat) : State :=
  if clientMay s c then s else { s with qe := { s.qe with cliCur := (c, false) } }

/-- A queue that has become empty keeps no positive deficit, and neither does a client none of whose queues can go on
(R214). -/
def qeSettle (s0 : State) (c k : Nat) (empty : Bool) : State :=
  let s := endCliVisit s0 c
  if !empty then s
  else
    let q := tset s.qe.qDef k (min 0 (tgetD s.qe.qDef k 0))
    let busy := s.qe.ctx.any (fun p => decide (clientOf s p.2.fn = c) && decide (p.2.type ≠ 2) && decide (p.2.startPos ≠ p.2.door))
      || s.nv.qs.any (fun p => p.2.sq && decide (p.2.head ≠ p.2.tail)
          && decide (clientOf s (match nvCtrl s p.2.ctrl with | some x => x.fn | none => 2) = c))
    let d := if busy then s.qe.cliDef else tset s.qe.cliDef c (min 0 (tgetD s.qe.cliDef c 0))
    { s with qe := { s.qe with qDef := q, cliDef := d } }

end Sys2Proof.Machine
end

