-- ==== Sys2Proof/Machine/NvCore.lean ====
section
/-! DEFINITION. What the commands of a controller share (R330-R347): completions, asynchronous events, freezes, host memory by PRP,
volumes, backend buffers, the end of a command. Structure layouts and status numbers that R330 takes from the NVM Express
specifications are PRESUMED (log entry 32). -/

namespace Sys2Proof.Machine

/-! ### Status numbers (log entry 32) -/

def nvInvalidOpcode : Nat := 0x01
def nvInvalidField : Nat := 0x02
def nvDataTransfer : Nat := 0x04
def nvInternal : Nat := 0x06
def nvAborted : Nat := 0x07
def nvInvalidNs : Nat := 0x0B
def nvWriteProtected : Nat := 0x20
def nvInterrupted : Nat := 0x21
def nvTransport : Nat := 0x22
def nvLbaRange : Nat := 0x80
def nvCqInvalid : Nat := 0x100
def nvBadQid : Nat := 0x101
def nvBadSize : Nat := 0x102
def nvAerLimit : Nat := 0x105
def nvBadVector : Nat := 0x108
def nvBadFormat : Nat := 0x10A
def nvBadDelete : Nat := 0x10C

/-- One bit of a register. -/
def putBit (w b : Nat) (x : Bool) : Nat := if x then w ||| 2 ^ b else if bitOf w b then w - 2 ^ b else w

/-- A field of a submission entry, little-endian. -/
def sField (b : List Byte) (off n : Nat) : Nat := leNat (sliceD b off n 0)
def sCid (b : List Byte) : Nat := sField b 2 2
def sNsid (b : List Byte) : Nat := sField b 4 4
def sDw (b : List Byte) (k : Nat) : Nat := sField b (4 * k) 4

/-- The host address in the function's name of an admin or I/O queue base. -/
def nvFn (s : State) (c : Nat) : Nat := match nvCtrl s c with | some x => x.fn | none => 2

/-! ### Completions (R336, R343) -/

/-- A vector of a completion queue is raised by the aggregation threshold (R336, R323); admin completions at once. -/
def nvSignal (s : State) (c i : Nat) : State :=
  match nvCtrl s c, tget s.nv.qs i with
  | some x, some q =>
    let thr := if q.qid = 0 ∨ bitOf (tgetD x.vecCfg q.vector 0) 16 then 1 else bitsOf (tgetD x.feats 8 0) 0 8 + 1
    if q.ien && decide (thr ≤ q.unsig) then raiseVector (setNvQ s i { q with unsig := 0 }) x.fn q.vector else s
  | _, _ => s

/-- An entry of the Error Information log. -/
def nvErrEntry (n sqid cid status nsid : Nat) : List Byte :=
  leBytes 8 n ++ leBytes 2 sqid ++ leBytes 2 cid ++ leBytes 2 (status * 2) ++ leBytes 2 0xFFFF ++ leBytes 8 0
    ++ leBytes 4 nsid ++ List.replicate 36 0

/-- A completion of a command of submission queue `sqi` is posted; discarded where the completion queue is frozen; none where
it is full. -/
def nvPost (s : State) (c sqi cid status dw0 nsid : Nat) : Option State :=
  match nvCtrl s c, tget s.nv.qs sqi with
  | some x, some sq =>
    match nvFind s c false sq.cq with
    | none => some s
    | some (i, cq) =>
      if cq.frozen then some s
      else if cq.size ≤ cq.used + 1 then none
      else
        let e := leBytes 4 dw0 ++ leBytes 4 0 ++ leBytes 2 sq.head ++ leBytes 2 sq.qid ++ leBytes 2 cid
          ++ leBytes 2 (status * 2 + bit1 cq.phase)
        let s1 := hostWrite s x.fn (cq.base + 16 * cq.tail) e
        let t := (cq.tail + 1) % max 1 cq.size
        let s2 := setNvQ s1 i { cq with tail := t, phase := if t = 0 then !cq.phase else cq.phase, used := cq.used + 1,
                                        unsig := cq.unsig + 1 }
        let s3 := if status = 0 then s2
          else modNv s2 c (fun y => { y with
            errCount := y.errCount + 1, errs := keep 16 (nvErrEntry (y.errCount + 1) sq.qid cid status nsid :: y.errs) })
        some (nvSignal s3 c i)
  | _, _ => some s

/-! ### Asynchronous events (R343) -/

/-- Reports waiting events to waiting requests, one each, while their page is armed. -/
def nvAens : Nat → Nat → State → State
  | 0, _, s => s
  | fuel + 1, c, s =>
    match nvCtrl s c, nvFind s c true 0 with
    | some x, some (i, _) =>
      match x.aers, x.evts.find? (fun e => !x.masked.contains e.2) with
      | cid :: rest, some e =>
        (match nvPost s c i cid 0 (e.1 * 256 + e.2 * 65536) 0 with
         | none => s
         | some s1 => nvAens fuel c (modNv s1 c (fun y => { y with
             aers := rest, evts := y.evts.erase e, masked := e.2 :: y.masked })))
      | _, _ => s
    | _, _ => s

/-- An event of type Error. -/
def nvEvent (s : State) (c info page : Nat) : State :=
  nvAens 8 c (modNv s c (fun x => { x with evts := keep 16 (x.evts ++ [(info, page)]) }))

/-! ### Freezes (R343, R344, R349) -/

/-- The region row of R349: every controller sets CSTS.CFS, every range-lock entry is released. -/
def storRegionAct (r : ErrRec) (s : State) : State :=
  let s1 : State := { s with nv := { s.nv with
    ctrls := tmap s.nv.ctrls (fun _ c => { c with cfs := true })
    cmds := tmap s.nv.cmds (fun _ m => { m with ranges := [] }) } }
  raise s1 { cls := 7, name := "STOR_RESET", unit := regionId 3, level := 3, errSeq := r.seq }

/-- The actions on a freeze or a controller error by level; `name` is the event at the block. -/
def storAct (name : String) (i : Nat) (h : Handle) (_ : ErrKind) (l : Nat) (r : ErrRec) (s : State) : State :=
  if l = 4 then enterFailStop r s
  else if l = 3 then storRegionAct r s
  else raise s { cls := 7, name := name, unit := nvUnit, level := 2, resource := i, tenancy := h, errSeq := r.seq }

def storErr (c i : Nat) (h : Handle) (cause detail : Nat) : ErrDesc :=
  { kind := .storController c, region := 3, block := 3, resource := i, tenancy := h, cause := cause, detail := detail,
    code := fun l => if l = 4 then 6 else if l = 3 then 5 else 1 }

/-- CSTS.CFS is set (R343, R349). -/
def nvFatal (s : State) (c : Nat) (cause : Nat) : State :=
  match nvCtrl s c with
  | none => s
  | some x =>
    arrive (storAct "NVME_CTRL_FATAL" c x.owner) (storErr c c x.owner cause 0) 2 (setNv s c { x with cfs := true })

/-- A freeze-log entry. -/
def freezeEntry (s : State) (seq sqid cqid cause status door head tail addr : Nat) : List Byte :=
  leBytes 4 seq ++ leBytes 2 sqid ++ leBytes 2 cqid ++ leBytes 1 cause ++ leBytes 1 status ++ leBytes 2 door
    ++ leBytes 2 head ++ leBytes 2 tail ++ leBytes 8 addr ++ leBytes 8 (nowNs s) ++ List.replicate 32 0

/-- A queue freezes on a cause of R343; an admin queue sets CSTS.CFS instead. -/
def nvFreeze (s : State) (c i cause status door addr : Nat) : State :=
  match nvCtrl s c, tget s.nv.qs i with
  | some x, some q =>
    if q.frozen then s
    else if q.qid = 0 then nvFatal s c (if cause = 3 ∨ cause = 4 then 3 else 4)
    else
      let e := freezeEntry s (x.total + 1) (if q.sq then q.qid else 0xFFFF) (if q.sq then q.cq else q.qid) cause status door
        (if q.sq then q.head else 0) (if q.sq then q.tail else 0) addr
      let s1 := setNv s c { x with total := x.total + 1, log := keep 16 (e :: x.log) }
      let s2 := setNvQ s1 i { q with frozen := true }
      let s3 : State := if q.sq then s2 else { s2 with nv := { s2.nv with qs := tmap s2.nv.qs (fun _ y =>
        if y.ctrl = c ∧ y.sq ∧ y.cq = q.qid then { y with frozen := true } else y) } }
      let s4 := ownedError (storAct "NVME_QUEUE_FROZEN" i x.owner) (storErr c i x.owner (if cause ≤ 2 then 4 else 3) cause) s3
      nvEvent s4 c (if cause ≤ 2 then 1 else 2) 0xC0
  | _, _ => s

/-! ### Host memory by PRP (R330) -/

/-- Pages named by a PRP list from address `a` on; a list that does not end on its page goes on where its last entry
points. -/
def prpList (s : State) (f : Nat) : Nat → Nat → Nat → List (Nat × Nat) × State
  | 0, _, _ => ([], s)
  | fuel + 1, a, n =>
    if n = 0 then ([], s)
    else
      let e := hostRead s f a 8
      let p := leNat e.1
      if a % 4096 = 4088 ∧ 4096 < n then prpList e.2 f fuel p n
      else
        let r := prpList e.2 f fuel (a + 8) (n - 4096)
        ((p / 4096 * 4096, min n 4096) :: r.1, r.2)

/-- The host memory of `n` bytes of a command's data. -/
def prpSpans (s : State) (f : Nat) (b : List Byte) (n : Nat) : List (Nat × Nat) × State :=
  let p1 := sField b 24 8
  let p2 := sField b 32 8
  let n1 := min n (4096 - p1 % 4096)
  if n ≤ n1 then ([(p1, n)], s)
  else if n - n1 ≤ 4096 then ([(p1, n1), (p2, n - n1)], s)
  else
    let r := prpList s f 600 p2 (n - n1)
    ((p1, n1) :: r.1, r.2)

/-- The command's data need a PRP list. -/
def prpReads (b : List Byte) (n : Nat) : Bool := decide (4096 < n - min n (4096 - sField b 24 8 % 4096))

/-- Runs what reads host memory when its read is granted (R300, R301), and what reads none at once. -/
def withRead (s : State) (f : Nat) (reads : Bool) (run : State → State) : State :=
  if reads then match readTurn s f with
    | some s1 => run s1
    | none => s
  else run s

/-- Writes data into spans of host memory. -/
def spanWrite (s : State) (f : Nat) : List (Nat × Nat) → List Byte → State
  | [], _ => s
  | x :: r, bs => spanWrite (hostData s f x.1 (bs.take x.2)) f r (bs.drop x.2)

/-- Reads the spans. -/
def spanRead (s : State) (f : Nat) : List (Nat × Nat) → List Byte × State
  | [] => ([], s)
  | x :: r =>
    let a := hostRead s f x.1 x.2
    let b := spanRead a.2 f r
    (a.1 ++ b.1, b.2)

/-- The answer data of an admin command. -/
def nvAnswer (s : State) (c : Nat) (b data : List Byte) : State :=
  let f := nvFn s c
  let r := prpSpans s f b data.length
  spanWrite r.2 f r.1 data

/-! ### Volumes (R334) -/

def volKey (v : Nat) : Nat := okey (0x6200 + v / 128) (v % 128)
def volUnused : Nat := 0xFFFFFFFF * 256 ^ 44
def volRec (s : State) (v : Nat) : Nat := numD s (volKey v) volUnused
def volOwner (r : Nat) : Handle := BitVec.ofNat 32 (recField 48 0 4 r)
def volCtrl (r : Nat) : Handle := BitVec.ofNat 32 (recField 48 4 4 r)
def volNsid (r : Nat) : Nat := recField 48 8 1 r
def volLbads (r : Nat) : Nat := recField 48 9 1 r
def volBackend (r : Nat) : Nat := recField 48 10 1 r
def volProtected (r : Nat) : Bool := bitOf (recField 48 11 1 r) 0
def volSlot (r : Nat) : Nat := recField 48 12 2 r
def volWhere (r : Nat) : Nat := recField 48 14 1 r
def volCapacity (r : Nat) : Nat := recField 48 16 8 r
def volBackendId (r : Nat) : Nat := recField 48 24 4 r
def volOffset (r : Nat) : Nat := recField 48 32 8 r
def volUsed (r : Nat) : Bool := decide (volOwner r ≠ 0xFFFFFFFF#32)

/-- The listed volume records: index and record. -/
def volsListed (s : State) : List (Nat × Nat) :=
  s.dict.nums.filterMap (fun p =>
    let i := p.1 / 256
    if 0x6200 ≤ i ∧ i < 0x6220 ∧ volUsed p.2 then some ((i - 0x6200) * 128 + p.1 % 256, p.2) else none)

/-- The volume of a namespace of a controller. -/
def volOf (s : State) (c nsid : Nat) : Option (Nat × Nat) :=
  (volsListed s).find? (fun p => decide (volCtrl p.2 = handleOf s 4 c) && decide (volNsid p.2 = nsid) && decide (nsid ≠ 0))

/-- Bytes of an LBA. -/
def lbaSize (r : Nat) : Nat := 2 ^ volLbads r

/-- The XTS key of a volume; none where its slot holds none (R335, R408). -/
def volKeyMat (s : State) (r : Nat) : Option (List Byte) :=
  match tget s.vault.slots (volSlot r) with
  | some k => if k.lost ∨ k.kind ≠ 2 then none else some k.mat
  | none => none

/-- A run of data units through the XTS engine, the tweak being the volume LBA. -/
def xtsRun (f : List Byte → Nat → List Byte → List Byte) (key : List Byte) (size lba : Nat) : Nat → List Byte → List Byte
  | 0, _ => []
  | n + 1, bs => f key lba (bs.take size) ++ xtsRun f key size (lba + 1) n (bs.drop size)

/-! ### Backend buffers (R345, R390) -/

/-- NVMe buffer areas of the two stacks: base and bytes. -/
def nvAreas (s : State) : List (Nat × Nat) :=
  [0, 1].map (fun k =>
    let c := carveOf s k
    (hbmBase k + (24 - c.flood - c.ext - c.nvme) * gib, c.nvme * gib))

/-- A byte range of HBM meets a retired bank set. -/
def spanRetired (s : State) (a n : Nat) : Bool :=
  let k := if a < hbmBase 1 then 0 else 1
  let o := a - hbmBase k
  (List.range ((o + max n 1 - 1) / 0x200000 - o / 0x200000 + 1)).any (fun i => hbmRetired s k ((o / 0x200000 + i) * 0x200000))

/-- Buffers that commands hold: base and bytes. -/
def bufUsed (s : State) : List (Nat × Nat) :=
  (s.nv.cmds.filter (fun m => decide (m.2.len ≠ 0))).map (fun m => (m.2.buffer, m.2.len))

/-- The first page boundary at or above `a`. -/
def pageUp (a : Nat) : Nat := (a + 4095) / 4096 * 4096

/-- A buffer of `n` bytes fits at `a` of area `x`. -/
def bufFits (s : State) (n : Nat) (x : Nat × Nat) (a : Nat) : Bool :=
  within a n x.1 x.2 && !(bufUsed s).any (fun u => decide (a < u.1 + u.2) && decide (u.1 < a + n)) && !spanRetired s a n

/-- Places of an area for a buffer of `n` bytes: its base and the pages after the buffers in use. -/
def bufPlaces (s : State) (n : Nat) (x : Nat × Nat) : List Nat :=
  (x.1 :: (bufUsed s).map (fun u => pageUp (u.1 + u.2))).filter (bufFits s n x)

/-- A buffer of `n` bytes: the lowest place that no command's buffer meets; none while the areas are full. -/
def allocBuf (s : State) (n : Nat) : Option Nat := ((nvAreas s).flatMap (bufPlaces s n)).min?

/-! ### Ends of commands (R338-R340, R344) -/

/-- The delete of a submission queue whose commands have ended completes (R344). -/
def tryDelete (s : State) (c i : Nat) : State :=
  match tget s.nv.qs i, nvFind s c true 0 with
  | some q, some (a, _) =>
    match q.deleting with
    | none => s
    | some cid =>
      if s.nv.cmds.any (fun m => decide (m.2.sq = i)) then s
      else match nvPost s c a cid 0 0 0 with
        | none => s
        | some s1 => dropNvQ s1 i true
  | _, _ => s

/-- A command ends with a status: its completion is posted or discarded and its entries are released; while its completion
queue is full the result waits. -/
def nvFinish (s : State) (tag status dw0 : Nat) : State :=
  match tget s.nv.cmds tag with
  | none => s
  | some m =>
    match nvPost s m.ctrl m.sq m.cid status dw0 (sNsid m.bytes) with
    | none => { s with nv := { s.nv with cmds := tset s.nv.cmds tag { m with cpl := some (status, dw0) } } }
    | some s1 => tryDelete { s1 with nv := { s1.nv with cmds := terase s1.nv.cmds tag } } m.ctrl m.sq

/-- After a completion queue has gained room: results, deletes and events that waited. -/
def nvRetry (s : State) (c : Nat) : State :=
  let s1 := (s.nv.cmds.filter (fun m => decide (m.2.ctrl = c))).foldl (fun a m =>
    match m.2.cpl with
    | some r => nvFinish a m.1 r.1 r.2
    | none => a) s
  let s2 := (s1.nv.qs.filter (fun q => decide (q.2.ctrl = c))).foldl (fun a q => tryDelete a c q.1) s1
  nvAens 8 c s2

/-- The deallocate attribute of a Dataset Management. -/
def dsmDeallocates (b : List Byte) : Bool := bitOf (sDw b 11) 2

/-- A command of a write class (R339). -/
def writeClass (m : NvCmd) : Bool :=
  decide (m.op = 1) || decide (m.op = 8) || (decide (m.op = 9) && dsmDeallocates m.bytes)

def lbasMeet (a b : List (Nat × Nat)) : Bool :=
  a.any (fun x => b.any (fun y => decide (x.1 < y.1 + y.2) && decide (y.1 < x.1 + x.2)))

/-- No entry fetched earlier for the same volume stands in the way (R339). -/
def nvMayStart (s : State) (tag : Nat) (m : NvCmd) : Bool :=
  !s.nv.cmds.any (fun p => decide (p.1 < tag) && decide (p.2.vol = m.vol) && (writeClass p.2 || writeClass m)
    && lbasMeet p.2.ranges m.ranges)

end Sys2Proof.Machine
end

