-- ==== Sys2Proof/Machine/Nvme.lean ====
section
/-! DEFINITION. The commands of the NVMe emulation (R330-R348): controller registers, doorbells, fetch, admin and I/O commands,
backends, power states, controllers and volumes. -/

namespace Sys2Proof.Machine

/-! ### Controller registers (R331, R348) -/

/-- The configuration is invalid: MPS not 0, IOSQES not 6 or IOCQES not 4. -/
def ccInvalid (cc : U32) : Bool :=
  decide (bitsOf cc.toNat 7 4 ≠ 0) || decide (bitsOf cc.toNat 16 4 ≠ 6) || decide (bitsOf cc.toNat 20 4 ≠ 4)

/-- The admin queues as the registers define them. -/
def adminQueue (x : NvCtrl) (q : NvQ) : NvQ :=
  { ctrl := q.ctrl, sq := q.sq, qid := 0, cq := 0, ien := true
    base := if q.sq then x.asqHi.toNat * 2 ^ 32 + x.asqLo.toNat else x.acqHi.toNat * 2 ^ 32 + x.acqLo.toNat
    size := if q.sq then bitsOf x.aqa.toNat 0 12 + 1 else bitsOf x.aqa.toNat 16 12 + 1 }

/-- CC_EN_SET (R331). -/
def execCcEnSet (c : Fin 256) (cc : U32) (s : State) : Out :=
  .next (match nvCtrl s c with
    | none => s
    | some x =>
      if nvEn x || !fnServes s x.fn || !cc.getLsbD 0 then s
      else if ccInvalid cc then setNv s c { x with cc := cc, cfs := true }
      else
        let s1 := setNv s c { x with cc := cc, rdy := true }
        { s1 with nv := { s1.nv with qs := tmap s1.nv.qs (fun _ q =>
            if q.ctrl = c.val ∧ q.qid = 0 then adminQueue x q else q) } })

/-- CC_EN_CLEAR (R348). -/
def execCcEnClear (c : Fin 256) (s : State) : Out :=
  .next (match nvCtrl s c with
    | none => s
    | some x => if nvEn x && fnServes s x.fn then nvReset s c false else s)

/-- A doorbell or another access to BAR0 meets a power-state transition (R342): an entry is abandoned; an I/O doorbell in PS3
starts the return to the last operational state (one of the admin queues does not, log entry 51). -/
def psTouch (x : NvCtrl) (doorbell : Bool) : NvCtrl :=
  let y : NvCtrl := if x.psTo.isSome && !(decide (x.ps = 3) && decide (x.psTo ≠ some 3)) then { x with psTo := none } else x
  if doorbell && decide (y.ps = 3) && decide (y.psTo = none) then { y with psTo := some y.psOp } else y

/-- A write of another register of a controller; admin queue registers stand while CC.EN is 1. -/
def nvRegister (s : State) (c off : Nat) (w : U32) : State :=
  match nvCtrl s c with
  | none => s
  | some x0 =>
    let x := psTouch x0 false
    if !fnServes s x.fn then s
    else setNv s c (
      if off = 0x0C then { x with intms := x.intms ||| w }
      else if off = 0x10 then { x with intms := x.intms &&& ~~~ w }
      else if off = 0x14 then { x with cc := (w &&& 0xFFFFFFFE#32) ||| (x.cc &&& 1#32) }
      else if nvEn x then x
      else if off = 0x24 then { x with aqa := w &&& 0x0FFF0FFF#32 }
      else if off = 0x28 then { x with asqLo := w &&& 0xFFFFF000#32 }
      else if off = 0x2C then { x with asqHi := w }
      else if off = 0x30 then { x with acqLo := w &&& 0xFFFFF000#32 }
      else if off = 0x34 then { x with acqHi := w }
      else x)

/-! ### Doorbells (R332, R343) -/

/-- A doorbell of a controller that takes doorbells, `y` within the register range. -/
def doorbellOf (s : State) (f y : Nat) : Option (Nat × NvCtrl) :=
  if 128 < y ∨ ¬ fnServes s f then none
  else match nvOfFn s f with
    | none => none
    | some c => (match nvCtrl s c with
      | some x => if x.rdy then some (c, x) else none
      | none => none)

/-- A doorbell of a queue that does not exist. -/
def nvBadDb (s : State) (c : Nat) : State := nvEvent (count s (okey 0x6040 5)) c 0 0x01

/-- NVME_SQ_DOORBELL (R343). -/
def execNvmeSqDoorbell (f : Fin 1028) (y : Nat) (x : U16) (s : State) : Out :=
  .next (match doorbellOf s f y with
    | none => s
    | some (c, k) =>
      let s0 := setNv s c (psTouch k (decide (y ≠ 0)))
      match nvFind s0 c true y with
      | none => nvBadDb s0 c
      | some (i, q) =>
        if q.frozen ∨ k.cfs then s0
        else if q.size ≤ x.toNat ∨ x.toNat = q.head then nvFreeze s0 c i 1 0 x.toNat 0
        else setNvQ s0 i { q with tail := x.toNat })

/-- NVME_CQ_DOORBELL (R343). -/
def execNvmeCqDoorbell (f : Fin 1028) (y : Nat) (x : U16) (s : State) : Out :=
  .next (match doorbellOf s f y with
    | none => s
    | some (c, k) =>
      let s0 := setNv s c (psTouch k (decide (y ≠ 0)))
      match nvFind s0 c false y with
      | none => nvBadDb s0 c
      | some (i, q) =>
        let n := (x.toNat + q.size - q.head) % max 1 q.size
        if q.frozen ∨ k.cfs then s0
        else if q.size ≤ x.toNat ∨ q.used < n then nvFreeze s0 c i 2 0 x.toNat 0
        else nvRetry (setNvQ s0 i { q with head := x.toNat, used := q.used - n }) c)

/-! ### Fetch (R337, R338) -/

/-- Admin opcodes with a row of their own. -/
def adminOps : List Nat := [0x00, 0x01, 0x02, 0x04, 0x05, 0x06, 0x08, 0x09, 0x0A, 0x0C, 0x80]

/-- LBAs of a Read, Write or Write Zeroes. -/
def ioRange (b : List Byte) : Nat × Nat := (sField b 40 8, sDw b 12 % 65536 + 1)

/-- Ranges of a Dataset Management, from its data. -/
def dsmRanges (d : List Byte) (n : Nat) : List (Nat × Nat) :=
  (List.range n).map (fun i => (sField d (16 * i + 8) 8, sField d (16 * i + 4) 4))

/-- An option of a Read, Write or Write Zeroes that R330 does not support is asked for: protection information, storage tag checks,
directives (bits 29:26, 24 and 23:20 of dword 12). -/
def ioOptionBad (b : List Byte) : Bool :=
  let w := sDw b 12
  decide (bitsOf w 26 4 ≠ 0) || bitOf w 24 || (decide (sField b 0 1 ≠ 2) && decide (bitsOf w 20 4 ≠ 0))

/-- The field checks of an I/O command: its status, 0 where it passes, and its ranges. -/
def ioChecks (s : State) (c : Nat) (b : List Byte) : Nat × List (Nat × Nat) × State :=
  let op := sField b 0 1
  if !([0x00, 0x01, 0x02, 0x08, 0x09].contains op) then (nvInvalidOpcode, [], s)
  else if sField b 1 1 ≠ 0 then (nvInvalidField, [], s)
  else match volOf s c (sNsid b) with
    | none => (nvInvalidNs, [], s)
    | some (_, r) =>
      let beyond := fun (l : List (Nat × Nat)) => l.any (fun x => decide (volCapacity r < x.1 + x.2))
      if op = 0 then (0, [], s)
      else if op = 9 then
        let n := sDw b 10 % 256 + 1
        let sp := prpSpans s (nvFn s c) b (16 * n)
        let d := spanRead sp.2 (nvFn s c) sp.1
        let l := dsmRanges d.1 n
        if dsmDeallocates b && volProtected r then (nvWriteProtected, [], d.2)
        else if beyond l then (nvLbaRange, [], d.2) else (0, l, d.2)
      else
        let l := [ioRange b]
        if ioOptionBad b || (decide (op ≠ 8) && decide (1048576 < (ioRange b).2 * lbaSize r)) then (nvInvalidField, [], s)
        else if op ≠ 2 && volProtected r then (nvWriteProtected, [], s)
        else if beyond l then (nvLbaRange, [], s) else (0, l, s)

/-- A fetched I/O command takes its entries, or waits for them at the head of its queue. -/
def ioFetched (s : State) (c i : Nat) (b : List Byte) : State :=
  let k := ioChecks s c b
  let s0 := k.2.2
  let v := match volOf s c (sNsid b) with | some p => p.1 | none => 4096
  let m : NvCmd := { ctrl := c, sq := i, cid := sCid b, op := sField b 0 1, bytes := b, vol := v, ranges := k.2.1 }
  if 16384 < rlockUsed s0 + k.2.1.length then
    (match tget s0.nv.qs i with
     | some q => if q.wait = none then setNvQ (count s0 (okey 0x6040 2)) i { q with wait := some b } else s0
     | none => s0)
  else
    let t := s0.nv.nextTag
    let s1 : State := { s0 with nv := { s0.nv with cmds := tset s0.nv.cmds t m, nextTag := t + 1 } }
    let s2 := modNvQ s1 i (fun q => { q with wait := none })
    if k.1 ≠ 0 then nvFinish s2 t k.1 0
    else if m.op = 9 ∧ !dsmDeallocates b then nvFinish s2 t 0 0 else s2

/-- NVME_COMMAND_FETCH: the scheduler's choice where it is this queue (R337), or the command that waits at its head. -/
def execNvmeCommandFetch (c : Fin 256) (sq : Nat) (s : State) : Out :=
  .next (match nvFind s c true sq with
    | none => s
    | some (i, q) =>
      match q.wait with
      | some b => if q.frozen ∨ s.err.failStop then s else ioFetched s c i b
      | none =>
        match qePick s with
        | none => s
        | some (cl, k, s1) =>
          if k ≠ sqKey q ∨ s.err.failStop ∨ (readTurn s1 (nvFn s c)).isNone then s
          else
            let r := hostRead ((readTurn s1 (nvFn s c)).getD s1) (nvFn s c) (q.base + 64 * q.head) 64
            let q1 : NvQ := { q with head := (q.head + 1) % max 1 q.size }
            let s2 := setNvQ r.2 i q1
            let s3 := if q.qid ≠ 0 then ioFetched s2 c i r.1
              else if adminOps.contains (sField r.1 0 1) then setNvQ s2 i { q1 with entry := some r.1 }
              else (nvPost s2 c i (sCid r.1) nvInvalidOpcode 0 (sNsid r.1)).getD s
            qeSettle s3 cl k (decide (q1.head = q1.tail)))

/-! ### Admin commands -/

/-- Runs the fetched admin command of opcode `op`; its answer is posted, or, where the result is none, comes later. A full
completion queue holds the command. -/
def adminRow (s : State) (c op : Nat) (run : NvCtrl → Nat → List Byte → State × Option (Nat × Nat)) : State :=
  match nvCtrl s c, nvFind s c true 0 with
  | some x, some (i, q) =>
    match q.entry with
    | none => s
    | some b =>
      if sField b 0 1 ≠ op ∨ x.cfs ∨ ¬ x.rdy ∨ ¬ fnIssues s x.fn then s
      else if sField b 1 1 ≠ 0 then
        match nvPost s c i (sCid b) nvInvalidField 0 (sNsid b) with
        | none => s
        | some s1 => modNvQ s1 i (fun y => { y with entry := none })
      else
        let r := run x i b
        let s1 := modNvQ r.1 i (fun y => { y with entry := none })
        match r.2 with
        | none => s1
        | some (st, dw0) => (nvPost s1 c i (sCid b) st dw0 (sNsid b)).getD s
  | _, _ => s

/-- Queue pairs granted (R333, feature 0x07). -/
def nvGranted (x : NvCtrl) : Nat := min x.maxQ (tgetD x.feats 7 (x.maxQ - 1) + 1)

/-- A new I/O queue takes a context (R336). -/
def nvNewQ (s : State) (x : NvCtrl) (q : NvQ) : Option State :=
  if !quotaOk s x.owner 2 then none
  else match allocIndex s 2 with
    | none => none
    | some (i, s1) => some (setNvQ (addUsage (setOwner s1 2 i x.owner) x.owner 2) i q)

/-- A queue identifier that a create cannot take. -/
def qidBad (s : State) (c : Nat) (x : NvCtrl) (sq : Bool) (qid : Nat) : Bool :=
  decide (qid = 0) || decide (nvGranted x < qid) || (nvFind s c sq qid).isSome

def sizeBad (n : Nat) : Bool := decide (n = 0) || decide (4095 < n)

/-- CREATE_IO_CQ (R336). -/
def execCreateIoCq (c : Fin 256) (s : State) : Out :=
  .next (adminRow s c 0x05 (fun x _ b =>
    let qid := sDw b 10 % 65536
    let n := sDw b 10 / 65536
    let vec := sDw b 11 / 65536
    let base := sField b 24 8
    if qidBad s c x false qid then (s, some (nvBadQid, 0))
    else if sizeBad n then (s, some (nvBadSize, 0))
    else if ¬ bitOf (sDw b 11) 0 ∨ base % 4096 ≠ 0 then (s, some (nvInvalidField, 0))
    else if msixSize s x.fn ≤ vec then (s, some (nvBadVector, 0))
    else match nvNewQ s x { ctrl := c, sq := false, qid := qid, base := base, size := n + 1, vector := vec,
                            ien := bitOf (sDw b 11) 1 } with
      | none => (count s (okey 0x6040 4), some (nvBadQid, 0))
      | some s1 => (s1, some (0, 0))))

/-- CREATE_IO_SQ (R336). -/
def execCreateIoSq (c : Fin 256) (s : State) : Out :=
  .next (adminRow s c 0x01 (fun x _ b =>
    let qid := sDw b 10 % 65536
    let n := sDw b 10 / 65536
    let cq := sDw b 11 / 65536
    let base := sField b 24 8
    if cq = 0 ∨ (nvFind s c false cq).isNone then (s, some (nvCqInvalid, 0))
    else if qidBad s c x true qid then (s, some (nvBadQid, 0))
    else if sizeBad n then (s, some (nvBadSize, 0))
    else if ¬ bitOf (sDw b 11) 0 ∨ base % 4096 ≠ 0 then (s, some (nvInvalidField, 0))
    else match nvNewQ s x { ctrl := c, sq := true, qid := qid, base := base, size := n + 1, cq := cq } with
      | none => (count s (okey 0x6040 4), some (nvBadQid, 0))
      | some s1 => (s1, some (0, 0))))

/-- DELETE_IO_SQ: it completes once the queue's fetched commands have ended (R344). -/
def execDeleteIoSq (c : Fin 256) (s : State) : Out :=
  .next (adminRow s c 0x00 (fun _ _ b =>
    let qid := sDw b 10 % 65536
    match (if qid = 0 then none else nvFind s c true qid) with
    | none => (s, some (nvBadQid, 0))
    | some (i, q) =>
      if q.deleting.isSome then (s, some (nvBadQid, 0))
      else if s.nv.cmds.any (fun m => decide (m.2.sq = i)) then (setNvQ s i { q with deleting := some (sCid b), wait := none }, none)
      else (dropNvQ s i true, some (0, 0))))

/-- DELETE_IO_CQ. -/
def execDeleteIoCq (c : Fin 256) (s : State) : Out :=
  .next (adminRow s c 0x04 (fun _ _ b =>
    let qid := sDw b 10 % 65536
    match (if qid = 0 then none else nvFind s c false qid) with
    | none => (s, some (nvBadQid, 0))
    | some (i, _) =>
      if s.nv.qs.any (fun p => decide (p.2.ctrl = c.val) && p.2.sq && decide (p.2.cq = qid)) then (s, some (nvBadDelete, 0))
      else (dropNvQ s i true, some (0, 0))))

/-! ### Log pages (R330, R344) -/

/-- Bytes laid into a zeroed structure of `n` bytes: offset, length and value of each field, little-endian. -/
def nvStruct (n : Nat) (fs : List (Nat × Nat × Nat)) : List Byte :=
  fs.foldl (fun b f => (b.take f.1 ++ leBytes f.2.1 f.2.2 ++ b.drop (f.1 + f.2.1)).take n) (List.replicate n 0)

/-- The version of the running image (R331). -/
def imageVersion (s : State) : Nat := s.boot.version

/-- The SMART / Health page: temperature in kelvin, spare 100 %, host reads and writes. -/
def smartPage (s : State) (x : NvCtrl) : List Byte :=
  nvStruct 512 [(1, 2, (s.clk.therm / 8 + 273).toNat), (3, 1, 100), (64, 16, x.reads), (80, 16, x.writes)]

/-- A log page's whole content. -/
def logPage (s : State) (x : NvCtrl) (lid : Nat) : Option (List Byte) :=
  if lid = 0x01 then some (sliceD x.errs.flatten 0 1024 0)
  else if lid = 0x02 then some (smartPage s x)
  else if lid = 0x03 then some (nvStruct 512 [(0, 1, 1), (8, 8, imageVersion s)])
  else if lid = 0xC0 then
    some (leBytes 4 x.total ++ leBytes 1 x.log.length ++ List.replicate 11 0 ++ sliceD x.log.flatten 0 1024 0)
  else none

/-- GET_LOG_PAGE: reading with RAE clear re-arms the page's event. -/
def execGetLogPage (c : Fin 256) (s : State) : Out :=
  .next (adminRow s c 0x02 (fun x _ b =>
    let lid := sDw b 10 % 256
    let n := (sDw b 10 / 65536 + sDw b 11 % 65536 * 65536 + 1) * 4
    let off := sDw b 12 + sDw b 13 * 2 ^ 32
    match logPage s x lid with
    | none => (s, some (nvInvalidField, 0))
    | some p =>
      if p.length < off ∨ off % 4 ≠ 0 then (s, some (nvInvalidField, 0))
      else
        let s1 := nvAnswer s c b (sliceD p off (min n (p.length - off)) 0)
        let s2 := if bitOf (sDw b 10) 15 then s1
          else nvAens 8 c (modNv s1 c (fun y => { y with masked := y.masked.filter (fun m => decide (m ≠ lid)) }))
        (s2, some (0, 0))))

/-! ### Identify (R331) -/

/-- A power-state descriptor (R341): MP, NOPS, ENLAT, EXLAT. -/
def psDesc (s : State) (k : Nat) : List (Nat × Nat × Nat) :=
  let o := 2048 + 32 * k
  let dflt := [2500, 1200, 600, 100].getD k 0
  [(o, 2, numD s (okey 0x6030 k) dflt), (o + 3, 1, if k = 3 then 2 else 0),
   (o + 4, 4, [0, 5, 20, 200].getD k 0), (o + 8, 4, [0, 5, 50, 1000].getD k 0)]

def identifyCtrl (s : State) (c : Nat) : List Byte :=
  nvStruct 4096 ([(0, 2, recField 16 0 2 Config.hostIds), (2, 2, recField 4 0 2 (numD s (okey 0x5000 3) Config.hostSubsys)),
      (64, 8, imageVersion s), (77, 1, 8), (78, 2, c), (80, 4, 0x00020000), (256, 2, 0x0002), (259, 1, 3), (260, 1, 0x03),
      (262, 1, 15), (263, 1, 3), (265, 1, 1), (512, 1, 0x66), (513, 1, 0x44), (516, 4, 16), (520, 2, 0x000C), (525, 1, 1)]
    ++ (List.range 4).flatMap (psDesc s))

def identifyNs (r : Nat) : List Byte :=
  nvStruct 4096 [(0, 8, volCapacity r), (8, 8, volCapacity r), (16, 8, volCapacity r), (99, 1, bit1 (volProtected r)),
    (120, 8, leNat (beBytes 8 (recField 48 40 8 r))), (130, 1, volLbads r)]

/-- The active namespaces of a controller, in rising order, above `n`. -/
def activeNs (s : State) (c n : Nat) : List Nat :=
  (List.range 17).filter (fun k => decide (n < k) && (volOf s c k).isSome)

/-- IDENTIFY. -/
def execIdentify (c : Fin 256) (s : State) : Out :=
  .next (adminRow s c 0x06 (fun _ _ b =>
    let cns := sDw b 10 % 256
    let ns := sNsid b
    let ok := fun (d : List Byte) => (nvAnswer s c b d, some (0, 0))
    if cns = 0 then
      (if ns = 0 ∨ 16 < ns then (s, some (nvInvalidNs, 0))
       else match volOf s c ns with
         | some (_, r) => ok (identifyNs r)
         | none => ok (List.replicate 4096 0))
    else if cns = 1 then ok (identifyCtrl s c)
    else if cns = 2 then
      (if 0xFFFFFFFE ≤ ns then (s, some (nvInvalidNs, 0))
       else ok (sliceD ((activeNs s c ns).flatMap (leBytes 4)) 0 4096 0))
    else if cns = 3 then
      (match volOf s c ns with
       | some (_, r) => ok (sliceD ([1, 8, 0, 0] ++ beBytes 8 (recField 48 40 8 r)) 0 4096 0)
       | none => (s, some (nvInvalidNs, 0)))
    else (s, some (nvInvalidField, 0))))

/-! ### Abort, features, events -/

/-- A fetched command that waits at the head of its submission queue for range-lock entries (R338). -/
def headWaits (s : State) (c sqid cid : Nat) : Option (Nat × List Byte) :=
  match nvFind s c true sqid with
  | some (i, q) => (match q.wait with | some e => if sCid e = cid then some (i, e) else none | none => none)
  | none => none

/-- That command ends without having taken an entry. -/
def abortHead (s : State) (c i cid : Nat) (e : List Byte) : State :=
  let t := s.nv.nextTag
  let m : NvCmd := { ctrl := c, sq := i, cid := cid, op := sField e 0 1, bytes := e }
  let s1 : State := { s with nv := { s.nv with cmds := tset s.nv.cmds t m, nextTag := t + 1 } }
  nvFinish (modNvQ s1 i (fun q => { q with wait := none })) t nvAborted 0

/-- ABORT (R340). -/
def execAbort (c : Fin 256) (s : State) : Out :=
  .next (adminRow s c 0x08 (fun _ _ b =>
    let sqid := sDw b 10 % 65536
    let cid := sDw b 10 / 65536
    match s.nv.cmds.find? (fun m => decide (m.2.ctrl = c.val) && decide (m.2.cid = cid) && !m.2.started && decide (m.2.cpl = none)
        && (match tget s.nv.qs m.2.sq with | some q => decide (q.qid = sqid) | none => false)) with
    | some m => (nvFinish s m.1 nvAborted 0, some (0, 0))
    | none =>
      match headWaits s c sqid cid with
      | some (i, e) => (abortHead s c i cid e, some (0, 0))
      | none => (s, some (0, 1))))

/-- Features stored as one value. -/
def plainFeatures : List Nat := [0x01, 0x04, 0x06, 0x0B]

/-- The admin command at hand is a Set Features that reads its data from host memory. -/
def adminReads (s : State) (c : Nat) : Bool :=
  match nvFind s c true 0 with
  | some (_, q) => (match q.entry with
    | some b => decide (sField b 0 1 = 0x09) && decide (sDw b 10 % 256 = 0x0C)
    | none => false)
  | none => false

/-- SET_FEATURES (R330, R341). -/
def execSetFeatures (c : Fin 256) (s : State) : Out :=
  .next (withRead s (nvFn s c) (adminReads s c) (fun s => adminRow s c 0x09 (fun x _ b =>
    let fid := sDw b 10 % 256
    let w := sDw b 11
    let keepF := fun (v : Nat) => setNv s c { x with feats := tset x.feats fid v }
    if bitOf (sDw b 10) 31 then (s, some (nvInvalidField, 0))
    else if fid = 0x02 then
      (if 3 < w % 32 then (s, some (nvInvalidField, 0))
       else if w % 32 = x.ps ∧ x.psTo = none then (s, some (0, 0))
       else (setNv s c { x with psTo := some (w % 32) }, some (0, 0)))
    else if fid = 0x07 then
      (if w % 65536 = 65535 ∨ w / 65536 = 65535 then (s, some (nvInvalidField, 0))
       else
         let n := min x.maxQ (min (w % 65536) (w / 65536) + 1)
         (keepF (n - 1), some (0, (n - 1) * 65537)))
    else if fid = 0x08 then (keepF (w % 65536), some (0, 0))
    else if fid = 0x09 then
      (if msixSize s x.fn ≤ w % 65536 then (s, some (nvInvalidField, 0))
       else (setNv s c { x with vecCfg := tset x.vecCfg (w % 65536) (w % 0x20000) }, some (0, 0)))
    else if fid = 0x0C then
      (let sp := prpSpans s x.fn b 256
       let d := spanRead sp.2 x.fn sp.1
       (setNv d.2 c { x with feats := tset x.feats fid (w % 2), apst := d.1 }, some (0, 0)))
    else if plainFeatures.contains fid then (keepF w, some (0, 0))
    else (s, some (nvInvalidField, 0)))))

/-- GET_FEATURES: current values; nothing is saveable, and the default of a feature is 0 but for the queue pairs. -/
def execGetFeatures (c : Fin 256) (s : State) : Out :=
  .next (adminRow s c 0x0A (fun x _ b =>
    let fid := sDw b 10 % 256
    let sel := bitsOf (sDw b 10) 8 3
    let known := [0x01, 0x02, 0x04, 0x06, 0x07, 0x08, 0x09, 0x0B, 0x0C].contains fid
    if !known || decide (3 < sel) then (s, some (nvInvalidField, 0))
    else if sel = 3 then (s, some (0, 4))
    else
      let cur := decide (sel = 0)
      if fid = 0x02 then (s, some (0, if cur then x.ps else 0))
      else if fid = 0x07 then (s, some (0, (if cur then nvGranted x - 1 else x.maxQ - 1) * 65537))
      else if fid = 0x09 then
        let iv := sDw b 11 % 65536
        (s, some (0, if cur then tgetD x.vecCfg iv iv else iv))
      else if fid = 0x0C then
        (nvAnswer s c b (sliceD (if cur then x.apst else []) 0 256 0), some (0, if cur then tgetD x.feats fid 0 else 0))
      else (s, some (0, if cur then tgetD x.feats fid 0 else 0))))

/-- ASYNCHRONOUS_EVENT_REQUEST (R343): at most four wait. -/
def execAsynchronousEventRequest (c : Fin 256) (s : State) : Out :=
  .next (adminRow s c 0x0C (fun x _ b =>
    if 4 ≤ x.aers.length then (s, some (nvAerLimit, 0))
    else (nvAens 8 c (setNv s c { x with aers := x.aers ++ [sCid b] }), none)))

/-- A slot's material is replaced (R335). -/
def rekeySlot (s : State) (slot : Nat) (mat : List Byte) : State :=
  match tget s.vault.slots slot with
  | none => s
  | some k =>
    let sl := tset s.vault.slots slot { k with mat := mat, lost := false }
    { s with vault := { s.vault with slots := sl, sealedDirty := s.vault.sealedDirty || bitOf k.flags 0 } }

/-- FORMAT_NVM (R335). -/
def execFormatNvm (c : Fin 256) (s : State) : Out :=
  .next (adminRow s c 0x80 (fun _ _ b =>
    match volOf s c (sNsid b) with
    | none => (s, some (nvInvalidNs, 0))
    | some (_, r) =>
      if volProtected r then (s, some (nvWriteProtected, 0))
      else if sDw b 10 % 16 ≠ 0 then (s, some (nvBadFormat, 0))
      else if bitsOf (sDw b 10) 4 5 ≠ 0 then (s, some (nvInvalidField, 0))
      else
        let d := drawTrng s 512
        (rekeySlot d.2 (volSlot r) (beBytes 64 d.1), some (0, 0))))

/-! ### I/O commands -/

/-- Changes a command of a controller that has not run its own row yet. -/
def ioRow (s : State) (c tag op : Nat) (run : NvCmd → Nat → State) : State :=
  match tget s.nv.cmds tag with
  | none => s
  | some m =>
    if m.ctrl ≠ c ∨ m.op ≠ op ∨ m.ready ∨ m.cpl.isSome ∨ s.err.failStop then s
    else run m (volRec s m.vol)

def setCmd (s : State) (tag : Nat) (m : NvCmd) : State := { s with nv := { s.nv with cmds := tset s.nv.cmds tag m } }

/-- NVME_FLUSH: it may go to its backend when every earlier write-class command of the volume has completed (R339). -/
def execNvmeFlush (c : Fin 256) (tag : Nat) (s : State) : Out :=
  .next (ioRow s c tag 0x00 (fun m _ =>
    if s.nv.cmds.any (fun p => decide (p.1 < tag) && decide (p.2.vol = m.vol) && writeClass p.2) then s
    else setCmd s tag { m with ready := true }))

/-- Data of a command go encrypted into a backend buffer. -/
def bufferWrite (s : State) (tag : Nat) (m : NvCmd) (r : Nat) (data : List Byte) (n : Nat) : State :=
  match volKeyMat s r with
  | none => nvFinish s tag nvInternal 0
  | some key =>
    match allocBuf s (n * lbaSize r) with
    | none => s
    | some a =>
      let ct := xtsRun Config.xtsEncrypt key (lbaSize r) (sField m.bytes 40 8) n data
      setCmd (writeInt s a ct) tag { m with ready := true, buffer := a, len := n * lbaSize r }

/-- NVME_WRITE: the data are read by PRP and encrypted (R330, R335); a PRP list that cannot be read ends the command. -/
def execNvmeWrite (c : Fin 256) (tag : Nat) (prpOk : Bool) (s : State) : Out :=
  .next (ioRow s c tag 0x01 (fun m r =>
    if !prpOk then nvFinish s tag nvDataTransfer 0
    else if !fnIssues s (nvFn s c) || fnHeld s (nvFn s c) then s
    else withRead s (nvFn s c) true (fun s1 =>
      let n := (ioRange m.bytes).2
      let sp := prpSpans s1 (nvFn s c) m.bytes (n * lbaSize r)
      let d := spanRead sp.2 (nvFn s c) sp.1
      bufferWrite d.2 tag m r d.1 n)))

/-- NVME_READ: host memory and a backend buffer are made ready. -/
def execNvmeRead (c : Fin 256) (tag : Nat) (prpOk : Bool) (s : State) : Out :=
  .next (ioRow s c tag 0x02 (fun m r =>
    if !prpOk then nvFinish s tag nvDataTransfer 0
    else if !fnIssues s (nvFn s c) || fnHeld s (nvFn s c) then s
    else withRead s (nvFn s c) (prpReads m.bytes ((ioRange m.bytes).2 * lbaSize r)) (fun s1 =>
      let n := (ioRange m.bytes).2 * lbaSize r
      let sp := prpSpans s1 (nvFn s c) m.bytes n
      match volKeyMat s r with
      | none => nvFinish s tag nvInternal 0
      | some _ => match allocBuf sp.2 n with
        | none => s
        | some a => setCmd sp.2 tag { m with ready := true, buffer := a, len := n, spans := sp.1 })))

/-- WRITE_ZEROES writes encrypted zeros over its whole range. -/
def execWriteZeroes (c : Fin 256) (tag : Nat) (s : State) : Out :=
  .next (ioRow s c tag 0x08 (fun m r =>
    let n := (ioRange m.bytes).2
    bufferWrite s tag m r (List.replicate (n * lbaSize r) 0) n))

/-- The range list that an SSD reads: backend LBAs (R345). -/
def dsmList (r : Nat) (l : List (Nat × Nat)) : List Byte :=
  l.flatMap (fun x => leBytes 4 0 ++ leBytes 4 x.2 ++ leBytes 8 (volOffset r + x.1))

/-- DATASET_MANAGEMENT deallocates its ranges at the backend; an SSD reads them from a backend buffer. -/
def execDatasetManagement (c : Fin 256) (tag : Nat) (prpOk : Bool) (s : State) : Out :=
  .next (ioRow s c tag 0x09 (fun m r =>
    if !prpOk then nvFinish s tag nvDataTransfer 0
    else if volBackend r ≠ 1 then setCmd s tag { m with ready := true }
    else match allocBuf s (16 * m.ranges.length) with
      | none => s
      | some a => setCmd (writeInt s a (dsmList r m.ranges)) tag
          { m with ready := true, buffer := a, len := 16 * m.ranges.length }))

/-! ### Backends (R345-R347) -/

/-- NVME_BACKEND_RING of a ring: request base, response base, log2 entries, interrupt identity. -/
def bringRec (s : State) (k : Nat) : Nat := numD s (okey 0x6010 k) 0
def bringReq (r : Nat) : Nat := recField 20 0 8 r
def bringResp (r : Nat) : Nat := recField 20 8 8 r
def bringSize (r : Nat) : Nat := 2 ^ recField 20 16 1 r
def bringIrq (r : Nat) : Nat := recField 20 17 2 r
def bringSet (r : Nat) : Bool := decide (6 ≤ recField 20 16 1 r) && decide (recField 20 16 1 r ≤ 12)

/-- The opcode at the backend: Write Zeroes writes the encrypted zeros of its buffer (R330). -/
def sentOp (m : NvCmd) : Nat := if m.op = 8 then 1 else m.op

/-- A request entry (R346). -/
def ringRequest (phase : Bool) (tag : Nat) (m : NvCmd) (r slba nlb digest : Nat) : List Byte :=
  leBytes 1 (bit1 phase * 128 + bit1 (decide (sentOp m = 1))) ++ leBytes 1 (sentOp m) ++ leBytes 2 m.vol ++ leBytes 4 tag ++ leBytes 8 slba
    ++ leBytes 4 nlb ++ leBytes 4 (volBackendId r) ++ leBytes 8 m.buffer ++ leBytes 4 m.len ++ leBytes 4 digest
    ++ List.replicate 24 0

/-- Ranges that a command sends to its backend, one request each. -/
def sentRanges (m : NvCmd) : List (Nat × Nat) := if m.op = 9 then m.ranges else if m.op = 0 then [(0, 0)] else [ioRange m.bytes]

/-- Posts requests into a backend ring. -/
def postRing (tag : Nat) (m : NvCmd) (r digest : Nat) : State → List (Nat × Nat) → State
  | s, [] => s
  | s, x :: rest =>
    let k := volWhere r
    let g := tgetD s.nv.rings k {}
    let c := bringRec s k
    let s1 := writeInt s (bringReq c + 64 * g.reqPos) (ringRequest g.reqPhase tag m r x.1 x.2 digest)
    let p := (g.reqPos + 1) % bringSize c
    let g1 : BRing := { g with reqPos := p, reqPhase := if p = 0 then !g.reqPhase else g.reqPhase }
    let s2 : State := { s1 with nv := { s1.nv with rings := tset s1.nv.rings k g1 } }
    postRing tag m r digest (steppeIrq s2 (bringIrq c)) rest

/-- Requests in a ring that have no response yet. -/
def ringOpen (s : State) (k : Nat) : Nat :=
  (s.nv.cmds.filter (fun m => m.2.started && decide (volBackend (volRec s m.2.vol) = 2) && decide (volWhere (volRec s m.2.vol) = k))).foldl
    (fun n m => n + m.2.left) 0

/-- The command sent to an SSD: the backend LBA is offset plus the volume LBA (R345). -/
def ssdCommand (tag : Nat) (m : NvCmd) (r : Nat) : List Byte :=
  leBytes 1 (sentOp m) ++ leBytes 1 0 ++ leBytes 2 tag ++ leBytes 4 (volBackendId r) ++ List.replicate 16 0 ++ leBytes 8 m.buffer
    ++ List.replicate 8 0
    ++ (if m.op = 0 ∨ m.op = 9 then (m.bytes.drop 40).take 24
        else leBytes 8 (volOffset r + (ioRange m.bytes).1) ++ leBytes 4 (if m.op = 8 then putBit (sDw m.bytes 12) 25 false else sDw m.bytes 12)
          ++ (m.bytes.drop 52).take 12)

/-- Commands that a queue pair of an SSD takes at once: one less than its entries (R345, log entry 51). -/
def pairDepth (d : Ssd) : Nat := min 1024 (d.mqes + 1) - 1

/-- Commands started on a pair of the SSD at port `p` and not answered. -/
def pairOpen (s : State) (p k : Nat) : Nat :=
  (s.nv.cmds.filter (fun m => m.2.started && decide (m.2.cpl = none) && decide (volBackend (volRec s m.2.vol) = 1)
    && decide (volWhere (volRec s m.2.vol) = p) && decide (m.2.pair = k))).length

/-- NVME_BACKEND_START (R339). -/
def execNvmeBackendStart (tag : Nat) (s : State) : Out :=
  .next (match tget s.nv.cmds tag with
    | none => s
    | some m =>
      let r := volRec s m.vol
      if !m.ready || m.started || m.cpl.isSome || !nvMayStart s tag m || s.err.failStop then s
      else if volBackend r = 2 then
        let k := volWhere r
        let l := sentRanges m
        if !bringSet (bringRec s k) || decide (bringSize (bringRec s k) < ringOpen s k + l.length) then s
        else
          let d := if sentOp m = 1 then (crc32c (readInt s m.buffer m.len)).toNat else 0
          postRing tag m r d (setCmd s tag { m with started := true, pair := k, left := l.length }) l
      else match tget s.nv.ssds (volWhere r) with
        | none => s
        | some d =>
          if d.pairs = 0 ∨ pairDepth d ≤ pairOpen s (volWhere r) (m.ctrl % d.pairs) then s
          else
            let s1 := setCmd s tag { m with started := true, pair := m.ctrl % d.pairs, left := 1 }
            { s1 with nv := { s1.nv with sent := keep 8 ((volWhere r, ssdCommand tag m r) :: s1.nv.sent) } })

/-- The next response of a backend ring, when it carries `tag`: the ring and its status. -/
def ringResponse (s : State) (tag : Nat) : Option (Nat × Nat) :=
  (List.range 16).findSome? (fun k =>
    let c := bringRec s k
    let g := tgetD s.nv.rings k {}
    let e := readInt s (bringResp c + 16 * g.respPos) 16
    if bringSet c && decide (bitOf (sField e 0 1) 7 = g.respPhase) && decide (sField e 4 4 = tag) then some (k, sField e 2 2)
    else none)

/-- The response is taken from its ring. -/
def takeResponse (s : State) (k : Nat) : State :=
  let g := tgetD s.nv.rings k {}
  let p := (g.respPos + 1) % bringSize (bringRec s k)
  { s with nv := { s.nv with rings := tset s.nv.rings k { g with respPos := p, respPhase := if p = 0 then !g.respPhase else g.respPhase } } }

/-- The host sees an SSD's status unchanged, but for statuses of the controller's own (command specific or vendor specific). -/
def ssdStatus (st : Nat) : Nat := if bitsOf st 8 3 = 1 ∨ bitsOf st 8 3 = 7 then nvInternal else st

/-- A backend has answered: a read's data are decrypted into host memory, and the command completes. -/
def nvAnswered (s : State) (tag : Nat) (m : NvCmd) (st : Nat) : State :=
  if 1 < m.left ∧ st = 0 then setCmd s tag { m with left := m.left - 1 }
  else
    let r := volRec s m.vol
    if st = 0 ∧ m.op = 2 then
      match volKeyMat s r with
      | none => nvFinish s tag nvInternal 0
      | some key =>
        let pt := xtsRun Config.xtsDecrypt key (lbaSize r) (ioRange m.bytes).1 (ioRange m.bytes).2 (readInt s m.buffer m.len)
        let s1 := spanWrite s (nvFn s m.ctrl) m.spans pt
        nvFinish (modNv s1 m.ctrl (fun x => { x with reads := x.reads + 1 })) tag 0 0
    else nvFinish (if st = 0 ∧ m.op = 1 then modNv s m.ctrl (fun x => { x with writes := x.writes + 1 }) else s) tag st 0

/-- BACKEND_RESPONSE: the next response of a ring, or an SSD's answer with the data it wrote into the buffer; one without a command is late
(R346, R347). -/
def execBackendResponse (tag : Nat) (status : U16) (data : List Byte) (s : State) : Out :=
  .next (
    let late := fun (a : State) => count a (okey 0x6040 6)
    match tget s.nv.cmds tag with
    | some m =>
      if !m.started || m.cpl.isSome then s
      else if volBackend (volRec s m.vol) = 2 then
        (match ringResponse s tag with
         | none => s
         | some (k, st) => nvAnswered (takeResponse s k) tag m st)
      else
        let s1 := if m.op = 2 then writeInt s m.buffer (sliceD data 0 m.len 0) else s
        nvAnswered s1 tag m (ssdStatus status.toNat)
    | none =>
      match ringResponse s tag with
      | some (k, _) => late (takeResponse s k)
      | none => if tag < s.nv.nextTag then late s else s)

/-- RLOCK_WAIT_LIMIT (R339): a command that waits for its start completes with Command Interrupted. -/
def execRlockWaitLimit (tag : Nat) (s : State) : Out :=
  .next (match tget s.nv.cmds tag with
    | none => s
    | some m =>
      if m.started || m.cpl.isSome || nvMayStart s tag m then s
      else nvFinish (count s (okey 0x6040 3)) tag nvInterrupted 0)

/-- NVME_BACKEND_TIMEOUT (R347). -/
def execNvmeBackendTimeout (tag : Nat) (s : State) : Out :=
  .next (match tget s.nv.cmds tag with
    | none => s
    | some m => if m.started && decide (m.cpl = none) then nvFinish s tag nvTransport 0 else s)

/-- NVME_CQ_FULL_LIMIT (R343): results of a frozen queue's commands are then discarded. -/
def execNvmeCqFullLimit (c : Fin 256) (cq : Nat) (s : State) : Out :=
  .next (match nvFind s c false cq with
    | none => s
    | some (i, q) => if q.used + 1 < q.size ∨ q.size = 0 then s else nvRetry (nvFreeze s c i 4 0 0 0) c)

/-- NVME_SQ_READ_FAILED (R343): the read of the entry at the fetch point times out, or fails. -/
def execNvmeSqReadFailed (c : Fin 256) (sq : Nat) (timeout : Bool) (s : State) : Out :=
  .next (match nvFind s c true sq with
    | none => s
    | some (i, q) =>
      if sqEligible s q then nvFreeze s c i 3 (statusCode (if timeout then .timeout else .access)) 0 (q.base + 64 * q.head) else s)

/-! ### Power states (R341, R342) -/

/-- The controller has no outstanding command and no unfetched entry. -/
def nvIdle (s : State) (c : Nat) : Bool :=
  !s.nv.cmds.any (fun m => decide (m.2.ctrl = c))
  && !s.nv.qs.any (fun q => decide (q.2.ctrl = c) && q.2.sq && (decide (q.2.head ≠ q.2.tail) || q.2.entry.isSome))

/-- AUTONOMOUS_POWER_STATE_TRANSITION: the table's entry for the current state names the state entered. -/
def execAutonomousPowerStateTransition (c : Fin 256) (ps : Fin 4) (s : State) : Out :=
  .next (match nvCtrl s c with
    | none => s
    | some x =>
      let e := sField x.apst (8 * x.ps) 8
      if x.rdy && decide (tgetD x.feats 0x0C 0 = 1) && decide (x.psTo = none) && nvIdle s c && decide (bitsOf e 3 5 = ps.val)
          && decide (bitsOf e 8 24 ≠ 0) then
        setNv s c { x with psTo := some ps.val }
      else s)

/-- POWER_STATE_TRANSITION_DONE. -/
def execPowerStateTransitionDone (c : Fin 256) (s : State) : Out :=
  .next (match nvCtrl s c with
    | none => s
    | some x =>
      match x.psTo with
      | none => s
      | some p => setNv s c { x with ps := p, psTo := none, psOp := if p = 3 then x.psOp else p })

/-! ### Controllers and volumes (R333, R334) -/

/-- The function lies in the PF2 range. -/
def inPf2 (s : State) (f : Nat) : Bool := decide (f < 4 + totalVfs s 1 + totalVfs s 2 + totalVfs s 3) && decide (f ≠ 0) && decide (pfOf s f = 2)

def ncFn (r : Nat) : Nat := recField 8 0 2 r
def ncOwner (r : Nat) : Handle := BitVec.ofNat 32 (recField 8 4 4 r)

def nvmeCtrlCreateOp (who : Who) (r : Rec 8) : DictOp where
  status := fun s =>
    let f := ncFn r.toNat
    let o := ncOwner r.toNat
    let n := recField 8 2 1 r.toNat
    firstStatus (baseChecks s (isO who) ++ ownerChecks s o ++
      [(.range, !inPf2 s f || (nvOfFn s f).isSome || decide (o ≠ fnOwner s f) || (decide (4 ≤ f) && !vfAssigned s (f - 4))
          || decide (n < 1) || decide (128 < n)),
       (.noResource, !quotaOk s o 4 || !hasFree s 4
          || (decide (o ≠ 0) && decide (quotaOf s (hIdx o) 2 < usageOf s (hIdx o) 2 + 2))
          || (match allocIndex s 2 with | some p => !hasFree p.2 2 | none => true))])
  effect := fun s =>
    match allocIndex s 4 with
    | none => (s, [])
    | some (c, s1) =>
      let o := ncOwner r.toNat
      let x : NvCtrl := { fn := ncFn r.toNat, maxQ := recField 8 2 1 r.toNat, owner := o }
      let s2 := setNv (addUsage (setOwner s1 4 c o) o 4) c x
      let s3 := (nvNewQ s2 x { ctrl := c, sq := true, qid := 0, base := 0, size := 0 }).getD s2
      let s4 := (nvNewQ s3 x { ctrl := c, sq := false, qid := 0, base := 0, size := 0 }).getD s3
      (s4, beBytes 4 (handleOf s4 4 c).toNat)

/-- NVME_CTRL_CREATE (R333). -/
def execNvmeCtrlCreate (who : Who) (r : Rec 8) (s : State) : Out := .next (runOp (nvmeCtrlCreateOp who r) s)

/-- A controller is freed: reset as for CC.EN = 0, its contexts freed, its volumes detached. `h`: its handle until now;
`bump`: the generations of its contexts rise now. -/
def freeCtrl (s : State) (c : Nat) (h : Handle) (bump : Bool) : State :=
  match nvCtrl s c with
  | none => s
  | some _ =>
    let s1 := nvReset s c true
    let s2 := (s1.nv.qs.filter (fun p => decide (p.2.ctrl = c))).foldl (fun a p => dropNvQ a p.1 bump) s1
    let s3 := (volsListed s2).foldl (fun a p =>
      if volCtrl p.2 = h then setNum a (volKey p.1) (recSet 48 4 4 p.2 0) else a) s2
    let s4 : State := { s3 with nv := { s3.nv with ctrls := terase s3.nv.ctrls c } }
    endObj s4 4 c

def nvmeCtrlDestroyOp (who : Who) (h : Handle) : DictOp where
  status := fun s => firstStatus (baseChecks s (isO who) ++ destroyChecks s h 4)
  effect := fun s => (freeCtrl (bumpGen s 4 (hIdx h)) (hIdx h) h true, [])

/-- NVME_CTRL_DESTROY (R333). -/
def execNvmeCtrlDestroy (who : Who) (h : Handle) (s : State) : Out := .next (runOp (nvmeCtrlDestroyOp who h) s)

/-- The two halves of an XTS key agree in every bit. -/
def halvesEqual (mat : List Byte) : Bool := decide (mat.take 32 = (mat.drop 32).take 32)

/-- The key slot suits the volume. -/
def volSlotBad (s : State) (r : Nat) : Bool :=
  match tget s.vault.slots (volSlot r) with
  | none => true
  | some k => decide (k.kind ≠ 2) || decide (k.owner ≠ volOwner r) || (!k.lost && halvesEqual k.mat)

/-- A record names a controller that runs. -/
def volRuns (s : State) (r : Nat) : Bool :=
  volUsed r && decide (volCtrl r ≠ 0) && handleCurrent s (volCtrl r) &&
    (match nvCtrl s (hIdx (volCtrl r)) with | some x => nvEn x | none => false)

/-- The namespace on the SSD of a local volume: lbads and LBAs. -/
def volSsd (s : State) (r : Nat) : Option (Nat × Nat) :=
  (tget s.nv.ssds (volWhere r)).bind (fun d => tget d.nss (volBackendId r))

/-- Two local volumes share blocks of an SSD namespace. -/
def volOverlaps (r q : Nat) : Bool :=
  decide (volBackend q = 1) && decide (volWhere q = volWhere r) && decide (volBackendId q = volBackendId r)
    && decide (volOffset q < volOffset r + volCapacity r) && decide (volOffset r < volOffset q + volCapacity q)

/-- A volume record as it is taken: reserved bits zero (R10). -/
def volIn (r : Nat) : Nat := recClear 48 [(15, 1), (28, 4)] (recFlags 48 11 1 r)

def volRangeBad (s : State) (v r : Nat) : Bool :=
  let others := (volsListed s).filter (fun p => decide (p.1 ≠ v))
  let c := volCtrl r
  decide (volNsid r < 1) || decide (16 < volNsid r) || (decide (volLbads r ≠ 9) && decide (volLbads r ≠ 12))
  || (decide (volBackend r ≠ 1) && decide (volBackend r ≠ 2))
  || (if volBackend r = 1 then !([1, 3, 5, 7].contains (volWhere r)) else decide (15 < volWhere r) || decide (volOffset r ≠ 0))
  || decide (volCapacity r = 0)
  || (decide (c ≠ 0) && !handleFits c 4)
  || (decide (c ≠ 0) && handleFits c 4 && objLive s c && decide (ownerOf s 4 (hIdx c) ≠ some (volOwner r)))
  || (decide (c ≠ 0) && others.any (fun p => decide (volCtrl p.2 = c) && decide (volNsid p.2 = volNsid r)))
  || volSlotBad s r
  || (decide (volBackend r = 1) && (match volSsd s r with
      | some d => decide (d.1 ≠ volLbads r) || decide (d.2 < volOffset r + volCapacity r)
      | none => false))
  || (decide (volBackend r = 1) && others.any (fun p => volOverlaps r p.2))

def nvmeVolOp (who : Who) (v : Fin 4096) (r : Rec 48) : DictOp where
  status := fun s =>
    let n := r.toNat
    let o := volOwner n
    let c := volCtrl n
    let old := volRec s v
    firstStatus (baseChecks s (isO who) ++ (if volUsed n then ownerChecks s o else []) ++
      [(.staleHandle, volUsed n && handleStale s c),
       (.range, volUsed n && volRangeBad s v n),
       (.notReady, volRuns s old || volRuns s n
          || (volUsed n && decide (volBackend n = 1) && (volSsd s n).isNone))])
  effect := fun s => (persist (setNum s (volKey v) (volIn r.toNat)) (volKey v), [])

/-- NVME_VOL (R334). -/
def execNvmeVolWrite (who : Who) (v : Fin 4096) (r : Rec 48) (s : State) : Out := .next (runOp (nvmeVolOp who v r) s)

/-- SSD_ENUMERATED (R345): the backend sets up as many pairs as the SSD grants, at most 8. -/
def execSsdEnumerated (p : Fin 8) (nsid : U32) (lbads : U8) (lbas : U64) (mqes : U16) (granted : Nat) (s : State) : Out :=
  .next (if p.val % 2 = 0 ∨ ¬ (tgetD s.saddle.ports p {}).link ∨ s.err.failStop then s
    else
      let d := tgetD s.nv.ssds p {}
      let d1 : Ssd := { d with nss := tset d.nss nsid.toNat (lbads.toNat, lbas.toNat), mqes := mqes.toNat, pairs := min 8 granted }
      { s with nv := { s.nv with ssds := tset s.nv.ssds p.val d1 } })

/-- A Saddle port reset ends the commands outstanding on its SSD (R345), which must be enumerated again. -/
def ssdLost (s : State) (p : Nat) : State :=
  let gone := s.nv.cmds.filter (fun m => m.2.started && decide (volBackend (volRec s m.2.vol) = 1)
    && decide (volWhere (volRec s m.2.vol) = p) && decide (m.2.cpl = none))
  let s1 := gone.foldl (fun a m => nvFinish a m.1 nvTransport 0) s
  { s1 with nv := { s1.nv with ssds := terase s1.nv.ssds p } }

end Sys2Proof.Machine
end

