-- ==== Sys2Proof/Machine/Qe.lean ====
section
/-! DEFINITION. The commands of the queue engine (R305-R327): the command block, doorbells, descriptor fetch and start, receive
delivery, control copies, completion timers, failed reads. -/

namespace Sys2Proof.Machine

/-! ### The command block (R307-R310) -/

def blkOf (s : State) (f : Nat) : QeBlk := tgetD s.qe.blks f {}
def setBlk (s : State) (f : Nat) (b : QeBlk) : State := { s with qe := { s.qe with blks := tset s.qe.blks f b } }

/-- The function has a queue-engine block (R307): PF0, PF1, PF3 and the virtual functions of PF1 and PF3. -/
def hasQe (s : State) (f : Nat) : Bool := decide (pfOf s f ≠ 2)

/-- LQ_LIMIT (R306). -/
def lqLimit (f : Nat) : Nat := if f = 0 then 64 else if f < 4 then 4096 else 256

/-- Bytes of the command buffer. -/
def cmdField (b : QeBlk) (off n : Nat) : Nat := beNat ((List.range n).map (fun i => tgetD b.cmd (off + i) 0))

/-- The command at hand completes (R308). -/
def qeDone (s : State) (f : Nat) (st : Status) (g : QeBlk → QeBlk) : State :=
  let b := blkOf s f
  setBlk s f (if st = .ok then g { b with go := false, done := true, status := 0 }
              else { b with go := false, done := true, status := statusCode st })

/-- Runs the command of opcode `op` when it is the one handed over and the function serves. -/
def qeCmd (s : State) (f op : Nat) (run : QeBlk → State) : State :=
  let b := blkOf s f
  if b.go && decide (b.opcode = op) && hasQe s f && fnServes s f then run b else s

/-- Writes to the command buffer while GO is 1 are discarded. -/
def qeCmdByte (s : State) (f off : Nat) (x : Byte) : State :=
  let b := blkOf s f
  if b.go || decide (64 ≤ off) || !fnServes s f || !hasQe s f then s else setBlk s f { b with cmd := tset b.cmd off x }

/-- The control word: OPCODE is taken while GO is 0, DONE clears when written as 1, GO is set unless DONE stands. An opcode
of no command completes with RANGE. -/
def qeControl (s : State) (f : Nat) (w : U32) : State :=
  let b := blkOf s f
  if !fnServes s f || !hasQe s f then s
  else
    let b1 : QeBlk := { b with done := b.done && !w.getLsbD 30, opcode := if b.go then b.opcode else w.toNat % 256 }
    if w.getLsbD 31 && !b1.go && !b1.done then
      let b2 : QeBlk := { b1 with go := true }
      if 1 ≤ b2.opcode ∧ b2.opcode ≤ 5 then setBlk s f b2 else qeDone (setBlk s f b2) f .range id
    else setBlk s f b1

/-- The vector of a queue is none or within the function's table (R291). -/
def vectorOk (s : State) (f vec : Nat) : Bool := decide (vec = 0xFFFF) || decide (vec < msixSize s f)

/-- A CREATE record out of range (R310). -/
def createBad (s : State) (f : Nat) (b : QeBlk) : Bool :=
  let g := cmdField b
  let ty := g 0 1
  !(if f = 0 then decide (ty = 3) else decide (ty = 1) || decide (ty = 2))
  || decide (1 < g 1 1) || (decide (ty ≠ 1) && decide (g 1 1 ≠ 0))
  || decide (g 2 1 < 6) || decide (15 < g 2 1) || decide (g 3 1 < 6) || decide (15 < g 3 1)
  || decide (g 8 8 % 4096 ≠ 0) || decide (g 16 8 % 4096 ≠ 0)
  || !vectorOk s f (g 24 2) || decide (g 27 1 = 0) || decide (g 30 2 < 1) || decide (256 < g 30 2)

/-- The engine's offer (R311). -/
def qeOffer : List (Nat × Nat) := [(1, 0), (2, 1), (3, 0)]

/-- The lowest free local number (R306). -/
def freeLq (s : State) (f : Nat) : Option Nat := (List.range (lqLimit f)).find? (fun n => (lqCtx s f n).isNone)

/-- A new context (R312). -/
def newCtx (f lq : Nat) (b : QeBlk) (ver : Nat × Nat) : QCtx :=
  let g := cmdField b
  { type := g 0 1, fn := f, lq := lq, vale := g 1 1, logRing := g 2 1, logCpl := g 3 1, major := ver.1, minor := ver.2,
    ring := g 8 8, cpl := g 16 8, vector := g 24 2, coalCount := g 26 1, coalUsec := g 28 2, weight := g 27 1, burst := g 30 2 }

/-- CREATE (R310). -/
def execQeCreate (f : Fin 1028) (s : State) : Out :=
  .next (qeCmd s f 1 (fun b =>
    let g := cmdField b
    let o := fnOwner s f
    let ver := negotiate [(g 4 1, g 5 1), (g 6 1, g 7 1)] qeOffer
    let st := firstStatus [(.version, ver.isNone), (.range, createBad s f b),
      (.noResource, !quotaOk s o 2 || !hasFree s 2 || (freeLq s f).isNone)]
    if st ≠ .ok then qeDone s f st id
    else match allocIndex s 2, freeLq s f, ver with
      | some (i, s1), some lq, some vr =>
        let s2 := setCtx (addUsage (setOwner s1 2 i o) o 2) i (newCtx f lq b vr)
        qeDone s2 f .ok (fun x => { x with handle := handleOf s2 2 i, selMajor := vr.1, selMinor := vr.2, lq := lq })
      | _, _, _ => s))

/-- The context a command names (R309). -/
def cmdCtx (s : State) (f : Nat) (b : QeBlk) : Option (Nat × QCtx) := lqCtx s f (cmdField b 0 2)

/-- Runs a command on the queue it names; RANGE where there is none. -/
def onCtx (s : State) (f : Nat) (b : QeBlk) (checks : QCtx → List (Status × Bool)) (run : Nat → QCtx → State) : State :=
  match cmdCtx s f b with
  | none => qeDone s f .range id
  | some (i, q) =>
    match firstStatus (checks q) with
    | .ok => run i q
    | st => qeDone s f st id

/-- A context as after CREATE, or as Idle: counts zero, phase 1, nothing cached or started. -/
def emptyCtx (q : QCtx) (st : QSt) (ring cpl : Nat) : QCtx :=
  { type := q.type, fn := q.fn, lq := q.lq, vale := q.vale, logRing := q.logRing, logCpl := q.logCpl, major := q.major,
    minor := q.minor, ring := ring, cpl := cpl, vector := q.vector, coalCount := q.coalCount, coalUsec := q.coalUsec,
    weight := q.weight, burst := q.burst, st := st }

/-- ARM (R309). -/
def execQeArm (f : Fin 1028) (s : State) : Out :=
  .next (qeCmd s f 2 (fun b =>
    let ring := cmdField b 8 8
    let cpl := cmdField b 16 8
    onCtx s f b (fun q => [(.range, decide (ring % 4096 ≠ 0) || decide (cpl % 4096 ≠ 0)),
        (.notReady, decide (q.st ≠ .idle))])
      (fun i q => qeDone (setCtx s i (emptyCtx q .running ring cpl)) f .ok id)))

/-- A context becomes Free; `bump`: its generation rises now. -/
def dropCtx (s : State) (i : Nat) (bump : Bool) : State :=
  freeContext { s with qe := { s.qe with ctx := terase s.qe.ctx i, qDef := terase s.qe.qDef i } } i bump

/-- DESTROY (R309). -/
def execQeDestroy (f : Fin 1028) (s : State) : Out :=
  .next (qeCmd s f 3 (fun b =>
    onCtx s f b (fun q => [(.notReady, decide (q.st ≠ .idle))]) (fun i _ => qeDone (dropCtx s i true) f .ok id)))

/-- The five counts of QUERY (R309). -/
def ctxCounts (q : QCtx) : List Byte :=
  beBytes 2 q.door ++ beBytes 2 q.oldest ++ beBytes 2 q.fetched ++ beBytes 2 q.written ++ beBytes 2 q.consumed

def qStCode : QSt → Nat
  | .free => 0 | .running => 1 | .idle => 2 | .halted => 3

/-- QUERY (R309). -/
def execQeQuery (f : Fin 1028) (s : State) : Out :=
  .next (qeCmd s f 5 (fun b =>
    onCtx s f b (fun _ => []) (fun i q =>
      let r := beBytes 4 (handleOf s 2 i).toNat ++ beBytes 1 (qStCode q.st) ++ beBytes 1 q.major ++ beBytes 1 q.minor ++ [0]
        ++ ctxCounts q
      qeDone s f .ok (fun x => { x with result := r }))))

/-! ### Doorbells (R314) -/

/-- Positions from the next one to start up to the doorbell. -/
def waitingPos (q : QCtx) : List Nat := (List.range (cdiff q.door q.startPos)).map (fun i => (q.startPos + i) % 65536)

/-- The positions that the next ring read covers: from the first one not cached, as far as the cache has room, the ring runs on and
nothing cached stands in the way. -/
def fetchRun (q : QCtx) : List Nat :=
  let have_ := fun (p : Nat) => q.cache.any (fun d => decide (d.1 = p))
  let rest := (waitingPos q).dropWhile have_
  match rest with
  | [] => []
  | p :: _ => (rest.takeWhile (fun x => !have_ x)).take (min (8 - q.cache.length) (ringSize q - p % ringSize q))

/-- A read of the ring is asked for when descriptors can be fetched and none is under way (R315). -/
def askFetch (s : State) (i : Nat) : State :=
  match ctxOf s i with
  | none => s
  | some q =>
    match fetchRun q with
    | [] => s
    | p :: ps =>
      if q.st ≠ .running ∨ q.ringRead.isSome then s
      else hostReadReq (setCtx s i { q with ringRead := some (p, ps.length + 1) }) q.fn (q.ring + 64 * (p % ringSize q))
        (64 * (ps.length + 1))

/-- INVALIDATE drops cached descriptors that are not started, and they are fetched again (R315). -/
def execQeInvalidate (f : Fin 1028) (s : State) : Out :=
  .next (qeCmd s f 4 (fun b =>
    let first := cmdField b 4 2
    let n := cmdField b 6 2
    let named := fun (p : Nat) => decide (cdiff p first < n)
    onCtx s f b (fun q => [(.range, decide (n = 0) || decide (ringSize q < n)),
        (.busy, q.started.any (fun x => named x.pos))])
      (fun i q => qeDone (askFetch (setCtx s i { q with cache := q.cache.filter (fun d => !named d.1) }) i) f .ok id)))

/-- A doorbell meets no queue, or one that is not Running. -/
def badDoorbell (s : State) : State := count s (okey 0x5801 1)

/-- Doorbells of the function reach the queue engine: it is not in reset (R296), and a virtual function is assigned (R286). In a halted
function they are discarded, and counted where their queue is not Running (R298, R314). -/
def doorbellOpen (s : State) (f : Nat) : Bool := decide ((fnOf s f).flr = 0) && (decide (f < 4) || vfAssigned s (f - 4))

/-- SQ_DB (R314). -/
def execSqDb (f : Fin 1028) (lq : Nat) (x : U16) (s : State) : Out :=
  .next (if !doorbellOpen s f || !hasQe s f || decide (lqLimit f ≤ lq) then s
    else match lqCtx s f lq with
      | none => badDoorbell s
      | some (i, q) =>
        let v := x.toNat
        if q.st ≠ .running then badDoorbell s
        else if !fnServes s f then s
        else if v = q.door then s
        else if cdiff v q.oldest ≤ ringSize q ∧ cdiff v q.door < 32768 then askFetch (setCtx s i { q with door := v }) i
        else malformed s i v 0xFFFFFF 6)

/-- CQ_DB (R314). -/
def execCqDb (f : Fin 1028) (lq : Nat) (x : U16) (s : State) : Out :=
  .next (if !doorbellOpen s f || !hasQe s f || decide (lqLimit f ≤ lq) then s
    else match lqCtx s f lq with
      | none => badDoorbell s
      | some (i, q) =>
        let v := x.toNat
        if q.st ≠ .running then badDoorbell s
        else if !fnServes s f then s
        else if cdiff v q.consumed ≤ cplHeld q then setCtx s i { q with consumed := v }
        else malformed s i v 0xFFFFFF 7)

/-! ### Descriptors (R315-R317, R325) -/

def dField (d : List Byte) (off n : Nat) : Nat := beNat (sliceD d off n 0)
def dTag (d : List Byte) : Nat := dField d 5 3
def dIndirect (d : List Byte) : Bool := (d.getD 0 0).getLsbD 5

/-- Segments of a list of 16-byte records. -/
def segList (bs : List Byte) (n : Nat) : List (Nat × Nat) :=
  (List.range n).map (fun i => (dField bs (16 * i) 8, dField bs (16 * i + 8) 4))

/-- Direct segments in use. -/
def segCount (q : QCtx) (d : List Byte) : Nat := if q.major = 1 then 1 else dField d 2 1

def totalLen (segs : List (Nat × Nat)) : Nat := segs.foldl (fun n x => n + x.2) 0

/-- Segment lengths that break R317 (item 4). -/
def segsBad (q : QCtx) (segs : List (Nat × Nat)) : Bool :=
  let n := totalLen segs
  segs.any (fun x => decide (x.2 = 0))
  || (if q.type = 1 then decide (n < 14) || decide (15996 < n)
      else if q.type = 2 then decide (n < 64) else decide (n < 1) || decide (16777216 < n))

/-- The internal range of a control descriptor does not lie in DDR5 or HBM (item 5). -/
def internalBad (s : State) (q : QCtx) (d : List Byte) (segs : List (Nat × Nat)) : Bool :=
  decide (q.type = 3) && !inDdrHbm s (dField d 8 8) (max 1 (totalLen segs))

/-- The first item of R325 that a fetched descriptor breaks; 0 none. An indirect list is judged when it is read. -/
def descItem (s : State) (q : QCtx) (d : List Byte) : Nat :=
  let op := dField d 1 1
  let ind := dIndirect d
  let segs := segList (d.drop 16) (segCount q d)
  if !(d.getD 0 0).getLsbD 7 then 1
  else if !(if q.type = 3 then decide (op = 3) || decide (op = 4) else decide (op = q.type)) then 2
  else if decide (segCount q d < 1) || decide (3 < segCount q d) || (ind && decide (q.major < 3))
      || (ind && (decide (dField d 24 2 < 1) || decide (64 < dField d 24 2) || decide (dField d 16 8 % 16 ≠ 0))) then 3
  else if !ind && segsBad q segs then 4
  else if !ind && internalBad s q d segs then 5 else 0

/-- Caches fetched descriptors in position order until one is malformed. -/
def cacheDescs (s : State) (i : Nat) : List (Nat × List Byte) → State
  | [] => s
  | (p, d) :: r =>
    match ctxOf s i with
    | none => s
    | some q =>
      let f := if cdiff p q.startPos < cdiff q.fetched q.startPos then q.fetched else (p + 1) % 65536
      let item := descItem s q d
      if item ≠ 0 then malformed (setCtx s i { q with fetched := f }) i p (dTag d) item
      else
        let before := q.cache.takeWhile (fun c => decide (cdiff c.1 q.startPos < cdiff p q.startPos))
        cacheDescs (setCtx s i { q with fetched := f, cache := before ++ [(p, d)] ++ q.cache.drop before.length }) i r

/-- The ring read under way, where it has been granted: its positions, and the state in which it has ended. -/
def ringReadBack (s : State) (i : Nat) (q : QCtx) : Option (List Nat × State) :=
  match q.ringRead with
  | none => none
  | some (p, n) =>
    let a := q.ring + 64 * (p % ringSize q)
    if (pendingRead s q.fn a).any (fun r => r.granted) then
      some ((List.range n).map (fun k => (p + k) % 65536), setCtx (takeRead s q.fn a) i { q with ringRead := none })
    else none

/-- A granted ring read returns (R300, R315). -/
def execDescriptorFetch (ctx : Fin 65536) (s : State) : Out :=
  .next (match ctxOf s ctx with
    | none => s
    | some q =>
      if q.st ≠ .running then s
      else match ringReadBack s ctx q with
        | none => s
        | some (ps, s1) =>
          askFetch (cacheDescs s1 ctx (ps.map (fun x => (x, memReadN s.hmem (q.ring + 64 * (x % ringSize q)) 64)))) ctx)

/-- The segments of a descriptor at its start: an indirect list is read now. -/
def startSegs (s : State) (q : QCtx) (d : List Byte) : List (Nat × Nat) × State :=
  if dIndirect d then
    let r := hostRead s q.fn (dField d 16 8) (16 * dField d 24 2)
    (segList r.1 (dField d 24 2), r.2)
  else (segList (d.drop 16) (segCount q d), s)

/-- The bytes of the segments, read from the host one after another. -/
def readSegs (s : State) (f : Nat) : List (Nat × Nat) → List Byte × State
  | [] => ([], s)
  | x :: r =>
    let a := hostRead s f x.1 x.2
    let b := readSegs a.2 f r
    (a.1 ++ b.1, b.2)

/-- Writes bytes into the segments in order. -/
def writeSegs (s : State) (f : Nat) : List (Nat × Nat) → List Byte → State
  | [], _ => s
  | x :: r, bs => writeSegs (hostData s f x.1 (bs.take x.2)) f r (bs.drop x.2)

/-- The item that the segments of a started descriptor break. -/
def startItem (s : State) (q : QCtx) (d : List Byte) (segs : List (Nat × Nat)) : Nat :=
  if segsBad q segs then 4 else if internalBad s q d segs then 5 else 0

/-- The descriptor at the next position leaves the cache. -/
def popDesc (q : QCtx) : QCtx :=
  { q with cache := q.cache.filter (fun d => decide (d.1 ≠ q.startPos)), startPos := (q.startPos + 1) % 65536 }

/-- The frame of a started transmit descriptor enters intake under the grant it takes (R76, R318, R324). -/
def presentTx (s : State) (i : Nat) (q : QCtx) (x : Started) : State :=
  let v := ctxVale q
  let pk := (s.vale v).path.nextPkt
  let s1 := admitPkt s v { srcClass := 1, srcIndex := i, bytes := x.data, tail := false, cells := cellsOf x.data.length,
                           preset := fnOwner s q.fn }
  let s2 := s1.modPath v (fun y => { y with hostGrant := false, nwBytes := y.nwBytes - x.data.length })
  setCtx s2 i { q with started := q.started ++ [{ x with pkt := some pk }] }

/-- A transmit or control descriptor starts (R318, R320): data toward the LN9192 are read now (log entry 28). -/
def startDesc (s : State) (i : Nat) : State :=
  match ctxOf s i with
  | none => s
  | some q =>
    match q.cache.find? (fun d => decide (d.1 = q.startPos)) with
    | none => s
    | some (p, d) =>
      let g := startSegs s q d
      let item := startItem g.2 q d g.1
      if item ≠ 0 then malformed g.2 i p (dTag d) item
      else
        let r := if dField d 1 1 = 4 then ([], g.2) else readSegs g.2 q.fn g.1
        let x : Started := { pos := p, desc := d, segs := g.1, data := r.1 }
        askFetch (if q.type = 1 then presentTx r.2 i (popDesc q) x
          else setCtx r.2 i { popDesc q with started := q.started ++ [x] }) i

/-- The next descriptor of a queue reads host memory at its start: data toward the LN9192, or an indirect list. -/
def startReads (q : QCtx) : Bool :=
  match q.cache.find? (fun d => decide (d.1 = q.startPos)) with
  | some (_, d) => decide (dField d 1 1 ≠ 4) || dIndirect d
  | none => false

/-- The descriptor of context `k` starts, once its reads are granted (R300, R301). -/
def startGranted (s : State) (k : Nat) : Option State :=
  match ctxOf s k with
  | none => none
  | some q => if startReads q then (readTurn s q.fn).map (fun a => startDesc a k) else some (startDesc s k)

/-- DESCRIPTOR_START: the scheduler's choice, where it is a work queue (R324). -/
def execDescriptorStart (s : State) : Out :=
  .next (if s.err.failStop then s
    else match qePick s with
      | none => s
      | some (c, k, s1) =>
        if 0x100000 ≤ k then s
        else match startGranted s1 k with
          | none => s
          | some s2 =>
            let empty := match ctxOf s2 k with | some q => decide (q.startPos = q.door) | none => true
            qeSettle s2 c k empty)

/-! ### Ends of descriptors -/

/-- A started descriptor ends, one whose state is lost with ERROR (R328): OWN cleared, its completion written unless a success is suppressed. None: its completion has no room
yet (R322). -/
def endDesc (s : State) (i : Nat) (x : Started) (c0 : Cpl) : Option State :=
  match ctxOf s i with
  | none => none
  | some q =>
    let c : Cpl := if x.lost then { error := true, status := .access, pos := x.pos, tag := dTag x.desc, cause := 4 } else c0
    let silent := !c.error && hasSuppress q && (x.desc.getD 0 0).getLsbD 6
    if !silent && !cplRoom q then none
    else
      let s1 := setCtx s i { q with started := q.started.filter (fun y => decide (y.pos ≠ x.pos)) }
      let s2 := clearOwn s1 i x.pos (x.desc.getD 0 0)
      some (if silent then s2 else writeCpl s2 i c)

/-- TX_FRAME_TAKEN: the oldest frame that intake has taken is complete in Basin (R318). -/
def execTxFrameTaken (ctx : Fin 65536) (s : State) : Out :=
  .next (match ctxOf s ctx with
    | none => s
    | some q =>
      match q.started with
      | [] => s
      | x :: _ =>
        match x.pkt with
        | none => s
        | some p =>
          if q.type ≠ 1 ∨ q.st ≠ .running then s
          else
            let v := ctxVale q
            match endDesc (frameTail s v p [] true) ctx x { pos := x.pos, tag := dTag x.desc, len := x.data.length } with
            | none => s
            | some s1 => s1)

/-- The receive fields of a completion entry (offsets 13-28). -/
def rxFields (p : Packet) : List Byte :=
  beBytes 1 p.srcClass ++ beBytes 2 p.srcIndex ++ beBytes 4 (pktTen p).toNat ++ beBytes 4 (recBits p 4 0 32)
    ++ beBytes 4 (recBits p 3 0 30) ++ beBytes 1 (recBits p 5 32 1 + recBits p 5 31 1 * 2)

/-- A packet has been written into a receive descriptor and leaves the Vale. -/
def rxInto (s : State) (v : Vale) (i pk : Nat) (p : Packet) (q : QCtx) (d : Nat × List Byte) : State :=
  let g := startSegs s q d.2
  let item := startItem g.2 q d.2 g.1
  if item ≠ 0 then malformed g.2 i d.1 (dTag d.2) item
  else if totalLen g.1 < p.out.length then dropPkt (count g.2 (okey 0x5801 2)) v pk 0x0C
  else
    let x : Started := { pos := d.1, desc := d.2, segs := g.1 }
    let s1 := setCtx g.2 i { popDesc q with started := q.started ++ [x] }
    let s2 := writeSegs s1 q.fn g.1 p.out
    match endDesc s2 i x { pos := d.1, tag := dTag d.2, len := p.out.length, rx := rxFields p } with
    | none => s
    | some s3 => askFetch (removePkt s3 v pk) i

/-- The oldest packet dequeued toward a receive queue, of Vale East first. -/
def rxOldest (s : State) (i : Nat) : Option (Vale × Nat) :=
  match oldestAt s .east (.toHost i) with
  | some p => some (.east, p)
  | none => (oldestAt s .west (.toHost i)).map (fun p => (.west, p))

/-- RX_DELIVER (R319). -/
def execRxDeliver (ctx : Fin 65536) (s : State) : Out :=
  .next (match rxOldest s ctx with
    | none => s
    | some (v, pk) =>
      match ctxOf s ctx with
      | none => dropCopy s v pk 0x0C
      | some q =>
        if !rxAlive s q || decide (q.type ≠ 2) then dropCopy s v pk 0x0C
        else if !fnIssues s q.fn || fnHeld s q.fn then s
        else match q.cache.find? (fun d => decide (d.1 = q.startPos)) with
          | none => askFetch s ctx
          | some d => rxInto s v ctx pk ((pktAt s v pk).getD {}) q d)

/-- CONTROL_COPY_DONE (R320). -/
def execControlCopyDone (ctx : Fin 65536) (pos : U16) (s : State) : Out :=
  .next (match ctxOf s ctx with
    | none => s
    | some q =>
      match q.started.find? (fun x => decide (x.pos = pos.toNat)) with
      | none => s
      | some x =>
        let a := dField x.desc 8 8
        let n := totalLen x.segs
        let c : Cpl := { pos := x.pos, tag := dTag x.desc, len := n }
        if q.type ≠ 3 ∨ q.st ≠ .running ∨ !fnIssues s q.fn then s
        else
          let r := if dField x.desc 1 1 = 3 then endDesc (writeInt s a x.data) ctx x c
            else
              let s1 := writeSegs s q.fn x.segs (readInt s a n)
              if poisoned s a n then
                endDesc (count s1 (okey 0x5030 6)) ctx x { c with error := true, status := .access, cause := 4 }
              else endDesc s1 ctx x c
          r.getD s)

/-- coal_usec has passed since the oldest entry not yet signalled (R323); an NVMe completion queue has its own times. -/
def execCoalTimerExpiry (ctx : Fin 65536) (s : State) : Out :=
  .next (match ctxOf s ctx with
    | some q => if q.coalUsec ≠ 0 ∧ q.unsig ≠ 0 then qeRaise s ctx q else s
    | none =>
      match tget s.nv.qs ctx with
      | none => s
      | some q =>
        match nvCtrl s q.ctrl with
        | none => s
        | some x =>
          let t := bitsOf (tgetD x.feats 8 0) 8 8
          if !q.sq && q.ien && decide (q.unsig ≠ 0) && decide (t ≠ 0) then
            raiseVector (setNvQ s ctx { q with unsig := 0 }) x.fn q.vector
          else s)

/-! ### Failed reads (R326, R327) -/

/-- The ring read under way covers a position; the state in which the read has ended. -/
def ringReadAt (s : State) (i : Nat) (q : QCtx) (pos : Nat) : Option State :=
  match q.ringRead with
  | none => none
  | some (p, n) =>
    if cdiff pos p < n then some (setCtx (takeRead s q.fn (q.ring + 64 * (p % ringSize q))) i { q with ringRead := none }) else none

/-- The descriptor whose indirect list is read: a started one, or the receive descriptor that a waiting frame takes. -/
def listReadAt (s : State) (i : Nat) (q : QCtx) (pos : Nat) : Option (List Byte) :=
  let d := if q.type = 2 then
      (if toHostCount s i = 0 ∨ pos ≠ q.startPos then none else (q.cache.find? (fun d => decide (d.1 = pos))).map (·.2))
    else (q.started.find? (fun x => decide (x.pos = pos))).map (·.desc)
  d.filter dIndirect

/-- The completion entry of a failed read, and the halt of the function with reason 4. -/
def readFails (s : State) (i pos tag cause : Nat) (st : Status) : State :=
  match ctxOf s i with
  | none => s
  | some q =>
    let c : Cpl := { error := true, status := st, pos := pos, tag := tag, cause := cause }
    let s1 := if cplRoom q then writeCpl s i c else s
    queueFault s1 i ((ctxOf s1 i).getD q) 4 pos cause 0

/-- The frame of a started transmit descriptor loses its tail. -/
def loseTail (s : State) (q : QCtx) (x : Started) : State :=
  match x.pkt with
  | some p => tailLost s (ctxVale q) p
  | none => s

/-- The failed read of the ring, whose descriptor is not read, or of an indirect list (R326). -/
def descReadFails (s : State) (i : Nat) (q : QCtx) (pos cause : Nat) (st : Status) : State :=
  match ringReadAt s i q pos with
  | some s1 => readFails s1 i pos 0xFFFFFF cause st
  | none =>
    match listReadAt s i q pos with
    | none => s
    | some d =>
      let s1 := match q.started.find? (fun x => decide (x.pos = pos)) with | some x => loseTail s q x | none => s
      readFails s1 i pos (dTag d) cause st

/-- QE_READ_TIMEOUT (R326): of a read of the ring or of an indirect list, or of a started descriptor's data. -/
def execQeReadTimeout (ctx : Fin 65536) (descRead : Bool) (pos : U16) (s : State) : Out :=
  .next (match ctxOf s ctx with
    | none => s
    | some q =>
      if q.st ≠ .running then s
      else if descRead then descReadFails s ctx q pos.toNat 2 .timeout
      else match q.started.find? (fun x => decide (x.pos = pos.toNat)) with
        | none => s
        | some x => if dField x.desc 1 1 = 4 then s else readFails (loseTail s q x) ctx x.pos (dTag x.desc) 2 .timeout)

/-- QE_READ_ERROR: of a read of the ring or of an indirect list, which halts the function (R326); of a started descriptor's data, which
ends only that descriptor (R327). -/
def execQeReadError (ctx : Fin 65536) (r : FailedRead) (s : State) : Out :=
  .next (match ctxOf s ctx with
    | none => s
    | some q =>
      if q.st ≠ .running then s
      else if r.descRead then descReadFails s ctx q r.pos.toNat 3 .access
      else match q.started.find? (fun x => decide (x.pos = r.pos.toNat)) with
        | none => s
        | some x =>
          if dField x.desc 1 1 = 4 then s
          else (endDesc (loseTail s q x) ctx x { error := true, status := .access, pos := x.pos, tag := dTag x.desc, cause := 3 }).getD s)

/-! ### What a function reset does to its queues (R312) -/

/-- A queue that a reset empties keeps no positive deficit (R214, R324). -/
def qeEmptied (s : State) (i : Nat) : State :=
  { s with qe := { s.qe with qDef := tset s.qe.qDef i (min 0 (tgetD s.qe.qDef i 0)) } }

/-- Step 3 of R296 for a context: Idle, its frames in intake lose their tails, its tenancy entry leaves, packets toward it
are dropped. -/
def idleCtx (s : State) (i : Nat) : State :=
  match ctxOf s i with
  | none => s
  | some q =>
    let s1 := q.started.foldl (fun a x => loseTail a q x) s
    let s2 := tenErrLeave (qeEmptied (setCtx s1 i (emptyCtx q .idle 0 0)) i) (fnOwner s q.fn) (unitId 2 3 2 0xFFF) i
    let toward := fun (_ : Nat) (p : Packet) => decide (p.loc = .toHost i)
    dropDown (dropDown s2 .east toward) .west toward

end Sys2Proof.Machine
end

