-- ==== Sys2Proof/Machine/Host.lean ====
section
/-! DEFINITION. The host interface (R280-R304): the link, functions and their resets, interrupts, arbitration, the window
table, received errors. -/

namespace Sys2Proof.Machine

/-! ### The link (R283, R297) -/

/-- PCIE_PERST_N rises (R283): the host region, once released, may train the link. -/
def execPciePerstRise (s : State) : Out := .next { s with host := { s.host with perstN := true } }

/-- The stored configuration is loaded (R283); until then configuration requests are retried. -/
def execHostConfigLoaded (s : State) : Out :=
  .next (if s.boot.hostUp ∧ ¬ s.err.failStop then { s with host := { s.host with configured := true } } else s)

/-- Training completes (R283): the rate and width trained to are free within R280. -/
def execHostLinkUp (s : State) : Out :=
  .next (if s.boot.hostUp ∧ s.host.perstN ∧ s.host.link = 0 ∧ ¬ s.err.failStop then
      let a := drawFree s 3
      let b := drawFree a.2 3
      { b.2 with host := { b.2.host with link := 1, rate := [64, 32, 16].getD a.1 64, width := [16, 8, 1].getD b.1 16 } }
    else s)

/-- The link is down: every function is reset and VF Enable clears (R297). `sticky`: the sticky registers clear too. -/
def linkDown (s : State) (sticky : Bool) : State :=
  let clear := fun (x : HostFn) => ({ x with cor := 0, unc := 0, first := 0, hdr := 0, tlpPrefix := 0, corMask := 0xE000,
                                             uncMask := 0x400000, sev := 0x462030 } : HostFn)
  let s1 : State := { s with host := { s.host with
    link := 0, rate := 0, width := 0, downs := (s.host.downs + 1) % 2 ^ 32
    fns := if sticky then tmap s.host.fns (fun _ x => clear x) else s.host.fns } }
  raise (resetAllFns s1) { cls := 6, name := "HOST_LINK_DOWN", unit := unitId 2 3 1 0xFFF }

/-- HOST_LINK_DOWN (R297). -/
def execHostLinkDown (c : LinkDownCause) (s : State) : Out :=
  .next (match c with
    | .perstLow =>
      if s.host.perstN then linkDown { s with host := { s.host with perstN := false } } true else s
    | _ => if s.host.link = 0 then s else linkDown s false)

/-! ### Virtual functions (R285, R286) -/

/-- The window entry `i` (R288), all zero where none was written. -/
def winKey (i : Nat) : Nat := okey (0x5100 + i / 128) (i % 128)
def winOf (s : State) (i : Nat) : Nat := numD s (winKey i) 0
def winFn (r : Nat) : Nat := recField 24 0 2 r
def winFlags (r : Nat) : Nat := recField 24 2 1 r
def winValid (r : Nat) : Bool := bitOf (winFlags r) 0
def winSaddle (r : Nat) : Bool := bitOf (winFlags r) 3
def winLog2 (r : Nat) : Nat := recField 24 3 1 r
def winRegion (r : Nat) : Handle := BitVec.ofNat 32 (recField 24 4 4 r)
def winBase (r : Nat) : Nat := recField 24 8 8 r
def winTarget (r : Nat) : Nat := recField 24 16 8 r

/-- Window entries that have been written. -/
def winsListed (s : State) : List (Nat × Nat) :=
  (s.dict.nums.filter (fun p => decide (okey 0x5100 0 ≤ p.1) && decide (p.1 < okey 0x5120 0))).map
    (fun p => ((p.1 / 256 - 0x5100) * 128 + p.1 % 256, p.2))

/-- The window entries of a function are cleared (R286). -/
def clearWindows (s : State) (f : Nat) : State :=
  (winsListed s).foldl (fun a p => if winFn p.2 = f then persist (setNum a (winKey p.1) 0) (winKey p.1) else a) s

def vfTotal (s : State) : Nat := totalVfs s 1 + totalVfs s 2 + totalVfs s 3

def vfAssignOp (who : Who) (r : Rec 8) : DictOp where
  status := fun s =>
    let n := r.toNat
    let g := recField 8 0 2 n
    let o : Handle := BitVec.ofNat 32 (recField 8 4 4 n)
    firstStatus (baseChecks s (isO who) ++ ownerChecks s o ++
      [(.range, decide (o = 0) || decide (vfTotal s ≤ g) || vfAssigned s g),
       (.noResource, tenCurrent s o && !quotaOk s o 3)])
  effect := fun s =>
    let g := recField 8 0 2 r.toNat
    let o : Handle := BitVec.ofNat 32 (recField 8 4 4 r.toNat)
    (addUsage (setOwner s 3 g o) o 3, beBytes 4 (handleOf s 3 g).toNat)

/-- VF_ASSIGN (R286). -/
def execVfAssign (who : Who) (r : Rec 8) (s : State) : Out := .next (runOp (vfAssignOp who r) s)

/-- The contexts of a function become Free (R312). -/
def dropFnCtxs (s : State) (f : Nat) : State :=
  (ctxsOf s f).foldl (fun a p => dropCtx (idleCtx a p.1) p.1 false) s

/-- A virtual function becomes unassigned (R286). -/
def unassignVf (s : State) (g : Nat) : State :=
  clearOwner (subUsage s ((ownerOf s 3 g).getD 0) 3) 3 g

/-- A virtual function leaves its owner: its contexts are Free, its window entries clear (R286, R312). -/
def releaseFn (s : State) (f : Nat) : State := unassignVf (clearWindows (dropFnCtxs s f) f) (f - 4)

/-- A virtual function that is assigned, and not about to leave its owner. -/
def vfHeld (s : State) (g : Nat) : Bool := vfAssigned s g && !(fnOf s (g + 4)).releasing

/-- VF_RELEASE (R286): the generations of the function and of its contexts rise (R17, R312), the function is reset, and it
leaves its owner once the reset is over (R18). -/
def vfReleaseOp (who : Who) (h : Handle) : DictOp where
  status := fun s => firstStatus (baseChecks s (isO who) ++ destroyChecks s h 3 ++
    [(.range, !vfHeld s (hIdx h))])
  effect := fun s =>
    let g := hIdx h
    let s1 := (ctxsOf s (g + 4)).foldl (fun a p => bumpGen a 2 (p.1 % 65536)) (bumpGen s 3 g)
    (modFn (startFlr s1 (g + 4)) (g + 4) (fun x => { x with releasing := true }), [])

/-- VF_RELEASE (R286). -/
def execVfRelease (who : Who) (h : Handle) (s : State) : Out := .next (runOp (vfReleaseOp who h) s)

def vfResetOp (who : Who) (h : Handle) : DictOp where
  status := fun s => firstStatus (baseChecks s (isO who) ++ destroyChecks s h 3 ++ [(.range, !vfHeld s (hIdx h))])
  effect := fun s => (startFlr s (hIdx h + 4), [])

/-- VF_RESET (R296), which completes at step 1. -/
def execVfReset (who : Who) (h : Handle) (s : State) : Out := .next (runOp (vfResetOp who h) s)

/-! ### Function resets (R295, R296) -/

/-- The function exists on the host link. -/
def fnExists (s : State) (f : Nat) : Bool := decide (f < 4) || decide (f - 4 < vfTotal s)

/-- Configuration requests of a function are served (R283). -/
def cfgServes (s : State) (f : Nat) : Bool :=
  decide (s.host.link ≠ 0) && s.host.configured && fnExists s f && !s.err.failStop

/-- INITIATE_FLR (R296). -/
def execInitiateFlr (f : Fin 1028) (s : State) : Out := .next (if cfgServes s f then startFlr s f else s)

/-- The function is silent (R295): what it still had toward the host is gone. -/
def silence (s : State) (f : Nat) : State :=
  let s1 := modFn s f (fun x => { x with silenced := true })
  settleGate { s1 with host := { s1.host with reqs := s1.host.reqs.filter (fun r => decide (r.fn ≠ f)) } }

/-- Step 2 of R296, and the silencing of a halted function (R298). -/
def execFunctionSilenced (f : Fin 1028) (s : State) : Out :=
  .next (let x := fnOf s f
    if x.silenced then s
    else if x.flr = 1 then modFn (silence s f) f (fun y => { y with flr := 2 })
    else if fnHalted s f then silence s f
    else s)

/-- The registers of a function after step 4 of R296; sticky ones stand. -/
def fnAfterReset (x : HostFn) : HostFn :=
  { flr := 3, silenced := true, releasing := x.releasing, cor := x.cor, unc := x.unc, first := x.first, hdr := x.hdr,
    tlpPrefix := x.tlpPrefix, corMask := x.corMask,
    uncMask := x.uncMask, sev := x.sev }

/-- Steps 3 and 4 of R296. A halted function was silent before the reset began. -/
def execFlrQueueReset (f : Fin 1028) (s : State) : Out :=
  .next (let x := fnOf s f
    if (x.flr = 2 ∨ x.flr = 1) ∧ x.silenced then
      let s1 := (ctxsOf s f).foldl (fun a p => idleCtx a p.1) s
      let s2 := match nvOfFn s1 f with | some c => nvReset s1 c true | none => s1
      let s3 := setFn s2 f (fnAfterReset x)
      { s3 with qe := { s3.qe with blks := terase s3.qe.blks f } }
    else s)

/-- Step 5 of R296; the function's entry leaves the error queue (R352). -/
def execFlrComplete (f : Fin 1028) (s : State) : Out :=
  .next (if (fnOf s f).flr = 3 then
      let s1 := modFn s f (fun x => { x with flr := 0, silenced := false, releasing := false })
      let s2 := raise (tenErrLeave s1 (fnOwner s1 f) (unitId 2 3 1 0xFFF) f)
        { cls := 6, name := "HOST_FLR_DONE", unit := unitId 2 3 1 0xFFF, resource := f, tenancy := fnOwner s f }
      if (fnOf s f).releasing then releaseFn s2 f else s2
    else s)

/-- VF_ENABLE_CHANGE (R297): VF Enable of 0 or a change of NumVFs resets the virtual functions. -/
def execVfEnableChange (pf : Fin 4) (en : Bool) (num : Nat) (s : State) : Out :=
  .next (let x := fnOf s pf
    if pf.val = 0 ∨ ¬ cfgServes s pf ∨ x.flr ≠ 0 ∨ totalVfs s pf < num then s
    else
      let s1 := setFn s pf { x with vfEnable := en, numVfs := num }
      if (x.vfEnable ∧ ¬ en) ∨ x.numVfs ≠ num then (vfsOf s1 pf).foldl startFlrOne s1 else s1)

/-- The effect of a configuration write on a function's registers. -/
def cfgField (x : HostFn) (fld : ConfigField) (v : Bool) : HostFn :=
  match fld with
  | .busMaster => { x with busMaster := v }
  | .d3hot => { x with d3hot := v }
  | .msixEnable => { x with msixEn := v }
  | .functionMask => { x with fmask := v }
  | .intxDisable => { x with intxDis := v }
  | .relaxedOrdering => { x with relaxed := v }
  | .corErrEn => { x with errEn := putBit x.errEn 0 v }
  | .maxPayload c => { x with mps := c.toNat }
  | .maxRead c => { x with mrrs := c.toNat }
  | .tag10 => { x with tag10 := v }
  | .completionRange c => { x with cplRange := c.toNat }
  | .nonFatalErrEn => { x with errEn := putBit x.errEn 1 v }
  | .fatalErrEn => { x with errEn := putBit x.errEn 2 v }
  | .corStatus b => if v then { x with cor := putBit x.cor b false } else x
  | .corMask b => { x with corMask := putBit x.corMask b v }
  | .uncStatus b => if v then { x with unc := putBit x.unc b false } else x
  | .uncMask b => { x with uncMask := putBit x.uncMask b v }
  | .severity b => { x with sev := putBit x.sev b v }

/-- CONFIG_WRITE (R292, R293, R299, R302); during a reset of the function it is discarded (R296). -/
def execConfigWrite (f : Fin 1028) (fld : ConfigField) (x : Bool) (s : State) : Out :=
  .next (if ¬ cfgServes s f ∨ (fnOf s f).flr ≠ 0 ∨ (4 ≤ f.val ∧ fld = .intxDisable) then s
    else updateIntx (modFn s f (fun y => cfgField y fld x)) f)

/-! ### Interrupts (R292, R293) -/

def msixOf (x : HostFn) (vec : Nat) : MsixEntry := tgetD x.msix vec {}

/-- The message of a pending vector can be sent (R292, R366); it follows the writes whose data it publishes (R282). -/
def msixReady (s : State) (f vec : Nat) : Bool :=
  let x := fnOf s f
  x.pend.contains vec && x.msixEn && !x.fmask && !(msixOf x vec).ctrl.getLsbD 0 && x.busMaster && !x.d3hot
    && !fnHalted s f && !x.silenced && decide (s.host.link ≠ 0) && !fnHeld s f
    && !s.host.reqs.any (fun r => decide (r.fn = f) && r.holds.contains vec)

/-- MSIX_SEND (R292). -/
def execMsixSend (f : Fin 1028) (vec : Nat) (s : State) : Out :=
  .next (if msixReady s f vec then
      let e := msixOf (fnOf s f) vec
      pushMsg (modFn s f (fun x => { x with pend := x.pend.filter (fun v => decide (v ≠ vec)) }))
        (.msix f (e.hi.toNat * 2 ^ 32 + e.lo.toNat) e.data.toNat)
    else s)

/-- INTX_ACK (R293, R294). -/
def execIntxAck (f : Fin 4) (vec : BitVec 11) (s : State) : Out :=
  .next (if fnServes s f then
      updateIntx (modFn s f (fun x => { x with pend := x.pend.filter (fun v => decide (v ≠ vec.toNat)) })) f
    else s)

/-- A write of a word of an MSI-X table entry (R292): address, upper address, data, control. -/
def msixWord (s : State) (f vec word : Nat) (w : U32) : State :=
  if fnServes s f ∧ vec < msixSize s f then
    modFn s f (fun x =>
      let e := msixOf x vec
      { x with msix := tset x.msix vec (
          if word = 0 then { e with lo := w &&& 0xFFFFFFFC#32 } else if word = 1 then { e with hi := w }
          else if word = 2 then { e with data := w } else { e with ctrl := w &&& 1#32 }) })
  else s

/-- An uncorrectable error in an MSI-X entry (R302, R303): masked, address and data zero. -/
def msixLost (s : State) (f vec : Nat) : State :=
  raise (aerUnc (modFn s f (fun x => { x with msix := terase x.msix vec })) f 22)
    { cls := 6, name := "HOST_VECTOR_LOST", unit := unitId 2 3 1 0xFFF, level := 1, resource := f, tenancy := fnOwner s f,
      detail := vec }

/-! ### Host-link arbitration (R300, R301) -/

/-- The request of a client that is next: the F client's in order of arrival, another client's functions in round
robin. -/
def nextOfClient (s : State) (d : LinkDir) (c : Nat) : Option HReq :=
  let mine := s.host.reqs.filter (fun r => hostMay s d r && decide (clientOf s r.fn = c))
  if c = 1 then mine.head?
  else
    let last := tgetD s.host.arbFn (dirNum d * 1024 + c) 1028
    let fs := (List.range 1028).map (fun i => (last + 1 + i) % 1028)
    match fs.find? (fun f => mine.any (fun r => decide (r.fn = f))) with
    | some f => mine.find? (fun r => decide (r.fn = f))
    | none => none

/-- A granted write is performed, its pages recorded first (R362, R363); a granted read goes out. -/
def grantReq (s : State) (r : HReq) : State :=
  match r.dir with
  | .fromHost =>
    { s with host := { s.host with reqs := s.host.reqs.map (fun x => if x = r then { x with granted := true } else x) } }
  | .toHost =>
    let o := fnOwner s r.fn
    let s1 : State := { s with host := { s.host with reqs := s.host.reqs.erase r } }
    let s2 := if o ≠ 0 ∧ r.log then dplMark s1 (hIdx o) r.addr r.len else s1
    settleGate { s2 with hmem := memWriteN s2.hmem r.addr r.data }

/-- HOST_ARB_GRANT (R300, R301). -/
def execHostArbGrant (d : LinkDir) (s : State) : Out :=
  .next (if s.err.failStop then s
    else match arbPick s d none with
      | none => s
      | some (c, s1) =>
        match nextOfClient s d c with
        | none => s
        | some r => arbEnd (arbSettle (hostCharge (grantReq s1 r) d r.fn r.len) d c) d c)

/-! ### The window table (R288-R290) -/

/-- Two windows of one function overlap. -/
def winsOverlap (r q : Nat) : Bool :=
  decide (winFn r = winFn q) && decide (winBase r < winBase q + 2 ^ winLog2 q) && decide (winBase q < winBase r + 2 ^ winLog2 r)

/-- The RANGE cases of R288; the record of zeros, which is the default, is none of them (log entry 83). -/
def winBad (s : State) (i r : Nat) : Bool :=
  let f := winFn r
  let n := 2 ^ winLog2 r
  decide (1027 < f) || decide (winLog2 r < 12) || decide (40 < winLog2 r) || decide (winBase r % n ≠ 0)
  || decide (bar2Size s f < winBase r + n)
  || (if winSaddle r then
        !handleFits (winRegion r) 5
        || (decide (4 ≤ f) && decide (ownerOf s 5 (hIdx (winRegion r)) ≠ some (fnOwner s f)))
      else decide (winRegion r ≠ 0) || decide (winTarget r % n ≠ 0) || decide (2 ^ 48 < winTarget r + n)
        || (decide (f ≠ 0) && !inDdrHbm s (winTarget r) n))
  || (winValid r && (winsListed s).any (fun p => decide (p.1 ≠ i) && winValid p.2 && winsOverlap r p.2))

/-- A window entry as it is taken: reserved bits zero (R10). -/
def winIn (r : Nat) : Nat := recFlags 24 2 4 r

def winEntryOp (who : Who) (i : Fin 4096) (r : Rec 24) : DictOp where
  status := fun s =>
    let n := r.toNat
    firstStatus (baseChecks s (isO who) ++
      [(.range, decide (n ≠ 0) && winBad s i n),
       (.staleHandle, handleStale s (winRegion n)),
       (.halted, winValid n && (ownerHalted s (fnOwner s (winFn n))
          || (winSaddle n && objLive s (winRegion n) && ownerHalted s ((ownerOf s 5 (hIdx (winRegion n))).getD 0))))])
  effect := fun s =>
    let s1 := persist (setNum s (winKey i) (winIn r.toNat)) (winKey i)
    ({ s1 with host := { s1.host with badWin := s1.host.badWin.filter (fun x => decide (x ≠ i.val)) } }, [])

/-- WIN_ENTRY (R288, R290): live at once, for no request is under way between two commands. -/
def execWinEntryWrite (who : Who) (i : Fin 4096) (r : Rec 24) (s : State) : Out := .next (runOp (winEntryOp who i r) s)

/-- The valid entry of a function that covers [o, o + n) (R289). -/
def winFor (s : State) (f o n : Nat) : Option Nat :=
  ((winsListed s).find? (fun p => winValid p.2 && decide (winFn p.2 = f) && !s.host.badWin.contains p.1
    && within o n (winBase p.2) (2 ^ winLog2 p.2))).map (·.2)

/-- The data of a BAR read return to the host. -/
def barData (s : State) (bs : List Byte) : State := { s with host := { s.host with bar := some bs } }

/-- A miss (R289): counted, the first since the last read recorded; a read returns all-ones. -/
def winMiss (s : State) (f o : Nat) (read : Option Nat) : State :=
  let k := okey 0x5030 2
  let s1 := count s (okey 0x5030 1)
  let s2 := match tget s1.dict.nums k with
    | some _ => s1
    | none => setNum s1 k (beNat (beBytes 2 f ++ beBytes 1 (bit1 read.isNone) ++ beBytes 1 0 ++ beBytes 8 o))
  match read with
  | some n => barData s2 (List.replicate n 0xFF#8)
  | none => s2

/-- WIN_FIRST_MISS (R304): returned and cleared. -/
def winFirstMissOp (who : Who) : DictOp where
  status := fun s => firstStatus (baseChecks s (isO who || decide (who.role = .host)))
  effect := fun s =>
    let k := okey 0x5030 2
    ({ s with dict := { s.dict with nums := terase s.dict.nums k } }, beBytes 12 (numD s k 0))

def execWinFirstMissRead (who : Who) (s : State) : Out := .next (runOp (winFirstMissOp who) s)

/-- QE_LAST_FAULT (R329): returned and cleared. -/
def qeLastFaultOp (who : Who) : DictOp where
  status := fun s => firstStatus (baseChecks s (isO who || decide (who.role = .host)))
  effect := fun s =>
    let k := okey 0x5802 1
    ({ s with dict := { s.dict with nums := terase s.dict.nums k } }, beBytes 12 (numD s k 0))

def execQeLastFaultRead (who : Who) (s : State) : Out := .next (runOp (qeLastFaultOp who) s)

/-! ### Received errors (R302) -/

/-- HOST_TLP_ERROR (R302). -/
def execHostTlpError (e : TlpError) (s : State) : Out :=
  .next (if s.host.link = 0 then s
    else match e with
      | .correctable b =>
        let s1 := aerCor s 0 b
        if [0, 6, 7, 8, 12].contains b then { s1 with host := { s1.host with corrected := (s1.host.corrected + 1) % 2 ^ 64 } }
        else s
      | .poisonedWrite f => if fnExists s f then aerUnc s f 12 else s
      | .unsupported f => aerUnc s (match f with | some g => if fnExists s g then g else 0 | none => 0) 20
      | .completionTimeout f => if fnExists s f then aerUnc s f 14 else s
      | .completionError f => if fnExists s f then aerUnc s f 12 else s
      | .unexpectedCompletion => aerUnc s 0 16
      | .malformed b => if [4, 13, 17, 18].contains b then aerUnc s 0 b else s
      | .surpriseDown => linkDown (aerUnc s 0 5) false
      | .msixEntry f vec => if fnExists s f then msixLost s f vec else s
      | .internalRead => count s (okey 0x5030 6))

end Sys2Proof.Machine
end

