-- ==== Sys2Proof/Machine/Crypto.lean ====
section
/-! DEFINITION. Security associations and inline AES-GCM (R418-R423): MACsec and ESP protect and validate. -/

namespace Sys2Proof.Machine

/-! ### Associations (R418) -/

def saKey (a : Nat) : Nat := okey (0x2380 + a / 128) (a % 128)
def saStatKey (a : Nat) : Nat := okey (0x7900 + a / 128) (a % 128)

/-- The record of an association. -/
structure Sa where
  owner : Handle
  kind : Nat
  flags : Nat
  keySlot : Nat
  sci : Nat
  spi : Nat
  an : Nat
  port : Nat
  window : Nat
  pn : Nat
  threshold : Nat
  salt : Nat
  ssci : Nat

def saOfRec (r : Nat) : Sa :=
  { owner := BitVec.ofNat 32 (recField 64 0 4 r), kind := recField 64 4 1 r, flags := recField 64 5 1 r,
    keySlot := recField 64 6 2 r, sci := recField 64 8 8 r, spi := recField 64 16 4 r, an := recField 64 20 1 r,
    port := recField 64 21 1 r, window := recField 64 22 2 r, pn := recField 64 24 8 r,
    threshold := recField 64 32 8 r, salt := recField 64 40 12 r, ssci := recField 64 52 4 r }

def saOf (s : State) (a : Nat) : Sa := saOfRec (numD s (saKey a) 0)

def saXpn (x : Sa) : Bool := bitOf x.flags 1
def saSci (x : Sa) : Bool := bitOf x.flags 2

/-- pn of an association is replaced. -/
def setSaPn (s : State) (a pn : Nat) : State := setNum s (saKey a) (recSet 64 24 8 (numD s (saKey a) 0) pn)

/-- SA_STATS: packets and bytes, ICV failures, replay failures. -/
def saCount (s : State) (a off n : Nat) : State :=
  let r := numD s (saStatKey a) 0
  setNum s (saStatKey a) (recSet 32 off 8 r (recField 32 off 8 r + n))

/-- The association's kind fits the packet's CRYPTO_OP and CRYPTO_DIR. -/
def saFits (x : Sa) (op dir : Nat) : Bool :=
  (decide (op = 1) && decide (dir = 0) && decide (x.kind = 1))
  || (decide (op = 2) && decide (dir = 0) && decide (x.kind = 3))
  || (decide (op = 2) && decide (dir = 1) && decide (x.kind = 4))

/-- The association a packet names may be used by it (R174, R418). -/
def saOwned (s : State) (a : Nat) (ten : Handle) (op dir : Nat) : Bool :=
  let x := saOf s a
  decide (a < 16384) && bitOf x.flags 0 && (decide (x.owner = 0) || decide (x.owner = ten)) && saFits x op dir

/-- The key material of an association; none where its slot has lost it (R408). -/
def saMat (s : State) (x : Sa) : Option (List Byte) :=
  match tget s.vault.slots x.keySlot with
  | some k => if k.lost then none else some k.mat
  | none => none

/-- No number is left under the key (R419, R421). -/
def saExhausted (x : Sa) : Bool := decide ((if saXpn x then 2 ^ 64 else 2 ^ 32) ≤ x.pn)

/-- A protect operation has used a number: pn rises, and SA_PN_THRESHOLD is raised when it reaches the threshold. -/
def saUse (s : State) (a : Nat) (x : Sa) (bytes : Nat) : State :=
  let s1 := saCount (saCount (setSaPn s a (x.pn + 1)) a 0 1) a 8 bytes
  if x.pn + 1 = x.threshold then
    raise s1 { cls := 10, name := "SA_PN_THRESHOLD", unit := unitId 2 7 1 0xFFF, resource := a, tenancy := x.owner,
               detail := x.pn + 1 }
  else s1

/-! ### MACsec (R419, R420) -/

/-- The nonce of a frame: SCI and PN, or under XPN the salt against SSCI and PN. -/
def macsecNonce (x : Sa) (sci pn : Nat) : List Byte :=
  if saXpn x then beBytes 12 ((x.ssci * 2 ^ 64 + pn) ^^^ x.salt) else beBytes 8 sci ++ beBytes 4 pn

/-- The SecTAG: V 0, ES 0, SC, SCB 0, E 1, C 1, AN; SL for short frames; PN; SCI. -/
def secTag (x : Sa) (plain : Nat) : List Byte :=
  beBytes 2 0x88E5 ++ beBytes 1 (bit1 (saSci x) * 32 + 12 + x.an % 4) ++ beBytes 1 (if plain < 48 then plain else 0)
    ++ beBytes 4 x.pn ++ (if saSci x then beBytes 8 x.sci else [])

/-- The protected frame. -/
def macsecSeal (x : Sa) (mat frame : List Byte) : List Byte :=
  let plain := frame.drop 12
  let head := frame.take 12 ++ secTag x plain.length
  head ++ Config.gcmSeal mat (macsecNonce x x.sci x.pn) head plain

/-- What a MACsec port does with a frame (R420): dropped, passed unchanged, or validated with its plaintext. `st`: the
association and the offset of SA_STATS that counts a failure. -/
inductive MacOutcome where
  | drop (st : Option (Nat × Nat))
  | pass (frame : List Byte) (st : Option (Nat × Nat))
  | valid (frame : List Byte) (a pn : Nat)
deriving DecidableEq, Repr

def macMode (s : State) (port : Nat) : Nat := numD s (okey 0x2361 port) 0

/-- The kind-2 association of a port, SCI and AN. -/
def findMacSa (s : State) (port sci an : Nat) : Option Nat :=
  (List.range 16384).find? (fun a =>
    let r := tget s.dict.nums (saKey a)
    match r with
    | none => false
    | some n =>
      let x := saOfRec n
      bitOf x.flags 0 && decide (x.kind = 2) && decide (x.port = port) && decide (x.sci = sci) && decide (x.an = an))

/-- The PN of a received frame: under XPN its upper half is the one nearest to pn. -/
def fullPn (x : Sa) (low : Nat) : Nat :=
  if saXpn x then
    let c := x.pn / 2 ^ 32 * 2 ^ 32 + low
    if c + 2 ^ 31 < x.pn then c + 2 ^ 32 else c
  else low

/-- Ingress on a MACsec port. A SecTAG without both E and C has protection that is not supported (R419) and fails; SL
limits the secured data of a short frame. -/
def macsecOpen (s : State) (port : Nat) (frame : List Byte) : MacOutcome :=
  let mode := macMode s port
  let et := beNat ((frame.drop 12).take 2)
  let bad := fun (st : Option (Nat × Nat)) => if mode = 2 then MacOutcome.drop st else .pass frame st
  if mode = 0 then .pass frame none
  else if et ≠ 0x88E5 then (if mode = 2 ∧ et ≠ 0x888E then .drop none else .pass frame none)
  else
    let tci := (frame.getD 14 0).toNat
    let sc := bitOf tci 5
    let sl := (frame.getD 15 0).toNat % 64
    let sci := if sc then beNat ((frame.drop 20).take 8) else beNat ((frame.drop 6).take 6) * 2 ^ 16 + 1
    let hl := if sc then 28 else 20
    if tci / 4 % 4 ≠ 3 then bad none
    else match findMacSa s port sci (tci % 4) with
    | none => bad none
    | some a =>
      let x := saOf s a
      let pn := fullPn x (beNat ((frame.drop 16).take 4))
      match saMat s x with
      | none => bad (some (a, 16))
      | some mat =>
        let body := if sl = 0 then frame.drop hl else (frame.drop hl).take (sl + 16)
        match Config.gcmOpen mat (macsecNonce x sci pn) (frame.take hl) body with
        | none => bad (some (a, 16))
        | some plain => if pn + x.window < x.pn then bad (some (a, 24)) else .valid (frame.take 12 ++ plain) a pn

/-! ### ESP (R421, R422) -/

/-- The number of VLAN tags of a frame, at most two. -/
def tagsOf (f : List Byte) : Nat :=
  let isTag := fun (o : Nat) =>
    let e := beNat ((f.drop o).take 2)
    decide (e = 0x8100) || decide (e = 0x88A8)
  if isTag 12 then (if isTag 16 then 2 else 1) else 0

/-- The first IP header of a frame: offset, version, header length, payload length, protocol; none where it is neither
IPv4 without options nor IPv6 without extension headers. -/
def firstIp (f : List Byte) : Option (Nat × Nat × Nat × Nat × Nat) :=
  let o := 14 + 4 * tagsOf f
  let et := beNat ((f.drop (o - 2)).take 2)
  let b := fun (i : Nat) => (f.getD (o + i) 0).toNat
  if et = 0x0800 ∧ b 0 = 0x45 then some (o, 4, 20, b 2 * 256 + b 3 - 20, b 9)
  else if et = 0x86DD ∧ b 0 / 16 = 6 ∧ ¬ [0, 43, 44, 51, 60, 135, 139, 140].contains (b 6) then
    some (o, 6, 40, b 4 * 256 + b 5, b 6)
  else none

/-- One's-complement sum of 16-bit words. -/
def onesSum : List Byte → Nat → Nat
  | [], n => n
  | [a], n => let m := n + a.toNat * 256; m % 65536 + m / 65536
  | a :: b :: r, n => let m := n + a.toNat * 256 + b.toNat; onesSum r (m % 65536 + m / 65536)

/-- The Internet checksum of bytes. -/
def inetSum (bs : List Byte) : Nat := 65535 - onesSum bs 0

/-- Replaces bytes from `o` on. -/
def patch (f : List Byte) (o : Nat) (bs : List Byte) : List Byte :=
  if o + bs.length ≤ f.length then f.take o ++ bs ++ f.drop (o + bs.length) else f

/-- The IPv4 header checksum at an offset is recomputed. -/
def fixIpv4 (f : List Byte) (o len : Nat) : List Byte :=
  let z := patch f (o + 10) [0, 0]
  patch z (o + 10) (beBytes 2 (inetSum ((z.drop o).take len)))

/-- Protocol and lengths of an IP header whose payload length changes. -/
def setIp (f : List Byte) (o v payload proto : Nat) : List Byte :=
  if v = 4 then fixIpv4 (patch (patch f (o + 9) (beBytes 1 proto)) (o + 2) (beBytes 2 (payload + 20))) o 20
  else patch (patch f (o + 6) (beBytes 1 proto)) (o + 4) (beBytes 2 payload)

/-- Bytes that ESP adds for a payload of `x` bytes (R423). -/
def espPad (x : Nat) : Nat := (2 + 3 * (x % 4)) % 4

def espAad (x : Sa) (pn : Nat) : List Byte := beBytes 4 x.spi ++ (if saXpn x then beBytes 8 pn else beBytes 4 pn)

def espNonce (x : Sa) (pn : Nat) : List Byte := beBytes 4 (x.salt / 2 ^ 64) ++ beBytes 8 pn

/-- ESP protect; none where the first IP header does not allow it. -/
def espSeal (x : Sa) (mat f : List Byte) : Option (List Byte) :=
  match firstIp f with
  | none => none
  | some (o, v, hl, n, proto) =>
    let body := (f.drop (o + hl)).take n
    let p := espPad n
    let plain := body ++ (List.range p).map (fun i => BitVec.ofNat 8 (i + 1)) ++ beBytes 1 p ++ beBytes 1 proto
    let esp := beBytes 4 x.spi ++ beBytes 4 x.pn ++ beBytes 8 x.pn
      ++ Config.gcmSeal mat (espNonce x x.pn) (espAad x x.pn) plain
    some (setIp (f.take (o + hl) ++ esp ++ f.drop (o + hl + n)) o v (n + 34 + p) 50)

/-- The number was accepted before, or lies below the window (R422). -/
def replayed (s : State) (a : Nat) (x : Sa) (n : Nat) : Bool :=
  if x.pn ≤ n then false
  else decide (n + x.window < x.pn) || bitOf (tgetD s.vault.replay a 0) (x.pn - 1 - n)

/-- A number is accepted: pn advances past it. -/
def acceptPn (s : State) (a : Nat) (x : Sa) (n : Nat) : State :=
  let m := tgetD s.vault.replay a 0
  let m1 := if x.pn ≤ n then (m * 2 ^ (n + 1 - x.pn) + 1) % 2 ^ 1024 else m ||| 2 ^ (x.pn - 1 - n)
  setSaPn { s with vault := { s.vault with replay := tset s.vault.replay a m1 } } a (max x.pn (n + 1))

/-- ESP validate on the recirculation path: the restored frame, or none where the frame fails. -/
def espOpen (s : State) (a : Nat) (f : List Byte) : Option (List Byte) × State :=
  let x := saOf s a
  match firstIp f, saMat s x with
  | some (o, v, hl, n, proto), some mat =>
    let b := (f.drop (o + hl)).take n
    if proto ≠ 50 ∨ beNat (b.take 4) ≠ x.spi ∨ n < 34 then (none, saCount s a 16 1)
    else
      let pn := fullPn x (beNat ((b.drop 4).take 4))
      if replayed s a x pn then (none, saCount s a 24 1)
      else match Config.gcmOpen mat (beBytes 4 (x.salt / 2 ^ 64) ++ (b.drop 8).take 8) (espAad x pn) (b.drop 16) with
        | none => (none, saCount s a 16 1)
        | some plain =>
          let p := (plain.getD (plain.length - 2) 0).toNat
          let nh := (plain.getD (plain.length - 1) 0).toNat
          let body := plain.take (plain.length - 2 - p)
          let g := setIp (f.take (o + hl) ++ body ++ f.drop (o + hl + n)) o v body.length nh
          (some g, saCount (saCount (acceptPn s a x pn) a 0 1) a 8 g.length)
  | _, _ => (none, saCount s a 16 1)

end Sys2Proof.Machine
end

