-- ==== Sys2Proof/Machine/Frame.lean ====
section
/-! DEFINITION. The frame a packet leaves as (R168-R170, R216, R423): its edits all at once, templates filled in, checksums corrected,
the frame bytes F. -/

namespace Sys2Proof.Machine

/-! ### Edits (R168, R169) -/

/-- The byte is removed by an edit. -/
def isRemoved (es : List Edit) (i : Nat) : Bool :=
  es.any (fun e => decide (e.op = 2) && decide (e.off ≤ i) && decide (i < e.off + e.param))

/-- Two spans meet. -/
def spansMeet (a b : Nat × Nat) : Bool := decide (a.1 < b.1 + b.2) && decide (b.1 < a.1 + a.2)

/-- Two edits' affected bytes overlap, or an insertion lies strictly inside a removed range (R169). -/
def editsClash (p : Packet) : List Edit → Bool
  | [] => false
  | e :: es =>
    es.any (fun g =>
      (decide (e.op ≠ 1) && decide (g.op ≠ 1) && spansMeet (editSpan p e) (editSpan p g))
      || (decide (e.op = 1) && decide (g.op = 2) && decide (g.off < e.off) && decide (e.off < g.off + g.param))
      || (decide (g.op = 1) && decide (e.op = 2) && decide (e.off < g.off) && decide (g.off < e.off + e.param)))
    || editsClash p es

/-- A template record (R170). -/
def tplField (r off n : Nat) : Nat := recField 72 off n r
def tplLen (r : Nat) : Nat := tplField r 0 1
def tplOk (r : Nat) : Bool := decide (4 ≤ tplLen r) && decide (tplLen r ≤ 64)
def tplBytes (r : Nat) : List Byte := (beBytes 64 (tplField r 8 64)).take (tplLen r)

/-- The received bytes after the set and decrement edits. -/
def setBytes (f : List Byte) : List Edit → List Byte
  | [] => f
  | e :: es =>
    let g := if e.op = 4 then patch f e.off (beBytes (e.param % 4 + 1) e.arg.toNat)
      else if e.op = 3 then
        (let o := if (f.getD e.off 0).toNat / 16 = 4 then e.off + 8 else e.off + 7
         patch f o (beBytes 1 ((f.getD o 0).toNat - 1)))
      else f
    setBytes g es

/-- A decrement meets a TTL or hop limit of 0 or 1. -/
def ttlExpired (f : List Byte) (es : List Edit) : Bool :=
  es.any (fun e => decide (e.op = 3) &&
    (let o := if (f.getD e.off 0).toNat / 16 = 4 then e.off + 8 else e.off + 7
     decide ((f.getD o 0).toNat ≤ 1)))

/-! ### Checksums of received headers (R170) -/

/-- A range of received bytes has a byte removed. -/
def rangeCut (es : List Edit) (o n : Nat) : Bool :=
  es.any (fun e => decide (e.op = 2) && spansMeet (e.off, e.param) (o, n))

/-- A set or decrement changes a byte of a range. -/
def rangeSet (p : Packet) (es : List Edit) (o n : Nat) : Bool :=
  es.any (fun e => (decide (e.op = 3) || decide (e.op = 4)) && spansMeet (editSpan p e) (o, n))

/-- A set changes a byte of a range. -/
def rangeSet4 (p : Packet) (es : List Edit) (o n : Nat) : Bool :=
  es.any (fun e => decide (e.op = 4) && spansMeet (editSpan p e) (o, n))

def word16 (f : List Byte) (o : Nat) : Nat := beNat ((f.drop o).take 2)

/-- The 16-bit one's-complement update of RFC 1624 over the words of a range that differ. -/
def updateSum (old new : List Byte) (o n sum : Nat) : Nat :=
  (List.range (n / 2)).foldl (fun c i =>
    let a := word16 old (o + 2 * i)
    let b := word16 new (o + 2 * i)
    if a = b then c
    else
      let t := (65535 - c) + (65535 - a) + b
      let u := t % 65536 + t / 65536
      65535 - (u % 65536 + u / 65536)) sum

/-- The protocol of the header at `l4` behind an IPv6 header: the extension headers before it are followed, from one of
kind `n` at `o` (hop-by-hop 0, routing 43, fragment 44, authentication 51, destination options 60, mobility 135; log entry 43). -/
def chainProto : Nat → List Byte → Nat → Nat → Nat → Nat
  | 0, _, _, _, n => n
  | fuel + 1, bs, l4, o, n =>
    if o < l4 ∧ n ∈ [0, 43, 44, 51, 60, 135] then
      let k := (bs.getD (o + 1) 0).toNat
      let len := if n = 44 then 8 else if n = 51 then (k + 2) * 4 else (k + 1) * 8
      chainProto fuel bs l4 (o + len) (bs.getD o 0).toNat
    else n

/-- The L4 checksum at an anchor is updated for changed addresses and ports. -/
def fixL4 (p : Packet) (es : List Edit) (l3 l4 : Nat) (g : List Byte) : List Byte :=
  if l3 = 0 ∨ l4 = 0 then g
  else
    let v := ipVersion p l3
    let hl := if v = 4 then (p.bytes.getD l3 0).toNat % 16 * 4 else 40
    let ao := if v = 4 then l3 + 12 else l3 + 8
    let an := if v = 4 then 8 else 32
    let proto := if v = 4 then (p.bytes.getD (l3 + 9) 0).toNat
      else if v = 6 then chainProto 64 p.bytes l4 (l3 + 40) (p.bytes.getD (l3 + 6) 0).toNat else 59
    let so := if proto = 6 then l4 + 16 else l4 + 6
    let ll := if proto = 6 then (p.bytes.getD (l4 + 12) 0).toNat / 16 * 4 else 8
    let addr := (decide (v = 4) || decide (v = 6)) && rangeSet4 p es ao an
    let port := rangeSet4 p es l4 4
    if (proto ≠ 6 ∧ proto ≠ 17) ∨ ¬ (addr || port) ∨ rangeCut es l3 hl ∨ rangeCut es l4 ll then g
    else
      let sum := word16 g so
      if proto = 17 ∧ sum = 0 then g
      else
        let s1 := if addr then updateSum p.bytes g ao an sum else sum
        let s2 := if port then updateSum p.bytes g l4 4 s1 else s1
        patch g so (beBytes 2 s2)

/-- The header checksum of an IPv4 header at an anchor is recomputed. -/
def fixL3 (p : Packet) (es : List Edit) (l3 : Nat) (g : List Byte) : List Byte :=
  let hl := (p.bytes.getD l3 0).toNat % 16 * 4
  if l3 = 0 ∨ ipVersion p l3 ≠ 4 ∨ rangeCut es l3 hl ∨ ¬ rangeSet p es l3 hl then g else fixIpv4 g l3 hl

/-- Received bytes with every set, decrement and correction in place. -/
def correctedBytes (p : Packet) (es : List Edit) : List Byte :=
  let g := setBytes p.bytes es
  let a := fixL4 p es (anchorValue p 1) (anchorValue p 2) g
  let b := fixL4 p es (anchorValue p 4) (anchorValue p 5) a
  fixL3 p es (anchorValue p 4) (fixL3 p es (anchorValue p 1) b)

/-! ### Putting the frame together -/

/-- The pieces of the edited frame: a template's number with its bytes, or received bytes. -/
def pieces (tpl : Nat → Nat) (es : List Edit) (g : List Byte) : List (Option Nat × List Byte) :=
  let ins := fun (i : Nat) => (es.filter (fun e => decide (e.op = 1) && decide (e.off = i))).map
    (fun e => (some e.param, tplBytes (tpl e.param)))
  ((List.range g.length).flatMap (fun i =>
    ins i ++ (if isRemoved es i then [] else [(none, [g.getD i 0])]))) ++ ins g.length

/-- A template's fields are filled in where it starts at `o` of a frame (R170). -/
def fillTemplate (r hash o : Nat) (f : List Byte) : List Byte :=
  let l := f.length
  let ip := tplField r 1 1
  let udp := tplField r 3 1
  let a := if ip = 0xFF then f
    else if tplField r 2 1 = 4 then patch f (o + ip + 2) (beBytes 2 (l - (o + ip)))
    else patch f (o + ip + 4) (beBytes 2 (l - (o + ip + 40)))
  let b := if udp = 0xFF then a
    else patch (patch a (o + udp + 4) (beBytes 2 (l - (o + udp)))) (o + udp + 6) [0, 0]
  let c := if udp ≠ 0xFF ∧ bitOf (tplField r 4 1) 0 then patch b (o + udp) (beBytes 2 (0xC000 ||| hash % 0x4000)) else b
  if ip ≠ 0xFF ∧ tplField r 2 1 = 4 then fixIpv4 c (o + ip) ((c.getD (o + ip) 0).toNat % 16 * 4) else c

/-- Fills in every template of a list of pieces. -/
def fillAll (tpl : Nat → Nat) (hash : Nat) : List (Option Nat × List Byte) → Nat → List Byte → List Byte
  | [], _, f => f
  | (none, bs) :: r, o, f => fillAll tpl hash r (o + bs.length) f
  | (some t, bs) :: r, o, f => fillAll tpl hash r (o + bs.length) (fillTemplate (tpl t) hash o f)

/-- The Vale that processed a packet (word 0). -/
def procVale (p : Packet) : Vale := if recBits p 0 32 1 = 1 then .west else .east

def tplOf (s : State) (p : Packet) (t : Nat) : Nat := cfgNum s p.epoch (templateKey (procVale p) t) 0

/-- The packet's edits name a template that is unwritten, out of range or marked bad. -/
def tplMissing (s : State) (p : Packet) : Bool :=
  p.edits.any (fun e => decide (e.op = 1) && !tplOk (tplOf s p e.param))
  || (decide (p.template ≠ 0xFFFF) && !tplOk (tplOf s p p.template))

def tplBad (s : State) (p : Packet) : Bool :=
  let bad := fun t => entryBad s (procVale p) (12288 + t) p.epoch
  p.edits.any (fun e => decide (e.op = 1) && bad e.param) || (decide (p.template ≠ 0xFFFF) && bad p.template)

/-- The edited frame: the edits, then a member's template at the frame's start (R242). -/
def editedFrame (s : State) (p : Packet) : List Byte :=
  let tpl := tplOf s p
  let hash := recBits p 14 0 32
  let ps := pieces tpl p.edits (correctedBytes p p.edits)
  let f := fillAll tpl hash ps 0 (ps.flatMap (·.2))
  if p.template = 0xFFFF then f
  else fillTemplate (tpl p.template) hash 0 (tplBytes (tpl p.template) ++ f)

/-! ### Frame bytes (R216, R423) -/

/-- Bytes that inline crypto adds; none where ESP finds no IP header that admits it. -/
def cryptoAdds (s : State) (p : Packet) (f : List Byte) : Option Nat :=
  let op := recBits p 12 34 2
  if op = 1 then some (if saSci (saOf s (recBits p 12 0 16)) then 32 else 24)
  else if op = 2 ∧ recBits p 12 33 1 = 0 then (firstIp f).map (fun q => 34 + espPad q.2.2.2.1)
  else some 0

/-- One bit, and one byte, of the CRC-32 of IEEE 802.3. -/
def fcsBit (c : BitVec 32) : BitVec 32 := if c.getLsbD 0 then (c >>> 1) ^^^ 0xEDB88320#32 else c >>> 1

def fcsByte (c : BitVec 32) (b : Byte) : BitVec 32 := (List.range 8).foldl (fun x _ => fcsBit x) (c ^^^ b.zeroExtend 32)

/-- The FCS that the MAC appends to a frame (R74, by IEEE 802.3), in the order of the wire. -/
def fcsOf (bs : List Byte) : List Byte := (beBytes 4 (~~~ (bs.foldl fcsByte 0xFFFFFFFF#32)).toNat).reverse

/-- F of a frame toward a port node: padding and FCS on network ports. -/
def frameBytes (network : Bool) (len adds : Nat) : Nat :=
  if network then max 60 len + adds + 4 else len + adds

end Sys2Proof.Machine
end

