-- ==== Sys2Proof/Machine/TmBase.lean ====
section
/-! DEFINITION. The scheduling tree of a Vale (R205-R208, R225), queues and shapers (R209, R217-R220), the Floodplain area (R224),
gates (R235-R239) and eligibility (R212). -/

namespace Sys2Proof.Machine

/-! ### Elements and records (R206, R207, R209, R217) -/

def elemId (level idx : Nat) : Nat := level * 0x10000000 + idx
def elemLevel (e : Nat) : Nat := e / 0x10000000
def elemIdx (e : Nat) : Nat := e % 0x10000

def nodeIndex (level : Nat) : Nat :=
  if level = 2 then 0x4020 else if level = 3 then 0x4030 else if level = 4 then 0x4040 else 0x4010

/-- The key of a node record. -/
def nodeKey (v : Vale) (level i : Nat) : Nat := vkey v (nodeIndex level + i / 128) (i % 128)

def nodeCount (level : Nat) : Nat := if level = 1 then 15 else if level = 2 then 512 else if level = 3 then 2048 else 16384

/-- A class node's record has weight 1 until it is written. -/
def nodeDefault (level : Nat) : Nat := if level = 4 then 256 ^ 7 else 0

def nodeParent (r : Nat) : Nat := recField 16 0 4 r
def nodeOwner (r : Nat) : Handle := BitVec.ofNat 32 (recField 16 4 4 r)
def nodeWeight (r : Nat) : Nat := recField 16 8 1 r

/-- The active values, or with the staged ones laid over them. -/
def treeNums (s : State) (staged : Bool) : Tab Nat :=
  if staged then s.dict.staged.foldl (fun t p => tset t p.1 p.2) s.dict.nums else s.dict.nums

/-- The records of a level that are listed in a tree. -/
def nodesIn (t : Tab Nat) (v : Vale) (level : Nat) : List (Nat × Nat) :=
  let base := nodeIndex level + valeOff v
  t.filterMap (fun p =>
    let i := p.1 / 256
    if base ≤ i ∧ i < base + nodeCount level / 128 then some ((i - base) * 128 + p.1 % 256, p.2) else none)

def nodeRec (t : Tab Nat) (v : Vale) (level i : Nat) : Nat := tgetD t (nodeKey v level i) (nodeDefault level)

/-- A tenancy node is in a tree. -/
def tenNodeIn (t : Tab Nat) (v : Vale) (i : Nat) : Bool := decide (nodeWeight (nodeRec t v 3 i) ≠ 0)

/-- A port node has switched to the N+1 tree (R225). -/
def portSwitched (s : State) (v : Vale) (n : Nat) : Bool := s.epoch.switched.contains (valeNum v * 16 + n)

/-- The tree a port node schedules under. -/
def portTree (s : State) (v : Vale) (n : Nat) : Tab Nat := treeNums s (portSwitched s v n)

/-- The port node above a class node in a tree. -/
def portAbove (t : Tab Nat) (v : Vale) (c : Nat) : Option Nat :=
  let ten := nodeRec t v 3 (c / 8)
  if nodeWeight ten = 0 ∨ elemLevel (nodeParent ten) ≠ 2 then none
  else
    let g := nodeRec t v 2 (elemIdx (nodeParent ten))
    if nodeWeight g = 0 ∨ elemLevel (nodeParent g) ≠ 1 then none else some (elemIdx (nodeParent g))

/-! ### Queues -/

def queueKey (v : Vale) (q : Nat) : Nat := vkey v (0x4100 + q / 128) (q % 128)

/-- QUEUE_CONF of a queue. -/
def queueConf (s : State) (v : Vale) (q : Nat) : Nat := numD s (queueKey v q) 0

def qOwner (r : Nat) : Handle := BitVec.ofNat 32 (recField 32 0 4 r)
def qClass (r : Nat) : Nat := recField 32 4 4 r
def qDest (r : Nat) : Nat := recField 32 8 4 r
def qWeight (r : Nat) : Nat := recField 32 12 1 r
def qSpill (r : Nat) : Bool := bitOf (recField 32 13 1 r) 0
def qBurst (r : Nat) : Nat := recField 32 14 2 r
def qMax (r : Nat) : Nat := recField 32 16 4 r
def qSpillOn (r : Nat) : Nat := recField 32 20 4 r
def qRefill (r : Nat) : Nat := recField 32 24 4 r

def State.modTm (s : State) (v : Vale) (f : TmState → TmState) : State := s.modVale v (fun x => { x with tm := f x.tm })

def setTmQueue (s : State) (v : Vale) (q : Nat) (x : TmQueue) : State :=
  s.modTm v (fun t => { t with queues := tset t.queues q x })

/-- The port node of a queue: under the N tree, or the N+1 tree where that port has switched. -/
def queuePort (s : State) (v : Vale) (q : Nat) : Option Nat :=
  let c := elemIdx (qClass (queueConf s v q))
  match portAbove s.dict.nums v c with
  | some n => if portSwitched s v n then portAbove (treeNums s true) v c else some n
  | none => portAbove (treeNums s true) v c

/-- The elements from a queue up to its port node, in the tree of port node `n`. -/
def queuePath (s : State) (v : Vale) (n q : Nat) : List Nat :=
  let c := elemIdx (qClass (queueConf s v q))
  [elemId 5 q, elemId 4 c, elemId 3 (c / 8), nodeParent (nodeRec (portTree s v n) v 3 (c / 8)), elemId 1 n]

def queueEmpty (x : TmQueue) : Bool := x.basin.isEmpty && x.flood.isEmpty

/-- The port node exists (R205). -/
def portNodeExists (s : State) (v : Vale) (n : Nat) : Bool :=
  if n < 8 then portFormed Config.hx (portMode s v) n else true

/-! ### Shapers (R217-R220) -/

def shaperKind (v : Vale) : Nat := 0x14 + valeNum v
def shaperKey (v : Vale) (i : Nat) : Nat := vkey v (0x4300 + i / 128) (i % 128)

def shTarget (r : Nat) : Nat := recField 16 0 4 r
def shRate (r : Nat) : Nat := recField 16 4 4 r
def shBurst (r : Nat) : Nat := recField 16 8 4 r
def signed8 (x : Nat) : Int := if x < 128 then (x : Int) else (x : Int) - 256
def shOverhead (r : Nat) : Int := signed8 (recField 16 12 1 r)
def shResetFull (r : Nat) : Bool := bitOf (recField 16 13 1 r) 0

/-- The shaper in force on an element. -/
def shaperOn (s : State) (v : Vale) (e : Nat) : Option (Nat × Shaper) :=
  (s.vale v).tm.shapers.find? (fun p => decide (shTarget p.2.act = e))

def shaperAllows (s : State) (v : Vale) (e : Nat) : Bool :=
  match shaperOn s v e with
  | some p => decide (0 < p.2.tokens)
  | none => true

/-- The shaper of an element is charged for a packet of `f` frame bytes. -/
def chargeShaper (f : Nat) (v : Vale) (s : State) (e : Nat) : State :=
  match shaperOn s v e with
  | none => s
  | some (i, x) =>
    let n : Int := max ((f : Int) + shOverhead x.act) 1
    s.modTm v (fun t => { t with shapers := tset t.shapers i { x with tokens := x.tokens - n * 65536 } })

/-! ### Deficits (R213, R214) -/

def deficitOf (s : State) (v : Vale) (e : Nat) : Int := tgetD (s.vale v).tm.deficits e 0

def setDeficit (v : Vale) (s : State) (e : Nat) (d : Int) : State :=
  s.modTm v (fun t => { t with deficits := tset t.deficits e d })

/-- A packet is queued below an element of the path of queue `q` under port node `n`. -/
def emptyBelow (s : State) (v : Vale) (n : Nat) (e : Nat) : Bool :=
  (s.vale v).tm.queues.all (fun p => queueEmpty p.2 || !(queuePath s v n p.1).contains e)

/-- Elements of a queue's path that are empty keep no positive deficit (R214). -/
def settle (s : State) (v : Vale) (n q : Nat) : State :=
  (queuePath s v n q).foldl (fun a e =>
    if 0 < deficitOf a v e ∧ emptyBelow a v n e then setDeficit v a e 0 else a) s

/-- Every element that a drop has emptied keeps no positive deficit (R214). -/
def settleAll (s : State) (v : Vale) : State :=
  (s.vale v).tm.deficits.foldl (fun a p =>
    if 0 < p.2 ∧ (a.vale v).tm.queues.all (fun q => queueEmpty q.2
        || !(queuePath a v ((queuePort a v q.1).getD 15) q.1).contains p.1) then setDeficit v a p.1 0 else a) s

/-- Nodes that a commit has removed have no deficit: added again they start at 0 (R214). -/
def dropDeficits (s : State) (v : Vale) : State :=
  s.modTm v (fun t => { t with deficits := tfilter t.deficits (fun e _ =>
    (decide (elemLevel e ≠ 2) || decide (nodeWeight (nodeRec s.dict.nums v 2 (elemIdx e)) ≠ 0))
    && (decide (elemLevel e ≠ 3) || tenNodeIn s.dict.nums v (elemIdx e))
    && (decide (elemLevel e ≠ 4) || tenNodeIn s.dict.nums v (elemIdx e / 8))) })

/-! ### The Floodplain area (R224, R390) -/

def stackOf (v : Vale) : Nat := valeNum v

/-- The area in force: FLOOD_SIZE up to the reservation made at chip reset. -/
def floodGib (s : State) (v : Vale) : Nat := min (numD s (vkey v 0x4001 1) 8) (carveOf s (stackOf v)).flood

/-- The offset of the reservation in its stack: the top of it (R390). -/
def floodOffset (s : State) (v : Vale) : Nat := (24 - (carveOf s (stackOf v)).flood) * gib

/-- Bytes of 2 MiB frames of the area that are not in a retired bank set. -/
def floodUsable (s : State) (v : Vale) : Nat :=
  (List.range (floodGib s v * 512)).foldl (fun n i =>
    if hbmRetired s (stackOf v) (floodOffset s v + i * 0x200000) then n else n + 0x200000) 0

/-- Bytes of the area in use. -/
def floodUsed (s : State) (v : Vale) : Nat :=
  (s.vale v).tm.queues.foldl (fun n p => n + cellsIn s v p.2.flood * 256) 0

def floodFree (s : State) (v : Vale) : Nat := floodUsable s v - floodUsed s v

/-- Packets that wait for their HBM write. -/
def spillsPending (s : State) (v : Vale) : Nat :=
  ((s.vale v).path.packets.filter (fun q => match q.2.loc with | .spilling _ => true | _ => false)).length

/-- The Floodplain can take a packet of `cells` cells (R221). -/
def floodTakes (s : State) (v : Vale) (cells : Nat) : Bool :=
  decide (cells * 256 ≤ floodFree s v) && decide (spillsPending s v < 32768)

/-! ### Gates (R235-R239) -/

def gateOf (s : State) (v : Vale) (n : Nat) : Gate := tgetD (s.vale v).tm.gates n {}

def cycleNs (l : GateList) : Nat := l.entries.foldl (fun n e => n + e.1) 0

/-- Device time in sixteenths of a nanosecond. -/
def now16 (s : State) : Nat := nowNs s * 16 + s.time.frac

/-- The entry at an offset of the cycle and what is left of it; times in sixteenths of a nanosecond. -/
def entryAt : List (Nat × Nat) → Nat → Nat → Nat × Nat
  | [], _, i => (i, 0)
  | e :: r, o, i => if o < e.1 * 16 then (i, e.1 * 16 - o) else entryAt r (o - e.1 * 16) (i + 1)

/-- Where device time stands in a list: entry, time left of it. -/
def gatePos (s : State) (l : GateList) : Nat × Nat :=
  let c : Int := (cycleNs l * 16 : Nat)
  entryAt l.entries (((now16 s : Int) - (l.base * 16 : Nat)) % c).toNat 0

def opens (c : Nat) (e : Nat × Nat) : Bool := bitOf e.2 c

/-- The open time that follows directly after entry `i` of a list, over one whole cycle at most. -/
def openRun (l : GateList) (c i : Nat) : Nat :=
  (((l.entries.drop (i + 1)) ++ l.entries.take i).takeWhile (opens c)).foldl (fun n e => n + e.1 * 16) 0

/-- What is left of the window of class `c`: none where it is closed, `some none` where it has no end (R238). -/
def windowLeft (s : State) (v : Vale) (n c : Nat) : Option (Option Nat) :=
  let g := gateOf s v n
  if !g.act.enable then some none
  else if g.act.entries.all (opens c) then some none
  else
    let p := gatePos s g.act
    if opens c (g.act.entries.getD p.1 (0, 0)) && opens c (g.act.entries.getD g.pos (0, 0)) then
      some (some (p.2 + openRun g.act c p.1))
    else none

/-- The longest window of class `c`; none where it has no end. -/
def longestWindow (l : GateList) (c : Nat) : Option Nat :=
  if l.entries.all (opens c) then none
  else some ((List.range l.entries.length).foldl (fun m i =>
    let e := l.entries.getD i (0, 0)
    if opens c e then max m (e.1 * 16 + openRun l c i) else m) 0)

/-- MAC data rate in Gb/s of a Vale's ports (R72). -/
def portGbps (hx : Bool) (mode : Nat) : Nat :=
  let r := if mode = 0 then 1600 else if mode = 1 then 800 else if mode = 2 then 400 else if mode = 3 then 200 else 100
  if hx ∧ mode < 4 then r / 2 else r

/-- Transmission time of a frame in sixteenths of a nanosecond, rounded up (R238). -/
def txTime16 (s : State) (v : Vale) (n f : Nat) : Nat :=
  ceilDiv ((((f : Int) + (gateOf s v n).act.overhead).toNat) * 128) (portGbps Config.hx (portMode s v))

/-- The frame fits its class's window. -/
def gateFits (s : State) (v : Vale) (n c f : Nat) : Bool :=
  if 8 ≤ n then true
  else match windowLeft s v n c with
    | none => false
    | some none => true
    | some (some w) => decide (txTime16 s v n f ≤ w)

/-! ### Destinations (R85, R212) -/

/-- A queue's destination can accept one more packet, or the port node would drop it. -/
def destAccepts (s : State) (v : Vale) (n : Nat) (q : Nat) : Bool :=
  let d := qDest (queueConf s v q)
  let h : Handle := BitVec.ofNat 32 d
  if n < 8 then true
  else if n = 8 then
    if !handleCurrent s h then true
    else match ctxOf s (hIdx h) with
      | some x => if rxAlive s x then rxEntryFree s (hIdx h) x else true
      | none => true
  else if n < 13 then
    if !handleCurrent s h then true
    else match regionOf s (hIdx h) with
      | some x =>
        if regionOpen x then
          decide (rxHeld x + countAt s .east (.toSaddle (hIdx h)) + countAt s .west (.toSaddle (hIdx h)) < rxSlots s x)
        else true
      | none => true
  else if n = 13 then !sringFull (sringOf s (1024 + d))
  else true

/-! ### Eligibility and choice (R212, R213) -/

/-- Frame bytes of a queue's head packet in Basin. -/
def headBytes (s : State) (v : Vale) (q : Nat) : Option Nat :=
  match (tmQueue s v q).basin with
  | [] => none
  | i :: _ => (pktAt s v i).map (·.flen)

def queueEligible (s : State) (v : Vale) (n q : Nat) : Bool :=
  (headBytes s v q).isSome && shaperAllows s v (elemId 5 q) && destAccepts s v n q

/-- Eligible queues below a class node, whose packets this port node schedules: one whose port changes with the epoch is
scheduled below its old port until that has switched (R225). -/
def eligQueues (s : State) (v : Vale) (n c : Nat) : List Nat :=
  ((s.vale v).tm.queues.filter (fun p =>
    decide (qClass (queueConf s v p.1) = elemId 4 c) && decide (queuePort s v p.1 = some n) && queueEligible s v n p.1)).map (·.1)

/-- A node's current child, and whether its visit may go on. -/
def curChild (s : State) (v : Vale) (e : Nat) : Option (Nat × Bool) :=
  (tget (s.vale v).tm.visits e).map (fun x => (x.child, x.now))

/-- The choice of a node among the eligible children of a level. -/
def pickChild (s : State) (v : Vale) (node level : Nat) (weight : Nat → Nat) (kids : List Nat) :
    Option (Nat × List (Nat × Int) × Bool) :=
  drrPick kids (fun k => weight k * 64) (fun k => deficitOf s v (elemId level k)) (curChild s v node)

/-- The queue a class node would serve next. -/
def pickQueue (s : State) (v : Vale) (n c : Nat) : Option (Nat × List (Nat × Int) × Bool) :=
  pickChild s v (elemId 4 c) 5 (fun q => qWeight (queueConf s v q)) (eligQueues s v n c)

/-- A class node is eligible but for its gate. -/
def classReady (s : State) (v : Vale) (n : Nat) (t : Tab Nat) (c : Nat) : Bool :=
  decide (nodeWeight (nodeRec t v 4 c) ≠ 0) && shaperAllows s v (elemId 4 c) && !(eligQueues s v n c).isEmpty

def classEligible (s : State) (v : Vale) (n : Nat) (t : Tab Nat) (c : Nat) : Bool :=
  classReady s v n t c &&
    match pickQueue s v n c with
    | some (q, _, _) => (match headBytes s v q with
      | some f => gateFits s v n (c % 8) f
      | none => false)
    | none => false

def eligClasses (s : State) (v : Vale) (n : Nat) (t : Tab Nat) (ten : Nat) : List Nat :=
  ((List.range 8).map (fun k => 8 * ten + k)).filter (classEligible s v n t)

def eligTens (s : State) (v : Vale) (n : Nat) (t : Tab Nat) (g : Nat) : List Nat :=
  ((nodesIn t v 3).filter (fun p =>
    decide (nodeWeight p.2 ≠ 0) && decide (nodeParent p.2 = elemId 2 g) && shaperAllows s v (elemId 3 p.1)
      && !(eligClasses s v n t p.1).isEmpty)).map (·.1)

def eligGroups (s : State) (v : Vale) (n : Nat) (t : Tab Nat) : List Nat :=
  ((nodesIn t v 2).filter (fun p =>
    decide (nodeWeight p.2 ≠ 0) && decide (nodeParent p.2 = elemId 1 n) && shaperAllows s v (elemId 2 p.1)
      && !(eligTens s v n t p.1).isEmpty)).map (·.1)

/-- The choice from a port node down to a queue: by level the node, the child chosen, the deficits credited on the way and
whether the visit goes on. -/
structure Choice where
  queue : Nat
  steps : List (Nat × Nat × List (Nat × Int) × Bool)

def choosePacket (s : State) (v : Vale) (n : Nat) : Option Choice :=
  let t := portTree s v n
  if !shaperAllows s v (elemId 1 n) then none
  else
    match pickChild s v (elemId 1 n) 2 (fun g => nodeWeight (nodeRec t v 2 g)) (eligGroups s v n t) with
    | none => none
    | some (g, d1, w1) =>
      match pickChild s v (elemId 2 g) 3 (fun x => nodeWeight (nodeRec t v 3 x)) (eligTens s v n t g) with
      | none => none
      | some (x, d2, w2) =>
        match pickChild s v (elemId 3 x) 4 (fun c => nodeWeight (nodeRec t v 4 c)) (eligClasses s v n t x) with
        | none => none
        | some (c, d3, w3) =>
          match pickQueue s v n c with
          | none => none
          | some (q, d4, w4) =>
            some { queue := q, steps := [(elemId 1 n, elemId 2 g, d1, w1), (elemId 2 g, elemId 3 x, d2, w2),
                                         (elemId 3 x, elemId 4 c, d3, w3), (elemId 4 c, elemId 5 q, d4, w4)] }

/-- One level of a dequeue of `f` bytes: the credits of the visits on the way, the charge, and whether the visit goes on
(R213). -/
def chargeStep (v : Vale) (f : Nat) (s : State) (st : Nat × Nat × List (Nat × Int) × Bool) : State :=
  let level := elemLevel st.2.1
  let s1 := st.2.2.1.foldl (fun a p => setDeficit v a (elemId level p.1) p.2) s
  let d := deficitOf s1 v st.2.1 - (f : Int)
  let s2 := setDeficit v s1 st.2.1 d
  let old := tgetD (s2.vale v).tm.visits st.1 {}
  let sent := (if st.2.2.2 then old.sent else 0) + f
  let burst := decide (level = 5) && decide (qBurst (queueConf s v (elemIdx st.2.1)) ≤ sent)
  let next : Visit := { child := elemIdx st.2.1, now := decide (0 < d) && !burst, sent := sent }
  s2.modTm v (fun x => { x with visits := tset x.visits st.1 next })

/-- A child of a node is eligible (R212), below port node `n` in its tree. -/
def childEligible (s : State) (v : Vale) (n : Nat) (t : Tab Nat) (e : Nat) : Bool :=
  let i := elemIdx e
  let node := fun (l : Nat) => decide (nodeWeight (nodeRec t v l i) ≠ 0) && shaperAllows s v e
  if elemLevel e = 5 then queueEligible s v n i
  else if elemLevel e = 4 then classEligible s v n t i
  else if elemLevel e = 3 then node 3 && !(eligClasses s v n t i).isEmpty
  else node 2 && !(eligTens s v n t i).isEmpty

/-- After a dequeue, the visit to each child of the path that is no longer eligible ends (R213). -/
def endVisits (s : State) (v : Vale) (n : Nat) (c : Choice) : State :=
  let t := portTree s v n
  let gone := c.steps.filter (fun st => !childEligible s v n t st.2.1)
  s.modTm v (fun x => { x with
    visits := gone.foldl (fun w st => tmod w st.1 {} (fun y => { y with now := false })) x.visits })

/-- The dequeue's charges on every level and every shaper of the path. -/
def chargeDequeue (s : State) (v : Vale) (n : Nat) (c : Choice) (f : Nat) : State :=
  (queuePath s v n c.queue).foldl (chargeShaper f v) (c.steps.foldl (chargeStep v f) s)

end Sys2Proof.Machine
end

