-- ==== Sys2Proof/Machine/Telem.lean ====
section
/-! DEFINITION. The telemetry ring, egress timestamps and queue samples (R75, R244-R246, R248). -/

namespace Sys2Proof.Machine

/-! ### The ring (R245, R246) -/

def telemSize (x : TelemRing) : Nat := 2 ^ x.log2
def telemBase (x : TelemRing) : Nat := x.baseHi.toNat * 2 ^ 32 + x.baseLo.toNat
def telemHeld (x : TelemRing) : Nat := (x.prod + 32768 - x.cons) % telemSize x

/-- The ring's memory can be written: PF0 issues requests, or the address lies in DDR5 or HBM. -/
def telemWritable (s : State) (x : TelemRing) (a : Nat) : Bool :=
  if x.space then decide ((fnOf s 0).flr = 0) && !fnHalted s 0 && !(fnOf s 0).silenced else inDdrHbm s a 32

/-- An entry goes into the ring with the phase of the current pass; a full ring discards it, a write that fails halts the
ring. -/
def telemPush (s : State) (v : Vale) (entry : List Byte) : State :=
  let x := (s.vale v).tm.ring
  let a := telemBase x + 32 * x.prod
  if telemHeld x + 1 = telemSize x then
    s.modTm v (fun t => { t with ring := { x with drops := (x.drops + 1) % 2 ^ 32 } })
  else if !telemWritable s x a then
    raise (s.modTm v (fun t => { t with ring := { x with en := false } }))
      { cls := 4, name := "TELEM_RING_HALTED", unit := valeBlock v 145 }
  else
    let e := patch entry 1 [BitVec.ofNat 8 (bit1 x.phase * 128)]
    let s1 := if x.space then hostWrite s 0 a e else writeInt s a e
    let y : TelemRing := { x with prod := (x.prod + 1) % telemSize x,
                                  phase := if x.prod + 1 = telemSize x then !x.phase else x.phase }
    let s2 := s1.modTm v (fun t => { t with ring := y })
    if x.intEn && decide (telemHeld y = telemSize y / 2 + 1) then ringVector s2 x.space x.vector else s2

/-- An egress timestamp entry; discarded and counted while the ring is not enabled. -/
def telemTimestamp (s : State) (v : Vale) (port : Nat) (p : Packet) : State :=
  let x := (s.vale v).tm.ring
  if x.en then
    telemPush s v (beBytes 1 2 ++ beBytes 1 0 ++ beBytes 1 port ++ beBytes 1 p.srcClass ++ beBytes 4 (recBits p 4 0 32)
      ++ beBytes 4 (recBits p 3 0 32) ++ beBytes 4 (s.time.sec % 2 ^ 32) ++ beBytes 4 s.time.ns ++ beBytes 1 s.time.frac
      ++ beBytes 1 0 ++ beBytes 2 p.srcIndex ++ beBytes 8 0)
  else s.modTm v (fun t => { t with ring := { x with drops := (x.drops + 1) % 2 ^ 32 } })

/-! ### Samples (R244) -/

/-- A kind 1 entry of a queue. -/
def queueSample (s : State) (v : Vale) (q : Nat) : List Byte :=
  let x := tmQueue s v q
  let packets := x.basin.length + x.flood.length
  let head := match x.basin ++ x.flood with
    | [] => 0
    | i :: _ => nowNs s - (match pktAt s v i with | some p => p.enqNs | none => nowNs s)
  let sat := fun (n : Nat) => min n (2 ^ 32 - 1)
  beBytes 4 0x01000000 ++ beBytes 4 (handleOf s (queueKind v) q).toNat ++ beBytes 4 (s.time.sec % 2 ^ 32)
    ++ beBytes 4 s.time.ns ++ beBytes 4 (queueDepth s v x) ++ beBytes 4 packets ++ beBytes 4 (sat head) ++ beBytes 4 (sat x.high)

/-- A sample goes to the ring, or while it is off to Glen as a telemetry notification under R66. -/
def deliverSample (s : State) (v : Vale) (e : List Byte) : State :=
  if (s.vale v).tm.ring.en then telemPush s v e
  else
    let t := tgetD s.idien.telemTokens (valeNum v) (1024 * token)
    if t < token then count s (okey 0x1105 4)
    else
      let s1 := { s with idien := { s.idien with telemTokens := tset s.idien.telemTokens (valeNum v) (t - token) } }
      s1.modTm v (fun x => { x with log := keep 32 (e :: x.log) })

def watchKey (v : Vale) (w : Nat) : Nat := vkey v (0x4700 + w / 128) (w % 128)

/-- Ticks of a watch entry's interval. -/
def watchTicks (r : Nat) : Nat := recField 8 4 4 r * 125

/-- A watch entry's sample point (R244); points passed by a whole interval or more are skipped and counted. -/
def execTelemSample (v : Vale) (w : Fin 4096) (s : State) : Out :=
  .next (
    let r := numD s (watchKey v w) 0
    let h : Handle := BitVec.ofNat 32 (recField 8 0 4 r)
    let last := tgetD (s.vale v).tm.watchAt w 0
    let n := (s.time.ticks - last) / max 1 (watchTicks r)
    if h = 0 ∨ n = 0 ∨ s.err.failStop then s
    else
      let q := hIdx h
      let s1 := s.modTm v (fun x => { x with watchAt := tset x.watchAt w (last + n * watchTicks r) })
      let s2 := bump s1 (vkey v 0x4640 1) 64 (n - 1)
      setTmQueue (deliverSample s2 v (queueSample s2 v q)) v q { tmQueue s2 v q with high := 0 })

/-! ### Ring control and the log -/

/-- The write of EN (R245); a vector beyond PF0's table enables nothing (R291, log entry 85). -/
def execTelemRingEnable (v : Vale) (w : RingWrite 32) (s : State) : Out :=
  .next (if w.host ∧ ¬ fnServes s 0 then s else
    let x := (s.vale v).tm.ring
    let n := bitsOf w.val.toNat 16 4
    let space := if x.en then x.space else bitOf w.val.toNat 30
    let log2 := if x.en then x.log2 else n
    let bad := space && decide (msixSize s 0 ≤ bitsOf w.val.toNat 0 11)
    let y : TelemRing := { x with
      space := space, log2 := log2, intEn := bitOf w.val.toNat 29
      vector := if bad then x.vector else bitsOf w.val.toNat 0 11 }
    let ok := !bad && decide (6 ≤ log2) && decide (log2 ≤ 15) && (space || decide (x.baseHi.toNat < 0x10000))
    let on := bitOf w.val.toNat 31
    s.modTm v (fun t => { t with ring :=
      if x.en then { y with en := on }
      else if on && ok then { y with en := true, prod := 0, cons := 0, phase := true } else y }))

/-- A read of TELEM_LOG returns the samples held, oldest first, and removes them. -/
def telemLogOp (who : Who) (v : Vale) : DictOp where
  status := fun s => firstStatus (baseChecks s (isO who))
  effect := fun s => (s.modTm v (fun x => { x with log := [] }), ((s.vale v).tm.log.reverse).flatten)

def execTelemLogRead (who : Who) (v : Vale) (s : State) : Out := .next (runOp (telemLogOp who v) s)

/-! ### One-step timestamps (R246) -/

/-- Where the PTP header of a Sync message starts, and the UDP header before it where there is one. -/
def syncAt (f : List Byte) : Option (Nat × Option (Nat × Nat)) :=
  let o := 14 + 4 * tagsOf f
  let sync := fun (i : Nat) => decide ((f.getD i 0).toNat % 16 = 0) && decide (i + 44 ≤ f.length)
  if beNat ((f.drop (o - 2)).take 2) = 0x88F7 then (if sync o then some (o, none) else none)
  else match firstIp f with
    | some (i, ver, hl, _, proto) =>
      let u := i + hl
      if proto = 17 ∧ beNat ((f.drop (u + 2)).take 2) = 319 ∧ sync (u + 8) then some (u + 8, some (ver, u)) else none
    | none => none

/-- originTimestamp is written, and the UDP checksum zeroed (IPv4) or updated (IPv6), where a sum of zero is sent as 0xFFFF. -/
def oneStep (s : State) (f : List Byte) (at_ : Nat) (udp : Option (Nat × Nat)) : List Byte :=
  let g := patch f (at_ + 34) (beBytes 6 s.time.sec ++ beBytes 4 s.time.ns)
  match udp with
  | none => g
  | some (4, u) => patch g (u + 6) [0, 0]
  | some (_, u) =>
    let o := at_ + 34
    let sum := beNat ((g.drop (u + 6)).take 2)
    let c := updateSum f g (o - (o - u) % 2) 12 sum
    patch g (u + 6) (beBytes 2 (if c = 0 then 0xFFFF else c))

/-- What the port does with a PTP_EVENT frame: one-step insertion, or a kind 2 entry. -/
def ptpEgress (s : State) (v : Vale) (n : Nat) (p : Packet) (f : List Byte) : List Byte × State :=
  if recBits p 5 30 1 = 0 then (f, s)
  else
    let two := (f, telemTimestamp s v (valeNum v * 8 + n) p)
    if bitOf (numD s (vkey v 0x4618 3) 0) n then
      match syncAt f with
      | some (a, u) => (oneStep s f a u, s)
      | none => two
    else two

end Sys2Proof.Machine
end

