-- ==== Sys2Proof/Machine/Tm.lean ====
section
/-! DEFINITION. The traffic manager's commands (chapter 8): queues, shapers, enqueue, the crossing link, dequeue, the Floodplain. -/

namespace Sys2Proof.Machine

/-! ### Queues (R209-R211) -/

/-- A queue record as it is taken: reserved bits zero (R10, R209). -/
def queueIn (r : Nat) : Nat := recClear 32 [(28, 4)] (recFlags 32 13 1 (recElem 32 4 r))

/-- Fields of a queue record are out of range (R209). -/
def queueRangeBad (r : Nat) : Bool :=
  decide (qWeight r = 0) || decide (qBurst r < 64)
  || decide (qMax r = 0) || decide (16777215 < qMax r) || decide (qSpillOn r = 0) || decide (196608 < qSpillOn r)
  || decide (qSpillOn r ≤ qRefill r)

/-- The destination does not suit port node `n`, or is not owned by the queue's owner (R210). A Steppe receive queue names no
owner and suits any (log entry 30). -/
def queueDestBad (s : State) (n : Nat) (r : Nat) : Bool :=
  let d := qDest r
  let h : Handle := BitVec.ofNat 32 d
  if n < 8 ∨ n = 14 then decide (d ≠ 0)
  else if n = 8 then
    !handleFits h 2 || (handleCurrent s h && match ctxOf s (hIdx h) with
      | some x => decide (x.type ≠ 2) || decide (ownerOf s 2 (hIdx h) ≠ some (qOwner r))
      | none => true)
  else if n < 13 then
    !handleFits h 5 || (handleCurrent s h && match regionOf s (hIdx h) with
      | some x => decide (rgSlot x.conf + 9 ≠ n) || decide (rgOwner x.conf ≠ qOwner r)
      | none => true)
  else decide (63 < d)

/-- A host or Saddle destination handle is stale. -/
def queueDestStale (s : State) (n : Nat) (r : Nat) : Bool :=
  let h : Handle := BitVec.ofNat 32 (qDest r)
  decide (8 ≤ n ∧ n ≤ 12) && handleStale s h

/-- The port node above the class node a record names, in the active tree. -/
def recPort (s : State) (v : Vale) (r : Nat) : Option Nat :=
  if elemLevel (qClass r) = 4 ∧ elemIdx (qClass r) < 16384 then portAbove s.dict.nums v (elemIdx (qClass r)) else none

def queueCreateOp (who : Who) (v : Vale) (r : Rec 32) : DictOp where
  status := fun s =>
    let c := queueIn r.toNat
    let o := qOwner c
    let n := (recPort s v c).getD 15
    firstStatus (baseChecks s (isO who) ++ ownerChecks s o ++
      [(.staleHandle, queueDestStale s n c),
       (.range, queueRangeBad c || decide (n = 15)
          || decide (nodeOwner (nodeRec s.dict.nums v 3 (elemIdx (qClass c) / 8)) ≠ o) || queueDestBad s n c),
       (.noResource, !quotaOk s o (queueKind v) || !hasFree s (queueKind v))])
  effect := fun s =>
    match allocIndex s (queueKind v) with
    | none => (s, [])
    | some (i, s1) =>
      let c := queueIn r.toNat
      let o := qOwner c
      let s2 := setNum (addUsage (setOwner s1 (queueKind v) i o) o (queueKind v)) (queueKey v i) c
      let s3 := setDeficit v (setTmQueue s2 v i {}) (elemId 5 i) 0
      (s3, beBytes 4 (handleOf s3 (queueKind v) i).toNat)

/-- QUEUE_CREATE (R209, R210). -/
def execQueueCreate (who : Who) (v : Vale) (r : Rec 32) (s : State) : Out := .next (runOp (queueCreateOp who v r) s)

def queueConfOp (who : Who) (v : Vale) (q : Fin 32768) (r : Rec 32) : DictOp where
  status := fun s =>
    let c := queueIn r.toNat
    let old := queueConf s v q
    let live := (ownerOf s (queueKind v) q).isSome
    firstStatus (baseChecks s (isO who) ++
      [(.range, !live || queueRangeBad c || decide (qOwner c ≠ qOwner old)
          || decide (qClass c ≠ qClass old) || decide (qDest c ≠ qDest old)),
       (.halted, live && ownerHalted s (qOwner old))])
  effect := fun s => (setNum s (queueKey v q) (queueIn r.toNat), [])

/-- A write of QUEUE_CONF (R210). -/
def execQueueConfWrite (who : Who) (v : Vale) (q : Fin 32768) (r : Rec 32) (s : State) : Out :=
  .next (runOp (queueConfOp who v q r) s)

/-- An element loses its shaper's target: the shaper stays allocated with target 0 (R211, R226). -/
def untarget (s : State) (v : Vale) (e : Nat) : State :=
  let s1 := s.modTm v (fun t => { t with shapers := tmap t.shapers (fun _ x =>
    if shTarget x.act = e then { x with act := recSet 16 0 4 x.act 0 } else x) })
  (s1.vale v).tm.shapers.foldl (fun a p =>
    if shTarget (numD a (shaperKey v p.1) 0) = e then setNum a (shaperKey v p.1) (recSet 16 0 4 (numD a (shaperKey v p.1) 0) 0)
    else a) s1

/-- Watch entries of a queue stop and keep their interval (R244). -/
def unwatch (s : State) (v : Vale) (q : Nat) : State :=
  { s with dict := { s.dict with nums := tmap s.dict.nums (fun k x =>
      if vkey v 0x4700 0 ≤ k ∧ k < vkey v 0x4720 0 ∧ recField 8 0 1 x = queueKind v ∧ recField 8 2 2 x = q then
        recSet 8 0 4 x 0
      else x) } }

/-- Every packet of a queue is dropped with reason 0x0A and counted in QUEUE_FLUSHED (R211). -/
def flushQueue (s : State) (v : Vale) (q : Nat) : State :=
  let x := tmQueue s v q
  let n := x.basin.length + x.flood.length
  bump ((x.basin ++ x.flood).foldl (fun a i => dropPkt a v i 0x0A) s) (vkey v 0x4002 3) 64 n

/-- A queue ends: flushed, its shaper and watch entries without it, its record all zero; the index is free again. -/
def endQueue (s : State) (v : Vale) (q : Nat) : State :=
  let s1 := settleAll (untarget (unwatch (flushQueue s v q) v q) v (elemId 5 q)) v
  let s2 := s1.modTm v (fun t => { t with queues := terase t.queues q, deficits := terase t.deficits (elemId 5 q) })
  let s3 : State := { s2 with dict := { s2.dict with nums := terase s2.dict.nums (queueKey v q) } }
  endObj s3 (queueKind v) q

def queueDestroyOp (who : Who) (v : Vale) (h : Handle) : DictOp where
  status := fun s => firstStatus (baseChecks s (isO who) ++ destroyChecks s h (queueKind v))
  effect := fun s => (endQueue (bumpGen s (queueKind v) (hIdx h)) v (hIdx h), [])

/-- QUEUE_DESTROY (R211). -/
def execQueueDestroy (who : Who) (v : Vale) (h : Handle) (s : State) : Out := .next (runOp (queueDestroyOp who v h) s)

/-! ### Shapers (R217-R220) -/

/-- A shaper record as it is taken: reserved bits zero (R10, R217). -/
def shaperIn (r : Nat) : Nat := recClear 16 [(14, 2)] (recFlags 16 13 1 (recElem 16 0 r))

def shaperRangeBad (r : Nat) : Bool :=
  decide (shRate r < 10000) || decide (1600000000 < shRate r) || decide (shBurst r < 64) || decide (16777215 < shBurst r)
  || decide (shOverhead r < -32) || decide (63 < shOverhead r)

/-- An element identifier names an element of the active or the staged tree. -/
def elemExists (s : State) (v : Vale) (e : Nat) : Bool :=
  let i := elemIdx e
  let both := fun (f : Tab Nat → Bool) => f s.dict.nums || f (treeNums s true)
  (if elemLevel e = 1 then decide (i < 15) && portNodeExists s v i
   else if elemLevel e = 2 then decide (i < 512) && both (fun t => decide (nodeWeight (nodeRec t v 2 i) ≠ 0))
   else if elemLevel e = 3 then decide (i < 2048) && both (fun t => tenNodeIn t v i)
   else if elemLevel e = 4 then decide (i < 16384) && both (fun t => tenNodeIn t v (i / 8))
   else if elemLevel e = 5 then decide (i < 32768) && (ownerOf s (queueKind v) i).isSome
   else false)

/-- The owners of an element that a tenancy may shape, in the active and in the staged tree: its queues, tenancy nodes and their
class nodes. -/
def elemOwners (s : State) (v : Vale) (e : Nat) : List Handle :=
  let node := fun (i : Nat) => ([s.dict.nums, treeNums s true].filter (fun t => tenNodeIn t v i)).map
    (fun t => nodeOwner (nodeRec t v 3 i))
  if elemLevel e = 5 then (ownerOf s (queueKind v) (elemIdx e)).toList
  else if elemLevel e = 3 then node (elemIdx e)
  else if elemLevel e = 4 then node (elemIdx e / 8)
  else []

/-- The target of a shaper is refused (R218): no such element, another shaper holds it, or it is not its owner's. -/
def targetBad (s : State) (v : Vale) (me : Option Nat) (o : Handle) (e : Nat) : Bool :=
  decide (e ≠ 0) &&
    (!elemExists s v e
     || (s.vale v).tm.shapers.any (fun p => decide (some p.1 ≠ me) && decide (shTarget (numD s (shaperKey v p.1) 0) = e))
     || (decide (o ≠ 0) && !(elemOwners s v e).contains o))

/-- The target is an element of a Halted tenancy (R31). -/
def targetHalted (s : State) (v : Vale) (e : Nat) : Bool :=
  (elemOwners s v e).any (fun o => tenCurrent s o && ownerHalted s o)

/-- The element is a tenancy node of a P or PF tenancy in the active or the staged tree (R218). -/
def heldNode (s : State) (v : Vale) (e : Nat) : Bool :=
  decide (elemLevel e = 3) &&
    ([s.dict.nums, treeNums s true].any (fun t =>
      tenNodeIn t v (elemIdx e) &&
        (let o := nodeOwner (nodeRec t v 3 (elemIdx e))
         decide (o ≠ 0) && decide (modeOf s o = 1 ∨ modeOf s o = 3))))

def shaperCreateOp (who : Who) (v : Vale) (r : Rec 20) : DictOp where
  status := fun s =>
    let o : Handle := BitVec.ofNat 32 (recField 20 0 4 r.toNat)
    let c := shaperIn (r.toNat % 256 ^ 16)
    firstStatus (baseChecks s (isO who) ++ ownerChecks s o ++
      [(.range, shaperRangeBad c || targetBad s v none o (shTarget c)),
       (.halted, targetHalted s v (shTarget c)),
       (.noResource, !quotaOk s o (shaperKind v) || !hasFree s (shaperKind v))])
  effect := fun s =>
    match allocIndex s (shaperKind v) with
    | none => (s, [])
    | some (i, s1) =>
      let o : Handle := BitVec.ofNat 32 (recField 20 0 4 r.toNat)
      let c := shaperIn (r.toNat % 256 ^ 16)
      let s2 := setNum (addUsage (setOwner s1 (shaperKind v) i o) o (shaperKind v)) (shaperKey v i) c
      let s3 := s2.modTm v (fun t => { t with shapers := tset t.shapers i { load := true } })
      (s3, beBytes 4 (handleOf s3 (shaperKind v) i).toNat)

/-- SHAPER_CREATE (R217); the shaper comes into force at the next tick, as after a write (R220; log entry 31). -/
def execShaperCreate (who : Who) (v : Vale) (r : Rec 20) (s : State) : Out := .next (runOp (shaperCreateOp who v r) s)

def shaperWriteOp (who : Who) (v : Vale) (i : Fin 36864) (r : Rec 16) : DictOp where
  status := fun s =>
    let o := (ownerOf s (shaperKind v) i).getD 0
    let old := shTarget (numD s (shaperKey v i) 0)
    let live := (ownerOf s (shaperKind v) i).isSome
    let c := shaperIn r.toNat
    firstStatus (baseChecks s (isO who) ++
      [(.access, live && heldNode s v old && decide (shTarget c ≠ old)),
       (.range, !live || shaperRangeBad c || targetBad s v (some i) o (shTarget c)),
       (.halted, live && (ownerHalted s o || targetHalted s v (shTarget c)))])
  effect := fun s =>
    ((setNum s (shaperKey v i) (shaperIn r.toNat)).modTm v (fun t =>
      { t with shapers := tmod t.shapers i {} (fun x => { x with load := true }) }), [])

/-- A write of SHAPER (R218, R220). -/
def execShaperWrite (who : Who) (v : Vale) (i : Fin 36864) (r : Rec 16) (s : State) : Out :=
  .next (runOp (shaperWriteOp who v i r) s)

/-- A shaper is freed; its target loses it at once. -/
def freeShaper (s : State) (v : Vale) (i : Nat) : State :=
  let s1 := s.modTm v (fun t => { t with shapers := terase t.shapers i })
  let s2 : State := { s1 with dict := { s1.dict with nums := terase s1.dict.nums (shaperKey v i) } }
  endObj s2 (shaperKind v) i

def shaperDestroyOp (who : Who) (v : Vale) (h : Handle) : DictOp where
  status := fun s =>
    firstStatus (baseChecks s (isO who) ++ destroyChecks s h (shaperKind v) ++
      [(.access, handleFits h (shaperKind v) && objLive s h && heldNode s v (shTarget (numD s (shaperKey v (hIdx h)) 0)))])
  effect := fun s => (freeShaper (bumpGen s (shaperKind v) (hIdx h)) v (hIdx h), [])

/-- SHAPER_DESTROY (R217, R218). -/
def execShaperDestroy (who : Who) (v : Vale) (h : Handle) (s : State) : Out := .next (runOp (shaperDestroyOp who v h) s)

/-! ### Copies that share cells (R172, R242) -/

/-- `k` more copies share the cells of packet `i`: the share they hold. -/
def shareCells (s : State) (v : Vale) (i k : Nat) : State × Nat :=
  match pktAt s v i with
  | none => (s, 0)
  | some p =>
    match p.share with
    | some g => (s.modPath v (fun x => { x with shares := tmod x.shares g (0, 0) (fun q => (q.1 + k, q.2)) }), g)
    | none =>
      let g := (s.vale v).path.nextShare
      ((setPkt s v i { p with share := some g }).modPath v (fun x =>
        { x with shares := tset x.shares g (k + 1, p.cells), nextShare := g + 1 }), g)

/-- A copy enters the path at a place of its own. -/
def addCopy (s : State) (v : Vale) (p : Packet) (l : Loc) : State :=
  let i := (s.vale v).path.nextPkt
  s.modPath v (fun x => { x with
    packets := tset x.packets i { p with loc := l, stamp := x.nextStamp }
    nextPkt := i + 1
    nextStamp := x.nextStamp + 1 })

/-- Before enqueue of its queue's Vale: the crossing link when the queue's kind names the other one (R84). -/
def towardQueue (v : Vale) (h : Handle) : Loc :=
  if hKind h = queueKind (otherVale v) then .crossWait else .atEnqueue

/-- The mirror copy of a record: the frame as received, with no edit, no crypto, no policing (R172). -/
def mirrorCopy (s : State) (v : Vale) (i : Nat) : State :=
  match pktAt s v i with
  | none => s
  | some p =>
    if recBits p 11 35 1 = 0 then s
    else
      let h := recHandle p 11
      let r := shareCells s v i 1
      let m0 : Packet := { p with mirror := true, edits := [], template := 0xFFFF, group := 0, share := some r.2,
                                  token := none, puntCode := 0 }
      let m := recPut (recPutBits (recPut (recPutBits m0 8 0 32 h.toNat) 12 0) 11 35 1 0) 10 0
      modPkt (addCopy r.1 v m (towardQueue v h)) v i (fun q => recPutBits q 11 35 1 0)

/-! ### Enqueue (R168-R174, R216, R221) -/

/-- The traffic manager holds an N+1 packet back until it has reported ready (R37). -/
def tmHolds (s : State) (v : Vale) (p : Packet) : Bool :=
  decide (s.epoch.st = .committing) && decide (p.epoch ≠ s.epoch.active) && !s.epoch.ready.contains (.tm v)

/-- The first packet before enqueue: its tail is in Basin, no earlier packet of its source waits for a tail (R80, R87), and
the traffic manager does not hold it (R37). -/
def enqueueNext (s : State) (v : Vale) (l : Loc) : Option Nat :=
  let w := (s.vale v).path.packets.filter (fun q => decide (q.2.loc = l))
  let ok := w.filter (fun q => (q.2.tail || q.2.discarded) && !(decide (l = .atEnqueue) && tmHolds s v q.2) &&
    !w.any (fun r => decide (r.2.stamp < q.2.stamp) && sameSource r.2 q.2 && !r.2.tail && !r.2.discarded))
  match ok with
  | [] => none
  | q :: r => some (r.foldl earlier q).1

/-- The crypto fields do not suit the queue's port node (R174). -/
def cryptoRefused (s : State) (p : Packet) (n : Nat) : Bool :=
  let op := recBits p 12 34 2
  let dir := recBits p 12 33 1
  (decide (op = 1) && decide (8 ≤ n)) || (decide (op = 2) && decide (dir = 0) && decide (n = 14))
  || (decide (dir = 1) && decide (n ≠ 14))
  || (decide (op ≠ 0) && !saOwned s (recBits p 12 0 16) (pktTen p) op dir)

/-- The record words kept with the packet (R82). -/
def keptWords (p : Packet) : Packet :=
  { p with words := tfilter p.words (fun k _ => decide (k ≤ 5) || decide (k = 12) || decide (k = 15)) }

/-- A drop at a queue's admission counts in the queue. -/
def refuse (s : State) (v : Vale) (i q reason : Nat) : State :=
  dropCopy (setTmQueue s v q { tmQueue s v q with dropped := ((tmQueue s v q).dropped + 1) % 2 ^ 64 }) v i reason

/-- The packet joins the Basin part of a queue. -/
def linkBasin (s : State) (v : Vale) (i q : Nat) : State :=
  setTmQueue (moveTo s v i (.queued q)) v q { tmQueue s v q with basin := (tmQueue s v q).basin ++ [i] }

/-- The packet joins the Floodplain part and waits for its HBM write; the queue is Spilling. -/
def linkFlood (s : State) (v : Vale) (i q : Nat) : State :=
  setTmQueue (moveTo s v i (.spilling q)) v q
    { tmQueue s v q with flood := (tmQueue s v q).flood ++ [i], spilling := true }

/-- The admission steps of R221. -/
def takeIn (s : State) (v : Vale) (i q : Nat) (cells : Nat) : State :=
  let r := queueConf s v q
  let x := tmQueue s v q
  if qMax r < queueDepth s v x + cells then refuse (count s (vkey v 0x4002 1)) v i q 0x0A
  else if x.spilling then
    if floodTakes s v cells then linkFlood s v i q else refuse (count s (vkey v 0x4002 2)) v i q 0x0A
  else if qSpill r ∧ floodGib s v ≠ 0 ∧ qSpillOn r < cellsIn s v x.basin + cells then
    if floodTakes s v cells then linkFlood s v i q else linkBasin (count s (vkey v 0x4002 2)) v i q
  else linkBasin s v i q

/-- A packet of live queue `q` under port node `n` at enqueue: crypto checks, mirror copy, edits, frame bytes, admission. -/
def enqueueAt (s : State) (v : Vale) (i q n : Nat) (p : Packet) : State :=
  let max_ := numD s (vkey (procVale p) 0x3003 2) 9216
  if cryptoRefused s p n then dropPkt (count s (vkey v 0x3070 5)) v i 0x0E
  else
    let s1 := mirrorCopy s v i
    let p1 := (pktAt s1 v i).getD p
    if p1.edits.any (editBad p1 p1.bytes.length) || editsClash p1 p1.edits || tplMissing s1 p1 then dropPkt (count s1 (vkey v 0x3070 6)) v i 0x08
    else if tplBad s1 p1 then dropPkt s1 v i 0x08
    else
      let f := editedFrame s1 p1
      match cryptoAdds s1 p1 f with
      | none => dropPkt s1 v i 0x0E
      | some adds =>
        if max_ < f.length + adds + 4 then dropPkt s1 v i 0x08
        else
          let p2 := keptWords { p1 with
            out := f, flen := frameBytes (decide (n < 8)) f.length adds, ttl := ttlExpired p1.bytes p1.edits,
            enqNs := nowNs s1 }
          sampleLines (takeIn (settle (setPkt (sampleLines s1 v) v i p2) v n q) v i q (cellsOf p1.bytes.length)) v

/-- ENQUEUE: the next packet before enqueue joins its queue or is dropped. -/
def execEnqueue (v : Vale) (s : State) : Out :=
  .next (if s.err.failStop || (s.vale v).path.outOfService || (s.vale v).tm.stopped then s else
    match enqueueNext s v .atEnqueue with
    | none => s
    | some i =>
      match pktAt s v i with
      | none => s
      | some p =>
        let h := recHandle p 8
        if p.discarded then dropPkt s v i 0x04
        else if p.bad then dropPkt s v i 0x05
        else if !tenFresh s (pktTen p) then dropPkt s v i 0x06
        else if !(handleFits h (queueKind v) && objLive s h) then dropCopy s v i 0x0E
        else enqueueAt s v i (hIdx h) ((queuePort s v (hIdx h)).getD 15) p)

/-! ### The crossing link (R71, R86) -/

/-- Packets that wait for the crossing link meet its FIFO of 256 KiB, oldest first; a full one drops them. -/
def admitCrossing : Nat → Vale → State → State
  | 0, _, s => s
  | fuel + 1, v, s =>
    match enqueueNext s v .crossWait with
    | none => s
    | some i =>
      let n := ((pktAt s v i).getD {}).bytes.length
      let x := (s.vale v).path
      if 262144 < x.crossBytes + n then admitCrossing fuel v (dropCopy s v i 0x0B)
      else
        admitCrossing fuel v ((moveTo s v i .crossing).modPath v (fun y =>
          { y with crossBytes := y.crossBytes + n, crossPeak := max y.crossPeak (y.crossBytes + n) }))

/-- CROSSING_TRANSFER: waiting packets enter the FIFO, and its head is carried into the other Vale, where it takes cells of its
own; toward a Vale out of service it is dropped. -/
def execCrossingTransfer (v : Vale) (s : State) : Out :=
  .next (if s.err.failStop || (s.vale v).path.outOfService then s else
    let s1 := admitCrossing (countAt s v .crossWait) v s
    match oldestAt s1 v .crossing with
    | none => s1
    | some i =>
      match pktAt s1 v i with
      | none => s1
      | some p =>
        let o := otherVale v
        let n := p.bytes.length
        if (s1.vale o).path.outOfService then dropPkt s1 v i 0x0C
        else if (s1.vale o).path.basinFree < cellsOf n then s1
        else
          let s2 := removePkt s1 v i
          let q : Packet := { p with cells := cellsOf n, share := none, token := none }
          (addCopy s2 o q .atEnqueue).modPath o (fun y => { y with basinFree := y.basinFree - cellsOf n }))

/-! ### Egress (R85, R216, R418-R423) -/

/-- Protect on egress: the frame and the state with the association advanced; none where the packet is dropped with reason
0x0E, with the state that counts it. -/
def protect (s : State) (p : Packet) (f : List Byte) : Option (List Byte) × State :=
  let op := recBits p 12 34 2
  let a := recBits p 12 0 16
  if op = 0 ∨ (op = 2 ∧ recBits p 12 33 1 = 1) then (some f, s)
  else
    let x := saOf s a
    if !saOwned s a (pktTen p) op 0 || saExhausted x then (none, s)
    else match saMat s x with
      | none => (none, saCount s a 16 1)
      | some mat =>
        if op = 1 then (some (macsecSeal x mat f), saUse s a x f.length)
        else match espSeal x mat f with
          | none => (none, s)
          | some g => (some g, saUse s a x g.length)

/-- A frame leaves a network port: padding, timestamp, protect; it is listed among the frames sent. -/
def emitNetwork (s : State) (v : Vale) (n i : Nat) (p : Packet) : State :=
  if !linkIsUp s v n || valeSlow s v then dropCopy s v i 0x0C
  else
    let f := p.out ++ List.replicate (60 - p.out.length) 0
    let r := ptpEgress s v n p f
    match protect r.2 p r.1 with
    | (none, s1) => dropPkt s1 v i 0x0E
    | (some g, s1) =>
      (removePkt s1 v i).modPath v (fun x =>
        { x with txFrames := keep 8 ({ port := n, pkt := i, bytes := g ++ fcsOf g } :: x.txFrames) })

/-- A packet goes on toward the queue engine or the Saddle gate with the frame it is emitted as. -/
def handOver (s : State) (v : Vale) (i : Nat) (p : Packet) (l : Loc) : State :=
  match protect s p p.out with
  | (none, s1) => dropPkt s1 v i 0x0E
  | (some g, s1) => moveTo (setPkt s1 v i { p with out := g }) v i l

/-- A packet leaves for a Steppe receive queue (R384). -/
def emitSteppe (s : State) (v : Vale) (r i : Nat) (p : Packet) : State :=
  match protect s p p.out with
  | (none, s1) => dropPkt s1 v i 0x0E
  | (some g, s1) =>
    let e := rxHeader p ++ g
    if sringSlotBytes (sringOf s1 r) < e.length then dropPkt (sringDrop s1 r) v i 0x0C
    else sringPush (removePkt s1 v i) r e

/-- A recirculated packet starts at intake: a fresh record, with only SRC_CLASS, RECIRC, RECIRC_COUNT and the preset TENANCY of
the old one (R82). -/
def startRecirc (s : State) (v : Vale) (i : Nat) (p : Packet) (g : List Byte) : State :=
  dropLong (admitPkt (removePkt s v i) v { srcClass := p.srcClass, bytes := g, preset := pktTen p, recirc := p.recirc + 1 }) v
    (s.vale v).path.nextPkt

/-- A packet leaves for recirculation: ESP validation where its record selects it (R422). -/
def emitRecirc (s : State) (v : Vale) (i : Nat) (p : Packet) : State :=
  if 2 ≤ p.recirc then dropPkt s v i 0x0F
  else if recBits p 12 34 2 = 2 ∧ recBits p 12 33 1 = 1 then
    match espOpen s (recBits p 12 0 16) p.out with
    | (none, s1) => dropPkt s1 v i 0x05
    | (some g, s1) => startRecirc s1 v i p g
  else startRecirc s v i p p.out

/-- A dequeued packet at its egress. -/
def egress (s : State) (v : Vale) (n q i : Nat) (p : Packet) : State :=
  let h : Handle := BitVec.ofNat 32 (qDest (queueConf s v q))
  if !tenFresh s (pktTen p) then dropPkt s v i 0x06
  else if p.ttl then dropPkt (count s (vkey v 0x3070 7)) v i 0x08
  else if n < 8 then emitNetwork s v n i p
  else if n = 8 then
    match (if handleCurrent s h then ctxOf s (hIdx h) else none) with
    | some x => if rxAlive s x then handOver s v i p (.toHost (hIdx h)) else dropCopy s v i 0x0C
    | none => dropCopy s v i 0x0C
  else if n < 13 then
    match (if handleCurrent s h then regionOf s (hIdx h) else none) with
    | some x => if regionOpen x then handOver s v i p (.toSaddle (hIdx h)) else dropCopy s v i 0x0C
    | none => dropCopy s v i 0x0C
  else if n = 13 then emitSteppe s v (1024 + qDest (queueConf s v q)) i p
  else emitRecirc s v i p

/-- The head packets of a port's ready classes that can never fit their window are dropped and counted (R239). -/
def dropOversize (s : State) (v : Vale) (n : Nat) : State :=
  let t := portTree s v n
  let g := gateOf s v n
  if 8 ≤ n ∨ !g.act.enable then s
  else
    let cs := (List.range 16384).filter (fun c =>
      (s.vale v).tm.queues.any (fun p => decide (qClass (queueConf s v p.1) = elemId 4 c)) &&
        decide (portAbove t v c = some n) && classReady s v n t c && (windowLeft s v n (c % 8)).isSome)
    cs.foldl (fun a c =>
      match pickQueue a v n c, longestWindow g.act (c % 8) with
      | some (q, _, _), some w =>
        (match (tmQueue a v q).basin with
         | i :: _ =>
           if w < txTime16 a v n ((pktAt a v i).getD {}).flen then
             settle (count (dropPkt a v i 0x0A) (vkey v 0x4618 2)) v n q
           else a
         | [] => a)
      | _, _ => a) s

/-- Recirculation uses up the grant of the intake (R215). -/
def takeGrant (s : State) (v : Vale) (n : Nat) : State :=
  if n = 14 then s.modPath v (fun x => { x with recircGrant := false }) else s

/-- DEQUEUE: a port node takes its next packet by deficit round robin, and every level and shaper of the path is charged at that
moment (R213, R215, R219). -/
def execDequeue (v : Vale) (n : Fin 15) (s : State) : Out :=
  .next (if s.err.failStop || (s.vale v).path.outOfService || (s.vale v).tm.stopped || !portNodeExists s v n
      || (decide (n.val = 14) && !(s.vale v).path.recircGrant) then s else
    let s0 := dropOversize s v n
    match choosePacket s0 v n with
    | none => s0
    | some c =>
      let x := tmQueue s0 v c.queue
      match x.basin with
      | [] => s0
      | i :: r =>
        let p := (pktAt s0 v i).getD {}
        let s1 := chargeDequeue (takeGrant s0 v n) v n c p.flen
        let s2 := setTmQueue s1 v c.queue { x with basin := r, sent := (x.sent + p.flen) % 2 ^ 64,
                                                   high := max x.high (nowNs s0 - p.enqNs) }
        endVisits (egress (settle (modPkt s2 v i (fun y => { y with loc := .atEnqueue })) v n c.queue) v n c.queue i
          { p with loc := .atEnqueue }) v n c)

/-! ### The Floodplain (R222-R224) -/

/-- The first cell at or after `a` from which `n` cells avoid retired frames, within `fuel` frames. -/
def floodPlace (s : State) (v : Vale) : Nat → Nat → Nat → Nat
  | 0, a, _ => a
  | fuel + 1, a, n =>
    let off := floodOffset s v + a * 256
    if floodGib s v * 0x400000 < a + n then floodPlace s v fuel 0 n
    else if hbmRetired s (stackOf v) off then floodPlace s v fuel ((a / 8192 + 1) * 8192) n
    else if hbmRetired s (stackOf v) (off + n * 256 - 1) then floodPlace s v fuel ((a / 8192 + 1) * 8192) n
    else a

/-- SPILL_WRITE_COMPLETE: the packet is in the Floodplain, its Basin cells are released (R222). -/
def execSpillWriteComplete (v : Vale) (pkt : Nat) (s : State) : Out :=
  .next (match pktAt s v pkt with
    | none => s
    | some p =>
      match p.loc with
      | .spilling q =>
        let n := cellsOf p.bytes.length
        let a := floodPlace s v 16384 (s.vale v).tm.floodNext n
        let s1 := s.modPath v (fun x => freeCells x p)
        (setPkt s1 v pkt { p with loc := .flood q, cells := 0, share := none, floodAddr := a }).modTm v
          (fun t => { t with floodNext := a + n })
      | _ => s)

/-- REFILL: the oldest spilled packet of a queue is read back into Basin (R223). -/
def execRefill (v : Vale) (q : Fin 32768) (s : State) : Out :=
  .next (
    let x := tmQueue s v q
    let free := (s.vale v).path.basinFree
    match x.flood with
    | [] => s
    | i :: r =>
      match pktAt s v i with
      | none => s
      | some p =>
        let n := cellsOf p.bytes.length
        if s.err.failStop || decide (p.loc ≠ .flood q) || decide (qRefill (queueConf s v q) < cellsIn s v x.basin)
            || decide (free < numD s (vkey v 0x3002 6) 16384) || decide (free < n) then s
        else
          let s1 := setTmQueue s v q { x with basin := x.basin ++ [i], flood := r, spilling := !r.isEmpty }
          (setPkt s1 v i { p with loc := .queued q, cells := n }).modPath v (fun y => { y with basinFree := y.basinFree - n }))

/-- Some queue of the Vale is Spilling. -/
def anySpilling (s : State) (v : Vale) : Bool := (s.vale v).tm.queues.any (fun p => p.2.spilling)

def floodSizeOp (who : Who) (v : Vale) (x : U8) : DictOp where
  status := fun s =>
    firstStatus (baseChecks s (isO who) ++ [(.range, decide (16 < x.toNat)), (.busy, anySpilling s v)])
  effect := fun s => (persist (setNum s (vkey v 0x4001 1) x.toNat) (vkey v 0x4001 1), [])

/-- A write of FLOOD_SIZE (R224). -/
def execFloodSizeWrite (who : Who) (v : Vale) (x : U8) (s : State) : Out := .next (runOp (floodSizeOp who v x) s)

end Sys2Proof.Machine
end

