-- ==== Sys2Proof/Machine/Pgr.lean ====
section
/-! DEFINITION. Device time, policers, time gates and replication (R229-R243). -/

namespace Sys2Proof.Machine

/-! ### Device time (R229, R230) -/

/-- Every gate list's position follows a step of device time (R240). -/
def regate (s : State) : State :=
  [Vale.east, Vale.west].foldl (fun a v =>
    a.modTm v (fun t => { t with gates := tmap t.gates (fun _ g => { g with pos := (gatePos a g.act).1 }) })) s

/-- Device time is stepped to a number of nanoseconds, modulo 2^48 seconds; the tick base goes on. -/
def stepTime (s : State) (ns : Int) (held : Bool) : State :=
  let t := (ns % ((2 ^ 48 * 1000000000 : Nat) : Int)).toNat
  regate { s with time := { s.time with sec := t / 1000000000, ns := t % 1000000000, held := held } }

def timeSetOp (who : Who) (r : Rec 12) : DictOp where
  status := fun s =>
    firstStatus (baseChecks s (isO who) ++
      [(.range, decide (2 ^ 48 ≤ recField 12 0 8 r.toNat) || decide (999999999 < recField 12 8 4 r.toNat))])
  effect := fun s =>
    (stepTime s ((recField 12 0 8 r.toNat * 1000000000 + recField 12 8 4 r.toNat : Nat) : Int) false, [])

/-- TIME_SET (R230, R247). -/
def execTimeSet (who : Who) (r : Rec 12) (s : State) : Out := .next (runOp (timeSetOp who r) s)

/-- Seconds and nanoseconds of a TIME_STEP. -/
def stepParts (r : Rec 8) : Int × Int := ((r.extractLsb' 32 32).toInt, (r.extractLsb' 0 32).toInt)

def timeStepOp (who : Who) (r : Rec 8) : DictOp where
  status := fun s =>
    let p := stepParts r
    firstStatus (baseChecks s (isO who) ++
      [(.range, decide (999999999 < p.2) || decide (p.2 < -999999999) || (decide (0 < p.1) && decide (p.2 < 0))
          || (decide (p.1 < 0) && decide (0 < p.2)))])
  effect := fun s =>
    let p := stepParts r
    (stepTime s ((nowNs s : Int) + p.1 * 1000000000 + p.2) s.time.held, [])

/-- TIME_STEP (R230). -/
def execTimeStep (who : Who) (r : Rec 8) (s : State) : Out := .next (runOp (timeStepOp who r) s)

/-! ### Policers (R231-R234) -/

def policerKind (v : Vale) : Nat := 0x12 + valeNum v
def policerKey (v : Vale) (p : Nat) : Nat := vkey v (0x4510 + p / 128) (p % 128)
def policerStatKey (v : Vale) (p : Nat) : Nat := vkey v (0x4590 + p / 128) (p % 128)

def poMode (r : Nat) : Nat := recField 24 0 1 r
def poFlags (r : Nat) : Nat := recField 24 1 1 r
def poOverhead (r : Nat) : Int := signed8 (recField 24 2 1 r)
def poCir (r : Nat) : Nat := recField 24 4 4 r
def poCbs (r : Nat) : Nat := recField 24 8 4 r
def poPir (r : Nat) : Nat := recField 24 12 4 r
def poEbs (r : Nat) : Nat := recField 24 16 4 r

/-- A policer record as it is taken: reserved bits zero (R10, R231). -/
def policerIn (r : Nat) : Nat := recClear 24 [(3, 1), (20, 4)] (recFlags 24 1 2 r)

def policerRangeBad (r : Nat) : Bool :=
  decide (poMode r ≠ 1 ∧ poMode r ≠ 2) || decide (poOverhead r < -32) || decide (63 < poOverhead r)
  || decide (poCir r < 10000) || decide (1600000000 < poCir r)
  || decide (poCbs r < 64) || decide (16777215 < poCbs r) || decide (16777215 < poEbs r)
  || (if poMode r = 1 then decide (poPir r ≠ 0)
      else decide (poPir r < poCir r) || decide (1600000000 < poPir r) || decide (poEbs r < 64))

def policerCreateOp (who : Who) (v : Vale) (r : Rec 28) : DictOp where
  status := fun s =>
    let o : Handle := BitVec.ofNat 32 (recField 28 0 4 r.toNat)
    firstStatus (baseChecks s (isO who) ++ ownerChecks s o ++
      [(.range, policerRangeBad (policerIn (r.toNat % 256 ^ 24))),
       (.noResource, !quotaOk s o (policerKind v) || !hasFree s (policerKind v))])
  effect := fun s =>
    match allocIndex s (policerKind v) with
    | none => (s, [])
    | some (i, s1) =>
      let o : Handle := BitVec.ofNat 32 (recField 28 0 4 r.toNat)
      let c := policerIn (r.toNat % 256 ^ 24)
      let s2 := setNum (addUsage (setOwner s1 (policerKind v) i o) o (policerKind v)) (policerKey v i) c
      let s3 := s2.modTm v (fun t => { t with polices := tset t.polices i { act := c, load := true } })
      (s3, beBytes 4 (handleOf s3 (policerKind v) i).toNat)

/-- POLICER_CREATE (R231). -/
def execPolicerCreate (who : Who) (v : Vale) (r : Rec 28) (s : State) : Out := .next (runOp (policerCreateOp who v r) s)

def policerWriteOp (who : Who) (v : Vale) (p : Fin 16384) (r : Rec 24) : DictOp where
  status := fun s =>
    let o := ownerOf s (policerKind v) p
    firstStatus (baseChecks s (isO who) ++
      [(.range, o.isNone || policerRangeBad (policerIn r.toNat)), (.halted, ownerHalted s (o.getD 0))])
  effect := fun s =>
    ((setNum s (policerKey v p) (policerIn r.toNat)).modTm v (fun t =>
      { t with polices := tmod t.polices p {} (fun x => { x with load := true }) }), [])

/-- A write of POLICER: both counts full at the next tick (R232, R234). -/
def execPolicerWrite (who : Who) (v : Vale) (p : Fin 16384) (r : Rec 24) (s : State) : Out :=
  .next (runOp (policerWriteOp who v p r) s)

/-- A policer is freed. -/
def freePolicer (s : State) (v : Vale) (i : Nat) : State :=
  let s1 := s.modTm v (fun t => { t with polices := terase t.polices i })
  let s2 : State := { s1 with dict := { s1.dict with
    nums := terase (terase s1.dict.nums (policerKey v i)) (policerStatKey v i) } }
  endObj s2 (policerKind v) i

def policerDestroyOp (who : Who) (v : Vale) (h : Handle) : DictOp where
  status := fun s => firstStatus (baseChecks s (isO who) ++ destroyChecks s h (policerKind v))
  effect := fun s => (freePolicer (bumpGen s (policerKind v) (hIdx h)) v (hIdx h), [])

/-- POLICER_DESTROY (R231). -/
def execPolicerDestroy (who : Who) (v : Vale) (h : Handle) (s : State) : Out := .next (runOp (policerDestroyOp who v h) s)

/-- The colour of a packet of `b` token units that comes in with colour `inn`, and the counts after it (R232). -/
def colourOf (x : Policer) (b inn : Nat) : Nat × Policer :=
  let aware := bitOf (poFlags x.act) 0
  if poMode x.act = 1 then
    if (!aware || decide (inn = 0)) && decide (b ≤ x.tc) then (0, { x with tc := x.tc - b })
    else if (!aware || decide (inn ≠ 2)) && decide (b ≤ x.te) then (1, { x with te := x.te - b })
    else (2, x)
  else
    if (aware && decide (inn = 2)) || decide (x.te < b) then (2, x)
    else if (aware && decide (inn = 1)) || decide (x.tc < b) then (1, { x with te := x.te - b })
    else (0, { x with te := x.te - b, tc := x.tc - b })

/-- POLICER_STATS counts a result (R234): packets and bytes of the colour. -/
def policerCount (s : State) (v : Vale) (p colour bytes : Nat) : State :=
  let k := policerStatKey v p
  let r := numD s k 0
  let r1 := recSet 48 (16 * colour) 8 r (recField 48 (16 * colour) 8 r + 1)
  setNum s k (recSet 48 (16 * colour + 8) 8 r1 (recField 48 (16 * colour + 8) 8 r1 + bytes))

/-- A policed packet goes on: to the replication engine, or toward its queue (R84). -/
def afterPolice (s : State) (v : Vale) (i : Nat) (p : Packet) : State :=
  if recBits p 10 0 32 ≠ 0 then moveTo s v i .policed else moveTo s v i (towardQueue v (recHandle p 8))

/-- POLICE: the packet that has left the match stages first (R232, R234); one whose length is not known yet waits. -/
def execPolice (v : Vale) (s : State) : Out :=
  .next (if s.err.failStop || (s.vale v).path.stopped then s else
    match oldestAt s v .exited with
    | none => s
    | some i =>
      match pktAt s v i with
      | none => s
      | some p =>
        let h := recHandle p 9
        if h = 0 then afterPolice s v i p
        else if !(handleFits h (policerKind v) && objLive s h) then dropPkt (count s (vkey v 0x3070 2)) v i 0x0E
        else if !p.tail && !p.discarded then s
        else
          let x := tgetD (s.vale v).tm.polices (hIdx h) {}
          let b := (max (((p.bytes.length + 4 : Nat) : Int) + poOverhead x.act) 1).toNat * 65536
          let c := colourOf x b (recBits p 9 32 2)
          let s1 := s.modTm v (fun t => { t with polices := tset t.polices (hIdx h) c.2 })
          let s2 := policerCount s1 v (hIdx h) c.1 (p.bytes.length + 4)
          if c.1 = 2 ∧ bitOf (poFlags x.act) 1 then dropPkt s2 v i 0x09 else afterPolice s2 v i p)

/-! ### Gates (R235-R240) -/

def gateConfKey (v : Vale) (n : Nat) : Nat := vkey v 0x4610 n
def gateEntryKey (v : Vale) (n e : Nat) : Nat := vkey v (0x4620 + 2 * n + e / 128) (e % 128)

/-- The pending copy of a port's list; its overhead is +20 until it is written. -/
def pendingList (s : State) (v : Vale) (n : Nat) : GateList :=
  let c := numD s (gateConfKey v n) (20 * 256)
  { enable := bitOf (recField 16 15 1 c) 0
    base := recField 16 0 8 c * 1000000000 + recField 16 8 4 c
    overhead := signed8 (recField 16 14 1 c)
    entries := (List.range (recField 16 12 2 c)).map (fun e =>
      let r := numD s (gateEntryKey v n e) 0
      (recField 8 0 4 r, recField 8 4 1 r)) }

/-- The earliest start of a cycle at or after a time. -/
def cycleFrom (l : GateList) (t : Nat) : Nat :=
  if t ≤ l.base then l.base
  else if cycleNs l = 0 then t
  else l.base + ceilDiv (t - l.base) (cycleNs l) * cycleNs l

def gateApplyOp (who : Who) (v : Vale) (n : U8) : DictOp where
  status := fun s =>
    let l := pendingList s v n.toNat
    firstStatus (baseChecks s (isO who) ++
      [(.range, decide (7 < n.toNat) || l.entries.any (fun e => decide (e.1 < 64) || decide (1000000000 < e.1))
          || decide (4000000000 < cycleNs l) || !portNodeExists s v n.toNat),
       (.busy, (gateOf s v n.toNat).next.isSome)])
  effect := fun s =>
    let l := pendingList s v n.toNat
    (s.modTm v (fun t => { t with gates := tmod t.gates n.toNat {} (fun g =>
      { g with next := some (cycleFrom l (nowNs s + 10000), l) }) }), [])

/-- GATE_APPLY (R237). -/
def execGateApply (who : Who) (v : Vale) (n : U8) (s : State) : Out := .next (runOp (gateApplyOp who v n) s)

/-- The new list governs from its change time on (R237). -/
def execGateListChange (v : Vale) (n : Fin 8) (s : State) : Out :=
  .next (match (gateOf s v n).next with
    | none => s
    | some (t, l) =>
      if nowNs s < t then s
      else s.modTm v (fun x => { x with gates := tset x.gates n { act := l, pos := (gatePos s l).1, next := none } }))

/-- An entry's interval has expired: the entry that device time stands in governs (R235). -/
def execGateEntryEnd (v : Vale) (n : Fin 8) (s : State) : Out :=
  .next (let g := gateOf s v n
    if g.act.enable then
      s.modTm v (fun x => { x with gates := tset x.gates n { g with pos := (gatePos s g.act).1 } })
    else s)

/-! ### Replication (R241-R243) -/

def groupKind (v : Vale) : Nat := 0x16 + valeNum v

def groupOf (s : State) (v : Vale) (g : Nat) : ReplGroup := tgetD (s.vale v).tm.groups g {}

def setGroup (s : State) (v : Vale) (g : Nat) (x : ReplGroup) : State :=
  s.modTm v (fun t => { t with groups := tset t.groups g x })

def memQueue (m : Nat) : Handle := BitVec.ofNat 32 (recField 8 0 4 m)
def memTemplate (m : Nat) : Nat := recField 8 4 2 m
def memPrune (m : Nat) : Bool := bitOf (recField 8 6 1 m) 0

def replCreateOp (who : Who) (v : Vale) (o : Handle) : DictOp where
  status := fun s =>
    firstStatus (baseChecks s (isO who) ++ ownerChecks s o ++
      [(.noResource, !quotaOk s o (groupKind v) || !hasFree s (groupKind v))])
  effect := fun s =>
    match allocIndex s (groupKind v) with
    | none => (s, [])
    | some (i, s1) =>
      let s2 := setGroup (addUsage (setOwner s1 (groupKind v) i o) o (groupKind v)) v i {}
      (s2, beBytes 4 (handleOf s2 (groupKind v) i).toNat)

/-- REPL_CREATE (R241). -/
def execReplCreate (who : Who) (v : Vale) (owner : Handle) (s : State) : Out := .next (runOp (replCreateOp who v owner) s)

/-- A group is freed. -/
def freeGroup (s : State) (v : Vale) (i : Nat) : State :=
  endObj (s.modTm v (fun t => { t with groups := terase t.groups i })) (groupKind v) i

def replDestroyOp (who : Who) (v : Vale) (h : Handle) : DictOp where
  status := fun s => firstStatus (baseChecks s (isO who) ++ destroyChecks s h (groupKind v))
  effect := fun s => (freeGroup (bumpGen s (groupKind v) (hIdx h)) v (hIdx h), [])

/-- REPL_DESTROY (R241). -/
def execReplDestroy (who : Who) (v : Vale) (h : Handle) (s : State) : Out := .next (runOp (replDestroyOp who v h) s)

/-- A member's fields are out of range (R241). -/
def memberBad (m : Nat) : Bool :=
  decide (recField 8 0 1 m ≠ 0x10 ∧ recField 8 0 1 m ≠ 0x11) || decide (32768 ≤ recField 8 2 2 m)
  || (decide (4095 < memTemplate m) && decide (memTemplate m ≠ 0xFFFF))


/-- The members that a REPL_WRITE carries. -/
def writtenMembers (bs : List Byte) (n : Nat) : List Nat := 
  (List.range n).map (fun i => recClear 8 [(7, 1)] (recFlags 8 6 1 (beNat (sliceD bs (8 + 8 * i) 8 0))))

def replWriteOp (who : Who) (v : Vale) (bs : List Byte) : DictOp where
  status := fun s =>
    let h : Handle := BitVec.ofNat 32 (beNat (sliceD bs 0 4 0))
    let first := beNat (sliceD bs 4 2 0)
    let n := beNat (sliceD bs 6 2 0)
    firstStatus (baseChecks s (isO who) ++ destroyChecks s h (groupKind v) ++
      [(.range, decide (n = 0) || decide (120 < n) || decide (bs.length ≠ 8 + 8 * n) || decide (512 < first + n)
          || (writtenMembers bs n).any memberBad)])
  effect := fun s =>
    let g := hIdx (BitVec.ofNat 32 (beNat (sliceD bs 0 4 0)))
    let first := beNat (sliceD bs 4 2 0)
    let ms := writtenMembers bs (beNat (sliceD bs 6 2 0))
    let x := groupOf s v g
    let pend := (List.range ms.length).foldl (fun t i => tset t (first + i) (ms.getD i 0)) x.pend
    (setGroup s v g { x with pend := pend }, [])

/-- REPL_WRITE (R241). -/
def execReplWrite (who : Who) (v : Vale) (bytes : List Byte) (s : State) : Out := .next (runOp (replWriteOp who v bytes) s)

/-- The first `n` pending members. -/
def pendMembers (x : ReplGroup) (n : Nat) : List Nat := (List.range n).map (fun i => tgetD x.pend i 0)

/-- A member's queue is stale, or owned by neither the group's owner nor the operator (an operator group names any). -/
def memberRefused (s : State) (o : Handle) (m : Nat) : Bool :=
  let h := memQueue m
  !((handleFits h 0x10 || handleFits h 0x11) && objLive s h) || (decide (o ≠ 0) && !ownedBy s h o)

def replApplyOp (who : Who) (v : Vale) (r : Rec 6) : DictOp where
  status := fun s =>
    let h : Handle := BitVec.ofNat 32 (recField 6 0 4 r.toNat)
    let n := recField 6 4 2 r.toNat
    let o := (ownerOf s (groupKind v) (hIdx h)).getD 0
    firstStatus (baseChecks s (isO who) ++ destroyChecks s h (groupKind v) ++
      [(.range, decide (512 < n) || (pendMembers (groupOf s v (hIdx h)) n).any (memberRefused s o))])
  effect := fun s =>
    let g := hIdx (BitVec.ofNat 32 (recField 6 0 4 r.toNat))
    let x := groupOf s v g
    (setGroup s v g { x with active := pendMembers x (recField 6 4 2 r.toNat), bad := [] }, [])

/-- REPL_APPLY (R241): the pending members become the active list in one step. -/
def execReplApply (who : Who) (v : Vale) (r : Rec 6) (s : State) : Out := .next (runOp (replApplyOp who v r) s)

def replQueryOp (who : Who) (v : Vale) (r : Rec 6) : DictOp where
  status := fun s =>
    let h : Handle := BitVec.ofNat 32 (recField 6 0 4 r.toNat)
    firstStatus (baseChecks s (isO who) ++
      [(.range, !handleFits h (groupKind v) || decide (511 < recField 6 4 2 r.toNat)),
       (.staleHandle, handleStale s h), (.halted, objHalted s h (groupKind v))])
  effect := fun s =>
    ({ s with idien := { s.idien with sessions := tmap s.idien.sessions (fun n x =>
        if n = who.sess then { x with replQuery := tset x.replQuery (valeNum v) (beBytes 6 r.toNat) } else x) } }, [])

/-- REPL_QUERY (R248): one per session. -/
def execReplQuery (who : Who) (v : Vale) (r : Rec 6) (s : State) : Out := .next (runOp (replQueryOp who v r) s)

/-- What REPL_QUERY_RESULT answers for a selected group and position; nothing while none is selected. -/
def replResult (s : State) (v : Vale) (q : List Byte) : List Byte :=
  if q = [] then []
  else
    let h : Handle := BitVec.ofNat 32 (beNat (q.take 4))
    let x := groupOf s v (hIdx h)
    if !objLive s h then beBytes 2 0 ++ beBytes 8 0 ++ beBytes 8 0
    else beBytes 2 x.active.length ++ beBytes 8 x.copies ++ beBytes 8 x.drops
      ++ ((x.active.drop (beNat (q.drop 4))).take 120).flatMap (beBytes 8)

/-- Policed packets with a group meet the engine's input queue of 2,048, oldest first (R242). -/
def admitRepl : Nat → Vale → State → State
  | 0, _, s => s
  | fuel + 1, v, s =>
    match oldestAt s v .policed with
    | none => s
    | some i =>
      if 2048 ≤ countAt s v .repl then admitRepl fuel v (dropPkt (count s (vkey v 0x4630 8)) v i 0x0A)
      else admitRepl fuel v (moveTo s v i .repl)

/-- The member is skipped: prune set, a wire packet, and the member queue's port node is the packet's own port (R242). -/
def prunes (s : State) (p : Packet) (m : Nat) : Bool :=
  let v : Vale := if hKind (memQueue m) = 0x11 then .west else .east
  memPrune m && decide (p.srcClass = 0) && objLive s (memQueue m) &&
    match queuePort s v (hIdx (memQueue m)) with
    | some n => decide (n < 8) && decide (valeNum v * 8 + n = p.srcIndex)
    | none => false

/-- One copy of a packet toward a queue. -/
def makeCopy (s : State) (v : Vale) (p : Packet) (share : Nat) (g h : Handle) (template : Nat) : State :=
  let q := recPutBits { p with template := template, group := g, share := some share, token := none } 8 0 32 h.toNat
  addCopy s v q (towardQueue v h)

/-- One member's turn: skipped by prune, dropped with reason 0x0D when marked bad, or copied. -/
def memberTurn (v : Vale) (p : Packet) (share : Nat) (g : Handle) (bad : List Nat) (s : State) (im : Nat × Nat) : State :=
  if prunes s p im.2 then count s (vkey v 0x4630 7)
  else if bad.contains im.1 then count s (vkey v 0x3004 0x0D)
  else makeCopy s v p share g (memQueue im.2) (memTemplate im.2)

/-- The copies of a packet: one to TM_QUEUE when it is not 0, then one per member in order; then the packet itself is gone. -/
def replicateOne (s : State) (v : Vale) (i : Nat) (p : Packet) (g : Handle) : State :=
  let x := groupOf s v (hIdx g)
  let ms := (List.range x.active.length).map (fun k => (k, x.active.getD k 0))
  let made := ms.filter (fun im => !prunes s p im.2 && !x.bad.contains im.1)
  let k := made.length + (if recHandle p 8 = 0 then 0 else 1)
  let s0 := mirrorCopy s v i
  let p0 := (pktAt s0 v i).getD p
  if k = 0 then dropPkt (ms.foldl (memberTurn v p0 0 g x.bad) s0) v i 0x0E
  else
    let r := shareCells s0 v i k
    let s1 := setGroup r.1 v (hIdx g) { x with copies := (x.copies + k) % 2 ^ 64 }
    let s2 := if recHandle p 8 = 0 then s1 else makeCopy s1 v p0 r.2 g (recHandle p 8) 0xFFFF
    removePkt (ms.foldl (memberTurn v p0 r.2 g x.bad) s2) v i

/-- REPLICATE: waiting packets enter the input queue or are dropped; then all copies of its head are made. -/
def execReplicate (v : Vale) (s : State) : Out :=
  .next (if s.err.failStop || (s.vale v).path.stopped then s else
    let s1 := admitRepl (countAt s v .policed) v s
    match oldestAt s1 v .repl with
    | none => s1
    | some i =>
      match pktAt s1 v i with
      | none => s1
      | some p =>
        let g := recHandle p 10
        if !p.tail && !p.discarded then s1
        else if !(handleFits g (groupKind v) && objLive s1 g) then dropPkt s1 v i 0x0E
        else replicateOne s1 v i p g)

end Sys2Proof.Machine
end

