-- ==== Sys2Proof/Machine/Saddle.lean ====
section
/-! DEFINITION. Saddle slots, ports and regions (R249-R279): loading a bitstream, the shell, isolation and resets, the gate's
attribution, translation and packets, link power. -/

namespace Sys2Proof.Machine

/-! ### Slots (R252, R257-R259) -/

/-- The unit of a slot in events and records: its even Saddle port. -/
def slotUnit (q : Nat) : Nat := unitId 2 4 (2 * q) 0xFFF

def slotModeOp (who : Who) (q : Fin 4) (m : U8) : DictOp where
  status := fun s => firstStatus (baseChecks s (isO who) ++
    [(.range, decide (2 < m.toNat)), (.notReady, decide ((slotOf s q).st ≠ .off))])
  effect := fun s => (persist (setNum s (okey 0x6800 q) m.toNat) (okey 0x6800 q), [])

/-- SLOT_MODE (R252). -/
def execSlotModeWrite (who : Who) (q : Fin 4) (m : U8) (s : State) : Out := .next (runOp (slotModeOp who q m) s)

/-- The ports of a slot lose their links; an SSD loses its commands (R345). -/
def portsDown (s : State) (q : Nat) : State :=
  let down := fun (x : SPort) => ({ x with link := false, speed := 0, width := 0, pstate := 0, clkreqN := false,
                                           perstN := false, cache := [] } : SPort)
  ssdLost (modSport (modSport s (2 * q) down) (2 * q + 1) down) (2 * q + 1)

/-- Bound regions of a slot become Isolated without handshake. -/
def isolateAll (s : State) (q : Nat) : State := (regionsOn s (2 * q)).foldl forceIsolate s

/-- The pins of a slot outside state Ready, its FPGA configuration cleared. -/
def slotDown (x : Slot) (st : SlotSt) : Slot :=
  { x with st := st, powering := false, clampN := false, cfg := .none, relink := false, sel := 0 }

/-- R258 steps 1 and 2: CFG_PROG_N goes low; it is high again after 10 µs. -/
def clearCfg (s : State) (x : Slot) : Slot := { x with progN := false, progAt := some (tickNs s) }

/-- SLOT_POWER is 1 and a card is present: Empty, SLOT_PWR_EN high, and SLOT_PGOOD must rise (R257). -/
def powerUp (s : State) (q : Nat) : State :=
  let x := slotOf s q
  if x.st = .off ∧ x.present ∧ slotMode s q ≠ 0 then setSlot s q { x with st := .empty, powering := true, pwrEn := true } else s

def slotPowerOp (who : Who) (q : Fin 4) (on : U8) (present : Bool) : DictOp where
  status := fun s => firstStatus (baseChecks s (isO who) ++ [(.range, decide (1 < on.toNat))])
  effect := fun s =>
    let s1 := persist (setNum s (okey 0x6801 q) on.toNat) (okey 0x6801 q)
    let x := slotOf s1 q
    if on = 0 then
      (setSlot (portsDown (isolateAll s1 q) q) q { slotDown x .off with
        pwrEn := false, progN := false, progAt := none, present := present, shell := [], version := 0 }, [])
    else (powerUp (setSlot s1 q { x with present := present }) q, [])

/-- SLOT_POWER (R257). -/
def execSlotPower (who : Who) (q : Fin 4) (on : U8) (present : Bool) (s : State) : Out :=
  .next (runOp (slotPowerOp who q on present) s)

/-- SLOT_PGOOD rises in time: the slot stays Empty. -/
def execSlotPgoodRise (q : Fin 4) (s : State) : Out :=
  .next (if (slotOf s q).powering then modSlot s q (fun x => { x with powering := false }) else s)

/-- SLOT_PGOOD does not rise within 100 ms: Failed with TIMEOUT, SLOT_PWR_EN low. -/
def execSlotPgoodTimeout (q : Fin 4) (s : State) : Out :=
  .next (if (slotOf s q).powering then
      modSlot s q (fun x => { slotDown x .failed with pwrEn := false, result := .timeout })
    else s)

/-- A load is under way. -/
def loading (x : Slot) : Bool :=
  decide (x.st = .verifying) || decide (x.st = .configuring) || decide (x.st = .linking) || decide (x.st = .negotiating)

/-- The region row of R278: the slot is Failed; a load under way ends with HALTED (log entry 83). -/
def slotFailAct (q : Nat) (_ : ErrKind) (l : Nat) (r : ErrRec) (s : State) : State :=
  if l = 4 then enterFailStop r s
  else raise (setSlot (portsDown s q) q { clearCfg s (slotDown (slotOf s q) .failed) with
      shell := (slotOf s q).shell, result := if loading (slotOf s q) then .halted else (slotOf s q).result })
    { cls := 5, name := "SLOT_LOAD_FAILED", unit := slotUnit q, level := 3, resource := q, errSeq := r.seq }

/-- A region-level error of a slot. -/
def slotFails (s : State) (q : Fin 4) (cause : Nat) : State :=
  arrive (slotFailAct q) { kind := .saddleSlot q, region := 4, block := 2 * q.val, resource := q.val, cause := cause,
                           unit := some (regionId 4), code := fun l => if l = 4 then 6 else 3 } 3 s

/-- SLOT_PGOOD falls: Failed, the regions Isolated without handshake. -/
def execSlotPgoodFall (q : Fin 4) (s : State) : Out :=
  .next (if (slotOf s q).st = .off ∨ s.err.failStop then s else slotFails (isolateAll s q) q 6)

/-! ### Manifests (R254, R255) -/

def manN (m : List Byte) : Nat := (m.getD 26 0).toNat
def manField (m : List Byte) (off n : Nat) : Nat := beNat (sliceD m off n 0)
def manLen (n : Nat) : Nat := 220 + 8 * n
def bitLen (m : List Byte) : Nat := manField m 16 4
def manAnchor (m : List Byte) : List Byte := (m.drop 76).take 48

/-- The manifest that stands in memory at an address. -/
def manifestAt (s : State) (a : Nat) : List Byte := readInt s a (manLen (min 16 (readInt s (a + 26) 1 |> beNat)))

/-- The region list of a manifest: shell region, DMA, PKT, function, PASID_EN, PASID. -/
def manRegions (m : List Byte) : List (Nat × Bool × Bool × Nat × Bool × Nat) :=
  (List.range (manN m)).map (fun i =>
    let o := 124 + 8 * i
    let k := manField m (o + 1) 1
    let p := manField m (o + 4) 4
    (manField m o 1, bitOf k 0, bitOf k 1, manField m (o + 2) 1, bitOf p 31, if bitOf p 31 then p % 2 ^ 20 else 0))

/-- The form of a manifest: the first line of R255's checks. -/
def manFormBad (m : List Byte) : Bool :=
  decide (manField m 0 4 ≠ 0x53444D46) || decide (manN m < 1) || decide (16 < manN m) || decide (3 < manField m 7 1)
  || decide (manField m 27 1 ≠ 0) || decide (bitLen m < 1) || decide (268435456 < bitLen m)
  || decide (manField m 20 4 < 10000) || decide (100000 < manField m 20 4)
  || (List.range (manN m)).any (fun i =>
      let o := 124 + 8 * i
      decide (15 < manField m o 1) || decide (3 < manField m (o + 1) 1) || decide (manField m (o + 3) 1 ≠ 0)
        || decide (manField m (o + 4) 4 / 2 ^ 20 % 2 ^ 11 ≠ 0))

/-- The owner may own the load. -/
def anchorFits (s : State) (o : Handle) (m : List Byte) : Bool :=
  if o = 0 then decide (manAnchor m = List.replicate 48 0)
  else tenCurrent s o && decide (octD s (tkey (hIdx o) 0xC010 1) = manAnchor m)

/-- The checks of R255 in order: the first failure's status. -/
def manifestCheck (s : State) (q : Nat) (o : Handle) (bit : Nat) (m : List Byte) : Status :=
  let k := manField m 6 1
  let key := octD s (okey 0x6807 k)
  let body := 124 + 8 * manN m
  if manFormBad m || !inDdrHbm s bit (bitLen m) then .range
  else if manField m 4 1 ≠ 1 then .version
  else if 7 < k ∨ key.length ≠ 97 then .access
  else if ¬ Config.verify key (Config.sha384 (m.take body)) ((m.drop body).take 96) then .access
  else if manField m 8 4 < numD s (okey 0x6808 k) 0 then .access
  else if manField m 12 4 ≠ numD s (okey 0x6802 q) 0 then .range
  else if anchorFits s o m then .ok else .access

def slotLoadOp (who : Who) (r : Rec 24) : DictOp where
  status := fun s =>
    let n := r.toNat
    let q := recField 24 0 1 n
    let o : Handle := BitVec.ofNat 32 (recField 24 4 4 n)
    let m := manifestAt s (recField 24 8 8 n)
    firstStatus (baseChecks s (isO who) ++ ownerChecks s o ++
      [(.range, decide (3 < q) || !inDdrHbm s (recField 24 8 8 n) m.length
          || !inDdrHbm s (recField 24 16 8 n) (max 1 (min 268435456 (bitLen m)))),
       (.notReady, decide (q < 4) && decide ((slotOf s q).st ≠ .empty))])
  effect := fun s =>
    let n := r.toNat
    (modSlot s (recField 24 0 1 n) (fun x =>
      { x with st := .verifying, owner := BitVec.ofNat 32 (recField 24 4 4 n), manAddr := recField 24 8 8 n,
               bitAddr := recField 24 16 8 n }), [])

/-- SLOT_LOAD (R255). -/
def execSlotLoad (who : Who) (r : Rec 24) (s : State) : Out := .next (runOp (slotLoadOp who r) s)

/-- The outcome of a load: SLOT_RESULT and its event (R255). -/
def loadEvent (s : State) (q : Nat) (st : Status) : State :=
  raise (modSlot s q (fun x => { x with result := st }))
    { cls := 5, name := if st = .ok then "SLOT_LOADED" else "SLOT_LOAD_FAILED", unit := slotUnit q, resource := q,
      tenancy := (slotOf s q).owner, detail := statusCode st }

/-- MANIFEST_VERIFIED (R255). -/
def execManifestVerified (q : Fin 4) (s : State) : Out :=
  .next (let x := slotOf s q
    if x.st ≠ .verifying ∨ ¬ s.vault.up ∨ s.err.failStop then s
    else
      let m := manifestAt s x.manAddr
      match manifestCheck s q x.owner x.bitAddr m with
      | .ok => setSlot s q { clearCfg s x with st := .configuring, manifest := m, cfg := .clearing, shifted := [] }
      | st => loadEvent (setSlot s q { x with st := .empty }) q st)

/-! ### Configuration (R258, R259) -/

/-- A load fails: the slot is Failed, its port in reset, the FPGA configuration cleared (R257). After a port reset the regions
stay Recovering (R276). -/
def loadFails (s : State) (q : Nat) (st : Status) : State :=
  loadEvent (setSlot (modSport s (2 * q) (fun p => { p with link := false, speed := 0, width := 0, perstN := false })) q
    (clearCfg s (slotDown (slotOf s q) .failed))) q st

/-- The channel shifts bytes (×8) or single bits: flag bit 0 of the manifest; flag bit 1 reverses each byte (R254, R258). -/
def cfgByEight (x : Slot) : Bool := bitOf (manField x.manifest 7 1) 0
def cfgReversed (x : Slot) : Bool := bitOf (manField x.manifest 7 1) 1

/-- Cycles of CFG_CCLK for the bitstream, and the cycles run since its first, at cclk_khz. -/
def cfgCycles (x : Slot) : Nat := if cfgByEight x then bitLen x.manifest else 8 * bitLen x.manifest
def cfgCycle (s : State) (x : Slot) : Nat := (tickNs s - x.cfgStart) * manField x.manifest 20 4 / 1000000

/-- The last byte has been shifted: step 4 of R258. -/
def allShifted (s : State) (x : Slot) : Bool := decide (cfgCycles x ≤ cfgCycle s x)

/-- CFG_CCLK runs: while the bitstream is shifted and until CFG_DONE rises. -/
def cfgCclk (x : Slot) : Bool := decide (x.st = .configuring) && decide (x.cfg = .shifting)

/-- The byte that the bitstream holds at an index, in the bit order in which it is shifted. -/
def cfgByte (s : State) (x : Slot) (i : Nat) : Nat :=
  let b := (readInt s (x.bitAddr + i) 1 |> beNat)
  if cfgReversed x then (List.range 8).foldl (fun n k => 2 * n + bit1 (bitOf b k)) 0 else b

/-- CFG_D[7:0] in the present cycle: a byte with bit 7 on CFG_D[7], or one bit on CFG_D[0], bit 7 of each byte first (log
entry 83). -/
def cfgData (s : State) (x : Slot) : Nat :=
  let k := cfgCycle s x
  if !cfgCclk x || allShifted s x then 0
  else if cfgByEight x then cfgByte s x k
  else bit1 (bitOf (cfgByte s x (k / 8)) (7 - k % 8))

/-- SADDLE_REFCLK of a port: off while the port is not formed, stopped under L1.2 (R253, R277). -/
def saddleRefclk (s : State) (p : Nat) : Bool := portFormedSaddle s p && decide ((sportOf s p).pstate ≠ 2)

/-- CFG_INIT_N rises: shifting starts. -/
def execCfgInitRise (q : Fin 4) (s : State) : Out :=
  .next (let x := slotOf s q
    if x.st = .configuring ∧ x.cfg = .clearing ∧ x.progN then setSlot s q { x with cfg := .shifting, cfgStart := tickNs s } else s)

def execCfgInitTimeout (q : Fin 4) (s : State) : Out :=
  .next (let x := slotOf s q
    if x.st = .configuring ∧ x.cfg = .clearing then loadFails s q .timeout else s)

def execCfgInitFall (q : Fin 4) (s : State) : Out :=
  .next (let x := slotOf s q
    if x.st = .configuring ∧ x.cfg = .shifting ∧ ¬ allShifted s x then loadFails s q .range else s)

/-- CFG_DONE rises: the hash of the bytes shifted out, as read from memory, must be the manifest's (R259). -/
def execCfgDone (q : Fin 4) (s : State) : Out :=
  .next (let x := slotOf s q
    if x.st = .configuring ∧ x.cfg = .shifting then
      let h := Config.sha384 (readInt s x.bitAddr (bitLen x.manifest))
      if h = (x.manifest.drop 28).take 48 then
        modSport (setSlot s q { x with st := .linking, cfg := .none, shifted := h, relink := false }) (2 * q.val)
          (fun p => { p with perstN := true })
      else loadFails s q .access
    else s)

def execCfgDoneTimeout (q : Fin 4) (s : State) : Out :=
  .next (let x := slotOf s q
    if x.st = .configuring ∧ x.cfg = .shifting ∧ allShifted s x then loadFails s q .timeout else s)

/-! ### Link and shell (R260-R263) -/

/-- A rate in GT/s and a width that the port supports: up to eight lanes, four under SLOT_MODE 2 (R249, R251). -/
def linkFits (s : State) (p speed width : Nat) : Bool :=
  [16, 32, 64].contains speed && [1, 2, 4, 8].contains width && decide (width ≤ if slotMode s (p / 2) = 2 then 4 else 8)

/-- A Saddle port's link is up: function 0 of an FPGA card answers, and negotiation starts; an SSD may be enumerated. -/
def execSaddleLinkUp (p : Fin 8) (speed width : U8) (s : State) : Out :=
  .next (let q := p.val / 2
    let x := slotOf s q
    let up := fun (y : SPort) => ({ y with link := true, speed := speed.toNat, width := width.toNat, pstate := 0,
                                           clkreqN := false, perstN := true } : SPort)
    if s.err.failStop ∨ ¬ portFormedSaddle s p ∨ saddleRetired s p ∨ (sportOf s p).link
        ∨ s.err.portTest = some p.val ∨ ¬ linkFits s p speed.toNat width.toNat then s
    else if p.val % 2 = 0 then
      (if x.st = .linking then modSport (setSlot s q { x with st := .negotiating }) p up else s)
    else if x.st = .off ∨ x.st = .failed then s
    else modSport s p up)

def execSaddleLinkTimeout (p : Fin 8) (s : State) : Out :=
  .next (if p.val % 2 = 0 ∧ (slotOf s (p.val / 2)).st = .linking then loadFails s (p.val / 2) .timeout else s)

/-- The majors and minors a shell offers (R260). -/
def shellOffers (o : U32) : List (Nat × Nat) :=
  [(o.toNat / 2 ^ 24, o.toNat / 2 ^ 16 % 256), (o.toNat / 2 ^ 8 % 256, o.toNat % 256)]

/-- A region block as a negotiated major shows it (R262). -/
def shellBlock (major : Nat) (h : ShellRegion) : ShellRegion :=
  if major = 1 then { h with pkt := false, pasidEn := false } else h

/-- The enumerated blocks in the form of a manifest's region list. -/
def enumRegions (hs : List ShellRegion) : List (Nat × Bool × Bool × Nat × Bool × Nat) :=
  (List.range hs.length).filterMap (fun i => match hs[i]? with
    | some h => if h.present then
        some (i, h.dma, h.pkt, h.func.toNat, h.pasidEn, if h.pasidEn then h.pasid.toNat else 0) else none
    | none => none)

/-- Negotiation and enumeration (R263): the status of the outcome, the version, the blocks. -/
def negotiateShell (m : List Byte) (o : ShellOffer) : Status × Nat × List ShellRegion :=
  if o.magic ≠ 0x53445348#32 then (.timeout, 0, [])
  else match negotiate [(1, 0), (2, 1)] (shellOffers o.offer) with
    | none => (.version, 0, [])
    | some (maj, min_) =>
      let hs := o.regions.map (shellBlock maj)
      let want := manRegions m
      let got := enumRegions hs
      let v := maj * 256 + min_
      if maj < manField m 24 1 ∨ manField m 25 1 < maj then (.version, v, hs)
      else if maj = 1 ∧ want.any (fun w => w.2.2.1 || w.2.2.2.2.1) then (.version, v, hs)
      else if hs.length < 1 ∨ 16 < hs.length ∨ (maj = 1 ∧ 4 < hs.length) ∨ got.length ≠ want.length
          ∨ ¬ got.all (fun g => want.contains g) ∨ ¬ want.all (fun w => got.contains w) then (.range, v, hs)
      else if hs.any (fun h => h.present && h.pkt
          && (decide (h.bar2.toNat < h.rxOff.toNat * 4096 + 2 ^ h.rxLog2.toNat * 2 ^ (11 + h.rxSize.toNat)) || decide (h.rxLog2.toNat < 4) || decide (12 < h.rxLog2.toNat))) then (.range, v, hs)
      else (.ok, v, hs)

/-- The shell has accepted the selection: Ready, and after a port reset the release of its regions (R263, R276). -/
def execShReady (p : Fin 8) (o : ShellOffer) (s : State) : Out :=
  .next (let q := p.val / 2
    let x := slotOf s q
    if p.val % 2 ≠ 0 ∨ x.st ≠ .negotiating ∨ s.err.failStop then s
    else
      let n := negotiateShell x.manifest o
      let s := modSlot s q (fun y => { y with sel := if n.2.1 = 0 then y.sel else 2 ^ 31 + n.2.1 })
      let x := slotOf s q
      if n.1 ≠ .ok then loadFails s q n.1
      else
        let s1 := setSlot s q { x with st := .ready, clampN := true, shell := n.2.2, version := n.2.1, relink := false }
        if x.relink then (regionsOn s1 p).foldl startRelease s1 else loadEvent s1 q .ok)

def execShReadyTimeout (p : Fin 8) (s : State) : Out :=
  .next (if p.val % 2 = 0 ∧ (slotOf s (p.val / 2)).st = .negotiating then loadFails s (p.val / 2) .timeout else s)

def slotUnloadOp (who : Who) (q : U8) : DictOp where
  status := fun s =>
    let x := slotOf s q.toNat
    firstStatus (baseChecks s (isO who) ++
      [(.range, decide (3 < q.toNat)),
       (.notReady, decide (regionsOn s (2 * q.toNat) ≠ []) || (decide (x.st ≠ .ready) && decide (x.st ≠ .failed)))])
  effect := fun s =>
    let s1 := modSport s (2 * q.toNat) (fun p => { p with link := false, speed := 0, width := 0, perstN := false })
    (modSlot s1 q.toNat (fun x => { (if x.st = .ready then clearCfg s1 (slotDown x .empty) else slotDown x .empty) with
      shell := [], version := 0 }), [])

/-- SLOT_UNLOAD (R257). -/
def execSlotUnload (who : Who) (q : U8) (s : State) : Out := .next (runOp (slotUnloadOp who q) s)

/-! ### Regions (R264, R265, R273-R275) -/

/-- The rate and burst fit the owner's mode (R24, R264). -/
def rgRateBad (s : State) (c : Nat) : Bool :=
  let m := modeOf s (rgOwner c)
  (decide (rgRate c ≠ 0) && (decide (rgRate c < 10000) || decide (512000000 < rgRate c)
      || decide (rgBurst c < 4096) || decide (16777215 < rgBurst c)))
  || (decide (rgRate c = 0) && decide (rgBurst c ≠ 0))
  || (decide (m = 1 ∨ m = 3) && decide (rgRate c = 0)) || (decide (m = 2) && decide (rgRate c ≠ 0))

/-- The shell region is enumerated and free, and the owner fits the load. -/
def rgBindBad (s : State) (c : Nat) : Bool :=
  let x := slotOf s (rgSlot c)
  decide (x.st ≠ .ready)
  || (match x.shell[rgShell c]? with | some h => !h.present | none => true)
  || s.saddle.regions.any (fun r => decide (rgPort r.2.conf = rgPort c) && decide (rgShell r.2.conf = rgShell c))
  || (decide (manAnchor x.manifest ≠ List.replicate 48 0) && decide (x.owner ≠ rgOwner c))

def regionCreateOp (who : Who) (r : Rec 24) : DictOp where
  status := fun s =>
    let c := r.toNat
    firstStatus (baseChecks s (isO who) ++ ownerChecks s (rgOwner c) ++
      [(.range, !([0, 2, 4, 6].contains (rgPort c)) || decide (15 < rgShell c) || decide (1 < recField 24 2 1 c)
          || rgBindBad s c || rgRateBad s c),
       (.noResource, !quotaOk s (rgOwner c) 5 || !hasFree s 5)])
  effect := fun s =>
    match allocIndex s 5 with
    | none => (s, [])
    | some (i, s1) =>
      let o := rgOwner r.toNat
      let s2 := addUsage (setOwner s1 5 i o) o 5
      (startRelease (setRegion s2 i { conf := recClear 24 [(3, 1), (18, 6)] r.toNat }) i, beBytes 4 (handleOf s2 5 i).toNat)

/-- REGION_CREATE (R264). -/
def execRegionCreate (who : Who) (r : Rec 24) (s : State) : Out := .next (runOp (regionCreateOp who r) s)

/-- ISO_ACK falls in the release sequence: translation opens, eight aperture slots are granted, delivery starts (R273). -/
def execIsoAckFall (r : Fin 64) (s : State) : Out :=
  .next (match regionOf s r with
    | none => s
    | some x =>
      if x.opening ∧ (slotOf s (rgSlot x.conf)).st = .ready ∧ ¬ s.err.failStop then
        tenErrLeave (setRegion s r { x with st := .open_, opening := false, iso := none,
                                            credit := if rgPkt s x then (x.taken + 8) % 65536 else x.credit })
          (rgOwner x.conf) (rgUnit x) r
      else s)

def execIsoAckSet (r : Fin 64) (s : State) : Out :=
  .next (match regionOf s r with
    | none => s
    | some x => match x.iso with
      | some why => if s.err.failStop then s else afterIso (closeRegion s r) r why
      | none => s)

/-- The block rows of R278 on a region: it is Isolated, and the event. -/
def isoErrAct (name : String) (r : Nat) (x : SRegion) (_ : ErrKind) (l : Nat) (e : ErrRec) (s : State) : State :=
  if l = 4 then enterFailStop e s
  else if l = 3 then slotFailAct (rgSlot x.conf) (.saddlePort ⟨rgPort x.conf % 8, Nat.mod_lt _ (by decide)⟩) 3 e s
  else raise s { cls := 5, name := name, unit := rgUnit x, level := 2, resource := r, tenancy := rgOwner x.conf, errSeq := e.seq }

def isoErr (s : State) (name : String) (r : Fin 64) (x : SRegion) (cause : Nat) : State :=
  ownedError (isoErrAct name r x)
    { kind := .saddleFaultLimit r, region := 4, block := rgPort x.conf, resource := r.val, tenancy := rgOwner x.conf,
      cause := cause, code := fun l => if l = 4 then 6 else if l = 3 then 3 else 1 } s

def execIsoAckTimeout (r : Fin 64) (s : State) : Out :=
  .next (match regionOf s r with
    | none => s
    | some x => match x.iso with
      | some why => if s.err.failStop then s else afterIso (isoErr (closeRegion s r) "SADDLE_ISO_TIMEOUT" r x 3) r why
      | none => s)

def regionDestroyOp (who : Who) (h : Handle) : DictOp where
  status := fun s => firstStatus (baseChecks s (isO who) ++ destroyChecks s h 5)
  effect := fun s => (isolateFor (bumpGen s 5 (hIdx h)) (hIdx h) .destroy, [])

/-- REGION_DESTROY (R274, R279). -/
def execRegionDestroy (who : Who) (h : Handle) (s : State) : Out := .next (runOp (regionDestroyOp who h) s)

/-- The status of a REGION_RESET write where it fails at once: a port in reset is not ready, and while an earlier write waits for
its reset the region is busy (log entry 83). -/
def regionResetSt (who : Who) (h : Handle) (s : State) : Status :=
  firstStatus (baseChecks s (isO who) ++ destroyChecks s h 5 ++
    [(.busy, match regionOf s (hIdx h) with | some x => x.byWrite | none => false),
     (.notReady, match regionOf s (hIdx h) with | some x => decide (x.st = .recovering) | none => false)])

/-- REGION_RESET (R275): an accepted write is answered when the sequence ends. -/
def execRegionReset (who : Who) (h : Handle) (s : State) : Out :=
  .next (if glenServes s then
      match regionResetSt who h s with
      | .ok => isolateFor (modRegion s (hIdx h) (fun x => { x with byWrite := true })) (hIdx h) .reset
      | st => respond s st 0 []
    else s)

def execResetDone (r : Fin 64) (s : State) : Out :=
  .next (match regionOf s r with
    | none => s
    | some x =>
      if x.resetting then
        let s1 := startRelease (setRegion s r { x with byWrite := false, byReq := none }) r
        if x.byWrite then answerWrite s1 x.byReq .ok else s1
      else s)

def execResetDoneTimeout (r : Fin 64) (s : State) : Out :=
  .next (match regionOf s r with
    | none => s
    | some x => if x.resetting then resetFails s r x .timeout else s)

/-! ### Port resets (R276) -/

/-- The regions of a port become Recovering; what the gate held of them is gone (R276 steps 1-4). -/
def recoverRegion (s : State) (r : Nat) : State :=
  let s1 := dropToRegion (dropPartial s r true) r
  modRegion s1 r (fun x => { x with st := .recovering, iso := none, opening := false, resetting := false, isoReq := true,
                                    enable := false, rgReset := false, queue := [] })

/-- Port resets of the last 10 s. -/
def resetsWithin (s : State) (p : Nat) : List Nat := (sportOf s p).recent.filter (fun t => decide (tickNs s < t + 10000000000))

/-- A port enters reset. A region being destroyed is freed at once. The fifth reset within 10 s makes the slot Failed. -/
def portReset (s : State) (p : Fin 8) : State :=
  let q := p.val / 2
  let rs := regionsOn s p
  let doomed := rs.filter (fun r => match regionOf s r with | some x => decide (x.iso = some .destroy) | none => false)
  let waiting := rs.filter (fun r => match regionOf s r with | some x => x.byWrite | none => false)
  let s1 := doomed.foldl freeRegion (rs.foldl recoverRegion s)
  let s2 := waiting.foldl (fun a r => match regionOf a r with
    | some x => resetFails a r x .timeout
    | none => a) s1
  let times := tickNs s :: resetsWithin s p
  let s3 := modSport s2 p (fun x => { x with
    link := false, speed := 0, width := 0, pstate := 0, clkreqN := false, perstN := true, cache := [], waits := []
    resets := (x.resets + 1) % 2 ^ 32, recent := keep 5 times })
  if p.val % 2 ≠ 0 then
    (let s4 := ssdLost s3 p
     if 5 ≤ times.length then slotFails s4 ⟨q % 4, Nat.mod_lt _ (by decide)⟩ 9 else s4)
  else
    let x := slotOf s3 q
    let s4 := setSlot s3 q { x with clampN := false, st := .linking, relink := decide (x.st = .ready) || x.relink }
    if 5 ≤ times.length then slotFails s4 ⟨q % 4, Nat.mod_lt _ (by decide)⟩ 9 else s4

/-- The port can be reset: its slot is linking or beyond, or an SSD's link is up. -/
def portResets (s : State) (p : Nat) : Bool :=
  if p % 2 = 0 then
    let x := (slotOf s (p / 2)).st
    decide (x = .linking) || decide (x = .negotiating) || decide (x = .ready)
  else (sportOf s p).link

def saddlePortResetOp (who : Who) (p : Fin 8) : DictOp where
  status := fun s => firstStatus (baseChecks s (isO who))
  effect := fun s => (if portResets s p then portReset s p else s, [])

/-- SADDLE_PORT_RESET written (R276). -/
def execSaddlePortReset (who : Who) (p : Fin 8) (s : State) : Out := .next (runOp (saddlePortResetOp who p) s)

/-- The rows of R278 and R472 on a port error: port reset; escalated to the region, the slot is Failed. -/
def portErrAct (p : Fin 8) (k : ErrKind) (l : Nat) (r : ErrRec) (s : State) : State :=
  if l = 4 then enterFailStop r s
  else if l = 3 then slotFailAct (p.val / 2) k 3 r s
  else raise (if portResets s p then portReset s p else s)
    { cls := 5, name := "SADDLE_PORT_RESET", unit := unitId 2 4 p 0xFFF, level := 2, resource := 0, errSeq := r.seq }

/-- A block-level port error (R276, R278). -/
def portError (s : State) (p : Fin 8) (cause : Nat) : State :=
  arrive (portErrAct p) { kind := .saddlePort p, region := 4, block := p, cause := cause,
                          code := fun l => if l = 4 then 6 else if l = 3 then 3 else 2 } 2 s

/-- A shell read exceeds SADDLE_CPL_TIMEOUT (R276). -/
def execSaddleCplTimeout (p : Fin 8) (s : State) : Out :=
  .next (let x := (slotOf s (p.val / 2)).st
    if p.val % 2 = 0 ∧ (x = .negotiating ∨ x = .ready) ∧ ¬ s.err.failStop then portError (rootAer s p 14) p 3 else s)

/-- A malformed TLP from the attached logic, such as one of more than the maximum payload of 512 bytes (R251, R276). -/
def malformedTlp (s : State) (p : Fin 8) : State := portError (rootAer s p 18) p 4

/-- A Saddle link goes down (R276). -/
def execSaddleLinkDown (p : Fin 8) (s : State) : Out :=
  .next (if (sportOf s p).link ∧ ¬ s.err.failStop then portError s p 4 else s)

/-! ### Windows (R267, R268) -/

def windowKey (owner : Handle) (w : Nat) : Nat := if owner = 0 then okey 0x6830 w else tkey (hIdx owner) 0xC030 w
def wdFlags (r : Nat) : Nat := recField 32 0 1 r
def wdPages (r : Nat) : Nat := recField 32 4 4 r
def wdTable (r : Nat) : Nat := recField 32 8 8 r
def wdFn (r : Nat) : Handle := BitVec.ofNat 32 (recField 32 16 4 r)
def wdHost (r : Nat) : Bool := bitOf (wdFlags r) 3

/-- The RANGE cases of a window record; the record of zeros, which is the default, is none of them (log entry 83). -/
def windowBad (s : State) (owner : Handle) (r : Nat) : Bool :=
  let f := wdFn r
  decide (wdPages r < 1) || decide (16777216 < wdPages r) || decide (wdTable r % 8 ≠ 0)
  || !inDdr s (wdTable r) (8 * wdPages r)
  || (if wdHost r then
        (if f = 0 then decide (owner ≠ 0)
         else !handleFits f 3 || decide (owner = 0) || (handleCurrent s f && decide (ownerOf s 3 (hIdx f) ≠ some owner)))
      else decide (f ≠ 0))

/-- A window record as it is taken: reserved bits zero (R10). -/
def windowIn (r : Nat) : Nat := recClear 32 [(1, 3), (20, 4)] (recFlags 32 0 5 r)

def windowOp (who : Who) (owner : Handle) (w : Fin 63) (r : Rec 32) : DictOp where
  status := fun s =>
    let n := r.toNat
    let used := decide (n ≠ 0)
    firstStatus (baseChecks s (isO who) ++ ownerChecks s owner ++
      [(.range, used && windowBad s owner n),
       (.staleHandle, used && handleStale s (wdFn n))])
  effect := fun s =>
    let k := windowKey owner w
    let s1 := setNum s k (windowIn r.toNat)
    ({ s1 with saddle := { s1.saddle with badWindows := s1.saddle.badWindows.filter (fun x => decide (x ≠ k)) } }, [])

/-- OPER_WINDOW and WINDOW (R267): answered once every request translated under the old record has completed. -/
def execWindowWrite (who : Who) (owner : Handle) (w : Fin 63) (r : Rec 32) (s : State) : Out :=
  .next (runGated (windowOp who owner w r) [windowKey owner w] s)

/-- Page entries at [a, b) leave every port's cache. -/
def dropPages (s : State) (a b : Nat) : State :=
  { s with saddle := { s.saddle with ports := tmap s.saddle.ports (fun _ p =>
      { p with cache := tmap p.cache (fun _ ways => ways.filter (fun e => !(decide (a ≤ e.1) && decide (e.1 < b)))) }) } }

def sgInvalidateOp (who : Who) (r : Rec 16) : DictOp where
  status := fun s =>
    let n := r.toNat
    firstStatus (baseChecks s (isO who) ++ ownerChecks s (BitVec.ofNat 32 (recField 16 0 4 n)) ++
      [(.range, decide (62 < recField 16 4 1 n))])
  effect := fun s =>
    let n := r.toNat
    let rec_ := numD s (windowKey (BitVec.ofNat 32 (recField 16 0 4 n)) (recField 16 4 1 n)) 0
    let first := recField 16 8 4 n
    let cnt := recField 16 12 4 n
    let a := if cnt = 0 then 0 else first
    let m := if cnt = 0 then 16777216 else cnt
    (dropPages s (wdTable rec_ + 8 * a) (wdTable rec_ + 8 * (a + m)), [])

/-- The window that an SG_INVALIDATE record names. -/
def sgInvalKey (r : Rec 16) : Nat := windowKey (BitVec.ofNat 32 (recField 16 0 4 r.toNat)) (recField 16 4 1 r.toNat)

/-- SG_INVALIDATE (R268): answered once every request translated under the window has completed at its target. -/
def execSgInvalidate (who : Who) (r : Rec 16) (s : State) : Out := .next (runGated (sgInvalidateOp who r) [sgInvalKey r] s)

/-! ### Faults (R269) -/

/-- Type codes of REGION_FAULT. -/
def sgType : SgKind → Nat
  | .read _ => 0
  | .write _ => 1
  | .unsupported _ => 2

/-- The answer to a request that fails: Unsupported Request where one is awaited; the root port's AER status shows it. -/
def sgReject (s : State) (p : Nat) (q : SgReq) : State :=
  let s1 := rootAer s p 20
  if nonPosted q then pushCpl s1 p .unsupported else s1

/-- Data bytes that a request carries. -/
def sgDataLen (q : SgReq) : Nat := match q.kind with | .write bs => bs.length | _ => 0

/-- A fault is counted and recorded; events are rate-limited; past the limit the region is Isolated without a handshake. -/
def faultCount (s : State) (r : Fin 64) (code typ pasid addr : Nat) : State :=
  match regionOf s r with
  | none => s
  | some x =>
    let now := tickNs s
    let recent := now :: x.recent.filter (fun t => decide (now < t + 1000000))
    let first := if x.first = 0 then
        beNat (beBytes 1 code ++ beBytes 1 typ ++ beBytes 2 0 ++ beBytes 4 pasid ++ beBytes 8 addr) else x.first
    let due := match x.evtNs with | some t => decide (t + 10000000 ≤ now) | none => true
    let y : SRegion := { x with faults := (x.faults + 1) % 2 ^ 64, first := first, recent := recent,
                                evtNs := if due then some now else x.evtNs }
    let s1 := setRegion s r y
    let s2 := if due then
        raise s1 { cls := 5, name := "SADDLE_XLATE_FAULT", unit := rgUnit x, level := 1, resource := r.val, tenancy := rgOwner x.conf,
                   detail := code }
      else s1
    if rgLimit x.conf ≠ 0 ∧ rgLimit x.conf < recent.length ∧ x.st = .open_ then
      isoErr (forceIsolate s2 r) "SADDLE_REGION_ISOLATED" r y 4
    else s2

/-- A request of a region fails translation. -/
def sgFault (s : State) (p : Nat) (r : Fin 64) (q : SgReq) (code : Nat) : State :=
  faultCount (sgReject s p q) r code (sgType q.kind) (match q.pasid with | some x => x.toNat | none => 0) q.addr.toNat

/-! ### Attribution (R266) and rate (R270) -/

/-- The bound region that a request belongs to. -/
def sgRegion (s : State) (p : Nat) (q : SgReq) : Option (Fin 64) :=
  if !q.ours then none
  else
    (List.finRange 64).find? (fun r => match regionOf s r with
      | none => false
      | some x => decide (rgPort x.conf = p) && match shellOf s x with
        | none => false
        | some h => decide (h.func = q.func) && (match q.pasid with
            | some t => h.pasidEn && decide (h.pasid = t)
            | none => !h.pasidEn))

/-- Bytes that a request is charged with. -/
def sgBytes (q : SgReq) : Nat :=
  match q.kind with
  | .read n => n
  | .write bs => bs.length
  | .unsupported _ => 0

/-- The region has tokens, or needs none. -/
def rgMay (x : SRegion) : Bool := decide (rgRate x.conf = 0) || decide (0 < x.tokens)

def rgCharge (s : State) (r n : Nat) : State :=
  modRegion s r (fun x => if rgRate x.conf = 0 then x else { x with tokens := x.tokens - (max (n + 32) 1 * 65536 : Nat) })

/-- A region's gate queue is full: the port withholds flow-control credits. -/
def portStalled (s : State) (p : Nat) : Bool :=
  s.saddle.regions.any (fun r => decide (rgPort r.2.conf = p) && decide (64 ≤ r.2.queue.length))

/-! ### Packets toward and from attached logic (R271-R273) -/

/-- The oldest packet dequeued toward a region. -/
def towardRegion (s : State) (r : Nat) : Option (Vale × Nat) :=
  match oldestAt s .east (.toSaddle r) with
  | some i => some (.east, i)
  | none => (oldestAt s .west (.toSaddle r)).map (fun i => (.west, i))

/-- Where the next receive slot lies in BAR2 of the region's function: slot RX_PROD mod 2^RX_LOG2 (R261, R272). -/
def rxPlace (s : State) (x : SRegion) : Nat :=
  match shellOf s x with
  | some h => h.rxOff.toNat * 4096 + x.rxProd % rxSlots s x * rxSlotBytes s x
  | none => 0

/-- SADDLE_RX_WRITE (R272). -/
def execSaddleRxWrite (r : Fin 64) (s : State) : Out :=
  .next (match regionOf s r, towardRegion s r with
    | some x, some (v, i) =>
      let p := (pktAt s v i).getD {}
      if ¬ regionOpen x ∨ (sportOf s (rgPort x.conf)).pstate ≠ 0 ∨ rxSlots s x ≤ rxHeld x then s
      else if rxSlotBytes s x < p.out.length + 32 then dropPkt (count s (okey 0x6825 2)) v i 0x0C
      else
        setRegion (removePkt s v i) r { x with rxProd := (x.rxProd + 1) % 65536,
                                               rx := keep 8 ((rxPlace s x, rxHeader p ++ p.out) :: x.rx) }
    | _, _ => s)

/-- An aperture write that is out of order, beyond credit or past length (R273). -/
def apViolation (s : State) (r : Nat) : State := dropPartial (count s (okey 0x6825 3)) r false

/-- A packet of the aperture is whole and in Basin: its slot's credit returns, unless the region is being isolated. -/
def apTaken (s : State) (r : Nat) : State :=
  modRegion s r (fun x => { x with taken := (x.taken + 1) % 65536,
                                   credit := if regionOpen x then (x.credit + 1) % 65536 else x.credit })

/-- The aperture's next packet has not begun. -/
def apFresh (x : SRegion) : SRegion := { x with apLen := 0, apOff := 0, apBuf := [], apPkt := none }

/-- The number of the packet that is being written, or that comes next: whole ones wait for intake before it. -/
def apNumber (x : SRegion) : Nat := (x.taken + x.apWait.length) % 65536

/-- Frame bytes follow the header of the packet under way. -/
def apBytes (s : State) (r : Nat) (x : SRegion) (bs : List Byte) : State :=
  let next := x.apOff + bs.length
  if 16 + x.apLen < next then apViolation s r
  else
    match x.apPkt with
    | none =>
      if next = 16 + x.apLen then setRegion s r { apFresh x with apWait := x.apWait ++ [x.apBuf ++ bs] }
      else setRegion s r { x with apOff := next, apBuf := x.apBuf ++ bs }
    | some i =>
      let s1 := setRegion s r { x with apOff := next }
      if next = 16 + x.apLen then apTaken (modRegion (frameTail s1 (rgVale x.conf) i bs true) r apFresh) r
      else wakeHeader (appendBytes s1 (rgVale x.conf) i bs) (rgVale x.conf) i

/-- A write into the aperture (R271, R273): packet *n* goes to slot *n* mod 8 and may start while *n* is below TX_CREDIT. -/
def aperture (s : State) (r : Nat) (x : SRegion) (off : Nat) (bs : List Byte) : State :=
  let o := off % 16384
  if off / 16384 ≠ apNumber x % 8 ∨ o ≠ x.apOff ∨ x.credit = apNumber x then apViolation s r
  else if x.apLen ≠ 0 then apBytes s r x bs
  else
    let h := x.apBuf ++ bs
    if h.length < 16 then setRegion s r { x with apOff := h.length, apBuf := h }
    else
      let n := beNat (h.take 2)
      if n < 14 ∨ 15996 < n then apViolation s r
      else apBytes s r { x with apLen := n, apOff := 16, apBuf := [] } (h.drop 16)

/-- APERTURE_WRITE (R273), charged as any request (R270). -/
def execApertureWrite (r : Fin 64) (off : Nat) (bytes : List Byte) (s : State) : Out :=
  .next (match regionOf s r with
    | none => s
    | some x =>
      let p := rgPort x.conf
      let q : SgReq := { ours := true, func := 0, pasid := none, addr := BitVec.ofNat 64 (63 * 2 ^ 36 + off), kind := .write bytes }
      if s.err.failStop ∨ ¬ (sportOf s p).link ∨ (sportOf s p).pstate ≠ 0 ∨ portStalled s p ∨ 131072 < off + bytes.length
          ∨ bytes = [] then s
      else if 512 < bytes.length then malformedTlp s ⟨p % 8, Nat.mod_lt _ (by decide)⟩
      else if x.st ≠ .open_ then sgFault s p r q 1
      else if ¬ rgPkt s x then sgFault s p r q 3
      else if ¬ rgMay x ∨ x.queue ≠ [] then s
      else
        let s1 := rgCharge s r bytes.length
        aperture s1 r ((regionOf s1 r).getD x) off bytes)

/-- RX_CONS_WRITE (R271). -/
def execRxConsWrite (r : Fin 64) (x : U16) (s : State) : Out :=
  .next (match regionOf s r with
    | none => s
    | some y =>
      if y.st = .open_ ∧ rgPkt s y ∧ rgMay y ∧ y.queue = [] ∧ (sportOf s (rgPort y.conf)).link
          ∧ (sportOf s (rgPort y.conf)).pstate = 0 ∧ ¬ portStalled s (rgPort y.conf) then
        rgCharge (setRegion s r { y with rxCons := x.toNat }) r 4
      else s)

/-! ### Translation (R267, R268) -/

/-- A cached page entry. -/
def cachedPage (x : SPort) (a : Nat) : Option Nat :=
  ((tgetD x.cache (a / 8 % 512) []).find? (fun e => decide (e.1 = a))).map (·.2)

/-- A page entry becomes the most recent of its set. -/
def cachePage (x : SPort) (a e : Nat) : SPort :=
  let set := a / 8 % 512
  { x with cache := tset x.cache set (keep 8 ((a, e) :: (tgetD x.cache set []).filter (fun y => decide (y.1 ≠ a)))) }

/-- The window record that serves a request, and the page-entry address; or a fault code (R267). -/
def sgWindow (s : State) (r : Nat) (x : SRegion) (q : SgReq) : Nat ⊕ (Nat × Nat) :=
  let a := q.addr.toNat
  let w := a / 2 ^ 36 % 64
  let k := windowKey (rgOwner x.conf) w
  let n := numD s k 0
  if a / 2 ^ 42 ≠ 0 then .inl 2
  else if w = 63 ∨ ¬ bitOf (wdFlags n) 0 ∨ s.saddle.badWindows.contains k ∨ ¬ bitOf (recField 32 24 8 n) r then .inl 3
  else if wdPages n ≤ a / 4096 % 2 ^ 24 then .inl 4
  else .inr (n, wdTable n + 8 * (a / 4096 % 2 ^ 24))

/-- The function of a host-target window: PF1 in operator windows; none where its handle names no current one. -/
def wdFunction (s : State) (n : Nat) : Option Nat :=
  if wdFn n = 0 then some 1 else if objLive s (wdFn n) then some (hIdx (wdFn n) + 4) else none

/-- A request at its target: bytes written or read. -/
def sgHost (s : State) (p k f n addr : Nat) (q : SgReq) : State :=
  if ¬ fnIssues s f then count (sgReject s p q) (okey 0x5030 3)
  else match q.kind with
    | .write bs => hostIssue s f addr bs (bitOf (wdFlags n) 4) k true
    | .read len => let d := hostRead ((readTurn s f).getD s) f addr len; pushCpl d.2 p (.data d.1)
    | .unsupported _ => s

def sgInternal (s : State) (p addr : Nat) (q : SgReq) : State :=
  match q.kind with
  | .write bs => writeInt s addr bs
  | .read len => pushCpl s p (if poisoned s addr len then .poisoned else .data (readInt s addr len))
  | .unsupported _ => s

/-- The key of the window record that a region's request is translated under. -/
def sgKey (s : State) (r : Fin 64) (q : SgReq) : Nat :=
  match regionOf s r with
  | some x => windowKey (rgOwner x.conf) (q.addr.toNat / 2 ^ 36 % 64)
  | none => 0

/-- A request with its page entry (R268, R269). -/
def sgTranslate (s : State) (p : Nat) (r : Fin 64) (n e : Nat) (q : SgReq) : State :=
  let write := match q.kind with | .write _ => true | _ => false
  let addr := e / 4096 * 4096 + q.addr.toNat % 4096
  if ¬ bitOf e 0 then sgFault s p r q 5
  else if (write && !(bitOf (wdFlags n) 1 && bitOf e 1)) || (!write && !bitOf (wdFlags n) 2) then sgFault s p r q 6
  else if wdHost n then
    (match wdFunction s n with
     | some f => sgHost s p (sgKey s r q) f n addr q
     | none => sgFault s p r q 3)
  else if 2 ^ 48 ≤ addr ∨ ¬ inDdrHbm s addr (sgBytes q) then sgFault s p r q 7
  else sgInternal s p addr q

/-- The request is a read. -/
def sgReads (q : SgReq) : Bool := match q.kind with | .read _ => true | _ => false

/-- The function of the window is held (R366), or its read waits for the from-host arbiter (R300, R301): the request waits. -/
def sgHeld (s : State) (r : Nat) (x : SRegion) (q : SgReq) : Bool :=
  match sgWindow s r x q with
  | .inl _ => false
  | .inr (n, _) => wdHost n && (match wdFunction s n with
    | some f => fnHeld s f || (sgReads q && fnIssues s f && (readTurn s f).isNone)
    | none => false)

/-- The service window of a packet region (R271). -/
def sgService (s : State) (p : Nat) (r : Fin 64) (x : SRegion) (q : SgReq) : State :=
  let o := q.addr.toNat % 2 ^ 36
  match q.kind with
  | .write bs =>
    if o < 131072 then aperture s r x o bs
    else if o = 131072 ∧ 2 ≤ bs.length then setRegion s r { x with rxCons := leNat (bs.take 2) }
    else sgFault s p r q 3
  | _ => if o / 4096 ≤ 32 then sgFault s p r q 6 else sgFault s p r q 3

/-- A request that has its tokens: charged, then its window and page entry are found; an uncached entry is fetched, and later
requests of the region stay behind it. -/
def sgProceed (s : State) (p : Nat) (r : Fin 64) (q : SgReq) : State :=
  let s1 := rgCharge s r (sgBytes q)
  match regionOf s1 r with
  | none => s1
  | some x =>
    if q.addr.toNat / 2 ^ 36 = 63 ∧ rgPkt s1 x then sgService s1 p r x q
    else match sgWindow s1 r x q with
      | .inl code => sgFault s1 p r q code
      | .inr (n, a) =>
        let y := sportOf s1 p
        match cachedPage y a, y.waits.any (fun w => decide (w.region = r.val)) with
        | some e, false => sgTranslate (setSport s1 p (cachePage y a e)) p r n e q
        | _, _ => setSport s1 p { y with waits := y.waits ++ [{ region := r, req := q }] }

/-- A request of an SSD, attributed to the operator (R249): it acts on the internal memory that its commands name (log entry
84). -/
def ssdRequest (s : State) (p : Nat) (q : SgReq) : State :=
  match q.kind with
  | .unsupported _ => sgReject s p q
  | _ => if inDdrHbm s q.addr.toNat (sgBytes q) then sgInternal s p q.addr.toNat q else sgReject s p q

/-- SADDLE_REQUEST (R266-R270). -/
def execSaddleRequest (p : Fin 8) (q : SgReq) (s : State) : Out :=
  .next (if s.err.failStop ∨ ¬ (sportOf s p).link ∨ (sportOf s p).pstate ≠ 0 ∨ portStalled s p then s
    else if 512 < sgDataLen q then malformedTlp s p
    else if p.val % 2 ≠ 0 then ssdRequest s p q
    else match sgRegion s p q with
      | none => count (sgReject s p q) (okey 0x6825 1)
      | some r =>
        match regionOf s r with
        | none => s
        | some x =>
          if x.st ≠ .open_ then sgFault s p r q 1
          else match q.kind with
            | .unsupported _ => sgFault s p r q 9
            | _ =>
              if x.queue ≠ [] ∨ ¬ rgMay x ∨ sgHeld s r x q then setRegion s r { x with queue := x.queue ++ [q] }
              else sgProceed s p r q)

/-- GATE_QUEUE_RELEASE (R270). -/
def execGateQueueRelease (r : Fin 64) (s : State) : Out :=
  .next (match regionOf s r with
    | none => s
    | some x =>
      match x.queue with
      | [] => s
      | q :: rest =>
        if s.err.failStop ∨ x.st ≠ .open_ ∨ ¬ rgMay x ∨ sgHeld s r x q then s
        else sgProceed (setRegion s r { x with queue := rest }) (rgPort x.conf) r q)

/-- PAGE_ENTRY_FETCH (R268): the entry of the oldest waiting request is there. -/
def execPageEntryFetch (p : Fin 8) (s : State) : Out :=
  .next (match (sportOf s p).waits with
    | [] => s
    | w :: rest =>
      let r : Fin 64 := ⟨w.region % 64, Nat.mod_lt _ (by decide)⟩
      match regionOf s r with
      | none => modSport s p (fun y => { y with waits := rest })
      | some x =>
        if s.err.failStop ∨ sgHeld s r x w.req then s
        else
          let s1 := modSport s p (fun y => { y with waits := rest })
          match sgWindow s1 r x w.req with
          | .inl code => sgFault s1 p r w.req code
          | .inr (n, a) =>
            if (cachedPage (sportOf s1 p) a).isNone ∧ poisoned s1 a 8 then sgFault s1 p r w.req 8
            else
              let e := (cachedPage (sportOf s1 p) a).getD (beNat (readInt s1 a 8))
              sgTranslate (modSport s1 p (fun y => cachePage y a e)) p r n e w.req)

/-! ### Link power (R277) and the fault record (R279) -/

def execSaddleL1Entry (p : Fin 8) (s : State) : Out :=
  .next (let m := numD s (okey 0x6822 p) 0
    let x := sportOf s p
    if ¬ x.link ∨ x.pstate ≠ 0 ∨ m = 0 then s
    else setSport s p { x with pstate := m, clkreqN := decide (m = 2) })

def execSaddleL1Exit (p : Fin 8) (s : State) : Out :=
  .next (if (sportOf s p).pstate ≠ 0 then modSport s p (fun x => { x with pstate := 0, clkreqN := false }) else s)

def regionFaultOp (who : Who) (r : Fin 64) : DictOp where
  status := fun s => firstStatus (baseChecks s (isO who || decide (who.role = .host)))
  effect := fun s =>
    match regionOf s r with
    | none => (s, List.replicate 24 0)
    | some x => (setRegion s r { x with first := 0 }, beBytes 8 x.faults ++ beBytes 16 x.first)

/-- REGION_FAULT (R279): returned, its first-fault part cleared. -/
def execRegionFaultRead (who : Who) (r : Fin 64) (s : State) : Out := .next (runOp (regionFaultOp who r) s)

end Sys2Proof.Machine
end

