-- ==== Sys2Proof/Machine/Table.lean ====
section
/-! DEFINITION. The table commands, learner, ager, partitions and bank tests of chapter 7 (R179-R203). -/

namespace Sys2Proof.Machine

/-! ### Partitions (R179, R180) -/

def kindInMem (m k : Nat) : Bool :=
  if m = 1 ∨ m = 3 then decide (k = 1) else if m = 4 then decide (k = 2) || decide (k = 3)
  else if m = 5 then decide (k = 4) else if m = 6 then decide (k = 5) else false

def widthInMem (m w : Nat) : Bool :=
  if m = 1 then [32, 64, 96, 128].contains w
  else if m = 3 then [64, 96].contains w
  else if m = 4 then [160, 320, 640].contains w
  else if m = 5 then decide (1 ≤ w) && decide (w ≤ 24)
  else if m = 6 then decide (1 ≤ w) && decide (w ≤ 64) else false

/-- Fields of the creation record. -/
def pcField (off n r : Nat) : Nat := recField 24 off n r

/-- Allocation units that a record asks for in its memory. -/
def pcUnits (r : Nat) : Nat :=
  let m := pcField 0 1 r
  if m = 5 then ceilDiv (2 ^ pcField 4 2 r) 1024
  else if m = 4 then pcField 12 4 r * pcField 4 2 r / 160 / 256
  else pcField 12 4 r / unitSize m

/-- A record that completes with RANGE. -/
def pcRangeBad (r : Nat) : Bool :=
  let m := pcField 0 1 r
  let fl := pcField 2 1 r % 8
  let kw := pcField 4 2 r
  let cap := pcField 12 4 r
  let learn := bitOf fl 1
  let age := pcField 20 2 r
  !kindInMem m (pcField 1 1 r) || !widthInMem m kw
  || (bitOf fl 0 && decide (m = 4)) || (learn && decide (m ≠ 3)) || (bitOf fl 2 && decide (m ≠ 1))
  || (if learn then decide (pcField 3 1 r < 16) || decide (63 < pcField 3 1 r) else decide (pcField 3 1 r ≠ 0))
  || (learn && decide (1023 < pcField 6 2 r))
  || (if m = 5 then false
      else if m = 4 then decide (cap = 0) || decide (cap * kw / 160 % 256 ≠ 0)
      else decide (cap = 0) || decide (cap % unitSize m ≠ 0))
  || (if bitOf fl 2 then decide (pcField 16 4 r = 0) || decide (pcField 16 4 r % 65536 ≠ 0) else decide (pcField 16 4 r ≠ 0))
  || (if learn then decide (age = 1) || decide (32767 < age) else decide (age ≠ 0))

/-- Units of a memory that no partition holds and that are not dead, in rising order (R202). -/
def freeUnits (x : TableState) (m : Nat) : List Nat :=
  (List.range (memCapacity m / max 1 (unitSize m))).filter (fun u =>
    x.parts.all (fun p => decide (p.2.memory ≠ m) || !p.2.units.contains u)
      && !x.retired.contains (m, u * unitSize m / bankSize m))

/-- Offset of the extension area in its stack (R390). -/
def extOffset (s : State) (v : Vale) : Nat :=
  (24 - (carveOf s (valeNum v)).flood - (carveOf s (valeNum v)).ext) * gib

/-- A unit of the extension area lies in a retired bank set: 65,536 entries of 32 bytes are one 2 MiB frame (R392). -/
def extUnitDead (s : State) (v : Vale) (u : Nat) : Bool :=
  hbmRetired s (valeNum v) (extOffset s v + u * 0x200000)

/-- Free units of the extension area. -/
def freeExtUnits (s : State) (v : Vale) : List Nat :=
  (List.range (min 1024 ((carveOf s (valeNum v)).ext * 512))).filter (fun u =>
    (s.vale v).table.parts.all (fun p => !p.2.extUnits.contains u) && !extUnitDead s v u)

def pcOwner (r : Nat) : Handle := BitVec.ofNat 32 (pcField 8 4 r)

/-- Units are short, or the owner's quota is. -/
def pcShort (s : State) (v : Vale) (r : Nat) : Bool :=
  decide ((freeUnits (s.vale v).table (pcField 0 1 r)).length < pcUnits r)
  || decide ((freeExtUnits s v).length < pcField 16 4 r / 65536)
  || !quotaOk s (pcOwner r) (partKind v) || !hasFree s (partKind v)

/-- A new partition: seed and secret from the TRNG (R182). -/
def newPartition (s : State) (v : Vale) (r : Nat) : Partition × State :=
  let a := drawTrng s 32
  let b := drawTrng a.2 128
  let m := pcField 0 1 r
  let units := (freeUnits (s.vale v).table m).take (pcUnits r)
  ({ memory := m, kind := pcField 1 1 r, flags := pcField 2 1 r % 8, learnWord := pcField 3 1 r, keyWidth := pcField 4 2 r,
     learnAction := pcField 6 2 r, owner := pcOwner r,
     capacity := if m = 5 then units.length * 1024 else pcField 12 4 r,
     extCapacity := pcField 16 4 r, ageLimit := pcField 20 2 r, seed := BitVec.ofNat 32 a.1, secret := BitVec.ofNat 128 b.1,
     units := units, extUnits := (freeExtUnits s v).take (pcField 16 4 r / 65536) }, b.2)

def partitionCreateOp (who : Who) (v : Vale) (r : Rec 24) : DictOp where
  status := fun s => firstStatus (baseChecks s (isO who) ++ ownerChecks s (pcOwner r.toNat) ++
    [(.range, pcRangeBad r.toNat), (.noResource, pcShort s v r.toNat)])
  effect := fun s =>
    match allocIndex s (partKind v) with
    | none => (s, [])
    | some (i, s1) =>
      let p := newPartition s1 v r.toNat
      let o := pcOwner r.toNat
      let s2 := setPart (addUsage (setOwner p.2 (partKind v) i o) o (partKind v)) v i p.1
      (s2, beBytes 4 (handleOf s2 (partKind v) i).toNat)

/-- PARTITION_CREATE (R179). -/
def execPartitionCreate (who : Who) (v : Vale) (r : Rec 24) (s : State) : Out := .next (runOp (partitionCreateOp who v r) s)

/-- Learn slots of a partition's entries leave their counts. -/
def uncountPart (s : State) (v : Vale) (p : Partition) : State :=
  if p.memory = 3 then p.slots.foldl (fun a e => subLearn a v e.2.slot) s else s

/-- A partition's entries, locks and units are given up and its index returns (R180). -/
def freePartition (s : State) (v : Vale) (i : Nat) : State :=
  match partAt s v i with
  | none => s
  | some p =>
    let s1 := (uncountPart s v p).modTable v (fun x => { x with
      parts := terase x.parts i, locks := tfilter x.locks (fun _ l => decide (l.part ≠ i)) })
    endObj s1 (partKind v) i

def partitionDestroyOp (who : Who) (v : Vale) (h : Handle) : DictOp where
  status := fun s => firstStatus (baseChecks s (isO who) ++ destroyChecks s h (partKind v))
  effect := fun s => (freePartition (bumpGen s (partKind v) (hIdx h)) v (hIdx h), [])

/-- PARTITION_DESTROY (R180). -/
def execPartitionDestroy (who : Who) (v : Vale) (h : Handle) (s : State) : Out := .next (runOp (partitionDestroyOp who v h) s)

/-! ### Command rings (R187, R188) -/

def tcRingOf (s : State) (v : Vale) (r : Nat) : TcRing := tgetD (s.vale v).table.rings r {}
def setTcRing (s : State) (v : Vale) (r : Nat) (x : TcRing) : State :=
  s.modTable v (fun t => { t with rings := tset t.rings r x })

def tcSize (x : TcRing) : Nat := 2 ^ x.log2
def tcCmdBase (x : TcRing) : Nat := x.cmdHi.toNat * 2 ^ 32 + x.cmdLo.toNat
def tcCplBase (x : TcRing) : Nat := x.cplHi.toNat * 2 ^ 32 + x.cplLo.toNat

/-- A write through PF0's BAR0 is discarded while PF0 does not serve (R295); one through the internal address space is not. -/
def ringShut (s : State) (host : Bool) : Bool := host && !fnServes s 0

/-- A vector of a ring in host memory at or beyond the table of PF0, of `lim` entries: the write does not enable the ring (R291,
log entry 85). -/
def ringVecBad (lim : Nat) (space : Bool) (w : U32) : Bool := space && decide (lim ≤ bitsOf w.toNat 0 11)

/-- The write of a ring's control word (R187): base, size and SPACE stand while EN is 1; EN is set when it is 0 or the ring
is halted. -/
def tcControl (lim : Nat) (x : TcRing) (w : U32) : TcRing :=
  let y : TcRing := { x with
    space := if x.en then x.space else bitOf w.toNat 30
    log2 := if x.en then x.log2 else bitsOf w.toNat 16 4
    intEn := bitOf w.toNat 29
    vector := if ringVecBad lim (if x.en then x.space else bitOf w.toNat 30) w then x.vector else bitsOf w.toNat 0 11 }
  if bitOf w.toNat 31 then
    if (!x.en || x.halted) && !ringVecBad lim y.space w && decide (4 ≤ y.log2) && decide (y.log2 ≤ 12) then
      { y with en := true, halted := false, reason := 0, head := 0, tail := 0, phase := true }
    else y
  else { y with en := false }

/-- TC_RING_ENABLE (R187). -/
def execTcRingEnable (v : Vale) (r : Fin 8) (w : RingWrite 32) (s : State) : Out :=
  .next (if ringShut s w.host then s else setTcRing s v r (tcControl (msixSize s 0) (tcRingOf s v r) w.val))

/-- A write of another register of a ring. -/
def tcRegister (lim : Nat) (x : TcRing) (off : Nat) (w : U32) : TcRing :=
  if off = 0x10 then tcControl lim x w
  else if x.en then x
  else if off = 0x00 then { x with cmdLo := w &&& 0xFFFFFF80#32 }
  else if off = 0x04 then { x with cmdHi := w }
  else if off = 0x08 then { x with cplLo := w &&& 0xFFFFFFE0#32 }
  else if off = 0x0C then { x with cplHi := w }
  else x

/-- PF0 can carry the engine's accesses to host memory. -/
def pf0Carries (s : State) : Bool :=
  decide ((fnOf s 0).flr = 0) && !fnHalted s 0 && !(fnOf s 0).silenced && decide (s.host.link ≠ 0)

/-- The engine can access `n` bytes at an address of a ring's space. -/
def tcReach (s : State) (space : Bool) (a n : Nat) : Bool :=
  if space then pf0Carries s && decide (a + n ≤ 2 ^ 64) else inDdrHbm s a n

/-- A read through a ring's space; none where it fails. -/
def tcReadMem (s : State) (space : Bool) (a n : Nat) : Option (List Byte × State) :=
  if !tcReach s space a n then none
  else if space then some (hostRead s 0 a n)
  else if poisoned s a n then none else some (readInt s a n, s)

def tcWriteMem (s : State) (space : Bool) (a : Nat) (bs : List Byte) : State :=
  if space then hostData s 0 a bs else writeInt s a bs

def tcHalt (s : State) (v : Vale) (r reason : Nat) : State :=
  setTcRing s v r { tcRingOf s v r with halted := true, reason := reason }

/-- The doorbell: a TAIL write is taken, ignored while EN is 0, or counted when it is beyond the ring (R187). -/
def tcDoorbellAt (s : State) (v : Vale) (r x : Nat) : State :=
  let g := tcRingOf s v r
  if !g.en then s
  else if tcSize g ≤ x then count s (vkey v 0x3637 5)
  else setTcRing s v r { g with tail := x }

/-! ### Commands (R189-R191) -/

/-- A command's fields. -/
structure TcCmd where
  op : Nat
  flags : Nat
  res : Nat
  part : Handle
  tag : Nat
  ticket : Nat
  result : BitVec 64
  index : Nat
  order : Nat
  count : Nat
  buffer : Nat
  key : List Byte

def tcCmdOf (b : List Byte) : TcCmd :=
  let f := fun (o n : Nat) => beNat (sliceD b o n 0)
  { op := f 0 1, flags := f 1 1, res := f 2 2 + f 40 8, part := BitVec.ofNat 32 (f 4 4), tag := f 8 4, ticket := f 12 4,
    result := BitVec.ofNat 64 (f 16 8), index := f 24 4, order := f 28 2, count := f 30 2, buffer := f 32 8,
    key := sliceD b 48 80 0 }

/-- What a completion says beside tag and PHASE (R191). -/
structure TcCpl where
  status : Status := .ok
  found : Bool := false
  existed : Bool := false
  inExt : Bool := false
  static : Bool := false
  held : Bool := false
  moves : Nat := 0
  ticket : Nat := 0
  location : Nat := 0
  result : BitVec 64 := 0
  age : Nat := 0
  slot : Nat := 0

def tcCplBytes (tag : Nat) (phase : Bool) (c : TcCpl) : List Byte :=
  beBytes 4 tag ++ beBytes 1 (statusCode c.status)
    ++ beBytes 1 (bit1 c.found + 2 * bit1 c.existed + 4 * bit1 c.inExt + 8 * bit1 c.static + 16 * bit1 c.held + 128 * bit1 phase)
    ++ beBytes 1 (min c.moves 255) ++ [0] ++ beBytes 4 c.ticket ++ beBytes 4 c.location ++ beBytes 8 c.result.toNat
    ++ beBytes 2 c.age ++ beBytes 1 c.slot ++ List.replicate 5 0

/-- The content of an entry in a completion. -/
def tcContent (s : State) (v : Vale) (i pos : Nat) (c : TcCpl) : TcCpl :=
  match partAt s v i with
  | none => c
  | some p =>
    match tget p.slots pos with
    | none => c
    | some e =>
      { c with
        found := true, static := e.static, held := e.lock.isSome, result := e.result
        inExt := decide (p.memory = 1) && decide (p.capacity ≤ pos)
        age := if p.memory = 3 then ((s.vale v).table.now + 65536 - e.ts) % 65536 else 0
        slot := if p.memory = 3 then e.slot else 0 }

/-- The entry's key of a command, in the partition's width. -/
def tcKey (p : Partition) (c : TcCmd) : Nat :=
  if p.memory = 6 then beNat (c.key.take 8) else beNat (c.key.take (p.keyWidth / 8))

/-- Bits of the key past the key width, or past the prefix length, are set (R189). -/
def tcKeyBad (p : Partition) (c : TcCmd) : Bool :=
  if p.memory = 5 then false
  else if p.memory = 6 then
    decide (2 ^ p.keyWidth ≤ beNat (c.key.take 8)) || decide (2 ^ p.keyWidth ≤ beNat (sliceD c.key 8 8 0))
      || (c.key.drop 16).any (fun b => decide (b ≠ 0))
  else (c.key.drop (p.keyWidth / 8)).any (fun b => decide (b ≠ 0))
    || (decide (p.kind = 2) && decide (c.op < 7) &&
        (decide (p.keyWidth < c.order) || decide (tcKey p c % 2 ^ (p.keyWidth - c.order) ≠ 0)))

/-- The entry index is out of range. -/
def tcIndexBad (p : Partition) (c : TcCmd) : Bool :=
  if p.kind = 3 ∨ p.memory = 6 then decide (p.capacity ≤ c.index)
  else if p.memory = 5 then decide (2 ^ p.keyWidth ≤ c.index) else false

def tcFieldBad (p : Partition) (c : TcCmd) : Bool :=
  tcKeyBad p c ||
    (if c.op = 7 then decide (c.count < 1) || decide (1024 < c.count)
     else if c.op = 8 then decide (p.memory ≠ 3) || (!bitOf c.flags 2 && decide (16 < c.index) && decide (c.index ≠ 0xFF))
     else tcIndexBad p c)

/-- The failures that do not depend on the opcode's own effect (R190). -/
def tcChecks (s : State) (v : Vale) (c : TcCmd) : Status :=
  let fits := handleFits c.part (partKind v)
  let p := if fits && handleCurrent s c.part then partAt s v (hIdx c.part) else none
  firstStatus
    [(.range, !fits || decide (c.op < 1) || decide (8 < c.op) || decide (8 ≤ c.flags) || decide (c.res ≠ 0)
        || (match p with | some x => tcFieldBad x c | none => false)),
     (.staleHandle, handleStale s c.part || (fits && p.isNone)),
     (.halted, match p with | some x => ownerHalted s x.owner | none => false)]

/-- The position of the entry a command identifies (R189). -/
def tcFind (x : TableState) (p : Partition) (c : TcCmd) : Option Nat :=
  if p.memory = 1 ∨ p.memory = 3 then lookupAll x p (tcKey p c)
  else if p.kind = 2 then
    (p.slots.find? (fun e => decide (e.2.key = tcKey p c) && decide (e.2.order = c.order))).map (·.1)
  else if p.kind = 3 then (p.slots.find? (fun e => decide (e.2.index = c.index))).map (·.1)
  else (tget p.slots c.index).map (fun _ => c.index)

/-- What identifies an entry in its partition. -/
def tcIdent (p : Partition) (c : TcCmd) : Nat :=
  if p.memory = 1 ∨ p.memory = 3 then tcKey p c
  else if p.kind = 2 then tcKey p c * 1024 + c.order else c.index

def entryIdent (p : Partition) (e : Entry) : Nat :=
  if p.memory = 1 ∨ p.memory = 3 then e.key else if p.kind = 2 then e.key * 1024 + e.order else e.index

/-- What an opcode does: the state after it and its completion; none where its buffer could not be accessed. -/
abbrev TcRun := State → Option (State × TcCpl)

/-- The new entry of an INSERT. -/
def tcEntry (now : Nat) (p : Partition) (c : TcCmd) (mask : Nat) : Entry :=
  { key := if p.memory = 5 then c.index else tcKey p c, mask := mask,
    high := if p.memory = 6 then beNat (sliceD c.key 8 8 0) else 0,
    order := if p.memory = 4 ∨ p.memory = 6 then c.order else 0,
    index := if p.kind = 3 ∨ p.memory = 5 ∨ p.memory = 6 then c.index else 0, result := c.result,
    ts := if p.memory = 3 then now else 0, static := decide (p.memory = 3) && bitOf c.flags 0 }

/-- INSERT into an exact or forwarding partition. -/
def tcInsertExact (s : State) (v : Vale) (i : Nat) (p : Partition) (c : TcCmd) : State × TcCpl :=
  let x := (s.vale v).table
  let e := tcEntry x.now p c 0
  let r := insertExact x p e.key (fun _ => e)
  if r.status ≠ .ok then
    (s, (match lookupAll x p e.key with
      | some q => tcContent s v i q { status := r.status }
      | none => { status := r.status }))
  else
    let old := match lookupAll x p e.key with
      | some q => (match tget p.slots q with | some o => o.slot | none => 0xFF)
      | none => 0xFF
    let s1 := setPart s v i r.part
    let s2 := if p.memory = 3 then subLearn s1 v old else s1
    (s2, tcContent s2 v i r.pos { existed := r.existed, moves := r.moves })

/-- Places a new entry of a masked associative partition. -/
def tcPlace (s : State) (v : Vale) (i : Nat) (p : Partition) (e : Entry) (existed : Bool) : State × TcCpl :=
  match openSlot (s.vale v).table p e with
  | none => (s, { status := .noResource })
  | some (g, p1, n) =>
    let q := g * entrySlots p
    let p2 := { p1 with slots := tset p1.slots q e }
    let s1 := (setPart s v i p2).modTable v (fun x => relock x i p2)
    (s1, tcContent s1 v i q { existed := existed, moves := n })

/-- INSERT into a masked associative, direct or range partition. -/
def tcInsertOther (s : State) (v : Vale) (i : Nat) (p : Partition) (c : TcCmd) (mask : Nat) : State × TcCpl :=
  let x := (s.vale v).table
  let e := tcEntry x.now p c mask
  match tcFind x p c with
  | some q =>
    let o := (tget p.slots q).getD {}
    if o.lock.isSome then (s, tcContent s v i q { status := .locked })
    else if p.kind = 3 ∧ o.order ≠ e.order then tcPlace s v i { p with slots := terase p.slots q } e true
    else
      let s1 := setPart s v i { p with slots := tset p.slots q (if p.kind = 2 then { o with result := e.result } else e) }
      (s1, tcContent s1 v i q { existed := true })
  | none =>
    if p.memory = 4 then tcPlace s v i p e false
    else if posDead x p c.index then (s, { status := .noResource })
    else
      let s1 := setPart s v i { p with slots := tset p.slots c.index e }
      (s1, tcContent s1 v i c.index {})

def tcRunInsert (v : Vale) (space : Bool) (c : TcCmd) : TcRun := fun s =>
  match partAt s v (hIdx c.part) with
  | none => some (s, {})
  | some p =>
    if p.memory = 1 ∨ p.memory = 3 then some (tcInsertExact s v (hIdx c.part) p c)
    else if p.kind = 3 then
      match tcReadMem s space c.buffer 80 with
      | none => none
      | some (m, s1) =>
        if (m.drop (p.keyWidth / 8)).any (fun b => decide (b ≠ 0)) then some (s1, { status := .range })
        else some (tcInsertOther s1 v (hIdx c.part) p c (beNat (m.take (p.keyWidth / 8))))
    else some (tcInsertOther s v (hIdx c.part) p c 0)

/-- Outcome of the ticket rule for an identified entry (R190): OK where the command may go on. -/
def tcTicket (x : TableState) (p : Partition) (c : TcCmd) (e : Option Entry) : Status :=
  if x.expired.contains (c.ticket, c.part.toNat, tcIdent p c) then .timeout
  else match e with
    | none => if c.op = 6 then .locked else .ok
    | some e =>
      match e.lock with
      | none => if c.op = 2 then .ok else .locked
      | some n => (match tget x.locks n with
        | some l => if l.ticket = c.ticket then .ok else .locked
        | none => .locked)

/-- DELETE, READ, LOCK, UPDATE and UNLOCK find their entry first; an absent one completes with FOUND 0, but for UNLOCK. -/
def tcOnEntry (v : Vale) (c : TcCmd) (f : Nat → Partition → Nat → Entry → State → State × TcCpl) : TcRun := fun s =>
  match partAt s v (hIdx c.part) with
  | none => some (s, {})
  | some p =>
    match tcFind (s.vale v).table p c with
    | none =>
      let x := (s.vale v).table
      some (s, { status := if c.op = 6 then tcTicket x p c none else .ok })
    | some q => some (f (hIdx c.part) p q ((tget p.slots q).getD {}) s)

def tcRunDelete (v : Vale) (c : TcCmd) : TcRun := tcOnEntry v c (fun i p q e s =>
  match tcTicket (s.vale v).table p c (some e) with
  | .ok => (deleteEntry s v i q, { found := true })
  | st => (s, tcContent s v i q { status := st }))

def tcRunRead (v : Vale) (c : TcCmd) : TcRun := tcOnEntry v c (fun i _ q _ s => (s, tcContent s v i q {}))

/-- The lowest free lock number. -/
def freeLock (x : TableState) : Option Nat := (List.range 4096).find? (fun n => (tget x.locks n).isNone)

/-- LOCK (R193): a lock number, its next sequence number, the entry's lock bit. -/
def tcRunLock (v : Vale) (c : TcCmd) : TcRun := tcOnEntry v c (fun i p q e s =>
  let x := (s.vale v).table
  if e.lock.isSome then (s, tcContent s v i q { status := .locked })
  else match freeLock x with
    | none => (s, tcContent s v i q { status := .noResource })
    | some n =>
      let seq := (tgetD x.lockSeq n 0 + 1) % 65536
      let t := seq * 65536 + n
      let s1 := setPart s v i { p with slots := tset p.slots q { e with lock := some n } }
      let s2 := s1.modTable v (fun y => { y with
        locks := tset y.locks n { part := i, pos := q, ticket := t, since := nowNs s }
        lockSeq := tset y.lockSeq n seq
        expired := y.expired.filter (fun z => decide (z.1 ≠ t)) })
      (s2, tcContent s2 v i q { ticket := t }))

/-- UPDATE stages a new result, and in memory 3 a new static bit, in the lock. -/
def tcRunUpdate (v : Vale) (c : TcCmd) : TcRun := tcOnEntry v c (fun i p q e s =>
  match tcTicket (s.vale v).table p c (some e) with
  | .ok =>
    let st := if p.memory = 3 then bitOf c.flags 0 else e.static
    let s1 := s.modTable v (fun x => { x with locks :=
      match e.lock with
      | some n => (match tget x.locks n with
        | some l => tset x.locks n { l with staged := some (c.result, st) }
        | none => x.locks)
      | none => x.locks })
    (s1, tcContent s1 v i q {})
  | st => (s, tcContent s v i q { status := st }))

/-- UNLOCK publishes or discards the staged content and releases the lock. -/
def tcRunUnlock (v : Vale) (c : TcCmd) : TcRun := tcOnEntry v c (fun i p q e s =>
  let x := (s.vale v).table
  match tcTicket x p c (some e) with
  | .ok =>
    let l := (e.lock.bind (tget x.locks)).getD { part := i, pos := q, ticket := 0 }
    let e1 : Entry := { e with lock := none }
    let e2 : Entry := if bitOf c.flags 1 then
        { e1 with result := (l.staged.map (·.1)).getD e.result, static := (l.staged.map (·.2)).getD e.static
                  ts := if p.memory = 3 then x.now else e.ts }
      else e1
    let s1 := (setPart s v i { p with slots := tset p.slots q e2 }).modTable v (fun y => { y with
      locks := match e.lock with | some n => terase y.locks n | none => y.locks })
    (s1, tcContent s1 v i q {})
  | st => (s, tcContent s v i q { status := st }))

/-- Positions that a WALK can read (R192). -/
def walkTotal (p : Partition) : Nat :=
  if p.memory = 4 then partSize p else if p.memory = 5 then 2 ^ p.keyWidth else p.capacity + p.extCapacity

/-- A walk record (R192). -/
def walkRecord (p : Partition) (q : Nat) : List Byte :=
  match tget p.slots q with
  | none => List.replicate 96 0
  | some e =>
    let key := if p.memory = 6 then beBytes 8 e.key ++ beBytes 8 e.high
      else if p.memory = 5 then [] else beBytes (p.keyWidth / 8) e.key
    beBytes 8 e.result.toNat ++ beBytes 2 e.order ++ beBytes 2 (if p.memory = 3 then e.ts else 0)
      ++ beBytes 1 (1 + 2 * bit1 e.static + 4 * bit1 e.lock.isSome + 8 * bit1 (decide (p.memory = 1) && decide (p.capacity ≤ q)))
      ++ beBytes 1 (if p.memory = 3 then e.slot else 0) ++ beBytes 2 (if p.memory = 5 then 0 else e.index)
      ++ sliceD key 0 80 0

/-- WALK writes the records from the start position on, as far as the partition has positions. -/
def tcRunWalk (v : Vale) (space : Bool) (c : TcCmd) : TcRun := fun s =>
  match partAt s v (hIdx c.part) with
  | none => some (s, {})
  | some p =>
    let n := min c.count (walkTotal p - c.index)
    if !tcReach s space c.buffer (96 * max n 1) then none
    else
      let bs := (List.range n).flatMap (fun k => walkRecord p (c.index + k))
      some (tcWriteMem s space c.buffer bs, { location := c.index + n })

/-- FLUSH removes an entry unless it is locked (R190). -/
def flushEntry (s : State) (v : Vale) (i pos : Nat) : State :=
  match (partAt s v i).bind (fun p => tget p.slots pos) with
  | some e => if e.lock.isSome then s else deleteEntry s v i pos
  | none => s

/-- FLUSH deletes the non-static entries of a learn slot, or of all; locked ones are skipped and their number returned. -/
def tcRunFlush (v : Vale) (c : TcCmd) : TcRun := fun s =>
  match partAt s v (hIdx c.part) with
  | none => some (s, {})
  | some p =>
    let hit := p.slots.filter (fun e => !e.2.static && (bitOf c.flags 2 || decide (e.2.slot = c.index)))
    let locked := hit.filter (fun e => e.2.lock.isSome)
    let s1 := hit.foldl (fun a e => flushEntry a v (hIdx c.part) e.1) s
    some (s1, { location := locked.length })

/-- The state in which a ring's read of host memory is granted; none where it waits for PF0 or for the arbiter (R299-R301). -/
def tcTurn (s : State) (space : Bool) : Option State :=
  if !space || !pf0Carries s then some s
  else if !(fnOf s 0).busMaster || (fnOf s 0).d3hot then none
  else readTurn s 0

/-- The command at a ring's HEAD. -/
def tcFetch (s : State) (v : Vale) (r : Nat) : Option (Option (TcCmd × State)) :=
  let g := tcRingOf s v r
  if !g.en || g.halted || decide (g.head = g.tail) || (s.vale v).table.stopped || s.err.failStop then none
  else match tcTurn s g.space with
    | none => none
    | some s0 =>
      match tcReadMem s0 g.space (tcCmdBase g + 128 * g.head) 128 with
      | none => some none
      | some (b, s1) => some (some (tcCmdOf b, s1))

/-- The completion of command slot `i` goes to completion slot `i`; HEAD, phase and interrupt follow (R188, R191). -/
def tcComplete (s : State) (v : Vale) (r tag : Nat) (c : TcCpl) : State :=
  let g := tcRingOf s v r
  let a := tcCplBase g + 32 * g.head
  let h := (g.head + 1) % tcSize g
  if !tcReach s g.space a 32 then tcHalt (setTcRing s v r { g with head := h }) v r 2
  else
    let s1 := if g.space then hostWrite s 0 a (tcCplBytes tag g.phase c) else writeInt s a (tcCplBytes tag g.phase c)
    let s2 := setTcRing s1 v r { g with head := h, phase := if h = 0 then !g.phase else g.phase }
    if g.intEn then ringVector s2 g.space g.vector else s2

/-- One command of a ring: its checks, its own effect, its completion. -/
def tcOne (s : State) (v : Vale) (r : Nat) (c : TcCmd) (run : TcRun) : State :=
  match tcChecks s v c with
  | .ok => (match run s with
    | none => tcHalt (setTcRing s v r { tcRingOf s v r with head := ((tcRingOf s v r).head + 1) % tcSize (tcRingOf s v r) }) v r 3
    | some (s1, cpl) => tcComplete s1 v r c.tag cpl)
  | st => tcComplete s v r c.tag { status := st }

/-- Commands of no opcode at HEAD complete with RANGE, or STALE_HANDLE (R190); they have no row of their own. -/
def tcSkip : Nat → Vale → Nat → State → State
  | 0, _, _, s => s
  | fuel + 1, v, r, s =>
    match tcFetch s v r with
    | some (some (c, s1)) => if 1 ≤ c.op ∧ c.op ≤ 8 then s else tcSkip fuel v r (tcOne s1 v r c (fun a => some (a, {})))
    | _ => s

/-- The command with opcode `op` at HEAD of ring `r` runs; another command waits for its own row. -/
def tcRow (v : Vale) (r op : Nat) (run : Bool → TcCmd → TcRun) (s : State) : State :=
  match tcFetch s v r with
  | none => s
  | some none => tcHalt s v r 1
  | some (some (c, s1)) =>
    if c.op = op then tcSkip (tcSize (tcRingOf s v r)) v r (tcOne s1 v r c (run (tcRingOf s v r).space c)) else s

/-- TC_DOORBELL (R188). -/
def execTcDoorbell (v : Vale) (r : Fin 8) (x : RingWrite 12) (s : State) : Out :=
  .next (if ringShut s x.host then s else tcSkip 4096 v r (tcDoorbellAt s v r x.val.toNat))

def execTcInsert (v : Vale) (r : Fin 8) (s : State) : Out := .next (tcRow v r 1 (fun sp c => tcRunInsert v sp c) s)
def execTcDelete (v : Vale) (r : Fin 8) (s : State) : Out := .next (tcRow v r 2 (fun _ c => tcRunDelete v c) s)
def execTcRead (v : Vale) (r : Fin 8) (s : State) : Out := .next (tcRow v r 3 (fun _ c => tcRunRead v c) s)
def execTcLock (v : Vale) (r : Fin 8) (s : State) : Out := .next (tcRow v r 4 (fun _ c => tcRunLock v c) s)
def execTcUpdate (v : Vale) (r : Fin 8) (s : State) : Out := .next (tcRow v r 5 (fun _ c => tcRunUpdate v c) s)
def execTcUnlock (v : Vale) (r : Fin 8) (s : State) : Out := .next (tcRow v r 6 (fun _ c => tcRunUnlock v c) s)
def execTcWalk (v : Vale) (r : Fin 8) (s : State) : Out := .next (tcRow v r 7 (fun sp c => tcRunWalk v sp c) s)
def execTcFlush (v : Vale) (r : Fin 8) (s : State) : Out := .next (tcRow v r 8 (fun _ c => tcRunFlush v c) s)

/-! ### Locks that expire (R194) -/

/-- A lock held for 100 ms is released without its staged content. -/
def execTableLockExpired (v : Vale) (l : Fin 4096) (s : State) : Out :=
  .next (
    let x := (s.vale v).table
    match tget x.locks l with
    | none => s
    | some k =>
      let h := handleOf s (partKind v) k.part
      let p := partAt s v k.part
      let own := match p with | some y => y.owner | none => 0
      let ident := match p with
        | some y => (match tget y.slots k.pos with | some e => entryIdent y e | none => 0)
        | none => 0
      let s1 := s.modTable v (fun y => { dropLock y l with expired := (k.ticket, h.toNat, ident) :: y.expired })
      raise (count s1 (vkey v 0x3637 4))
        { cls := 3, name := "TABLE_LOCK_EXPIRED", unit := valeBlock v 130, resource := h.toNat, tenancy := own,
          detail := k.ticket })

/-! ### The learner (R197, R198) -/

/-- The learner takes one request. -/
def execLearnInsert (v : Vale) (s : State) : Out :=
  .next (
    let x := (s.vale v).table
    match x.learnQ with
    | [] => s
    | r :: rest =>
      if s.err.failStop ∨ x.stopped then s
      else
      let s0 := s.modTable v (fun y => { y with learnQ := rest })
      if !handleCurrent s r.handle then subLearn s0 v r.slot
      else match partAt s0 v r.part with
        | none => subLearn s0 v r.slot
        | some p =>
          if (lookupAll x p r.key).isSome then subLearn s0 v r.slot
          else
            let e : Entry := { key := r.key, result := BitVec.ofNat 64 (p.learnAction * 2 ^ 54 + r.value.toNat), ts := x.now,
                               slot := r.slot }
            let n := insertExact x p r.key (fun _ => e)
            if n.status = .ok then notify (setPart s0 v r.part n.part) v 1 r.slot r.handle r.value.toNat r.key p.keyWidth
            else count (subLearn s0 v r.slot) (vkey v 0x3635 2))

/-- A read of LEARN_LOG returns the oldest records, at most 32, and removes them. -/
def learnLogOp (who : Who) (v : Vale) : DictOp where
  status := fun s => firstStatus (baseChecks s (isO who))
  effect := fun s =>
    let l := (s.vale v).table.learnLog
    (s.modTable v (fun x => { x with learnLog := l.drop 32 }), (l.take 32).flatten)

def execLearnLogRead (who : Who) (v : Vale) (s : State) : Out := .next (runOp (learnLogOp who v) s)

/-! ### Aging and scrubbing (R186, R199) -/

/-- AGE_TICK milliseconds of ticks have passed since the last aging tick (R199, R230). -/
def ageDue (s : State) (v : Vale) : Bool := decide ((s.vale v).table.ageDue ≤ s.time.ticks)

/-- The tick counter of a Vale advances. -/
def execAgeTick (v : Vale) (s : State) : Out :=
  .next (if ageDue s v then s.modTable v (fun x => { x with
      now := (x.now + 1) % 65536
      ageDue := x.ageDue + numD s (vkey v 0x3630 1) 1000 * 125000 }) else s)

/-- The ager visits one slot of a forwarding partition. -/
def execAgerVisit (v : Vale) (p : Fin 1024) (pos : Nat) (s : State) : Out :=
  .next (match partAt s v p with
    | none => s
    | some x =>
      match tget x.slots pos with
      | none => s
      | some e =>
        let now := (s.vale v).table.now
        let age := (now + 65536 - e.ts) % 65536
        if x.memory ≠ 3 ∨ x.ageLimit = 0 ∨ e.static ∨ e.lock.isSome ∨ age < x.ageLimit ∨ s.err.failStop then s
        else
          let s1 := count (deleteEntry s v p pos) (vkey v 0x3635 5)
          notify s1 v 3 e.slot (handleOf s (partKind v) p) (e.result.toNat % 2 ^ 32) e.key x.keyWidth)

/-- The scrubber rewrites a masked associative slot that differs from its shadow and counts the repair; commands and the
model's lookups take the shadow's content. -/
def execTcamScrub (v : Vale) (p : Fin 1024) (pos : Nat) (differs : Bool) (s : State) : Out :=
  .next (match partAt s v p with
    | some x => if x.memory = 4 && differs && decide (pos < partSize x) then count s (vkey v 0x3637 2) else s
    | none => s)

/-! ### Bank tests and retirement (R201, R202) -/

/-- Entries of a partition that stand in a bank. -/
def inBank (p : Partition) (m b q : Nat) : Bool :=
  decide (p.memory = m) && decide (q < partSize p) && decide (posBank p q = b)

/-- One entry leaves a dead bank: exact and forwarding ones go to their other bucket while it has a free slot. -/
def rescueEntry (v : Vale) (i : Nat) (s : State) (qe : Nat × Entry) : State :=
  match partAt s v i with
  | none => s
  | some p =>
    let lost := count (deleteEntry s v i qe.1) (vkey v 0x3637 3)
    if p.memory = 1 ∨ p.memory = 3 then
      let b := otherBucket p 0 (dieBuckets p) qe.2 qe.1
      match findFreePos p ((bucketPos 0 b).filter (fun q => !posDead (s.vale v).table p q)) with
      | some q =>
        let p1 := { p with slots := tset (terase p.slots qe.1) q qe.2, moves := (p.moves + 1) % 2 ^ 32 }
        (setPart s v i p1).modTable v (fun x => relock x i p1)
      | none => lost
    else lost

/-- A bank is retired with no spare left: its slots become dead (R202). -/
def killBank (s : State) (v : Vale) (m b level errSeq : Nat) : State :=
  if (s.vale v).table.retired.contains (m, b) then s
  else
    let s1 := s.modTable v (fun x => { x with retired := x.retired ++ [(m, b)] })
    let s2 := (s1.vale v).table.parts.foldl (fun a ip =>
      (ip.2.slots.filter (fun e => inBank ip.2 m b e.1)).foldl (rescueEntry v ip.1) a) s1
    raise s2 { cls := 3, name := "TABLE_CAPACITY_LOST", unit := valeBlock v 130, level := level, detail := bankKey m b,
               errSeq := errSeq }

def tableTestOp (who : Who) (v : Vale) (x : U16) : DictOp where
  status := fun s =>
    let m := x.toNat / 256
    let b := x.toNat % 256
    let t := (s.vale v).table
    firstStatus (baseChecks s (isO who) ++
      [(.range, decide (memBanks m ≤ b) || t.retired.contains (m, b)),
       (.busy, decide (t.testSt ≠ 0)), (.noResource, decide (b < memBanks m) && decide (sparesLeft t m = 0))])
  effect := fun s => (s.modTable v (fun t => { t with
    testSt := 1, testBank := x.toNat, testStart := tickNs s, spares := tmod t.spares (x.toNat / 256) 0 (· + 1) }), [])
  retry := fun s => estimateMs s 3000000 (s.vale v).table.testStart

/-- TABLE_BANK_TEST (R201). -/
def execTableBankTest (who : Who) (v : Vale) (x : U16) (s : State) : Out := .next (runOp (tableTestOp who v x) s)

/-- The spare that takes a logical bank number, already counted as used: its spare rows used become the bank's (R201). Spares
that were never in service come first (log entry 82). -/
def swapRows (x : TableState) (k : Nat) : TableState :=
  let m := k / 256
  match tgetD x.spareRows m [] with
  | n :: r => if sparesLeft x m < r.length + 1 then { x with rowsUsed := tset x.rowsUsed k n, spareRows := tset x.spareRows m r }
              else { x with rowsUsed := terase x.rowsUsed k }
  | [] => { x with rowsUsed := terase x.rowsUsed k }

/-- The copy completes: the spare takes the logical bank number. -/
def execTableMigrationDone (v : Vale) (s : State) : Out :=
  .next (if (s.vale v).table.testSt = 1 then s.modTable v (fun x =>
      { swapRows x x.testBank with testSt := 2, testRows := tgetD x.rowsUsed x.testBank 0 }) else s)

/-- The tested bank becomes a spare, or is retired and a spare fewer is left. -/
def execTableTestDone (v : Vale) (pass : Bool) (s : State) : Out :=
  .next (
    let x := (s.vale v).table
    let ok := testVerdict s (unitId 1 (1 + valeNum v) (131 + x.testBank / 256) (x.testBank % 256)) pass
    if x.testSt ≠ 2 then s
    else if ok.1 then ok.2.modTable v (fun t => { t with
        testSt := 0, testResult := .ok, spares := tmod t.spares (x.testBank / 256) 0 (· - 1)
        spareRows := tmod t.spareRows (x.testBank / 256) [] (· ++ [x.testRows]) })
    else
      raise (ok.2.modTable v (fun t => { t with testSt := 0, testResult := .halted }))
        { cls := 3, name := "TABLE_BANK_RETIRED", unit := valeBlock v 130, detail := x.testBank })

end Sys2Proof.Machine
end

