-- ==== Sys2Proof/Machine/Tenancy.lean ====
section
/-! DEFINITION. Tenancies (R20-R34): creation, quotas, shares, reset, and the steps of a teardown. -/

namespace Sys2Proof.Machine

/-- The checks on the handle of a request to a tenancy-relative object (R11, R16, R31, R45). -/
def tenChecks (s : State) (h : Handle) : List (Status × Bool) :=
  [(.range, !handleFits h 1), (.staleHandle, handleStale s h),
   (.halted, tenCurrent s h && ownerHalted s h)]

/-! ### Creation (R20, R21) -/

def tcMode (r : Nat) : Nat := recField 8 0 1 r
def tcKind (r : Nat) : Nat := recField 8 1 1 r
def tcShare (r : Nat) : Vale → Nat
  | .east => recField 8 2 2 r
  | .west => recField 8 4 2 r

/-- A share value out of range: static 0-576 threads, dynamic weight 1-255 (R20). -/
def shareBad (dyn : Bool) (x : Nat) : Bool := if dyn then decide (x < 1) || decide (255 < x) else decide (576 < x)

def tenancyCreateOp (who : Who) (r : Rec 8) : DictOp where
  status := fun s =>
    let n := r.toNat
    let dyn := decide (tcKind n = 1)
    firstStatus (baseChecks s (isO who) ++
      [(.range, decide (tcMode n < 1) || decide (3 < tcMode n) || decide (1 < tcKind n)
          || shareBad dyn (tcShare n .east) || shareBad dyn (tcShare n .west)),
       (.noResource, !hasFree s 1 || (!dyn && (decide (576 < staticSum s .east + tcShare n .east)
          || decide (576 < staticSum s .west + tcShare n .west))))])
  effect := fun s =>
    match allocIndex s 1 with
    | none => (s, [])
    | some (i, s1) =>
      let n := r.toNat
      let h := handleOf s1 1 i
      let s2 := setTen s1 i { mode := tcMode n, dyn := decide (tcKind n = 1), shareEast := tcShare n .east,
                              shareWest := tcShare n .west, handle := h }
      (afterShare s (afterShare s s2 .east) .west, beBytes 4 h.toNat)

/-- TENANCY_CREATE (R20, R21). -/
def execTenancyCreate (who : Who) (r : Rec 8) (s : State) : Out := .next (runOp (tenancyCreateOp who r) s)

/-! ### Quotas and shares (R22, R23) -/

def tenQuotaOp (who : Who) (h : Handle) (kind : U8) (x : U32) : DictOp where
  status := fun s => firstStatus (baseChecks s (isO who) ++ tenChecks s h ++
    [(.range, decide (kindCount kind.toNat = 0) || decide (kindCount kind.toNat < x.toNat)
        || (tenCurrent s h && decide (x.toNat < usageOf s (hIdx h) kind.toNat)))])
  effect := fun s => (setNum s (tkey (hIdx h) 0xC001 kind.toNat) x.toNat, [])

/-- TEN_QUOTA (R23). -/
def execTenQuotaWrite (who : Who) (h : Handle) (kind : U8) (v : U32) (s : State) : Out :=
  .next (runOp (tenQuotaOp who h kind v) s)

def setShare (t : Tenancy) (v : Vale) (x : Nat) : Tenancy :=
  match v with
  | .east => { t with shareEast := x }
  | .west => { t with shareWest := x }

def tenShareOp (who : Who) (h : Handle) (v : Vale) (x : U16) : DictOp where
  status := fun s =>
    match tenAt s (hIdx h) with
    | none => firstStatus (baseChecks s (isO who) ++ tenChecks s h)
    | some t => firstStatus (baseChecks s (isO who) ++ tenChecks s h ++
        [(.range, shareBad t.dyn x.toNat),
         (.noResource, !t.dyn && decide (576 < staticSum s v - shareOf t v + x.toNat))])
  effect := fun s => (afterShare s (modTen s (hIdx h) (fun t => setShare t v x.toNat)) v, [])

/-- TEN_SHARE_EAST and TEN_SHARE_WEST (R22). -/
def execTenShareWrite (who : Who) (h : Handle) (v : Vale) (x : U16) (s : State) : Out :=
  .next (runOp (tenShareOp who h v x) s)

/-! ### Destroy (R17, R30, R34) -/

/-- The live objects of an owner: kind and index. -/
def ownedObjs (s : State) (h : Handle) : List (Nat × Nat) :=
  (s.dict.owners.filter (fun p => decide (p.2 = h))).map (fun p => (p.1 / 65536, p.1 % 65536))

/-- The live objects of an owner of one kind. -/
def ownedOf (s : State) (h : Handle) (kind : Nat) : List Nat :=
  ((ownedObjs s h).filter (fun p => decide (p.1 = kind))).map (·.2)

/-- PORT_TENANCY is 0 again on the ports assigned to a destroyed tenancy. -/
def clearPorts (s : State) (h : Handle) : State :=
  [Vale.east, Vale.west].foldl (fun a v => (List.range 8).foldl (fun b k =>
    let port := vkey v 0x3001 (valeNum v * 8 + k)
    if numD b port 0 = h.toNat then persist (setNum b port 0) port else b) a) s

/-- The objects whose destruction TENANCY_DESTROY accepts: those of the tenancy but for a function, and its contexts, that
VF_RELEASE has ended already (R17). -/
def dyingObjs (s : State) (h : Handle) : List (Nat × Nat) :=
  (ownedObjs s h).filter (fun p =>
    !(decide (p.1 = 3) && (fnOf s (p.2 + 4)).releasing) &&
    !(decide (p.1 = 2) && (ctxOf s p.2).any (fun q => (fnOf s q.fn).releasing)))

/-- Records of COND_QUEUE that name a queue of the tenancy are kept, with the queue handle 0 (R128). -/
def unnameQueues (s : State) (h : Handle) : State :=
  { s with dict := { s.dict with nums := tmap s.dict.nums (fun k r =>
      let q : Handle := BitVec.ofNat 32 (recField 12 0 4 r)
      if ((vkey .east 0x3015 0 ≤ k ∧ k < vkey .east 0x3015 32) ∨ (vkey .west 0x3015 0 ≤ k ∧ k < vkey .west 0x3015 32)) ∧
          q ≠ 0 ∧ handleCurrent s q ∧ ownerOf s (hKind q) (hIdx q) = some h then
        recSet 12 0 4 r 0
      else r) } }

def tenancyDestroyOp (who : Who) (h : Handle) : DictOp where
  status := fun s => firstStatus (baseChecks s (isO who) ++
    [(.range, !handleFits h 1), (.staleHandle, handleStale s h)])
  effect := fun s =>
    let i := hIdx h
    let s1 := (dyingObjs s h).foldl (fun a p => bumpGen a p.1 p.2) (bumpGen (bumpGen (unnameQueues s h) 1 i) 7 i)
    let s2 := modTen s1 i (fun t => { t with st := .destroying, step := 1, resetting := false })
    let s3 : State := { s2 with
      mig := tmod s2.mig i {} (fun m => { m with hold := 0, on := false, ranges := [] })
      dict := { s2.dict with
        nums := (List.range 8).foldl (fun t k => terase t (tkey i 0xC061 k)) s2.dict.nums
        octs := terase s2.dict.octs (tkey i 0xC010 1) } }
    ((tenFns s3 h).foldl startFlr (clearPorts s3 h), [])

/-- TENANCY_DESTROY: the generations rise, ANCHOR_T is zero (R69), the dirty-page log and the hold end (R364, R366), and teardown starts with the reset of every virtual
function. -/
def execTenancyDestroy (who : Who) (h : Handle) (s : State) : Out := .next (runOp (tenancyDestroyOp who h) s)

/-! ### Teardown (R32) -/

/-- Runs a teardown step of tenancy `i` when it is the one in progress. -/
def teardown (s : State) (i : Fin 256) (step : Nat) (ok : Handle → Bool) (run : Handle → State) : State :=
  match tenAt s i with
  | some t =>
    if t.st = .destroying ∧ t.step = step ∧ ok t.handle ∧ ¬ s.err.failStop then
      modTen (run t.handle) i (fun x => { x with step := if step = 1 then 3 else step + 1 })
    else s
  | none => s

/-- Every function of the tenancy has completed its reset. -/
def fnsReset (s : State) (h : Handle) : Bool := (tenFns s h).all (fun f => decide ((fnOf s f).flr = 0))

/-- Step 2 on one region: the handshake, or the gate closes it without an answer. -/
def tearRegion (silent : List (Fin 64)) (s0 : State) (r : Nat) : State :=
  let s := endReset s0 r .teardown
  match regionOf s r with
  | none => s
  | some x =>
    if silent.any (fun q => decide (q.val = r)) ∧ (x.st = .open_ ∨ x.opening ∨ x.iso ≠ none) then
      isoErr (closeRegion s r) "SADDLE_ISO_TIMEOUT" ⟨r % 64, Nat.mod_lt _ (by decide)⟩ x 3
    else closeRegion s r

/-- Step 2: `silent` are the regions whose shell does not answer within 10 ms. -/
def execTeardownIsolate (i : Fin 256) (silent : List (Fin 64)) (s : State) : Out :=
  .next (teardown s i 1 (fnsReset s) (fun h => (tenRegions s h).foldl (tearRegion silent) s))

/-- The tenancy's packets past Narrows are dropped and counted (R32, R33); those before it meet the check at their release
(log entry 36). -/
def dropStamped (s : State) (v : Vale) (h : Handle) : State :=
  dropWhere s v (fun _ p => decide (pktTen p = h) &&
    !decide (p.loc = .mac) && !decide (p.loc = .basin) && !decide (p.loc = .thread)) 0x06

/-- A tenancy's node leaves each tree in which it is the tenancy's, with its class nodes; when no tree holds a node there any
more, shapers on them lose their targets (R226). -/
def removeTenNode (v : Vale) (h : Handle) (s : State) (i : Nat) : State :=
  let keys := nodeKey v 3 i :: (List.range 8).map (fun c => nodeKey v 4 (8 * i + c))
  let elems := elemId 3 i :: (List.range 8).map (fun c => elemId 4 (8 * i + c))
  let act := decide (nodeOwner (nodeRec s.dict.nums v 3 i) = h)
  let stg := match tget s.dict.staged (nodeKey v 3 i) with | some r => decide (nodeOwner r = h) | none => act
  let s1 : State := { s with dict := { s.dict with
    nums := if act then keys.foldl terase s.dict.nums else s.dict.nums
    staged := if stg then keys.foldl terase s.dict.staged else s.dict.staged } }
  let s2 := if act then s1.modTm v (fun t =>
    { t with deficits := elems.foldl terase t.deficits, visits := elems.foldl terase t.visits }) else s1
  if tenNodeIn s2.dict.nums v i || tenNodeIn (treeNums s2 true) v i then s2
  else elems.foldl (fun a e => untarget a v e) s2

/-- The tenancy nodes of an owner in the active or the staged tree. -/
def ownedNodes (s : State) (v : Vale) (h : Handle) : List Nat :=
  (((nodesIn s.dict.nums v 3) ++ (nodesIn s.dict.staged v 3)).filter (fun p => decide (nodeOwner p.2 = h))).map (·.1)

/-- Step 3 in a Vale: queues flushed, stamped packets dropped, nodes removed, shapers freed (R226). -/
def flushVale (h : Handle) (s : State) (v : Vale) : State :=
  let s1 := (ownedOf s h (queueKind v)).foldl (fun a q => endQueue a v q) s
  let s2 := settleAll (dropStamped s1 v h) v
  let s3 := (ownedOf s2 h (shaperKind v)).foldl (fun a x => freeShaper a v x) s2
  (ownedNodes s3 v h).foldl (removeTenNode v h) s3

def flushTenancy (s : State) (h : Handle) : State := flushVale h (flushVale h s .east) .west

/-- Step 3: what is queued is flushed. -/
def execTeardownFlush (i : Fin 256) (s : State) : Out :=
  .next (teardown s i 3 (fun _ => true) (flushTenancy s))

/-- Step 3 after its 100 ms: the packets that remain are discarded, with the same end. -/
def execTeardownDrainTimeout (i : Fin 256) (s : State) : Out :=
  .next (teardown s i 3 (fun _ => true) (flushTenancy s))

/-- Map entries of a tenancy index are zero in every stage (R163). -/
def clearMaps (s : State) (v : Vale) (i : Nat) : State :=
  { s with dict := { s.dict with nums := (List.range 12).foldl (fun t k => terase t (partMapKey v k i)) s.dict.nums } }

def purgeVale (h : Handle) (s : State) (v : Vale) : State :=
  clearMaps ((ownedOf s h (partKind v)).foldl (fun a p => freePartition a v p) s) v (hIdx h)

/-- Step 4: partitions and map entries; it waits while an epoch commit is in progress. -/
def execTeardownPurge (i : Fin 256) (s : State) : Out :=
  .next (teardown s i 4 (fun _ => decide (s.epoch.st ≠ .committing)) (fun h => purgeVale h (purgeVale h s .east) .west))

/-- The tenancy's volumes become unused (R334). -/
def clearVolumes (s : State) (h : Handle) : State :=
  (volsListed s).foldl (fun a p =>
    if volOwner p.2 = h then
      persist { a with dict := { a.dict with nums := terase a.dict.nums (volKey p.1) } } (volKey p.1)
    else a) s

/-- The key slots of an owner are cleared (R406). -/
def clearSlots (s : State) (h : Handle) : State :=
  let mine := s.vault.slots.filter (fun p => decide (p.2.owner = h))
  { s with vault := { s.vault with
      slots := tfilter s.vault.slots (fun _ k => decide (k.owner ≠ h))
      sealedDirty := s.vault.sealedDirty || mine.any (fun p => bitOf p.2.flags 0)
      cached := s.vault.cached.filter (fun n => !(mine.any (fun p => decide (p.1 = n)))) } }

/-- The tenancy-relative values of an index return to their defaults, and what other units keep by the index. -/
def clearTenRel (s : State) (i : Nat) : State :=
  let keepKey := fun (k : Nat) => decide (k / 0x1000000 ≠ i + 1)
  let s1 : State := { s with
    dict := { s.dict with
      nums := tfilter s.dict.nums (fun k _ => keepKey k)
      octs := tfilter s.dict.octs (fun k _ => keepKey k)
      usage := tfilter s.dict.usage (fun k _ => decide (k / 256 ≠ i)) }
    mig := terase s.mig i
    mbox := terase s.mbox i
    host := { s.host with
      tokens := tfilter s.host.tokens (fun k _ => decide (k % 1024 ≠ i)), loads := s.host.loads.filter (· ≠ i)
      oldWeights := terase s.host.oldWeights i }
    qe := { s.qe with
      tokens := terase s.qe.tokens i, loads := s.qe.loads.filter (· ≠ i), oldWeights := terase s.qe.oldWeights i } }
  let punt := fun (x : ValeState) => { x with stage := { x.stage with puntTokens := terase x.stage.puntTokens i } }
  { s1 with east := punt s1.east, west := punt s1.west }

/-- The functions of the tenancy are unassigned, with their contexts and windows. -/
def releaseFns (s : State) (h : Handle) : State :=
  (tenFns s h).foldl releaseFn s

def releaseObjs (s : State) (h : Handle) : State :=
  let s1 := (ownedOf s h 4).foldl (fun a c => freeCtrl a c (mkHandle 4 0 0) false) (clearVolumes s h)
  let s2 := releaseFns (clearSlots s1 h) h
  let perVale := fun (a : State) (v : Vale) =>
    (ownedOf a h (groupKind v)).foldl (fun b g => freeGroup b v g)
      ((ownedOf a h (policerKind v)).foldl (fun b p => freePolicer b v p) a)
  let s3 := perVale (perVale s2 .east) .west
  (ownedOf s3 h 5).foldl freeRegion s3

/-- The indices of every object that ended during the teardown return to their free lists (R18, R32). -/
def freeHeld (s : State) (i : Nat) : State :=
  match tenAt s i with
  | some t => t.held.foldl (fun a p => freeIndex a p.1 p.2) s
  | none => s

/-- Step 5: mailbox, dirty-page log and controllers zeroed, objects and the index free again, TENANCY_FREED. -/
def execTeardownRelease (i : Fin 256) (s : State) : Out :=
  .next (match tenAt s i with
    | some t =>
      if t.st = .destroying ∧ t.step = 5 ∧ ¬ s.err.failStop then
        let s1 := bumpGen (clearTenRel (freeHeld (releaseObjs s t.handle) i) i) 6 i
        let s2 := freeIndex { s1 with tens := terase s1.tens i } 1 i
        raise s2 { cls := 1, name := "TENANCY_FREED", unit := chipId, resource := t.handle.toNat, tenancy := t.handle }
      else s
    | none => s)

/-! ### Tenancy reset (R30, R275, R374) -/

def tenResetOp (who : Who) (h : Handle) (x : U8) : DictOp where
  status := fun s => firstStatus (baseChecks s (isO who) ++
    [(.range, !handleFits h 1 || decide (x ≠ 1)), (.staleHandle, handleStale s h),
     (.notReady, tenCurrent s h && !ownerHalted s h)])
  effect := fun s =>
    match tenAt s (hIdx h) with
    | none => (s, [])
    | some t =>
      if t.resetting then (s, [])
      else
        let s1 := (tenFns s h).foldl startFlr s
        let s2 := (tenRegions s1 h).foldl (fun a r => isolateFor a r .tenReset) s1
        (modTen (mbResetStart s2 (hIdx h) false) (hIdx h) (fun y => { y with resetting := true }), [])

/-- TEN_RESET: the functions, Saddle regions and the mailbox of a Halted tenancy are reset. -/
def execTenReset (who : Who) (h : Handle) (v : U8) (s : State) : Out := .next (runOp (tenResetOp who h v) s)

/-- The resets of a tenancy's functions and regions are over. -/
def tenResetOver (s : State) (h : Handle) : Bool :=
  fnsReset s h && (tenRegions s h).all (fun r => match regionOf s r with
    | some x => decide (x.iso = none) && !x.resetting
    | none => true)

/-- The tenancy is Active again, and the halt entry leaves. -/
def execTenResetComplete (i : Fin 256) (s : State) : Out :=
  .next (match tenAt s i with
    | some t =>
      if t.resetting ∧ t.st = .halted ∧ tenResetOver s t.handle ∧ ¬ s.err.failStop then
        setTen s i { t with st := .active, resetting := false, halt := none }
      else s
    | none => s)

end Sys2Proof.Machine
end

