-- ==== Sys2Proof/Machine/Migration.lean ====
section
/-! DEFINITION. The dirty-page log (R360-R365), the migration hold (R366) and the mailboxes (R369-R374). -/

namespace Sys2Proof.Machine

/-! ### The dirty-page log -/

def dplBase (r : Nat) : Nat := recField 24 0 8 r
def dplPages (r : Nat) : Nat := recField 24 8 4 r
def dplBitmap (r : Nat) : Nat := recField 24 16 8 r

/-- Words of a range's bitmap (R360). -/
def dplWords (pages : Nat) : Nat := ceilDiv pages 64

/-- A range's record is out of range (R360); an unused range has no bitmap and overlaps none. -/
def dplBad (s : State) (m : Mig) (k r : Nat) : Bool :=
  let e := dplBase r + dplPages r * 4096
  decide (dplBase r % 4096 ≠ 0) || decide (268435456 < dplPages r) || decide (dplBitmap r % 8 ≠ 0)
  || decide (dplPages r ≠ 0) && (!inDdr s (dplBitmap r) (8 * dplWords (dplPages r)) || m.ranges.any (fun q => decide (q.1 ≠ k) && decide (q.2.base < e) && decide (dplBase r < q.2.base + q.2.pages * 4096)))

def dplRangeOp (who : Who) (h : Handle) (k : Fin 8) (r : Rec 24) : DictOp where
  status := fun s =>
    let m := migOf s (hIdx h)
    firstStatus (baseChecks s (isO who) ++ tenChecks s h ++
      [(.range, dplBad s m k r.toNat), (.busy, tenCurrent s h && m.on)])
  effect := fun s =>
    let i := hIdx h
    let n := r.toNat
    let m := migOf s i
    let rs := if dplPages n = 0 then terase m.ranges k
      else tset m.ranges k { base := dplBase n, pages := dplPages n, bitmap := dplBitmap n }
    (setNum (setMig s i { m with ranges := rs }) (tkey i 0xC061 k) (recClear 24 [(12, 4)] n), [])

/-- DPL_RANGE (R360). -/
def execDplRangeWrite (who : Who) (ten : Handle) (k : Fin 8) (r : Rec 24) (s : State) : Out :=
  .next (runOp (dplRangeOp who ten k r) s)

def dplCtrlOp (who : Who) (h : Handle) (x : U8) : DictOp where
  status := fun s => firstStatus (baseChecks s (isO who) ++ tenChecks s h ++ [(.range, decide (1 < x.toNat))])
  effect := fun s =>
    let m := migOf s (hIdx h)
    (setMig s (hIdx h) (if x = 1 then { m with on := true, incomplete := false, uncovered := 0 } else { m with on := false }), [])

/-- DPL_CTRL (R364). -/
def execDplCtrl (who : Who) (ten : Handle) (x : U8) (s : State) : Out := .next (runOp (dplCtrlOp who ten x) s)

def hvRange (r : Nat) : Nat := recField 32 0 1 r
def hvSpace (r : Nat) : Nat := recField 32 1 1 r
def hvFirst (r : Nat) : Nat := recField 32 4 4 r
def hvCount (r : Nat) : Nat := recField 32 8 4 r
def hvDest (r : Nat) : Nat := recField 32 16 8 r

/-- A harvest record out of range (R365). -/
def hvBad (s : State) (m : Mig) (r : Nat) : Bool :=
  decide (1 < hvSpace r) || decide (hvCount r < 1) || decide (131072 < hvCount r) || decide (hvDest r % 8 ≠ 0)
  || (decide (hvSpace r = 0) && !inDdrHbm s (hvDest r) (8 * hvCount r))
  || match tget m.ranges (hvRange r) with
    | some d => decide (dplWords d.pages < hvFirst r + hvCount r)
    | none => true

/-- Set bits of a list of bytes. -/
def bitsSet (bs : List Byte) : Nat :=
  bs.foldl (fun n b => n + ((List.range 8).filter (fun i => b.toNat.testBit i)).length) 0

def dplHarvestOp (who : Who) (h : Handle) (r : Rec 32) : DictOp where
  status := fun s => firstStatus (baseChecks s (isO who) ++ tenChecks s h ++
    [(.range, hvBad s (migOf s (hIdx h)) r.toNat)])
  effect := fun s =>
    let n := r.toNat
    let d := tgetD (migOf s (hIdx h)).ranges (hvRange n) { base := 0, pages := 0, bitmap := 0 }
    let a := d.bitmap + 8 * hvFirst n
    let bs := readInt s a (8 * hvCount n)
    let s1 := writeInt s a (List.replicate bs.length 0)
    let s2 := if hvSpace n = 0 then writeInt s1 (hvDest n) bs else hostIssue s1 0 (hvDest n) bs false 0 true
    (s2, beBytes 4 (bitsSet bs))

/-- DPL_HARVEST: words are copied and cleared (R365). -/
def execDplHarvest (who : Who) (ten : Handle) (r : Rec 32) (s : State) : Out := .next (runOp (dplHarvestOp who ten r) s)

/-! ### The migration hold -/

def setHold (s : State) (i n : Nat) : State := setMig s i { migOf s i with hold := n }

def migHoldOp (who : Who) (h : Handle) (x : U8) : DictOp where
  status := fun s => firstStatus (baseChecks s (isO who) ++ tenChecks s h ++ [(.range, decide (1 < x.toNat))])
  effect := fun s =>
    (if x = 0 then setHold s (hIdx h) 0
     else if (migOf s (hIdx h)).hold = 0 then setHold s (hIdx h) 1 else s, [])

/-- MIG_HOLD (R366). -/
def execMigHold (who : Who) (ten : Handle) (x : U8) (s : State) : Out := .next (runOp (migHoldOp who ten x) s)

/-- Every request granted before the hold has been transmitted. -/
def execMigHoldDrained (i : Fin 256) (s : State) : Out :=
  .next (if (migOf s i).hold = 1 ∧ ¬ s.err.failStop then setHold s i 2 else s)

/-- MIG_HOLD_LIMIT expires. -/
def execMigHoldExpired (i : Fin 256) (s : State) : Out :=
  .next (if (migOf s i).hold ≠ 0 ∧ ¬ s.err.failStop then
      raise (setHold s i 0) { cls := 8, name := "MIG_HOLD_EXPIRED", unit := unitId 2 3 1 0xFFF, resource := i,
                              tenancy := match tenAt s i with | some t => t.handle | none => 0 }
    else s)

/-! ### Mailboxes -/

/-- The function that shows the tenant view, when MB_FUNCTION names one that has a mailbox block (R369). -/
def mbFn (s : State) (n : Nat) : Option Nat :=
  let h : Handle := BitVec.ofNat 32 (numD s (tkey n 0xC070 1) 0)
  if h ≠ 0 ∧ handleCurrent s h ∧ pfOf s (hIdx h + 4) ≠ 2 then some (hIdx h + 4) else none

/-- A side's writes reach the mailbox: the tenancy exists, no reset runs, the tenant's function answers (R295, R374). -/
def mbTakes (s : State) (n : Nat) (side : MbSide) : Bool :=
  (tenAt s n).isSome && !(mbOf s n).resetting && !s.err.failStop &&
    match side with
    | .operator => true
    | .pf0 => fnServes s 0 && decide (s.host.link ≠ 0)
    | .tenant => (match mbFn s n with | some f => fnServes s f && decide (s.host.link ≠ 0) | none => false)

/-- The two entries of an offer (R370). -/
def mbOffer (w : U32) : List (Nat × Nat) :=
  [(bitsOf w.toNat 24 8, bitsOf w.toNat 16 8), (bitsOf w.toNat 8 8, bitsOf w.toNat 0 8)]

/-- The selection of two offers (R51, R372): 0 while an offer's first major is zero. -/
def mbSelect (a b : U32) : U32 :=
  if bitsOf a.toNat 24 8 = 0 ∨ bitsOf b.toNat 24 8 = 0 then 0
  else match negotiate (mbOffer a) (mbOffer b) with
    | some v => BitVec.ofNat 32 (0x80000000 + v.1 * 256 + v.2)
    | none => 0x40000000

/-- OPER_OFFER and TEN_OFFER (R372). -/
def execMbOfferWrite (n : Fin 256) (side : MbSide) (w : U32) (s : State) : Out :=
  .next (if mbTakes s n side then
      let m := mbOf s n
      let m1 := match side with | .tenant => { m with tenOffer := w } | _ => { m with operOffer := w }
      setMb s n { m1 with sel := mbSelect m1.operOffer m1.tenOffer }
    else s)

/-- The tenant's vector is raised (R373). -/
def mbRaise (s : State) (n : Nat) : State :=
  let m := mbOf s n
  match mbFn s n with
  | some f => if m.intEn ∧ m.vector < msixSize s f then raiseVector s f m.vector else s
  | none => s

/-- A write that R371 discards. -/
def mbViolation (s : State) (n : Nat) : State :=
  let m := mbOf s n
  count (setMb s n { m with violations := min 65535 (m.violations + 1) }) (tkey n 0xC070 3)

/-- A count write is accepted (R371): `v` the value, `p` and `c` the producer and consumer counts. -/
def mbAccepts (producer : Bool) (v p c : U16) : Bool :=
  if producer then decide ((v - c).toNat ≤ 16) && decide ((v - p).toNat ≤ (v - c).toNat)
  else decide ((v - c).toNat ≤ (p - c).toNat)

/-- The producer and consumer counts of the direction that a side's count write belongs to. -/
def mbCounts (m : Mailbox) (side : MbSide) (producer : Bool) : U16 × U16 :=
  if decide (side = .tenant) = producer then (m.txProd, m.txCons) else (m.rxProd, m.rxCons)

/-- The mailbox with a count written. -/
def mbSetCount (m : Mailbox) (side : MbSide) (producer : Bool) (v : U16) : Mailbox :=
  match side, producer with
  | .tenant, true => { m with txProd := v }
  | .tenant, false => { m with rxCons := v }
  | _, true => { m with rxProd := v }
  | _, false => { m with txCons := v }

/-- TX_PROD, TX_CONS, RX_PROD, RX_CONS (R371, R373). -/
def execMbCountWrite (n : Fin 256) (side : MbSide) (producer : Bool) (x : U16) (s : State) : Out :=
  .next (if mbTakes s n side then
      let m := mbOf s n
      let pc := mbCounts m side producer
      if mbAccepts producer x pc.1 pc.2 then
        let s1 := setMb s n (mbSetCount m side producer x)
        if x = (if producer then pc.1 else pc.2) then s1
        else match side with
          | .tenant => mbPendSet s1 n
          | _ => mbRaise s1 n
      else mbViolation s n
    else s)

/-- The slot holds an unconsumed message (R371). -/
def mbOccupied (p c : U16) (slot : Fin 16) : Bool :=
  decide ((slot.val + 65536 - c.toNat % 16) % 16 < (p - c).toNat)

/-- A byte of a slot that a side fills. -/
def execMbSlotWrite (n : Fin 256) (side : MbSide) (slot : Fin 16) (off : Fin 64) (b : Byte) (s : State) : Out :=
  .next (if mbTakes s n side then
      let m := mbOf s n
      let k := slot.val * 64 + off.val
      match side with
      | .tenant =>
        if mbOccupied m.txProd m.txCons slot then mbViolation s n else setMb s n { m with txSlots := tset m.txSlots k b }
      | _ =>
        if mbOccupied m.rxProd m.rxCons slot then mbViolation s n else setMb s n { m with rxSlots := tset m.rxSlots k b }
    else s)

def mbResetOp (who : Who) (h : Handle) : DictOp where
  status := fun s => firstStatus (baseChecks s (isO who) ++ tenChecks s h)
  effect := fun s => (mbResetStart s (hIdx h) false, [])

/-- MB_RESET = 1 (R374). -/
def execMbReset (who : Who) (ten : Handle) (s : State) : Out := .next (runOp (mbResetOp who ten) s)

def mbFunctionOp (who : Who) (ten h : Handle) : DictOp where
  status := fun s => firstStatus (baseChecks s (isO who) ++ tenChecks s ten ++
    [(.range, decide (h ≠ 0) && (!handleFits h 3 || (handleCurrent s h && decide (ownerOf s 3 (hIdx h) ≠ some ten)))),
     (.staleHandle, handleStale s h)])
  effect := fun s => (mbResetStart (setNum s (tkey (hIdx ten) 0xC070 1) h.toNat) (hIdx ten) false, [])

/-- MB_FUNCTION (R369, R374). -/
def execMbFunctionWrite (who : Who) (ten : Handle) (h : Handle) (s : State) : Out := .next (runOp (mbFunctionOp who ten h) s)

/-- A mailbox reset completes. -/
def execMbResetComplete (n : Fin 256) (s : State) : Out :=
  .next (let m := mbOf s n
    if m.resetting then setMb s n { m with resetting := false } else s)

end Sys2Proof.Machine
end

