-- ==== Sys2Proof/Machine/Steppe.lean ====
section
/-! DEFINITION. The Steppe cluster's controls (R376-R385), memory training (R387-R392), Glen's peripherals and the SPI target
(R393-R398). -/

namespace Sys2Proof.Machine

/-! ### Harts and quads (R378, R379) -/

def hartOf (s : State) (h : Nat) : Hart := tgetD s.ctl.harts h {}

def setHart (s : State) (h : Nat) (x : Hart) : State := { s with ctl := { s.ctl with harts := tset s.ctl.harts h x } }

/-- The hart's quad is retired, or under test. -/
def quadClosed (s : State) (q : Nat) : Bool := quadRetired s q || decide (s.ctl.quadTest = some q)

/-- RESTART_PC of a hart. -/
def restartPc (x : Hart) : Nat := x.pcHi * 2 ^ 32 + x.pcLo.toNat

/-- HART_RUN_WRITE: RUN of a hart (R378). -/
def execHartRunWrite (h : Fin 24) (run : Bool) (s : State) : Out :=
  .next (let x := hartOf s h
    if s.err.failStop ∨ quadClosed s (h / 4) then s
    else if !run then setHart s h { x with run := false, stopped := true }
    else if x.stopped then setHart s h { x with run := true, stopped := false, pc := restartPc x }
    else setHart s h { x with run := true })

/-- The harts of a quad. -/
def quadHarts (q : Nat) : List Nat := (List.range 4).map (fun i => 4 * q + i)

def quadStopped (s : State) (q : Nat) : Bool := (quadHarts q).all (fun h => (hartOf s h).stopped)

/-- The test of a quad starts. -/
def startQuadTest (s : State) (q : Nat) : State :=
  { s with ctl := { s.ctl with quadTest := some q, quadStart := tickNs s } }

def quadTestOp (who : Who) (q : U8) : DictOp where
  status := fun s =>
    let n := q.toNat
    firstStatus (baseChecks s (isO who) ++
      [(.range, decide (5 < n) || quadRetired s n),
       (.notReady, !quadStopped s n),
       (.busy, s.ctl.quadTest.isSome)])
  effect := fun s => (startQuadTest s q.toNat, [])
  retry := fun s => estimateMs s 20000000 s.ctl.quadStart

/-- QUAD_TEST (R379). -/
def execQuadTest (who : Who) (q : U8) (s : State) : Out := .next (runOp (quadTestOp who q) s)

/-- A quad is retired and powered off until chip reset (R379). -/
def retireQuad (s : State) (q level errSeq : Nat) : State :=
  let s1 := (quadHarts q).foldl (fun a h => setHart a h { hartOf a h with run := false, stopped := true }) s
  let s2 := setDom (setNum s1 (okey 0x7000 5) (numD s1 (okey 0x7000 5) 0 ||| 2 ^ q)) (3 + q) { st := 0 }
  let s3 : State := { s2 with ctl := { s2.ctl with quadQueue := s2.ctl.quadQueue.filter (fun k => decide (k ≠ q)) } }
  raise s3 { cls := 9, name := "STEPPE_QUAD_RETIRED", unit := unitId 2 6 q 0xFFF, level := level, errSeq := errSeq }

/-- The next queued quad is tested (R399). -/
def nextQuadTest (s : State) : State :=
  match s.ctl.quadQueue with
  | [] => s
  | q :: r => startQuadTest { s with ctl := { s.ctl with quadQueue := r } } q

/-- QUAD_TEST_DONE (R379). -/
def execQuadTestDone (pass : Bool) (s : State) : Out :=
  .next (match s.ctl.quadTest with
    | none => s
    | some q =>
      if s.err.failStop then s
      else
        let ok := testVerdict s (unitId 2 6 q 0xFFF) pass
        let s1 : State := { ok.2 with ctl := { ok.2.ctl with quadTest := none } }
        let s2 := setNum s1 (okey 0x7000 4) (if ok.1 then 0 else statusCode .halted)
        nextQuadTest (if ok.1 then s2 else retireQuad s2 q 0 0))

/-! ### Ring registers (R383) -/

/-- Numbers of R382. -/
def sringValid (r : Nat) : Bool := decide (r < 514) || (decide (1024 ≤ r) && decide (r < 1088)) || (decide (1152 ≤ r) && decide (r < 1216))

def sringInjects (r : Nat) : Bool := decide (1152 ≤ r)

/-- The geometry and the slot array allow EN (R383). -/
def sringFits (s : State) (x : SRing) : Bool :=
  decide (4 ≤ x.log2) && decide (x.log2 ≤ 12) && decide (x.size ≤ 5)
    && inGeneral s (sringBase x) (sringSlots x * sringSlotBytes x)

/-- A write of the word at 0x08. -/
def sringControl (s : State) (r : Nat) (w : U32) : State :=
  let n := w.toNat
  let en := bitOf n 31
  let x := sringOf s r
  if !sringValid r || s.err.failStop then s
  else if x.en then setSring s r { x with en := en, irq := n % 2048, presented := x.presented && en }
  else
    let y : SRing := { x with log2 := bitsOf n 16 4, size := bitsOf n 12 3, irq := n % 2048 }
    if en && sringFits s y then setSring s r { y with en := true, prod := 0, cons := 0, presented := false }
    else setSring s r y

/-- STEPPE_RING_ENABLE: a write with EN = 1. -/
def execSteppeRingEnable (r : Fin 1216) (w : U32) (s : State) : Out :=
  .next (if bitOf w.toNat 31 then sringControl s r w else s)

/-- A count write is accepted when it does not pass the other count (R383). -/
def sringAccepts (r : Nat) (x : SRing) (v : Nat) : Bool :=
  let ahead := (v + 65536 - x.cons) % 65536
  if sringInjects r then decide (ahead ≤ sringSlots x) else decide (ahead ≤ sringHeld x)

/-- STEPPE_RING_COUNT_WRITE: PROD of an injection queue, CONS of the other rings. -/
def execSteppeRingCountWrite (r : Fin 1216) (x : U16) (s : State) : Out :=
  .next (let y := sringOf s r
    if !sringValid r || s.err.failStop then s
    else if sringAccepts r y x.toNat then
      setSring s r (if sringInjects r then { y with prod := x.toNat } else { y with cons := x.toNat })
    else sringDrop s r)

/-! ### Peripherals (R394) -/

def periphEn (s : State) : Nat := numD s (okey 0x7050 1) 0x3F
def periphOn (s : State) (k : Nat) : Bool := bitOf (periphEn s) k

/-- A transfer in progress is abandoned. -/
def periphStop (s : State) (k : Nat) : State :=
  if k = 3 then
    { s with ctl := { s.ctl with spit := { s.ctl.spit with active := false, ignore := false, out := [], gap := false } } }
  else s

/-- A peripheral returns to its reset values. -/
def periphReset (s : State) (k : Nat) : State :=
  if k = 3 then
    let s1 : State := { s with ctl := { s.ctl with spit := {} } }
    setNum (setNum s1 (okey 0x7052 2) 0) (okey 0x7052 3) 0
  else if k = 5 then setNum s (okey 0x7051 2) 0
  else if k = 1 then { s with idien := { s.idien with eid := 0 } }
  else s

def periphEnOp (who : Who) (x : U16) : DictOp where
  status := fun s => firstStatus (baseChecks s (isO who) ++ [(.range, !bitOf x.toNat 0)])
  effect := fun s =>
    let n := x.toNat % 64
    let s1 := (List.range 6).foldl (fun a k =>
      if bitOf n k = periphOn s k then a else if bitOf n k then periphReset a k else periphStop a k) s
    (persist (setNum s1 (okey 0x7050 1) n) (okey 0x7050 1), [])

/-- PERIPH_EN (R394). -/
def execPeriphEnWrite (who : Who) (x : U16) (s : State) : Out := .next (runOp (periphEnOp who x) s)

/-! ### The SPI target (R395-R398) -/

def setSpit (s : State) (x : Spit) : State := { s with ctl := { s.ctl with spit := x } }

/-- SPIT_COUNTS: the U32 at an offset counts. -/
def spitCount (s : State) (off : Nat) (n : Nat) : State :=
  let r := numD s (okey 0x7052 2) 0
  setNum s (okey 0x7052 2) (recSet 16 off 4 r (recField 16 off 4 r + n))

def spitPartial (s : State) : State := spitCount s 0 1
def spitEdge (s : State) : State := spitCount s 4 1
def spitBad (s : State) : State := spitCount s 8 1

/-- Scratch word `i` of the window. -/
def scratchWord (s : State) (i : Nat) : Nat := recField 16 (4 * i) 4 (numD s (okey 0x7052 3) 0)

/-- Words 0x000 and 0x004, which hardware serves (R437). -/
def hardWord (s : State) (i : Nat) : U32 :=
  if i = 0 then 0x4C4E3931 else BitVec.ofNat 32 (s.vault.lcBoot * 256 + s.boot.stage)

/-- Word `i` of the window (R396); in fail-stop word 0x010 is the first word of the chip record (R479). -/
def spitWord (s : State) (i : Nat) : U32 :=
  if i < 2 then hardWord s i
  else if s.err.failStop ∧ i = 4 then BitVec.ofNat 32 s.err.firstWord
  else if i < 7 then s.ctl.spit.snap.getD i 0
  else if 1020 ≤ i ∧ i < 1024 then BitVec.ofNat 32 (scratchWord s (i - 1020)) else 0

/-- A command word is refused: OP, COUNT or a reserved bit (R395). -/
def spitRefused (n : Nat) : Bool :=
  decide (bitsOf n 30 2 = 0) || decide (bitsOf n 30 2 = 3) || decide (bitsOf n 18 10 = 0)
  || decide (bitsOf n 28 2 ≠ 0) || decide (bitsOf n 12 6 ≠ 0) || decide (n % 4 ≠ 0)

/-- SPIT_COMMAND: the first word of a transaction. -/
def execSpitCommand (w : U32) (s : State) : Out :=
  .next (let n := w.toNat
    let x := s.ctl.spit
    if x.active ∨ ¬ periphOn s 3 then s
    else if spitRefused n then setSpit (spitBad s) { x with active := true, ignore := true, gap := false, out := [] }
    else
      let cnt := bitsOf n 18 10
      let a := bitsOf n 2 10
      let rd := decide (bitsOf n 30 2 = 1)
      let out := if rd then 0 :: (List.range cnt).map (fun i => spitWord s (a + i)) else []
      setSpit s { x with active := true, ignore := false, gap := false, op := if rd then 1 else 2, count := cnt, addr := a, out := out })

/-- The words of a complete write, from word address `a` on. -/
def spitStore (s : State) (a : Nat) : List U32 → State
  | [] => s
  | w :: ws =>
    let s1 := if 1020 ≤ a ∧ a < 1024 then
        setNum s (okey 0x7052 3) (recSet 16 (4 * (a - 1020)) 4 (numD s (okey 0x7052 3) 0) w.toNat)
      else spitCount s 12 1
    spitStore s1 (a + 1) ws

/-- SPIT_CS_N rises: `words` are the complete data words, `inWord` a rise inside a word, `extraEdges` edges beyond the
transaction's words or while SPIT_CS_N was high. -/
def execSpitCsRise (words : List U32) (inWord : Bool) (extraEdges : Bool) (s : State) : Out :=
  .next (let x := s.ctl.spit
    if ¬ periphOn s 3 then s
    else
      let idle := setSpit s { x with active := false, ignore := false, gap := false, out := [] }
      if x.active && (x.ignore || x.gap) then idle
      else
        let whole := x.active && decide (x.op = 2) && decide (x.count ≤ words.length)
        let s1 := if inWord && !whole then spitPartial idle else idle
        let s2 := if extraEdges || (inWord && whole) then spitEdge s1 else s1
        if whole then
          spitStore s2 x.addr (words.take x.count)
        else s2)

/-- SPI_EDGE_GAP: the word and, in a write, the transaction are discarded (R398). -/
def execSpiEdgeGap (s : State) : Out :=
  .next (let x := s.ctl.spit
    if ¬ periphOn s 3 ∨ x.ignore ∨ x.gap then s
    else setSpit (spitEdge s) { x with active := true, gap := true })

/-- LINK_UP of the port that holds a lane. -/
def laneLinked (s : State) (n : Nat) : Bool :=
  let v : Vale := if n < 8 then .east else .west
  let w := portWidth Config.hx (portMode s v)
  decide (n % 8 < laneCount Config.hx) && linkIsUp s v (n % 8 / w * w)

/-- The words of a snapshot (R396). -/
def snapshotWords (s : State) : List U32 :=
  let links := (List.range 16).foldl (fun a n => a + bit1 (laneLinked s n) * 2 ^ n) 0
  [hardWord s 0, hardWord s 1, BitVec.ofInt 32 s.clk.therm, BitVec.ofNat 32 (packagePower s),
   BitVec.ofNat 32 (match s.err.chipErrors with | r :: _ => r.seq | [] => 0),
   BitVec.ofNat 32 (s.ctl.spit.snaps + 1), BitVec.ofNat 32 (bit1 (decide (s.host.link ≠ 0)) * 65536 + links)]

/-- SPIT_SNAPSHOT (R397). -/
def execSpitSnapshot (s : State) : Out :=
  .next (if s.boot.glenUp ∧ periphOn s 3 then
      setSpit s { s.ctl.spit with snap := snapshotWords s, snaps := (s.ctl.spit.snaps + 1) % 2 ^ 32 }
    else s)

/-! ### Memory (R388-R392) -/

/-- Channels in use, of the working ones: the first 4, 2 or 1 (R388). -/
def ddrUsed (n : Nat) : Nat := if 4 ≤ n then 4 else if 2 ≤ n then 2 else n

/-- Channel states after training; `k` channels may still be used. -/
def ddrStates : Nat → List Bool → List Nat
  | _, [] => []
  | k, false :: r => 2 :: ddrStates k r
  | 0, true :: r => 3 :: ddrStates 0 r
  | k + 1, true :: r => 1 :: ddrStates k r

/-- DDR5 is trained or its training has ended. -/
def ddrDone (s : State) : Bool := s.ctl.ddr.any (fun c => decide (c ≠ 0))

/-- DDR_TRAINING ends (R388). -/
def execDdrTraining (trained : List Bool) (gib : Nat) (s : State) : Out :=
  .next (if s.boot.stage ≠ 4 ∨ ddrDone s ∨ trained.length ≠ 4 ∨ (gib ≠ 16 ∧ gib ≠ 32 ∧ gib ≠ 64) ∨ s.err.failStop then s
    else
      let up := (trained.filter (fun b => b)).length
      let st := ddrStates (ddrUsed up) trained
      let s1 : State := { s with ctl := { s.ctl with ddr := st, ddrGib := gib } }
      let s2 := ((List.range 4).filter (fun c => decide (st.getD c 0 = 2))).foldl (fun a c =>
        raise a { cls := 9, name := "DDR_CHANNEL_FAILED", unit := unitId 2 5 c 0xFFF, resource := c }) s1
      if up = 0 then { s2 with boot := { s2.boot with stage := 0xE3 } } else s2)

/-- ZQ calibration and DQS tracking stall their channel for a time; no state of the model changes. -/
def execZqCalibration (_ : Fin 4) (s : State) : Out := .next s

/-- The carve-outs of a stack as the stored values give them, and whether the Floodplain had to be reduced (R390). -/
def carveFor (s : State) (stack : Nat) : Carve × Bool :=
  let v : Vale := if stack = 0 then .east else .west
  let r := numD s (okey 0x7030 stack) 0x0202
  let ext := recField 2 0 1 r
  let nv := recField 2 1 1 r
  let want := numD s (vkey v 0x4001 1) 8
  let fl := min want (22 - ext - nv)
  ({ flood := fl, ext := ext, nvme := nv }, decide (fl < want))

/-- Both stacks are carved (at chip reset). -/
def carveHbm (s : State) : State :=
  [0, 1].foldl (fun a k =>
    let c := carveFor a k
    let b := setCarve a k { c.1 with repaired := (carveOf a k).repaired }
    if c.2 then raise b { cls := 9, name := "HBM_CARVE_REDUCED", unit := unitId 2 5 (4 + k) 0xFFF, resource := k, detail := c.1.flood }
    else b) s

/-- A stack's training ends. -/
def trainStack (s : State) (k : Nat) (ok : Bool) : State :=
  let c := carveOf s k
  if ok then setCarve s k { c with trained := true }
  else raise (setCarve s k { c with failed := true })
    { cls := 9, name := "HBM_TRAIN_FAILED", unit := unitId 2 5 (4 + k) 0xFFF, resource := k }

/-- HBM_TRAINING ends (R389, R436). -/
def execHbmTraining (ok0 ok1 : Bool) (s : State) : Out :=
  .next (let c := carveOf s 0
    if s.boot.stage < 4 ∨ c.trained ∨ c.failed ∨ s.err.failStop then s
    else trainStack (trainStack s 0 ok0) 1 ok1)

/-- PATROL_SCRUB: a word is read, and written back corrected (R389, R399). -/
def execPatrolScrub (stack : Fin 2) (_ : Nat) (corrected : Bool) (s : State) : Out :=
  .next (if (carveOf s stack).trained ∧ corrected ∧ ¬ s.err.failStop then count s (okey 0x7040 1) else s)

end Sys2Proof.Machine
end

