-- ==== Sys2Proof/Machine/VaultBase.lean ====
section
/-! DEFINITION. The vault (R401-R416): life cycle, key store, erasure, the checks of the public-key engine, errors of R424. -/

namespace Sys2Proof.Machine

/-- The operator or the vault role. -/
def isOV (w : Who) : Bool := isO w || isV w

/-! ### Life cycle (R402) -/

/-- LC word `k` reads all ones. -/
def lcWord (s : State) (k : Nat) : Bool := decide (s.vault.lc.getD k 0 = 0xFFFF)

/-- The life-cycle state as the fuses give it (R402). -/
def lcState (s : State) : Nat :=
  if lcWord s 3 then 4 else if lcWord s 2 then 3 else if lcWord s 1 then 2 else if lcWord s 0 then 1 else 0

/-- LC word `k` is programmed. -/
def programLc (s : State) (k : Nat) : State := { s with vault := { s.vault with lc := s.vault.lc.set k 0xFFFF } }

/-- The key store is enabled in Provisioned and Field; the state at the last chip reset governs (R402, R403). -/
def keyStoreOn (s : State) : Bool := decide (s.vault.lcBoot = 1) || decide (s.vault.lcBoot = 2)

/-- Random numbers are available (R412). -/
def trngServes (s : State) : Bool := decide (s.vault.trng = 1)

/-! ### Slots (R404-R406) -/

/-- Bytes of material of a kind (R405); 0 for none. -/
def matBytes (kind : Nat) : Nat :=
  if kind = 2 then 64 else if kind = 4 then 48 else if kind = 1 ∨ kind = 3 ∨ kind = 5 then 32 else 0

/-- Group orders, field primes and curve constants of P-256 and P-384 (FIPS 186-5). -/
def order256 : Nat := 0xffffffff00000000ffffffffffffffffbce6faada7179e84f3b9cac2fc632551
def prime256 : Nat := 0xffffffff00000001000000000000000000000000ffffffffffffffffffffffff
def coeff256 : Nat := 0x5ac635d8aa3a93e7b3ebbd55769886bc651d06b0cc53b0f63bce3c3e27d2604b
def order384 : Nat :=
  0xffffffffffffffffffffffffffffffffffffffffffffffffc7634d81f4372ddf581a0db248b0a77aecec196accc52973
def prime384 : Nat :=
  0xfffffffffffffffffffffffffffffffffffffffffffffffffffffffffffffffeffffffff0000000000000000ffffffff
def coeff384 : Nat :=
  0xb3312fa7e23ee7e4988e056be3f82d19181d9c6efe8141120314088f5013875ac656398d8a2ed19d2a85c8edd3ec2aef
/-- Group order and field prime of Ed25519 (RFC 8032). -/
def orderEd : Nat := 2 ^ 252 + 27742317777372353535851937790883648493
def primeEd : Nat := 2 ^ 255 - 19

def groupOrder (kind : Nat) : Nat := if kind = 4 then order384 else order256

/-- Material out of range (R406): equal halves of an XTS pair, a scalar that is zero or not below the group order. -/
def keyMatBad (kind : Nat) (mat : List Byte) : Bool :=
  (decide (kind = 2) && decide (mat.take 32 = (mat.drop 32).take 32))
  || ((decide (kind = 3) || decide (kind = 4)) && (decide (beNat mat = 0) || decide (groupOrder kind ≤ beNat mat)))

/-- Drawn material of a kind: an XTS pair has halves that differ, a scalar lies below the group order. -/
def drawKey (s : State) (kind : Nat) : List Byte × State :=
  let d := drawTrng s (8 * matBytes kind)
  let x := if kind = 3 ∨ kind = 4 then d.1 % (groupOrder kind - 1) + 1
    else if kind = 2 ∧ d.1 / 2 ^ 256 = d.1 % 2 ^ 256 then d.1 ^^^ 1 else d.1
  (beBytes (matBytes kind) x, d.2)

def setSlots (s : State) (t : Tab KeySlot) : State := { s with vault := { s.vault with slots := t } }

/-- A slot is filled; the sealed store follows a persistent one (R404). -/
def putKey (s : State) (i : Nat) (k : KeySlot) : State :=
  { s with vault := { s.vault with
      slots := tset s.vault.slots i k
      sealedDirty := s.vault.sealedDirty || bitOf k.flags 0
      cached := s.vault.cached.filter (fun n => decide (n ≠ i)) } }

/-- Security associations listed: index and record. -/
def sasListed (s : State) : List (Nat × Nat) :=
  s.dict.nums.filterMap (fun p =>
    let i := p.1 / 256
    if 0x2380 ≤ i ∧ i < 0x2400 then some ((i - 0x2380) * 128 + p.1 % 256, p.2) else none)

/-- A valid association or a volume names the slot (R406). -/
def keyNamed (s : State) (i : Nat) : Bool :=
  (sasListed s).any (fun p => bitOf (saOfRec p.2).flags 0 && decide ((saOfRec p.2).keySlot = i))
  || (volsListed s).any (fun p => decide (volSlot p.2 = i))

/-! ### Erasure (R408) -/

/-- NVMe commands on volumes that lose their key complete with Internal Error. -/
def failLostVolumes (s : State) : State :=
  (s.nv.cmds.filter (fun m => m.2.cpl.isNone && decide (m.2.vol ≠ 0 ∨ m.2.ranges ≠ []) && (volKeyMat s (volRec s m.2.vol)).isNone)).foldl
    (fun a m => nvFinish a m.1 nvInternal 0) s

/-- Steps 1 and 2: the key register and every key are zero; their slots are lost. -/
def eraseKeys (s : State) : State :=
  let s1 : State := { s with vault := { s.vault with
    keyReg := 0
    slots := tmap s.vault.slots (fun _ k => { k with lost := true, mat := [] })
    cached := []
    erasures := if lcState s = 2 then s.vault.erasures + 1 else s.vault.erasures } }
  failLostVolumes s1

/-- An erasure starts: steps 1 and 2 are done, steps 3 and 4 run. -/
def startErasure (s : State) (after : AfterErase) : State :=
  let s1 := eraseKeys s
  { s1 with vault := { s1.vault with erasing := some after, eraseStart := tickNs s } }

/-- Step 4: a new key register. -/
def newKeyReg (s : State) : State :=
  let d := drawTrng s 256
  { d.2 with vault := { d.2.vault with keyReg := d.1, keyRegLost := false } }

/-- Steps 3 and 4 of an erasure. -/
def eraseStore (s : State) : State := newKeyReg { s with vault := { s.vault with sealed := none, sealedDirty := false } }

/-! ### Tokens (R409) -/

/-- The nonce is the last one given out and at most 60 s old. -/
def nonceFits (s : State) (n : List Byte) : Bool :=
  match s.vault.nonce with
  | some (m, t) => decide (m = n) && decide (s.time.sec ≤ t + 60)
  | none => false

/-- The token's signature under the debug key of the provisioning. -/
def tokenFits (s : State) (purpose : Byte) (body sig : List Byte) : Bool :=
  decide (Config.sha384 s.vault.debugKey = Config.debugKeyHash) && Config.verify s.vault.debugKey (Config.sha384 (purpose :: body)) sig

/-! ### The checks of the public-key engine (R416) -/

/-- The two coordinates lie on the curve of field size 32 or 48. -/
def onCurve (alg x y : Nat) : Bool :=
  let p := if alg = 2 then prime384 else prime256
  let b := if alg = 2 then coeff384 else coeff256
  decide (y * y % p = (x * x * x + (p - 3) * x + b) % p)

/-- A point fails: 3 a coordinate not below the prime, 4 not on the curve, else 0. -/
def pointResult (alg x y : Nat) : Nat :=
  let p := if alg = 2 then prime384 else prime256
  if p ≤ x ∨ p ≤ y then 3 else if onCurve alg x y then 0 else 4

/-- The result of an ECDSA verification (R416). -/
def ecdsaResult (alg : Nat) (ops : List Byte) : Nat :=
  let w := if alg = 2 then 48 else 32
  let n := if alg = 2 then order384 else order256
  let f := fun (i : Nat) => beNat ((ops.drop (i * w)).take w)
  if f 3 = 0 ∨ f 4 = 0 then 2
  else if n ≤ f 3 ∨ n ≤ f 4 then 3
  else if pointResult alg (f 0) (f 1) ≠ 0 then pointResult alg (f 0) (f 1)
  else if Config.verify (4 :: ops.take (2 * w)) ((ops.drop (2 * w)).take w) (ops.drop (3 * w)) then 0 else 1

/-- The result of an Ed25519 verification: public key, R, S, message. -/
def edResult (ops : List Byte) : Nat :=
  let y := fun (i : Nat) => leNat ((ops.drop i).take 32) % 2 ^ 255
  if orderEd ≤ leNat ((ops.drop 64).take 32) ∨ primeEd ≤ y 0 ∨ primeEd ≤ y 32 then 3
  else if Config.pointCheck 3 (ops.take 64) ≠ 0 then 4
  else if Config.verify (ops.take 32) (ops.drop 96) ((ops.drop 32).take 64) then 0 else 1

/-- Bytes of an RSA modulus. -/
def rsaBytes (alg : Nat) : Nat := if alg % 3 = 1 then 256 else if alg % 3 = 2 then 384 else 512

/-- The result of an RSA verification: e, n, signature, digest. -/
def rsaResult (alg : Nat) (ops : List Byte) : Nat :=
  let k := rsaBytes alg
  let e := beNat (ops.take 4)
  let n := beNat ((ops.drop 4).take k)
  let sg := beNat ((ops.drop (4 + k)).take k)
  if sg = 0 then 2
  else if n ≤ sg ∨ n % 2 = 0 ∨ n < 2 ^ (8 * k - 1) ∨ e % 2 = 0 ∨ e < 3 then 3
  else if Config.verify (BitVec.ofNat 8 alg :: ops.take (4 + k)) (ops.drop (4 + 2 * k)) ((ops.drop (4 + k)).take k) then 0 else 1

/-- Lengths of the operands of VERIFY (R415). -/
def verifyLenOk (alg n : Nat) : Bool :=
  if alg = 1 then decide (n = 160) else if alg = 2 then decide (n = 240)
  else if alg = 3 then decide (97 ≤ n) && decide (n ≤ 996)
  else decide (n = 52 + 2 * rsaBytes alg)

def verifyResult (alg : Nat) (ops : List Byte) : Nat :=
  if alg ≤ 2 then ecdsaResult alg ops else if alg = 3 then edResult ops else rsaResult alg ops

/-- The result record (R415). -/
def resultRec (code : Nat) (out : List Byte) : List Byte :=
  beBytes 1 code ++ beBytes 3 0 ++ beBytes 2 out.length ++ beBytes 2 0 ++ out

/-! ### Errors (R424) -/

def vaultErr (k : ErrKind) (block cause : Nat) : ErrDesc :=
  { kind := k, region := 7, block := block, cause := cause, code := fun l => if 3 ≤ l then 6 else 1 }

/-- Persistent slots as the sealed store holds them. -/
def sealedSlots (s : State) : Tab KeySlot := match s.vault.sealed with | some x => x.2 | none => []

/-- What R407 does with a store that cannot be opened. -/
def keystoreLost (s : State) (level errSeq : Nat) : State :=
  let s1 := failLostVolumes { s with vault := { s.vault with sealed := none, sealedDirty := false, slots := [], cached := [] } }
  raise s1 { cls := 10, name := "KEYSTORE_LOST", unit := unitId 2 7 5 0xFFF, level := level, errSeq := errSeq }

/-- The actions of R424; the region row is fail-stop (R480). -/
def vaultAct (k : ErrKind) (l : Nat) (r : ErrRec) (s : State) : State :=
  if 3 ≤ l then enterFailStop r s
  else match k with
    | .vaultTrngThird => { s with vault := { s.vault with trng := 2 } }
    | .vaultKeyStore =>
      let s1 := failLostVolumes (setSlots s (sealedSlots s))
      raise { s1 with vault := { s1.vault with cached := [] } }
        { cls := 10, name := "KEY_SLOTS_LOST", unit := unitId 2 7 1 0xFFF, level := 2, errSeq := r.seq }
    | .vaultSealedBoth => keystoreLost s 2 r.seq
    | _ => s

/-- An error of the vault arrives. -/
def vaultError (s : State) (k : ErrKind) : State :=
  match k with
  | .vaultTrngThird => arrive vaultAct (vaultErr k 2 8) 2 s
  | .vaultKeyStore => arrive vaultAct (vaultErr k 1 1) 2 s
  | .vaultSealedBoth => arrive vaultAct (vaultErr k 5 1) 2 s
  | .vaultCore => arrive vaultAct (vaultErr k 0 7) 4 s
  | _ => count s (okey 0x2360 3)

end Sys2Proof.Machine
end

