-- ==== Sys2Proof/Machine/Reset.lean ====
section
/-! DEFINITION. Chip reset (R43, R481, R493, R498): what it keeps, and what the fuses, the flash and the always-on region bring
back. -/

namespace Sys2Proof.Machine

/-- Dictionary values that the always-on region keeps: TAMPER_CONF, TAMPER_LOCK, RTC_ALARM. -/
def aonKeys : List Nat := [okey 0x2302 1, okey 0x2302 3, okey 0x2101 5]

/-- The values after a reset: those committed to flash, and the always-on ones. -/
def bootNums (s : State) : Tab Nat :=
  (s.dict.nums.filter (fun p => aonKeys.contains p.1)).foldl (fun t p => tset t p.1 p.2) s.dict.flashNums

/-- The dictionary after a reset (R43). -/
def bootDict (s : State) : Dict :=
  { nums := bootNums s, octs := s.dict.flashOcts, flashNums := s.dict.flashNums, flashOcts := s.dict.flashOcts }

/-- The host region after a reset: the pins stand, and the values that take effect at chip reset are in force (R285, R287,
R291). -/
def bootHost (s : State) : HostSt :=
  let n := bootNums s
  { perstN := s.host.perstN
    split := tgetD n (okey 0x5001 1) 0x020001000100
    pfMsix := tgetD n (okey 0x5001 2) 0x0040080008000100
    vfMsix := tgetD n (okey 0x5001 3) 0x004000400010
    bar2 := tgetD n (okey 0x5001 4) 0x1E1E1E2218141A }

/-- The vault after a reset: fuses, sealed store and always-on registers stand; an erasure that was cut short has lost the
key register (R408). -/
def bootVault (s : State) : Vault :=
  { sealed := s.vault.sealed
    keyReg := s.vault.keyReg
    keyRegLost := s.vault.keyRegLost || s.vault.erasing.isSome
    lc := s.vault.lc
    rollback := s.vault.rollback
    revoke := s.vault.revoke
    debugKey := s.vault.debugKey
    lcBoot := lcState s
    erasures := s.vault.erasures
    tamper0 := s.vault.tamper0
    tamper1 := s.vault.tamper1
    tamperLog := s.vault.tamperLog
    tamperErase := s.vault.tamperErase }

/-- Flash contents and boot state after a reset with a cause of R481. -/
def bootBoot (s : State) (cause : Nat) : Boot :=
  { j0 := s.boot.j0
    j1 := s.boot.j1
    ptr := s.boot.ptr
    slotA := s.boot.slotA
    slotB := s.boot.slotB
    exclude := s.boot.exclude
    goldLow := s.boot.goldLow
    goldReq := decide (cause = 5)
    mgmtSel := s.boot.mgmtSel
    testMode := s.boot.testMode
    rstLow := s.boot.rstLow }

/-- Clocks and power after a reset: the always-on region goes on, every other source is qualified again (R446). -/
def bootClk (s : State) : ClkState :=
  { srcs := s.clk.srcs.filter (fun p => decide (p.1 = 3) || decide (p.1 = 5))
    coarse := s.clk.coarse
    alertLow := s.clk.alertLow
    tripped := s.clk.tripped
    ladder := { pwrEn := s.clk.ladder.pwrEn, pwrWake := s.clk.ladder.pwrWake }
    wake := s.clk.wake
    rtc := s.clk.rtc
    vaon := s.clk.vaon }

/-- Repairs in a stack are permanent (R392); the stored DDR_SPEED is in force (R400). -/
def bootCtl (s : State) : CtlState :=
  { hbm := s.ctl.hbm.map (fun c => { repaired := c.repaired })
    ddrSpeed := tgetD (bootNums s) (okey 0x7020 1) 8000
    poison := s.ctl.poison }

/-- A chip reset (R481): every region but the always-on one. Memory keeps its contents (DESIGN CHOICE, log entry 34). -/
def resetWith (s : State) (cause : Nat) : State :=
  { State.reset with
    pending := s.pending
    free := s.free
    resp := s.resp
    dict := bootDict s
    host := bootHost s
    vault := bootVault s
    boot := bootBoot s cause
    clk := bootClk s
    ctl := bootCtl s
    err := { aonErrors := s.err.aonErrors, chipErrors := s.err.chipErrors, resetCause := cause }
    saddle := { slots := (s.saddle.slots.filter (fun p => p.2.present)).map (fun p => (p.1, { present := true })) }
    mem := s.mem
    hmem := s.hmem }

/-- A chip reset with its always-on record (R478). -/
def chipReset (s : State) (cause : Nat) : State :=
  resetWith (if cause = 1 then s else aonRecord s 0x40FFFFFF 10 4 s.clk.rtc) cause

/-- The always-on region loses its supply (R407, R493). -/
def loseAon (s : State) : State :=
  { s with
    dict := { s.dict with nums := s.dict.nums.filter (fun p => !aonKeys.contains p.1) }
    err := { s.err with aonErrors := [] }
    boot := { s.boot with ptr := none, exclude := none, rstLow := true }
    vault := { s.vault with keyReg := 0, keyRegLost := true, tamperLog := [], tamper0 := 0, tamper1 := 0, tamperErase := false }
    clk := { s.clk with srcs := [], coarse := false, tripped := false, ladder := {}, wake := {}, rtc := 0, vaon := false } }

/-- The chip is out of reset, as far as pins and supplies go. -/
def released (s : State) : Bool :=
  s.clk.vaon && s.clk.ladder.pwrEn && !s.boot.rstLow && !s.clk.tripped

end Sys2Proof.Machine
end

