-- ==== Sys2Proof/Machine/BootBase.lean ====
section
/-! DEFINITION. Images (R427, R428), the journal (R430, R431), the checks of R434 and what boots (R433-R436). -/

namespace Sys2Proof.Machine

/-! ### Images (R427, R428) -/

/-- A field of a byte string; bytes beyond it read as erased flash. -/
def imgAt (bs : List Byte) (off n : Nat) : Nat := beNat (sliceD bs off n 0xFF)

def slotImage (s : State) (k : Nat) : List Byte := if k = 0 then s.boot.slotA else s.boot.slotB

def setSlotImage (s : State) (k : Nat) (bs : List Byte) : State :=
  { s with boot := if k = 0 then { s.boot with slotA := bs } else { s.boot with slotB := bs } }

def imgSecVer (bs : List Byte) : Nat := imgAt bs 8 1
def imgSeq (bs : List Byte) : Nat := imgAt bs 12 4
def imgVersion (bs : List Byte) : Nat := imgAt bs 16 4
def imgLength (bs : List Byte) : Nat := imgAt bs 20 4
def imgKeyIndex (bs : List Byte) : Nat := imgAt bs 6 1

/-- The image digest (R427). -/
def imgDigest (bs : List Byte) : List Byte := Config.sha384 (sliceD bs 0 864 0xFF)

/-- A component entry (R428). -/
structure Comp where
  kind : Nat
  off : Nat
  len : Nat
  load : Nat
  entry : Nat
  digest : List Byte

def compAt (bs : List Byte) (i : Nat) : Comp :=
  let b := 128 + 80 * i
  { kind := imgAt bs b 1, off := imgAt bs (b + 4) 4, len := imgAt bs (b + 8) 4, load := imgAt bs (b + 16) 8,
    entry := imgAt bs (b + 24) 8, digest := sliceD bs (b + 32) 48 0xFF }

def comps (bs : List Byte) : List Comp := (List.range (min 8 (imgAt bs 7 1))).map (compAt bs)

/-- The component of a kind. -/
def compOf (bs : List Byte) (kind : Nat) : Option Comp := (comps bs).find? (fun c => decide (c.kind = kind))

/-- The bytes of a component. -/
def compBytes (bs : List Byte) (c : Comp) : List Byte := sliceD bs c.off c.len 0xFF

def compFits (bs : List Byte) (c : Comp) : Bool := decide (Config.sha384 (compBytes bs c) = c.digest)

/-- An entry breaks the rules of R428. -/
def compBad (len : Nat) (c : Comp) : Bool :=
  decide (c.kind < 1) || decide (5 < c.kind) || decide (c.off % 256 ≠ 0) || decide (c.off < 1024) || decide (c.len < 1)
  || decide (len < c.off + c.len)
  || (decide (c.kind = 1) && decide (0x80000 < c.load + c.len))
  || (decide (2 ≤ c.kind) && decide (c.kind ≤ 4) && !within c.load c.len ddrBase 0x4000000000)
  || (decide (c.kind = 5) && decide (c.load ≠ 0)) || (decide (3 ≤ c.kind) && decide (c.entry ≠ 0))

def overlaps : List Comp → Bool
  | [] => false
  | c :: cs => cs.any (fun d => decide (c.off < d.off + d.len) && decide (d.off < c.off + c.len)) || overlaps cs

/-- How many components have a kind. -/
def kindsOf (cs : List Comp) (k : Nat) : Nat := (cs.filter (fun c => decide (c.kind = k))).length

/-- The first row of R434 fails: magic, image length, the rules of R428. -/
def imgFormBad (bs : List Byte) : Bool :=
  let n := imgAt bs 7 1
  let cs := comps bs
  decide (imgAt bs 0 4 ≠ 0x4C4E494D) || decide (32505856 < imgLength bs) || decide (n < 2) || decide (8 < n)
  || cs.any (compBad (imgLength bs)) || overlaps cs
  || decide (kindsOf cs 1 ≠ 1) || decide (kindsOf cs 2 ≠ 1)
  || decide (1 < kindsOf cs 3) || decide (1 < kindsOf cs 4) || decide (1 < kindsOf cs 5)
  || decide (imgAt bs (128 + 80 * n) (640 - 80 * n) ≠ 0)

/-- The checks of R434 in table order; `full` adds the digest of every component. -/
def imgVerify (s : State) (bs : List Byte) (full : Bool) : Status :=
  let k := imgKeyIndex bs
  let key := sliceD bs 24 97 0xFF
  if imgFormBad bs then .range
  else if imgAt bs 4 1 ≠ 1 then .version
  else if 1 < k ∨ bitOf s.vault.revoke k then .access
  else if Config.sha384 key ≠ Config.imgKeyHash k then .access
  else if ¬ Config.verify key (Config.sha384 (sliceD bs 0 768 0xFF)) (sliceD bs 768 96 0xFF) then .access
  else if imgSecVer bs < s.vault.rollback then .access
  else if (comps bs).all (fun c => compFits bs c || (!full && decide (c.kind ≠ 1))) then .ok
  else .access

/-! ### The journal (R430, R431) -/

def jNone : JRec := { jseq := 0, stA := 0, stB := 0, seqA := 0, seqB := 0 }

/-- The correct records of both sectors with their places. -/
def jRecords (s : State) : List (Nat × Nat × JRec) :=
  let from_ := fun (sec : Nat) (l : List (Option JRec)) =>
    (l.zipIdx.filterMap (fun p => p.1.map (fun r => (sec, p.2, r))) : List (Nat × Nat × JRec))
  from_ 0 s.boot.j0 ++ from_ 1 s.boot.j1

/-- The record of highest jseq (R430). -/
def jScan (s : State) : Option (Nat × Nat × JRec) :=
  (jRecords s).foldl (fun b x => match b with
    | none => some x
    | some y => if y.2.2.jseq < x.2.2.jseq then some x else b) none

def jSector (s : State) (sec : Nat) : List (Option JRec) := if sec = 0 then s.boot.j0 else s.boot.j1

/-- The record that the always-on journal pointer names, when it is accepted (R431). -/
def jPointer (s : State) : Option JRec :=
  match s.boot.ptr with
  | none => none
  | some (sec, pos) =>
    if (jSector s sec).length = pos + 1 then
      match (jSector s sec)[pos]? with
      | some r => r
      | none => none
    else none

/-- The journal state. -/
def jNow (s : State) : JRec :=
  match jPointer s with
  | some r => r
  | none => match jScan s with
    | some x => x.2.2
    | none => jNone

/-- Records a scan finds torn or corrupt. -/
def jCorrupt (s : State) : Nat :=
  if (jPointer s).isSome then 0 else ((s.boot.j0 ++ s.boot.j1).filter Option.isNone).length

/-- A record is appended, in the other sector when this one is full, and the pointer follows (R431). -/
def jAppend (s : State) (r : JRec) : State :=
  let sec := match jScan s with | some x => x.1 | none => 0
  let n := { r with jseq := (jNow s).jseq + 1 }
  let put := fun (k : Nat) (l : List (Option JRec)) =>
    ({ s with boot := { s.boot with
        j0 := if k = 0 then l else s.boot.j0
        j1 := if k = 0 then s.boot.j1 else l
        ptr := some (k, l.length - 1) } } : State)
  if (jSector s sec).length < 128 then put sec (jSector s sec ++ [some n])
  else put (1 - sec) [some n]

/-- State and sequence of a slot in a record. -/
def jState (r : JRec) (k : Nat) : Nat := if k = 0 then r.stA else r.stB
def jSeqOf (r : JRec) (k : Nat) : Nat := if k = 0 then r.seqA else r.seqB

/-- The record with a slot's state and sequence replaced. -/
def jSet (r : JRec) (k st seq : Nat) : JRec :=
  if k = 0 then { r with stA := st, seqA := seq } else { r with stB := st, seqB := seq }

/-! ### The ROM (R433) -/

def setBoot (s : State) (b : Boot) : State := { s with boot := b }

/-- The candidates in their order, without the excluded slot. -/
def candidates (r : JRec) (exclude : Option Nat) : List Nat :=
  let ok := fun (k : Nat) => (decide (jState r k = 2) || decide (jState r k = 3)) && decide (exclude ≠ some k)
  match ok 0, ok 1 with
  | false, false => []
  | true, false => [0]
  | false, true => [1]
  | true, true =>
    if r.stA = r.stB then (if r.seqA < r.seqB then [1, 0] else [0, 1])
    else if r.stA = 2 then [0, 1] else [1, 0]

/-- A Golden slot. -/
def goldenSlot (r : JRec) : Option Nat := [0, 1].find? (fun k => decide (jState r k = 3))

/-- The key store at boot (R404, R407, R408): the steps of an erasure that were left, a store that cannot be opened, or its
persistent slots. -/
def openStore (s : State) : State :=
  if s.vault.tamperErase then
    let s1 := eraseStore s
    { s1 with vault := { s1.vault with tamperErase := false } }
  else if keyStoreOn s && s.vault.keyRegLost then
    newKeyReg (if s.vault.sealed.isSome then keystoreLost s 2 0 else s)
  else if keyStoreOn s then setSlots s (sealedSlots s)
  else s

/-- The ROM up to its list of candidates: life cycle, debug state, journal. -/
def romStart (s : State) : State :=
  let s1 := openStore { s with vault := { s.vault with scope := 0 } }
  let r := jNow s1
  let gold := s1.boot.goldLow || s1.boot.goldReq
  let g := goldenSlot r
  let cs := match gold, g with
    | true, some k => [k]
    | _, _ => candidates r s1.boot.exclude
  setBoot s1 { s1.boot with
    stage := 2
    exclude := none
    corrupt := jCorrupt s1
    goldRes := if gold then (if g.isSome then 1 else 2) else 0
    cands := cs
    tries := 0 }

/-- The outcome of a slot's checks is recorded. -/
def slotOutcome (s : State) (k : Nat) (st : Status) : State :=
  setBoot s (if k = 0 then { s.boot with outA := statusCode st } else { s.boot with outB := statusCode st })

/-- A slot that has failed (R443): its record and event, which show once Glen runs. -/
def slotFailed (s : State) (k : Nat) (st : Status) : State :=
  let s1 := slotOutcome s k st
  let d : ErrDesc := { kind := .bootDigest, region := 7, block := 0, resource := k, detail := statusCode st,
                       cause := if st = .timeout then 3 else 4 }
  raise (logErr s1 (errRecord s1 d 2 2 0 0))
    { cls := 11, name := "BOOT_FALLBACK", unit := unitId 2 7 0 0xFFF, level := 2, resource := k, detail := statusCode st,
      errSeq := s1.err.errSeq }

/-- No candidate is left: stage 0xE1, or 0xE2 where flash never answered. -/
def bootStops (s : State) : State :=
  let o := [s.boot.outA, s.boot.outB].filter (fun c => decide (c ≠ 0))
  setBoot s { s.boot with stage := if o ≠ [] ∧ o.all (fun c => decide (c = statusCode .timeout)) then 0xE2 else 0xE1 }

/-- A component's digest differs (R435): the slot is excluded, the error recorded at chip level, and the chip reset. -/
def digestExclude (s : State) : State :=
  let d : ErrDesc := { kind := .bootDigest, region := 7, block := 4, resource := s.boot.running, code := fun _ => 2 }
  let r := errRecord s d 4 4 0 0
  chipReset (aonChip r (logErr (setBoot s { s.boot with exclude := some s.boot.running }) r)) 6

/-- The provisioning bundle (R429). -/
def provision (s : State) (b : List Byte) : State :=
  let key := sliceD b 0 97 0
  if Config.sha384 key = Config.debugKeyHash then
    let s1 := setOct (setOct s (okey 0x1100 1) (sliceD b 97 48 0)) (okey 0x1100 2) (sliceD b 145 48 0)
    let s2 := newKeyReg { s1 with vault := { s1.vault with debugKey := key } }
    programLc (persist (persist s2 (okey 0x1100 1)) (okey 0x1100 2)) 0
  else raise s { cls := 11, name := "PROVISION_REFUSED", unit := unitId 2 7 0 0xFFF }

/-- The slots whose stored SLOT_POWER is 1 and whose card is present are powered (R257). -/
def powerStored (s : State) : State :=
  (List.range 4).foldl (fun a q => if numD a (okey 0x6801 q) 0 = 1 then powerUp a q else a) s

/-- Glen, and but in Scrapped the host region, are released (R436); HBM is carved, and memory training starts. -/
def releaseGlen (s : State) : State :=
  let sc := decide (s.vault.lcBoot = 4)
  let s1 := setBoot s { s.boot with glenUp := true, hostUp := !sc, stage := if sc then 3 else 4, loaded := [1], tablesInit := true }
  if sc then carveHbm s1 else powerStored (carveHbm s1)

/-- The image of a slot has passed: it boots. -/
def bootSlot (s : State) (k : Nat) : State :=
  let bs := slotImage s k
  let s1 := slotOutcome (setBoot s { s.boot with running := k, version := imgVersion bs, header := sliceD bs 0 864 0xFF, cands := [], stage := 3 }) k .ok
  match s1.vault.lcBoot, compOf bs 5 with
  | 0, some c => if compFits bs c then releaseGlen (provision s1 (compBytes bs c)) else digestExclude s1
  | _, _ => releaseGlen s1

/-- The candidates are tried in order (R433). -/
def tryCands : List Nat → State → State
  | [], s => bootStops s
  | k :: ks, s =>
    match imgVerify s (slotImage s k) false with
    | .ok => bootSlot s k
    | st => tryCands ks (slotFailed (setBoot s { s.boot with cands := ks, tries := 0 }) k st)

/-- The ROM is at work: the vault runs, Glen does not, and boot has not stopped. -/
def romRuns (s : State) : Bool := s.vault.up && released s && !s.boot.glenUp && decide (s.boot.stage ≤ 2) && !s.err.failStop

/-- The ROM with its candidates. -/
def romReady (s : State) : State := if s.boot.stage < 2 then romStart s else s

end Sys2Proof.Machine
end

