-- ==== Sys2Proof/Machine/Boot.lean ====
section
/-! DEFINITION. The boot commands (R432-R442): the ROM, loads and releases, installs, marks, anti-rollback. -/

namespace Sys2Proof.Machine

/-- ROM_BOOT (R433): the ROM runs its sequence to the end. -/
def execRomBoot (s : State) : Out :=
  .next (if romRuns s then tryCands (romReady s).boot.cands (romReady s) else s)

/-- FLASH_READ_TIMEOUT (R434): a read of the candidate under check does not complete within 10 ms; it is retried once. -/
def execFlashReadTimeout (s : State) : Out :=
  .next (if romRuns s then
      let s1 := romReady s
      match s1.boot.cands with
      | [] => setBoot s1 { s1.boot with stage := 0xE2 }
      | k :: ks =>
        if s1.boot.tries = 0 then setBoot s1 { s1.boot with tries := 1 }
        else
          let s2 := slotFailed (setBoot s1 { s1.boot with cands := ks, tries := 0 }) k .timeout
          if ks = [] then bootStops s2 else s2
    else s)

/-! ### Loads and releases (R435, R436) -/

/-- The image in the slot that was booted; its header is `Boot.header`, whatever an install does to the slot. -/
def runningImage (s : State) : List Byte := slotImage s s.boot.running

/-- The load of a component may run: kind 2 once DDR5 is trained, kinds 3 and 4 after the Steppe release. -/
def loadDue (s : State) (kind : Nat) : Bool :=
  s.boot.glenUp && decide (s.vault.lcBoot ≠ 4) && !s.err.failStop && !s.boot.loaded.contains kind &&
    (if kind = 2 then decide (s.boot.stage = 4) && decide (ddrWorking s ≠ 0)
     else if kind = 3 then s.boot.steppeUp && s.east.col.held
     else if kind = 4 then s.boot.steppeUp && s.west.col.held else false)

/-- The cold load of a component into a Vale (R151); an image that fails the checks of R150 leaves the Vale in reset. -/
def coldComponent (s : State) (v : Vale) (bs : List Byte) : State :=
  match imageCheck bs with
  | some f => s.modCol v (fun x => { x with progReject := f.2, progState := 3 })
  | none =>
    let i := parseImage bs
    let s1 := (mapCores s v (coldLoad i)).modCol v (fun x => { x with active := some i, staged := none, progState := 0, loading := false })
    setNum s1 (vkey v 0x3017 2) i.progId

/-- COMPONENT_LOAD (R435). -/
def execComponentLoad (kind : Fin 6) (s : State) : Out :=
  .next (if loadDue s kind then
      let bs := runningImage s
      match compOf s.boot.header kind with
      | none => s
      | some c =>
        if ¬ compFits bs c then digestExclude s
        else if ¬ inDdr s c.load c.len then s
        else
          let s1 := writeInt s c.load (compBytes bs c)
          let s2 := setBoot s1 { s1.boot with loaded := s1.boot.loaded ++ [kind.val] }
          if kind = 3 then coldComponent s2 .east (compBytes bs c)
          else if kind = 4 then coldComponent s2 .west (compBytes bs c) else s2
    else s)

/-- STEPPE_RELEASE (R436). -/
def execSteppeRelease (s : State) : Out :=
  .next (if s.boot.stage = 4 ∧ s.boot.loaded.contains 2 ∧ ¬ s.err.failStop then
      let e := match compOf s.boot.header 2 with | some c => c.entry | none => 0
      let quads := (List.range 6).filter (fun q => !quadRetired s q)
      let s1 := quads.foldl (fun a q => setDom a (3 + q) { st := 2 }) s
      let s2 := (List.range 24).foldl (fun a h =>
        setHart a h { hartOf a h with pcLo := BitVec.ofNat 32 e, pcHi := e / 2 ^ 32 % 65536 }) s1
      let s3 := if quadRetired s 0 then s2
        else setHart s2 0 { hartOf s2 0 with run := true, stopped := false, pc := restartPc (hartOf s2 0) }
      setBoot s3 { s3.boot with steppeUp := true, stage := 5 }
    else s)

/-- Both Vales are released. -/
def bothReleased (s : State) : Bool := !s.east.col.held && !s.west.col.held

/-- The Active cores of a Vale start (R151). -/
def startVale (s : State) (v : Vale) (i : Image) : State :=
  (mapCores s v (fun c => if c.st = .active then startCoreAt s v c i else c)).modCol v (fun x => { x with held := false })

/-- COL_RELEASE (R151, R436). -/
def execColRelease (v : Vale) (s : State) : Out :=
  .next (match (s.vale v).col.active with
    | none => s
    | some i =>
      if ¬ (s.vale v).col.held ∨ ¬ s.boot.tablesInit ∨ ¬ s.boot.glenUp ∨ s.err.failStop then s
      else
        let s1 := startVale s v i
        if bothReleased s1 ∧ s1.boot.stage = 5 then
          setBoot s1 { s1.boot with stage := 6, msTo6 := s1.time.ticks * 8 / 1000000 }
        else s1)

/-- FLASH_RELEASE (R437). -/
def execFlashRelease (s : State) : Out :=
  .next (if s.boot.stage = 0xE1 ∨ s.boot.stage = 0xE2 then setBoot s { s.boot with flashFree := true } else s)

/-! ### Installs (R438) -/

def iiSlot (r : Nat) : Nat := recField 16 0 1 r
def iiLength (r : Nat) : Nat := recField 16 4 4 r
def iiAddr (r : Nat) : Nat := recField 16 8 8 r

/-- The target or the source of an install does not suit. -/
def installBad (s : State) (r : Nat) : Bool :=
  let j := jNow s
  let k := iiSlot r
  decide (1 < k) || decide (jState j k = 3) || (decide (s.boot.running = k) && decide (jState j (1 - k) ≠ 3))
  || decide (32505856 < iiLength r) || !inDdrHbm s (iiAddr r) (iiLength r)

/-- What a running install still takes (R504): 45 s is the duration that the chapter gives, of an install of 8 MiB. -/
def installRetry (s : State) : Nat := estimateMs s 45000000000 s.boot.instStart

def imgInstallOp (who : Who) (r : Rec 16) : DictOp where
  status := fun s => firstStatus (baseChecks s (isOV who) ++
    [(.range, installBad s r.toNat), (.busy, decide (s.boot.inst ≠ .idle))])
  effect := fun s =>
    let n := r.toNat
    (setBoot s { s.boot with inst := .checking, instSlot := iiSlot n, instAddr := iiAddr n, instLen := iiLength n, instStart := tickNs s }, [])
  retry := installRetry

/-- IMG_INSTALL. -/
def execImgInstall (who : Who) (r : Rec 16) (s : State) : Out := .next (runOp (imgInstallOp who r) s)

/-- An install ends with a result. -/
def installEnd (s : State) (st : Status) : State :=
  raise (setBoot s { s.boot with inst := .idle, instResult := st })
    { cls := 11, name := "IMG_INSTALLED", unit := unitId 2 6 6 0xFFF, resource := s.boot.instSlot, detail := statusCode st }

/-- The image in memory. -/
def installImage (s : State) : List Byte := readInt s s.boot.instAddr s.boot.instLen

/-- The sequence exceeds that of every Valid or Golden slot. -/
def seqRises (s : State) (n : Nat) : Bool :=
  [0, 1].all (fun k => !(decide (jState (jNow s) k = 2) || decide (jState (jNow s) k = 3)) || decide (jSeqOf (jNow s) k < n))

/-- INSTALL_CHECK_DONE: with the Written record the target's sectors are erased, so that a write that fails leaves no image. -/
def execInstallCheckDone (s : State) : Out :=
  .next (if s.boot.inst = .checking ∧ s.boot.glenUp ∧ ¬ s.err.failStop then
      let bs := installImage s
      let st := if s.boot.instLen < imgLength bs then .range else imgVerify s bs true
      if st ≠ .ok then installEnd s st
      else if ¬ seqRises s (imgSeq bs) then installEnd s .range
      else
        let s1 := setSlotImage (jAppend s (jSet (jNow s) s.boot.instSlot 1 0)) s.boot.instSlot []
        setBoot s1 { s1.boot with inst := .writing }
    else s)

/-- INSTALL_WRITE_DONE: every sector reads back equal, or one has failed twice. -/
def execInstallWriteDone (ok : Bool) (s : State) : Out :=
  .next (if s.boot.inst = .writing ∧ s.boot.glenUp ∧ ¬ s.err.failStop then
      if ok then
        let s1 := setSlotImage s s.boot.instSlot (installImage s)
        setBoot s1 { s1.boot with inst := .verifying }
      else installEnd s .timeout
    else s)

/-- INSTALL_VERIFY_DONE: the slot is verified from flash, and the journal marked. -/
def execInstallVerifyDone (s : State) : Out :=
  .next (if s.boot.inst = .verifying ∧ s.boot.glenUp ∧ ¬ s.err.failStop then
      let k := s.boot.instSlot
      let bs := slotImage s k
      let st := imgVerify s bs true
      if st ≠ .ok then installEnd s st
      else
        let s1 := jAppend s (jSet (jNow s) k 2 (imgSeq bs))
        let j := jNow s1
        let s2 := if jState j (1 - k) = 2 then jAppend s1 (jSet j (1 - k) 4 (jSeqOf j (1 - k))) else s1
        installEnd s2 .ok
    else s)

/-! ### Marks (R440) -/

/-- The conditions on a mark. -/
def markChecks (s : State) (k st : Nat) : List (Status × Bool) :=
  let j := jNow s
  if 1 < k then [(.range, true)]
  else if st = 2 ∨ st = 3 then
    [(imgVerify s (slotImage s k) true, true), (.range, decide (st = 3) && decide (jState j (1 - k) = 3))]
  else [(.range, decide (st ≠ 4) || decide (s.boot.running = k))]

def imgMarkOp (who : Who) (slot st : Nat) : DictOp where
  status := fun s => firstStatus (baseChecks s (isOV who) ++ markChecks s slot st ++ [(.busy, decide (s.boot.inst ≠ .idle))])
  effect := fun s =>
    let j := jNow s
    (jAppend s (jSet j slot st (if st = 4 then jSeqOf j slot else imgSeq (slotImage s slot))), [])
  retry := installRetry

/-- IMG_MARK. -/
def execImgMark (who : Who) (slot st : U8) (s : State) : Out := .next (runOp (imgMarkOp who slot.toNat st.toNat) s)

/-! ### Anti-rollback and revocation (R441, R442) -/

def rollbackCommitOp (who : Who) (x : Nat) : DictOp where
  status := fun s =>
    let j := jNow s
    firstStatus (baseChecks s (isOV who) ++
      [(.range, decide (128 < x) || decide (x < s.vault.rollback) || decide (imgSecVer s.boot.header < x)
        || [0, 1].any (fun k => decide (jState j k = 3) && decide (imgSecVer (slotImage s k) < x)))])
  effect := fun s => ({ s with vault := { s.vault with rollTo := max s.vault.rollTo x } }, [])

/-- ROLLBACK_COMMIT. -/
def execRollbackCommit (who : Who) (x : U8) (s : State) : Out := .next (runOp (rollbackCommitOp who x.toNat) s)

/-- ROLLBACK_FUSE_STEP: one fuse more. -/
def execRollbackFuseStep (s : State) : Out :=
  .next (if s.vault.rollback < s.vault.rollTo ∧ s.vault.up then
      { s with vault := { s.vault with rollback := s.vault.rollback + 1 } }
    else s)

/-- The image uses one of the keys named. -/
def usesKey (bs : List Byte) (x : Nat) : Bool := bitOf x (imgKeyIndex bs)

def imgKeyRevokeOp (who : Who) (x : Nat) : DictOp where
  status := fun s =>
    let j := jNow s
    firstStatus (baseChecks s (isOV who) ++
      [(.range, decide ((s.vault.revoke ||| x) % 4 = 3) || usesKey s.boot.header x
        || [0, 1].any (fun k => (decide (jState j k = 2) || decide (jState j k = 3)) && usesKey (slotImage s k) x))])
  effect := fun s => ({ s with vault := { s.vault with revoke := (s.vault.revoke ||| x) % 4 } }, [])

/-- IMG_KEY_REVOKE. -/
def execImgKeyRevoke (who : Who) (x : U8) (s : State) : Out := .next (runOp (imgKeyRevokeOp who (x.toNat % 4)) s)

/-- GOLD_REQUEST (R432): GOLD_N, high at boot, has stayed low for 4 s. -/
def execGoldRequest (s : State) : Out :=
  .next (if s.boot.glenUp ∧ ¬ s.boot.goldLow then
      chipReset (raise s { cls := 11, name := "GOLD_REQUEST", unit := unitId 2 8 0 0xFFF }) 5
    else s)

end Sys2Proof.Machine
end

