-- ==== Sys2Proof/Machine/Intake.lean ====
section
/-! DEFINITION. Port modes, frame starts at the wire and from other sources, MACsec on ingress (R72-R82, R420), the punt queues
(R173, R384), Steppe injection (R385). -/

namespace Sys2Proof.Machine

/-! ### Port mode (R72, R73) -/

/-- The packet is in a queue below a network port. -/
def onNetwork (s : State) (v : Vale) (p : Packet) : Bool :=
  match locQueue p.loc with
  | some q => (match recPort s v (queueConf s v q) with | some n => decide (n < 8) | none => false)
  | none => false

def portModeOp (who : Who) (v : Vale) (m : U8) : DictOp where
  status := fun s => firstStatus (baseChecks s (isO who) ++
    [(.range, decide (4 < m.toNat) || (Config.hx && decide (m = 3)))])
  effect := fun s =>
    let s1 := persist (setNum s (vkey v 0x3000 1) m.toNat) (vkey v 0x3000 1)
    let s2 := s1.modPath v (fun x => { x with linkUp := 0 })
    (settleAll (dropDown s2 v (fun _ p => onNetwork s2 v p)) v, [])

/-- PORT_MODE (R73): every port of the Vale goes down, and what is queued for them is dropped with 0x0C (R85), at once and
counted as its queues' drops, and not as the down nodes dequeue it (DESIGN CHOICE, log entry 80). -/
def execPortModeWrite (who : Who) (v : Vale) (m : U8) (s : State) : Out := .next (runOp (portModeOp who v m) s)

/-! ### Wire frames (R76, R78, R420) -/

/-- A frame that the MAC holds until it is validated: no cell, no token; its time stamps are those of its start. -/
def holdInMac (s : State) (v : Vale) (p : Packet) : State :=
  let i := (s.vale v).path.nextPkt
  let q : Packet := { p with
    loc := .mac
    words := [(3, BitVec.ofNat 36 (s.time.frac * 2 ^ 32 + s.time.ns)), (4, BitVec.ofNat 36 (s.time.sec % 2 ^ 32))] }
  s.modPath v (fun x => { x with packets := tset x.packets i q, nextPkt := i + 1 })

/-- A frame that a Vale on a slow clock does not take (R449). -/
def throttled (s : State) (v : Vale) : State := count (count s (vkey v 0x3004 0x10)) (okey 0x2003 2)

/-- WIRE_FRAME_START: the first bytes of a frame at a network port whose link is up. -/
def execWireFrameStart (v : Vale) (k : Fin 8) (bytes : List Byte) (s : State) : Out :=
  .next (if ¬ linkIsUp s v k ∨ ¬ intakeOpen s v then s
    else if valeSlow s v then throttled s v
    else
      let p : Packet := { srcClass := 0, srcIndex := valeNum v * 8 + k.val, bytes := bytes, tail := false }
      if macMode s p.srcIndex ≠ 0 then holdInMac s v p
      else if (s.vale v).path.basinFree < cellsOf bytes.length then basinDrop s v k
      else admitPkt s v p)

/-- The association of a validated frame: its number is accepted, and it is counted. -/
def macAccept (s : State) (a pn bytes : Nat) : State :=
  let x := saOf s a
  saCount (saCount (setSaPn s a (max x.pn (pn + 1))) a 0 1) a 8 bytes

/-- A frame held by the MAC enters Basin whole, with the stamps of its start. -/
def macAdmit (s : State) (v : Vale) (p : Packet) (frame : List Byte) (valid : Bool) : State :=
  if (s.vale v).path.basinFree < cellsOf frame.length then basinDrop s v (p.srcIndex % 8)
  else
    let i := (s.vale v).path.nextPkt
    let s1 := admitPkt s v { p with bytes := frame, tail := true, loc := .basin, words := [(5, BitVec.ofNat 36 (bit1 valid * 2 ^ 32))] }
    modPkt s1 v i (fun q => recPut (recPut q 3 (recAt p 3)) 4 (recAt p 4))

/-- The tail of a frame held by the MAC (R420). -/
def macTail (s : State) (v : Vale) (i : Nat) (rest : List Byte) (ok : Bool) : State :=
  match pktAt s v i with
  | none => s
  | some p =>
    let f := p.bytes ++ rest
    if !ok || tooLong s v f.length then dropPkt s v i 0x05
    else match macsecOpen s p.srcIndex f with
      | .drop st => dropPkt (match st with | some x => saCount s x.1 x.2 1 | none => s) v i 0x05
      | .pass g st => macAdmit (removePkt (match st with | some x => saCount s x.1 x.2 1 | none => s) v i) v p g false
      | .valid g a pn => macAdmit (removePkt (macAccept s a pn g.length) v i) v p g true

/-- FRAME_TAIL (R78, R80, R420). -/
def execFrameTail (v : Vale) (pkt : Nat) (rest : List Byte) (ok : Bool) (s : State) : Out :=
  .next (if (pktAt s v pkt).any (fun p => decide (p.loc = .mac)) then macTail s v pkt rest ok else frameTail s v pkt rest ok)

/-! ### Steppe injection (R385) -/

def injRing (q : Nat) : Nat := 1152 + q

/-- The length and tenancy of the entry at CONS. -/
def injEntry (s : State) (x : SRing) : Nat × Handle :=
  let h := readInt s (sringSlotAt x x.cons) 16
  (beNat (h.take 2), BitVec.ofNat 32 (beNat ((h.drop 4).take 4)))

/-- CONS passes an entry; the ring's interrupt when it reaches PROD. -/
def injNext (s : State) (r : Nat) (x : SRing) : State :=
  let y : SRing := { x with cons := (x.cons + 1) % 65536, presented := false }
  let s1 := setSring s r y
  if y.cons = y.prod then steppeIrq s1 y.irq else s1

/-- INJECTION_TAKE: the entry at CONS is presented to intake, or skipped. -/
def execInjectionTake (q : Fin 64) (s : State) : Out :=
  .next (let r := injRing q
    let x := sringOf s r
    if ¬ x.en ∨ sringHeld x = 0 ∨ x.presented ∨ s.err.failStop then s
    else
      let e := injEntry s x
      if e.1 < 14 ∨ 15996 < e.1 ∨ sringSlotBytes x < 16 + e.1 ∨ ¬ tenFresh s e.2 then
        injNext s r { x with drops := (x.drops + 1) % 2 ^ 32 }
      else setSring s r { x with presented := true })

/-! ### Grants to other sources (R76, R77) -/

/-- A transmit queue asks for an intake grant of its Vale (R324). -/
def txAsks (s : State) (v : Vale) (q : QCtx) : Bool :=
  decide (q.type = 1) && decide (ctxVale q = v) && qeReady s q && !(s.vale v).path.hostGrant

/-- A region has a frame for intake. -/
def sgWaiting (x : SRegion) : Bool :=
  (!x.apWait.isEmpty || (decide (x.apLen ≠ 0) && decide (x.apPkt = none))) && regionOpen x

def injVale (q : Nat) : Vale := if q < 32 then .east else .west

/-- The classes of sources that have a frame for a Vale: 0 host, 1 Saddle, 2 Steppe, 3 recirculation. -/
def nwWaiting (s : State) (v : Vale) : List Nat :=
  (if s.qe.ctx.any (fun p => txAsks s v p.2) then [0] else [])
  ++ (if s.saddle.regions.any (fun p => sgWaiting p.2 && decide (rgVale p.2.conf = v)) then [1] else [])
  ++ (if s.ctl.rings.any (fun p => decide (1152 ≤ p.1) && p.2.presented && decide (injVale (p.1 - 1152) = v)) then [2] else [])
  ++ (if !(s.vale v).path.recircGrant && (choosePacket s v 14).isSome then [3] else [])

def nwWeight (s : State) (v : Vale) (i : Nat) : Nat :=
  numD s (vkey v 0x3002 (2 + i)) (if i < 2 then 8 else if i = 2 then 2 else 4)

/-- A start is charged against the caps (R76). -/
def nwCharge (s : State) (v : Vale) (left : Tab Nat) (n : Nat) : State :=
  s.modPath v (fun x => { x with nwLeft := left, nwPps := x.nwPps - 1000, nwBytes := x.nwBytes - n })

/-- The frame that a source would start: its class and length, and the state in which it has started. A host source and the
recirculation path are only granted; the frame starts with its descriptor (R324), which charges its bytes, or with its dequeue (R215). -/
def nwStart (s : State) (v : Vale) (src : NwSource) : Option (Nat × Nat × State) :=
  let i := (s.vale v).path.nextPkt
  match src with
  | .host c =>
    match ctxOf s c with
    | none => none
    | some q => if txAsks s v q then some (0, 0, s.modPath v (fun y => { y with hostGrant := true })) else none
  | .saddle r =>
    match regionOf s r with
    | none => none
    | some x =>
      if rgVale x.conf ≠ v ∨ ¬ sgWaiting x then none
      else
        let p : Packet := { srcClass := 2, srcIndex := r.val, preset := rgOwner x.conf }
        match x.apWait with
        | f :: rest => some (1, f.length, apTaken (setRegion (admitPkt s v { p with bytes := f }) r { x with apWait := rest }) r)
        | [] => some (1, x.apLen, setRegion (admitPkt s v { p with bytes := x.apBuf, tail := false, cells := cellsOf x.apLen }) r
            { x with apPkt := some i, apBuf := [] })
  | .steppe q =>
    let r := injRing q
    let x := sringOf s r
    if injVale q ≠ v ∨ ¬ x.presented ∨ ¬ x.en then none
    else
      let e := injEntry s x
      let f := readInt s (sringSlotAt x x.cons + 16) e.1
      some (2, e.1, injNext (admitPkt s v { srcClass := 3, srcIndex := q.val, bytes := f, preset := e.2 }) r x)
  | .recirc =>
    match (if (s.vale v).path.recircGrant then none else choosePacket s v 14) with
    | none => none
    | some c =>
      let p := (pktAt s v ((tmQueue s v c.queue).basin.headD 0)).getD {}
      some (3, p.out.length, s.modPath v (fun y => { y with recircGrant := true }))

/-- INTAKE_GRANT (R76): weighted round robin among the waiting classes, under the caps and the floor. -/
def execIntakeGrant (v : Vale) (src : NwSource) (s : State) : Out :=
  .next (let x := (s.vale v).path
    if ¬ intakeOpen s v ∨ valeSlow s v ∨ x.nwPps ≤ 0 ∨ x.nwBytes ≤ 0 ∨ x.basinFree < numD s (vkey v 0x3002 6) 16384 then s
    else match nwStart s v src with
      | none => s
      | some (c, n, s1) =>
        match wrrServe x.nwLeft (nwWeight s v) (nwWaiting s v) c with
        | none => s
        | some left => dropLong (nwCharge s1 v left n) v x.nextPkt)

/-! ### Punts (R173, R384) -/

/-- A punt-queue entry (R173). -/
def puntEntry (p : Packet) : List Byte :=
  beBytes 1 p.puntCode ++ beBytes 1 p.puntStage ++ beBytes 2 p.bytes.length ++ beBytes 4 (pktTen p).toNat
    ++ beBytes 2 p.epoch ++ List.replicate 6 0
    ++ (List.range 64).flatMap (fun i => beBytes 8 (recAt p i).toNat) ++ p.bytes

/-- The punt ring of a tenancy index, 256 the operator. -/
def puntRing (v : Vale) (n : Nat) : Nat := valeNum v * 257 + n

/-- A PUNT_RATE of 0 refuses every punt of its tenancy (R177). -/
def puntShut (s : State) (v : Vale) (t : Handle) : Bool :=
  decide (t ≠ 0) && decide (numD s (tkey (hIdx t) 0xC020 (1 + valeNum v)) 10000 = 0)

/-- PUNT_DELIVER: the oldest punted packet, once it is whole. -/
def execPuntDeliver (v : Vale) (s : State) : Out :=
  .next (match oldestAt s v .punt with
    | none => s
    | some i =>
      let p := (pktAt s v i).getD {}
      let t := pktTen p
      let n := if t = 0 then 256 else hIdx t
      let have_ := tgetD (s.vale v).stage.puntTokens n (256 * token)
      if s.err.failStop then s
      else if p.bad ∨ p.discarded then dropPkt s v i (if p.bad then 0x05 else 0x04)
      else if ¬ p.tail then s
      else if ¬ tenFresh s t then dropPkt s v i 0x06
      else if have_ < token ∨ puntShut s v t then
        dropPkt (count s (if t = 0 then vkey v 0x3072 2 else tkey n 0xC020 (3 + valeNum v))) v i 0x0A
      else
        let s1 := s.modVale v (fun x => { x with stage := { x.stage with puntTokens := tset x.stage.puntTokens n (have_ - token) } })
        let r := puntRing v n
        if sringFull (sringOf s1 r) then dropPkt (sringDrop s1 r) v i 0x0A
        else sringPush (removePkt s1 v i) r (puntEntry p))

end Sys2Proof.Machine
end

