-- ==== Sys2Proof/Machine/Tick.lean ====
section
/-! DEFINITION. The 8 ns tick (R229, R230): device time, and every token bucket that fills with it. -/

namespace Sys2Proof.Machine

/-- TIME_RATE in parts per 10^12. -/
def timeRate (s : State) : Int := (BitVec.ofNat 32 (numD s (okey 0x7800 4) 0)).toInt

/-- Device time advances by 8 ns, corrected by TIME_RATE (R229); a lost counter stands (R247). -/
def advance (t : DevTime) (rate : Int) : DevTime :=
  if t.held then { t with ticks := t.ticks + 1 }
  else
    let a := ((t.acc : Int) + 128 * 1000000000000 + 128 * rate).toNat
    let f := t.frac + a / 1000000000000
    let n := t.ns + f / 16
    { t with ticks := t.ticks + 1, acc := a % 1000000000000, frac := f % 16, ns := n % 1000000000,
             sec := (t.sec + n / 1000000000) % 2 ^ 48 }

/-- What a rate in kb/s adds in a tick (R219). -/
def tickInc (rate : Nat) : Nat := rate * 65536 / 1000000

/-- A shaper's tick (R219, R220). -/
def shaperTick (r : Nat) (x : Shaper) : Shaper :=
  if x.load then { act := r, tokens := if shResetFull r then (shBurst r * 65536 : Nat) else 0 }
  else { x with tokens := min (x.tokens + (tickInc (shRate x.act) : Nat)) (shBurst x.act * 65536 : Nat) }

/-- A policer's tick (R232). -/
def policerTick (r : Nat) (x : Policer) : Policer :=
  if x.load then { act := r, tc := poCbs r * 65536, te := poEbs r * 65536 }
  else
    let c := x.tc + tickInc (poCir x.act)
    let full := poCbs x.act * 65536
    let e := if poMode x.act = 1 then x.te + (c - full) else x.te + tickInc (poPir x.act)
    { x with tc := min c full, te := min e (poEbs x.act * 65536) }

/-- A region's tick (R270). -/
def regionTick (x : SRegion) : SRegion :=
  if rgRate x.conf = 0 then { x with load := false }
  else if x.load then { x with load := false, tokens := (rgBurst x.conf * 65536 : Nat) }
  else { x with tokens := min (x.tokens + (tickInc (rgRate x.conf) : Nat)) (rgBurst x.conf * 65536 : Nat) }

/-- The traffic manager, policers, punts and intake of a Vale. -/
def valeTick (s : State) (v : Vale) : State :=
  s.modVale v (fun x =>
    let pps := (numD s (vkey v 0x3002 1) 600 : Nat) * 8
    let path : Path := { x.path with
      nwPps := min (x.path.nwPps + (pps : Nat)) (pps : Nat)
      nwBytes := min (x.path.nwBytes + 448) 448 }
    let punt := tmap x.stage.puntTokens (fun n t =>
      min (256 * token) (t + (if n = 256 then numD s (vkey v 0x3072 1) 100000
        else numD s (tkey n 0xC020 (1 + valeNum v)) 10000)))
    { x with
      path := path
      stage := { x.stage with puntTokens := punt }
      tm := { x.tm with
        shapers := tmap x.tm.shapers (fun i y => shaperTick (numD s (shaperKey v i) 0) y)
        polices := tmap x.tm.polices (fun i y => policerTick (numD s (policerKey v i) 0) y) } })

/-- The cycles of a tick in which packets wait for a Narrows token (R110). -/
def narrowsTick (s : State) (v : Vale) : State :=
  if (s.vale v).path.noToken = [] then s else bump s (vkey v 0x3014 2) 64 16

/-- The tokens of host-link clients: rate and burst of a tenancy and direction (R301). -/
def hostRate (s : State) (d t : Nat) : Nat :=
  numD s (tkey t 0xC040 (2 + d)) (match tenAt s t with | some x => if x.mode = 2 then 0 else 25000000 | none => 0)

def hostTick (s : State) : State :=
  let full := fun (k : Nat) => s.host.loads.contains (k % 1024)
  let kept := tfilter s.host.tokens (fun k _ => !full k)
  { s with host := { s.host with
    tokens := tmap kept (fun k x =>
      min (x + (tickInc (hostRate s (k / 1024) (k % 1024)) : Nat)) ((numD s (tkey (k % 1024) 0xC040 4) 65536 : Nat) * 65536))
    loads := []
    oldWeights := [] } }

/-- The descriptor rates of the queue engine (R324). -/
def qeTick (s : State) : State :=
  let kept := tfilter s.qe.tokens (fun t _ => !s.qe.loads.contains t)
  { s with qe := { s.qe with
    tokens := tmap kept (fun t x =>
      min (x + (numD s (tkey t 0xC050 2) 50000000 : Nat)) ((numD s (tkey t 0xC050 3) 1024 : Nat) * (token : Int)))
    loads := []
    oldWeights := [] } }

/-- The notification buckets toward Glen (R66). -/
def glenTick (s : State) : State :=
  { s with idien := { s.idien with
    learnTokens := tmap s.idien.learnTokens (fun _ t => min (4096 * token) (t + numD s (okey 0x1105 1) 100000))
    telemTokens := tmap s.idien.telemTokens (fun _ t => min (1024 * token) (t + numD s (okey 0x1105 2) 10000)) } }

/-- Device seconds by the RTC: a second of the tick base. -/
def rtcTick (s : State) : State :=
  if s.time.ticks % 125000000 = 0 then { s with clk := { s.clk with rtc := (s.clk.rtc + 1) % 2 ^ 64 } } else s

/-- CFG_PROG_N goes high again 10 µs after it went low to clear an FPGA (R258). -/
def slotTick (now : Nat) (x : Slot) : Slot :=
  match x.progAt with
  | some t => if t + 10000 ≤ now then { x with progN := x.pwrEn, progAt := none } else x
  | none => x

/-- TICK (R230); device time stands still on the ladder from Sleep on (R464). -/
def execTick (s : State) : Out :=
  .next (if 3 ≤ ladderDone s then s else
    rtcTick (let s1 := valeTick (valeTick s .east) .west
    let s2 := narrowsTick (narrowsTick s1 .east) .west
    let s3 := glenTick (qeTick (hostTick s2))
    { s3 with
      time := advance s3.time (timeRate s3)
      saddle := { s3.saddle with
        slots := tmap s3.saddle.slots (fun _ x => slotTick (8 * s3.time.ticks) x)
        regions := tmap s3.saddle.regions (fun _ x => regionTick x) } }))

end Sys2Proof.Machine
end

