-- ==== Sys2Proof/Machine/Clocks.lean ====
section
/-! DEFINITION. Clocks, droop, regulators, temperature, power domains (R445-R462, R468). -/

namespace Sys2Proof.Machine

def clkUnit : Nat := unitId 2 0 1 0xFFF
def powerUnit : Nat := unitId 2 0 2 0xFFF

/-- An event of the clock units. -/
def clkEvent (s : State) (name : String) (resource : Nat) : State :=
  raise s { cls := 12, name := name, unit := clkUnit, resource := resource }

/-! ### Sources (R445, R446) -/

/-- The source of a domain's clock: AON32K for the always-on one, PCIE_REFCLK for the host's, SDS_REF for the SerDes
quads', else REF25 (R448). -/
def domSource (d : Nat) : ClkSource :=
  if d = 0 then .aon32k else if d = 29 then .pcieRefclk else if 41 ≤ d then .sdsRef else .ref25

/-- Cells that RCO20 feeds return to their source (R451). -/
def returnCells (s : State) (c : ClkSource) : State :=
  { s with clk := { s.clk with monTrip := s.clk.monTrip.filter (fun d => decide (domSource d ≠ c)) } }

/-- Cells that were held in reset leave it on RCO20, and their trips are handled (R453). -/
def freeCells20 (s : State) : State :=
  let s1 : State := { s with clk := { s.clk with monTrip := s.clk.monTrip ++ s.clk.heldCells, heldCells := [] } }
  if s.boot.glenUp then
    s.clk.heldCells.foldl (fun a d =>
      raise (raise a { cls := 12, name := "CLK_MON_TRIP", unit := clkUnit, level := 1, resource := d })
        { cls := 12, name := "BLOCK_NO_CLOCK", unit := clkUnit, level := 2, resource := d }) s1
  else s1

/-- What a source's ready flag sets going. -/
def sourceReady (s : State) (c : ClkSource) : State :=
  let s1 := returnCells s c
  match c with
  | .ref25 => if released s1 then { s1 with vault := { s1.vault with up := true } } else s1
  | .rco20 => freeCells20 s1
  | .aon32k => { s1 with clk := { s1.clk with coarse := false } }
  | _ => s1

/-- A window may run: the always-on sources while VAON is valid, the others out of reset. -/
def windowRuns (s : State) (c : ClkSource) : Bool :=
  s.clk.vaon && (decide (c = .aon32k) || released s) && decide (c ≠ .lpo)
    && (decide ((srcOf s c).st = 1) || (srcReady s c && s.clk.monTrip.any (fun d => decide (domSource d = c))))

/-- QUALIFY_WINDOW: two windows that pass in a row make the source ready. -/
def execQualifyWindow (c : ClkSource) (pass : Bool) (s : State) : Out :=
  .next (if windowRuns s c then
      let x := srcOf s c
      if !pass then setSrc s c { x with passes := 0 }
      else if x.passes = 0 then setSrc s c { x with passes := 1 }
      else sourceReady (setSrc s c { st := 2, passes := 0 }) c
    else s)

/-- QUALIFY_LIMIT: the source has failed. -/
def execQualifyLimit (c : ClkSource) (s : State) : Out :=
  .next (if (srcOf s c).st = 1 ∧ s.clk.vaon ∧ c ≠ .ref25 ∧ c ≠ .lpo then
      let s1 := setSrc s c { st := 3 }
      let s2 : State := if c = .aon32k then { s1 with clk := { s1.clk with coarse := true } } else s1
      clkEvent s2 "CLK_SOURCE_FAILED" (srcNum c)
    else s)

/-- The source of a number in table order. -/
def srcAt (n : Nat) : ClkSource := [ClkSource.ref25, .pcieRefclk, .sdsRef, .aon32k, .rco20, .lpo].getD n .lpo

def clkRequalifyOp (who : Who) (x : Nat) : DictOp where
  status := fun s => firstStatus (baseChecks s (isO who) ++ [(.range, decide (5 < x))])
  effect := fun s =>
    let c := srcAt x
    (if c = .lpo then s else setSrc s c { st := if srcReady s c then 2 else 1, passes := 0 }, [])

/-- CLK_REQUALIFY. -/
def execClkRequalify (who : Who) (x : U8) (s : State) : Out := .next (runOp (clkRequalifyOp who x.toNat) s)

/-- A domain that accepts CLK_SOURCE writes: a Steppe quad, the RTC (R447). -/
def sourceWritable (d : Nat) : Bool := decide (d = 0) || (decide (3 ≤ d) && decide (d ≤ 8))

/-- The source that a value names for a domain is ready. -/
def sourceFits (s : State) (d x : Nat) : Bool :=
  if x = 0 then (tgetD s.clk.plls (2 + (d - 3)) {}).locked
  else if x = 1 then srcReady s .ref25 else if x = 2 then srcReady s .rco20 else srcReady s .aon32k || srcReady s .lpo

def clkSourceOp (who : Who) (d : Fin 45) (x : Nat) : DictOp where
  status := fun s => firstStatus (baseChecks s (isO who && sourceWritable d) ++
    [(.range, decide (3 < x) || decide ((d.val = 0) ≠ (x = 3))), (.notReady, !sourceFits s d x)])
  effect := fun s => (setNum s (okey 0x2001 d) x, [])

/-- CLK_SOURCE. -/
def execClkSourceWrite (who : Who) (d : Fin 45) (x : U8) (s : State) : Out := .next (runOp (clkSourceOp who d x.toNat) s)

/-! ### Loss of lock (R448-R450) -/

/-- The time counter is lost (R247). -/
def timeAct (_ : ErrKind) (l : Nat) (r : ErrRec) (s : State) : State :=
  if l = 4 then enterFailStop r s
  else raise { s with time := { s.time with held := true } }
    { cls := 4, name := "TIME_LOST", unit := regionId 0, level := 3, errSeq := r.seq }

def timeError (s : State) : State :=
  arrive timeAct { kind := .timeCounter, region := 0, block := 1, cause := 5 } 3 s

/-- The ports of a SerDes quad go down. -/
def quadPortsDown (s : State) (q : Nat) : State :=
  let v : Vale := if q < 2 then .east else .west
  let w := portWidth Config.hx (portMode s v)
  let gone := (List.range 8).filter (fun k =>
    decide (k < q % 2 * 4 + 4) && decide (q % 2 * 4 < k + w))
  s.modPath v (fun x => { x with linkUp := gone.foldl (fun m k => m &&& ~~~ (1#8 <<< k)) x.linkUp })

/-- Every Saddle port is reset (R276). -/
def resetAllPorts (s : State) : State :=
  (List.finRange 8).foldl (fun a (p : Fin 8) => if portResets a p then portReset a p else a) s

/-- What a loss of lock does in the PLL's domain. -/
def lossOfLock (s : State) (p : Pll) : State :=
  match p with
  | .vale v => dropPartialFrames s v
  | .timeA => if (pllOf s .timeB).locked then s else timeError s
  | .timeB => if (pllOf s .timeA).locked then s else timeError s
  | .host => if s.host.link = 0 then s else linkDown s false
  | .fab => resetAllPorts s
  | .sds q => quadPortsDown s q
  | _ => s

/-- PLL_LOSS_OF_LOCK. -/
def execPllLossOfLock (p : Pll) (s : State) : Out :=
  .next (if (pllOf s p).locked ∧ ¬ s.err.failStop then
      lossOfLock (count (setPll s p { locked := false }) (okey 0x2003 1)) p
    else s)

/-- PLL_RELOCK. -/
def execPllRelock (p : Pll) (s : State) : Out :=
  .next (let x := pllOf s p
    if x.locked ∨ x.failed then s else setPll s p { locked := true })

def memoryPll : Pll → Bool
  | .ddr | .hbm0 | .hbm1 => true
  | _ => false

/-- The region of a PLL's domain. -/
def pllRegion : Pll → Nat
  | .vale v => 1 + valeNum v
  | .quad _ | .ctl => 6
  | .timeA | .timeB => 0
  | .host => 3
  | .fab => 4
  | .ddr | .hbm0 | .hbm1 => 5
  | .sds q => if q.val < 2 then 1 else 2

def pllErr (p : Pll) : ErrDesc :=
  { kind := .pllFailed p, region := pllRegion p, block := 0xFFF, resource := pllNum p, cause := 5, unit := some clkUnit,
    code := fun l => if l = 4 then 6 else 3 }

/-- The action on a failed PLL: its domain stays on its fallback, a Vale out of service (R450). -/
def pllAct (p : Pll) (_ : ErrKind) (l : Nat) (r : ErrRec) (s : State) : State :=
  if l = 4 then enterFailStop r s
  else
    let s1 := match p with | .vale v => valeOut s v | _ => s
    raise s1 { cls := 12, name := "PLL_FAILED", unit := clkUnit, level := 3, resource := pllNum p, errSeq := r.seq }

/-- PLL_RESTART: not locked after 200 µs, the PLL is restarted; after its third restart it has failed (R450). -/
def execPllRestart (p : Pll) (s : State) : Out :=
  .next (let x := pllOf s p
    if x.locked ∨ x.failed ∨ s.err.failStop then s
    else if x.restarts < 3 then setPll s p { x with restarts := x.restarts + 1 }
    else if memoryPll p then s
    else arrive (pllAct p) (pllErr p) 3 (setPll s p { x with failed := true }))

/-- A chip-level error of the clock units: fail-stop. -/
def clkFatal (s : State) (k : ErrKind) (resource : Nat) : State :=
  arrive (fun _ _ r a => enterFailStop r a)
    { kind := k, region := 0, block := 1, resource := resource, cause := 5, unit := some clkUnit, code := fun _ => 6 } 4 s

/-- MEMORY_PLL_TIMEOUT: a memory PLL is not locked 1 ms after its loss. -/
def execMemoryPllTimeout (p : Pll) (s : State) : Out :=
  .next (if memoryPll p ∧ ¬ (pllOf s p).locked ∧ ¬ s.err.failStop then clkFatal s (.pllFailed p) (pllNum p) else s)

def steppeFreqOp (who : Who) (q : Fin 6) (x : Nat) : DictOp where
  status := fun s => firstStatus (baseChecks s (isO who) ++
    [(.range, decide (x < 1000) || decide (2800 < x) || decide (x % 200 ≠ 0))])
  effect := fun s =>
    let s1 := persist (setNum s (okey 0x2002 q) x) (okey 0x2002 q)
    (if (pllOf s1 (.quad q)).failed then s1 else setPll s1 (.quad q) { locked := false }, [])

/-- STEPPE_FREQ: the quad's PLL relocks. -/
def execSteppeFreqWrite (who : Who) (q : Fin 6) (x : U16) (s : State) : Out := .next (runOp (steppeFreqOp who q x.toNat) s)

/-! ### Monitors (R451-R453) -/

/-- CLK_MON_TRIP. -/
def execClkMonTrip (c : ClkCell) (s : State) : Out :=
  .next (match c with
    | .ref25 => if s.err.failStop then s else clkFatal s (.blockNoClock 0) 0
    | .domain d =>
      if (s.clk.monTrip ++ s.clk.heldCells).contains d.val ∨ ¬ released s then s
      else if ¬ srcReady s .rco20 then { s with clk := { s.clk with heldCells := s.clk.heldCells ++ [d.val] } }
      else
        let s1 : State := { s with clk := { s.clk with monTrip := s.clk.monTrip ++ [d.val] } }
        let s2 := match domVale d with | some v => dropPartialFrames s1 v | none => s1
        if d.val = 1 then aonRecord s2 (unitId 2 7 0 0xFFF) 5 1 s2.clk.rtc
        else raise s2 { cls := 12, name := "CLK_MON_TRIP", unit := clkUnit, level := 1, resource := d })

/-! ### Droop (R454) -/

/-- DROOP_TRIP. -/
def execDroopTrip (k : Fin 48) (s : State) : Out :=
  .next (if released s then
      count { s with clk := { s.clk with stretch := if s.clk.stretch.contains k.val then s.clk.stretch else s.clk.stretch ++ [k.val] } }
        (okey 0x2502 k)
    else s)

/-- DROOP_HOLD: the stretching of a zone ends. -/
def execDroopHold (k : Fin 48) (s : State) : Out :=
  .next { s with clk := { s.clk with stretch := s.clk.stretch.filter (fun j => decide (j ≠ k.val)) } }

/-! ### Power limiting (R455-R459) -/

/-- The lowest limit in force, in watts (R458). -/
def activeLimit (s : State) : Nat :=
  let a := numD s (okey 0x2110 1) 240 * (100 - s.clk.thermCut) / 100
  let b := if s.clk.phaseCap then min a (numD s (okey 0x2110 2) 160) else a
  if s.clk.telBad then min b 168 else b

/-- Power averaged over 1 ms, in 0.1 W. -/
def averagePower (s : State) : Nat :=
  if s.clk.telBad ∨ s.clk.power = [] then s.clk.estimate else s.clk.power.foldl (· + ·) 0 / s.clk.power.length

/-- Limiting starts or ends (R458). -/
def updateLimit (s : State) : State :=
  let l := decide (activeLimit s * 10 < averagePower s)
  if l = s.clk.limiting then s
  else raise { s with clk := { s.clk with limiting := l } }
    { cls := 12, name := "POWER_LIMITED", unit := powerUnit, detail := bit1 l }

/-- A chip-level condition that only limits power (R468). -/
def powerAct (name : String) (_ : ErrKind) (l : Nat) (r : ErrRec) (s : State) : State :=
  if l = 4 then
    raise (aonChip r s) { cls := 12, name := name, unit := powerUnit, level := 4, errSeq := r.seq }
  else s

def powerErr (s : State) (name : String) : State :=
  arrive (powerAct name) { kind := .telemetryBad, region := 0, block := 2, cause := 6, unit := some powerUnit } 4 s

/-- The filtered readings and the estimate differ by more than 40 %. -/
def farApart (a b : Nat) : Bool := decide (40 * b < 100 * (max a b - min a b))

/-- The core current lies within the range of its rail in REG_MAP, the first one (R455, R489). -/
def avsInRange (s : State) (a : Nat) : Bool := decide (a ≤ recField 32 2 2 (numD s (okey 0x2111 1) Config.regMap))

/-- AVS_POLL: a reading of the core regulator; Glen then sets the VDD_CORE target, a free value within 873-927 mV. -/
def execAvsPoll (r : AvsReading) (s : State) : Out :=
  .next (if ¬ s.boot.glenUp ∨ s.err.failStop then s
    else
      let c := s.clk
      let pw := if r.answered then keep 10 (r.power :: c.power) else c.power
      let cur := if r.answered then keep 3 (r.current :: c.currents) else c.currents
      let again := r.answered && decide (c.power.head? = some r.power)
      let same := if again then c.same + 1 else 0
      let since := if again then c.sameEst else r.estimate
      let moved := decide (since < 10 * (max since r.estimate - min since r.estimate))
      let bad := keep 10 (farApart (median3 (pw.take 3)) r.estimate :: c.bad)
      let wrong := !r.answered || !avsInRange s (median3 cur) || (decide (100 ≤ same) && moved)
        || (decide (bad.length = 10) && bad.all (fun b => b))
      let d := drawFree s 55
      let s1 : State := { d.2 with clk := { c with power := pw, estimate := r.estimate, currents := cur, same := same, sameEst := since, bad := bad, vddTarget := 873 + d.1,
                                                   goodPolls := if wrong then 0 else c.goodPolls + 1 } }
      let s2 :=
        if wrong ∧ ¬ c.telBad then powerErr { s1 with clk := { s1.clk with telBad := true } } "VR_TELEMETRY_BAD"
        else if c.telBad ∧ 10000 ≤ s1.clk.goodPolls then
          raise { s1 with clk := { s1.clk with telBad := false } } { cls := 12, name := "VR_TELEMETRY_OK", unit := powerUnit }
        else s1
      updateLimit s2)

/-- A phase is lost (R456). -/
def phaseLost (s : State) : State :=
  updateLimit (powerErr { s with clk := { s.clk with phaseCap := true } } "VR_PHASE_LOST")

/-- PMBUS_POLL: a reading of another rail on I2C bus 1, which reads as zeros while it is gated (R394); a phase fault in
STATUS_WORD counts as a phase loss. -/
def execPmbusPoll (_ : Nat) (_ _ : Bool) (phaseFault : Bool) (s : State) : Out :=
  .next (if phaseFault ∧ periphOn s 2 ∧ s.boot.glenUp ∧ ¬ s.err.failStop then phaseLost s else s)

/-- VR_ALERT: VR_ALERT_N falls. -/
def execVrAlert (s : State) : Out :=
  .next (let s1 : State := { s with clk := { s.clk with alertLow := true } }
    if s.boot.glenUp ∧ ¬ s.err.failStop then phaseLost s1 else s1)

def powerCapClearOp (who : Who) (alertHigh : Bool) : DictOp where
  status := fun s => firstStatus (baseChecks s (isO who) ++ [(.notReady, !alertHigh)])
  effect := fun s => (updateLimit { s with clk := { s.clk with phaseCap := false, alertLow := false } }, [])

/-- POWER_CAP_CLEAR = 1 with VR_ALERT_N at a level (R456). -/
def execPowerCapClear (who : Who) (alertHigh : Bool) (s : State) : Out := .next (runOp (powerCapClearOp who alertHigh) s)

/-- THERMTRIP_N is driven low and chip reset held until VAON is lost (R459). -/
def thermTrip (s : State) : State :=
  if s.clk.tripped ∨ ¬ released s then s
  else
    let s1 := aonRecord { s with clk := { s.clk with tripped := true } } (unitId 2 0 3 0xFFF) 6 4 s.clk.rtc
    resetWith (aonRecord s1 0x40FFFFFF 10 4 s1.clk.rtc) s.err.resetCause

/-- THERMAL_SAMPLE: the hottest junction, every millisecond. -/
def execThermalSample (t : Int) (s : State) : Out :=
  .next (if ¬ released s then s
    else if 920 ≤ t then thermTrip { s with clk := { s.clk with therm := t } }
    else
      let warn := decide (((numD s (okey 0x2500 2) 100 * 8 : Nat) : Int) ≤ t)
      let cap := decide (((numD s (okey 0x2500 3) 105 * 8 : Nat) : Int) < t)
      let cut := if cap then min 100 (s.clk.thermCut + 5) else s.clk.thermCut - 5
      let s1 : State := { s with clk := { s.clk with therm := t, warned := warn, thermCut := cut } }
      let s2 := if warn && !s.clk.warned && s.boot.glenUp then
          raise s1 { cls := 12, name := "THERM_WARN", unit := unitId 2 0 3 0xFFF, detail := t.toNat }
        else s1
      if s.boot.glenUp ∧ ¬ s.err.failStop then updateLimit s2 else s2)

/-- THERMTRIP: 115 °C. -/
def execThermtrip (s : State) : Out := .next (thermTrip s)

/-! ### Power domains (R460, R461) -/

/-- POWER_DOMAIN changes the domain in service. -/
def domWritable (d : Nat) : Bool := (decide (3 ≤ d) && decide (d ≤ 26)) || (decide (41 ≤ d) && decide (d ≤ 44))

/-- The Col cores of a group domain. -/
def groupCores (d : Nat) : List Nat := (List.range 12).map (fun i => (d - 9) % 9 * 12 + i) |>.filter (fun n => decide (n < 100))

/-- A core of the group is Active or Testing. -/
def groupBusy (s : State) (d : Nat) : Bool :=
  match domVale d with
  | some v => (groupCores d).any (fun n => decide ((coreAt s v n).st = .active) || decide ((coreAt s v n).st = .testing)
      || (coreAt s v n).substFor.isSome)
  | none => false

/-- The write names what the domain cannot take. -/
def domBad (s : State) (d x : Nat) : Bool :=
  decide (2 < x) || !domWritable d || (decide (41 ≤ d) && decide (x = 1))
  || (Config.hx && (decide (d = 42) || decide (d = 44)) && decide (x = 2))
  || (decide (3 ≤ d) && decide (d ≤ 8) && quadRetired s (d - 3) && decide (x ≠ 0))

def powerDomainOp (who : Who) (d : Fin 45) (x : Nat) : DictOp where
  status := fun s => firstStatus (baseChecks s (isO who) ++
    [(.range, domBad s d x),
     (.notReady, decide (x < 2) && ((decide (3 ≤ d.val) && decide (d.val ≤ 8) && !quadStopped s (d - 3))
        || (decide (9 ≤ d.val) && decide (d.val ≤ 26) && groupBusy s d))),
     (.busy, (domOf s d).target.isSome)])
  effect := fun s =>
    let y := domOf s d
    if y.st = x then (s, [])
    else
      let s1 := setDom s d { y with target := some x }
      (if 41 ≤ d.val then quadPortsDown s1 (d - 41) else s1, [])
  retry := fun _ => 1

/-- POWER_DOMAIN. -/
def execPowerDomainWrite (who : Who) (d : Fin 45) (x : U8) (s : State) : Out := .next (runOp (powerDomainOp who d x.toNat) s)

/-- What a domain loses or is given when it changes its state. -/
def domChanged (s : State) (d old new : Nat) : State :=
  if 3 ≤ d ∧ d ≤ 8 ∧ new = 0 then (quadHarts (d - 3)).foldl (fun a h => setHart a h {}) s
  else if 9 ≤ d ∧ d ≤ 26 ∧ old = 0 then
    match domVale d with
    | some v => (groupCores d).foldl (fun a n =>
        if (coreAt a v n).st = .retired then a else setCore a v n (spareCore (a.vale v).col)) s
    | none => s
  else s

/-- DOMAIN_CHANGE_DONE. -/
def execDomainChangeDone (d : Fin 45) (s : State) : Out :=
  .next (let y := domOf s d
    match y.target with
    | none => s
    | some x => domChanged (setDom s d { st := x }) d y.st x)

end Sys2Proof.Machine
end

