-- ==== Sys2Proof/Machine/ColArith.lean ====
section
/-! DEFINITION. Register and immediate arithmetic of the Col cores (R135, R136). -/

namespace Sys2Proof.Machine

/-- Writes a result and its ZN flags. -/
def resultZn (a : BitVec 4) (r : Word36) (x : Thread) : Thread := znFlags r (putR x a r)

def execAdd (th : Thr) (a b c : BitVec 4) (s : State) : Out :=
  .next (issueReg s th (.add th a b c) [] (fun x => addFlags (getR x b) (getR x c) (putR x a (getR x b + getR x c))))

def execSub (th : Thr) (a b c : BitVec 4) (s : State) : Out :=
  .next (issueReg s th (.sub th a b c) [] (fun x => subFlags (getR x b) (getR x c) (putR x a (getR x b - getR x c))))

def execAnd (th : Thr) (a b c : BitVec 4) (s : State) : Out :=
  .next (issueReg s th (.and_ th a b c) [] (fun x => resultZn a (getR x b &&& getR x c) x))

def execOr (th : Thr) (a b c : BitVec 4) (s : State) : Out :=
  .next (issueReg s th (.or_ th a b c) [] (fun x => resultZn a (getR x b ||| getR x c) x))

def execXor (th : Thr) (a b c : BitVec 4) (s : State) : Out :=
  .next (issueReg s th (.xor th a b c) [] (fun x => resultZn a (getR x b ^^^ getR x c) x))

def execShl (th : Thr) (a b c : BitVec 4) (s : State) : Out :=
  .next (issueReg s th (.shl th a b c) [] (fun x => resultZn a (shl36 (getR x b) ((getR x c).toNat % 64)) x))

def execShr (th : Thr) (a b c : BitVec 4) (s : State) : Out :=
  .next (issueReg s th (.shr th a b c) [] (fun x => resultZn a (shr36 (getR x b) ((getR x c).toNat % 64)) x))

def execSar (th : Thr) (a b c : BitVec 4) (s : State) : Out :=
  .next (issueReg s th (.sar th a b c) [] (fun x => resultZn a (sar36 (getR x b) ((getR x c).toNat % 64)) x))

def execMinu (th : Thr) (a b c : BitVec 4) (s : State) : Out :=
  .next (issueReg s th (.minu th a b c) [] (fun x => resultZn a (if getR x b ≤ getR x c then getR x b else getR x c) x))

def execMaxu (th : Thr) (a b c : BitVec 4) (s : State) : Out :=
  .next (issueReg s th (.maxu th a b c) [] (fun x => resultZn a (if getR x b ≤ getR x c then getR x c else getR x b) x))

def execCmp (th : Thr) (b c : BitVec 4) (s : State) : Out :=
  .next (issueReg s th (.cmp th b c) [] (fun x => subFlags (getR x b) (getR x c) x))

def execTst (th : Thr) (b c : BitVec 4) (s : State) : Out :=
  .next (issueReg s th (.tst th b c) [] (fun x => znFlags (getR x b &&& getR x c) x))

def execMul (th : Thr) (a b c : BitVec 4) (s : State) : Out :=
  .next (issueReg s th (.mul th a b c) [] (fun x => resultZn a (getR x b * getR x c) x))

def execMov (th : Thr) (a b : BitVec 4) (s : State) : Out :=
  .next (issueReg s th (.mov th a b) [] (fun x => putR x a (getR x b)))

def execPack (th : Thr) (a b : BitVec 4) (s : State) : Out :=
  .next (issueReg s th (.pack th a b) [] (fun x =>
    { putR x a (packWord (getR x b)) with z := decide (packWord (getR x b) = 0), m := anyMark (getR x b) }))

def execUnpk (th : Thr) (a b : BitVec 4) (s : State) : Out :=
  .next (issueReg s th (.unpk th a b) [] (fun x => putR x a (unpackWord (getR x b))))

def execCrc (th : Thr) (a b c : BitVec 4) (s : State) : Out :=
  .next (issueReg s th (.crc th a b c) [] (fun x =>
    putR x a ((crcBytes ((getR x b).extractLsb' 0 32) (wordBytes (getR x c))).zeroExtend 36)))

def execAddi (th : Thr) (a b : BitVec 4) (d : BitVec 18) (s : State) : Out :=
  .next (issueReg s th (.addi th a b d) [] (fun x => addFlags (getR x b) (sextD d) (putR x a (getR x b + sextD d))))

def execAndi (th : Thr) (a b : BitVec 4) (d : BitVec 18) (s : State) : Out :=
  .next (issueReg s th (.andi th a b d) [] (fun x => resultZn a (getR x b &&& zextD d) x))

def execOri (th : Thr) (a b : BitVec 4) (d : BitVec 18) (s : State) : Out :=
  .next (issueReg s th (.ori th a b d) [] (fun x => resultZn a (getR x b ||| zextD d) x))

def execXori (th : Thr) (a b : BitVec 4) (d : BitVec 18) (s : State) : Out :=
  .next (issueReg s th (.xori th a b d) [] (fun x => resultZn a (getR x b ^^^ zextD d) x))

def execShli (th : Thr) (a b : BitVec 4) (d : BitVec 18) (s : State) : Out :=
  .next (issueReg s th (.shli th a b d) [] (fun x => resultZn a (shl36 (getR x b) (dLow d)) x))

def execShri (th : Thr) (a b : BitVec 4) (d : BitVec 18) (s : State) : Out :=
  .next (issueReg s th (.shri th a b d) [] (fun x => resultZn a (shr36 (getR x b) (dLow d)) x))

def execSari (th : Thr) (a b : BitVec 4) (d : BitVec 18) (s : State) : Out :=
  .next (issueReg s th (.sari th a b d) [] (fun x => resultZn a (sar36 (getR x b) (dLow d)) x))

def execCmpi (th : Thr) (b : BitVec 4) (d : BitVec 18) (s : State) : Out :=
  .next (issueReg s th (.cmpi th b d) [] (fun x => subFlags (getR x b) (sextD d) x))

def execMvi (th : Thr) (a : BitVec 4) (d : BitVec 18) (s : State) : Out :=
  .next (issueReg s th (.mvi th a d) [] (fun x => putR x a (sextD d)))

def execLui (th : Thr) (a : BitVec 4) (d : BitVec 18) (s : State) : Out :=
  .next (issueReg s th (.lui th a d) [] (fun x => putR x a (zextD d <<< 18)))

/-- EXT and INS: ILLEGAL when the width is 0 or the field reaches past bit 35 (R136). -/
def badField (d : BitVec 18) : FaultCode × Bool := (.illegal, decide (dLow d = 0) || decide (36 < dMid d + dLow d))

/-- The low `n` bits set. -/
def lowMask (n : Nat) : Word36 := BitVec.ofNat 36 (2 ^ n - 1)

def execExt (th : Thr) (a b : BitVec 4) (d : BitVec 18) (s : State) : Out :=
  .next (issueReg s th (.ext th a b d) [badField d] (fun x => resultZn a ((getR x b >>> dMid d) &&& lowMask (dLow d)) x))

def execIns (th : Thr) (a b : BitVec 4) (d : BitVec 18) (s : State) : Out :=
  .next (issueReg s th (.ins th a b d) [badField d] (fun x =>
    putR x a ((getR x a &&& ~~~ (lowMask (dLow d) <<< dMid d)) ||| ((getR x b &&& lowMask (dLow d)) <<< dMid d))))

def execTsti (th : Thr) (b : BitVec 4) (d : BitVec 18) (s : State) : Out :=
  .next (issueReg s th (.tsti th b d) [] (fun x => znFlags (getR x b &&& zextD d) x))

end Sys2Proof.Machine
end

