-- ==== Sys2Proof/Machine/Epoch.lean ====
section
/-! DEFINITION. Configuration epochs (R35-R38): staged writes, commit and discard, readiness (R37, R152, R153, R161, R208), retirement
(R37, R153, R225). -/

namespace Sys2Proof.Machine

/-! ### Staged records (R161, R165, R170, R207) -/

/-- Fields of a KEY_SEGMENT record are out of range (R161). -/
def segBad (r : Nat) : Bool :=
  let word := recField 8 0 1 r
  let lsb := recField 8 1 1 r
  let w := recField 8 2 1 r
  if word = 0xFF then decide (lsb ≠ 0) || decide (w < 1) || decide (32 < w)
  else decide (63 < word) || decide (35 < lsb) || decide (w < 1) || decide (36 < lsb + w)

/-- Fields of an ACTION record that the entry uses are out of range, or a word is no W36 value (R165). -/
def actionBad (r : Nat) : Bool :=
  let w0 := actionWord r 0
  let w2 := actionWord r 2
  let w3 := actionWord r 3
  let cnt := bitsOf w2 24 6
  let first := bitsOf w2 30 6
  let op := bitsOf w3 32 3
  let anchor := bitsOf w3 28 4
  let param := bitsOf w3 8 12
  (List.range 4).any (fun i => decide (2 ^ 36 ≤ actionWord r i))
  || decide (bitsOf w0 21 2 = 3) || decide (bitsOf w0 16 2 = 3)
  || (decide (bitsOf w0 16 2 = 1) && decide (bitsOf w0 14 2 = 3))
  || (bitOf w0 13 && decide (bitsOf w0 11 2 = 3))
  || decide (48 < cnt) || (decide (cnt ≠ 0) && (decide (first < 16) || decide (64 < first + cnt)))
  || (decide (bitsOf w0 26 3 = 6) && decide (bitsOf w2 18 6 < 16))
  || (decide (bitsOf w0 23 3 = 6) && decide (bitsOf w2 12 6 < 16))
  || (bitOf w3 35 && (decide (op = 0) || decide (4 < op) || decide (6 < anchor)
        || (decide (op = 3) && decide (anchor ≠ 1) && decide (anchor ≠ 4))
        || (decide (op = 2) && (decide (param < 1) || decide (255 < param)))))

/-- An ACTION record as it is taken: reserved bits zero (R10). -/
def actionIn (r : Nat) : Nat :=
  let w0 := actionWord r 0
  let w2 := actionWord r 2
  let w3 := actionWord r 3
  recSet 32 0 8 (recSet 32 8 8 (recSet 32 16 8 (recSet 32 24 8 r (w3 / 2 ^ 8 * 2 ^ 8)) (w2 / 2 ^ 12 * 2 ^ 12))
    (actionWord r 1 % 2 ^ 32)) (w0 / 2 ^ 10 * 2 ^ 10 + w0 % 2 ^ 8)

/-- A template's length is out of range and the record is not all zero (R170). -/
def templateBad (r : Nat) : Bool :=
  decide (r ≠ 0) && (decide (recField 72 0 1 r < 4) || decide (64 < recField 72 0 1 r))

def templateIn (r : Nat) : Nat := recClear 72 [(5, 3)] (recFlags 72 4 1 r)

/-- A node record as it is taken (R10, R206, R207); of a class node only the weight is written. -/
def nodeIn (level r : Nat) : Nat :=
  if level = 4 then recSet 16 8 1 0 (nodeWeight r) else recClear 16 [(9, 7)] (recElem 16 0 r)

/-- The parent of a node that is not removed is no element of the level above (R207). -/
def nodeBad (level r : Nat) : Bool :=
  decide (level < 4) && decide (nodeWeight r ≠ 0) &&
    (decide (elemLevel (nodeParent r) + 1 ≠ level)
      || decide ((if level = 2 then 15 else 512) ≤ elemIdx (nodeParent r)))

/-- What a staged write names: the key and the checks of its record. -/
structure Staged where
  key : Nat
  size : Nat
  bad : Nat → Bool
  into : Nat → Nat
  checks : State → Nat → List (Status × Bool) := fun _ _ => []

def nodeStaged (v : Vale) (level i : Nat) : Staged :=
  { key := nodeKey v level i, size := 16, bad := fun r => nodeBad level (nodeIn level r), into := nodeIn level,
    checks := fun s r => if level = 3 then ownerChecks s (nodeOwner r) else [] }

/-- The epoch-staged records other than COL_PROGRAM and STAGE_DEF by East index and subindex. -/
def stagedEast (v : Vale) (i sub : Nat) : Option Staged :=
  if 0x3030 ≤ i ∧ i < 0x303C ∧ sub < 24 then
    some { key := segKey v (i - 0x3030) sub, size := 8, bad := segBad, into := recClear 8 [(3, 1)] }
  else if 0x3100 ≤ i ∧ i < 0x3400 ∧ sub < 16 then
    some { key := vkey v i sub, size := 32, bad := actionBad, into := actionIn }
  else if 0x3400 ≤ i ∧ i < 0x3600 ∧ sub < 8 then
    some { key := vkey v i sub, size := 72, bad := templateBad, into := templateIn }
  else if 0x4020 ≤ i ∧ i < 0x4024 ∧ sub < 128 then some (nodeStaged v 2 ((i - 0x4020) * 128 + sub))
  else if 0x4030 ≤ i ∧ i < 0x4040 ∧ sub < 128 then some (nodeStaged v 3 ((i - 0x4030) * 128 + sub))
  else if 0x4040 ≤ i ∧ i < 0x40C0 ∧ sub < 128 then some (nodeStaged v 4 ((i - 0x4040) * 128 + sub))
  else none

/-- The Vale of an index of the Vales' ranges, and the East index (R44). -/
def valeIndex (i : Nat) : Vale × Nat :=
  if i / 0x800 % 2 = 1 then (.west, i - 0x800) else (.east, i)

def stagedOp (who : Who) (x : Staged) (bytes : List Byte) : DictOp where
  status := fun s =>
    let r := beNat bytes
    firstStatus (baseChecks s (isO who) ++ (if bytes.length = x.size then x.checks s r else []) ++
      [(.range, decide (bytes.length ≠ x.size) || x.bad r), (.busy, !stagingOpen s)])
  effect := fun s => (stage s x.key (x.into (beNat bytes)), [])
  retry := epochRetry

/-- A write that names no epoch-staged object completes with RANGE (R44). -/
def noObjectOp (who : Who) : DictOp where
  status := fun s => firstStatus (baseChecks s (isO who) ++ [(.range, true)])
  effect := fun s => (s, [])

/-- The staged write of an object of this file, a definition or a program. -/
def stagedWriteOp (who : Who) (index sub : Nat) (bytes : List Byte) : DictOp :=
  let p := valeIndex index
  if h : 0x3020 ≤ p.2 ∧ p.2 - 0x3020 < 12 ∧ sub = 1 ∧ bytes.length = 20 then
    stageDefOp who p.1 ⟨p.2 - 0x3020, h.2.1⟩ (BitVec.ofNat _ (beNat bytes))
  else if p.2 = 0x3017 ∧ sub = 1 ∧ bytes.length = 12 then colProgramOp who p.1 (BitVec.ofNat _ (beNat bytes))
  else match stagedEast p.1 p.2 sub with
    | some x => stagedOp who x bytes
    | none => noObjectOp who

/-- STAGED_WRITE (R35, R38). -/
def execStagedWrite (who : Who) (index : U16) (sub : U8) (bytes : List Byte) (s : State) : Out :=
  .next (runOp (stagedWriteOp who index.toNat sub.toNat bytes) s)

/-! ### Commit and discard (R37, R38) -/

def epochBusy (s : State) : Bool := !stagingOpen s

def modCols (s : State) (f : ColState → ColState) : State := (s.modCol .east f).modCol .west f

def epochCommitOp (who : Who) : DictOp where
  status := fun s => firstStatus (baseChecks s (isO who) ++ [(.busy, epochBusy s)])
  effect := fun s =>
    (if s.epoch.st = .staging then { s with epoch := { s.epoch with st := .committing, ready := [], switched := [], start := tickNs s } } else s, [])
  retry := epochRetry

/-- EPOCH_COMMIT = 1. -/
def execEpochCommit (who : Who) (s : State) : Out := .next (runOp (epochCommitOp who) s)

/-- Staged copies are the active values again; shadow banks are empty (R153). -/
def discardStaged (s : State) : State :=
  let clear := fun (a : State) (v : Vale) =>
    let s1 := if (a.vale v).col.staged.isSome then mapCores a v (fun c => setBank c (!c.cur) none) else a
    s1.modCol v (fun x => { x with staged := none, progState := 0, loading := false })
  let s1 := clear (clear s .east) .west
  { s1 with dict := { s1.dict with staged := [] }, epoch := { s1.epoch with st := .idle } }

def epochDiscardOp (who : Who) : DictOp where
  status := fun s => firstStatus (baseChecks s (isO who) ++ [(.busy, epochBusy s)])
  effect := fun s => (if s.epoch.st = .staging then discardStaged s else s, [])
  retry := epochRetry

/-- EPOCH_COMMIT = 2. -/
def execEpochDiscard (who : Who) (s : State) : Out := .next (runOp (epochDiscardOp who) s)

/-! ### Readiness -/

/-- The staged view of a number. -/
def stagedNum (s : State) (k d : Nat) : Nat := tgetD s.dict.staged k (numD s k d)

/-- A stage's staged definition can be applied: its segments fit the key, and the partitions of a definition that is staged
still fit (R160, R161); one that is active already is not checked again (log entry 37). -/
def stageReady (s : State) (v : Vale) (k : Nat) : Bool :=
  let d := stageDefOf (stagedNum s (stageDefKey v k) 0)
  let staged := (tget s.dict.staged (stageDefKey v k)).isSome
  decide (d.kind = 0) ||
    (decide ((List.range d.segments).foldl (fun n j => n + recField 8 2 1 (stagedNum s (segKey v k j) 0)) 0 ≤ d.keyWidth)
      && (!staged || ((defParts d).all (fun h => handleCurrent s h && !defPartBad s v d h) && !learnBad s v d)))

/-- Tenancy nodes with a live queue below them. -/
def busyNodes (s : State) (v : Vale) : List Nat :=
  (s.dict.owners.filter (fun p => decide (p.1 / 65536 = queueKind v))).map
    (fun p => elemIdx (qClass (queueConf s v (p.1 % 65536))) / 8)

/-- The staged tree meets the conditions of R208. -/
def tmReady (s : State) (v : Vale) : Bool :=
  let t := treeNums s true
  let tens := (nodesIn t v 3).filter (fun p => decide (nodeWeight p.2 ≠ 0))
  (nodesIn t v 2).all (fun p => decide (nodeWeight p.2 = 0)
    || (decide (elemLevel (nodeParent p.2) = 1) && decide (elemIdx (nodeParent p.2) < 15)
          && portNodeExists s v (elemIdx (nodeParent p.2))))
  && tens.all (fun p =>
      decide (elemLevel (nodeParent p.2) = 2) && decide (nodeWeight (nodeRec t v 2 (elemIdx (nodeParent p.2))) ≠ 0)
      && (let m := modeOf s (nodeOwner p.2)
          !(decide (m = 1) || decide (m = 3))
            || (s.vale v).tm.shapers.any (fun x => decide (shTarget (numD s (shaperKey v x.1) 0) = elemId 3 p.1))))
  && (busyNodes s v).all (fun i => tenNodeIn t v i)

/-- A core is ready: nothing is staged for it, or its shadow bank is loaded (R152). -/
def coreReady (s : State) (v : Vale) : Bool := (s.vale v).col.staged.isNone || decide ((s.vale v).col.progState = 2)

/-- The unit could report ready. -/
def unitReady (s : State) : EpochUnit → Bool
  | .stage v k => stageReady s v k
  | .tm v => tmReady s v
  | .core v _ => coreReady s v

/-- The units of a Vale whose report a commit waits for, in the order of their identifiers. -/
def epochUnitsOf (s : State) (v : Vale) : List EpochUnit :=
  ((List.finRange 100).filter (fun (n : Fin 100) => decide ((coreAt s v n.val).st = .active) || (coreAt s v n.val).draining
      || (decide ((coreAt s v n.val).st = .spare) && decide ((domOf s (colDom v n)).st ≠ 0)))).map
      (EpochUnit.core v)
    ++ (List.finRange 12).map (EpochUnit.stage v) ++ [.tm v]

def epochUnits (s : State) : List EpochUnit := epochUnitsOf s .east ++ epochUnitsOf s .west

/-- A unit's identifier (R473, R474). -/
def epochUnitId : EpochUnit → Nat
  | .stage v k => valeBlock v (110 + k)
  | .tm v => valeBlock v 140
  | .core v n => valeBlock v n

/-- The supervisor thread of a core. -/
def supOf (c : Core) : Thread := threadOf c 0

/-- Waiting supervisors use the new vector table from now on (R153). -/
def switchSups (s : State) (v : Vale) : State :=
  if (s.vale v).col.staged.isSome then
    mapCores s v (fun c => if (supOf c).st = .waiting then { c with supBank := !c.cur } else c)
  else s

/-- Every unit has reported: the commit moves to Retiring. -/
def commitReady (s : State) : State :=
  if (epochUnits s).all (fun u => s.epoch.ready.contains u) then
    switchSups (switchSups { s with epoch := { s.epoch with st := .retiring, switched := [], start := tickNs s } } .east) .west
  else s

/-- UNIT_READY (R37). -/
def execUnitReady (u : EpochUnit) (s : State) : Out :=
  .next (if s.epoch.st = .committing ∧ unitReady s u ∧ (epochUnits s).contains u ∧ ¬ s.err.failStop then
      commitReady { s with epoch := { s.epoch with
        ready := if s.epoch.ready.contains u then s.epoch.ready else s.epoch.ready ++ [u] } }
    else s)

/-! ### Abort and retirement -/

/-- The reason of an abort's drop: at Narrows, which still holds the packet's token, the first that applies in the order of
R109; beyond it the abort. -/
def abortReason (s : State) (v : Vale) (i : Nat) : Nat :=
  match pktAt s v i with
  | some p => if p.token.isNone then 0x07 else if p.discarded then 0x04 else if !tenFresh s (pktTen p) then 0x06 else 0x07
  | none => 0x07

/-- Drops the packets of an epoch in a Vale; the number of them. -/
def dropEpoch (s : State) (v : Vale) (e : Nat) : State × Nat :=
  let l := (s.vale v).path.packets.filter (fun q => decide (q.2.epoch = e))
  (l.foldl (fun a q => dropHeld a v q.1 (abortReason a v q.1)) s, l.length)

/-- Drops the packets of an epoch in both Vales and counts them in EPOCH_ABORT_DROPS. -/
def dropEpochs (s : State) (e : Nat) : State × Nat :=
  let a := dropEpoch s .east e
  let b := dropEpoch a.1 .west e
  let c := settleAll (settleAll b.1 .east) .west
  ({ c with epoch := { c.epoch with abortDrops := (c.epoch.abortDrops + a.2 + b.2) % 2 ^ 64 } }, a.2 + b.2)

/-- COMMIT_TIMEOUT (R37): the unit recorded is the one of lowest identifier among those not ready. -/
def execCommitTimeout (s : State) : Out :=
  .next (if s.epoch.st = .committing ∧ ¬ s.err.failStop then
      let late := match (epochUnits s).find? (fun u => !s.epoch.ready.contains u) with
        | some u => epochUnitId u
        | none => 0
      let d := (dropEpochs s (nextEpoch s)).1
      { d with epoch := { d.epoch with st := .staging, ready := [], lastResult := .timeout, notReady := late } }
    else s)

/-- A packet of the epoch is inside a Vale. -/
def epochInside (s : State) (v : Vale) (e : Nat) : Bool := (s.vale v).path.packets.any (fun q => decide (q.2.epoch = e))

/-- A packet of the epoch is queued below a port node. -/
def epochBelow (s : State) (v : Vale) (n e : Nat) : Bool :=
  (s.vale v).tm.queues.any (fun p => decide (queuePort s v p.1 = some n) &&
    (p.2.basin ++ p.2.flood).any (fun i => match pktAt s v i with | some q => decide (q.epoch = e) | none => false))

/-- Every port node of a Vale that exists has switched (R225). -/
def allSwitched (s : State) (v : Vale) : Bool :=
  (List.range 15).all (fun n => !portNodeExists s v n || portSwitched s v n)

/-- Every supervisor of a Vale has left the old bank (R153). -/
def supsLeft (s : State) (v : Vale) : Bool :=
  (s.vale v).col.staged.isNone || (List.range 100).all (fun n =>
    let c := coreAt s v n
    !((decide (c.st = .active) || c.substFor.isSome || c.draining) && decide ((supOf c).st = .running) && decide (c.supBank = c.cur)))

/-- The new bank of a core is its active bank; the old one is empty; its supervisor stands in the new one. -/
def exchangeCore (c : Core) : Core :=
  let c1 := setBank c c.cur none
  let t := supOf c1
  let c2 : Core := if t.st = .running ∧ c.supBank = c.cur then { c1 with threads := tset c1.threads 0 { t with st := .waiting } } else c1
  { c2 with cur := !c.cur, supBank := !c.cur }

/-- The exchange of a Vale's program ends. -/
def exchangeProg (s : State) (v : Vale) : State :=
  match (s.vale v).col.staged with
  | none => s
  | some i =>
    let s1 := (mapCores s v (fun c => if c.st = .active ∨ c.st = .spare ∨ c.draining then exchangeCore c else c)).modCol v (fun x =>
      { x with active := some i, staged := none, progState := 0, loading := false })
    setNum s1 (vkey v 0x3017 2) i.progId

/-- Entries that the epoch rewrote are bad no more (R176). -/
def rewriteBad (s : State) (v : Vale) : State :=
  s.modVale v (fun x => { x with stage := { x.stage with
    bad := x.stage.bad.filter (fun c => (tget s.dict.staged (badKey v c)).isNone) } })

/-- The N configuration is released: N+1 is the active epoch (R37). -/
def retireEnd (s : State) : State :=
  let s0 := rewriteBad (rewriteBad s .east) .west
  let s1 := exchangeProg (exchangeProg { s0 with dict := { s.dict with nums := treeNums s true, staged := [] } } .east) .west
  let s1 := dropDeficits (dropDeficits s1 .east) .west
  { s1 with epoch := { s1.epoch with st := .idle, active := nextEpoch s, lastResult := .ok, ready := [], switched := [] } }

/-- RETIRE_COMPLETE (R37, R153, R225). -/
def execRetireComplete (s : State) : Out :=
  .next (if s.epoch.st = .retiring ∧ ¬ s.err.failStop ∧
        [Vale.east, Vale.west].all (fun v => !epochInside s v s.epoch.active && allSwitched s v && supsLeft s v) then retireEnd s
    else s)

/-- RETIRE_TIMEOUT (R37): every port node switches at once (R225). -/
def execRetireTimeout (s : State) : Out :=
  .next (if s.epoch.st = .retiring ∧ ¬ s.err.failStop then
      let d := dropEpochs s s.epoch.active
      raise (retireEnd d.1) { cls := 1, name := "EPOCH_RETIRE_FORCED", unit := unitId 2 0 4 0xFFF, detail := d.2 }
    else s)

/-- PORT_NODE_SWITCH (R225). -/
def execPortNodeSwitch (v : Vale) (n : Fin 15) (s : State) : Out :=
  .next (if s.epoch.st = .retiring ∧ portNodeExists s v n ∧ ¬ portSwitched s v n ∧ ¬ epochBelow s v n s.epoch.active
        ∧ ¬ s.err.failStop then
      { s with epoch := { s.epoch with switched := s.epoch.switched ++ [valeNum v * 16 + n.val] } }
    else s)

end Sys2Proof.Machine
end

