-- ==== Sys2Proof/Machine/Vault.lean ====
section
/-! DEFINITION. The commands of the vault (R401-R418): life cycle, keys, tokens, tamper inputs, random numbers, VAULT_CMD,
security associations. -/

namespace Sys2Proof.Machine

/-! ### LC_ADVANCE (R403) -/

def laTarget (r : Nat) : Nat := recField 132 0 1 r
def laNonce (r : Nat) : List Byte := beBytes 32 (recField 132 4 32 r)
def laSig (r : Nat) : List Byte := beBytes 96 (recField 132 36 96 r)

/-- A transition of R403 that LC_ADVANCE may name. -/
def lcAllowed (now target : Nat) : Bool :=
  (decide (target = 2) && decide (now = 1)) || (decide (target = 3) && decide (now = 2)) || (decide (target = 4) && decide (now < 4))

/-- The token of the Return transition (R409). -/
def returnTokenFits (s : State) (r : Nat) : Bool :=
  nonceFits s (laNonce r) && tokenFits s 2 (sliceD Config.serial 0 16 0 ++ laNonce r ++ [3, 0, 0, 0]) (laSig r)

/-- Milliseconds left of steps 3 and 4 of an erasure (R408, R504). -/
def eraseRetry (s : State) : Nat := estimateMs s 40000000 s.vault.eraseStart

def lcAdvanceOp (who : Who) (r : Rec 132) : DictOp where
  status := fun s =>
    let n := r.toNat
    firstStatus (baseChecks s (isOV who) ++
      [(.range, !lcAllowed (lcState s) (laTarget n)),
       (.access, lcAllowed (lcState s) (laTarget n) && decide (laTarget n = 3) && !returnTokenFits s n),
       (.busy, s.vault.erasing.isSome)])
  effect := fun s =>
    let t := laTarget r.toNat
    (if t = 2 then programLc s 1 else startErasure s (.lcWord (t - 1)), [])
  retry := eraseRetry

/-- LC_ADVANCE. -/
def execLcAdvance (who : Who) (r : Rec 132) (s : State) : Out := .next (runOp (lcAdvanceOp who r) s)

/-- ERASURE_COMPLETE: steps 3 and 4 end, and what waits for them follows (R403, R408, R410). -/
def execErasureComplete (s : State) : Out :=
  .next (match s.vault.erasing with
    | none => s
    | some a =>
      let s1 := eraseStore { s with vault := { s.vault with erasing := none } }
      match a with
      | .nothing => s1
      | .openPorts sc => { s1 with vault := { s1.vault with scope := sc } }
      | .lcWord k => programLc s1 k)

/-! ### Keys (R406) -/

def kgSlot (r : Nat) : Nat := recField 8 0 2 r
def kgKind (r : Nat) : Nat := recField 8 2 1 r
def kgFlags (r : Nat) : Nat := recField 8 3 1 r % 2
def kgOwner (r : Nat) : Handle := BitVec.ofNat 32 (recField 8 4 4 r)

/-- The slot cannot be filled: out of range, occupied, no such kind. -/
def keyFillBad (s : State) (r : Nat) : Bool :=
  decide (8191 < kgSlot r) || (tget s.vault.slots (kgSlot r)).isSome || decide (matBytes (kgKind r) = 0)

def keyOf (r : Nat) (mat : List Byte) : KeySlot := { kind := kgKind r, flags := kgFlags r, owner := kgOwner r, mat := mat }

def keyGenerateOp (who : Who) (r : Rec 8) : DictOp where
  status := fun s =>
    firstStatus (baseChecks s (isOV who) ++ ownerChecks s (kgOwner r.toNat) ++
      [(.range, keyFillBad s r.toNat), (.notReady, !keyStoreOn s || !trngServes s)])
  effect := fun s =>
    let d := drawKey s (kgKind r.toNat)
    (putKey d.2 (kgSlot r.toNat) (keyOf r.toNat d.1), [])

/-- KEY_GENERATE. -/
def execKeyGenerate (who : Who) (r : Rec 8) (s : State) : Out := .next (runOp (keyGenerateOp who r) s)

/-- The 64 bytes of material of an import, cut to the kind's length. -/
def importMat (r kind : Nat) : List Byte := (beBytes 64 (r % 256 ^ 64)).take (matBytes kind)

def keyImportOp (who : Who) (r : Rec 72) : DictOp where
  status := fun s =>
    let h := r.toNat / 256 ^ 64
    firstStatus (baseChecks s (isOV who) ++ ownerChecks s (kgOwner h) ++
      [(.range, keyFillBad s h || keyMatBad (kgKind h) (importMat r.toNat (kgKind h))), (.notReady, !keyStoreOn s)])
  effect := fun s =>
    let h := r.toNat / 256 ^ 64
    (putKey s (kgSlot h) (keyOf h (importMat r.toNat (kgKind h))), [])

/-- KEY_IMPORT. -/
def execKeyImport (who : Who) (r : Rec 72) (s : State) : Out := .next (runOp (keyImportOp who r) s)

def ktSlot (r : Nat) : Nat := r / 256 ^ 66 % 65536

def keyImportTOp (who : Who) (ten : Handle) (r : Rec 68) : DictOp where
  status := fun s =>
    let n := r.toNat
    let k := tget s.vault.slots (ktSlot n)
    firstStatus (baseChecks s (decide (who.role = .tenant) && decide (who.bound = ten)) ++ tenChecks s ten ++
      [(.range, decide (8191 < ktSlot n) || (match k with
          | none => true
          | some k => keyMatBad k.kind (importMat n k.kind))),
       (.access, match k with | some k => decide (k.owner ≠ ten) | none => false),
       (.notReady, !keyStoreOn s)])
  effect := fun s =>
    let n := r.toNat
    match tget s.vault.slots (ktSlot n) with
    | some k => (putKey s (ktSlot n) { k with mat := importMat n k.kind, lost := false }, [])
    | none => (s, [])

/-- KEY_IMPORT_T. -/
def execKeyImportT (who : Who) (ten : Handle) (r : Rec 68) (s : State) : Out := .next (runOp (keyImportTOp who ten r) s)

def keyDestroyOp (who : Who) (slot : Nat) : DictOp where
  status := fun s =>
    firstStatus (baseChecks s (isOV who) ++
      [(.range, decide (8191 < slot)),
       (.halted, match tget s.vault.slots slot with | some k => ownerHalted s k.owner | none => false),
       (.locked, keyNamed s slot),
       (.notReady, !keyStoreOn s)])
  effect := fun s =>
    match tget s.vault.slots slot with
    | none => (s, [])
    | some k =>
      ({ s with vault := { s.vault with
          slots := terase s.vault.slots slot
          sealedDirty := s.vault.sealedDirty || bitOf k.flags 0
          cached := s.vault.cached.filter (fun n => decide (n ≠ slot)) } }, [])

/-- KEY_DESTROY. -/
def execKeyDestroy (who : Who) (slot : U16) (s : State) : Out := .next (runOp (keyDestroyOp who slot.toNat) s)

/-- The persistent slots (R404). -/
def persistentSlots (s : State) : Tab KeySlot := tfilter s.vault.slots (fun _ k => bitOf k.flags 0)

/-- SEALED_STORE_WRITE: the sealed store follows a change of a persistent slot. -/
def execSealedStoreWrite (s : State) : Out :=
  .next (if s.vault.up ∧ s.vault.sealedDirty ∧ s.vault.erasing.isNone ∧ keyStoreOn s ∧ ¬ s.err.failStop then
      let n := match s.vault.sealed with | some x => x.1 + 1 | none => 1
      { s with vault := { s.vault with sealed := some (n, persistentSlots s), sealedDirty := false } }
    else s)

/-! ### Debug (R409, R410) -/

def debugChallengeOp (who : Who) : DictOp where
  status := fun s => firstStatus (baseChecks s (isOV who) ++ [(.notReady, !trngServes s)])
  effect := fun s =>
    let d := drawTrng s 256
    let n := beBytes 32 d.1
    ({ d.2 with vault := { d.2.vault with nonce := some (n, s.time.sec) } }, n)

/-- DEBUG_CHALLENGE: a fresh nonce at each read. -/
def execDebugChallenge (who : Who) (s : State) : Out := .next (runOp (debugChallengeOp who) s)

/-- A token of DEBUG_UNLOCK fits. -/
def unlockFits (s : State) (bs : List Byte) : Bool :=
  decide (bs.take 16 = sliceD Config.serial 0 16 0) && nonceFits s ((bs.drop 16).take 32)
    && tokenFits s 1 (bs.take 52) (bs.drop 52)

/-- In Blank the debug port is open without a token, in Scrapped it is closed for good (R402). -/
def debugTakes (s : State) : Bool := decide (1 ≤ s.vault.lcBoot) && decide (s.vault.lcBoot ≤ 3)

def debugUnlockOp (who : Who) (r : Rec 148) : DictOp where
  status := fun s =>
    firstStatus (baseChecks s (isO who) ++
      [(.access, !debugTakes s || !unlockFits s (beBytes 148 r.toNat)), (.busy, s.vault.erasing.isSome)])
  effect := fun s =>
    let sc := (recField 148 48 1 r.toNat) % 8
    (if s.vault.lcBoot = 2 then startErasure s (.openPorts sc)
     else { s with vault := { s.vault with scope := s.vault.scope ||| sc } }, [])
  retry := eraseRetry

/-- DEBUG_UNLOCK. -/
def execDebugUnlock (who : Who) (r : Rec 148) (s : State) : Out := .next (runOp (debugUnlockOp who r) s)

/-! ### Tamper inputs (R411) -/

/-- The action of an input in TAMPER_CONF. -/
def tamperAction (s : State) (i : Nat) : Nat := recField 4 (2 * i + 1) 1 (numD s (okey 0x2302 1) 0)

/-- The input reads active: its filtered level is the active level of TAMPER_CONF, 0 low, else high (R411). -/
def tamperActive (s : State) (i : Nat) (high : Bool) : Bool :=
  high == decide (recField 4 (2 * i) 1 (numD s (okey 0x2302 1) 0) ≠ 0)

/-- Consecutive active samples, the third and later ones counting no more. -/
def tamperRun (n : Nat) (active : Bool) : Nat := if active then min 3 (n + 1) else 0

/-- A tamper event of input `i`. -/
def tamperEvent (s : State) (i : Nat) : State :=
  let s1 : State := { s with vault := { s.vault with tamperLog := keep 4 ((i, s.clk.rtc) :: s.vault.tamperLog) } }
  let s2 := if s1.boot.glenUp then
      raise s1 { cls := 10, name := "TAMPER", unit := unitId 2 8 2 0xFFF, resource := i }
    else s1
  if tamperAction s i = 1 then
    if s2.vault.up then startErasure s2 (match s2.vault.erasing with | some a => a | none => .nothing)
    else { eraseKeys s2 with vault := { (eraseKeys s2).vault with tamperErase := true } }
  else s2

/-- TAMPER_SAMPLE: the levels of the inputs; one that is active on two samples in a row is an event. -/
def execTamperSample (high0 high1 : Bool) (s : State) : Out :=
  .next (if s.clk.vaon then
      let n0 := tamperRun s.vault.tamper0 (tamperActive s 0 high0)
      let n1 := tamperRun s.vault.tamper1 (tamperActive s 1 high1)
      let s1 : State := { s with vault := { s.vault with tamper0 := n0, tamper1 := n1 } }
      let s2 := if n0 = 2 then tamperEvent s1 0 else s1
      if n1 = 2 then tamperEvent s2 1 else s2
    else s)

def tamperLocked (s : State) : Bool := decide (numD s (okey 0x2302 3) 0 = 1)

def tamperLockOp (who : Who) (x : U8) : DictOp where
  status := fun s =>
    firstStatus (baseChecks s (isOV who) ++ [(.range, decide (1 < x.toNat)), (.access, tamperLocked s)])
  effect := fun s => (setNum s (okey 0x2302 3) x.toNat, [])

/-- TAMPER_LOCK. -/
def execTamperLockWrite (who : Who) (x : U8) (s : State) : Out := .next (runOp (tamperLockOp who x) s)

/-! ### Random numbers (R412) -/

/-- TRNG_FAILED: a health test fails; the third failure within 1 h takes the TRNG out of service. -/
def execTrngFailed (s : State) : Out :=
  .next (if s.vault.trng = 2 ∨ ¬ s.vault.up ∨ s.err.failStop then s
    else
      let fs := s.time.sec :: s.vault.trngFails.filter (fun t => decide (s.time.sec < t + 3600))
      let s1 : State := { s with vault := { s.vault with trng := 0, trngFails := fs } }
      let s2 := raise s1 { cls := 10, name := "TRNG_FAILED", unit := unitId 2 7 2 0xFFF, level := 1 }
      if 3 ≤ fs.length then vaultError s2 .vaultTrngThird else s2)

/-- TRNG_STARTUP_TEST_DONE: the restarted source is in service. -/
def execTrngStartupTestDone (s : State) : Out :=
  .next (if s.vault.trng = 0 then { s with vault := { s.vault with trng := 1 } } else s)

/-! ### VAULT_CMD (R415, R416) -/

/-- Bytes of a digest of R413. -/
def digestBytes (alg : Nat) : Nat := if alg % 3 = 1 then 32 else if alg % 3 = 2 then 48 else 64

/-- The digest of a range of memory; of a range with poisoned data a free value. -/
def hashRange (s : State) (alg addr len : Nat) : List Byte × State :=
  if poisoned s addr len then
    let d := drawFree s (256 ^ digestBytes alg)
    (beBytes (digestBytes alg) d.1, d.2)
  else (sliceD (Config.hash alg (readInt s addr len)) 0 (digestBytes alg) 0, s)

def vaultHashOp (who : Who) (alg addr len : Nat) : DictOp where
  status := fun s =>
    firstStatus (baseChecks s (isO who) ++
      [(.range, decide (alg < 1) || decide (6 < alg) || decide (len < 1) || decide (16777216 < len) || !inDdrHbm s addr len)])
  effect := fun s => ((hashRange s alg addr len).2, resultRec 0 (hashRange s alg addr len).1)

/-- HASH. -/
def execVaultHash (who : Who) (alg : U8) (addr : U64) (len : U32) (s : State) : Out :=
  .next (runOp (vaultHashOp who alg.toNat addr.toNat len.toNat) s)

/-- The slot's kind fits the algorithm: P-256, P-384, Ed25519. -/
def algKind (alg : Nat) : Nat := if alg = 1 then 3 else if alg = 2 then 4 else 5

/-- The conditions on a key slot of SIGN and ECDH. -/
def slotChecks (s : State) (alg slot : Nat) : List (Status × Bool) :=
  match tget s.vault.slots slot with
  | none => [(.range, true)]
  | some k => [(.range, decide (k.kind ≠ algKind alg) || k.lost), (.access, decide (k.owner ≠ 0))]

def slotMat (s : State) (slot : Nat) : List Byte := match tget s.vault.slots slot with | some k => k.mat | none => []

def signLenOk (alg n : Nat) : Bool :=
  if alg = 1 then decide (n = 32) else if alg = 2 then decide (n = 48) else decide (1 ≤ n) && decide (n ≤ 900)

def sigBytes (alg : Nat) : Nat := if alg = 2 then 96 else 64

def vaultSignOp (who : Who) (alg slot : Nat) (msg : List Byte) : DictOp where
  status := fun s =>
    firstStatus (baseChecks s (isO who) ++ slotChecks s alg slot ++
      [(.range, decide (alg < 1) || decide (3 < alg) || !signLenOk alg msg.length), (.notReady, !keyStoreOn s)])
  effect := fun s => (s, resultRec 0 (sliceD (Config.sign (slotMat s slot) msg 0) 0 (sigBytes alg) 0))

/-- SIGN. -/
def execVaultSign (who : Who) (alg : U8) (slot : U16) (msg : List Byte) (s : State) : Out :=
  .next (runOp (vaultSignOp who alg.toNat slot.toNat msg) s)

def vaultVerifyOp (who : Who) (alg : Nat) (ops : List Byte) : DictOp where
  status := fun s =>
    firstStatus (baseChecks s (isO who) ++ [(.range, decide (alg < 1) || decide (9 < alg) || !verifyLenOk alg ops.length)])
  effect := fun s => (s, resultRec (verifyResult alg ops) [])

/-- VERIFY. -/
def execVaultVerify (who : Who) (alg : U8) (operands : List Byte) (s : State) : Out :=
  .next (runOp (vaultVerifyOp who alg.toNat operands) s)

/-- The outcome of ECDH: code and shared x. -/
def ecdhResult (alg : Nat) (mat peer : List Byte) : Nat × List Byte :=
  let w := if alg = 2 then 48 else 32
  let c := pointResult alg (beNat (peer.take w)) (beNat (peer.drop w))
  if c ≠ 0 then (c, []) else (0, sliceD ((Config.ecdh mat peer).getD []) 0 w 0)

def vaultEcdhOp (who : Who) (alg slot : Nat) (peer : List Byte) : DictOp where
  status := fun s =>
    firstStatus (baseChecks s (isO who) ++ slotChecks s alg slot ++
      [(.range, decide (alg < 1) || decide (2 < alg) || decide (peer.length ≠ (if alg = 2 then 96 else 64))),
       (.notReady, !keyStoreOn s)])
  effect := fun s =>
    let r := ecdhResult alg (slotMat s slot) peer
    (s, resultRec r.1 r.2)

/-- ECDH. -/
def execVaultEcdh (who : Who) (alg : U8) (slot : U16) (peer : List Byte) (s : State) : Out :=
  .next (runOp (vaultEcdhOp who alg.toNat slot.toNat peer) s)

def vaultRandomOp (who : Who) (len : Nat) : DictOp where
  status := fun s =>
    firstStatus (baseChecks s (isO who) ++ [(.range, decide (len < 1) || decide (512 < len)), (.notReady, !trngServes s)])
  effect := fun s =>
    let d := drawTrng s (8 * len)
    (d.2, resultRec 0 (beBytes len d.1))

/-- RANDOM. -/
def execVaultRandom (who : Who) (len : U32) (s : State) : Out := .next (runOp (vaultRandomOp who len.toNat) s)

/-! ### Security associations (R418, R420) -/

/-- PORT_TENANCY of a network port 0-15. -/
def portTenancy (s : State) (p : Nat) : Handle :=
  BitVec.ofNat 32 (numD s (vkey (if p < 8 then .east else .west) 0x3001 p) 0)

/-- The fields of an association are out of range. -/
def saBad (s : State) (x : Sa) : Bool :=
  decide (x.kind < 1) || decide (4 < x.kind)
  || (match tget s.vault.slots x.keySlot with
      | some k => decide (k.kind ≠ 1) || decide (k.owner ≠ x.owner)
      | none => true)
  || (decide (3 ≤ x.kind) && decide (x.spi < 256))
  || (decide (x.kind ≤ 2) && decide (3 < x.an))
  || (decide (x.kind = 2) && (decide (15 < x.port) || (decide (x.owner ≠ 0) && decide (portTenancy s x.port ≠ x.owner))))
  || ((decide (x.kind = 2) || decide (x.kind = 4)) && decide (1024 < x.window))
  || ((decide (x.kind = 1) || decide (x.kind = 3)) && decide (x.pn = 0))

/-- The write lowers pn of a valid protect association. -/
def saLowers (old new : Sa) : Bool :=
  bitOf old.flags 0 && (decide (old.kind = 1) || decide (old.kind = 3)) && decide (new.pn < old.pn)

/-- Other valid kind-2 associations of a port. -/
def macSas (s : State) (a port : Nat) : Nat :=
  ((sasListed s).filter (fun p => decide (p.1 ≠ a) && bitOf (saOfRec p.2).flags 0 && decide ((saOfRec p.2).kind = 2)
    && decide ((saOfRec p.2).port = port))).length

/-- The record as it is taken (R10). -/
def saIn (r : Nat) : Nat := recClear 64 [(56, 8)] (recFlags 64 5 3 r)

def saWriteOp (who : Who) (a : Fin 16384) (r : Rec 64) : DictOp where
  status := fun s =>
    let x := saOfRec r.toNat
    firstStatus (baseChecks s (isO who) ++ ownerChecks s x.owner ++
      [(.range, (decide (saIn r.toNat ≠ 0) && saBad s x) || saLowers (saOf s a) x),
       (.noResource, bitOf x.flags 0 && decide (x.kind = 2) && decide (64 ≤ macSas s a x.port))])
  effect := fun s =>
    let s1 := setNum s (saKey a) (saIn r.toNat)
    ({ s1 with vault := { s1.vault with replay := terase s1.vault.replay a } }, [])

/-- SA. -/
def execSaWrite (who : Who) (a : Fin 16384) (r : Rec 64) (s : State) : Out := .next (runOp (saWriteOp who a r) s)

end Sys2Proof.Machine
end

