-- ==== Sys2Proof/Machine/Ladder.lean ====
section
/-! DEFINITION. The chip-wide ladder (R463-R467), power-up and the loss of VAON (R492, R493, R497). -/

namespace Sys2Proof.Machine

def setLadder (s : State) (x : Ladder) : State := { s with clk := { s.clk with ladder := x } }

/-- The last entry step of a target state (R465). -/
def lastStep (target : Nat) : Nat := if target = 1 then 1 else if target = 2 then 3 else if target = 3 then 5 else 6

/-- The conditions of R463. -/
def ladderMay (s : State) : Bool :=
  ladderRuns s && s.tens.isEmpty && [41, 42, 43, 44].all (fun d => decide ((domOf s d).st = 0))
    && (List.range 4).all (fun q => decide ((slotOf s q).st = .off))

def ladderRequestOp (who : Who) (x : Nat) : DictOp where
  status := fun s => firstStatus
    [(.access, !isO who), (.range, decide (x < 1) || decide (4 < x)), (.notReady, s.err.failStop || !ladderMay s)]
  effect := fun s => (setLadder s { s.clk.ladder with target := x, step := 1, wakes := 0, result := .ok }, [])

/-- LADDER_REQUEST: the write completes and entry begins (R463). -/
def execLadderRequest (who : Who) (x : U8) (s : State) : Out := .next (runOp (ladderRequestOp who x.toNat) s)

/-- The host link is in L1, or in L0 again. -/
def hostL1 (s : State) (l1 : Bool) : State :=
  if s.host.link = 0 then s else { s with host := { s.host with link := if l1 then 2 else 1 } }

/-- The sources that Deep Sleep disables, in a state. -/
def deepSources (s : State) (st : Nat) : State :=
  setSrc (setSrc (setSrc s .ref25 { st := st }) .sdsRef { st := st }) .rco20 { st := st }

/-- What an entry step has done when it ends (R465). -/
def ladderEntered (s : State) (n : Nat) : State :=
  if n = 2 then hostL1 s true
  else if n = 3 then setLadder s { s.clk.ladder with stopRtc := s.clk.rtc }
  else if n = 5 then deepSources s 0
  else if n = 6 then
    let k := match s.vault.sealed with | some x => x.1 + 1 | none => 1
    let s1 : State := if s.vault.sealedDirty then
        { s with vault := { s.vault with sealed := some (k, persistentSlots s), sealedDirty := false } } else s
    let s2 := resetWith s1 s1.err.resetCause
    let s3 := setLadder s2 { st := 4, target := 4, pwrEn := false, pwrWake := decide (s1.clk.ladder.wakes ≠ 0) }
    { s3 with boot := { s3.boot with rstLow := true } }
  else s

/-- The reversal of completed steps begins (R466). -/
def startReverse (s : State) (n : Nat) (result : Status) : State :=
  let s1 := setLadder s { s.clk.ladder with step := 0, reversing := n, result := result }
  if 5 ≤ n then deepSources s1 1 else s1

/-- LADDER_STEP_DONE: the step has reached its abort point. -/
def execLadderStepDone (s : State) : Out :=
  .next (let l := s.clk.ladder
    if l.step = 0 ∨ s.err.failStop then s
    else if l.step = 6 then ladderEntered s 6
    else
      let s1 := ladderEntered s l.step
      if l.wakes ≠ 0 then startReverse s1 l.step .ok
      else if l.step = lastStep l.target then setLadder s1 { s1.clk.ladder with st := l.target, step := 0 }
      else setLadder s1 { s1.clk.ladder with step := l.step + 1 })

/-- LADDER_STEP_LIMIT: the entry is abandoned (R465). -/
def execLadderStepLimit (s : State) : Out :=
  .next (if s.clk.ladder.step = 0 ∨ s.err.failStop then s else startReverse s (s.clk.ladder.step - 1) .timeout)

/-- Device time is advanced by the time elapsed on the RTC (R464); the part below a second is a free value. -/
def resumeTime (s : State) : State :=
  let d := drawFree s 1000000000
  raise (stepTime d.2 ((nowNs s + (s.clk.rtc - s.clk.ladder.stopRtc) * 1000000000 + d.1 : Nat) : Int) s.time.held)
    { cls := 12, name := "TIME_RESUMED", unit := powerUnit }

/-- LADDER_REVERSAL_DONE: the steps are reversed, and execution goes on; after step 5 once REF25 is qualified again. -/
def execLadderReversalDone (s : State) : Out :=
  .next (let l := s.clk.ladder
    if l.step ≠ 0 ∨ (l.reversing = 0 ∧ ¬ (1 ≤ l.wakes)) ∨ l.st = 4 ∨ (5 ≤ l.reversing ∧ ¬ srcReady s .ref25) then s
    else
      let s1 := hostL1 s false
      let s2 := if 3 ≤ l.reversing then resumeTime s1 else s1
      setLadder s2 { s2.clk.ladder with st := 0, target := 0, reversing := 0, wakes := 0, stopRtc := 0 })

/-- The code of a wake source (R467). -/
def wakeCode : WakeSource → Nat
  | .wakeN => 1
  | .rtcAlarm => 2
  | .tamper => 3
  | .perst => 4
  | .hostTlp => 5
  | .mgmtFrame => 6
  | .mctp => 7
  | .gpio => 8
  | .idien => 9

/-- The source wakes from a ladder state (R464). -/
def wakesFrom (st code : Nat) : Bool :=
  if st = 1 then true
  else if st = 2 then decide (code ≤ 4) || decide (6 ≤ code ∧ code ≤ 8)
  else if st = 3 then decide (code ≤ 4) else decide (code ≤ 2)

/-- The ladder state whose wake sources hold during an entry step. -/
def stepDepth (n : Nat) : Nat := if n ≤ 1 then 1 else if n ≤ 3 then 2 else if n ≤ 5 then 3 else 4

/-- The wake record is written: the lowest code of the sources pending, and the mask of all of them. -/
def recordWake (s : State) (code mask st step : Nat) (abandoned : Bool) : State :=
  { s with clk := { s.clk with wake := { src := code, state := st, step := step, abandoned := abandoned, mask := mask,
                                         rtc := s.clk.rtc } } }

/-- The RTC has gone on by a number of seconds that the model does not see. -/
def rtcElapsed (s : State) : State :=
  let d := drawFree s (2 ^ 32)
  { d.2 with clk := { d.2.clk with rtc := (d.2.clk.rtc + d.1) % 2 ^ 64 } }

/-- The ladder state whose wake sources hold now. -/
def wakeDepth (s : State) : Nat := if s.clk.ladder.step ≠ 0 then stepDepth s.clk.ladder.step else s.clk.ladder.st

/-- Wake sources arrive together (R464, R466): those that wake from this state are pending, the lowest code is the source. -/
def wakeBy (s : State) (codes : List Nat) : State :=
  let l := s.clk.ladder
  let fit := codes.filter (wakesFrom (wakeDepth s))
  let mask := fit.foldl (fun m c => m ||| 2 ^ c) 0
  match fit with
  | [] => s
  | c :: cs =>
    let code := cs.foldl min c
    if ¬ s.clk.vaon then s
    else if l.step ≠ 0 then
      if l.wakes ≠ 0 then s
      else setLadder (recordWake s code mask 0 l.step (decide (l.step ≤ 5))) { l with wakes := mask }
    else if l.st = 0 ∨ l.reversing ≠ 0 then s
    else if l.st = 4 then
      if l.pwrEn ∨ l.pwrWake then s else setLadder (recordWake s code mask 4 0 false) { l with pwrWake := true }
    else
      let s1 := if l.st = 1 then s else rtcElapsed s
      startReverse (recordWake s1 code mask l.st 0 false) (lastStep l.st) .ok

/-- WAKE: a source, with others that arrive in the same AON cycle. -/
def execWake (w : WakeCall) (s : State) : Out := .next (wakeBy s ((w.source :: w.others).map wakeCode))

/-- RTC_ALARM: the RTC reaches the alarm. -/
def execRtcAlarm (s : State) : Out :=
  .next (let a := numD s (okey 0x2101 5) 0
    if a = 0 ∨ ¬ s.clk.vaon ∨ a < s.clk.rtc then s
    else
      let s1 : State := { s with clk := { s.clk with rtc := a } }
      let l := s1.clk.ladder
      if l.step = 0 ∧ (l.st = 2 ∨ l.st = 3) ∧ l.reversing = 0 then
        startReverse (recordWake s1 2 4 l.st 0 false) (lastStep l.st) .ok
      else wakeBy s1 [2])

/-- BOARD_PWR_EN_RAISE (R466, R492): a wake from Off starts at power-up. -/
def execBoardPwrEnRaise (s : State) : Out :=
  .next (let l := s.clk.ladder
    if s.clk.vaon ∧ l.st = 4 ∧ ¬ l.pwrEn ∧ l.pwrWake then
      let s1 := chipReset (setLadder s { pwrEn := true }) 7
      { s1 with boot := { s1.boot with rstLow := true } }
    else s)

/-- POWER_UP (R492): VAON rises, the always-on region starts, LPO is ready, the rails come up; chip reset holds until RST_N
rises. -/
def execPowerUp (s : State) : Out :=
  .next (if s.clk.vaon then s
    else
      let s1 := loseAon s
      let s2 := chipReset { s1 with clk := { s1.clk with vaon := true, srcs := [(5, { st := 2 })], ladder := { pwrEn := true } } } 1
      { s2 with boot := { s2.boot with rstLow := true } })

/-- VAON_LOSS (R493): the always-on region resets, and the chip is without power. -/
def execVaonLoss (s : State) : Out :=
  .next (if s.clk.vaon then resetWith (loseAon s) 1 else s)

/-- RST_N (R481, R496, R497): low starts a chip reset in every ladder state but Off; its rise samples the straps. -/
def execRstN (high : Bool) (straps : Straps) (s : State) : Out :=
  .next (if ¬ s.clk.vaon ∨ ¬ s.clk.ladder.pwrEn then s
    else if high then
      if s.boot.rstLow then
        { s with boot := { s.boot with rstLow := false, mgmtSel := straps.mgmtSel, testMode := straps.testMode,
                                       goldLow := straps.goldLow } }
      else s
    else if s.boot.rstLow then s
    else
      let s1 := chipReset s 2
      { s1 with boot := { s1.boot with rstLow := true } })

end Sys2Proof.Machine
end

