-- ==== Sys2Proof/Machine/ErrRows.lean ====
section
/-! DEFINITION. The actions of the error tables: what an error does at its own level and, by R472 and R480, above it. -/

namespace Sys2Proof.Machine

/-! ### The packet path (R89) -/

/-- The region row of R89. -/
def valeLost (s : State) (v : Vale) (r : ErrRec) : State :=
  raise (valeOut s v) { cls := 2, name := "", unit := regionId (1 + valeNum v), level := 3, errSeq := r.seq }

/-- A packet is in the block of a Vale with this code (R474). -/
def inBlock (code : Nat) (p : Packet) : Bool :=
  match p.loc with
  | .mac => decide (150 ≤ code)
  | .basin => decide (code = 100) || decide (code = 102)
  | .thread | .relbuf => decide (code = 101)
  | .stage k => decide (code = 110 + k)
  | .extWait _ => decide (code = 130)
  | .policed | .exited => decide (code = 143)
  | .repl => decide (code = 142)
  | .crossWait | .crossing => decide (code = 103)
  | .flood _ | .spilling _ => decide (code = 141)
  | .queued _ | .atEnqueue => decide (code = 140)
  | .toHost _ | .toSaddle _ | .punt => false

/-- The block reset of R472: the packets in the block are dropped with reason 0x0D. -/
def blockReset (s : State) (v : Vale) (code : Nat) : State :=
  ((s.vale v).path.packets.filter (fun q => inBlock code q.2)).foldl (fun a q => dropHeld a v q.1 0x0D) s

def setStopped (s : State) (v : Vale) (x : Bool) : State := s.modPath v (fun y => { y with stopped := x })

/-- Every shaper and policer of a Vale takes its record anew at the next tick. -/
def reloadMeters (t : TmState) : TmState :=
  { t with
    deficits := []
    visits := []
    shapers := tmap t.shapers (fun _ x => { x with load := true })
    polices := tmap t.polices (fun _ x => { x with load := true }) }

/-- The region reset of a Vale (R480); intake resumes at its end. -/
def valeReset (s : State) (v : Vale) : State :=
  let s1 := setStopped s v true
  let s2 := (s1.vale v).path.packets.foldl (fun a q => dropHeld a v q.1 0x0D) s1
  let s3 := s2.modTm v reloadMeters
  match (s3.vale v).col.active with
  | some i => mapCores s3 v (fun c => if c.st = .active then startCoreAt s3 v c i else c)
  | none => s3

/-! ### Match stages (R176) -/

/-- An entry or template is marked bad. -/
def markBad (s : State) (v : Vale) (k : Nat) : State :=
  s.modVale v (fun x => { x with stage := { x.stage with
    bad := if x.stage.bad.contains k then x.stage.bad else x.stage.bad ++ [k] } })

def inStages (p : Packet) : Bool :=
  match p.loc with
  | .stage _ | .extWait _ => true
  | _ => false

/-- The region row of R176: a stage is reloaded. -/
def stageReload (s : State) (v : Vale) (r : ErrRec) : State :=
  raise (dropWhere (setStopped s v true) v (fun _ p => inStages p) 0x08)
    { cls := 3, name := "STAGE_RELOADED", unit := regionId (1 + valeNum v), level := 3, resource := r.resource, errSeq := r.seq }

/-! ### Table memories (R203) -/

/-- An entry with a double-bit error is deleted, and the packet whose lookup found it is dropped. -/
def rowLost (s : State) (v : Vale) (i pos : Nat) (dbe : Bool) (hit : Option Nat) (r : ErrRec) : State :=
  match partAt s v i with
  | none => s
  | some p =>
    let drop := fun a => match hit with | some q => dropHeld a v q 0x08 | none => a
    if dbe then
      drop (if (tget p.slots pos).isSome then
        raise (count (deleteEntry s v i pos) (vkey v 0x3637 3))
          { cls := 3, name := "TABLE_ENTRY_LOST", unit := valeBlock v 130, level := 1,
            resource := (handleOf s (partKind v) i).toNat, tenancy := p.owner, detail := pos, errSeq := r.seq }
        else s)
    else s

/-- The row of a position is remapped to a spare row. -/
def rowRemap (s : State) (v : Vale) (i pos : Nat) (dbe : Bool) (hit : Option Nat) (r : ErrRec) : State :=
  match partAt s v i with
  | none => s
  | some p =>
    let k := bankKey p.memory (posBank p pos)
    rowLost (s.modTable v (fun x => { x with rowsUsed := tmod x.rowsUsed k 0 (· + 1) })) v i pos dbe hit r

/-- The bank of a position has a spare row left: 16 in memories 1, 3 and 5 (R178). -/
def rowsLeft (s : State) (v : Vale) (p : Partition) (pos : Nat) : Bool :=
  (decide (p.memory = 1) || decide (p.memory = 3) || decide (p.memory = 5))
    && decide (tgetD (s.vale v).table.rowsUsed (bankKey p.memory (posBank p pos)) 0 < 16)

/-- A spare bank is substituted by migration. -/
def bankReplace (s : State) (v : Vale) (m b : Nat) (r : ErrRec) : State :=
  raise (s.modTable v (fun x => { x with spares := tmod x.spares m 0 (· + 1), replacing := x.replacing ++ [bankKey m b] }))
    { cls := 3, name := "TABLE_BANK_REPLACED", unit := valeBlock v 130, level := 2, detail := bankKey m b, errSeq := r.seq }

/-- Entries that occupy a learn slot (R196). -/
def learnedOf (x : TableState) (slot : Nat) : Nat :=
  x.parts.foldl (fun n p => if p.2.memory = 3 then n + (p.2.slots.filter (fun e => decide (e.2.slot = slot))).length else n) 0

/-- The table-engine reset. -/
def engineReset (s : State) (v : Vale) (r : ErrRec) : State :=
  let s1 := s.modTable v (fun x =>
    { x with
      rings := tmap x.rings (fun _ g => if g.en then { g with halted := true, reason := 4 } else g)
      locks := []
      parts := tmap x.parts (fun _ p => { p with slots := tmap p.slots (fun _ e => { e with lock := none }) })
      learnQ := []
      stopped := true })
  let s2 := (List.range 17).foldl (fun a k => setNum a (learnKey v 0x3632 k) (learnedOf (a.vale v).table k)) s1
  raise s2 { cls := 3, name := "TABLE_ENGINE_RESET", unit := valeBlock v 130, level := 3, errSeq := r.seq }

/-- The rebuild of the masked associative partitions. -/
def tcamRebuild (s : State) (v : Vale) (r : ErrRec) : State :=
  raise (setStopped s v true) { cls := 3, name := "TCAM_REBUILT", unit := valeBlock v 131, level := 3, errSeq := r.seq }

/-! ### The traffic manager (R227) -/

/-- The region row of R227. -/
def tmRebuild (s : State) (v : Vale) (r : ErrRec) : State :=
  let s1 := dropWhere ((setStopped s v true).modTm v (fun t => { t with stopped := true })) v (fun _ p => (locQueue p.loc).isSome) 0x0D
  raise (s1.modTm v (fun t => { t with deficits := [], visits := [], shapers := tmap t.shapers (fun _ x => { x with load := true }) }))
    { cls := 4, name := "TM_RESET", unit := valeBlock v 140, level := 3, errSeq := r.seq }

/-- A queue's context is lost. -/
def queueLost (s : State) (v : Vale) (q : Nat) (r : ErrRec) : State :=
  let s1 := settleAll (dropWhere s v (fun _ p => decide (locQueue p.loc = some q)) 0x0D) v
  let s2 := s1.modTm v (fun t =>
    { t with
      queues := tmod t.queues q {} (fun x => { x with spilling := false })
      deficits := terase t.deficits (elemId 5 q) })
  raise s2 { cls := 4, name := "TM_QUEUE_FLUSHED", unit := valeBlock v 140, level := 1,
             resource := (handleOf s (queueKind v) q).toNat, tenancy := (ownerOf s (queueKind v) q).getD 0, errSeq := r.seq }

def shaperLost (s : State) (v : Vale) (i : Nat) (r : ErrRec) : State :=
  raise (count (s.modTm v (fun t => { t with shapers := tmod t.shapers i {} (fun x => { x with load := true }) })) (vkey v 0x4002 5))
    { cls := 4, name := "TM_SHAPER_RESET", unit := valeBlock v 140, level := 1,
      resource := (handleOf s (shaperKind v) i).toNat, tenancy := (ownerOf s (shaperKind v) i).getD 0, errSeq := r.seq }

/-- The Floodplain part of a queue is discarded. -/
def floodLost (s : State) (v : Vale) (q : Nat) (r : ErrRec) : State :=
  let inPart := fun (p : Packet) => match p.loc with
    | .flood k | .spilling k => decide (k = q)
    | _ => false
  let s1 := (settleAll (dropWhere s v (fun _ p => inPart p) 0x0D) v).modTm v (fun t =>
    { t with queues := tmod t.queues q {} (fun x => { x with flood := [], spilling := false }) })
  raise s1 { cls := 4, name := "FLOOD_PART_LOST", unit := valeBlock v 141, level := 2,
             resource := (handleOf s (queueKind v) q).toNat, tenancy := (ownerOf s (queueKind v) q).getD 0, errSeq := r.seq }

/-! ### Policers, gates, replication (R247) -/

def policerLost (s : State) (v : Vale) (p : Nat) (r : ErrRec) : State :=
  raise (s.modTm v (fun t => { t with polices := tmod t.polices p {} (fun x => { x with load := true }) }))
    { cls := 4, name := "POLICER_RESET", unit := valeBlock v 143, level := 1, resource := (handleOf s (policerKind v) p).toNat,
      tenancy := (ownerOf s (policerKind v) p).getD 0, errSeq := r.seq }

/-- A port's gate list is disabled until the next GATE_APPLY. -/
def gateLost (s : State) (v : Vale) (n : Nat) (r : ErrRec) : State :=
  let g := gateOf s v n
  let off : Gate := { act := { g.act with enable := false }, pos := 0, next := none }
  raise (s.modTm v (fun t => { t with gates := tset t.gates n off }))
    { cls := 4, name := "GATE_LIST_LOST", unit := valeBlock v 143, level := 2, resource := n, errSeq := r.seq }

def memberLost (s : State) (v : Vale) (g m : Nat) (r : ErrRec) : State :=
  let x := groupOf s v g
  raise (setGroup s v g { x with bad := if x.bad.contains m then x.bad else x.bad ++ [m] })
    { cls := 4, name := "REPL_MEMBER_BAD", unit := valeBlock v 142, level := 1, resource := (handleOf s (groupKind v) g).toNat,
      tenancy := (ownerOf s (groupKind v) g).getD 0, detail := m, errSeq := r.seq }

/-! ### Saddle ports (R278) -/

/-- A corrupt line of a port's page-entry cache, which one a free value, is dropped. -/
def cacheLineLost (s : State) (p : Nat) : State :=
  let lines := (sportOf s p).cache.flatMap (fun w => w.2.map (fun e => e.1))
  let d := drawFree s (max 1 lines.length)
  let a := lines[d.1]?
  modSport (count d.2 (okey 0x6825 4)) p (fun x =>
    { x with cache := tmap x.cache (fun _ w => w.filter (fun e => decide (some e.1 ≠ a))) })

/-- A poisoned request of a region: counted as a fault; its code, PASID and address are free values. -/
def poisonedRequest (s : State) (r : Fin 64) (addr : U64) : State :=
  match regionOf s r with
  | none => s
  | some x =>
    let a := drawFree (rootAer s (rgPort x.conf) 12) 256
    let pasid := match shellOf s x with | some h => if h.pasidEn then h.pasid.toNat else 0 | none => 0
    faultCount a.2 r a.1 1 pasid addr.toNat

def windowLost (s : State) (owner : Handle) (w : Nat) (r : ErrRec) : State :=
  let k := windowKey owner w
  raise { s with saddle := { s.saddle with badWindows := if s.saddle.badWindows.contains k then s.saddle.badWindows else s.saddle.badWindows ++ [k] } }
    { cls := 5, name := "SADDLE_WINDOW_LOST", unit := unitId 2 4 12 0xFFF, level := 2, resource := w, tenancy := owner, errSeq := r.seq }

/-! ### The host region (R303) -/

def hostWindowLost (s : State) (i : Nat) (r : ErrRec) : State :=
  raise { s with host := { s.host with badWin := if s.host.badWin.contains i then s.host.badWin else s.host.badWin ++ [i] } }
    { cls := 6, name := "HOST_WINDOW_LOST", unit := unitId 2 3 1 0xFFF, level := 1, resource := i, tenancy := fnOwner s (winFn (winOf s i)),
      errSeq := r.seq }

/-- The region row of R303: the link goes down, and R297 for every function. -/
def hostRegionReset (s : State) (r : ErrRec) : State :=
  raise (if s.host.link = 0 then resetAllFns s else linkDown s false)
    { cls := 6, name := "HOST_REGION_RESET", unit := regionId 3, level := 3, errSeq := r.seq }

/-- A single-bit error of a host-region memory: its count, and AER in PF0 (R302). -/
def hostCorrected (s : State) (k : Nat) : State := aerCor (count s k) 0 14

/-! ### The queue engine (R328) -/

/-- A cached descriptor, which one a free value, is dropped and fetched again. -/
def cachedLost (s : State) (i : Nat) : State :=
  match ctxOf s i with
  | none => s
  | some q =>
    if q.cache = [] then s
    else
      let d := drawFree (count s (okey 0x5801 3)) q.cache.length
      askFetch (setCtx d.2 i { q with cache := q.cache.eraseIdx d.1 }) i

/-- A started descriptor ends with ERROR; without room in its completion ring it is marked, and ends so later (R322, R328). -/
def startedLost (s : State) (i pos : Nat) : State :=
  match ctxOf s i with
  | none => s
  | some q =>
    match q.started.find? (fun x => decide (x.pos = pos)) with
    | none => s
    | some x =>
      let y : Started := { x with lost := true }
      let s1 := count s (okey 0x5801 4)
      (endDesc (loseTail s1 q x) i y { pos := pos }).getD
        (setCtx (loseTail s1 q x) i { q with started := q.started.map (fun z => if z.pos = pos then y else z) })

/-- A queue's context is lost: the queue is Halted, its function halts with reason 1. -/
def contextLost (s : State) (i : Nat) (r : ErrRec) : State :=
  match ctxOf s i with
  | none => s
  | some q =>
    let s1 := haltFn (haltQueues (setCtx s i { q with st := .halted }) q.fn) q.fn 1 r.seq
    raise s1 { cls := 6, name := "QE_CONTEXT_LOST", unit := unitId 2 3 2 0xFFF, level := 2, resource := i,
               tenancy := fnOwner s q.fn, errSeq := r.seq }

/-! ### The dirty-page log (R368) -/

/-- The bitmap word of a range is written as all ones. -/
def dplWordLost (s : State) (t k word : Nat) (r : ErrRec) : State :=
  match tget (migOf s t).ranges k with
  | some x =>
    if word < dplWords x.pages then
      raise (writeInt s (x.bitmap + 8 * word) (List.replicate 8 0xFF#8))
        { cls := 8, name := "DPL_WORD_LOST", unit := unitId 2 3 5 0xFFF, level := 1, resource := k, tenancy := handleOf s 1 t,
          detail := word, errSeq := r.seq }
    else s
  | none => s

def dplLost (s : State) (r : ErrRec) : State :=
  raise { s with mig := tmap s.mig (fun _ m => if m.on then { m with incomplete := true } else m) }
    { cls := 8, name := "DPL_LOST", unit := unitId 2 3 5 0xFFF, level := 2, errSeq := r.seq }

/-! ### Memory (R392, R399) -/

/-- The words of a range read as poisoned until they are rewritten. -/
def poisonWords (s : State) (a n : Nat) : State :=
  let ws := (List.range n).map (fun i => a / 8 * 8 + 8 * i)
  { s with ctl := { s.ctl with poison := ws.foldl (fun p w => if p.contains w then p else p ++ [w]) s.ctl.poison } }

/-- The stack of an HBM address. -/
def hbmStack (a : Nat) : Nat := if a < hbmBase 1 then 0 else 1

/-- The DDR5 channel of an address: 256-byte units over the channels in use (R387). -/
def ddrChannel (s : State) (a : Nat) : Nat :=
  let used := (List.range 4).filter (fun c => decide (s.ctl.ddr.getD c 0 = 1))
  used.getD ((a - ddrBase) / 256 % max 1 used.length) 0

def rowRepaired (s : State) (hbm : Bool) (a : Nat) (r : ErrRec) : State :=
  if hbm then
    (let k := hbmStack a
     let c := carveOf s k
     raise (setCarve s k { c with repaired := (c.repaired + 1) % 65536 })
       { cls := 9, name := "HBM_ROW_REPAIRED", unit := unitId 2 5 (4 + k) 0xFFF, level := 1, detail := a, errSeq := r.seq })
  else
    raise s { cls := 9, name := "DDR_ROW_REPAIRED", unit := unitId 2 5 (ddrChannel s a) 0xFFF, level := 1, detail := a, errSeq := r.seq }

/-- Extension entries of a partition in dead frames are deleted and counted. -/
def extLost (v : Vale) (s : State) (ip : Nat × Partition) : State :=
  (ip.2.slots.filter (fun e => decide (ip.2.capacity ≤ e.1)
    && extUnitDead s v (ip.2.extUnits.getD ((e.1 - ip.2.capacity) / 65536) 0))).foldl
    (fun a e => count (deleteEntry a v ip.1 e.1) (vkey v 0x3637 3)) s

/-- Bank set `k` of a stack is retired (R392). -/
def retireSet (s : State) (stack k : Nat) (r : ErrRec) : State :=
  let v : Vale := if stack = 0 then .east else .west
  let x := retiredSets s stack ||| 2 ^ k
  let both := if stack = 0 then beBytes 6 x ++ beBytes 6 (retiredSets s 1) else beBytes 6 (retiredSets s 0) ++ beBytes 6 x
  let s1 := setOct s (okey 0x7030 5) both
  let gone := fun (p : Packet) => match p.loc with
    | .flood _ => spanRetired s1 (hbmBase stack + floodOffset s1 v + p.floodAddr * 256) p.bytes.length
    | _ => false
  let s2 := dropWhere s1 v (fun _ p => gone p) 0x0D
  let s3 := (s2.vale v).table.parts.foldl (extLost v) s2
  let s4 := (s3.nv.cmds.filter (fun m => decide (m.2.len ≠ 0) && spanRetired s3 m.2.buffer m.2.len)).foldl
    (fun a m => nvFinish a m.1 nvInternal 0) s3
  raise s4 { cls := 9, name := "HBM_BANK_RETIRED", unit := unitId 2 5 (4 + stack) 0xFFF, level := 3, resource := k, errSeq := r.seq }

/-! ### Control (R399) -/

/-- Every hart of a list stops. -/
def stopHarts (s : State) (hs : List Nat) : State :=
  hs.foldl (fun a h => setHart a h { hartOf a h with run := false, stopped := true }) s

/-- A quad's harts stop and it waits for its test. -/
def quadFaults (s : State) (q : Nat) (r : ErrRec) : State :=
  let s1 := stopHarts s (quadHarts q)
  let s2 := if s1.ctl.quadTest.isNone then startQuadTest s1 q
    else { s1 with ctl := { s1.ctl with quadQueue := if s1.ctl.quadQueue.contains q then s1.ctl.quadQueue else s1.ctl.quadQueue ++ [q] } }
  raise s2 { cls := 9, name := "STEPPE_QUAD_FAULT", unit := unitId 2 6 q 0xFFF, level := 2, errSeq := r.seq }

/-- Glen restarts: every session ends, queued requests are discarded, an install is abandoned (R399, R438). -/
def glenStops (s : State) : State :=
  { s with
    boot := { s.boot with glenUp := false, inst := .idle }
    idien := { s.idien with
      sessions := [], conns := [], qO := [], qH := [], qT := [], qV := [], qU := [], served := 0
      pf0 := { s.idien.pf0 with held := [] } } }

/-- Glen runs again. -/
def glenBack (s : State) (r : ErrRec) : State :=
  raise { s with boot := { s.boot with glenUp := true } }
    { cls := 9, name := "GLEN_RESTARTED", unit := unitId 2 6 6 0xFFF, level := r.level, errSeq := r.seq }

/-! ### Clocks (R452) -/

/-- A block has no usable clock: its cell is held until RCO20 delivers one. -/
def noClock (s : State) (d : Nat) : State :=
  let c := s.clk
  let s1 : State := { s with clk := { c with
    monTrip := c.monTrip.filter (fun x => decide (x ≠ d))
    heldCells := if c.heldCells.contains d then c.heldCells else c.heldCells ++ [d] } }
  match domVale d with
  | some v => dropPartialFrames s1 v
  | none => s1

/-- The region of a power domain. -/
def domRegion (d : Nat) : Nat :=
  if d = 0 then 8 else if d = 1 then 7 else if d ≤ 8 then 6
  else match domVale d with
    | some v => 1 + valeNum v
    | none => if d = 29 then 3 else if d ≤ 37 then 4 else if d ≤ 40 then 5 else if d ≤ 42 then 1 else 2

/-! ### Region resets (R480) -/

def regionReset (s : State) (reg : Nat) (r : ErrRec) : State :=
  if reg = 1 then valeReset s .east else if reg = 2 then valeReset s .west
  else if reg = 3 then hostRegionReset s r
  else if reg = 4 then resetAllPorts s
  else if reg = 6 then glenStops (stopHarts s (List.range 24))
  else enterFailStop r s

/-! ### The actions by level -/

/-- A frame that is being transmitted ends with an inverted FCS (R89). -/
def txInverted (s : State) (v : Vale) (i : Nat) : State :=
  s.modPath v (fun x => { x with txFrames := x.txFrames.map (fun f =>
    if f.pkt = i then
      { f with bytes := f.bytes.take (f.bytes.length - 4) ++ (f.bytes.drop (f.bytes.length - 4)).map (fun b => ~~~ b) }
    else f) })

/-- Actions of the cell level. -/
def cellAct (k : ErrKind) (r : ErrRec) (s : State) : State :=
  match k with
  | .basinDbe v i => dropHeld s v i 0x0D
  | .basinDbeTx v i => txInverted (count s (vkey v 0x3004 0x0D)) v i
  | .colParity v n t =>
    let x := threadOf (coreAt s v n) t
    let again := match x.parity with | some p => decide (tickNs s < p + 1000000000) | none => false
    let s1 := if t.val = 0 ∨ x.pkt.isSome then colFault s ⟨v, n, t⟩ .parity 0 else s
    afterShare s1 (modThr s1 ⟨v, n, t⟩ (fun y =>
      { y with parity := some (tickNs s), off := y.off || (again && decide (t.val ≠ 0)) })) v
  | .stageActionDbe v k e =>
    raise (markBad s v (k * 1024 + e)) { cls := 3, name := "STAGE_ENTRY_BAD", unit := valeBlock v (110 + k), level := 1, resource := e, errSeq := r.seq }
  | .stageTemplateDbe v t =>
    raise (markBad s v (12288 + t)) { cls := 3, name := "STAGE_ENTRY_BAD", unit := valeBlock v 110, level := 1, resource := t, detail := 1, errSeq := r.seq }
  | .stageParity v i =>
    match pktAt s v i with
    | some p => if inStages p then count (dropPkt s v i 0x08) (vkey v 0x3070 11) else s
    | none => s
  | .tableRow v p pos dbe hit => rowRemap s v p pos dbe hit r
  | .tmQueueDbe v q => if (ownerOf s (queueKind v) q).isSome then queueLost s v q r else s
  | .tmShaperDbe v i => if (ownerOf s (shaperKind v) i).isSome then shaperLost s v i r else s
  | .floodPacket v i =>
    match pktAt s v i with
    | some p => (match p.loc with
      | .flood _ => count (dropPkt s v i 0x0D) (vkey v 0x4002 4)
      | _ => s)
    | none => s
  | .policerDbe v p => if (ownerOf s (policerKind v) p).isSome then policerLost s v p r else s
  | .gateEntryDbe v => count s (vkey v 0x4640 3)
  | .replMemberDbe v g m => if m < (groupOf s v g).active.length then memberLost s v g m r else s
  | .saddlePoisoned p a => poisonedRequest s p a
  | .saddleCacheLine p => cacheLineLost s p
  | .hostWindowDbe i => if i < 4096 then hostWindowLost s i r else s
  | .hostMsixDbe f vec => if fnExists s f ∧ vec < msixSize s f then msixLost s f vec else s
  | .qeDescDbe i => cachedLost s i
  | .qeStartedDbe i pos => startedLost s i pos
  | .storBuffer _ tag => if (tget s.nv.cmds tag).isSome then nvFinish (count s (okey 0x6040 8)) tag nvInternal 0 else s
  | .dplWord t k w => dplWordLost s t k w r
  | .memDbe a rep =>
    if inDdrHbm s a 8 then
      let s1 := count (poisonWords s a 1) (okey 0x7040 2)
      if rep then rowRepaired s1 (inHbm a 1) a r else s1
    else s
  | .memRow hbm a => if (if hbm then inHbm a 1 else inDdr s a 1) then rowRepaired s hbm a r else s
  | .scacheLine a =>
    if inDdrHbm s (a / 64 * 64) 64 then
      raise (poisonWords s (a / 64 * 64) 8) { cls := 9, name := "SCACHE_LINE_LOST", unit := unitId 2 5 6 0xFFF, level := 1, detail := a, errSeq := r.seq }
    else s
  | _ => s

/-- A function halts with HALT_REASON 1: the block row of R303 for a cell of its tables. -/
def haltBy (s : State) (f : Nat) (r : ErrRec) : State := haltFn (haltQueues s f) f 1 r.seq

/-- A DDR5 page stays in use with a row that has failed (R399). -/
def pageBad (s : State) (a : Nat) (r : ErrRec) : State :=
  raise s { cls := 9, name := "DDR_PAGE_BAD", unit := unitId 2 5 (ddrChannel s a) 0xFFF, level := 2, detail := a / 4096 * 4096, errSeq := r.seq }

/-- The block level of a memory: the DDR5 row of R399, or the block reset of an HBM stack, whose packets are those of its
Vale's Floodplain (R472). -/
def memBlock (s : State) (a : Nat) (r : ErrRec) : State :=
  if inHbm a 1 then blockReset s (if hbmStack a = 0 then .east else .west) 141 else pageBad s a r

/-- Actions of the block level: the rows, and the block reset of R472 for cells whose chapter gives no row. -/
def blockAct (k : ErrKind) (r : ErrRec) (s : State) : State :=
  match k with
  | .basinDbe v _ => blockReset s v 100
  | .basinDbeTx v _ => blockReset s v 100
  | .colParity v n _ => coreAct v n k 2 r s
  | .colDbe v n => coreAct v n k 2 r s
  | .colSupervisor v n _ => coreAct v n k 2 r s
  | .stageActionDbe v j _ => blockReset s v (110 + j)
  | .stageTemplateDbe v _ => blockReset s v 110
  | .stageParity v _ => blockReset s v 110
  | .tableRow v p pos dbe hit =>
    match partAt s v p with
    | some x =>
      let s1 := rowLost s v p pos dbe hit r
      if sparesLeft (s.vale v).table x.memory = 0 then s1 else bankReplace s1 v x.memory (posBank x pos) r
    | none => s
  | .tableBank v m b => if sparesLeft (s.vale v).table m = 0 then s else bankReplace s v m b r
  | .tmQueueDbe v _ => blockReset s v 140
  | .tmShaperDbe v _ => blockReset s v 140
  | .floodPacket v _ => blockReset s v 141
  | .floodLinks v q => if (ownerOf s (queueKind v) q).isSome then floodLost s v q r else s
  | .policerDbe v _ => blockReset s v 143
  | .gateEntryDbe v => blockReset s v 143
  | .gateEntryBoth v n => gateLost s v n r
  | .replMemberDbe v _ _ => blockReset s v 142
  | .saddleFaultLimit x =>
    match regionOf s x with
    | some y => isoErrAct (if r.cause = 3 then "SADDLE_ISO_TIMEOUT" else "SADDLE_REGION_ISOLATED") x y k 2 r (forceIsolate s x)
    | none => s
  | .saddlePoisoned x _ =>
    match regionOf s x with
    | some y => if rgPort y.conf < 8 then portErrAct ⟨rgPort y.conf % 8, Nat.mod_lt _ (by decide)⟩ k 2 r s else s
    | none => s
  | .saddleCacheLine p => portErrAct p k 2 r s
  | .saddlePort p => portErrAct p k 2 r s
  | .saddleWindow o w => windowLost s o w r
  | .hostFunction f reason => haltFn (haltQueues s f) f reason r.seq
  | .qeDescDbe i | .qeStartedDbe i _ => contextLost s i r
  | .hostWindowDbe i => if i < 4096 then haltBy (hostWindowLost s i r) (winFn (winOf s i)) r else s
  | .hostMsixDbe f vec => if fnExists s f ∧ vec < msixSize s f then haltBy (msixLost s f vec) f r else s
  | .qeContextDbe i =>
    if r.cause = 1 then contextLost s i r
    else match ctxOf s i with
      | some q => qeFaultAct i q.fn (if r.cause = 3 then 4 else 1) k 2 r s
      | none => s
  | .storController c =>
    match nvCtrl s c with
    | some x =>
      if r.resource = c then storAct "NVME_CTRL_FATAL" c x.owner k 2 r (setNv s c { x with cfs := true })
      else storAct "NVME_QUEUE_FROZEN" r.resource x.owner k 2 r s
    | none => s
  | .storBuffer c _ =>
    match nvCtrl s c with
    | some x => storAct "NVME_CTRL_FATAL" c x.owner k 2 r (setNv s c { x with cfs := true })
    | none => s
  | .memDbe a _ => memBlock (if inDdrHbm s a 8 then count (poisonWords s a 1) (okey 0x7040 2) else s) a r
  | .memRow _ a => memBlock s a r
  | .scacheLine a => if inDdrHbm s (a / 64 * 64) 64 then poisonWords s (a / 64 * 64) 8 else s
  | .dplWord _ _ _ => dplLost s r
  | .dplCache => dplLost s r
  | .ddrRowNoRepair a => pageBad s a r
  | .quadFault q => quadFaults s q r
  | .glenFault => glenStops s
  | .vaultTrngThird | .vaultKeyStore | .vaultSealedBoth => vaultAct k 2 r s
  | .blockNoClock d => noClock s d
  | _ => s

/-- Actions of the region level (R472): the region rows, or the region reset of R480. -/
def regionAct (k : ErrKind) (r : ErrRec) (s : State) : State :=
  match k with
  | .basinLists v | .narrowsTokens v => valeLost s v r
  | .colParity v n _ => if r.cause = 9 then coreRegionAct v k 3 r s else coreAct v n k 3 r s
  | .colDbe v n => if r.cause = 9 then coreRegionAct v k 3 r s else coreAct v n k 3 r s
  | .colSupervisor v n _ => if r.cause = 9 then coreRegionAct v k 3 r s else coreAct v n k 3 r s
  | .stageActionDbe v _ _ | .stageTemplateDbe v _ | .stageParity v _ | .stageSequencing v _ => stageReload s v r
  | .tableRow v p pos dbe hit =>
    match partAt s v p with
    | some x => killBank (rowLost s v p pos dbe hit r) v x.memory (posBank x pos) 3 r.seq
    | none => s
  | .tableBank v m b => killBank s v m b 3 r.seq
  | .tableEngine v => engineReset s v r
  | .sortManager v => tcamRebuild s v r
  | .tmQueueDbe v _ | .tmShaperDbe v _ | .floodPacket v _ | .floodLinks v _ | .tmScheduler v => tmRebuild s v r
  | .basinDbe v _ | .basinDbeTx v _ => valeLost s v r
  | .policerDbe v _ | .gateEntryDbe v | .gateEntryBoth v _ | .replMemberDbe v _ _ => valeReset s v
  | .timeCounter => timeAct k 3 r s
  | .saddleFaultLimit x | .saddlePoisoned x _ =>
    match regionOf s x with
    | some y => slotFailAct (rgSlot y.conf) k 3 r s
    | none => s
  | .saddleCacheLine p | .saddlePort p => portErrAct p k 3 r s
  | .saddleSlot q => slotFailAct q k 3 r (isolateAll s q)
  | .saddleWindow _ _ | .saddleGate => resetAllPorts s
  | .hostWindowDbe _ | .hostMsixDbe _ _ | .hostFunction _ _ | .hostController => hostRegionReset s r
  | .dplWord _ _ _ | .dplCache => hostRegionReset s r
  | .qeDescDbe _ | .qeStartedDbe _ _ | .qeContextDbe _ | .qeScheduler => qeRegionAct r s
  | .storBuffer _ _ | .storController _ | .storTable => storRegionAct r s
  | .hbmRowNoRepair k f => retireSet s k (f % 48) r
  | .quadFault q => retireQuad s q 3 r.seq
  | .glenFault => regionReset s 6 r
  | .pllFailed p => pllAct p k 3 r s
  | .blockNoClock d => regionReset s (domRegion d) r
  | _ => enterFailStop r s

/-- Actions of the chip level. -/
def chipAct (k : ErrKind) (r : ErrRec) (s : State) : State :=
  match k with
  | .telemetryBad => powerAct "VR_TELEMETRY_BAD" k 4 r s
  | .bootDigest => digestExclude s
  | _ => enterFailStop r s

/-- What an error does at a handler of a level; in fail-stop it is recorded only (R472). -/
def errAct (k : ErrKind) (l : Nat) (r : ErrRec) (s : State) : State :=
  if s.err.failStop then (if l = 4 then aonChip r s else s)
  else if l = 4 then chipAct k r s
  else if l = 3 then regionAct k r s
  else if l = 2 then blockAct k r s
  else cellAct k r s

end Sys2Proof.Machine
end

