-- ==== Sys2Proof/Machine/Errors.lean ====
section
/-! DEFINITION. The commands of chapter 19: errors at their handlers, the Glen watchdog, chip reset, the logs, in-field tests
of lanes and Saddle ports. -/

namespace Sys2Proof.Machine

/-! ### ERROR_ARRIVAL (R470-R472, R483) -/

/-- The rows whose result is "Corrected" with only a count: they use no handler (R470). -/
def corrected (s : State) (k : ErrKind) : Option State :=
  match k with
  | .basinSbe v => some (s.modPath v (fun x => { x with corrected := x.corrected + 1 }))
  | .colSbe v n dmem a =>
    some (pushNote (count s (vkey v 0x3010 6)) v n (noteWords 4 0 (if dmem then 2 else 1) 0 {} a))
  | .stageSbe v => some (count s (vkey v 0x3070 10))
  | .tableSbe v _ _ => some (count s (vkey v 0x3637 1))
  | .tmSbe v => some (count s (vkey v 0x4002 5))
  | .pgrSbe v => some (count s (vkey v 0x4640 3))
  | .saddleLane p => some (modSport s p (fun x => { x with corrected := (x.corrected + 1) % 2 ^ 64, aerCor := x.aerCor ||| 1#32 }))
  | .hostSbe => some (hostCorrected s (okey 0x5030 4))
  | .qeSbe => some (hostCorrected s (okey 0x5801 3))
  | .storSbe => some (hostCorrected s (okey 0x6040 7))
  | .dplSbe => some (hostCorrected s (okey 0x5030 4))
  | .memSbe => some (count s (okey 0x7040 1))
  | .vaultSbe | .vaultKeyCache | .vaultSealedOne => some (count s (okey 0x2360 3))
  | _ => none

/-- The action code of R475. -/
def errCode (k : ErrKind) (l : Nat) : Nat :=
  if l = 4 then (match k with | .telemetryBad => 1 | .bootDigest => 2 | _ => 6)
  else if l = 3 then (match k with
    | .colParity _ _ _ | .colDbe _ _ | .colSupervisor _ _ _ | .tableRow _ _ _ _ _ | .tableBank _ _ _ | .saddleCacheLine _ | .saddlePort _
    | .saddleFaultLimit _ | .saddlePoisoned _ _ | .saddleSlot _ | .quadFault _ | .hbmRowNoRepair _ _ | .pllFailed _ => 3
    | .timeCounter => 1
    | _ => 5)
  else if l = 2 then (match k with
    | .colParity _ _ _ | .colDbe _ _ | .colSupervisor _ _ _ | .glenFault | .saddlePort _ | .saddleCacheLine _ | .saddlePoisoned _ _
    | .quadFault _ => 2
    | .tableRow _ _ _ _ _ | .tableBank _ _ _ => 3
    | _ => 1)
  else 1

/-- The description of an error of a block. -/
def errOf (k : ErrKind) (region block cause : Nat) : ErrDesc :=
  { kind := k, region := region, block := block, cause := cause, code := errCode k }

def errVale (k : ErrKind) (v : Vale) (block cause : Nat) : ErrDesc := errOf k (1 + valeNum v) block cause

/-- The handle of a live object as the resource of an error, with its owner. -/
def errOwned (s : State) (d : ErrDesc) (kind idx : Nat) : ErrDesc :=
  { d with resource := (handleOf s kind idx).toNat, tenancy := (ownerOf s kind idx).getD 0 }

/-- The description of a table row or bank: the cell of its memory's block. -/
def bankErr (k : ErrKind) (v : Vale) (m b cause : Nat) : ErrDesc :=
  { errVale k v (131 + m) cause with cell := b, unit := some (unitId 1 (1 + valeNum v) (131 + m) b) }

/-- How an error goes to its handler. -/
inductive ErrRoute where
  | level (l : Nat)         -- the handler of its own level
  | beyond                  -- not containable in its block: the region's handler
  | owned                   -- block level, or the error queue of its F or PF owner
deriving DecidableEq, Repr

/-- A bank that must be replaced: by its block, or with no spare left by the region (R203). -/
def bankRoute (s : State) (k : ErrKind) (v : Vale) (m b : Nat) : ErrDesc × ErrRoute :=
  if sparesLeft (s.vale v).table m = 0 then (bankErr k v m b 9, .level 3) else (bankErr k v m b 1, .level 2)

/-- Every row that uses a handler, with the level its chapter's table gives. -/
def errInfo (s : State) (k : ErrKind) : Option (ErrDesc × ErrRoute) :=
  match k with
  | .basinDbe v p | .basinDbeTx v p =>
    some ({ errVale k v 100 1 with resource := p, tenancy := pktTen ((pktAt s v p).getD {}) }, .level 1)
  | .basinLists v => some ({ errVale k v 100 1 with unit := some (valeBlock v 100) }, .level 3)
  | .narrowsTokens v => some ({ errVale k v 101 1 with unit := some (valeBlock v 101) }, .level 3)
  | .colParity v n t => some ({ errVale k v n 2 with cell := t }, .level 1)
  | .colDbe v n => some (coreErr v n k 1 0, .level 2)
  | .colSupervisor v n c => some (coreErr v n k 4 c, .level 2)
  | .stageActionDbe v j e => some ({ errVale k v (110 + j) 1 with resource := e, log1 := true }, .level 1)
  | .stageTemplateDbe v t => some ({ errVale k v 110 1 with resource := t, log1 := true }, .level 1)
  | .stageParity v p => some ({ errVale k v 110 2 with resource := p }, .level 1)
  | .stageSequencing v j => some (errVale k v (110 + j) 1, .beyond)
  | .tableRow v i pos dbe _ =>
    match partAt s v i with
    | some p =>
      if rowsLeft s v p pos then
        some ({ errOwned s (bankErr k v p.memory (posBank p pos) 1) (partKind v) i with
                detail := pos, log1 := dbe && (tget p.slots pos).isSome }, .level 1)
      else some (bankRoute s k v p.memory (posBank p pos))
    | none => none
  | .tableBank v m b => if b < memBanks m then some (bankRoute s k v m b) else none
  | .tableEngine v => some (errVale k v 130 1, .beyond)
  | .sortManager v => some ({ errVale k v 131 1 with unit := some (valeBlock v 131) }, .level 3)
  | .tmQueueDbe v q => some ({ errOwned s (errVale k v 140 1) (queueKind v) q with log1 := true }, .level 1)
  | .tmShaperDbe v i => some ({ errOwned s (errVale k v 140 1) (shaperKind v) i with log1 := true }, .level 1)
  | .floodPacket v p => some ({ errVale k v 141 1 with resource := p, tenancy := pktTen ((pktAt s v p).getD {}) }, .level 1)
  | .floodLinks v q => some (errOwned s (errVale k v 141 1) (queueKind v) q, .level 2)
  | .tmScheduler v => some (errVale k v 140 1, .beyond)
  | .policerDbe v p => some ({ errOwned s (errVale k v 143 1) (policerKind v) p with log1 := true }, .level 1)
  | .gateEntryDbe v => some (errVale k v 143 1, .level 1)
  | .gateEntryBoth v n => some ({ errVale k v 143 1 with resource := n }, .level 2)
  | .replMemberDbe v g m => some ({ errOwned s (errVale k v 142 1) (groupKind v) g with detail := m, log1 := true }, .level 1)
  | .timeCounter => some (errOf k 0 1 1, .level 3)
  | .saddlePoisoned r _ =>
    match regionOf s r with
    | some x => some ({ errOf k 4 (rgPort x.conf) 4 with resource := r.val, tenancy := rgOwner x.conf }, .level 1)
    | none => none
  | .saddleCacheLine p => some (errOf k 4 p 1, .level 1)
  | .saddleFaultLimit r =>
    match regionOf s r with
    | some x => some ({ errOf k 4 (rgPort x.conf) 4 with resource := r.val, tenancy := rgOwner x.conf }, .owned)
    | none => none
  | .saddlePort p => some (errOf k 4 p 4, .level 2)
  | .saddleSlot q => some ({ errOf k 4 (2 * q.val) 6 with resource := q.val, unit := some (regionId 4) }, .level 3)
  | .saddleWindow o w => some ({ errOf k 4 12 1 with resource := w.val, tenancy := o }, .level 2)
  | .saddleGate => some ({ errOf k 4 12 1 with unit := some (unitId 2 4 12 0xFFF) }, .level 3)
  | .hostWindowDbe i => some ({ errOf k 3 1 1 with resource := i, tenancy := fnOwner s (winFn (winOf s i)), log1 := true }, .level 1)
  | .hostMsixDbe f vec => some ({ errOf k 3 1 1 with resource := f, detail := vec, tenancy := fnOwner s f, log1 := true }, .level 1)
  | .hostFunction f reason =>
    if fnExists s f ∧ 1 ≤ reason ∧ reason ≤ 4 ∧ ¬ fnHalted s f then
      some ({ errOf k 3 1 4 with resource := f, detail := reason, tenancy := fnOwner s f }, .owned)
    else none
  | .hostController => some ({ errOf k 3 0 1 with unit := some (unitId 2 3 0 0xFFF) }, .level 3)
  | .qeDescDbe i | .qeStartedDbe i _ =>
    match ctxOf s i with
    | some q => some ({ errOf k 3 2 1 with resource := i, tenancy := fnOwner s q.fn }, .level 1)
    | none => none
  | .qeContextDbe i =>
    match ctxOf s i with
    | some q => some ({ errOf k 3 2 1 with resource := i, tenancy := fnOwner s q.fn }, .owned)
    | none => none
  | .qeScheduler => some ({ errOf k 3 2 1 with unit := some (unitId 2 3 2 0xFFF) }, .level 3)
  | .storBuffer c tag =>
    some ({ errOf k 3 3 1 with resource := tag, tenancy := (match nvCtrl s c with | some x => x.owner | none => 0) }, .level 1)
  | .storController c =>
    match nvCtrl s c with
    | some x => some ({ errOf k 3 3 1 with resource := c, tenancy := x.owner }, .level 2)
    | none => none
  | .storTable => some ({ errOf k 3 3 1 with unit := some nvUnit }, .level 3)
  | .dplWord t j w => some ({ errOf k 3 5 1 with resource := j.val, detail := w, tenancy := handleOf s 1 t, log1 := true }, .level 1)
  | .dplCache => some (errOf k 3 5 1, .level 2)
  | .memDbe a _ => some ({ errOf k 5 (if inHbm a 1 then 4 + hbmStack a else ddrChannel s a) 1 with detail := a }, .level 1)
  | .memRow hbm a => some ({ errOf k 5 (if hbm then 4 + hbmStack a else ddrChannel s a) 1 with detail := a, log1 := true }, .level 1)
  | .ddrRowNoRepair a => some ({ errOf k 5 (ddrChannel s a) 9 with detail := a }, .level 2)
  | .hbmRowNoRepair st f =>
    some ({ errOf k 5 (4 + st.val) 9 with resource := f % 48, unit := some (unitId 2 5 (4 + st) 0xFFF) }, .level 3)
  | .scacheLine a => some ({ errOf k 5 6 1 with detail := a, log1 := true }, .level 1)
  | .quadFault q => some (errOf k 6 q 1, .level 2)
  | .glenFault => if s.boot.glenUp then some (errOf k 6 6 7, .level 2) else none
  | .memController => some ({ errOf k 5 0xFFF 1 with unit := some (regionId 5) }, .level 4)
  | .vaultTrngThird => some (errOf k 7 2 8, .level 2)
  | .vaultKeyStore => some (errOf k 7 1 1, .level 2)
  | .vaultSealedBoth => some (errOf k 7 5 1, .level 2)
  | .vaultCore => some ({ errOf k 7 0 7 with unit := some (unitId 2 7 0 0xFFF) }, .level 4)
  | .blockNoClock d => some ({ errOf k (domRegion d) 0xFFF 5 with resource := d.val, unit := some clkUnit }, .level 2)
  | .pllFailed p => some ({ pllErr p with code := errCode k }, .level 3)
  | .telemetryBad => some ({ errOf k 0 2 6 with unit := some powerUnit }, .level 4)
  | _ => none

/-- The unit under test that an error belongs to (R483). -/
def underTest (s : State) (k : ErrKind) : Option Nat :=
  let core := fun (v : Vale) (n : Nat) =>
    if (s.vale v).col.testSt = 2 ∧ (s.vale v).col.testCore = n then some (valeBlock v n) else none
  match k with
  | .colParity v n _ => core v n
  | .colDbe v n => core v n
  | .colSupervisor v n _ => core v n
  | .tableBank v m b =>
    if (s.vale v).table.testSt = 2 ∧ (s.vale v).table.testBank = bankKey m b then some (unitId 1 (1 + valeNum v) (131 + m) b) else none
  | .quadFault q => if s.ctl.quadTest = some q.val then some (unitId 2 6 q 0xFFF) else none
  | .saddlePort p | .saddleCacheLine p => if s.err.portTest = some p.val then some (unitId 2 4 p 0xFFF) else none
  | _ => none

/-- An error arrives at its handler. -/
def errorArrives (s : State) (k : ErrKind) : State :=
  match errInfo s k with
  | none => s
  | some (d, route) =>
    match underTest s k with
    | some u => testError s d 2 u
    | none =>
      match route with
      | .level l => arrive errAct d l s
      | .beyond => arriveRegion errAct d s
      | .owned => if s.err.failStop then arrive errAct d 2 s else ownedError errAct d s

/-- A corrected single-bit error in a row of memory 1, 3 or 5, which holds 32 entries (R178): the third in the row within 1 s
has the row remapped (R203). -/
def afterCorrected (k : ErrKind) (s : State) : State :=
  match k with
  | .tableSbe v i pos =>
    match partAt s v i with
    | some p =>
      let row := p.memory * 2 ^ 24 + memPos p pos / 32
      let l := (tgetD (s.vale v).table.rowSbe row []).filter (fun t => decide (tickNs s < t + 1000000000))
      if p.memory ≠ 1 ∧ p.memory ≠ 3 ∧ p.memory ≠ 5 then s
      else if l.length < 2 then s.modTable v (fun x => { x with rowSbe := tset x.rowSbe row (l ++ [tickNs s]) })
      else errorArrives (s.modTable v (fun x => { x with rowSbe := terase x.rowSbe row })) (.tableRow v i pos false none)
    | none => s
  | _ => s

/-- ERROR_ARRIVAL. -/
def execErrorArrival (e : ErrArrival) (s : State) : Out :=
  .next (if ¬ released s then s
    else match e.kind with
      | .bootDigest => if s.boot.glenUp ∧ ¬ s.err.failStop then digestExclude s else s
      | .glenFault => if s.err.failStop then s else errorArrives s .glenFault
      | k => match corrected s k with
        | some s1 => if s.err.failStop then s else afterCorrected k s1
        | none => errorArrives s k)

/-! ### ERROR_ACTION_COMPLETE (R470) -/

/-- The spare has taken over a bank that was replaced because of errors. -/
def bankReplaced (s : State) (v : Vale) (k : Nat) : State :=
  s.modTable v (fun x => if x.replacing.contains k then
    { swapRows x k with replacing := x.replacing.filter (fun y => decide (y ≠ k)) } else x)

/-- What ends with the action of an error at a level. -/
def finishAct (k : ErrKind) (l : Nat) (r : ErrRec) (s : State) : State :=
  if l = 3 then (match k with
    | .stageSequencing v _ | .stageActionDbe v _ _ | .stageTemplateDbe v _ | .stageParity v _ | .sortManager v => setStopped s v false
    | .tmQueueDbe v _ | .tmShaperDbe v _ | .floodPacket v _ | .floodLinks v _ | .tmScheduler v =>
      (setStopped s v false).modTm v (fun t => { t with stopped := false })
    | .policerDbe v _ | .gateEntryDbe v | .gateEntryBoth v _ | .replMemberDbe v _ _ => setStopped s v false
    | .tableEngine v => s.modTable v (fun x => { x with stopped := false })
    | .glenFault => glenBack s r
    | .blockNoClock d =>
      if domRegion d = 6 then glenBack s r else (match domVale d with | some v => setStopped s v false | none => s)
    | _ => s)
  else if l = 2 then (match k with
    | .tableRow v i pos _ _ =>
      (match partAt s v i with
       | some p => bankReplaced s v (bankKey p.memory (posBank p pos))
       | none => s)
    | .tableBank v m b => bankReplaced s v (bankKey m b)
    | .glenFault => glenBack s r
    | _ => s)
  else s

/-- The next queued error of a handler becomes active, and its action begins (R470). -/
def nextError (k l : Nat) (s : State) : State :=
  let h := handlerAt s k
  match h.queue with
  | [] => s
  | q :: rest =>
    let s1 := setStat s l { statAt s l with handled := (statAt s l).handled + 1 }
    errAct q.kind l q.er (setHandler s1 k { active := some q, queue := rest })

/-- ERROR_ACTION_COMPLETE. -/
def execErrorActionComplete (h : HandlerId) (s : State) : Out :=
  .next (let k := h.level.val * 0x100000000 + h.unit.toNat
    let x := handlerAt s k
    match x.active with
    | none => s
    | some p =>
      if s.err.failStop then s
      else nextError k h.level (finishAct p.kind h.level p.er (setHandler s k { x with active := none })))

/-- GLEN_WATCHDOG (R399). -/
def execGlenWatchdog (s : State) : Out :=
  .next (if released s ∧ ¬ s.err.failStop then errorArrives s .glenFault else s)

/-! ### Chip reset (R479, R481) -/

/-- Glen answers this request in fail-stop; when the vault caused it, only outside any session. -/
def failStopAnswers (who : Who) (s : State) : Bool := !s.err.failStop || !s.err.vaultCause || decide (who.sess = 0)

/-- A write of CHIP_RESET, which is served in fail-stop too. -/
def execChipReset (who : Who) (x : U8) (s : State) : Out :=
  .next (if glenServes s ∧ failStopAnswers who s then
      match firstStatus [(.access, !isOV who), (.range, decide (x ≠ 1))] with
      | .ok => chipReset (respond s .ok 0 []) 3
      | st => respond s st 0 []
    else s)

/-- FAILSTOP_RESET_DELAY expires in fail-stop; 0 never. -/
def execFailstopResetDelay (s : State) : Out :=
  .next (if s.err.failStop ∧ numD s (okey 0x2440 2) 0 ≠ 0 then chipReset s 4 else s)

/-! ### The logs (R475-R477) -/

/-- An error record as it is read (R475). -/
def errBytes (r : ErrRec) : List Byte :=
  beBytes 4 r.seq ++ beBytes 4 r.unit ++ beBytes 1 r.level ++ beBytes 1 r.origin ++ beBytes 1 r.cause ++ beBytes 1 r.flags
    ++ beBytes 4 r.resource ++ beBytes 4 r.tenancy.toNat ++ beBytes 4 r.sec ++ beBytes 4 r.ns ++ beBytes 4 r.parent
    ++ beBytes 8 r.detail ++ beBytes 1 r.action ++ List.replicate 7 0

/-- A session may read a record (R359). -/
def seesEvent (who : Who) (e : EvtRec) : Bool :=
  decide (who.role ≠ .tenant) || (decide (e.tenancy = who.bound) && decide (e.tenancy ≠ 0))

/-- The records examined: from the oldest on until `n` have been found. -/
def examine (f : EvtRec → Bool) : Nat → List EvtRec → List EvtRec × Nat
  | _, [] => ([], 0)
  | 0, _ => ([], 0)
  | n + 1, e :: es =>
    if f e then
      let r := examine f n es
      (e :: r.1, r.2 + 1)
    else
      let r := examine f (n + 1) es
      (r.1, r.2 + 1)

/-- Events logged since the one that a 16-bit cursor names; a number not yet given counts as none. -/
def eventsSince (s : State) (cursor : Nat) : Nat :=
  let d := (s.err.evtSeq + 65536 - cursor % 65536) % 65536
  if s.err.evtSeq < d then 0 else d

def sessOf (s : State) (w : Who) : Session :=
  tgetD s.idien.sessions w.sess { role := w.role, bound := w.bound, transport := .mgmt }

def setSess (s : State) (w : Who) (x : Session) : State :=
  match tget s.idien.sessions w.sess with
  | some _ => { s with idien := { s.idien with sessions := tset s.idien.sessions w.sess x } }
  | none => s

/-- Records that a session has lost: overwritten before it read them. -/
def evtLost (s : State) (x : Session) : Nat := eventsSince s x.evtCursor - s.err.events.length

def errLost (s : State) (x : Session) : Nat := s.err.errSeq - max 1 x.errCursor - s.err.errors.length

def eventLogOp (who : Who) : DictOp where
  status := fun s => firstStatus [(.access, s.err.failStop && s.err.vaultCause)]
  effect := fun s =>
    let x := sessOf s who
    let d := eventsSince s x.evtCursor
    let todo := (s.err.events.take d).reverse
    let r := examine (seesEvent who) 16 todo
    let y := { x with evtCursor := (s.err.evtSeq + 65536 - (todo.length - r.2)) % 65536, logLost := x.logLost + evtLost s x }
    (setSess s who (if d = 0 then x else y), r.1.flatMap evtBytes)

/-- EVENT_LOG_READ. -/
def execEventLogRead (who : Who) (s : State) : Out := .next (runOp (eventLogOp who) s)

def errorLogOp (who : Who) : DictOp where
  status := fun _ => firstStatus [(.access, decide (who.role = .tenant))]
  effect := fun s =>
    let x := sessOf s who
    let todo := (s.err.errors.reverse.filter (fun r => decide (x.errCursor ≤ r.seq))).take 21
    match todo.getLast? with
    | none => (s, [])
    | some l =>
      (setSess s who { x with errCursor := l.seq + 1, logLost := x.logLost + errLost s x }, todo.flatMap errBytes)

/-- ERROR_LOG_READ. -/
def execErrorLogRead (who : Who) (s : State) : Out := .next (runOp (errorLogOp who) s)

/-! ### Lane tests (R484) -/

def laneVale (n : Nat) : Vale := if n < 8 then .east else .west

/-- The first lane within its Vale of the port that contains a lane. -/
def lanePort (s : State) (n : Nat) : Nat :=
  let w := portWidth Config.hx (portMode s (laneVale n))
  n % 8 / w * w

/-- What the test of a lane takes at the lane rate of its port mode (R72, R484). -/
def laneTestNs (s : State) : Nat :=
  match s.err.laneTest with
  | some n => if portMode s (laneVale n) = 4 then 9400000000 else 4700000000
  | none => 0

def laneTestOp (who : Who) (n : Nat) : DictOp where
  status := fun s => firstStatus (baseChecks s (isO who) ++
    [(.range, decide (15 < n) || decide (laneCount Config.hx ≤ n % 8) || bitOf (numD s (okey 0x2450 3) 0) n),
     (.busy, s.err.laneTest.isSome)])
  effect := fun s =>
    let v := laneVale n
    let k := lanePort s n
    ({ s.modPath v (fun x => { x with linkUp := x.linkUp &&& ~~~ (1#8 <<< k) }) with err := { s.err with laneTest := some n, laneStart := tickNs s } }, [])
  retry := fun s => estimateMs s (laneTestNs s) s.err.laneStart

/-- LANE_TEST. -/
def execLaneTest (who : Who) (x : U8) (s : State) : Out := .next (runOp (laneTestOp who x.toNat) s)

/-- LANE_TEST_DONE: the lane is free again, or retired. -/
def execLaneTestDone (pass : Bool) (s : State) : Out :=
  .next (match s.err.laneTest with
    | none => s
    | some n =>
      if s.err.failStop then s
      else
        let s1 : State := { s with err := { s.err with laneTest := none } }
        if pass then setNum s1 (okey 0x2450 2) 0
        else
          let s2 := setNum (setNum s1 (okey 0x2450 2) (statusCode .halted)) (okey 0x2450 3) (numD s (okey 0x2450 3) 0 ||| 2 ^ n)
          raise s2 { cls := 0, name := "LANE_RETIRED", unit := unitId 1 (1 + n / 8) (150 + lanePort s n) (n % 8), resource := n })

/-! ### Saddle port tests (R485) -/

/-- A volume on an SSD port belongs to a controller that is enabled. -/
def portInUse (s : State) (p : Nat) : Bool :=
  (volsListed s).any (fun r => volUsed r.2 && decide (volBackend r.2 = 1) && decide (volWhere r.2 = p)
    && (match nvCtrl s (hIdx (volCtrl r.2)) with | some c => nvEn c | none => false))

def saddleTestOp (who : Who) (n : Nat) : DictOp where
  status := fun s => firstStatus (baseChecks s (isO who) ++
    [(.range, decide (7 < n) || !portFormedSaddle s n || saddleRetired s n),
     (.notReady, if n % 2 = 0 then !(regionsOn s n).isEmpty else portInUse s n),
     (.busy, s.err.portTest.isSome)])
  effect := fun s =>
    let s1 := modSport s n (fun x => { x with link := false, pstate := 0, clkreqN := false, perstN := false })
    let s2 := modSlot s1 (n / 2) (fun x => { x with clampN := false })
    ({ s2 with err := { s2.err with portTest := some n, portStart := tickNs s } }, [])
  retry := fun s => estimateMs s 30000000 s.err.portStart

/-- SADDLE_PORT_TEST. -/
def execSaddlePortTest (who : Who) (x : U8) (s : State) : Out := .next (runOp (saddleTestOp who x.toNat) s)

/-- SADDLE_PORT_TEST_DONE. -/
def execSaddlePortTestDone (pass : Bool) (s : State) : Out :=
  .next (match s.err.portTest with
    | none => s
    | some n =>
      if s.err.failStop then s
      else
        let ok := testVerdict s (unitId 2 4 n 0xFFF) pass
        let s1 : State := { ok.2 with err := { ok.2.err with portTest := none } }
        if ok.1 then
          let s2 := setNum s1 (okey 0x2451 2) 0
          if (slotOf s2 (n / 2)).st = .ready then
            let s3 := modSport s2 (n / 2 * 2) (fun x => { x with link := false, pstate := 0, clkreqN := false, perstN := true, cache := [] })
            modSlot s3 (n / 2) (fun x => { x with st := .linking, relink := true })
          else s2
        else
          let s2 := setNum (setNum s1 (okey 0x2451 2) (statusCode .halted)) (okey 0x2451 3) (numD s (okey 0x2451 3) 0 ||| 2 ^ n)
          let s3 := setSlot s2 (n / 2) (slotDown (slotOf s2 (n / 2)) .failed)
          raise s3 { cls := 0, name := "SADDLE_PORT_RETIRED", unit := unitId 2 4 n 0xFFF, resource := n })

end Sys2Proof.Machine
end

