-- ==== Sys2Proof/Machine/Regs.lean ====
section
/-! DEFINITION. The memory-mapped registers as words (R10, R187, R245, R370, R373, R378, R383, R386), their writes that have no
row of their own, and host requests to BAR2 (R289). -/

namespace Sys2Proof.Machine

/-! ### Writes of plain registers (R10) -/

/-- A write of a telemetry ring register (R245): the control word, or a register that stands while EN is 1. -/
def telemRegister (s : State) (v : Vale) (off : Nat) (w : U32) : State :=
  let x := (s.vale v).tm.ring
  let put := fun (y : TelemRing) => s.modTm v (fun t => { t with ring := y })
  if off = 0x08 then (match execTelemRingEnable v ⟨w, false⟩ s with | .next t => t | .fault _ => s | .refused _ => s)
  else if off = 0x10 then put { x with cons := w.toNat % 0x8000 }
  else if off = 0x14 then put { x with drops := 0 }
  else if x.en then s
  else if off = 0x00 then put { x with baseLo := w &&& 0xFFFFFFE0#32 }
  else if off = 0x04 then put { x with baseHi := w }
  else s

/-- INT_EN and VECTOR of the tenant view, and PEER_RESET of either view (R370). -/
def mbRegister (s : State) (n : Nat) (side : MbSide) (off : Nat) (w : U32) : State :=
  let m := mbOf s n
  if !mbTakes s n side then s
  else match side with
    | .tenant =>
      if off = 0x020 then setMb s n { m with intEn := bitOf w.toNat 31, vector := bitsOf w.toNat 0 11 }
      else if off = 0x024 then setMb s n { m with peerResetTen := m.peerResetTen && !bitOf w.toNat 31 }
      else s
    | .operator | .pf0 =>
      if off = 0x024 then setMb s n { m with peerResetOper := m.peerResetOper && !bitOf w.toNat 31 } else s

/-- MB_PENDING register `k`: bits written as 1 clear (R373). -/
def mbPendClear (s : State) (k : Nat) (w : U32) : State :=
  { s with mbPend := tset s.mbPend k ((BitVec.ofNat 32 (tgetD s.mbPend k 0)) &&& ~~~ w).toNat }

/-- A Steppe ring register (R383) but for the counts. -/
def sringRegister (s : State) (r off : Nat) (w : U32) : State :=
  let x := sringOf s r
  if !sringValid r then s
  else if off = 0x08 then sringControl s r w
  else if off = 0x14 then setSring s r { x with drops := 0 }
  else if x.en then s
  else if off = 0x00 then setSring s r { x with baseLo := w &&& 0xFFFFFFC0#32 }
  else if off = 0x04 then setSring s r { x with baseHi := w.toNat % 65536 }
  else s

/-- RESTART_PC of a hart (R378). -/
def hartPcWrite (s : State) (h : Nat) (hi : Bool) (w : U32) : State :=
  let x := hartOf s h
  setHart s h (if hi then { x with pcHi := w.toNat % 65536 } else { x with pcLo := w })

/-- MB_INTR_EN (R60). -/
def mbIntrEnWrite (s : State) (w : U32) : State :=
  if fnServes s 0 then { s with idien := { s.idien with pf0 := { s.idien.pf0 with intrEn := w &&& 1#32 } } } else s

/-! ### Registers as the internal address space shows them (R386) -/

def tcWord (x : TcRing) (off : Nat) : Nat :=
  if off = 0x00 then x.cmdLo.toNat else if off = 0x04 then x.cmdHi.toNat
  else if off = 0x08 then x.cplLo.toNat else if off = 0x0C then x.cplHi.toNat
  else if off = 0x10 then bit1 x.en * 2 ^ 31 + bit1 x.space * 2 ^ 30 + bit1 x.intEn * 2 ^ 29 + x.log2 * 2 ^ 16 + x.vector
  else if off = 0x14 then x.tail else if off = 0x18 then x.head
  else if off = 0x1C then bit1 x.halted * 2 ^ 31 + x.reason else 0

def telemWord (x : TelemRing) (off : Nat) : Nat :=
  if off = 0x00 then x.baseLo.toNat else if off = 0x04 then x.baseHi.toNat
  else if off = 0x08 then bit1 x.en * 2 ^ 31 + bit1 x.space * 2 ^ 30 + bit1 x.intEn * 2 ^ 29 + x.log2 * 2 ^ 16 + x.vector
  else if off = 0x0C then x.prod else if off = 0x10 then x.cons else if off = 0x14 then x.drops else 0

/-- A word of the operator view of a mailbox. -/
def mbWord (s : State) (n off : Nat) : Nat :=
  let m := mbOf s n
  if off = 0x000 then m.operOffer.toNat else if off = 0x004 then m.tenOffer.toNat else if off = 0x008 then m.sel.toNat
  else if off = 0x010 then m.txProd.toNat else if off = 0x014 then m.txCons.toNat
  else if off = 0x018 then m.rxProd.toNat else if off = 0x01C then m.rxCons.toNat
  else if off = 0x024 then bit1 m.peerResetOper * 2 ^ 31 else if off = 0x028 then m.violations
  else if 0x400 ≤ off ∧ off < 0x800 then leNat ((List.range 4).map (fun i => tgetD m.txSlots (off - 0x400 + i) 0))
  else if 0x800 ≤ off ∧ off < 0xC00 then leNat ((List.range 4).map (fun i => tgetD m.rxSlots (off - 0x800 + i) 0))
  else 0

def sringWord (x : SRing) (off : Nat) : Nat :=
  if off = 0x00 then x.baseLo.toNat else if off = 0x04 then x.baseHi
  else if off = 0x08 then bit1 x.en * 2 ^ 31 + x.log2 * 2 ^ 16 + x.size * 2 ^ 12 + x.irq
  else if off = 0x0C then x.prod else if off = 0x10 then x.cons else if off = 0x14 then x.drops else 0

def hartWord (x : Hart) (off : Nat) : Nat :=
  if off = 0x00 then bit1 x.run * 2 ^ 31 + bit1 x.stopped * 2 ^ 30
  else if off = 0x08 then x.pcLo.toNat else if off = 0x0C then x.pcHi else 0

/-- What stands at an internal address outside memory. -/
inductive RegPlace where
  | tc (v : Vale) (r : Fin 8) (off : Nat)
  | telem (v : Vale) (off : Nat)
  | mailbox (n : Fin 256) (off : Nat)
  | mbPend (k : Nat)
  | sring (r : Fin 1216) (off : Nat)
  | hart (h : Fin 24) (off : Nat)
  | imsic (h : Fin 24) (file off : Nat)
  | aplic
  | none
deriving DecidableEq, Repr

/-- The register ranges of R386. -/
def regPlace (a : Nat) : RegPlace :=
  if 0x10200000 ≤ a ∧ a < 0x10200200 then .tc .east (Fin.ofNat 8 ((a - 0x10200000) / 64)) (a % 64)
  else if 0x10240000 ≤ a ∧ a < 0x10240200 then .tc .west (Fin.ofNat 8 ((a - 0x10240000) / 64)) (a % 64)
  else if 0x10280000 ≤ a ∧ a < 0x10280018 then .telem .east (a - 0x10280000)
  else if 0x102C0000 ≤ a ∧ a < 0x102C0018 then .telem .west (a - 0x102C0000)
  else if 0x10400000 ≤ a ∧ a < 0x10500000 then .mailbox (Fin.ofNat 256 ((a - 0x10400000) / 4096)) (a % 4096)
  else if 0x10500000 ≤ a ∧ a < 0x10500020 then .mbPend ((a - 0x10500000) / 4)
  else if 0x20000000 ≤ a ∧ a < 0x20000000 + 64 * 1216 then .sring (Fin.ofNat 1216 ((a - 0x20000000) / 64)) (a % 64)
  else if 0x20080000 ≤ a ∧ a < 0x20080600 then .hart (Fin.ofNat 24 ((a - 0x20080000) / 64)) (a % 64)
  else if 0x28000000 ≤ a ∧ a < 0x28018000 then .imsic (Fin.ofNat 24 ((a - 0x28000000) / 4096)) 0 (a % 4096)
  else if 0x29000000 ≤ a ∧ a < 0x290C0000 ∧ (a - 0x29000000) % 32768 < 0x6000 then
    .imsic (Fin.ofNat 24 ((a - 0x29000000) / 32768)) (1 + (a - 0x29000000) % 32768 / 4096) (a % 4096)
  else if 0x2C000000 ≤ a ∧ a < 0x2C020000 then .aplic
  else .none

/-- The word at an aligned address; an interrupt file and an empty offset read as zero (R10), the APLIC as a free value
(the spec does not give its registers). -/
def regRead (s : State) (a : Nat) : U32 × State :=
  match regPlace a with
  | .tc v r off => (BitVec.ofNat 32 (tcWord (tcRingOf s v r) off), s)
  | .telem v off => (BitVec.ofNat 32 (telemWord (s.vale v).tm.ring off), s)
  | .mailbox n off => (BitVec.ofNat 32 (mbWord s n off), s)
  | .mbPend k => (BitVec.ofNat 32 (tgetD s.mbPend k 0), s)
  | .sring r off => (BitVec.ofNat 32 (if sringValid r then sringWord (sringOf s r) off else 0), s)
  | .hart h off => (BitVec.ofNat 32 (hartWord (hartOf s h) off), s)
  | .imsic _ _ _ => (0, s)
  | .aplic => let d := drawFree s (2 ^ 32); (BitVec.ofNat 32 d.1, d.2)
  | .none => (0, s)

/-- An MSI write to an interrupt file (R381). -/
def imsicWrite (s : State) (h : Fin 24) (file off : Nat) (w : U32) : State :=
  let i := w.toNat
  if off ≠ 0 ∨ i = 0 ∨ 2047 < i then s
  else if quadRetired s (h.val / 4) then count s (okey 0x7002 1)
  else pendIrq s (h.val, file, i)

/-- The state of an outcome that is a next state. -/
def outState (s : State) (o : Out) : State :=
  match o with
  | .next t => t
  | .fault _ => s
  | .refused _ => s

/-- A write of the word at an aligned address. -/
def regWrite (s : State) (a : Nat) (w : U32) : State :=
  match regPlace a with
  | .tc v r off =>
    if off = 0x14 then tcSkip 4096 v r (tcDoorbellAt s v r (w.toNat % 4096))
    else setTcRing s v r (tcRegister (msixSize s 0) (tcRingOf s v r) off w)
  | .telem v off => telemRegister s v off w
  | .mailbox n off =>
    if off = 0x000 then outState s (execMbOfferWrite n .operator w s)
    else if off = 0x014 then outState s (execMbCountWrite n .operator false (w.setWidth 16) s)
    else if off = 0x018 then outState s (execMbCountWrite n .operator true (w.setWidth 16) s)
    else mbRegister s n .operator off w
  | .mbPend k => mbPendClear s k w
  | .sring r off =>
    if off = 0x0C then if sringInjects r then outState s (execSteppeRingCountWrite r (w.setWidth 16) s) else s
    else if off = 0x10 then if sringInjects r then s else outState s (execSteppeRingCountWrite r (w.setWidth 16) s)
    else sringRegister s r off w
  | .hart h off =>
    if off = 0x00 then outState s (execHartRunWrite h (bitOf w.toNat 31) s)
    else if off = 0x08 then hartPcWrite s h false w
    else if off = 0x0C then hartPcWrite s h true w
    else s
  | .imsic h file off => imsicWrite s h file off w
  | .aplic => s
  | .none => s

/-- A byte of a mailbox slot that the operator fills, `i` from the first receive slot; a write to a transmit slot has no
effect. -/
def slotByteAt (a : Nat) : Option (Fin 256 × Fin 16 × Fin 64) :=
  match regPlace a with
  | .mailbox n off =>
    if 0x800 ≤ off ∧ off < 0xC00 then some (n, Fin.ofNat 16 ((off - 0x800) / 64), Fin.ofNat 64 (off % 64)) else none
  | _ => none

/-- A write of bytes outside memory: each aligned word that the bytes cover, little-endian, and each byte of a slot. -/
def regBytes (s : State) (a : Nat) (bs : List Byte) : State :=
  (List.range bs.length).foldl (fun t i =>
    match slotByteAt (a + i) with
    | some (n, k, o) => outState t (execMbSlotWrite n .operator k o (bs.getD i 0) t)
    | none =>
      if (a + i) % 4 = 0 ∧ i + 4 ≤ bs.length then regWrite t (a + i) (BitVec.ofNat 32 (leNat ((bs.drop i).take 4))) else t) s

/-- A read of bytes outside memory: the bytes of the words they lie in. -/
def regReadBytes (s : State) (a n : Nat) : List Byte × State :=
  (List.range n).foldl (fun r i =>
    let w := regRead r.2 ((a + i) / 4 * 4)
    (r.1 ++ [BitVec.ofNat 8 (bitsOf w.1.toNat (8 * ((a + i) % 4)) 8)], w.2)) ([], s)

/-! ### BAR2 (R289) -/

/-- A request reaches an internal target. -/
def barInternal (s : State) (a : Nat) (data : Option (List Byte)) (len : Nat) : State :=
  match data with
  | some bs => if inDdrHbm s a bs.length then writeInt s a bs else regBytes s a bs
  | none =>
    if inDdrHbm s a len then
      let s1 := barData s (readInt s a len)
      if poisoned s a len then count s1 (okey 0x5030 6) else s1
    else
      let r := regReadBytes s a len
      barData r.2 r.1

/-- The region of a Saddle target is Open (R265). -/
def barRegionOpen (s : State) (h : Handle) : Bool :=
  handleFits h 5 && handleCurrent s h && (match regionOf s (hIdx h) with | some x => regionOpen x | none => false)

/-- Bytes that attached logic answers with (log entry 1). -/
def answerBytes (s : State) (n : Nat) : List Byte × State :=
  (List.range n).foldl (fun r _ => let d := drawFree r.2 256; (r.1 ++ [BitVec.ofNat 8 d.1], d.2)) ([], s)

/-- BAR2_REQUEST (R289): a write of `data`, or a read of `len` bytes. -/
def execBar2Request (f : Fin 1028) (off : Nat) (data : Option (List Byte)) (len : Nat) (s : State) : Out :=
  .next (
    let n := match data with | some bs => bs.length | none => len
    let ask := match data with | some _ => none | none => some len
    if s.host.link = 0 ∨ ¬ fnExists s f ∨ bar2Size s f < off + n ∨ n = 0 then s
    else if ¬ fnServes s f then
      (match data with | some _ => s | none => barData s (List.replicate len 0xFF#8))
    else match winFor s f off n with
      | none => winMiss s f off ask
      | some r =>
        if ¬ bitOf (winFlags r) (if data.isSome then 2 else 1) then winMiss s f off ask
        else if winSaddle r then
          if barRegionOpen s (winRegion r) then
            (match data with
              | some bs => (match regionOf s (hIdx (winRegion r)) with
                | some x => modSport s (rgPort x.conf) (fun y =>
                    { y with mmio := keep 8 ((winTarget r + (off - winBase r), bs) :: y.mmio) })
                | none => s)
              | none => let d := answerBytes s len; barData d.2 d.1)
          else count (winMiss s f off ask) (okey 0x5030 5)
        else barInternal s (winTarget r + (off - winBase r)) data len)

/-! ### Peaks (R91, R128) -/

def crossPeakOp (who : Who) (v : Vale) : DictOp where
  status := fun s => firstStatus (baseChecks s (isO who))
  effect := fun s => (s.modPath v (fun x => { x with crossPeak := 0 }), beBytes 4 (s.vale v).path.crossPeak)

/-- CROSS_FIFO_PEAK: returned and cleared. -/
def execCrossFifoPeakRead (who : Who) (v : Vale) (s : State) : Out := .next (runOp (crossPeakOp who v) s)

def relPeakOp (who : Who) (v : Vale) : DictOp where
  status := fun s => firstStatus (baseChecks s (isO who))
  effect := fun s => (s.modPath v (fun x => { x with relPeak := 0 }), beBytes 2 (s.vale v).path.relPeak)

/-- RELBUF_PEAK: returned and cleared. -/
def execRelbufPeakRead (who : Who) (v : Vale) (s : State) : Out := .next (runOp (relPeakOp who v) s)

end Sys2Proof.Machine
end

