-- ==== Sys2Proof/Machine/ObjTab.lean ====
section
/-! DEFINITION. The object dictionary (R40, R41, R44): every object with its type, wire size, access right per role, default,
range, persistence and staging. -/

namespace Sys2Proof.Machine

/-- Objects of one definition: the first and last index and subindex, type code (R41), wire size, access (R49: two bits
per role), default, lower and upper bound, stored in flash, epoch-staged. Indices of Vale West are not listed (R44). -/
structure ObjDesc where
  lo : Nat
  hi : Nat
  subLo : Nat
  subHi : Nat
  type : Nat
  size : Nat
  access : Nat
  dflt : Nat
  min : Nat
  max : Nat
  stored : Bool
  staged : Bool
deriving DecidableEq, Repr

def objRows0 : List ObjDesc := [
  ⟨0x1000, 0x1000, 1, 1, 10, 255, 0x55, 0, 0, 255, false, false⟩,  -- VENDOR_NAME
  ⟨0x1000, 0x1000, 2, 2, 10, 255, 0x55, 0, 0, 255, false, false⟩,  -- PART_NAME
  ⟨0x1000, 0x1000, 3, 3, 10, 255, 0x55, 0, 0, 255, false, false⟩,  -- STEPPING
  ⟨0x1000, 0x1000, 4, 4, 10, 255, 0x55, 0, 0, 255, false, false⟩,  -- ORDERING_CODE
  ⟨0x1000, 0x1000, 5, 5, 3, 2, 0x55, 65535, 3855, 65535, false, false⟩,  -- LANE_MASK
  ⟨0x1000, 0x1000, 6, 6, 9, 16, 0x55, 0, 16, 16, false, false⟩,  -- SERIAL
  ⟨0x1000, 0x1000, 7, 7, 4, 4, 0x55, 0, 0, 4294967295, false, false⟩,  -- VENDOR_IANA
  ⟨0x1000, 0x1000, 8, 8, 4, 4, 0x51, 65536, 0, 4294967295, false, false⟩,  -- ROM_VERSION
  ⟨0x1000, 0x1000, 9, 9, 4, 4, 0x51, 0, 0, 4294967295, false, false⟩,  -- IMAGE_VERSION
  ⟨0x1000, 0x1000, 10, 10, 9, 4, 0x55, 0, 4, 4, false, false⟩,  -- IDIEN_VERSIONS
  ⟨0x1100, 0x1100, 1, 1, 9, 48, 0x43, 0, 0, 48, true, false⟩,  -- ANCHOR_O
  ⟨0x1100, 0x1100, 2, 2, 9, 48, 0xC3, 0, 0, 48, true, false⟩,  -- ANCHOR_H
  ⟨0x1101, 0x1101, 1, 1, 2, 1, 0x51, 0, 0, 32, false, false⟩,  -- SESSIONS_ACTIVE
  ⟨0x1101, 0x1101, 2, 2, 3, 2, 0xC0, 300, 10, 3600, true, false⟩,  -- SESSION_IDLE_TIMEOUT
  ⟨0x1101, 0x1101, 3, 3, 4, 4, 0xFC, 0, 0, 4294967295, false, false⟩,  -- EVENT_MASK
  ⟨0x1102, 0x1102, 1, 1, 4, 4, 0xC0, 0, 0, 4294967295, true, false⟩,  -- MGMT_IPV4_ADDR
  ⟨0x1102, 0x1102, 2, 2, 2, 1, 0xC0, 24, 8, 30, true, false⟩,  -- MGMT_IPV4_PREFIX
  ⟨0x1102, 0x1102, 3, 3, 9, 16, 0xC0, 0, 0, 16, true, false⟩,  -- MGMT_IPV6_ADDR
  ⟨0x1102, 0x1102, 4, 4, 5, 8, 0x40, 0, 0, 18446744073709551615, false, false⟩,  -- MGMT_DROPS
  ⟨0x1103, 0x1103, 1, 1, 2, 1, 0xC0, 50, 8, 119, true, false⟩,  -- SMBUS_ADDR
  ⟨0x1103, 0x1103, 2, 2, 2, 1, 0xC0, 51, 8, 125, true, false⟩,  -- I3C_STATIC_ADDR
  ⟨0x1104, 0x1104, 1, 5, 4, 4, 0x51, 0, 0, 4294967295, false, false⟩,  -- BUSY_COUNT
  ⟨0x1105, 0x1105, 1, 1, 4, 4, 0xC0, 100000, 1000, 1000000, false, false⟩,  -- LEARN_NOTIFY_RATE
  ⟨0x1105, 0x1105, 2, 2, 4, 4, 0xC0, 10000, 100, 100000, false, false⟩,  -- TELEM_NOTIFY_RATE
  ⟨0x1105, 0x1105, 3, 3, 5, 8, 0x40, 0, 0, 18446744073709551615, false, false⟩,  -- LEARN_NOTIFY_DROPS
  ⟨0x1105, 0x1105, 4, 4, 5, 8, 0x40, 0, 0, 18446744073709551615, false, false⟩,  -- TELEM_NOTIFY_DROPS
  ⟨0x1106, 0x1106, 1, 1, 3, 2, 0x41, 0, 0, 65535, false, false⟩,  -- PERSIST_PENDING
  ⟨0x1800, 0x1800, 1, 1, 3, 2, 0xFF, 0, 0, 65535, false, false⟩,  -- EVENT_CURSOR
  ⟨0x1800, 0x1800, 2, 2, 9, 1024, 0x55, 0, 0, 1024, false, false⟩,  -- EVENT_LOG
  ⟨0x1800, 0x1800, 3, 3, 5, 8, 0x51, 0, 0, 18446744073709551615, false, false⟩]  -- LOG_LOST

def objRows1 : List ObjDesc := [
  ⟨0x1801, 0x1801, 1, 1, 4, 4, 0xF3, 0, 0, 4294967295, false, false⟩,  -- ERROR_CURSOR
  ⟨0x1801, 0x1801, 2, 2, 9, 1008, 0x51, 0, 0, 1008, false, false⟩,  -- ERROR_LOG
  ⟨0x1801, 0x1801, 3, 3, 9, 768, 0x51, 0, 0, 768, true, false⟩,  -- CHIP_ERRORS
  ⟨0x1802, 0x1802, 1, 1, 9, 64, 0x51, 0, 0, 64, false, false⟩,  -- AON_ERRORS
  ⟨0x1802, 0x1802, 2, 2, 2, 1, 0x51, 0, 1, 7, false, false⟩,  -- RESET_CAUSE
  ⟨0x2000, 0x2000, 1, 1, 11, 7, 0x51, 0, 7, 7, false, false⟩,  -- CLK_STATUS
  ⟨0x2000, 0x2000, 2, 2, 2, 1, 0x80, 0, 0, 5, false, false⟩,  -- CLK_REQUALIFY
  ⟨0x2001, 0x2001, 0, 44, 2, 1, 0xD0, 0, 0, 3, false, false⟩,  -- CLK_SOURCE
  ⟨0x2002, 0x2002, 0, 5, 3, 2, 0xD0, 2800, 1000, 2800, true, false⟩,  -- STEPPE_FREQ
  ⟨0x2003, 0x2003, 1, 1, 5, 8, 0x40, 0, 0, 18446744073709551615, false, false⟩,  -- PLL_UNLOCKS
  ⟨0x2003, 0x2003, 2, 2, 5, 8, 0x40, 0, 0, 18446744073709551615, false, false⟩,  -- PLL_THROTTLE_DROPS
  ⟨0x2100, 0x2100, 0, 44, 2, 1, 0xD1, 0, 0, 2, false, false⟩,  -- POWER_DOMAIN
  ⟨0x2101, 0x2101, 1, 1, 2, 1, 0x80, 0, 1, 4, false, false⟩,  -- LADDER_REQUEST
  ⟨0x2101, 0x2101, 2, 2, 2, 1, 0x51, 0, 0, 4, false, false⟩,  -- LADDER_STATE
  ⟨0x2101, 0x2101, 3, 3, 2, 1, 0x41, 0, 0, 255, false, false⟩,  -- LADDER_RESULT
  ⟨0x2101, 0x2101, 4, 4, 11, 16, 0x51, 0, 16, 16, false, false⟩,  -- WAKE_RECORD
  ⟨0x2101, 0x2101, 5, 5, 5, 8, 0xC0, 0, 0, 18446744073709551615, false, false⟩,  -- RTC_ALARM
  ⟨0x2110, 0x2110, 1, 1, 3, 2, 0xC0, 240, 120, 240, true, false⟩,  -- POWER_LIMIT
  ⟨0x2110, 0x2110, 2, 2, 3, 2, 0xC0, 160, 100, 240, true, false⟩,  -- POWER_CAP_PHASE
  ⟨0x2110, 0x2110, 3, 3, 1, 1, 0x80, 0, 1, 1, false, false⟩,  -- POWER_CAP_CLEAR
  ⟨0x2110, 0x2110, 4, 4, 11, 8, 0x51, 0, 8, 8, false, false⟩,  -- POWER_NOW
  ⟨0x2111, 0x2111, 1, 1, 11, 32, 0xC0, 0, 32, 32, true, false⟩,  -- REG_MAP
  ⟨0x2200, 0x2200, 1, 1, 11, 16, 0x51, 0, 16, 16, false, false⟩,  -- BOOT_STATUS
  ⟨0x2200, 0x2200, 2, 2, 11, 24, 0x51, 0, 24, 24, false, false⟩,  -- IMG_SLOTS
  ⟨0x2201, 0x2201, 1, 1, 11, 16, 0x82, 0, 16, 16, false, false⟩,  -- IMG_INSTALL
  ⟨0x2201, 0x2201, 2, 2, 2, 1, 0x41, 0, 0, 4, false, false⟩,  -- IMG_INSTALL_STATE
  ⟨0x2201, 0x2201, 3, 3, 2, 1, 0x41, 0, 0, 255, false, false⟩,  -- IMG_INSTALL_RESULT
  ⟨0x2201, 0x2201, 4, 4, 11, 2, 0x82, 0, 2, 2, false, false⟩,  -- IMG_MARK
  ⟨0x2202, 0x2202, 1, 1, 2, 1, 0x51, 0, 0, 128, false, false⟩,  -- ROLLBACK_COUNT
  ⟨0x2202, 0x2202, 2, 2, 2, 1, 0x82, 0, 0, 255, false, false⟩]  -- ROLLBACK_COMMIT

def objRows2 : List ObjDesc := [
  ⟨0x2202, 0x2202, 3, 3, 2, 1, 0xC3, 0, 0, 255, false, false⟩,  -- IMG_KEY_REVOKE
  ⟨0x2300, 0x2300, 1, 1, 2, 1, 0x51, 0, 0, 4, false, false⟩,  -- LC_STATE
  ⟨0x2300, 0x2300, 2, 2, 11, 132, 0x83, 0, 132, 132, false, false⟩,  -- LC_ADVANCE
  ⟨0x2300, 0x2300, 3, 3, 2, 1, 0x51, 0, 0, 3, false, false⟩,  -- DEBUG_STATE
  ⟨0x2301, 0x2301, 1, 1, 9, 32, 0x41, 0, 32, 32, false, false⟩,  -- DEBUG_CHALLENGE
  ⟨0x2301, 0x2301, 2, 2, 11, 148, 0x80, 0, 148, 148, false, false⟩,  -- DEBUG_UNLOCK
  ⟨0x2302, 0x2302, 1, 1, 11, 4, 0xC3, 0, 4, 4, false, false⟩,  -- TAMPER_CONF
  ⟨0x2302, 0x2302, 2, 2, 9, 48, 0x51, 0, 0, 48, false, false⟩,  -- TAMPER_LOG
  ⟨0x2302, 0x2302, 3, 3, 1, 1, 0xC3, 0, 0, 1, false, false⟩,  -- TAMPER_LOCK
  ⟨0x2310, 0x2310, 1, 1, 11, 8, 0x83, 0, 8, 8, false, false⟩,  -- KEY_GENERATE
  ⟨0x2310, 0x2310, 2, 2, 11, 72, 0x83, 0, 72, 72, false, false⟩,  -- KEY_IMPORT
  ⟨0x2310, 0x2310, 3, 3, 3, 2, 0x83, 0, 0, 8191, false, false⟩,  -- KEY_DESTROY
  ⟨0x2310, 0x2310, 4, 4, 3, 2, 0x51, 8192, 0, 8192, false, false⟩,  -- KEYSTORE_FREE
  ⟨0x2311, 0x2350, 0, 127, 11, 8, 0x51, 0, 8, 8, false, false⟩,  -- KEY_INFO
  ⟨0x2360, 0x2360, 1, 1, 9, 1024, 0x80, 0, 0, 1024, false, false⟩,  -- VAULT_CMD
  ⟨0x2360, 0x2360, 2, 2, 2, 1, 0x51, 1, 0, 2, false, false⟩,  -- TRNG_STATUS
  ⟨0x2360, 0x2360, 3, 3, 5, 8, 0x41, 0, 0, 18446744073709551615, false, false⟩,  -- VAULT_CORRECTED
  ⟨0x2361, 0x2361, 0, 15, 2, 1, 0xC0, 0, 0, 2, true, false⟩,  -- MACSEC_PORT
  ⟨0x2380, 0x23FF, 0, 127, 11, 64, 0xC0, 0, 64, 64, false, false⟩,  -- SA
  ⟨0x2410, 0x2410, 0, 0, 11, 8, 0x80, 0, 8, 8, false, false⟩,  -- TENANCY_CREATE
  ⟨0x2410, 0x2410, 1, 1, 8, 4, 0x80, 0, 0, 4294967295, false, false⟩,  -- TENANCY_DESTROY
  ⟨0x2410, 0x2410, 2, 2, 3, 2, 0x51, 0, 0, 256, false, false⟩,  -- TENANCY_COUNT
  ⟨0x2410, 0x2410, 3, 3, 3, 2, 0x40, 0, 0, 576, false, false⟩,  -- STATIC_SUM_EAST
  ⟨0x2410, 0x2410, 4, 4, 3, 2, 0x40, 0, 0, 576, false, false⟩,  -- STATIC_SUM_WEST
  ⟨0x2420, 0x2420, 1, 1, 3, 2, 0x51, 0, 0, 65535, false, false⟩,  -- EPOCH_ACTIVE
  ⟨0x2420, 0x2420, 2, 2, 2, 1, 0x50, 0, 0, 3, false, false⟩,  -- EPOCH_STATE
  ⟨0x2420, 0x2420, 3, 3, 2, 1, 0x80, 0, 1, 2, false, false⟩,  -- EPOCH_COMMIT
  ⟨0x2420, 0x2420, 4, 4, 3, 2, 0xC0, 50, 1, 1000, true, false⟩,  -- COMMIT_TIMEOUT
  ⟨0x2420, 0x2420, 5, 5, 3, 2, 0xC0, 500, 10, 10000, true, false⟩,  -- RETIRE_TIMEOUT
  ⟨0x2420, 0x2420, 6, 6, 2, 1, 0x40, 0, 0, 255, false, false⟩]  -- EPOCH_LAST_RESULT

def objRows3 : List ObjDesc := [
  ⟨0x2420, 0x2420, 7, 7, 5, 8, 0x40, 0, 0, 18446744073709551615, false, false⟩,  -- EPOCH_ABORT_DROPS
  ⟨0x2420, 0x2420, 8, 8, 4, 4, 0x40, 0, 0, 4294967295, false, false⟩,  -- EPOCH_NOT_READY_UNIT
  ⟨0x2430, 0x2430, 1, 1, 3, 2, 0xC0, 2000, 10, 60000, true, false⟩,  -- MIG_HOLD_LIMIT
  ⟨0x2430, 0x2430, 2, 2, 11, 4, 0xC0, 0, 4, 4, true, false⟩,  -- MB_OPER_IRQ
  ⟨0x2440, 0x2440, 1, 1, 1, 1, 0x82, 0, 1, 1, false, false⟩,  -- CHIP_RESET
  ⟨0x2440, 0x2440, 2, 2, 3, 2, 0xC0, 0, 0, 3600, true, false⟩,  -- FAILSTOP_RESET_DELAY
  ⟨0x2440, 0x2440, 3, 3, 2, 1, 0x51, 0, 0, 1, false, false⟩,  -- FAILSTOP_STATE
  ⟨0x2441, 0x2441, 1, 4, 11, 32, 0x41, 0, 32, 32, false, false⟩,  -- LEVEL_STATS
  ⟨0x2450, 0x2450, 1, 1, 2, 1, 0x80, 0, 0, 15, false, false⟩,  -- LANE_TEST
  ⟨0x2450, 0x2450, 2, 2, 2, 1, 0x40, 0, 0, 255, false, false⟩,  -- LANE_TEST_RESULT
  ⟨0x2450, 0x2450, 3, 3, 3, 2, 0x51, 0, 0, 65535, false, false⟩,  -- LANE_RETIRED
  ⟨0x2451, 0x2451, 1, 1, 2, 1, 0x80, 0, 0, 7, false, false⟩,  -- SADDLE_PORT_TEST
  ⟨0x2451, 0x2451, 2, 2, 2, 1, 0x40, 0, 0, 255, false, false⟩,  -- SADDLE_PORT_TEST_RESULT
  ⟨0x2451, 0x2451, 3, 3, 2, 1, 0x51, 0, 0, 255, false, false⟩,  -- SADDLE_PORT_RETIRED
  ⟨0x2460, 0x2460, 1, 1, 11, 16, 0x51, 0, 16, 16, false, false⟩,  -- HEALTH
  ⟨0x2500, 0x2500, 1, 1, 3, 2, 0x51, 0, 0, 65535, false, false⟩,  -- THERM_NOW
  ⟨0x2500, 0x2500, 2, 2, 2, 1, 0xC0, 100, 60, 110, true, false⟩,  -- THERM_WARN
  ⟨0x2500, 0x2500, 3, 3, 2, 1, 0xC0, 105, 60, 110, true, false⟩,  -- THERM_CAP
  ⟨0x2501, 0x2501, 1, 1, 2, 1, 0xC0, 45, 15, 90, true, false⟩,  -- DROOP_THRESH
  ⟨0x2501, 0x2501, 2, 2, 2, 1, 0xC0, 4, 1, 64, true, false⟩,  -- DROOP_HOLD
  ⟨0x2502, 0x2502, 0, 47, 5, 8, 0x40, 0, 0, 18446744073709551615, false, false⟩,  -- DROOP_EVENTS
  ⟨0x3000, 0x3000, 1, 1, 2, 1, 0xD0, 3, 0, 4, true, false⟩,  -- PORT_MODE
  ⟨0x3000, 0x3000, 2, 2, 2, 1, 0x51, 0, 0, 255, false, false⟩,  -- LINK_UP
  ⟨0x3001, 0x3001, 0, 7, 8, 4, 0xD0, 0, 0, 4294967295, true, false⟩,  -- PORT_TENANCY
  ⟨0x3002, 0x3002, 1, 1, 4, 4, 0xC0, 600, 100, 875, false, false⟩,  -- NONWIRE_PPS_CAP
  ⟨0x3002, 0x3002, 2, 2, 2, 1, 0xC0, 8, 1, 255, false, false⟩,  -- NW_WEIGHT_HOST
  ⟨0x3002, 0x3002, 3, 3, 2, 1, 0xC0, 8, 1, 255, false, false⟩,  -- NW_WEIGHT_SADDLE
  ⟨0x3002, 0x3002, 4, 4, 2, 1, 0xC0, 2, 1, 255, false, false⟩,  -- NW_WEIGHT_STEPPE
  ⟨0x3002, 0x3002, 5, 5, 2, 1, 0xC0, 4, 1, 255, false, false⟩,  -- NW_WEIGHT_RECIRC
  ⟨0x3002, 0x3002, 6, 6, 4, 4, 0xC0, 16384, 1024, 65536, false, false⟩]  -- BASIN_NW_FLOOR

def objRows4 : List ObjDesc := [
  ⟨0x3003, 0x3003, 1, 1, 3, 2, 0xC0, 1000, 100, 10000, true, false⟩,  -- TAIL_TIMEOUT
  ⟨0x3003, 0x3003, 2, 2, 3, 2, 0xC0, 9216, 64, 16000, false, false⟩,  -- MAX_FRAME
  ⟨0x3004, 0x3004, 1, 16, 5, 8, 0x50, 0, 0, 18446744073709551615, false, false⟩,  -- DROP_COUNT
  ⟨0x3005, 0x3005, 0, 7, 5, 8, 0x50, 0, 0, 18446744073709551615, false, false⟩,  -- BASIN_DROPS
  ⟨0x3006, 0x3006, 1, 1, 4, 4, 0x40, 196608, 0, 196608, false, false⟩,  -- BASIN_FREE
  ⟨0x3006, 0x3006, 2, 2, 4, 4, 0x40, 0, 0, 262144, false, false⟩,  -- CROSS_FIFO_PEAK
  ⟨0x3007, 0x3007, 1, 1, 1, 1, 0x51, 1, 0, 1, false, false⟩,  -- LINE_RATE_OK
  ⟨0x3007, 0x3007, 2, 2, 5, 8, 0x40, 0, 0, 18446744073709551615, false, false⟩,  -- REC_RO_WRITES
  ⟨0x3007, 0x3007, 3, 3, 5, 8, 0x40, 0, 0, 18446744073709551615, false, false⟩,  -- TEN_OVERRIDE_REJECTS
  ⟨0x3010, 0x3010, 1, 1, 2, 1, 0x51, 96, 0, 96, false, false⟩,  -- COL_ACTIVE
  ⟨0x3010, 0x3010, 2, 2, 2, 1, 0x51, 4, 0, 4, false, false⟩,  -- COL_SPARES
  ⟨0x3010, 0x3010, 3, 3, 2, 1, 0x41, 0, 0, 100, false, false⟩,  -- COL_RETIRED
  ⟨0x3010, 0x3010, 4, 4, 9, 25, 0x40, 0, 25, 25, false, false⟩,  -- COL_MAP
  ⟨0x3010, 0x3010, 5, 5, 3, 2, 0x40, 0, 0, 700, false, false⟩,  -- COL_THREADS_OFF
  ⟨0x3010, 0x3010, 6, 6, 5, 8, 0x40, 0, 0, 18446744073709551615, false, false⟩,  -- COL_CORRECTED
  ⟨0x3011, 0x3011, 1, 1, 2, 1, 0x80, 0, 0, 99, false, false⟩,  -- COL_TEST
  ⟨0x3011, 0x3011, 2, 2, 2, 1, 0x40, 0, 0, 2, false, false⟩,  -- COL_TEST_STATE
  ⟨0x3011, 0x3011, 3, 3, 2, 1, 0x40, 0, 0, 99, false, false⟩,  -- COL_TEST_CORE
  ⟨0x3011, 0x3011, 4, 4, 2, 1, 0x40, 0, 0, 255, false, false⟩,  -- COL_TEST_RESULT
  ⟨0x3012, 0x3012, 1, 1, 3, 2, 0xC0, 2000, 500, 8000, true, false⟩,  -- HDR_WAIT_LIMIT
  ⟨0x3012, 0x3012, 2, 2, 3, 2, 0xC0, 4000, 1000, 8000, true, false⟩,  -- TBL_WAIT_LIMIT
  ⟨0x3013, 0x3013, 1, 63, 5, 8, 0x40, 0, 0, 18446744073709551615, false, false⟩,  -- COL_FAULTS
  ⟨0x3013, 0x3013, 64, 64, 5, 8, 0x40, 0, 0, 18446744073709551615, false, false⟩,  -- FORK_REFUSED
  ⟨0x3013, 0x3013, 65, 65, 5, 8, 0x40, 0, 0, 18446744073709551615, false, false⟩,  -- SUP_NOTE_DROPS
  ⟨0x3014, 0x3014, 1, 1, 3, 2, 0x40, 8192, 0, 8192, false, false⟩,  -- NARROWS_FREE
  ⟨0x3014, 0x3014, 2, 2, 5, 8, 0x40, 0, 0, 18446744073709551615, false, false⟩,  -- NARROWS_FULL
  ⟨0x3014, 0x3014, 3, 3, 3, 2, 0x40, 0, 0, 1024, false, false⟩,  -- RELBUF_PEAK
  ⟨0x3015, 0x3015, 0, 31, 11, 12, 0xC0, 0, 12, 12, false, false⟩,  -- COND_QUEUE
  ⟨0x3016, 0x3016, 1, 1, 2, 1, 0xC0, 0, 0, 255, false, false⟩,  -- COND_SW
  ⟨0x3017, 0x3017, 1, 1, 11, 12, 0xC0, 0, 12, 12, false, true⟩]  -- COL_PROGRAM

def objRows5 : List ObjDesc := [
  ⟨0x3017, 0x3017, 2, 2, 4, 4, 0x51, 0, 0, 4294967295, false, false⟩,  -- COL_PROG_ID
  ⟨0x3017, 0x3017, 3, 3, 2, 1, 0x40, 0, 0, 3, false, false⟩,  -- COL_PROG_STATE
  ⟨0x3017, 0x3017, 4, 4, 4, 4, 0x40, 0, 0, 4294967295, false, false⟩,  -- COL_PROG_REJECT
  ⟨0x3017, 0x3017, 5, 5, 5, 8, 0x40, 0, 0, 18446744073709551615, false, false⟩,  -- COL_STIM_COUNT
  ⟨0x3020, 0x302B, 1, 1, 11, 20, 0xC0, 0, 20, 20, false, true⟩,  -- STAGE_DEF
  ⟨0x3030, 0x303B, 0, 23, 11, 8, 0xC0, 0, 8, 8, false, true⟩,  -- KEY_SEGMENT
  ⟨0x3040, 0x3057, 0, 127, 8, 4, 0xC0, 0, 0, 4294967295, false, false⟩,  -- PART_MAP
  ⟨0x3060, 0x306B, 1, 1, 5, 8, 0x50, 0, 0, 18446744073709551615, false, false⟩,  -- STAGE_HITS
  ⟨0x3060, 0x306B, 2, 2, 5, 8, 0x50, 0, 0, 18446744073709551615, false, false⟩,  -- STAGE_MISSES
  ⟨0x3060, 0x306B, 3, 3, 5, 8, 0x40, 0, 0, 18446744073709551615, false, false⟩,  -- LOOKUP_TIMEOUTS
  ⟨0x3060, 0x306B, 4, 4, 5, 8, 0x40, 0, 0, 18446744073709551615, false, false⟩,  -- PARTITION_MISMATCH
  ⟨0x3070, 0x3070, 1, 5, 5, 8, 0x50, 0, 0, 18446744073709551615, false, false⟩,  -- DIRECTIVE_REJECTS
  ⟨0x3070, 0x3070, 6, 6, 5, 8, 0x40, 0, 0, 18446744073709551615, false, false⟩,  -- EDIT_FAULTS
  ⟨0x3070, 0x3070, 7, 7, 5, 8, 0x50, 0, 0, 18446744073709551615, false, false⟩,  -- TTL_EXPIRED
  ⟨0x3070, 0x3070, 8, 8, 5, 8, 0x40, 0, 0, 18446744073709551615, false, false⟩,  -- MIRROR_REFUSED
  ⟨0x3070, 0x3070, 9, 9, 5, 8, 0x40, 0, 0, 18446744073709551615, false, false⟩,  -- BACKSKIPS
  ⟨0x3070, 0x3070, 10, 10, 5, 8, 0x40, 0, 0, 18446744073709551615, false, false⟩,  -- STAGE_CORRECTED
  ⟨0x3070, 0x3070, 11, 11, 5, 8, 0x40, 0, 0, 18446744073709551615, false, false⟩,  -- STAGE_PARITY
  ⟨0x3071, 0x3071, 1, 1, 3, 2, 0xC0, 20, 2, 1000, true, false⟩,  -- STAGE_LOOKUP_TIMEOUT
  ⟨0x3072, 0x3072, 1, 1, 4, 4, 0xC0, 100000, 1000, 10000000, false, false⟩,  -- OPER_PUNT_RATE
  ⟨0x3072, 0x3072, 2, 2, 5, 8, 0x40, 0, 0, 18446744073709551615, false, false⟩,  -- OPER_PUNT_DROPS
  ⟨0x3100, 0x33FF, 0, 15, 11, 32, 0xC0, 0, 32, 32, false, true⟩,  -- ACTION
  ⟨0x3400, 0x35FF, 0, 7, 11, 72, 0xC0, 0, 72, 72, false, true⟩,  -- TEMPLATE
  ⟨0x3600, 0x3600, 1, 1, 11, 24, 0x80, 0, 24, 24, false, false⟩,  -- PARTITION_CREATE
  ⟨0x3600, 0x3600, 2, 2, 8, 4, 0x80, 0, 0, 4294967295, false, false⟩,  -- PARTITION_DESTROY
  ⟨0x3610, 0x3617, 0, 127, 11, 60, 0x50, 0, 60, 60, false, false⟩,  -- PART_INFO
  ⟨0x3620, 0x3620, 1, 6, 4, 4, 0x51, 0, 0, 4294967295, false, false⟩,  -- TABLE_CAPACITY
  ⟨0x3621, 0x3621, 1, 6, 4, 4, 0x40, 0, 0, 4294967295, false, false⟩,  -- TABLE_FREE
  ⟨0x3630, 0x3630, 1, 1, 3, 2, 0xC0, 1000, 1, 16000, true, false⟩,  -- AGE_TICK
  ⟨0x3630, 0x3630, 2, 2, 3, 2, 0x40, 0, 0, 65535, false, false⟩]  -- AGE_NOW

def objRows6 : List ObjDesc := [
  ⟨0x3631, 0x3631, 0, 16, 4, 4, 0xC0, 1048576, 0, 1048576, true, false⟩,  -- LEARN_LIMIT
  ⟨0x3632, 0x3632, 0, 16, 4, 4, 0x40, 0, 0, 1048576, false, false⟩,  -- LEARN_COUNT
  ⟨0x3633, 0x3633, 0, 16, 2, 1, 0xC0, 0, 0, 1, true, false⟩,  -- LEARN_EXCESS_MODE
  ⟨0x3634, 0x3634, 0, 16, 5, 8, 0x40, 0, 0, 18446744073709551615, false, false⟩,  -- LEARN_EXCESS
  ⟨0x3635, 0x3635, 1, 1, 5, 8, 0x40, 0, 0, 18446744073709551615, false, false⟩,  -- LEARN_QUEUE_DROPS
  ⟨0x3635, 0x3635, 2, 2, 5, 8, 0x40, 0, 0, 18446744073709551615, false, false⟩,  -- LEARN_NO_ROOM
  ⟨0x3635, 0x3635, 3, 3, 5, 8, 0x40, 0, 0, 18446744073709551615, false, false⟩,  -- LEARN_SKIP_LOCKED
  ⟨0x3635, 0x3635, 4, 4, 5, 8, 0x40, 0, 0, 18446744073709551615, false, false⟩,  -- LEARN_MOVES
  ⟨0x3635, 0x3635, 5, 5, 5, 8, 0x40, 0, 0, 18446744073709551615, false, false⟩,  -- AGED_OUT
  ⟨0x3635, 0x3635, 6, 6, 5, 8, 0x40, 0, 0, 18446744073709551615, false, false⟩,  -- LEARN_LOG_OVERFLOW
  ⟨0x3636, 0x3636, 1, 1, 9, 1024, 0x40, 0, 0, 1024, false, false⟩,  -- LEARN_LOG
  ⟨0x3637, 0x3637, 1, 1, 5, 8, 0x40, 0, 0, 18446744073709551615, false, false⟩,  -- TABLE_CORRECTED
  ⟨0x3637, 0x3637, 2, 2, 5, 8, 0x40, 0, 0, 18446744073709551615, false, false⟩,  -- TCAM_SCRUB_FIXES
  ⟨0x3637, 0x3637, 3, 3, 5, 8, 0x41, 0, 0, 18446744073709551615, false, false⟩,  -- ENTRIES_LOST
  ⟨0x3637, 0x3637, 4, 4, 5, 8, 0x40, 0, 0, 18446744073709551615, false, false⟩,  -- LOCKS_EXPIRED
  ⟨0x3637, 0x3637, 5, 5, 5, 8, 0x40, 0, 0, 18446744073709551615, false, false⟩,  -- TC_BAD_DOORBELLS
  ⟨0x3640, 0x3640, 1, 1, 3, 2, 0x80, 0, 0, 65535, false, false⟩,  -- TABLE_BANK_TEST
  ⟨0x3640, 0x3640, 2, 2, 2, 1, 0x40, 0, 0, 2, false, false⟩,  -- TABLE_TEST_STATE
  ⟨0x3640, 0x3640, 3, 3, 2, 1, 0x40, 0, 0, 255, false, false⟩,  -- TABLE_TEST_RESULT
  ⟨0x3640, 0x3640, 4, 4, 9, 6, 0x41, 0, 6, 6, false, false⟩,  -- TABLE_SPARES
  ⟨0x4000, 0x4000, 1, 1, 11, 32, 0x80, 0, 32, 32, false, false⟩,  -- QUEUE_CREATE
  ⟨0x4000, 0x4000, 2, 2, 8, 4, 0x80, 0, 0, 4294967295, false, false⟩,  -- QUEUE_DESTROY
  ⟨0x4000, 0x4000, 3, 3, 11, 20, 0x80, 0, 20, 20, false, false⟩,  -- SHAPER_CREATE
  ⟨0x4000, 0x4000, 4, 4, 8, 4, 0x80, 0, 0, 4294967295, false, false⟩,  -- SHAPER_DESTROY
  ⟨0x4001, 0x4001, 1, 1, 2, 1, 0xC0, 8, 0, 16, true, false⟩,  -- FLOOD_SIZE
  ⟨0x4001, 0x4001, 2, 2, 5, 8, 0x40, 0, 0, 18446744073709551615, false, false⟩,  -- FLOOD_FREE
  ⟨0x4002, 0x4002, 1, 1, 5, 8, 0x50, 0, 0, 18446744073709551615, false, false⟩,  -- QUEUE_FULL
  ⟨0x4002, 0x4002, 2, 2, 5, 8, 0x40, 0, 0, 18446744073709551615, false, false⟩,  -- FLOOD_FULL
  ⟨0x4002, 0x4002, 3, 3, 5, 8, 0x40, 0, 0, 18446744073709551615, false, false⟩,  -- QUEUE_FLUSHED
  ⟨0x4002, 0x4002, 4, 4, 5, 8, 0x40, 0, 0, 18446744073709551615, false, false⟩]  -- FLOOD_UNCORRECTED

def objRows7 : List ObjDesc := [
  ⟨0x4002, 0x4002, 5, 5, 5, 8, 0x40, 0, 0, 18446744073709551615, false, false⟩,  -- TM_CORRECTED
  ⟨0x4010, 0x4010, 0, 14, 11, 16, 0x50, 0, 16, 16, false, false⟩,  -- PORT_NODE
  ⟨0x4020, 0x4023, 0, 127, 11, 16, 0xC0, 0, 16, 16, false, true⟩,  -- GROUP_NODE
  ⟨0x4030, 0x403F, 0, 127, 11, 16, 0xC0, 0, 16, 16, false, true⟩,  -- TENANCY_NODE
  ⟨0x4040, 0x40BF, 0, 127, 11, 16, 0xC0, 72057594037927936, 16, 16, false, true⟩,  -- CLASS_NODE
  ⟨0x4100, 0x41FF, 0, 127, 11, 32, 0xD0, 0, 32, 32, false, false⟩,  -- QUEUE_CONF
  ⟨0x4200, 0x42FF, 0, 127, 11, 48, 0x50, 0, 48, 48, false, false⟩,  -- QUEUE_STATE
  ⟨0x4300, 0x441F, 0, 127, 11, 16, 0xC0, 0, 16, 16, false, false⟩,  -- SHAPER
  ⟨0x4500, 0x4500, 1, 1, 11, 28, 0x80, 0, 28, 28, false, false⟩,  -- POLICER_CREATE
  ⟨0x4500, 0x4500, 2, 2, 8, 4, 0x80, 0, 0, 4294967295, false, false⟩,  -- POLICER_DESTROY
  ⟨0x4510, 0x458F, 0, 127, 11, 24, 0xC0, 0, 24, 24, false, false⟩,  -- POLICER
  ⟨0x4590, 0x460F, 0, 127, 11, 48, 0x50, 0, 48, 48, false, false⟩,  -- POLICER_STATS
  ⟨0x4610, 0x4610, 0, 7, 11, 16, 0xC0, 5120, 16, 16, false, false⟩,  -- GATE_CONF
  ⟨0x4618, 0x4618, 1, 1, 2, 1, 0x80, 0, 0, 7, false, false⟩,  -- GATE_APPLY
  ⟨0x4618, 0x4618, 2, 2, 5, 8, 0x40, 0, 0, 18446744073709551615, false, false⟩,  -- GATE_OVERSIZE
  ⟨0x4618, 0x4618, 3, 3, 2, 1, 0xC0, 0, 0, 255, true, false⟩,  -- PTP_ONE_STEP
  ⟨0x4620, 0x462F, 0, 127, 11, 8, 0xC0, 0, 8, 8, false, false⟩,  -- GATE_ENTRY
  ⟨0x4630, 0x4630, 1, 1, 8, 4, 0x80, 0, 0, 4294967295, false, false⟩,  -- REPL_CREATE
  ⟨0x4630, 0x4630, 2, 2, 8, 4, 0x80, 0, 0, 4294967295, false, false⟩,  -- REPL_DESTROY
  ⟨0x4630, 0x4630, 3, 3, 11, 1024, 0x80, 0, 16, 1024, false, false⟩,  -- REPL_WRITE
  ⟨0x4630, 0x4630, 4, 4, 11, 6, 0x80, 0, 6, 6, false, false⟩,  -- REPL_APPLY
  ⟨0x4630, 0x4630, 5, 5, 11, 6, 0x80, 0, 6, 6, false, false⟩,  -- REPL_QUERY
  ⟨0x4630, 0x4630, 6, 6, 11, 978, 0x40, 0, 18, 978, false, false⟩,  -- REPL_QUERY_RESULT
  ⟨0x4630, 0x4630, 7, 7, 5, 8, 0x40, 0, 0, 18446744073709551615, false, false⟩,  -- REPL_PRUNED
  ⟨0x4630, 0x4630, 8, 8, 5, 8, 0x40, 0, 0, 18446744073709551615, false, false⟩,  -- REPL_BACKLOG_DROPS
  ⟨0x4640, 0x4640, 1, 1, 5, 8, 0x40, 0, 0, 18446744073709551615, false, false⟩,  -- TELEM_SKIPPED
  ⟨0x4640, 0x4640, 2, 2, 9, 1024, 0x40, 0, 0, 1024, false, false⟩,  -- TELEM_LOG
  ⟨0x4640, 0x4640, 3, 3, 5, 8, 0x40, 0, 0, 18446744073709551615, false, false⟩,  -- PGR_CORRECTED
  ⟨0x4700, 0x471F, 0, 127, 11, 8, 0xC0, 0, 8, 8, false, false⟩,  -- TELEM_WATCH
  ⟨0x5000, 0x5000, 1, 1, 11, 16, 0x51, 0, 16, 16, false, false⟩]  -- HOST_LINK

def objRows8 : List ObjDesc := [
  ⟨0x5000, 0x5000, 2, 2, 11, 16, 0x51, 0, 16, 16, false, false⟩,  -- HOST_IDS
  ⟨0x5000, 0x5000, 3, 3, 11, 4, 0xD0, 0, 4, 4, true, false⟩,  -- HOST_SUBSYS
  ⟨0x5001, 0x5001, 1, 1, 11, 6, 0xD0, 2199040033024, 6, 6, true, false⟩,  -- VF_SPLIT
  ⟨0x5001, 0x5001, 2, 2, 11, 8, 0xD0, 18023194736722176, 8, 8, true, false⟩,  -- PF_MSIX
  ⟨0x5001, 0x5001, 3, 3, 11, 6, 0xD0, 274882101264, 6, 6, true, false⟩,  -- VF_MSIX
  ⟨0x5001, 0x5001, 4, 4, 11, 7, 0xD0, 8477364071175194, 7, 7, true, false⟩,  -- BAR2_LOG2
  ⟨0x5001, 0x5001, 5, 5, 4, 4, 0x50, 7872, 0, 65536, false, false⟩,  -- MSIX_POOL_FREE
  ⟨0x5010, 0x5010, 1, 1, 11, 8, 0x80, 0, 8, 8, false, false⟩,  -- VF_ASSIGN
  ⟨0x5010, 0x5010, 2, 2, 8, 4, 0x80, 0, 0, 4294967295, false, false⟩,  -- VF_RELEASE
  ⟨0x5010, 0x5010, 3, 3, 8, 4, 0x80, 0, 0, 4294967295, false, false⟩,  -- VF_RESET
  ⟨0x5011, 0x5018, 0, 127, 11, 12, 0x50, 0, 12, 12, false, false⟩,  -- VF_INFO
  ⟨0x5020, 0x5020, 1, 1, 2, 1, 0xC0, 64, 1, 255, true, false⟩,  -- HOST_OPER_WEIGHT
  ⟨0x5020, 0x5020, 2, 2, 2, 1, 0xC0, 16, 1, 255, true, false⟩,  -- HOST_F_WEIGHT
  ⟨0x5030, 0x5030, 1, 1, 5, 8, 0x50, 0, 0, 18446744073709551615, false, false⟩,  -- WIN_MISS
  ⟨0x5030, 0x5030, 2, 2, 11, 12, 0x50, 0, 12, 12, false, false⟩,  -- WIN_FIRST_MISS
  ⟨0x5030, 0x5030, 3, 3, 5, 8, 0x40, 0, 0, 18446744073709551615, false, false⟩,  -- HIF_SILENCED_DROPS
  ⟨0x5030, 0x5030, 4, 4, 5, 8, 0x40, 0, 0, 18446744073709551615, false, false⟩,  -- HIF_CORRECTED
  ⟨0x5030, 0x5030, 5, 5, 5, 8, 0x40, 0, 0, 18446744073709551615, false, false⟩,  -- SADDLE_MMIO_DROPS
  ⟨0x5030, 0x5030, 6, 6, 5, 8, 0x40, 0, 0, 18446744073709551615, false, false⟩,  -- HIF_POISONED_SENT
  ⟨0x5100, 0x511F, 0, 127, 11, 24, 0xD0, 0, 24, 24, true, false⟩,  -- WIN_ENTRY
  ⟨0x5800, 0x5800, 1, 1, 4, 4, 0x51, 65536, 0, 65536, false, false⟩,  -- QE_POOL_FREE
  ⟨0x5800, 0x5800, 2, 2, 3, 2, 0xC0, 1000, 100, 50000, true, false⟩,  -- QE_READ_TIMEOUT
  ⟨0x5800, 0x5800, 3, 3, 2, 1, 0xC0, 64, 1, 255, true, false⟩,  -- QE_OPER_WEIGHT
  ⟨0x5800, 0x5800, 4, 4, 2, 1, 0xC0, 16, 1, 255, true, false⟩,  -- QE_F_WEIGHT
  ⟨0x5801, 0x5801, 1, 1, 5, 8, 0x50, 0, 0, 18446744073709551615, false, false⟩,  -- QE_BAD_DOORBELLS
  ⟨0x5801, 0x5801, 2, 2, 5, 8, 0x50, 0, 0, 18446744073709551615, false, false⟩,  -- QE_RX_OVERSIZE
  ⟨0x5801, 0x5801, 3, 3, 5, 8, 0x40, 0, 0, 18446744073709551615, false, false⟩,  -- QE_CORRECTED
  ⟨0x5801, 0x5801, 4, 4, 5, 8, 0x40, 0, 0, 18446744073709551615, false, false⟩,  -- QE_DESC_LOST
  ⟨0x5802, 0x5802, 1, 1, 11, 12, 0x50, 0, 12, 12, false, false⟩,  -- QE_LAST_FAULT
  ⟨0x5A00, 0x5BFF, 0, 127, 11, 26, 0x50, 0, 26, 26, false, false⟩]  -- QUEUE_INFO

def objRows9 : List ObjDesc := [
  ⟨0x6000, 0x6000, 1, 1, 11, 8, 0x80, 0, 8, 8, false, false⟩,  -- NVME_CTRL_CREATE
  ⟨0x6000, 0x6000, 2, 2, 8, 4, 0x80, 0, 0, 4294967295, false, false⟩,  -- NVME_CTRL_DESTROY
  ⟨0x6010, 0x6010, 0, 15, 11, 20, 0xC0, 0, 20, 20, true, false⟩,  -- NVME_BACKEND_RING
  ⟨0x6020, 0x6020, 1, 1, 3, 2, 0xC0, 2000, 100, 30000, true, false⟩,  -- RLOCK_WAIT_LIMIT
  ⟨0x6020, 0x6020, 2, 2, 3, 2, 0xC0, 30, 1, 255, true, false⟩,  -- NVME_BACKEND_TIMEOUT
  ⟨0x6020, 0x6020, 3, 3, 3, 2, 0xC0, 10, 1, 600, true, false⟩,  -- NVME_CQ_FULL_LIMIT
  ⟨0x6030, 0x6030, 0, 0, 3, 2, 0xD0, 2500, 1, 65535, true, false⟩,  -- NVME_PS_POWER
  ⟨0x6030, 0x6030, 1, 1, 3, 2, 0xD0, 1200, 1, 65535, true, false⟩,  -- NVME_PS_POWER
  ⟨0x6030, 0x6030, 2, 2, 3, 2, 0xD0, 600, 1, 65535, true, false⟩,  -- NVME_PS_POWER
  ⟨0x6030, 0x6030, 3, 3, 3, 2, 0xD0, 100, 1, 65535, true, false⟩,  -- NVME_PS_POWER
  ⟨0x6040, 0x6040, 1, 1, 3, 2, 0x40, 16384, 0, 16384, false, false⟩,  -- RLOCK_FREE
  ⟨0x6040, 0x6040, 2, 2, 5, 8, 0x40, 0, 0, 18446744073709551615, false, false⟩,  -- RLOCK_FULL
  ⟨0x6040, 0x6040, 3, 3, 5, 8, 0x50, 0, 0, 18446744073709551615, false, false⟩,  -- RLOCK_TIMEOUTS
  ⟨0x6040, 0x6040, 4, 4, 5, 8, 0x50, 0, 0, 18446744073709551615, false, false⟩,  -- NVME_POOL_REFUSALS
  ⟨0x6040, 0x6040, 5, 5, 5, 8, 0x50, 0, 0, 18446744073709551615, false, false⟩,  -- NVME_BAD_DB
  ⟨0x6040, 0x6040, 6, 6, 5, 8, 0x40, 0, 0, 18446744073709551615, false, false⟩,  -- NVME_LATE_RESPONSES
  ⟨0x6040, 0x6040, 7, 7, 5, 8, 0x40, 0, 0, 18446744073709551615, false, false⟩,  -- STOR_CORRECTED
  ⟨0x6040, 0x6040, 8, 8, 5, 8, 0x40, 0, 0, 18446744073709551615, false, false⟩,  -- NVME_DATA_ERRORS
  ⟨0x6100, 0x6101, 0, 127, 11, 14, 0x50, 0, 14, 14, false, false⟩,  -- NVME_CTRL_INFO
  ⟨0x6200, 0x621F, 0, 127, 11, 48, 0xD0, 39402006187220484748318754053700330223871391507279186711275168909295366413949519107060327022604841428366125244088320, 48, 48, true, false⟩,  -- NVME_VOL
  ⟨0x6800, 0x6800, 0, 3, 2, 1, 0xD0, 0, 0, 2, true, false⟩,  -- SLOT_MODE
  ⟨0x6801, 0x6801, 0, 3, 1, 1, 0xD0, 0, 0, 1, true, false⟩,  -- SLOT_POWER
  ⟨0x6802, 0x6802, 0, 3, 4, 4, 0xC0, 0, 0, 4294967295, true, false⟩,  -- SLOT_TARGET
  ⟨0x6803, 0x6803, 1, 1, 11, 24, 0x80, 0, 24, 24, false, false⟩,  -- SLOT_LOAD
  ⟨0x6803, 0x6803, 2, 2, 2, 1, 0x80, 0, 0, 3, false, false⟩,  -- SLOT_UNLOAD
  ⟨0x6804, 0x6804, 0, 3, 2, 1, 0x51, 0, 0, 7, false, false⟩,  -- SLOT_STATE
  ⟨0x6805, 0x6805, 0, 3, 2, 1, 0x51, 0, 0, 255, false, false⟩,  -- SLOT_RESULT
  ⟨0x6806, 0x6806, 0, 7, 3, 2, 0x50, 0, 0, 65535, false, false⟩,  -- SHELL_VERSION
  ⟨0x6807, 0x6807, 0, 7, 9, 97, 0xC3, 0, 0, 97, true, false⟩,  -- BS_KEY
  ⟨0x6808, 0x6808, 0, 7, 4, 4, 0xC3, 0, 0, 4294967295, true, false⟩]  -- BS_MIN_VERSION

def objRows10 : List ObjDesc := [
  ⟨0x6810, 0x6810, 1, 1, 11, 24, 0x80, 0, 24, 24, false, false⟩,  -- REGION_CREATE
  ⟨0x6810, 0x6810, 2, 2, 8, 4, 0x80, 0, 0, 4294967295, false, false⟩,  -- REGION_DESTROY
  ⟨0x6810, 0x6810, 3, 3, 8, 4, 0x80, 0, 0, 4294967295, false, false⟩,  -- REGION_RESET
  ⟨0x6811, 0x6811, 0, 63, 11, 29, 0x50, 0, 29, 29, false, false⟩,  -- REGION_INFO
  ⟨0x6812, 0x6812, 0, 63, 11, 24, 0x50, 0, 24, 24, false, false⟩,  -- REGION_FAULT
  ⟨0x6820, 0x6820, 1, 1, 11, 16, 0x80, 0, 16, 16, false, false⟩,  -- SG_INVALIDATE
  ⟨0x6821, 0x6821, 0, 7, 1, 1, 0x80, 0, 1, 1, false, false⟩,  -- SADDLE_PORT_RESET
  ⟨0x6822, 0x6822, 0, 7, 2, 1, 0xC0, 0, 0, 2, true, false⟩,  -- SADDLE_ASPM
  ⟨0x6823, 0x6823, 1, 1, 3, 2, 0xC0, 100, 10, 10000, false, false⟩,  -- SADDLE_L1_IDLE
  ⟨0x6823, 0x6823, 2, 2, 3, 2, 0xC0, 1000, 50, 50000, true, false⟩,  -- SADDLE_CPL_TIMEOUT
  ⟨0x6824, 0x6824, 0, 7, 11, 16, 0x50, 0, 16, 16, false, false⟩,  -- PORT_LINK
  ⟨0x6825, 0x6825, 1, 1, 5, 8, 0x40, 0, 0, 18446744073709551615, false, false⟩,  -- SG_UNATTRIBUTED
  ⟨0x6825, 0x6825, 2, 2, 5, 8, 0x40, 0, 0, 18446744073709551615, false, false⟩,  -- SG_RX_OVERSIZE
  ⟨0x6825, 0x6825, 3, 3, 5, 8, 0x40, 0, 0, 18446744073709551615, false, false⟩,  -- SG_TX_VIOLATIONS
  ⟨0x6825, 0x6825, 4, 4, 5, 8, 0x40, 0, 0, 18446744073709551615, false, false⟩,  -- SG_CORRECTED
  ⟨0x6830, 0x6830, 0, 62, 11, 32, 0xC0, 0, 32, 32, false, false⟩,  -- OPER_WINDOW
  ⟨0x7000, 0x7000, 1, 1, 2, 1, 0x51, 6, 0, 6, false, false⟩,  -- STEPPE_QUADS_ACTIVE
  ⟨0x7000, 0x7000, 2, 2, 2, 1, 0x80, 0, 0, 5, false, false⟩,  -- QUAD_TEST
  ⟨0x7000, 0x7000, 3, 3, 2, 1, 0x40, 0, 0, 1, false, false⟩,  -- QUAD_TEST_STATE
  ⟨0x7000, 0x7000, 4, 4, 2, 1, 0x40, 0, 0, 255, false, false⟩,  -- QUAD_TEST_RESULT
  ⟨0x7000, 0x7000, 5, 5, 2, 1, 0x41, 0, 0, 255, false, false⟩,  -- QUAD_RETIRED
  ⟨0x7002, 0x7002, 1, 1, 5, 8, 0x40, 0, 0, 18446744073709551615, false, false⟩,  -- IRQ_DROPS
  ⟨0x7010, 0x7017, 0, 127, 11, 4, 0xC0, 4278190080, 4, 4, true, false⟩,  -- STEPPE_IRQ_ROUTE
  ⟨0x7020, 0x7020, 1, 1, 3, 2, 0xC0, 8000, 4800, 8000, true, false⟩,  -- DDR_SPEED
  ⟨0x7020, 0x7020, 2, 2, 1, 1, 0xC0, 1, 0, 1, true, false⟩,  -- DDR_TRAIN_FAST
  ⟨0x7020, 0x7020, 3, 3, 11, 8, 0x51, 0, 8, 8, false, false⟩,  -- DDR_STATUS
  ⟨0x7020, 0x7020, 4, 4, 5, 8, 0x51, 0, 0, 18446744073709551615, false, false⟩,  -- DDR_CAPACITY
  ⟨0x7030, 0x7030, 0, 1, 11, 2, 0xC0, 514, 2, 2, true, false⟩,  -- HBM_CARVE
  ⟨0x7030, 0x7030, 2, 2, 11, 64, 0x50, 0, 64, 64, false, false⟩,  -- HBM_LAYOUT
  ⟨0x7030, 0x7030, 3, 4, 11, 12, 0x51, 0, 12, 12, false, false⟩]  -- HBM_STATUS

def objRows11 : List ObjDesc := [
  ⟨0x7030, 0x7030, 5, 5, 9, 12, 0x51, 0, 12, 12, false, false⟩,  -- HBM_RETIRED
  ⟨0x7040, 0x7040, 1, 1, 5, 8, 0x40, 0, 0, 18446744073709551615, false, false⟩,  -- MEM_CORRECTED
  ⟨0x7040, 0x7040, 2, 2, 5, 8, 0x40, 0, 0, 18446744073709551615, false, false⟩,  -- MEM_UNCORRECTED
  ⟨0x7050, 0x7050, 1, 1, 3, 2, 0xC0, 63, 0, 65535, true, false⟩,  -- PERIPH_EN
  ⟨0x7050, 0x7050, 2, 2, 2, 1, 0xC0, 0, 0, 1, true, false⟩,  -- UART_OWNER
  ⟨0x7051, 0x7051, 1, 1, 3, 2, 0xC0, 0, 0, 65535, true, false⟩,  -- GPIO_DIR
  ⟨0x7051, 0x7051, 2, 2, 3, 2, 0xC0, 0, 0, 65535, false, false⟩,  -- GPIO_OUT
  ⟨0x7051, 0x7051, 3, 3, 3, 2, 0x40, 0, 0, 65535, false, false⟩,  -- GPIO_IN
  ⟨0x7052, 0x7052, 1, 1, 3, 2, 0xC0, 10, 1, 1000, true, false⟩,  -- SPI_EDGE_GAP
  ⟨0x7052, 0x7052, 2, 2, 11, 16, 0x40, 0, 16, 16, false, false⟩,  -- SPIT_COUNTS
  ⟨0x7052, 0x7052, 3, 3, 11, 16, 0xC0, 0, 16, 16, false, false⟩,  -- BMC_SCRATCH
  ⟨0x7800, 0x7800, 1, 1, 11, 12, 0x51, 0, 12, 12, false, false⟩,  -- TIME_NOW
  ⟨0x7800, 0x7800, 2, 2, 11, 12, 0x80, 0, 12, 12, false, false⟩,  -- TIME_SET
  ⟨0x7800, 0x7800, 3, 3, 11, 8, 0x80, 0, 8, 8, false, false⟩,  -- TIME_STEP
  ⟨0x7800, 0x7800, 4, 4, 6, 4, 0xC0, 0, 18446744073209551616, 500000000, false, false⟩,  -- TIME_RATE
  ⟨0x7900, 0x797F, 0, 127, 11, 32, 0x50, 0, 32, 32, false, false⟩,  -- SA_STATS
  ⟨0xC000, 0xC000, 1, 1, 2, 1, 0x55, 0, 1, 3, false, false⟩,  -- TEN_STATE
  ⟨0xC000, 0xC000, 2, 2, 2, 1, 0x55, 0, 1, 3, false, false⟩,  -- TEN_MODE
  ⟨0xC000, 0xC000, 3, 3, 2, 1, 0x50, 0, 0, 1, false, false⟩,  -- TEN_SHARE_KIND
  ⟨0xC000, 0xC000, 4, 4, 3, 2, 0xD0, 0, 0, 576, false, false⟩,  -- TEN_SHARE_EAST
  ⟨0xC000, 0xC000, 5, 5, 3, 2, 0xD0, 0, 0, 576, false, false⟩,  -- TEN_SHARE_WEST
  ⟨0xC000, 0xC000, 6, 6, 1, 1, 0x80, 0, 1, 1, false, false⟩,  -- TEN_RESET
  ⟨0xC001, 0xC001, 1, 25, 4, 4, 0xD4, 0, 0, 65536, false, false⟩,  -- TEN_QUOTA
  ⟨0xC002, 0xC002, 1, 25, 4, 4, 0x54, 0, 0, 4294967295, false, false⟩,  -- TEN_USAGE
  ⟨0xC010, 0xC010, 1, 1, 9, 48, 0xC4, 0, 0, 48, false, false⟩,  -- ANCHOR_T
  ⟨0xC020, 0xC020, 1, 2, 4, 4, 0xD4, 10000, 0, 1000000, false, false⟩,  -- PUNT_RATE
  ⟨0xC020, 0xC020, 3, 4, 5, 8, 0x54, 0, 0, 18446744073709551615, false, false⟩,  -- PUNT_DROPS
  ⟨0xC030, 0xC030, 0, 62, 11, 32, 0xD4, 0, 32, 32, false, false⟩,  -- WINDOW
  ⟨0xC040, 0xC040, 1, 1, 2, 1, 0xD4, 16, 1, 255, false, false⟩,  -- HOST_WEIGHT
  ⟨0xC040, 0xC040, 2, 2, 4, 4, 0xD4, 25000000, 0, 512000000, false, false⟩]  -- HOST_RATE_TO

def objRows12 : List ObjDesc := [
  ⟨0xC040, 0xC040, 3, 3, 4, 4, 0xD4, 25000000, 0, 512000000, false, false⟩,  -- HOST_RATE_FROM
  ⟨0xC040, 0xC040, 4, 4, 4, 4, 0xD4, 65536, 4096, 16777215, false, false⟩,  -- HOST_BURST
  ⟨0xC050, 0xC050, 1, 1, 2, 1, 0xD4, 16, 1, 255, false, false⟩,  -- QE_WEIGHT
  ⟨0xC050, 0xC050, 2, 2, 4, 4, 0xD4, 50000000, 0, 500000000, false, false⟩,  -- QE_RATE
  ⟨0xC050, 0xC050, 3, 3, 4, 4, 0xD4, 1024, 64, 65535, false, false⟩,  -- QE_BURST
  ⟨0xC060, 0xC060, 1, 1, 1, 1, 0xD0, 0, 0, 1, false, false⟩,  -- DPL_CTRL
  ⟨0xC060, 0xC060, 2, 2, 11, 32, 0x80, 0, 32, 32, false, false⟩,  -- DPL_HARVEST
  ⟨0xC060, 0xC060, 3, 3, 11, 24, 0x50, 0, 24, 24, false, false⟩,  -- DPL_STATUS
  ⟨0xC061, 0xC061, 0, 7, 11, 24, 0xD0, 0, 24, 24, false, false⟩,  -- DPL_RANGE
  ⟨0xC062, 0xC062, 1, 1, 1, 1, 0xD0, 0, 0, 1, false, false⟩,  -- MIG_HOLD
  ⟨0xC062, 0xC062, 2, 2, 2, 1, 0x50, 0, 0, 2, false, false⟩,  -- MIG_HOLD_STATE
  ⟨0xC070, 0xC070, 1, 1, 8, 4, 0xD0, 0, 0, 4294967295, false, false⟩,  -- MB_FUNCTION
  ⟨0xC070, 0xC070, 2, 2, 1, 1, 0x80, 0, 1, 1, false, false⟩,  -- MB_RESET
  ⟨0xC070, 0xC070, 3, 3, 5, 8, 0x54, 0, 0, 18446744073709551615, false, false⟩,  -- MB_VIOLATIONS
  ⟨0xC080, 0xC080, 1, 1, 9, 1024, 0x54, 0, 0, 1024, false, false⟩,  -- TEN_ERRORS
  ⟨0xC080, 0xC080, 2, 2, 4, 4, 0x54, 0, 0, 4294967295, false, false⟩,  -- TEN_ERR_HALTS
  ⟨0xC090, 0xC090, 1, 1, 11, 68, 0x08, 0, 68, 68, false, false⟩]  -- KEY_IMPORT_T

/-- The dictionary in index order. -/
def objRows : List ObjDesc :=
  objRows0 ++ objRows1 ++ objRows2 ++ objRows3 ++ objRows4 ++ objRows5 ++ objRows6 ++ objRows7 ++ objRows8 ++ objRows9 ++ objRows10 ++ objRows11 ++ objRows12

end Sys2Proof.Machine
end

