-- ==== Sys2Proof/Machine/ObjRead.lean ====
section
/-! DEFINITION. What a READ returns (R40-R49): the objects that report state of their units, and the stored values of the others. -/

namespace Sys2Proof.Machine

/-- An object that a request names: its definition, its Vale, the index of its East layout and its subindex. -/
structure ObjRef where
  d : ObjDesc
  v : Vale
  i : Nat
  sub : Nat

/-- The index of the object as it is addressed. -/
def ObjRef.index (o : ObjRef) : Nat := o.i + valeOff o.v

/-- Indices of Vale West (R44). -/
def westIndex (i : Nat) : Bool := (decide (0x3800 ≤ i) && decide (i < 0x4000)) || (decide (0x4800 ≤ i) && decide (i < 0x5000))

/-- Tenancy-relative indices (R45). -/
def tenRelative (i : Nat) : Bool := decide (0xC000 ≤ i) && decide (i < 0xD000)

/-- Indices within the definition of which the part implements no object: kinds that do not exist, interrupt identity 0. -/
def holeAt (i sub : Nat) : Bool :=
  ((decide (i = 0xC001) || decide (i = 0xC002)) && decide (kindCount sub = 0)) || (decide (i = 0x7010) && decide (sub = 0))

/-- Objects with a subindex per port, and objects with one per learn slot. -/
def portRow (d : ObjDesc) : Bool := decide (d.lo = 0x3001) || decide (d.lo = 0x3005)
def learnRow (d : ObjDesc) : Bool := decide (0x3631 ≤ d.lo) && decide (d.lo ≤ 0x3634)

/-- The subindex is one of the object's in its Vale: the ports of Vale West are 8-15 (R91), and the learn slots of a Vale are
its ports' and slot 16 (R204). -/
def subFits (west : Bool) (d : ObjDesc) (sub : Nat) : Bool :=
  let mine := decide (sub / 8 = if west then 1 else 0)
  if portRow d then mine
  else if learnRow d then mine || decide (sub = 16)
  else decide (d.subLo ≤ sub) && decide (sub ≤ d.subHi)

/-- The highest subindex of an object in a Vale. -/
def subTop (west : Bool) (d : ObjDesc) : Nat := if west && portRow d then 15 else d.subHi

/-- The object of an index and subindex; none where nothing is implemented (R44). -/
def findObj (idx sub : Nat) : Option ObjRef :=
  let w := westIndex idx
  let i := if w then idx - 0x800 else idx
  if holeAt i sub then none
  else (objRows.find? (fun d => decide (d.lo ≤ i) && decide (i ≤ d.hi) && subFits w d sub)).map
    (fun d => { d := d, v := if w then .west else .east, i := i, sub := sub })

/-- The key of a value: a tenancy-relative object's lies with the tenancy. -/
def ObjRef.key (o : ObjRef) (ten : Nat) : Nat := if tenRelative o.i then tkey ten o.i o.sub else okey o.index o.sub

/-- A two's complement number of `n` bytes. -/
def beInt (n : Nat) (x : Int) : List Byte := beBytes n (x % (256 ^ n : Nat)).toNat

/-- ASCII text without padding. -/
def text (t : String) : List Byte := t.toList.map (fun c => BitVec.ofNat 8 c.toNat)

/-! ### Identity and sessions (R68, R69) -/

def sessionsActive (s : State) : Nat := (s.idien.sessions.filter (fun p => decide (p.1 ≠ 0))).length

def readIdentity (s : State) (sub : Nat) : List Byte :=
  if sub = 1 then text "Varpesal" else if sub = 2 then text "LN9192" else if sub = 3 then text "B0"
  else if sub = 4 then text (if Config.hx then "LN9192-B0-HX" else "LN9192-B0-FX")
  else if sub = 5 then beBytes 2 (if Config.hx then 0x0F0F else 0xFFFF)
  else if sub = 6 then sliceD Config.serial 0 16 0
  else if sub = 7 then beBytes 4 Config.vendorIana.toNat
  else if sub = 8 then beBytes 4 0x10000
  else if sub = 9 then beBytes 4 s.boot.version
  else beBytes 4 0x01040203

def readIdien (s : State) (who : Who) (i sub : Nat) : Option (List Byte) :=
  if i = 0x1000 then some (readIdentity s sub)
  else if i = 0x1101 ∧ sub = 1 then some (beBytes 1 (sessionsActive s))
  else if i = 0x1101 ∧ sub = 3 then some (beBytes 4 (sessOf s who).eventMask)
  else if i = 0x1106 then some (beBytes 2 s.dict.pending.length)
  else if i = 0x1800 ∧ sub = 1 then some (beBytes 2 ((sessOf s who).evtCursor % 65536))
  else if i = 0x1800 ∧ sub = 3 then
    let x := sessOf s who
    some (beBytes 8 (x.logLost + evtLost s x + errLost s x))
  else if i = 0x1801 ∧ sub = 1 then some (beBytes 4 (sessOf s who).errCursor)
  else if i = 0x1801 ∧ sub = 3 then some (s.err.chipErrors.flatMap errBytes)
  else if i = 0x1802 ∧ sub = 1 then
    some (s.err.aonErrors.flatMap (fun r =>
      beBytes 4 r.unit ++ beBytes 1 r.cause ++ beBytes 1 r.level ++ beBytes 2 0 ++ beBytes 8 r.rtc))
  else if i = 0x1802 ∧ sub = 2 then some (beBytes 1 s.err.resetCause)
  else none

/-! ### Clocks, power, temperature (R469) -/

/-- The PLL of a domain that falls back to the divided reference, by number (R448). -/
def domPll (d : Nat) : Option Nat :=
  if d = 1 ∨ d = 2 then some 8
  else if 3 ≤ d ∧ d ≤ 8 then some (2 + (d - 3))
  else match domVale d with
    | some v => some (valeNum v)
    | none => none

/-- The source a domain runs on (R447-R451): RCO20 after a monitor trip, the divided reference while its PLL is not locked,
else the selected one. -/
def clkSourceNow (s : State) (d : Nat) : Nat :=
  if s.clk.monTrip.contains d then 2
  else if d = 0 then 3
  else match domPll d with
    | some n => if (tgetD s.clk.plls n {}).locked then numD s (okey 0x2001 d) 0 else 1
    | none => 0

/-- The state a power domain has reached; the Saddle ports' ones change automatically (R460). -/
def domNow (s : State) (d : Nat) : Nat :=
  if 30 ≤ d ∧ d ≤ 37 then
    let p := d - 30
    if !portFormedSaddle s p || decide ((slotOf s (p / 2)).st = .off) then 0
    else if (sportOf s p).pstate = 2 then 1 else 2
  else (domOf s d).st

def powerNow (s : State) : List Byte :=
  beBytes 2 (packagePower s) ++ beBytes 2 s.clk.estimate ++ beBytes 2 (activeLimit s * 10) ++ beBytes 1 (bit1 s.clk.telBad) ++ [0]

def wakeRecord (s : State) : List Byte :=
  let w := s.clk.wake
  beBytes 1 w.src ++ beBytes 1 w.state ++ beBytes 1 w.step ++ beBytes 1 (bit1 w.abandoned) ++ beBytes 2 w.mask ++ beBytes 2 0
    ++ beBytes 8 w.rtc

def readClocks (s : State) (i sub : Nat) : Option (List Byte) :=
  if i = 0x2000 then
    some ((List.range 6).map (fun k => BitVec.ofNat 8 (tgetD s.clk.srcs k {}).st) ++ beBytes 1 (bit1 s.clk.coarse))
  else if i = 0x2001 then some (beBytes 1 (clkSourceNow s sub))
  else if i = 0x2100 then some (beBytes 1 (domNow s sub))
  else if i = 0x2101 ∧ sub = 2 then some (beBytes 1 s.clk.ladder.st)
  else if i = 0x2101 ∧ sub = 3 then some (beBytes 1 (statusCode s.clk.ladder.result))
  else if i = 0x2101 ∧ sub = 4 then some (wakeRecord s)
  else if i = 0x2110 ∧ sub = 4 then some (powerNow s)
  else if i = 0x2111 then some (beBytes 32 (numD s (okey 0x2111 1) Config.regMap))
  else if i = 0x2500 ∧ sub = 1 then some (beInt 2 s.clk.therm)
  else none

/-! ### Boot and the vault (R425, R444) -/

def bootStatus (s : State) : List Byte :=
  let b := s.boot
  beBytes 1 b.running ++ beBytes 1 b.goldRes ++ beBytes 1 b.stage ++ beBytes 1 b.outA ++ beBytes 1 b.outB ++ beBytes 1 b.corrupt
    ++ beBytes 2 0 ++ beBytes 4 b.msTo6 ++ beBytes 4 0

/-- One slot of IMG_SLOTS; a slot that is Empty or only Written has no image of its own to report. -/
def imgSlot (s : State) (k : Nat) : List Byte :=
  let j := jNow s
  let st := jState j k
  let img := slotImage s k
  let full := decide (2 ≤ st)
  beBytes 1 st ++ beBytes 1 (if full then imgSecVer img else 0) ++ beBytes 2 0 ++ beBytes 4 (jSeqOf j k)
    ++ beBytes 4 (if full then imgVersion img else 0)

/-- DEBUG_STATE (R402, R410). -/
def debugState (s : State) : Nat :=
  if s.vault.lcBoot = 4 then 0
  else if s.vault.lcBoot = 0 ∨ s.vault.scope ≠ 0 then 2
  else match s.vault.erasing with
    | some (.openPorts _) => 3
    | _ => 1

def keyInfo (s : State) (i : Nat) : List Byte :=
  match tget s.vault.slots i with
  | none => List.replicate 8 0
  | some k => beBytes 1 k.kind ++ beBytes 1 k.flags ++ beBytes 1 (if k.lost then 2 else 1) ++ [0] ++ beBytes 4 k.owner.toNat

def instCode : InstSt → Nat
  | .idle => 0 | .checking => 1 | .writing => 2 | .verifying => 3 | .marking => 4

def readVault (s : State) (i sub : Nat) : Option (List Byte) :=
  if i = 0x2200 then some (if sub = 1 then bootStatus s else imgSlot s 0 ++ imgSlot s 1)
  else if i = 0x2201 ∧ sub = 2 then some (beBytes 1 (instCode s.boot.inst))
  else if i = 0x2201 ∧ sub = 3 then some (beBytes 1 (statusCode s.boot.instResult))
  else if i = 0x2202 ∧ sub = 1 then some (beBytes 1 s.vault.rollback)
  else if i = 0x2202 ∧ sub = 3 then some (beBytes 1 s.vault.revoke)
  else if i = 0x2300 ∧ sub = 1 then some (beBytes 1 (lcState s))
  else if i = 0x2300 ∧ sub = 3 then some (beBytes 1 (debugState s))
  else if i = 0x2302 ∧ sub = 2 then some (s.vault.tamperLog.flatMap (fun r => beBytes 1 r.1 ++ [0, 0, 0] ++ beBytes 8 r.2))
  else if i = 0x2310 ∧ sub = 4 then some (beBytes 2 (8192 - s.vault.slots.length))
  else if 0x2311 ≤ i ∧ i ≤ 0x2350 then some (keyInfo s ((i - 0x2311) * 128 + sub))
  else if i = 0x2360 ∧ sub = 2 then some (beBytes 1 s.vault.trng)
  else none

/-! ### Tenancies, epochs, errors (R39, R375, R487) -/

def epochCode : EpochSt → Nat
  | .idle => 0 | .staging => 1 | .committing => 2 | .retiring => 3

/-- Spares of a Vale in groups that are on or in retention (R461). -/
def colSpares (s : State) (v : Vale) : Nat :=
  (List.range 100).foldl (fun n k =>
    if (coreAt s v k).st = .spare ∧ (domOf s (colDom v k)).st ≠ 0 then n + 1 else n) 0

def quadsActive (s : State) : Nat := ((List.range 6).filter (fun q => !quadRetired s q)).length

def bitsIn (n w : Nat) : Nat := ((List.range w).filter (fun k => bitOf n k)).length

def spareBanks (s : State) (v : Vale) : Nat := [1, 3, 4, 5, 6].foldl (fun n m => n + sparesLeft (s.vale v).table m) 0

def health (s : State) : List Byte :=
  beBytes 1 (coresIn s.east.col .active) ++ beBytes 1 (coresIn s.west.col .active) ++ beBytes 1 (colSpares s .east)
    ++ beBytes 1 (colSpares s .west) ++ beBytes 1 (spareBanks s .east + spareBanks s .west) ++ beBytes 1 (quadsActive s)
    ++ beBytes 1 (bitsIn (retiredSets s 0) 48 + bitsIn (retiredSets s 1) 48) ++ beBytes 1 (ddrWorking s)
    ++ beBytes 2 (numD s (okey 0x2450 3) 0) ++ beBytes 1 (numD s (okey 0x2451 3) 0) ++ beBytes 1 (bit1 s.err.failStop)
    ++ beBytes 4 0

def levelStats (s : State) (l : Nat) : List Byte :=
  let x := statAt s l
  beBytes 8 x.handled ++ beBytes 8 x.nested ++ beBytes 8 x.escalated ++ beBytes 1 x.peak ++ List.replicate 7 0

def readSystem (s : State) (i sub : Nat) : Option (List Byte) :=
  if i = 0x2410 ∧ sub = 2 then some (beBytes 2 s.tens.length)
  else if i = 0x2410 ∧ sub = 3 then some (beBytes 2 (staticSum s .east))
  else if i = 0x2410 ∧ sub = 4 then some (beBytes 2 (staticSum s .west))
  else if i = 0x2420 ∧ sub = 1 then some (beBytes 2 s.epoch.active)
  else if i = 0x2420 ∧ sub = 2 then some (beBytes 1 (epochCode s.epoch.st))
  else if i = 0x2420 ∧ sub = 6 then some (beBytes 1 (statusCode s.epoch.lastResult))
  else if i = 0x2420 ∧ sub = 7 then some (beBytes 8 s.epoch.abortDrops)
  else if i = 0x2420 ∧ sub = 8 then some (beBytes 4 s.epoch.notReady)
  else if i = 0x2440 ∧ sub = 3 then some (beBytes 1 (bit1 s.err.failStop))
  else if i = 0x2441 then some (levelStats s sub)
  else if i = 0x2460 then some (health s)
  else none

/-- Tenancy-relative objects of tenancy index `t`. -/
def readTenancy (s : State) (t i sub : Nat) : Option (List Byte) :=
  let x := (tenAt s t).getD {}
  let m := migOf s t
  if i = 0xC000 then
    some (if sub = 1 then beBytes 1 (match x.st with | .active => 1 | .halted => 2 | .destroying => 3)
      else if sub = 2 then beBytes 1 x.mode else if sub = 3 then beBytes 1 (bit1 x.dyn)
      else if sub = 4 then beBytes 2 x.shareEast else beBytes 2 x.shareWest)
  else if i = 0xC002 then some (beBytes 4 (usageOf s t sub))
  else if i = 0xC040 ∧ (sub = 2 ∨ sub = 3) then
    some (beBytes 4 (numD s (tkey t i sub) (if x.mode = 2 then 0 else 25000000)))
  else if i = 0xC050 ∧ sub = 2 then some (beBytes 4 (numD s (tkey t i sub) (if x.mode = 2 then 0 else 50000000)))
  else if i = 0xC060 ∧ sub = 1 then some (beBytes 1 (bit1 m.on))
  else if i = 0xC060 ∧ sub = 3 then
    some (beBytes 1 (bit1 m.on + 2 * bit1 m.incomplete) ++ List.replicate 7 0 ++ beBytes 8 m.uncovered ++ beBytes 8 m.marked)
  else if i = 0xC062 then some (beBytes 1 (if sub = 1 then bit1 (decide (m.hold ≠ 0)) else m.hold))
  else if i = 0xC080 ∧ sub = 1 then some ((x.errQ ++ x.halt.toList).flatMap errBytes)
  else none

/-! ### The Vales (R91, R128, R156, R177, R204, R228, R248) -/

/-- COL_MAP: the state code of each physical core, two bits a core. DESIGN CHOICE (log entry 81): a Draining core, which has left the ring but is
not yet under test, reads code 2. -/
def colMap (s : State) (v : Vale) : List Byte :=
  let code := fun n => match (coreAt s v n).st with | .active => 0 | .spare => 1 | .testing => 2 | .retired => 3
  (List.range 25).map (fun b => BitVec.ofNat 8 (code (4 * b) + 4 * code (4 * b + 1) + 16 * code (4 * b + 2) + 64 * code (4 * b + 3)))

def threadsOff (s : State) (v : Vale) : Nat :=
  (List.range 100).foldl (fun n k =>
    n + ((List.range 7).filter (fun t => (threadOf (coreAt s v k) (t + 1)).off)).length) 0

def readCol (s : State) (v : Vale) (i sub : Nat) : Option (List Byte) :=
  let c := (s.vale v).col
  if i = 0x3010 then
    (if sub = 1 then some (beBytes 1 (coresIn c .active)) else if sub = 2 then some (beBytes 1 (colSpares s v))
     else if sub = 3 then some (beBytes 1 (coresIn c .retired)) else if sub = 4 then some (colMap s v)
     else if sub = 5 then some (beBytes 2 (threadsOff s v)) else none)
  else if i = 0x3011 then
    some (beBytes 1 (if sub = 2 then c.testSt else if sub = 3 then c.testNamed else statusCode c.testResult))
  else if i = 0x3017 ∧ sub = 3 then some (beBytes 1 c.progState)
  else if i = 0x3017 ∧ sub = 4 then some (beBytes 4 c.progReject)
  else none

/-- Dead logical banks of a memory. -/
def deadBanks (x : TableState) (m : Nat) : Nat := (x.retired.filter (fun p => decide (p.1 = m))).length

/-- TABLE_CAPACITY: what dead banks, or retired frames of the extension area, do not take away (R178, R202). -/
def tableCapacity (s : State) (v : Vale) (m : Nat) : Nat :=
  if m = 2 then
    ((List.range (min 1024 ((carveOf s (valeNum v)).ext * 512))).filter (fun u => !extUnitDead s v u)).length * 65536
  else memCapacity m - deadBanks (s.vale v).table m * bankSize m

def tableFree (s : State) (v : Vale) (m : Nat) : Nat :=
  if m = 2 then (freeExtUnits s v).length * 65536 else (freeUnits (s.vale v).table m).length * unitSize m

/-- PART_INFO (R204). -/
def partInfo (s : State) (v : Vale) (i : Nat) : List Byte :=
  match partAt s v i with
  | none => List.replicate 60 0
  | some p =>
    let n := partSize p
    beBytes 1 p.memory ++ beBytes 1 p.kind ++ beBytes 1 p.flags ++ beBytes 1 p.learnWord ++ beBytes 2 p.keyWidth
      ++ beBytes 2 p.learnAction ++ beBytes 4 p.owner.toNat ++ beBytes 4 p.capacity ++ beBytes 4 p.extCapacity
      ++ beBytes 2 p.ageLimit ++ beBytes 2 0
      ++ beBytes 4 (p.slots.filter (fun e => decide (e.1 < n))).length
      ++ beBytes 4 (p.slots.filter (fun e => decide (n ≤ e.1))).length
      ++ beBytes 4 (usableCap (s.vale v).table p) ++ beBytes 4 p.moves ++ beBytes 8 p.extLookups ++ beBytes 8 p.cacheHits
      ++ beBytes 4 (handleOf s (partKind v) i).toNat

def readTable (s : State) (v : Vale) (i sub : Nat) : Option (List Byte) :=
  let x := (s.vale v).table
  if 0x3610 ≤ i ∧ i ≤ 0x3617 then some (partInfo s v ((i - 0x3610) * 128 + sub))
  else if i = 0x3620 then some (beBytes 4 (tableCapacity s v sub))
  else if i = 0x3621 then some (beBytes 4 (tableFree s v sub))
  else if i = 0x3630 ∧ sub = 2 then some (beBytes 2 x.now)
  else if i = 0x3640 then
    some (if sub = 2 then beBytes 1 x.testSt else if sub = 3 then beBytes 1 (statusCode x.testResult)
      else [1, 2, 3, 4, 5, 6].map (fun m => BitVec.ofNat 8 (sparesLeft x m)))
  else none

/-- QUEUE_STATE (R228). -/
def queueState (s : State) (v : Vale) (q : Nat) : List Byte :=
  if (ownerOf s (queueKind v) q).isNone then List.replicate 48 0
  else
    let x := tmQueue s v q
    let tok : Int := match shaperOn s v (elemId 5 q) with | some p => p.2.tokens / 65536 | none => 0
    beBytes 1 (if x.spilling then 2 else 1) ++ [0, 0, 0] ++ beBytes 4 (queueDepth s v x) ++ beBytes 4 (cellsIn s v x.basin)
      ++ beBytes 4 (cellsIn s v x.flood) ++ beBytes 4 (x.basin.length + x.flood.length) ++ beInt 4 (deficitOf s v (elemId 5 q))
      ++ beInt 4 tok ++ beBytes 4 0 ++ beBytes 8 x.sent ++ beBytes 8 x.dropped

def readTm (s : State) (v : Vale) (i sub : Nat) : Option (List Byte) :=
  if i = 0x4001 ∧ sub = 2 then some (beBytes 8 (floodFree s v))
  else if i = 0x4010 then some (List.replicate 16 0)
  else if 0x4200 ≤ i ∧ i ≤ 0x42FF then some (queueState s v ((i - 0x4200) * 128 + sub))
  else none

def readPath (s : State) (v : Vale) (i sub : Nat) : Option (List Byte) :=
  let p := (s.vale v).path
  if i = 0x3000 then some (beBytes 1 (if sub = 1 then portMode s v else p.linkUp.toNat))
  else if i = 0x3006 ∧ sub = 1 then some (beBytes 4 p.basinFree)
  else if i = 0x3007 ∧ sub = 1 then some (beBytes 1 (bit1 (lineRateOk (s.vale v).col)))
  else if i = 0x3014 ∧ sub = 1 then some (beBytes 2 (8192 - p.narrows.length))
  else none

def readVale (s : State) (who : Who) (v : Vale) (i sub : Nat) : Option (List Byte) :=
  if i = 0x4630 ∧ sub = 6 then some (replResult s v (tgetD (sessOf s who).replQuery (valeNum v) []))
  else if i < 0x3010 ∨ i = 0x3014 then readPath s v i sub
  else if i < 0x3020 then readCol s v i sub
  else if i < 0x4000 then readTable s v i sub
  else readTm s v i sub

/-! ### Host, queue engine, storage (R304, R329, R350) -/

/-- Entries of the MSI-X pool not charged (R291). -/
def msixFree (s : State) : Nat :=
  65536 - ((List.range 4).foldl (fun n k => n + recField 8 (2 * k) 2 s.host.pfMsix) 0
    + [1, 2, 3].foldl (fun n k => n + totalVfs s k * recField 6 (2 * (k - 1)) 2 s.host.vfMsix) 0)

/-- VF_INFO; all zero for a virtual function that is not assigned. -/
def vfInfo (s : State) (g : Nat) : List Byte :=
  match ownerOf s 3 g with
  | none => List.replicate 12 0
  | some o =>
    let pf := pfOf s (g + 4)
    let on := (fnOf s pf).vfEnable && decide (g - vfFirst s pf < (fnOf s pf).numVfs)
    beBytes 4 (handleOf s 3 g).toNat ++ beBytes 4 o.toNat ++ beBytes 1 pf ++ beBytes 1 (bit1 on)
      ++ beBytes 1 (bit1 (decide ((fnOf s (g + 4)).flr ≠ 0))) ++ beBytes 1 (fnReason s (g + 4))

/-- The head of a QUEUE_INFO record. -/
def queueHead (s : State) (i f lq : Nat) (owner : Handle) : List Byte :=
  beBytes 4 (handleOf s 2 i).toNat ++ beBytes 4 owner.toNat ++ beBytes 2 f ++ beBytes 2 lq

/-- QUEUE_INFO (R329). A submission or completion queue of a controller counts its doorbell, oldest, fetched, written and
consumed positions in entries of its ring. -/
def queueInfo (s : State) (i : Nat) : List Byte :=
  match ctxOf s i with
  | some q =>
    queueHead s i q.fn q.lq (fnOwner s q.fn) ++ beBytes 1 q.type ++ beBytes 1 (qStCode q.st) ++ beBytes 1 q.major
      ++ beBytes 1 q.minor ++ ctxCounts q
  | none => match tget s.nv.qs i with
    | some q =>
      let f := nvFn s q.ctrl
      queueHead s i f q.qid (fnOwner s f) ++ beBytes 1 (if q.sq then 4 else 5) ++ beBytes 1 (if q.frozen then 3 else 1) ++ [0, 0]
        ++ (if q.sq then beBytes 2 q.tail ++ beBytes 2 q.head ++ beBytes 2 q.head ++ beBytes 4 0
            else beBytes 6 0 ++ beBytes 2 q.tail ++ beBytes 2 q.head)
    | none => List.replicate 26 0

/-- NVME_CTRL_INFO (R350). -/
def ctrlInfo (s : State) (c : Nat) : List Byte :=
  match nvCtrl s c with
  | none => List.replicate 14 0
  | some x =>
    beBytes 4 (handleOf s 4 c).toNat ++ beBytes 4 x.owner.toNat ++ beBytes 2 x.fn ++ beBytes 1 (bit1 x.rdy + 2 * bit1 x.cfs)
      ++ beBytes 1 x.ps ++ beBytes 1 x.maxQ
      ++ beBytes 1 (s.nv.qs.filter (fun q => decide (q.2.ctrl = c) && q.2.frozen)).length

def hostLink (s : State) : List Byte :=
  let h := s.host
  beBytes 1 h.rate ++ beBytes 1 h.width ++ beBytes 1 h.link ++ [0] ++ beBytes 4 h.downs ++ beBytes 8 h.corrected

def readHost (s : State) (i sub : Nat) : Option (List Byte) :=
  if i = 0x5000 then
    some (if sub = 1 then hostLink s else if sub = 2 then beBytes 16 Config.hostIds
      else beBytes 4 (numD s (okey 0x5000 3) Config.hostSubsys))
  else if i = 0x5001 ∧ sub = 5 then some (beBytes 4 (msixFree s))
  else if 0x5011 ≤ i ∧ i ≤ 0x5018 then some (vfInfo s ((i - 0x5011) * 128 + sub))
  else if i = 0x5800 ∧ sub = 1 then some (beBytes 4 (freeCount s 2))
  else if 0x5A00 ≤ i ∧ i ≤ 0x5BFF then some (queueInfo s ((i - 0x5A00) * 128 + sub))
  else if i = 0x6040 ∧ sub = 1 then some (beBytes 2 (16384 - rlockUsed s))
  else if i = 0x6100 ∨ i = 0x6101 then some (ctrlInfo s ((i - 0x6100) * 128 + sub))
  else none

/-! ### Saddle ports (R279) -/

def slotCode : SlotSt → Nat
  | .off => 0 | .empty => 1 | .verifying => 2 | .configuring => 3 | .linking => 4 | .negotiating => 5 | .ready => 6 | .failed => 7

def regionCode : RegSt → Nat
  | .open_ => 1 | .isolated => 2 | .recovering => 3

def regionInfo (s : State) (r : Nat) : List Byte :=
  match regionOf s r with
  | none => List.replicate 29 0
  | some x => beBytes 24 x.conf ++ beBytes 4 (handleOf s 5 r).toNat ++ beBytes 1 (regionCode x.st)

def portLink (s : State) (p : Nat) : List Byte :=
  let x := sportOf s p
  beBytes 1 x.speed ++ beBytes 1 x.width ++ beBytes 1 x.pstate ++ [0] ++ beBytes 4 x.resets ++ beBytes 8 x.corrected

def readSaddle (s : State) (i sub : Nat) : Option (List Byte) :=
  if i = 0x6804 then some (beBytes 1 (slotCode (slotOf s sub).st))
  else if i = 0x6805 then some (beBytes 1 (statusCode (slotOf s sub).result))
  else if i = 0x6806 then some (beBytes 2 (if sub % 2 = 0 then (slotOf s (sub / 2)).version else 0))
  else if i = 0x6811 then some (regionInfo s sub)
  else if i = 0x6824 then some (portLink s sub)
  else none

/-! ### Steppe, memory, time (R248, R400) -/

def hbmLayout (s : State) (k : Nat) : List Byte :=
  let c := carveOf s k
  beBytes 8 (hbmBase k + (24 - c.flood) * gib) ++ beBytes 8 (hbmBase k + (24 - c.flood - c.ext) * gib)
    ++ beBytes 8 (hbmBase k + (24 - c.flood - c.ext - c.nvme) * gib) ++ beBytes 8 (generalBytes s k)

/-- HBM_STATUS: a stack that has not been trained, or failed, has no usable bytes; a retired bank set takes 512 MiB. -/
def hbmStatus (s : State) (k : Nat) : List Byte :=
  let c := carveOf s k
  let sets := bitsIn (retiredSets s k) 48
  beBytes 8 (if c.trained ∧ ¬ c.failed then hbmBytes - sets * 0x20000000 else 0) ++ beBytes 1 sets ++ [0] ++ beBytes 2 c.repaired

def timeNow (s : State) : List Byte := beBytes 8 s.time.sec ++ beBytes 4 s.time.ns

/-- Objects that read a peripheral: zero while it is gated (R394). -/
def gatedObj (s : State) (i sub : Nat) : Bool :=
  (decide (i = 0x7051) && !periphOn s 5) || (decide (i = 0x7052) && decide (2 ≤ sub) && !periphOn s 3)

def readSteppe (s : State) (i sub : Nat) : Option (List Byte) :=
  if i = 0x7000 ∧ sub = 1 then some (beBytes 1 (quadsActive s))
  else if i = 0x7000 ∧ sub = 3 then some (beBytes 1 (bit1 s.ctl.quadTest.isSome))
  else if i = 0x7020 ∧ sub = 3 then some (s.ctl.ddr.map (BitVec.ofNat 8) ++ beBytes 2 s.ctl.ddrSpeed ++ beBytes 2 0)
  else if i = 0x7020 ∧ sub = 4 then some (beBytes 8 (ddrCapacity s))
  else if i = 0x7030 ∧ sub = 2 then some (hbmLayout s 0 ++ hbmLayout s 1)
  else if i = 0x7030 ∧ (sub = 3 ∨ sub = 4) then some (hbmStatus s (sub - 3))
  else if i = 0x7030 ∧ sub = 5 then some (sliceD (octD s (okey 0x7030 5)) 0 12 0)
  else if i = 0x7800 ∧ sub = 1 then some (timeNow s)
  else none

/-! ### Any object -/

/-- The value of an object that reports its unit's state; none for one that holds a value of its own. -/
def unitValue (s : State) (who : Who) (ten : Nat) (o : ObjRef) : Option (List Byte) :=
  let i := o.i
  if i < 0x2000 then readIdien s who i o.sub
  else if i < 0x2200 ∨ 0x2500 ≤ i ∧ i < 0x3000 then readClocks s i o.sub
  else if i < 0x2400 then readVault s i o.sub
  else if i < 0x2500 then readSystem s i o.sub
  else if i < 0x5000 then readVale s who o.v i o.sub
  else if i < 0x6800 then readHost s i o.sub
  else if i < 0x7000 then readSaddle s i o.sub
  else if i < 0x8000 then (if gatedObj s i o.sub then some (List.replicate o.d.size 0) else readSteppe s i o.sub)
  else readTenancy s ten i o.sub

/-- Types of R41. -/
def isOctets (d : ObjDesc) : Bool := decide (d.type = 9) || decide (d.type = 10)

/-- The active value of an object (R35). -/
def objValue (s : State) (who : Who) (ten : Nat) (o : ObjRef) : List Byte :=
  match unitValue s who ten o with
  | some bs => bs
  | none => if isOctets o.d then octD s (o.key ten) else beBytes o.d.size (numD s (o.key ten) o.d.dflt)

/-- GPIO_IN is what the pins show: a free value (R394). -/
def pinValue (s : State) (o : ObjRef) (bs : List Byte) : List Byte × State :=
  if o.i = 0x7051 ∧ o.sub = 3 ∧ periphOn s 5 then
    let d := drawFree s 65536
    (beBytes 2 d.1, d.2)
  else (bs, s)

/-- Objects whose READ has an effect on them (R48): the read as an operation of its own. -/
def readEffect (who : Who) (o : ObjRef) : Option DictOp :=
  let i := o.i
  if i = 0x1800 ∧ o.sub = 2 then some (eventLogOp who)
  else if i = 0x1801 ∧ o.sub = 2 then some (errorLogOp who)
  else if i = 0x2301 ∧ o.sub = 1 then some (debugChallengeOp who)
  else if i = 0x3006 ∧ o.sub = 2 then some (crossPeakOp who o.v)
  else if i = 0x3014 ∧ o.sub = 3 then some (relPeakOp who o.v)
  else if i = 0x3636 then some (learnLogOp who o.v)
  else if i = 0x4640 ∧ o.sub = 2 then some (telemLogOp who o.v)
  else if i = 0x5030 ∧ o.sub = 2 then some (winFirstMissOp who)
  else if i = 0x5802 then some (qeLastFaultOp who)
  else if i = 0x6812 then some (regionFaultOp who ⟨o.sub % 64, Nat.mod_lt _ (by decide)⟩)
  else none

/-! ### Rights (R12, R42, R49) -/

/-- The right of a role on an object: 0 none, 1 R, 2 W, 3 RW. -/
def rightOf (d : ObjDesc) (r : Role) : Nat :=
  match r with
  | .operator => d.access / 64 % 4
  | .host => d.access / 16 % 4
  | .tenant => d.access / 4 % 4
  | .vault => d.access % 4

def mayRead (d : ObjDesc) (r : Role) : Bool := bitOf (rightOf d r) 0
def mayWrite (d : ObjDesc) (r : Role) : Bool := bitOf (rightOf d r) 1

/-- The object that an index and subindex name by its number (R16): its kind and its index. -/
def namedObj (o : ObjRef) : Option (Nat × Nat) :=
  let i := o.i
  let at_ := fun (kind base : Nat) => some (kind, (i - base) * 128 + o.sub)
  if 0x3610 ≤ i ∧ i ≤ 0x3617 then at_ (partKind o.v) 0x3610
  else if 0x4100 ≤ i ∧ i ≤ 0x41FF then at_ (queueKind o.v) 0x4100
  else if 0x4200 ≤ i ∧ i ≤ 0x42FF then at_ (queueKind o.v) 0x4200
  else if 0x4300 ≤ i ∧ i ≤ 0x441F then at_ (shaperKind o.v) 0x4300
  else if 0x4510 ≤ i ∧ i ≤ 0x458F then at_ (policerKind o.v) 0x4510
  else if 0x4590 ≤ i ∧ i ≤ 0x460F then at_ (policerKind o.v) 0x4590
  else if 0x5011 ≤ i ∧ i ≤ 0x5018 then at_ 3 0x5011
  else if 0x5A00 ≤ i ∧ i ≤ 0x5BFF then at_ 2 0x5A00
  else if 0x6100 ≤ i ∧ i ≤ 0x6101 then at_ 4 0x6100
  else if 0x6811 ≤ i ∧ i ≤ 0x6812 then some (5, o.sub)
  else none

/-- The object that is read belongs to a Halted tenancy (R31). -/
def namesHalted (s : State) (o : ObjRef) : Bool :=
  match namedObj o with
  | some (kind, i) => ownerHalted s ((ownerOf s kind i).getD 0)
  | none => false

/-- The operation of a READ of one object. -/
def readOp (who : Who) (ten : Nat) (o : ObjRef) : DictOp :=
  let base := fun (s : State) => [(Status.access, !mayRead o.d who.role), (Status.halted, namesHalted s o)]
  match readEffect who o with
  | some op => { op with status := fun s => firstStatus (base s ++ [(op.status s, decide (op.status s ≠ .ok))]) }
  | none =>
    { status := fun s => firstStatus (base s)
      effect := fun s => let r := pinValue s o (objValue s who ten o); (r.2, r.1) }

/-! ### The staging view (R35, R40, R175) -/

/-- The definitions of the objects at an index, in subindex order. -/
def rowsAt (i : Nat) : List ObjDesc := objRows.filter (fun d => decide (d.lo ≤ i) && decide (i ≤ d.hi))

/-- Staged objects at an index: subindices in order with their definitions. -/
def stagedSubs (i : Nat) : List (ObjDesc × Nat) :=
  (rowsAt i).flatMap (fun d => if d.staged then (List.range (d.subHi + 1 - d.subLo)).map (fun k => (d, d.subLo + k)) else [])

/-- The staging view of an index: none where no object is epoch-staged. -/
def stagingView (s : State) (v : Vale) (i : Nat) : Option (ObjDesc × List Byte) :=
  match stagedSubs i with
  | [] => none
  | x :: xs =>
    let val := fun (p : ObjDesc × Nat) =>
      beBytes p.1.size (stagedNum s (vkey v i p.2) p.1.dflt)
    some (x.1, (x :: xs).flatMap val)

end Sys2Proof.Machine
end

