-- ==== Sys2Proof/Machine/ObjWrite.lean ====
section
/-! DEFINITION. What a WRITE does (R40-R49): every writable object of the dictionary, the objects with a command of their own
through that command's operation. -/

namespace Sys2Proof.Machine

/-- The bytes as a record of `n` bytes. -/
def recOf (n : Nat) (bs : List Byte) : Rec n := BitVec.ofNat (8 * n) (beNat bs)

def handleIn (bs : List Byte) : Handle := BitVec.ofNat 32 (beNat bs)

/-- An operation that refuses with RANGE. -/
def rangeOp : DictOp where
  status := fun _ => .range
  effect := fun s => (s, [])

/-- An operation whose value is out of range before anything else of it is judged: only an ACCESS of its own goes before
RANGE (R14). -/
def rangeUnless (op : DictOp) : DictOp :=
  { rangeOp with status := fun s => if op.status s = .access then .access else .range }

/-- A command object that accepts only the value 1. -/
def onlyOne (bs : List Byte) (op : DictOp) : DictOp := if beNat bs = 1 then op else rangeOp

/-! ### Objects that hold a value -/

/-- Stores a value; one that is kept in flash waits for its commit (R43). -/
def storeNum (o : ObjRef) (ten n : Nat) (s : State) : State :=
  let s1 := setNum s (o.key ten) n
  if o.d.stored then persist s1 (o.key ten) else s1

def storeOct (o : ObjRef) (ten : Nat) (bs : List Byte) (s : State) : State :=
  let s1 := setOct s (o.key ten) bs
  if o.d.stored then persist s1 (o.key ten) else s1

/-- A plain object: further conditions, the value stored, what follows. -/
def valueOp (o : ObjRef) (ten : Nat) (n : Nat) (checks : State → List (Status × Bool)) (after : State → State) : DictOp where
  status := fun s => firstStatus (checks s)
  effect := fun s => (after (storeNum o ten n s), [])

/-- An OCTETS object with its allowed lengths. -/
def octetsOp (o : ObjRef) (ten : Nat) (lens : List Nat) (bs : List Byte) : DictOp where
  status := fun _ => firstStatus [(.range, !lens.contains bs.length)]
  effect := fun s => (storeOct o ten bs s, [])

/-- The value lies outside the object's range (R41). -/
def outOfRange (d : ObjDesc) (n : Nat) : Bool :=
  if d.type = 11 ∨ d.type = 8 then false
  else if d.type = 6 then
    let x := (BitVec.ofNat 32 n).toInt
    decide (x < (BitVec.ofNat 64 d.min).toInt) || decide ((d.max : Int) < x)
  else decide (n < d.min) || decide (d.max < n)

/-! ### Per-session objects (R69, R487) -/

def sessionOp (who : Who) (f : Session → Session) : DictOp where
  status := fun _ => .ok
  effect := fun s => (setSess s who (f (sessOf s who)), [])

/-! ### Objects with conditions of their own -/

/-- PORT_TENANCY (R91): 0 or a current tenancy; a port of a fused-off lane takes none (R2). -/
def portTenancyChecks (port n : Nat) (s : State) : List (Status × Bool) :=
  ownerChecks s (BitVec.ofNat 32 n) ++ [(.range, decide (laneCount Config.hx ≤ port % 8) && decide (n ≠ 0))]

/-- GATE_CONF (R235). -/
def gateConfBad (n : Nat) : Bool :=
  let oh := signed8 (recField 16 14 1 n)
  decide (2 ^ 48 ≤ recField 16 0 8 n) || decide (999999999 < recField 16 8 4 n) || decide (recField 16 12 2 n < 1)
    || decide (256 < recField 16 12 2 n) || decide (oh < -32) || decide (63 < oh)

def gateEntryBad (n : Nat) : Bool := decide (recField 8 0 4 n < 64) || decide (1000000000 < recField 8 0 4 n)

/-- TELEM_WATCH (R244): handle 0, or a queue of this Vale with an interval of 1-1,000,000 µs. -/
def watchChecks (v : Vale) (n : Nat) (s : State) : List (Status × Bool) :=
  let h : Handle := BitVec.ofNat 32 (recField 8 0 4 n)
  let t := recField 8 4 4 n
  [(.range, decide (h ≠ 0) && (!handleFits h (queueKind v) || decide (t < 1) || decide (1000000 < t))),
   (.staleHandle, handleStale s h),
   (.halted, objHalted s h (queueKind v))]

/-- The entry samples from the write on (R244). -/
def watchSet (v : Vale) (w : Nat) (s : State) : State :=
  s.modTm v (fun x => { x with watchAt := tset x.watchAt w s.time.ticks })

/-- A rate within the range of the tenancy's mode (R304, R329). -/
def modeRateBad (s : State) (ten n lo hi : Nat) : Bool :=
  match tenAt s ten with
  | some t => if t.mode = 2 then decide (n ≠ 0) else decide (n < lo) || decide (hi < n)
  | none => false

/-- The tenancy's tokens are set full at the next tick, until which its tokens and weight stand (R304, R329). -/
def loadHost (ten : Nat) (s : State) : State :=
  if s.host.loads.contains ten then s
  else { s with host := { s.host with
    loads := s.host.loads ++ [ten]
    oldWeights := tset s.host.oldWeights ten (hostWeight s (2 + ten))
    tokens := tset (tset s.host.tokens ten (hostTokens s 0 ten)) (1024 + ten) (hostTokens s 1 ten) } }

def loadQe (ten : Nat) (s : State) : State :=
  if s.qe.loads.contains ten then s
  else { s with qe := { s.qe with
    loads := s.qe.loads ++ [ten]
    oldWeights := tset s.qe.oldWeights ten (qeCliWeight s (2 + ten))
    tokens := tset s.qe.tokens ten (qeTokens s ten) } }

/-- An object whose write takes effect at the next tick. -/
def tickOp (o : ObjRef) (ten n : Nat) (checks : State → List (Status × Bool)) (before : State → State) : DictOp where
  status := fun s => firstStatus (checks s)
  effect := fun s => (storeNum o ten n (before s), [])

/-- VF_SPLIT, PF_MSIX and VF_MSIX as they would stand: TotalVFs beyond 1,024, or the pool of R291 exceeded. -/
def msixChecks (i n : Nat) (s : State) : List (Status × Bool) :=
  let split := if i = 1 then n else numD s (okey 0x5001 1) 0x020001000100
  let pf := if i = 2 then n else numD s (okey 0x5001 2) 0x0040080008000100
  let vf := if i = 3 then n else numD s (okey 0x5001 3) 0x004000400010
  let t := fun k => recField 6 (2 * k) 2 split
  let bad := fun (m k : Nat) (r : Nat) => decide (recField m (2 * k) 2 r < 1) || decide (2048 < recField m (2 * k) 2 r)
  let sum := [0, 1, 2, 3].foldl (fun a k => a + recField 8 (2 * k) 2 pf) 0
    + [0, 1, 2].foldl (fun a k => a + t k * recField 6 (2 * k) 2 vf) 0
  [(.range, (decide (i = 1) && decide (1024 < t 0 + t 1 + t 2)) || (decide (i = 2) && [0, 1, 2, 3].any (fun k => bad 8 k n))
      || (decide (i = 3) && [0, 1, 2].any (fun k => bad 6 k n))),
   (.noResource, decide (65536 < sum))]

def bar2Bad (n : Nat) : Bool := (List.range 7).any (fun k => decide (recField 7 k 1 n < 20) || decide (40 < recField 7 k 1 n))

/-- NVME_BACKEND_RING (R350): all zero, or 2^6 to 2^12 entries; an interrupt identity below 2,048. -/
def bringBad (n : Nat) : Bool :=
  decide (n ≠ 0) && (!bringSet n || decide (2047 < bringIrq n))

/-- MB_OPER_IRQ (R375, R291). -/
def operIrqBad (s : State) (n : Nat) : Bool :=
  let t := recField 4 0 1 n
  decide (1 < t) || (decide (t = 0) && decide (2047 < recField 4 2 2 n)) || (decide (t = 1) && decide (msixSize s 0 ≤ recField 4 2 2 n))

/-- STEPPE_IRQ_ROUTE (R381): to no hart, or to a file of a hart under an identity. -/
def routeBad (n : Nat) : Bool :=
  let h := recField 4 0 1 n
  decide (h ≠ 0xFF) && (decide (23 < h) || decide (6 < recField 4 1 1 n) || decide (recField 4 2 2 n < 1)
    || decide (2047 < recField 4 2 2 n))

def ddrSpeeds : List Nat := [4800, 5600, 6400, 7200, 8000]

def carveBad (n : Nat) : Bool := decide (4 < recField 2 0 1 n) || decide (8 < recField 2 1 1 n)

def tamperBad (n : Nat) : Bool := [0, 1, 2, 3].any (fun k => decide (1 < recField 4 k 1 n))

/-- A gated peripheral drops a write (R394). -/
def gatedOp (o : ObjRef) (op : DictOp) : DictOp :=
  { op with effect := fun s => if gatedObj s o.i o.sub then (s, []) else op.effect s }

/-- Objects of chapters 2 to 9 that hold a value. -/
def valueWriteLow (who : Who) (o : ObjRef) (ten : Nat) (bs : List Byte) : Option DictOp :=
  let n := beNat bs
  let i := o.i
  let v := o.v
  if i = 0x1100 ∨ i = 0xC010 then some (octetsOp o ten [0, 48] bs)
  else if i = 0x1101 ∧ o.sub = 3 then some (sessionOp who (fun x => { x with eventMask := n % 2 ^ 13 }))
  else if i = 0x1102 ∧ o.sub = 3 then some (octetsOp o ten [0, 16] bs)
  else if i = 0x1800 then some (sessionOp who (fun x => { x with evtCursor := n }))
  else if i = 0x1801 then some (sessionOp who (fun x => { x with errCursor := n }))
  else if i = 0x2302 ∧ o.sub = 1 then
    some (valueOp o ten n (fun s => [(.range, tamperBad n), (.access, tamperLocked s)]) id)
  else if i = 0x2110 then some (valueOp o ten n (fun _ => []) updateLimit)
  else if i = 0x2111 then some (valueOp o ten (recClear 32 ((List.range 8).map (fun k => (4 * k + 1, 1))) n) (fun _ => []) id)
  else if i = 0x2430 ∧ o.sub = 2 then some (valueOp o ten (recClear 4 [(1, 1)] n) (fun s => [(.range, operIrqBad s n)]) id)
  else if i = 0x3001 then some (valueOp o ten n (portTenancyChecks o.sub n) id)
  else if i = 0x4610 then some (valueOp o ten (recFlags 16 15 1 n) (fun _ => [(.range, gateConfBad n)]) id)
  else if 0x4620 ≤ i ∧ i ≤ 0x462F then
    some (valueOp o ten (recClear 8 [(5, 3)] n) (fun _ => [(.range, gateEntryBad n)]) id)
  else if 0x4700 ≤ i ∧ i ≤ 0x471F then
    some (valueOp o ten n (watchChecks v n) (watchSet v ((i - 0x4700) * 128 + o.sub)))
  else none

/-- Objects of chapters 10 to 18 that hold a value. -/
def valueWriteHigh (o : ObjRef) (ten : Nat) (bs : List Byte) : Option DictOp :=
  let n := beNat bs
  let i := o.i
  if i = 0x5001 then
    some (if o.sub = 4 then valueOp o ten n (fun _ => [(.range, bar2Bad n)]) id else valueOp o ten n (msixChecks o.sub n) id)
  else if i = 0x6010 then some (valueOp o ten (recClear 20 [(19, 1)] n) (fun _ => [(.range, bringBad n)]) id)
  else if i = 0x6807 then some (octetsOp o ten [0, 97] bs)
  else if i = 0x6808 then some (valueOp o ten n (fun s => [(.range, decide (n < numD s (o.key ten) 0))]) id)
  else if 0x7010 ≤ i ∧ i ≤ 0x7017 then some (valueOp o ten n (fun _ => [(.range, routeBad n)]) id)
  else if i = 0x7020 ∧ o.sub = 1 then some (valueOp o ten n (fun _ => [(.range, !ddrSpeeds.contains n)]) id)
  else if i = 0x7030 then some (valueOp o ten n (fun _ => [(.range, carveBad n)]) id)
  else if i = 0x7051 ∨ i = 0x7052 ∧ 2 ≤ o.sub then some (gatedOp o (valueOp o ten n (fun _ => []) id))
  else if i = 0xC040 then
    some (tickOp o ten n (fun s => [(.range, (decide (o.sub = 2) || decide (o.sub = 3)) && modeRateBad s ten n 10000 512000000)])
      (loadHost ten))
  else if i = 0xC050 then
    some (tickOp o ten n (fun s => [(.range, decide (o.sub = 2) && modeRateBad s ten n 1000 500000000)]) (loadQe ten))
  else none

/-! ### Command objects -/

/-- CHIP_RESET (R481). -/
def chipResetOp : DictOp where
  status := fun _ => .ok
  effect := fun s => (chipReset s 3, [])

/-- SLOT_POWER written through the dictionary: the level of the module's presence pin is a free value. -/
def slotPowerAnyOp (who : Who) (q : Fin 4) (on : U8) : DictOp where
  status := fun s => (slotPowerOp who q on true).status s
  effect := fun s => let d := drawFree s 2; (slotPowerOp who q on (decide (d.1 = 1))).effect d.2

/-- REGION_RESET among several subindices: the reset begins, and no answer waits for its end. -/
def regionResetOp (who : Who) (h : Handle) : DictOp where
  status := fun s => regionResetSt who h s
  effect := fun s => (isolateFor s (hIdx h) .reset, [])

/-- VAULT_CMD (R415): the header and its operation. -/
def vaultCmdOp (who : Who) (bs : List Byte) : DictOp :=
  let h := sliceD bs 0 24 0
  let f := fun off n => beNat (sliceD h off n 0)
  let op := f 0 1
  let alg := f 1 1
  let len := f 16 4
  let ops := bs.drop 24
  let fits := fun (ok : Bool) (x : DictOp) => if ok then x else rangeUnless x
  if bs.length < 24 then rangeOp
  else if op = 1 then fits ops.isEmpty (vaultHashOp who alg (f 8 8) len)
  else if op = 5 then fits ops.isEmpty (vaultRandomOp who len)
  else if op = 2 then fits (decide (len = 0)) (vaultSignOp who alg (f 4 2) ops)
  else if op = 3 then fits (decide (len = 0)) (vaultVerifyOp who alg ops)
  else if op = 4 then fits (decide (len = 0)) (vaultEcdhOp who alg (f 4 2) ops)
  else rangeOp

def fin (n : Nat) (h : 0 < n) (k : Nat) : Fin n := ⟨k % n, Nat.mod_lt _ h⟩

/-- Commands of chapters 1 and 16 to 19. -/
def commandSystem (who : Who) (h : Handle) (o : ObjRef) (bs : List Byte) : Option DictOp :=
  let n := beNat bs
  let i := o.i
  let j := o.sub
  if i = 0x2410 then
    some (if j = 0 then tenancyCreateOp who (recOf 8 bs) else tenancyDestroyOp who (handleIn bs))
  else if i = 0x2420 ∧ j = 3 then
    some (if n = 1 then epochCommitOp who else if n = 2 then epochDiscardOp who else rangeOp)
  else if i = 0xC000 then
    some (if j = 4 then tenShareOp who h .east (BitVec.ofNat 16 n) else if j = 5 then tenShareOp who h .west (BitVec.ofNat 16 n)
      else tenResetOp who h (BitVec.ofNat 8 n))
  else if i = 0xC001 then some (tenQuotaOp who h (BitVec.ofNat 8 j) (BitVec.ofNat 32 n))
  else if i = 0x2000 then some (clkRequalifyOp who n)
  else if i = 0x2001 then some (clkSourceOp who (fin 45 (by decide) j) n)
  else if i = 0x2002 then some (steppeFreqOp who (fin 6 (by decide) j) n)
  else if i = 0x2100 then some (powerDomainOp who (fin 45 (by decide) j) n)
  else if i = 0x2101 ∧ j = 1 then some (ladderRequestOp who n)
  else if i = 0x2110 ∧ j = 3 then
    some (onlyOne bs { status := fun s => (powerCapClearOp who (!s.clk.alertLow)).status s
                       effect := fun s => (powerCapClearOp who (!s.clk.alertLow)).effect s })
  else if i = 0x2201 then
    some (if j = 1 then imgInstallOp who (recOf 16 bs) else imgMarkOp who (recField 2 0 1 n) (recField 2 1 1 n))
  else if i = 0x2202 then some (if j = 2 then rollbackCommitOp who n else imgKeyRevokeOp who n)
  else if i = 0x2300 then some (lcAdvanceOp who (recOf 132 bs))
  else if i = 0x2301 then some (debugUnlockOp who (recOf 148 bs))
  else if i = 0x2302 ∧ j = 3 then some (tamperLockOp who (BitVec.ofNat 8 n))
  else if i = 0x2310 then
    some (if j = 1 then keyGenerateOp who (recOf 8 bs) else if j = 2 then keyImportOp who (recOf 72 bs) else keyDestroyOp who n)
  else if i = 0x2360 then some (vaultCmdOp who bs)
  else if 0x2380 ≤ i ∧ i ≤ 0x23FF then some (saWriteOp who (fin 16384 (by decide) ((i - 0x2380) * 128 + j)) (recOf 64 bs))
  else if i = 0xC090 then some (keyImportTOp who h (recOf 68 bs))
  else if i = 0x2440 ∧ j = 1 then some (onlyOne bs chipResetOp)
  else if i = 0x2450 then some (laneTestOp who n)
  else if i = 0x2451 then some (saddleTestOp who n)
  else none

/-- Commands of chapters 3 to 9. -/
def commandVale (who : Who) (o : ObjRef) (bs : List Byte) : Option DictOp :=
  let n := beNat bs
  let i := o.i
  let j := o.sub
  let v := o.v
  if o.d.staged then some (stagedWriteOp who o.index j bs)
  else if i = 0x3000 then some (portModeOp who v (BitVec.ofNat 8 n))
  else if i = 0x3011 then some (colTestOp who v (BitVec.ofNat 8 n))
  else if i = 0x3015 then some (condQueueOp who v (fin 32 (by decide) j) (recOf 12 bs))
  else if 0x3040 ≤ i ∧ i ≤ 0x3057 then
    some (partMapOp who v (fin 12 (by decide) ((i - 0x3040) / 2)) (fin 256 (by decide) ((i - 0x3040) % 2 * 128 + j)) (handleIn bs))
  else if i = 0x3600 then some (if j = 1 then partitionCreateOp who v (recOf 24 bs) else partitionDestroyOp who v (handleIn bs))
  else if i = 0x3640 then some (tableTestOp who v (BitVec.ofNat 16 n))
  else if i = 0x4000 then
    some (if j = 1 then queueCreateOp who v (recOf 32 bs) else if j = 2 then queueDestroyOp who v (handleIn bs)
      else if j = 3 then shaperCreateOp who v (recOf 20 bs) else shaperDestroyOp who v (handleIn bs))
  else if i = 0x4001 then some (floodSizeOp who v (BitVec.ofNat 8 n))
  else if 0x4100 ≤ i ∧ i ≤ 0x41FF then
    some (queueConfOp who v (fin 32768 (by decide) ((i - 0x4100) * 128 + j)) (recOf 32 bs))
  else if 0x4300 ≤ i ∧ i ≤ 0x441F then
    some (shaperWriteOp who v (fin 36864 (by decide) ((i - 0x4300) * 128 + j)) (recOf 16 bs))
  else if i = 0x4500 then some (if j = 1 then policerCreateOp who v (recOf 28 bs) else policerDestroyOp who v (handleIn bs))
  else if 0x4510 ≤ i ∧ i ≤ 0x458F then
    some (policerWriteOp who v (fin 16384 (by decide) ((i - 0x4510) * 128 + j)) (recOf 24 bs))
  else if i = 0x4618 ∧ j = 1 then some (gateApplyOp who v (BitVec.ofNat 8 n))
  else if i = 0x4630 then
    some (if j = 1 then replCreateOp who v (handleIn bs) else if j = 2 then replDestroyOp who v (handleIn bs)
      else if j = 3 then replWriteOp who v bs else if j = 4 then replApplyOp who v (recOf 6 bs) else replQueryOp who v (recOf 6 bs))
  else if i = 0x7800 ∧ j = 2 then some (timeSetOp who (recOf 12 bs))
  else if i = 0x7800 ∧ j = 3 then some (timeStepOp who (recOf 8 bs))
  else none

/-- Commands of chapters 10 to 15. -/
def commandHost (who : Who) (h : Handle) (o : ObjRef) (bs : List Byte) : Option DictOp :=
  let n := beNat bs
  let i := o.i
  let j := o.sub
  if i = 0x5010 then
    some (if j = 1 then vfAssignOp who (recOf 8 bs) else if j = 2 then vfReleaseOp who (handleIn bs)
      else vfResetOp who (handleIn bs))
  else if 0x5100 ≤ i ∧ i ≤ 0x511F then
    some (winEntryOp who (fin 4096 (by decide) ((i - 0x5100) * 128 + j)) (recOf 24 bs))
  else if i = 0x6000 then some (if j = 1 then nvmeCtrlCreateOp who (recOf 8 bs) else nvmeCtrlDestroyOp who (handleIn bs))
  else if 0x6200 ≤ i ∧ i ≤ 0x621F then
    some (nvmeVolOp who (fin 4096 (by decide) ((i - 0x6200) * 128 + j)) (recOf 48 bs))
  else if i = 0x6800 then some (slotModeOp who (fin 4 (by decide) j) (BitVec.ofNat 8 n))
  else if i = 0x6801 then some (slotPowerAnyOp who (fin 4 (by decide) j) (BitVec.ofNat 8 n))
  else if i = 0x6803 then some (if j = 1 then slotLoadOp who (recOf 24 bs) else slotUnloadOp who (BitVec.ofNat 8 n))
  else if i = 0x6810 then
    some (if j = 1 then regionCreateOp who (recOf 24 bs) else if j = 2 then regionDestroyOp who (handleIn bs)
      else regionResetOp who (handleIn bs))
  else if i = 0x6820 then some (sgInvalidateOp who (recOf 16 bs))
  else if i = 0x6821 then some (onlyOne bs (saddlePortResetOp who (fin 8 (by decide) j)))
  else if i = 0x6830 then some (windowOp who 0 (fin 63 (by decide) j) (recOf 32 bs))
  else if i = 0xC030 then some (windowOp who h (fin 63 (by decide) j) (recOf 32 bs))
  else if i = 0xC060 then some (if j = 1 then dplCtrlOp who h (BitVec.ofNat 8 n) else dplHarvestOp who h (recOf 32 bs))
  else if i = 0xC061 then some (dplRangeOp who h (fin 8 (by decide) j) (recOf 24 bs))
  else if i = 0xC062 then some (migHoldOp who h (BitVec.ofNat 8 n))
  else if i = 0xC070 then some (if j = 1 then mbFunctionOp who h (handleIn bs) else onlyOne bs (mbResetOp who h))
  else if i = 0x7000 then some (quadTestOp who (BitVec.ofNat 8 n))
  else if i = 0x7050 ∧ j = 1 then some (periphEnOp who (BitVec.ofNat 16 n))
  else none

/-! ### Any object -/

/-- What a WRITE of an object runs, its right and length aside. -/
def writeBody (who : Who) (h : Handle) (o : ObjRef) (bs : List Byte) : DictOp :=
  let ten := hIdx h
  match commandSystem who h o bs with
  | some op => op
  | none => match commandVale who o bs with
    | some op => op
    | none => match commandHost who h o bs with
      | some op => op
      | none => match valueWriteLow who o ten bs with
        | some op => op
        | none => match valueWriteHigh o ten bs with
          | some op => op
          | none => valueOp o ten (beNat bs) (fun _ => []) id

/-- The value's length is not one of the object's (R41). -/
def lengthBad (d : ObjDesc) (n : Nat) : Bool :=
  if d.type = 9 ∨ d.type = 10 ∨ d.min < d.max ∧ d.type = 11 then decide (n < d.min) || decide (d.max < n) else decide (n ≠ d.size)

/-- The operation of a WRITE of one object (R42): right, length and range, then its own conditions. -/
def writeOp (who : Who) (h : Handle) (o : ObjRef) (bs : List Byte) : DictOp :=
  let base : List (Status × Bool) := [(.access, !mayWrite o.d who.role),
    (.range, lengthBad o.d bs.length || (!isOctets o.d && outOfRange o.d (beNat bs)))]
  let own := writeBody who h o bs
  let op := if lengthBad o.d bs.length then rangeUnless own else own
  { op with status := fun s => firstStatus (base ++ [(op.status s, decide (op.status s ≠ .ok))]) }

/-! ### Conditions of every request -/

/-- The handle field against the index (R45), and a Halted tenancy (R31). -/
def handleChecks (s : State) (who : Who) (h : Handle) (idx : Nat) (exempt : Bool) : List (Status × Bool) :=
  if tenRelative idx then
    [(.range, !handleFits h 1),
     (.access, handleFits h 1 && decide (who.role = .tenant) && decide (hIdx h ≠ hIdx who.bound)),
     (.staleHandle, handleStale s h),
     (.halted, tenCurrent s h && ownerHalted s h && !exempt)]
  else [(.range, decide (h ≠ 0)), (.staleHandle, handleStale s h)]

/-- Objects of a Halted tenancy that may be read (R31). -/
def haltedReads (idx : Nat) : Bool := decide (idx = 0xC000) || decide (idx = 0xC002) || decide (idx = 0xC080)

/-- What is served in fail-stop (R479). -/
def failReads (idx : Nat) : Bool := (decide (0x1000 ≤ idx) && decide (idx < 0x1900)) || decide (idx = 0x2440)
def failWrites (idx sub : Nat) : Bool := decide (idx = 0x2440) && decide (sub = 1)

/-- Writes that fail-stop does not answer with HALTED: CHIP_RESET, and LADDER_REQUEST, which is NOT_READY. -/
def failPass (idx sub : Nat) : Bool := failWrites idx sub || (decide (idx = 0x2101) && decide (sub = 1))

/-- In Scrapped only the identity objects are served (R402). -/
def scrapped (s : State) (idx : Nat) : Bool := decide (s.vault.lcBoot = 4) && decide (idx ≠ 0x1000)

/-- The vendor test range (R44). -/
def vendorIndex (idx : Nat) : Bool := decide (0xF000 ≤ idx)

/-- A dictionary write outside any Idien message: one object, checked as a WRITE is. -/
def dictWriteOp (who : Who) (h : Handle) (idx sub : Nat) (bs : List Byte) : DictOp :=
  match findObj idx sub with
  | none => { status := fun s =>
                firstStatus (handleChecks s who h idx false ++ [(.access, scrapped s idx || vendorIndex idx), (.range, true)])
              effect := fun s => (s, []) }
  | some o =>
    let op := writeOp who h o bs
    { op with status := fun s =>
        let st := op.status s
        firstStatus (handleChecks s who h idx (decide (idx = 0xC000) && decide (sub = 6)) ++
          [(st, decide (st ≠ .ok)), (.access, scrapped s idx), (.halted, s.err.failStop && !failPass idx sub)]) }

/-! ### REGISTER_WRITE (R10) -/

/-- REGION_RESET as one write: answered when the reset ends (R275). -/
def isRegionReset (idx sub : Nat) : Bool := decide (idx = 0x6810) && decide (sub = 3)

/-- The window records that one dictionary write changes, or whose entries it drops (R267, R268). -/
def writeKeys (h : Handle) (idx sub : Nat) (bs : List Byte) : List Nat :=
  if idx = 0x6830 then [windowKey 0 sub]
  else if idx = 0xC030 then [windowKey h sub]
  else if idx = 0x6820 then [sgInvalKey (recOf 16 bs)]
  else []

/-- A write of a register or object that has no row of its own. -/
def execRegisterWrite (t : RegTarget) (s : State) : Out :=
  match t with
  | .dict who h idx sub bs =>
    if glenServes s && vendorIndex idx.toNat && decide (s.vault.lcBoot ≠ 2) && !scrapped s idx.toNat && !s.err.failStop
        && decide (h = 0) then
      .refused (.vendorTest idx.toNat)
    else
      let op := dictWriteOp who h idx.toNat sub.toNat bs
      if glenServes s && isRegionReset idx.toNat sub.toNat && decide (op.status s = .ok) then
        .next (isolateFor (modRegion s (hIdx (handleIn bs)) (fun x => { x with byWrite := true })) (hIdx (handleIn bs)) .reset)
      else .next (runGated op (writeKeys h idx.toNat sub.toNat bs) s)
  | .mbIntrEn v => .next (mbIntrEnWrite s v)
  | .tc v r off w host =>
    .next (if s.err.failStop ∨ ringShut s host then s else setTcRing s v r (tcRegister (msixSize s 0) (tcRingOf s v r) off w))
  | .telem v off w host => .next (if ringShut s host then s else telemRegister s v off w)
  | .qeCmdBuf f off b => .next (qeCmdByte s f off b)
  | .qeCtrl f w => .next (qeControl s f w)
  | .nvmeReg c off w => .next (nvRegister s c off w)
  | .mbox n side off w => .next (mbRegister s n side off w)
  | .mbPending k w host => .next (if ringShut s host then s else mbPendClear s k w)
  | .steppeRing r off w => .next (sringRegister s r off w)
  | .hartPc h hi w => .next (hartPcWrite s h hi w)
  | .msixEntry f vec word w => .next (msixWord s f vec word w)

end Sys2Proof.Machine
end

