-- ==== Sys2Proof/Machine/Idien.lean ====
section
/-! DEFINITION. The Idien protocol (R45-R52, R63-R65): Glen's five queues and the requests that it takes from them. -/

namespace Sys2Proof.Machine

/-! ### The queues (R63) -/

def queueAt (s : State) : GlenQueue → List Req
  | .o => s.idien.qO
  | .h => s.idien.qH
  | .t => s.idien.qT
  | .v => s.idien.qV
  | .u => s.idien.qU

def setQueue (s : State) (q : GlenQueue) (l : List Req) : State :=
  match q with
  | .o => { s with idien := { s.idien with qO := l } }
  | .h => { s with idien := { s.idien with qH := l } }
  | .t => { s with idien := { s.idien with qT := l } }
  | .v => { s with idien := { s.idien with qV := l } }
  | .u => { s with idien := { s.idien with qU := l } }

def queueNum : GlenQueue → Nat
  | .o => 0 | .h => 1 | .t => 2 | .v => 3 | .u => 4

def queueCap : GlenQueue → Nat
  | .o => 32 | .h => 16 | .t => 64 | .v => 8 | .u => 8

def queueWeight : GlenQueue → Nat
  | .o => 4 | .h => 2 | .t => 1 | .v => 4 | .u => 1

def allQueues : List GlenQueue := [.o, .h, .t, .v, .u]

/-- The queue of a source: that of its role, or U without a session. -/
def queueFor (s : State) : ReqSource → GlenQueue
  | .open_ _ => .u
  | .session n => (match sessionAt s n with
    | none => .u
    | some x => (match x.role with
      | .operator => .o
      | .host => .h
      | .tenant => .t
      | .vault => .v))

/-- Services left to a queue in the round. -/
def leftOf (s : State) (q : GlenQueue) : Nat := tgetD s.idien.left (queueNum q) (queueWeight q)

def waiting (s : State) (q : GlenQueue) : Bool := !(queueAt s q).isEmpty

/-- The round is over: no queue that holds a request has a service left. -/
def roundOver (s : State) : Bool := allQueues.all (fun q => !waiting s q || decide (leftOf s q = 0))

/-- Weighted round robin lets the queue be served next. -/
def mayServe (s : State) (q : GlenQueue) : Bool := waiting s q && (decide (0 < leftOf s q) || roundOver s)

/-- Takes the oldest request of a queue. -/
def takeReq (s : State) (q : GlenQueue) : State :=
  let round : Tab Nat := if roundOver s then [] else s.idien.left
  let s1 := setQueue s q ((queueAt s q).drop 1)
  { s1 with idien := { s1.idien with left := tset round (queueNum q) (tgetD round (queueNum q) (queueWeight q) - 1) } }

/-- Requests of a source that are not answered: queued, or waiting for the end of a region reset (R275). -/
def outstanding (s : State) (src : ReqSource) : Nat :=
  (allQueues.flatMap (fun q => (queueAt s q).filter (fun r => decide (r.src = src)))).length
    + (s.saddle.regions.filter (fun p => decide (p.2.byReq.map (fun r => r.src) = some src))).length
    + (s.saddle.gateWaits.filter (fun w => decide (w.req.map (fun r => r.src) = some src))).length

/-- A retransmission in a session of version 1.3 or above that the cached response answers (R50). -/
def resent (s : State) (r : Req) : Option RespMsg :=
  match r.src with
  | .open_ _ => none
  | .session n =>
    match sessionAt s n with
    | none => none
    | some x =>
      if n ≠ 0 ∧ verHas x 1 3 then
        (match x.cached with
          | some c => if c.1 = r.msg.sequence then some c.2 else none
          | none => none)
      else none

/-- A source that can send: without a session, or in one that stands; none in fail-stop by the vault (R479). -/
def sourceStands (s : State) (src : ReqSource) : Bool :=
  match src with
  | .open_ _ => true
  | .session n => (sessionAt s n).isSome && !(s.err.failStop && s.err.vaultCause)

def overMgmt (s : State) (src : ReqSource) : Bool :=
  match src with
  | .open_ t => decide (t = .mgmt)
  | .session n => (match sessionAt s n with | some x => decide (n ≠ 0) && decide (x.transport = .mgmt) | none => false)

/-- A refusal at Glen's queues: counted, and answered with the queue's depth times the mean service time, which counts as
1 ms until 64 requests are served and is a free value, in microseconds, from then on. -/
def refuseBusy (s : State) (r : Req) : State :=
  let q := queueFor s r.src
  let depth := (queueAt s q).length
  let s1 := bump s (okey 0x1104 (queueNum q + 1)) 32 1
  let d := if s.idien.served < 64 then (1000, s1) else drawFree s1 1000001
  answerReq d.2 r { status := .busy, retry := clampRetry (ceilDiv (depth * d.1) 1000) }

/-- A request arrives at Glen. The limit of 4 outstanding requests holds for sessions and for requests without one; the
vault's internal port, session 0 here, is no session (R53) and fills its queue of 8 (DEDUCED, log entry 78). -/
def enqueueReq (s : State) (r : Req) : State :=
  if !glenServes s || !sourceStands s r.src then s
  else if overMgmt s r.src && decide (1024 < r.msg.payload.length) then count s (okey 0x1102 4)
  else match resent s r with
    | some m => sendResp s r.src m
    | none =>
      let q := queueFor s r.src
      if queueCap q ≤ (queueAt s q).length ∨ 4 ≤ outstanding s r.src ∧ r.src ≠ .session 0 then refuseBusy s r
      else setQueue s q (queueAt s q ++ [r])

/-- REQUEST_ENQUEUE. -/
def execRequestEnqueue (src : ReqSource) (m : IdienMsg) (s : State) : Out := .next (enqueueReq s { src := src, msg := m })

/-! ### Conditions of a request (R14) -/

/-- Who makes a request. Without a session no right beyond the public objects is held (R55). -/
def whoOf (s : State) : ReqSource → Who
  | .open_ _ => { role := .tenant, bound := 0, sess := 0 }
  | .session n => (match sessionAt s n with
    | some x => { role := x.role, bound := x.bound, sess := n }
    | none => { role := .tenant, bound := 0, sess := n })

def isOpen : ReqSource → Bool
  | .open_ _ => true
  | .session _ => false

/-- The message's version against the session's (R52). Before a session's first GET_VERSION no version is in force, and every
other request completes with VERSION: the spec does not say what holds then (DESIGN CHOICE, log entry 78). -/
def versionBad (s : State) (r : Req) : Bool :=
  match r.src with
  | .open_ _ => false
  | .session n => (match sessionAt s n with
    | some x => decide (x.major = 0) || decide (r.msg.verMajor.toNat ≠ x.major) || decide (x.minor < r.msg.verMinor.toNat)
    | none => true)

/-- The version of the session does not have a feature. Without a session there is no negotiated version, and nothing is
lacking: the spec does not say which minor holds there (DESIGN CHOICE, log entry 78). -/
def lacks (s : State) (src : ReqSource) (major minor : Nat) : Bool :=
  match src with
  | .open_ _ => false
  | .session n => (match sessionAt s n with | some x => !verHas x major minor | none => true)

/-- Objects that may be read without a session (R55, R68). -/
def publicObj (idx sub : Nat) : Bool :=
  decide (idx = 0x1000) && ((decide (1 ≤ sub) && decide (sub ≤ 7)) || decide (sub = 10))

/-- The subindices a request addresses; none where they do not fit (R46). -/
def subsOf (m : IdienMsg) : List Nat :=
  if m.subindex.toNat + m.count.toNat ≤ 256 then (List.range m.count.toNat).map (fun k => m.subindex.toNat + k) else []

/-- The conditions of a READ, WRITE or DESCRIBE on versions, source, handle, life cycle and fail-stop. -/
def reqChecks (s : State) (r : Req) (open_ exempt passes : Bool) : List (Status × Bool) :=
  let i := r.msg.index.toNat
  handleChecks s (whoOf s r.src) r.msg.handle i exempt ++
    [(.version, versionBad s r || (tenRelative i && lacks s r.src 1 4)),
     (.access, (isOpen r.src && !open_) || scrapped s i || (vendorIndex i && decide (s.vault.lcBoot = 2))),
     (.range, decide (1024 < r.msg.payload.length)),
     (.halted, s.err.failStop && !passes)]

/-- The request is for the vendor test range, where its access is not closed, and nothing else is against it. -/
def vendorTest (s : State) (r : Req) : Bool :=
  vendorIndex r.msg.index.toNat && decide (firstStatus (reqChecks s r false false false) = .ok)

/-! ### Answers -/

/-- Answers with what an operation comes to. -/
def answerOp (s : State) (r : Req) (op : DictOp) : State :=
  match op.status s with
  | .ok => let e := op.effect s; answerReq e.1 r { payload := e.2 }
  | .busy => answerReq (op.onFail s .busy) r { status := .busy, retry := clampRetry (op.retry s) }
  | st => answerReq (op.onFail s st) r { status := st }

/-! ### READ (R48) -/

/-- One value of a READ: its operation, and whether its length varies. -/
def readItem (s : State) (who : Who) (ten idx sub : Nat) : Option (DictOp × Bool) :=
  if sub = 0xFF then
    let w := westIndex idx
    (stagingView s (if w then .west else .east) (if w then idx - 0x800 else idx)).map
      (fun p => ({ status := fun _ => firstStatus [(.access, !mayRead p.1 who.role)], effect := fun t => (t, p.2) }, false))
  else (findObj idx sub).map (fun o => (readOp who ten o, isOctets o.d))

/-- Takes the values in order; with more than one, a value of varying length has its length before it. -/
def takeValues (many : Bool) : State → List (DictOp × Bool) → State × List Byte
  | s, [] => (s, [])
  | s, it :: its =>
    let e := it.1.effect s
    let r := takeValues many e.1 its
    (r.1, (if many && it.2 then beBytes 2 e.2.length else []) ++ e.2 ++ r.2)

def readMsgOp (s0 : State) (r : Req) : DictOp :=
  let m := r.msg
  let idx := m.index.toNat
  let who := whoOf s0 r.src
  let subs := subsOf m
  let items := subs.map (fun k => readItem s0 who (hIdx m.handle) idx k)
  let found := items.filterMap id
  let many := decide (1 < m.count.toNat)
  { status := fun s =>
      let checks := reqChecks s r (!subs.isEmpty && subs.all (publicObj idx)) (haltedReads idx) (failReads idx) ++
        [(.version, (many && lacks s r.src 1 1) || (subs.contains 0xFF && lacks s r.src 2 2)),
         (.range, subs.isEmpty || items.any (fun x => x.isNone))] ++
        found.map (fun it => (it.1.status s, decide (it.1.status s ≠ .ok)))
      match firstStatus checks with
      | .ok => if 1024 < (takeValues many s found).2.length then .range else .ok
      | st => st
    effect := fun s => takeValues many s found }

/-! ### WRITE (R48) -/

/-- The wire size of the value that stands first in a payload of several (R47): an OCTETS or STRING has its length before it,
a RECORD whose length varies counts its own 8-byte members in its bytes 6 and 7 (REPL_WRITE, R241), any other has its
size. -/
def wireSize (d : ObjDesc) (bs : List Byte) : Nat :=
  if isOctets d then beNat (sliceD bs 0 2 0)
  else if d.type = 11 ∧ d.min < d.max then 8 + 8 * beNat (sliceD bs 6 2 0)
  else d.size

/-- The payload divided among several objects; none where it does not fit them. -/
def splitVals : List ObjRef → List Byte → Option (List (ObjRef × List Byte))
  | [], bs => if bs.isEmpty then some [] else none
  | o :: os, bs =>
    let n := wireSize o.d bs
    let rest := if isOctets o.d then bs.drop 2 else bs
    if isOctets o.d ∧ bs.length < 2 ∨ rest.length < n then none
    else (splitVals os (rest.drop n)).map (fun l => (o, rest.take n) :: l)

/-- The operations one after another: the first failure, or the state and the payload in the end. -/
def runOps : State → List DictOp → Except (Status × DictOp) (State × List Byte)
  | s, [] => .ok (s, [])
  | s, op :: ops =>
    match op.status s with
    | .ok =>
      let e := op.effect s
      (match runOps e.1 ops with
        | .ok r => .ok (r.1, e.2 ++ r.2)
        | .error f => .error f)
    | st => .error (st, op)

/-- The values of a WRITE; none where an object is missing or the payload does not fit. -/
def writeVals (m : IdienMsg) : Option (List (ObjRef × List Byte)) :=
  let objs := (subsOf m).map (fun k => findObj m.index.toNat k)
  let found := objs.filterMap id
  if found.isEmpty ∨ objs.any (fun x => x.isNone) then none
  else match found with
    | [o] => some [(o, m.payload)]
    | os => splitVals os m.payload

/-- The operations of a WRITE in the order in which they run: CHIP_RESET after the values beside it. -/
def writeOps (s : State) (r : Req) : List DictOp :=
  let who := whoOf s r.src
  let ops := match writeVals r.msg with
    | some l => l.map (fun p => writeOp who r.msg.handle p.1 p.2)
    | none => []
  if r.msg.index.toNat = 0x2440 then ops.reverse else ops

/-- The staging view of an index that has one is not written. -/
def writesView (s : State) (m : IdienMsg) : Bool :=
  let i := m.index.toNat
  let w := westIndex i
  (subsOf m).contains 0xFF && (stagingView s (if w then .west else .east) (if w then i - 0x800 else i)).isSome

/-- TEN_RESET is written to a Halted tenancy (R31). -/
def isTenReset (m : IdienMsg) : Bool := decide (m.index.toNat = 0xC000) && decide (subsOf m = [6])

/-- The conditions of a WRITE before those of its objects. -/
def writeChecks (s : State) (r : Req) : List (Status × Bool) :=
  let m := r.msg
  let i := m.index.toNat
  let subs := subsOf m
  let objs := subs.map (fun k => findObj i k)
  reqChecks s r false (isTenReset m) (!subs.isEmpty && subs.all (failPass i)) ++
    [(.version, decide (1 < m.count.toNat) && lacks s r.src 2 3),
     (.access, writesView s m || (objs.filterMap id).any (fun o => !mayWrite o.d (whoOf s r.src).role)),
     (.range, (writeVals m).isNone)]

def writeMsgOp (s0 : State) (r : Req) : DictOp :=
  let ops := writeOps s0 r
  let own : State → List (Status × Bool) := fun s => ops.map (fun op => (op.status s, decide (op.status s ≠ .ok)))
  { status := fun s =>
      match firstStatus (writeChecks s r ++ own s) with
      | .ok => (match runOps s ops with | .ok _ => .ok | .error f => f.1)
      | st => st
    effect := fun s => match runOps s ops with | .ok e => e | .error _ => (s, [])
    retry := fun s => match ops.find? (fun op => decide (op.status s = .busy)) with | some op => op.retry s | none => 1000
    onFail := fun s st =>
      if firstStatus (writeChecks s r) ≠ .ok then s
      else match ops.find? (fun op => decide (op.status s = st)) with | some op => op.onFail s st | none => s }

/-- The window records that a WRITE changes, or whose entries an SG_INVALIDATE drops (R267, R268). -/
def windowKeys (m : IdienMsg) : List Nat :=
  (subsOf m).flatMap (fun j => writeKeys m.handle m.index.toNat j m.payload)

/-- One write: of REGION_RESET answered when the reset ends (R275), of window records when the requests translated under them
have completed (R267, R268). -/
def writeReq (s : State) (r : Req) : State :=
  let op := writeMsgOp s r
  let region := hIdx (handleIn r.msg.payload)
  if isRegionReset r.msg.index.toNat r.msg.subindex.toNat && decide (r.msg.count = 1) && decide (op.status s = .ok) then
    isolateFor (modRegion s region (fun x => { x with byWrite := true, byReq := some r })) region .reset
  else if glenServes s && decide (op.status s = .ok) && gateBusy s (windowKeys r.msg) then
    holdWrite (op.effect s).1 (windowKeys r.msg) (some r)
  else answerOp s r op

/-! ### DESCRIBE (R49) -/

/-- Objects whose default the fuses, the part or the image give: the value they have. -/
def givenDefault (o : ObjRef) : Bool :=
  let i := o.i
  (decide (i = 0x1000) && (decide (o.sub = 5) || decide (o.sub = 7) || decide (o.sub = 9)))
    || (decide (i = 0x2202) && (decide (o.sub = 1) || decide (o.sub = 3)))
    || (decide (i = 0x2300) && (decide (o.sub = 1) || decide (o.sub = 3)))

/-- The default of a numeric object (R49). -/
def descDefault (s : State) (who : Who) (ten : Nat) (o : ObjRef) : Nat :=
  let i := o.i
  if isOctets o.d ∨ o.d.type = 11 then 0
  else if givenDefault o then beNat (objValue s who ten o)
  else if i = 0x2001 then (if o.sub = 0 then 3 else 0)
  else if i = 0x2100 then (if 30 ≤ o.sub ∧ o.sub ≤ 37 then 0 else 2)
  else if i = 0x3000 ∧ o.sub = 1 then (if Config.hx then 2 else 3)
  else if i = 0x3620 ∨ i = 0x3621 then memCapacity o.sub
  else if i = 0x4001 ∧ o.sub = 2 then numD s (vkey o.v 0x4001 1) 8 * gib
  else if i = 0xC040 ∧ (o.sub = 2 ∨ o.sub = 3) ∨ i = 0xC050 ∧ o.sub = 2 then
    (if modeOf s (handleOf s 1 ten) = 2 then 0 else o.d.dflt)
  else o.d.dflt

def descRecord (type access persistence attributes size dflt lo hi : Nat) : List Byte :=
  beBytes 1 type ++ beBytes 1 access ++ beBytes 1 persistence ++ beBytes 1 attributes ++ beBytes 2 size ++ beBytes 8 dflt
    ++ beBytes 8 lo ++ beBytes 8 hi

/-- The description record of an object; a quota reaches as far as its own kind has indices (R23). -/
def describeObj (s : State) (who : Who) (ten : Nat) (o : ObjRef) : List Byte :=
  descRecord o.d.type o.d.access (bit1 o.d.stored) (bit1 o.d.staged + 2 * bit1 (tenRelative o.i)) o.d.size
    (descDefault s who ten o) o.d.min (if o.i = 0xC001 then kindCount o.sub else o.d.max)

/-- What DESCRIBE finds at an index and subindex: the role's right and the record. -/
def descOf (s : State) (who : Who) (ten idx sub : Nat) : Option (Nat × List Byte) :=
  if sub = 0xFF then
    let w := westIndex idx
    (stagingView s (if w then .west else .east) (if w then idx - 0x800 else idx)).map (fun p =>
      (rightOf p.1 who.role % 2, descRecord 11 ((List.range 4).foldl (fun a k => a + p.1.access / 4 ^ k % 2 * 4 ^ k) 0) 0 1
        p.2.length 0 p.2.length p.2.length))
  else (findObj idx sub).map (fun o => (rightOf o.d who.role, describeObj s who ten o))

def describeMsgOp (s0 : State) (r : Req) : DictOp :=
  let m := r.msg
  let d := descOf s0 (whoOf s0 r.src) (hIdx m.handle) m.index.toNat m.subindex.toNat
  { status := fun s => firstStatus (reqChecks s r false false false ++
      [(.version, lacks s r.src 2 1), (.range, decide (m.count ≠ 1) || d.isNone),
       (.access, match d with | some x => decide (x.1 = 0) | none => false)])
    effect := fun s => (s, match d with | some x => x.2 | none => []) }

/-! ### LIST (R47) -/

/-- Index ranges with their highest subindex, of the objects on which a role holds a right: 0xFF, the staging view, where the
role may read an epoch-staged object (R40). -/
def listRanges (s : State) (role : Role) : List (Nat × Nat × Nat) :=
  (objRows.filter (fun d => decide (rightOf d role ≠ 0) && !scrapped s d.lo)).flatMap (fun d =>
    let top := fun (n : Nat) => if d.staged && mayRead d role then 0xFF else n
    (d.lo, d.hi, top d.subHi) ::
      (if (0x3000 ≤ d.lo ∧ d.lo < 0x3800) ∨ (0x4000 ≤ d.lo ∧ d.lo < 0x4800) then
        [(d.lo + 0x800, d.hi + 0x800, top (subTop true d))] else []))

/-- The lowest index at or above `i` that a range holds. -/
def nextIndex (l : List (Nat × Nat × Nat)) (i : Nat) : Option Nat :=
  l.foldl (fun best e =>
    if e.2.1 < i then best
    else
      let x := max e.1 i
      match best with
      | none => some x
      | some y => some (min x y)) none

/-- Up to `n` entries from an index upward. -/
def listFrom (l : List (Nat × Nat × Nat)) : Nat → Nat → List Byte
  | 0, _ => []
  | n + 1, i =>
    match nextIndex l i with
    | none => []
    | some x =>
      let hi := l.foldl (fun a e => if e.1 ≤ x ∧ x ≤ e.2.1 then max a e.2.2 else a) 0
      beBytes 2 x ++ beBytes 1 hi ++ [0] ++ listFrom l n (x + 1)

def listMsgOp (s0 : State) (r : Req) : DictOp :=
  let m := r.msg
  let who := whoOf s0 r.src
  { status := fun s => firstStatus (handleChecks s who m.handle m.index.toNat false ++
      [(.version, versionBad s r || lacks s r.src 2 1 || (tenRelative m.index.toNat && lacks s r.src 1 4)),
       (.access, isOpen r.src), (.range, decide (1024 < m.payload.length)), (.halted, s.err.failStop)])
    effect := fun s => (s, listFrom (listRanges s who.role) 255 m.index.toNat) }

/-! ### GET_VERSION (R51, R52) -/

/-- Pairs of bytes. -/
def offersOf : List Byte → List (Nat × Nat)
  | a :: b :: bs => (a.toNat, b.toNat) :: offersOf bs
  | _ => []

/-- The versions of the LN9192 B0. -/
def idienVersions : List (Nat × Nat) := [(1, 4), (2, 3)]

def getVersionOp (r : Req) : DictOp :=
  let p := r.msg.payload
  let v := negotiate (offersOf p) idienVersions
  { status := fun s => firstStatus
      [(.range, decide (p.length < 2) || decide (16 < p.length) || decide (p.length % 2 ≠ 0)), (.version, v.isNone),
       (.halted, s.err.failStop)]
    effect := fun s => match v with
      | none => (s, [])
      | some x =>
        let s1 := match r.src with
          | .open_ _ => s
          | .session n => (match sessionAt s n with
            | some y => setSession s n { y with major := x.1, minor := x.2 }
            | none => s)
        (s1, beBytes 1 x.1 ++ beBytes 1 x.2) }

/-! ### Service -/

/-- The state once Glen has taken the oldest request of a queue for service (R63). -/
def takenState (s : State) (q : GlenQueue) : State :=
  let s1 := takeReq s q
  { s1 with idien := { s1.idien with served := min 64 (s1.idien.served + 1) } }

/-- Glen takes the oldest request of a queue, if its opcode is one of these. -/
def serve (q : GlenQueue) (ops : Nat → Bool) (f : State → Req → State) (s : State) : State :=
  match queueAt s q with
  | [] => s
  | r :: _ =>
    if glenServes s && mayServe s q && ops r.msg.opcode.toNat then
      match resent s r with
      | some m => sendResp (takeReq s q) r.src m
      | none => f (takenState s q) r
    else s

/-- A request in the vendor test range is about to be served. -/
def servesVendor (q : GlenQueue) (ops : Nat → Bool) (s : State) : Bool :=
  match queueAt s q with
  | [] => false
  | r :: _ => glenServes s && mayServe s q && ops r.msg.opcode.toNat && vendorTest s r && (resent s r).isNone

def frontIndex (q : GlenQueue) (s : State) : Nat :=
  match queueAt s q with
  | [] => 0
  | r :: _ => r.msg.index.toNat

/-- Service of a request; what the vendor test range does is not described (R44). -/
def serveOrRefuse (q : GlenQueue) (ops : Nat → Bool) (f : State → Req → State) (s : State) : Out :=
  if servesVendor q ops s then .refused (.vendorTest (frontIndex q s)) else .next (serve q ops f s)

/-- GET_VERSION, READ and the unknown opcodes, WRITE, DESCRIBE, LIST. -/
def opGetVersion (n : Nat) : Bool := decide (n = 1)
def opRead (n : Nat) : Bool := decide (n = 2)
def opUnknown (n : Nat) : Bool := decide (n < 1) || decide (5 < n)
def opWrite (n : Nat) : Bool := decide (n = 3)
def opDescribe (n : Nat) : Bool := decide (n = 4)
def opList (n : Nat) : Bool := decide (n = 5)

def execGetVersion (q : GlenQueue) (s : State) : Out :=
  .next (serve q opGetVersion (fun t r => answerOp t r (getVersionOp r)) s)

/-- An opcode that is not implemented (R47), EVENT of a requester among them. -/
def unknownOp (r : Req) : DictOp where
  status := fun s => firstStatus
    [(.version, versionBad s r), (.access, isOpen r.src), (.range, true), (.halted, s.err.failStop)]
  effect := fun s => (s, [])

/-- READ; requests with an unknown opcode, for which there is no other row, are taken and refused here too. -/
def execRead (q : GlenQueue) (s : State) : Out :=
  if (queueAt s q).head?.elim false (fun r => opUnknown r.msg.opcode.toNat) then
    .next (serve q opUnknown (fun t r => answerOp t r (unknownOp r)) s)
  else serveOrRefuse q opRead (fun t r => answerOp t r (readMsgOp t r)) s

def execWrite (q : GlenQueue) (s : State) : Out := serveOrRefuse q opWrite writeReq s

def execDescribe (q : GlenQueue) (s : State) : Out :=
  serveOrRefuse q opDescribe (fun t r => answerOp t r (describeMsgOp t r)) s

def execList (q : GlenQueue) (s : State) : Out := .next (serve q opList (fun t r => answerOp t r (listMsgOp t r)) s)

/-- The unit behind a READ or WRITE does not answer (R65): a request that would have succeeded completes with TIMEOUT and has
no effect. -/
def timeoutOf (op : DictOp) : DictOp :=
  { op with status := fun s => match op.status s with | .ok => .timeout | st => st }

def timeoutReq (s : State) (r : Req) : State :=
  answerOp s r (timeoutOf (if r.msg.opcode.toNat = 3 then writeMsgOp s r else readMsgOp s r))

def execUnitAnswerTimeout (q : GlenQueue) (s : State) : Out :=
  serveOrRefuse q (fun n => opRead n || opWrite n) timeoutReq s

/-! ### The dictionary store (R43) -/

/-- The value of a key goes to flash; one that is at its default is no longer listed. -/
def commitKey (d : Dict) (k : Nat) : Dict :=
  { d with
    flashNums := (match tget d.nums k with | some n => tset d.flashNums k n | none => terase d.flashNums k)
    flashOcts := (match tget d.octs k with | some bs => tset d.flashOcts k bs | none => terase d.flashOcts k) }

/-- PERSIST_COMMIT: the value written first of those that wait. -/
def execPersistCommit (s : State) : Out :=
  .next (match s.dict.pending with
    | [] => s
    | k :: ks =>
      if glenServes s && !s.err.failStop then { s with dict := { commitKey s.dict k with pending := ks } } else s)

end Sys2Proof.Machine
end

