-- ==== Sys2Proof/Machine/Spdm.lean ====
section
/-! DEFINITION. Sessions and transports (R53-R62): the SPDM responder of the vault, the MGMT port, MCTP and the PF0 mailbox. -/

namespace Sys2Proof.Machine

/-! ### The SPDM responder (R54) -/

def connOf (s : State) (c : Nat) : Conn := tgetD s.idien.conns c {}

def setConn (s : State) (c : Nat) (x : Conn) : State :=
  { s with idien := { s.idien with conns := tset s.idien.conns c x } }

/-- The vault and Glen answer SPDM requests. -/
def spdmServes (s : State) : Bool := glenServes s && s.vault.up && !(s.err.failStop && s.err.vaultCause)

/-- An SPDM request that is not served. -/
def spdmRefuse (s : State) (c : Nat) (st : Status) : State := setConn s c { connOf s c with answer := [], refused := st }

/-- An SPDM response: its code and content, with what changes in the connection. -/
def spdmAnswer (s : State) (c : Nat) (code : Nat) (content : List Byte) (f : Conn → Conn) : State :=
  setConn s c { f (connOf s c) with answer := BitVec.ofNat 8 code :: content, refused := .ok }

/-- A step of the connection in its order; out of order it is refused. -/
def spdmStep (s : State) (due : Bool) (c : Nat) (f : State → State) : State :=
  if !spdmServes s then s else if due then f s else spdmRefuse s c .notReady

/-- The content of VERSION: the one version 1.2. -/
def spdmVersions : List Byte := [0, 1, 0x00, 0x12]

def execSpdmGetVersion (conn : Nat) (s : State) : Out :=
  .next (spdmStep s true conn (fun t => spdmAnswer t conn 0x04 spdmVersions
    (fun x => { x with version := true, capabilities := false, algorithms := false, pending := none })))

/-- The capability flags: certificates, challenge, signed measurements, encryption and authentication of messages, mutual
authentication, key exchange, heartbeat, key update. -/
def spdmCaps : List Byte := leBytes 4 (2 + 4 + 16 + 64 + 128 + 256 + 512 + 8192 + 16384)

def execGetCapabilities (conn : Nat) (s : State) : Out :=
  .next (spdmStep s (connOf s conn).version conn (fun t => spdmAnswer t conn 0x61 spdmCaps
    (fun x => { x with capabilities := true, algorithms := false })))

/-- The selected algorithms: ECDSA P-384, SHA-384, ECDHE P-384, AES-256-GCM. -/
def spdmAlgs : List Byte := leBytes 4 0x80 ++ leBytes 4 0x02 ++ leBytes 2 0x10 ++ leBytes 2 0x02

def execNegotiateAlgorithms (conn : Nat) (p384 sha384 ecdhe gcm : Bool) (s : State) : Out :=
  .next (spdmStep s (connOf s conn).capabilities conn (fun t =>
    if p384 && sha384 && ecdhe && gcm then spdmAnswer t conn 0x63 spdmAlgs (fun x => { x with algorithms := true })
    else spdmRefuse t conn .range))

/-- The certificate chain of a slot (R417): slot 0 is fixed, slot 1 follows the image and the life-cycle state. -/
def chainOf (s : State) (slot : Nat) : List Byte :=
  if slot = 0 then Config.certChain 0 0 [] else Config.certChain 1 (lcState s) (imgDigest s.boot.header)

def attestKeyOf (s : State) (slot : Nat) : List Byte :=
  if slot = 0 then Config.attestKey 0 0 [] else Config.attestKey 1 (lcState s) (imgDigest s.boot.header)

def ready (s : State) (c : Nat) : Bool := (connOf s c).algorithms

/-- A step that needs random data: NOT_READY while the TRNG does not serve (R412). -/
def spdmRandom (s : State) (c : Nat) (f : State → State) : State :=
  if trngServes s then f s else spdmRefuse s c .notReady

def execGetDigests (conn : Nat) (s : State) : Out :=
  .next (spdmStep s (ready s conn) conn (fun t => spdmAnswer t conn 0x01
    ([0x03] ++ Config.sha384 (chainOf t 0) ++ Config.sha384 (chainOf t 1)) id))

/-- CERTIFICATE: slot, portion and remainder lengths, the portion. -/
def certPortion (s : State) (slot offset len : Nat) : List Byte :=
  let rest := (chainOf s slot).drop offset
  let part := rest.take len
  beBytes 1 slot ++ [0] ++ leBytes 2 part.length ++ leBytes 2 (rest.length - part.length) ++ part

def execGetCertificate (conn : Nat) (slot : U8) (offset len : U16) (s : State) : Out :=
  .next (spdmStep s (ready s conn) conn (fun t =>
    if 1 < slot.toNat then spdmRefuse t conn .range
    else spdmAnswer t conn 0x02 (certPortion t slot.toNat offset.toNat len.toNat) id))

/-- A nonce of 32 random bytes and a signature over what precedes it. -/
def spdmSigned (s : State) (slot : Nat) (asked content : List Byte) : List Byte × State :=
  let d := drawTrng s 256
  let msg := content ++ beBytes 32 d.1
  (msg ++ Config.sign (attestKeyOf s slot) (asked ++ msg) d.2.free, { d.2 with free := d.2.free + 1 })

def execChallenge (conn : Nat) (slot : U8) (nonce : List Byte) (s : State) : Out :=
  .next (spdmStep s (ready s conn) conn (fun t =>
    if 1 < slot.toNat then spdmRefuse t conn .range
    else spdmRandom t conn (fun u =>
      let r := spdmSigned u slot.toNat nonce (beBytes 1 slot.toNat ++ [0x03] ++ Config.sha384 (chainOf u slot.toNat))
      spdmAnswer r.2 conn 0x03 r.1 id)))

/-! ### Measurements (R417) -/

/-- The digest of the active program image of a Vale; zero bytes while there is none. -/
def progDigest (s : State) (v : Vale) : List Byte :=
  match (s.vale v).col.active with
  | some i => i.digest
  | none => List.replicate 48 0

/-- Manifest of a slot: all zero while not Ready. -/
def manifestDigest (s : State) (q : Nat) : List Byte :=
  if (slotOf s q).st = .ready then Config.sha384 (slotOf s q).manifest else List.replicate 48 0

/-- The anchors and bitstream keys, concatenated. -/
def anchorBytes (s : State) : List Byte :=
  octD s (okey 0x1100 1) ++ octD s (okey 0x1100 2) ++ (List.range 8).flatMap (fun k => octD s (okey 0x6807 k))
    ++ (List.range 8).flatMap (fun k => beBytes 4 (numD s (okey 0x6808 k) 0))

/-- Value type of the measurement format and the value of a block. -/
def measured (s : State) (k : Nat) : Nat × List Byte :=
  if k = 1 then (0x80, beBytes 4 0x10000)
  else if k = 2 then (0x01, imgDigest s.boot.header)
  else if k = 3 then (0x82, beBytes 1 (lcState s) ++ beBytes 1 (debugState s) ++ beBytes 2 s.vault.erasures)
  else if k = 4 then (0x83, beBytes 1 s.vault.rollback)
  else if k = 5 then (0x01, progDigest s .east)
  else if k = 6 then (0x01, progDigest s .west)
  else if k ≤ 10 then (0x04, manifestDigest s (k - 7))
  else (0x03, Config.sha384 (anchorBytes s))

/-- A measurement block: index, specification, size, value type, value size, value. -/
def measBlock (s : State) (k : Nat) : List Byte :=
  let m := measured s k
  beBytes 1 k ++ [1] ++ leBytes 2 (m.2.length + 3) ++ beBytes 1 m.1 ++ leBytes 2 m.2.length ++ m.2

/-- The blocks asked for: all for 0xFF, none for 0, which asks for their number. -/
def measAsked (k : Nat) : Option (List Nat) :=
  if k = 0 then some [] else if k = 0xFF then some ((List.range 11).map (fun i => i + 1)) else if k ≤ 11 then some [k] else none

def measContent (s : State) (k : Nat) (ks : List Nat) : List Byte :=
  let bs := ks.flatMap (measBlock s)
  (if k = 0 then [11] else [0]) ++ beBytes 1 ks.length ++ leBytes 3 bs.length ++ bs

def execGetMeasurements (conn : Nat) (index : U8) (signed : Bool) (s : State) : Out :=
  .next (spdmStep s (ready s conn) conn (fun t =>
    match measAsked index.toNat with
    | none => spdmRefuse t conn .range
    | some ks =>
      if signed then spdmRandom t conn (fun u =>
        let r := spdmSigned u 1 [index] (measContent u index.toNat ks)
        spdmAnswer r.2 conn 0x60 r.1 id)
      else spdmAnswer t conn 0x60 (measContent t index.toNat ks) id))

/-! ### Sessions (R53, R56, R57) -/

/-- A root certificate's SHA-384 is the anchor that an object holds; an empty one fits no root. -/
def anchorIs (s : State) (k : Nat) (root : List Byte) : Bool := decide (octD s k = root) && decide (root.length = 48)

/-- The lowest tenancy, not in teardown, whose anchor it is. -/
def anchorTen (s : State) (root : List Byte) : Option Nat :=
  (s.tens.find? (fun p => decide (p.2.st ≠ .destroying) && anchorIs s (tkey p.1 0xC010 1) root)).map (fun p => p.1)

/-- The role that a chain's root gives, and the bound tenancy. -/
def roleFor (s : State) (root : List Byte) : Option (Role × Handle) :=
  if anchorIs s (okey 0x1100 1) root then some (.operator, 0)
  else if anchorIs s (okey 0x1100 2) root then some (.host, 0)
  else match anchorTen s root with
    | some t => some (.tenant, handleOf s 1 t)
    | none => none

/-- The transports of a role. -/
def mayUse : Role → Transport → Bool
  | .operator, _ => true
  | .host, t => decide (t = .pf0)
  | .tenant, t => decide (t ≠ .mctp)
  | .vault, _ => false

def sessLimit : Role → Nat
  | .operator => 4 | .host => 4 | .tenant => 24 | .vault => 0

/-- Sessions of a role, those about to be finished among them. -/
def sessCount (s : State) (r : Role) : Nat :=
  (s.idien.sessions.filter (fun p => decide (p.1 ≠ 0) && decide (p.2.role = r))).length
    + (s.idien.conns.filter (fun p => match p.2.pending with | some x => decide (x.1 = r) | none => false)).length

/-- KEY_EXCHANGE on a connection: the vault's random data and signature, or the refusal. -/
def keyExchangeAct (s : State) (c : Nat) (t : Transport) (root : List Byte) (mutualAuth : Bool) : State :=
  match roleFor s root with
  | none => spdmRefuse s c .access
  | some (r, h) =>
    let n := sessCount s r - (match (connOf s c).pending with | some x => bit1 (decide (x.1 = r)) | none => 0)
    if !mutualAuth || !mayUse r t then spdmRefuse s c .access
    else if sessLimit r ≤ n then spdmRefuse s c .busy
    else spdmRandom s c (fun u =>
      let d := spdmSigned u 1 root []
      spdmAnswer d.2 c 0x64 d.1 (fun x => { x with pending := some (r, h, t) }))

def execKeyExchange (conn : Nat) (t : Transport) (root : List Byte) (mutualAuth : Bool) (s : State) : Out :=
  .next (spdmStep s (ready s conn) conn (fun u => keyExchangeAct u conn t root mutualAuth))

/-- FINISH: the session stands. -/
def openSession (s : State) (c : Nat) (ok : Bool) : State :=
  match (connOf s c).pending with
  | none => spdmRefuse s c .notReady
  | some (r, h, t) =>
    if ok then
      let n := s.idien.nextSession
      let s1 := setSession s n { role := r, bound := h, transport := t }
      spdmAnswer { s1 with idien := { s1.idien with nextSession := n + 1 } } c 0x65 [] (fun x => { x with pending := none })
    else
      let s1 := setConn s c { connOf s c with pending := none }
      spdmRefuse s1 c .access

def execFinish (conn : Nat) (ok : Bool) (s : State) : Out :=
  .next (spdmStep s (ready s conn) conn (fun t => openSession t conn ok))

/-- A message inside a session that stands. -/
def inSession (s : State) (sid : Nat) (f : Session → State) : State :=
  if !spdmServes s then s
  else match tget s.idien.sessions sid with
    | some x => if sid = 0 then s else f x
    | none => s

def setSpdm (s : State) (code : Nat) : State := { s with idien := { s.idien with spdm := [BitVec.ofNat 8 code] } }

def execHeartbeat (sid : Nat) (s : State) : Out := .next (inSession s sid (fun _ => setSpdm s 0x68))

def execKeyUpdate (sid : Nat) (s : State) : Out :=
  .next (inSession s sid (fun x => setSpdm (setSession s sid { x with keyGen := x.keyGen + 1 }) 0x69))

/-- A session ends: its queued requests are discarded (R56). -/
def endOne (s : State) (sid : Nat) : State :=
  { s with idien := keepSessions s.idien (fun n _ => decide (n ≠ sid)) }

def execEndSession (sid : Nat) (s : State) : Out := .next (inSession s sid (fun _ => setSpdm (endOne s sid) 0x6C))

def execSessionIdleTimeout (sid : Nat) (s : State) : Out := .next (inSession s sid (fun _ => endOne s sid))

/-! ### The MGMT port and MCTP (R58, R59) -/

/-- The MGMT port takes a datagram sent to this address (R58, R69): IPv6 link-local always, a global IPv6 address or an IPv4
address where one is set. -/
def mgmtTakes (s : State) : MgmtAddr → Bool
  | .linkLocal => true
  | .ipv4 a => decide (a ≠ 0) && decide (numD s (okey 0x1102 1) 0 = a.toNat)
  | .ipv6 a => decide (octD s (okey 0x1102 3) = beBytes 16 a.toNat)

/-- The Idien message that a datagram carries is of a session that stands on the MGMT port; none: an SPDM message. -/
def mgmtCarries (s : State) : Option (Nat × IdienMsg) → Bool
  | none => true
  | some x => decide (x.1 ≠ 0) && (sessionAt s x.1).any (fun y => decide (y.transport = .mgmt))

/-- MGMT_DATAGRAM (R58): a datagram for one of the port's addresses is one valid secured message of at most 1,068 bytes, and
its Idien message goes to Glen's queues; or it is dropped and counted. -/
def execMgmtDatagram (d : Datagram) (valid : Bool) (s : State) : Out :=
  .next (if !glenServes s || !mgmtTakes s d.dst then s
    else if valid && decide (d.len ≤ 1068) && mgmtCarries s d.msg then
      let s1 := { s with idien := { s.idien with secured := s.idien.secured + 1 } }
      match d.msg with
      | some x => enqueueReq s1 { src := .session x.1, msg := x.2 }
      | none => s1
    else count s (okey 0x1102 4))

/-- Set Endpoint ID: the identifiers 0x00 and 0xFF are none. -/
def execSetEndpointId (eid : U8) (s : State) : Out :=
  .next (if glenServes s ∧ periphOn s 1 ∧ eid ≠ 0 ∧ eid ≠ 0xFF then { s with idien := { s.idien with eid := eid } } else s)

/-- Get Vendor Defined Message Support: completion code, no further set, IANA format, the number, the command set. -/
def execGetVendorDefinedMessageSupport (s : State) : Out :=
  .next (if glenServes s ∧ periphOn s 1 then
      { s with idien := { s.idien with vdmAnswer := [0, 0xFF, 1] ++ beBytes 4 Config.vendorIana.toNat ++ [0, 0] } }
    else s)

/-! ### The PF0 mailbox (R60, R61) -/

def setPf0 (s : State) (m : Pf0Mb) : State := { s with idien := { s.idien with pf0 := m } }

/-- GO is set: Glen is handed the request, or DONE is set with RANGE where REQ_LEN is not valid. -/
def mbGoAct (s : State) : State :=
  let m := s.idien.pf0
  if m.go then s
  else if m.reqLen < 20 ∨ 1280 < m.reqLen then
    let s1 := setPf0 s { m with done := true, respLen := BitVec.ofNat 32 (statusCode .range * 0x1000000) }
    if m.intrEn.getLsbD 0 then raiseVector s1 0 0 else s1
  else setPf0 s { m with go := true }

def execMbGo (s : State) : Out := .next (if fnServes s 0 then mbGoAct s else s)

/-- DONE is cleared: Glen gives the next response that it holds. -/
def mbDoneAct (s : State) : State :=
  let m := s.idien.pf0
  if !m.done then s
  else match m.held with
    | [] => setPf0 s { m with done := false }
    | bs :: l => mbFill (setPf0 s { m with done := false, held := l }) bs

def execMbDoneClear (s : State) : Out := .next (if fnServes s 0 then mbDoneAct s else s)

/-- A byte of the mailbox block is written: MB_CTRL, little-endian, or the request buffer. -/
def mbByteAct (s : State) (off : Nat) (b : Byte) : State :=
  let m := s.idien.pf0
  if off = 3 then
    let s1 := if bitOf b.toNat 5 then setPf0 s { m with overrun := false } else s
    let s2 := if bitOf b.toNat 6 then mbDoneAct s1 else s1
    if bitOf b.toNat 7 then mbGoAct s2 else s2
  else if off < 2 ∨ 0x100 ≤ off ∧ off < 0x600 then
    if m.go then setPf0 s { m with overrun := true }
    else if off = 0 then setPf0 s { m with reqLen := m.reqLen / 256 * 256 + b.toNat }
    else if off = 1 then setPf0 s { m with reqLen := b.toNat % 16 * 256 + m.reqLen % 256 }
    else setPf0 s { m with reqBuf := if b = 0 then terase m.reqBuf (off - 0x100) else tset m.reqBuf (off - 0x100) b }
  else s

def execMbBufferWrite (off : Nat) (b : Byte) (s : State) : Out := .next (if fnServes s 0 then mbByteAct s off b else s)

/-- A message's header (R46). -/
def parseMsg (bs : List Byte) : IdienMsg :=
  let f := fun off n => beNat (sliceD bs off n 0)
  { verMajor := BitVec.ofNat 8 (f 0 1)
    verMinor := BitVec.ofNat 8 (f 1 1)
    opcode := BitVec.ofNat 8 (f 2 1)
    flags := BitVec.ofNat 8 (f 3 1)
    sequence := BitVec.ofNat 16 (f 4 2)
    handle := BitVec.ofNat 32 (f 8 4)
    index := BitVec.ofNat 16 (f 12 2)
    subindex := BitVec.ofNat 8 (f 14 1)
    count := BitVec.ofNat 8 (f 15 1)
    payload := bs.drop 20 }

/-- A message from the mailbox: one whose length field is not that of its payload completes with RANGE. -/
def mbMessage (s : State) (src : ReqSource) (bs : List Byte) : State :=
  let r : Req := { src := src, msg := parseMsg bs }
  if bs.length < 20 then s
  else if beNat (sliceD bs 16 2 0) ≠ bs.length - 20 then (if sourceStands s src then answerReq s r { status := .range } else s)
  else enqueueReq s r

/-- Glen takes the request: GO reads 0, and the message goes its way; a secured message must belong to a session of the
mailbox. -/
def mbTakeAct (s : State) : State :=
  let m := s.idien.pf0
  let bs := (List.range m.reqLen).map (fun i => tgetD m.reqBuf i 0)
  let s1 := setPf0 s { m with go := false }
  match Config.openSecured bs with
  | none => mbMessage s1 (.open_ .pf0) bs
  | some (n, plain) =>
    match tget s1.idien.sessions n with
    | some x => if n ≠ 0 ∧ x.transport = .pf0 then mbMessage s1 (.session n) plain else s1
    | none => s1

def execMbRequestTaken (s : State) : Out := .next (if s.idien.pf0.go ∧ glenServes s then mbTakeAct s else s)

end Sys2Proof.Machine
end

