-- ==== Sys2Proof/Machine/Dispatch.lean ====
section
/-! DEFINITION. The meaning of every command, by name: one arm per row of spec/opcode_table.json. -/

namespace Sys2Proof.Machine

/-- The effect of a command on everything but the queue. -/
def exec (i : Instr) (s : State) : Host.Outcome State Fault Refusal :=
  match i with
  | .tenancyCreate who r => Sys2Proof.Machine.execTenancyCreate who r s
  | .tenancyDestroy who h => Sys2Proof.Machine.execTenancyDestroy who h s
  | .teardownIsolate n silent => Sys2Proof.Machine.execTeardownIsolate n silent s
  | .teardownFlush n => Sys2Proof.Machine.execTeardownFlush n s
  | .teardownPurge n => Sys2Proof.Machine.execTeardownPurge n s
  | .teardownRelease n => Sys2Proof.Machine.execTeardownRelease n s
  | .tenReset who h v => Sys2Proof.Machine.execTenReset who h v s
  | .tenResetComplete n => Sys2Proof.Machine.execTenResetComplete n s
  | .tenQuotaWrite who h kind v => Sys2Proof.Machine.execTenQuotaWrite who h kind v s
  | .tenShareWrite who h v x => Sys2Proof.Machine.execTenShareWrite who h v x s
  | .stagedWrite who index sub bytes => Sys2Proof.Machine.execStagedWrite who index sub bytes s
  | .epochCommit who => Sys2Proof.Machine.execEpochCommit who s
  | .epochDiscard who => Sys2Proof.Machine.execEpochDiscard who s
  | .unitReady u => Sys2Proof.Machine.execUnitReady u s
  | .commitTimeout => Sys2Proof.Machine.execCommitTimeout s
  | .retireComplete => Sys2Proof.Machine.execRetireComplete s
  | .retireTimeout => Sys2Proof.Machine.execRetireTimeout s
  | .portNodeSwitch v n => Sys2Proof.Machine.execPortNodeSwitch v n s
  | .requestEnqueue src m => Sys2Proof.Machine.execRequestEnqueue src m s
  | .getVersion q => Sys2Proof.Machine.execGetVersion q s
  | .read q => Sys2Proof.Machine.execRead q s
  | .write q => Sys2Proof.Machine.execWrite q s
  | .describe q => Sys2Proof.Machine.execDescribe q s
  | .list q => Sys2Proof.Machine.execList q s
  | .unitAnswerTimeout q => Sys2Proof.Machine.execUnitAnswerTimeout q s
  | .persistCommit => Sys2Proof.Machine.execPersistCommit s
  | .spdmGetVersion conn => Sys2Proof.Machine.execSpdmGetVersion conn s
  | .getCapabilities conn => Sys2Proof.Machine.execGetCapabilities conn s
  | .negotiateAlgorithms conn p384 sha384 ecdhe gcm => Sys2Proof.Machine.execNegotiateAlgorithms conn p384 sha384 ecdhe gcm s
  | .getDigests conn => Sys2Proof.Machine.execGetDigests conn s
  | .getCertificate conn slot offset len => Sys2Proof.Machine.execGetCertificate conn slot offset len s
  | .challenge conn slot nonce => Sys2Proof.Machine.execChallenge conn slot nonce s
  | .getMeasurements conn index signed => Sys2Proof.Machine.execGetMeasurements conn index signed s
  | .keyExchange conn t root mutualAuth => Sys2Proof.Machine.execKeyExchange conn t root mutualAuth s
  | .finish conn ok => Sys2Proof.Machine.execFinish conn ok s
  | .heartbeat sid => Sys2Proof.Machine.execHeartbeat sid s
  | .keyUpdate sid => Sys2Proof.Machine.execKeyUpdate sid s
  | .endSession sid => Sys2Proof.Machine.execEndSession sid s
  | .sessionIdleTimeout sid => Sys2Proof.Machine.execSessionIdleTimeout sid s
  | .mgmtDatagram d valid => Sys2Proof.Machine.execMgmtDatagram d valid s
  | .setEndpointId eid => Sys2Proof.Machine.execSetEndpointId eid s
  | .getVendorDefinedMessageSupport => Sys2Proof.Machine.execGetVendorDefinedMessageSupport s
  | .mbGo => Sys2Proof.Machine.execMbGo s
  | .mbRequestTaken => Sys2Proof.Machine.execMbRequestTaken s
  | .mbBufferWrite off b => Sys2Proof.Machine.execMbBufferWrite off b s
  | .mbDoneClear => Sys2Proof.Machine.execMbDoneClear s
  | .portModeWrite who v m => Sys2Proof.Machine.execPortModeWrite who v m s
  | .linkUp v k => Sys2Proof.Machine.execLinkUp v k s
  | .linkDown v k => Sys2Proof.Machine.execLinkDown v k s
  | .wireFrameStart v k bytes => Sys2Proof.Machine.execWireFrameStart v k bytes s
  | .intakeGrant v src => Sys2Proof.Machine.execIntakeGrant v src s
  | .frameTail v pkt rest ok => Sys2Proof.Machine.execFrameTail v pkt rest ok s
  | .tailTimeout v pkt => Sys2Proof.Machine.execTailTimeout v pkt s
  | .distribute v p => Sys2Proof.Machine.execDistribute v p s
  | .headerBytesArrive v pkt bytes => Sys2Proof.Machine.execHeaderBytesArrive v pkt bytes s
  | .hdrWaitLimit th => Sys2Proof.Machine.execHdrWaitLimit th s
  | .tableResultReturn th => Sys2Proof.Machine.execTableResultReturn th s
  | .tblWaitLimit th => Sys2Proof.Machine.execTblWaitLimit th s
  | .watchdog v pkt => Sys2Proof.Machine.execWatchdog v pkt s
  | .storeDrain th => Sys2Proof.Machine.execStoreDrain th s
  | .releaseBufferEntry th => Sys2Proof.Machine.execReleaseBufferEntry th s
  | .narrowsForward v => Sys2Proof.Machine.execNarrowsForward v s
  | .add th a b c => Sys2Proof.Machine.execAdd th a b c s
  | .sub th a b c => Sys2Proof.Machine.execSub th a b c s
  | .and_ th a b c => Sys2Proof.Machine.execAnd th a b c s
  | .or_ th a b c => Sys2Proof.Machine.execOr th a b c s
  | .xor th a b c => Sys2Proof.Machine.execXor th a b c s
  | .shl th a b c => Sys2Proof.Machine.execShl th a b c s
  | .shr th a b c => Sys2Proof.Machine.execShr th a b c s
  | .sar th a b c => Sys2Proof.Machine.execSar th a b c s
  | .minu th a b c => Sys2Proof.Machine.execMinu th a b c s
  | .maxu th a b c => Sys2Proof.Machine.execMaxu th a b c s
  | .cmp th b c => Sys2Proof.Machine.execCmp th b c s
  | .tst th b c => Sys2Proof.Machine.execTst th b c s
  | .mul th a b c => Sys2Proof.Machine.execMul th a b c s
  | .mov th a b => Sys2Proof.Machine.execMov th a b s
  | .pack th a b => Sys2Proof.Machine.execPack th a b s
  | .unpk th a b => Sys2Proof.Machine.execUnpk th a b s
  | .crc th a b c => Sys2Proof.Machine.execCrc th a b c s
  | .addi th a b d => Sys2Proof.Machine.execAddi th a b d s
  | .andi th a b d => Sys2Proof.Machine.execAndi th a b d s
  | .ori th a b d => Sys2Proof.Machine.execOri th a b d s
  | .xori th a b d => Sys2Proof.Machine.execXori th a b d s
  | .shli th a b d => Sys2Proof.Machine.execShli th a b d s
  | .shri th a b d => Sys2Proof.Machine.execShri th a b d s
  | .sari th a b d => Sys2Proof.Machine.execSari th a b d s
  | .cmpi th b d => Sys2Proof.Machine.execCmpi th b d s
  | .mvi th a d => Sys2Proof.Machine.execMvi th a d s
  | .lui th a d => Sys2Proof.Machine.execLui th a d s
  | .ext th a b d => Sys2Proof.Machine.execExt th a b d s
  | .ins th a b d => Sys2Proof.Machine.execIns th a b d s
  | .tsti th b d => Sys2Proof.Machine.execTsti th b d s
  | .ldh th a b c d => Sys2Proof.Machine.execLdh th a b c d s
  | .prb th a b c d => Sys2Proof.Machine.execPrb th a b c d s
  | .ldr th a b d => Sys2Proof.Machine.execLdr th a b d s
  | .str th a b d => Sys2Proof.Machine.execStr th a b d s
  | .rbs th d => Sys2Proof.Machine.execRbs th d s
  | .rbc th d => Sys2Proof.Machine.execRbc th d s
  | .ldd th a b c d => Sys2Proof.Machine.execLdd th a b c d s
  | .std th a b c d => Sys2Proof.Machine.execStd th a b c d s
  | .xadd th a b c d => Sys2Proof.Machine.execXadd th a b c d s
  | .fence th => Sys2Proof.Machine.execFence th s
  | .br th a d => Sys2Proof.Machine.execBr th a d s
  | .cbeq th b c d => Sys2Proof.Machine.execCbeq th b c d s
  | .cbne th b c d => Sys2Proof.Machine.execCbne th b c d s
  | .call th a d => Sys2Proof.Machine.execCall th a d s
  | .jr th b => Sys2Proof.Machine.execJr th b s
  | .jtab th b c d => Sys2Proof.Machine.execJtab th b c d s
  | .nop th => Sys2Proof.Machine.execNop th s
  | .fork th a b c d => Sys2Proof.Machine.execFork th a b c d s
  | .join th => Sys2Proof.Machine.execJoin th s
  | .release th d => Sys2Proof.Machine.execRelease th d s
  | .end_ th => Sys2Proof.Machine.execEnd th s
  | .tlk th a b c d => Sys2Proof.Machine.execTlk th a b c d s
  | .mfc th a d => Sys2Proof.Machine.execMfc th a d s
  | .mtc th b d => Sys2Proof.Machine.execMtc th b d s
  | .wait th => Sys2Proof.Machine.execWait th s
  | .npop th a => Sys2Proof.Machine.execNpop th a s
  | .ldim th a b d => Sys2Proof.Machine.execLdim th a b d s
  | .stim th a b d => Sys2Proof.Machine.execStim th a b d s
  | .synci th => Sys2Proof.Machine.execSynci th s
  | .illegal th w => Sys2Proof.Machine.execIllegal th w s
  | .timerExpiry v core n => Sys2Proof.Machine.execTimerExpiry v core n s
  | .edgeDetect v core n rising => Sys2Proof.Machine.execEdgeDetect v core n rising s
  | .handlerStart v core => Sys2Proof.Machine.execHandlerStart v core s
  | .supervisorHandlerLimit v core => Sys2Proof.Machine.execSupervisorHandlerLimit v core s
  | .colTest who v n => Sys2Proof.Machine.execColTest who v n s
  | .colTestDrained v => Sys2Proof.Machine.execColTestDrained v s
  | .colTestDrainTimeout v => Sys2Proof.Machine.execColTestDrainTimeout v s
  | .colTestDone v pass => Sys2Proof.Machine.execColTestDone v pass s
  | .substitutionComplete v core => Sys2Proof.Machine.execSubstitutionComplete v core s
  | .condQueueWrite who v n r => Sys2Proof.Machine.execCondQueueWrite who v n r s
  | .colProgram who v r => Sys2Proof.Machine.execColProgram who v r s
  | .colProgLoaded v => Sys2Proof.Machine.execColProgLoaded v s
  | .stageExecute v k => Sys2Proof.Machine.execStageExecute v k s
  | .extLookupReturn v k => Sys2Proof.Machine.execExtLookupReturn v k s
  | .stageLookupTimeout v k => Sys2Proof.Machine.execStageLookupTimeout v k s
  | .puntDeliver v => Sys2Proof.Machine.execPuntDeliver v s
  | .stageDefWrite who v k r => Sys2Proof.Machine.execStageDefWrite who v k r s
  | .partMapWrite who v k n h => Sys2Proof.Machine.execPartMapWrite who v k n h s
  | .partitionCreate who v r => Sys2Proof.Machine.execPartitionCreate who v r s
  | .partitionDestroy who v h => Sys2Proof.Machine.execPartitionDestroy who v h s
  | .tcRingEnable v r w => Sys2Proof.Machine.execTcRingEnable v r w s
  | .tcDoorbell v r x => Sys2Proof.Machine.execTcDoorbell v r x s
  | .tcInsert v r => Sys2Proof.Machine.execTcInsert v r s
  | .tcDelete v r => Sys2Proof.Machine.execTcDelete v r s
  | .tcRead v r => Sys2Proof.Machine.execTcRead v r s
  | .tcLock v r => Sys2Proof.Machine.execTcLock v r s
  | .tcUpdate v r => Sys2Proof.Machine.execTcUpdate v r s
  | .tcUnlock v r => Sys2Proof.Machine.execTcUnlock v r s
  | .tcWalk v r => Sys2Proof.Machine.execTcWalk v r s
  | .tcFlush v r => Sys2Proof.Machine.execTcFlush v r s
  | .tableLockExpired v l => Sys2Proof.Machine.execTableLockExpired v l s
  | .learnInsert v => Sys2Proof.Machine.execLearnInsert v s
  | .learnLogRead who v => Sys2Proof.Machine.execLearnLogRead who v s
  | .ageTick v => Sys2Proof.Machine.execAgeTick v s
  | .agerVisit v p pos => Sys2Proof.Machine.execAgerVisit v p pos s
  | .tcamScrub v p pos differs => Sys2Proof.Machine.execTcamScrub v p pos differs s
  | .tableBankTest who v x => Sys2Proof.Machine.execTableBankTest who v x s
  | .tableMigrationDone v => Sys2Proof.Machine.execTableMigrationDone v s
  | .tableTestDone v pass => Sys2Proof.Machine.execTableTestDone v pass s
  | .queueCreate who v r => Sys2Proof.Machine.execQueueCreate who v r s
  | .queueConfWrite who v q r => Sys2Proof.Machine.execQueueConfWrite who v q r s
  | .queueDestroy who v h => Sys2Proof.Machine.execQueueDestroy who v h s
  | .shaperCreate who v r => Sys2Proof.Machine.execShaperCreate who v r s
  | .shaperWrite who v n r => Sys2Proof.Machine.execShaperWrite who v n r s
  | .shaperDestroy who v h => Sys2Proof.Machine.execShaperDestroy who v h s
  | .enqueue v => Sys2Proof.Machine.execEnqueue v s
  | .crossingTransfer v => Sys2Proof.Machine.execCrossingTransfer v s
  | .dequeue v n => Sys2Proof.Machine.execDequeue v n s
  | .spillWriteComplete v pkt => Sys2Proof.Machine.execSpillWriteComplete v pkt s
  | .refill v q => Sys2Proof.Machine.execRefill v q s
  | .floodSizeWrite who v x => Sys2Proof.Machine.execFloodSizeWrite who v x s
  | .tick => Sys2Proof.Machine.execTick s
  | .timeSet who r => Sys2Proof.Machine.execTimeSet who r s
  | .timeStep who r => Sys2Proof.Machine.execTimeStep who r s
  | .policerCreate who v r => Sys2Proof.Machine.execPolicerCreate who v r s
  | .policerWrite who v p r => Sys2Proof.Machine.execPolicerWrite who v p r s
  | .policerDestroy who v h => Sys2Proof.Machine.execPolicerDestroy who v h s
  | .police v => Sys2Proof.Machine.execPolice v s
  | .gateApply who v n => Sys2Proof.Machine.execGateApply who v n s
  | .gateListChange v n => Sys2Proof.Machine.execGateListChange v n s
  | .gateEntryEnd v n => Sys2Proof.Machine.execGateEntryEnd v n s
  | .replCreate who v owner => Sys2Proof.Machine.execReplCreate who v owner s
  | .replDestroy who v h => Sys2Proof.Machine.execReplDestroy who v h s
  | .replWrite who v bytes => Sys2Proof.Machine.execReplWrite who v bytes s
  | .replApply who v r => Sys2Proof.Machine.execReplApply who v r s
  | .replQuery who v r => Sys2Proof.Machine.execReplQuery who v r s
  | .replicate v => Sys2Proof.Machine.execReplicate v s
  | .telemSample v w => Sys2Proof.Machine.execTelemSample v w s
  | .telemRingEnable v w => Sys2Proof.Machine.execTelemRingEnable v w s
  | .telemLogRead who v => Sys2Proof.Machine.execTelemLogRead who v s
  | .slotModeWrite who q m => Sys2Proof.Machine.execSlotModeWrite who q m s
  | .slotPower who q on present => Sys2Proof.Machine.execSlotPower who q on present s
  | .slotPgoodRise q => Sys2Proof.Machine.execSlotPgoodRise q s
  | .slotPgoodTimeout q => Sys2Proof.Machine.execSlotPgoodTimeout q s
  | .slotPgoodFall q => Sys2Proof.Machine.execSlotPgoodFall q s
  | .slotLoad who r => Sys2Proof.Machine.execSlotLoad who r s
  | .manifestVerified q => Sys2Proof.Machine.execManifestVerified q s
  | .cfgInitRise q => Sys2Proof.Machine.execCfgInitRise q s
  | .cfgInitTimeout q => Sys2Proof.Machine.execCfgInitTimeout q s
  | .cfgInitFall q => Sys2Proof.Machine.execCfgInitFall q s
  | .cfgDone q => Sys2Proof.Machine.execCfgDone q s
  | .cfgDoneTimeout q => Sys2Proof.Machine.execCfgDoneTimeout q s
  | .saddleLinkUp p speed width => Sys2Proof.Machine.execSaddleLinkUp p speed width s
  | .saddleLinkTimeout p => Sys2Proof.Machine.execSaddleLinkTimeout p s
  | .shReady p o => Sys2Proof.Machine.execShReady p o s
  | .shReadyTimeout p => Sys2Proof.Machine.execShReadyTimeout p s
  | .slotUnload who q => Sys2Proof.Machine.execSlotUnload who q s
  | .regionCreate who r => Sys2Proof.Machine.execRegionCreate who r s
  | .isoAckFall r => Sys2Proof.Machine.execIsoAckFall r s
  | .regionDestroy who h => Sys2Proof.Machine.execRegionDestroy who h s
  | .isoAckSet r => Sys2Proof.Machine.execIsoAckSet r s
  | .isoAckTimeout r => Sys2Proof.Machine.execIsoAckTimeout r s
  | .regionReset who h => Sys2Proof.Machine.execRegionReset who h s
  | .resetDone r => Sys2Proof.Machine.execResetDone r s
  | .resetDoneTimeout r => Sys2Proof.Machine.execResetDoneTimeout r s
  | .saddleRequest p q => Sys2Proof.Machine.execSaddleRequest p q s
  | .pageEntryFetch p => Sys2Proof.Machine.execPageEntryFetch p s
  | .gateQueueRelease r => Sys2Proof.Machine.execGateQueueRelease r s
  | .windowWrite who owner w r => Sys2Proof.Machine.execWindowWrite who owner w r s
  | .sgInvalidate who r => Sys2Proof.Machine.execSgInvalidate who r s
  | .saddleRxWrite r => Sys2Proof.Machine.execSaddleRxWrite r s
  | .apertureWrite r off bytes => Sys2Proof.Machine.execApertureWrite r off bytes s
  | .rxConsWrite r x => Sys2Proof.Machine.execRxConsWrite r x s
  | .saddlePortReset who p => Sys2Proof.Machine.execSaddlePortReset who p s
  | .saddleCplTimeout p => Sys2Proof.Machine.execSaddleCplTimeout p s
  | .saddleL1Entry p => Sys2Proof.Machine.execSaddleL1Entry p s
  | .saddleL1Exit p => Sys2Proof.Machine.execSaddleL1Exit p s
  | .regionFaultRead who r => Sys2Proof.Machine.execRegionFaultRead who r s
  | .pciePerstRise => Sys2Proof.Machine.execPciePerstRise s
  | .hostConfigLoaded => Sys2Proof.Machine.execHostConfigLoaded s
  | .vfAssign who r => Sys2Proof.Machine.execVfAssign who r s
  | .vfRelease who h => Sys2Proof.Machine.execVfRelease who h s
  | .vfReset who h => Sys2Proof.Machine.execVfReset who h s
  | .initiateFlr f => Sys2Proof.Machine.execInitiateFlr f s
  | .functionSilenced f => Sys2Proof.Machine.execFunctionSilenced f s
  | .flrQueueReset f => Sys2Proof.Machine.execFlrQueueReset f s
  | .flrComplete f => Sys2Proof.Machine.execFlrComplete f s
  | .hostLinkDown c => Sys2Proof.Machine.execHostLinkDown c s
  | .vfEnableChange pf en num => Sys2Proof.Machine.execVfEnableChange pf en num s
  | .configWrite f fld x => Sys2Proof.Machine.execConfigWrite f fld x s
  | .bar2Request f off data len => Sys2Proof.Machine.execBar2Request f off data len s
  | .winEntryWrite who n r => Sys2Proof.Machine.execWinEntryWrite who n r s
  | .msixSend f vec => Sys2Proof.Machine.execMsixSend f vec s
  | .intxAck f vec => Sys2Proof.Machine.execIntxAck f vec s
  | .hostArbGrant d => Sys2Proof.Machine.execHostArbGrant d s
  | .hostTlpError e => Sys2Proof.Machine.execHostTlpError e s
  | .qeCreate f => Sys2Proof.Machine.execQeCreate f s
  | .qeArm f => Sys2Proof.Machine.execQeArm f s
  | .qeDestroy f => Sys2Proof.Machine.execQeDestroy f s
  | .qeInvalidate f => Sys2Proof.Machine.execQeInvalidate f s
  | .qeQuery f => Sys2Proof.Machine.execQeQuery f s
  | .sqDb f lq x => Sys2Proof.Machine.execSqDb f lq x s
  | .cqDb f lq x => Sys2Proof.Machine.execCqDb f lq x s
  | .descriptorFetch ctx => Sys2Proof.Machine.execDescriptorFetch ctx s
  | .descriptorStart => Sys2Proof.Machine.execDescriptorStart s
  | .txFrameTaken ctx => Sys2Proof.Machine.execTxFrameTaken ctx s
  | .rxDeliver ctx => Sys2Proof.Machine.execRxDeliver ctx s
  | .controlCopyDone ctx pos => Sys2Proof.Machine.execControlCopyDone ctx pos s
  | .coalTimerExpiry ctx => Sys2Proof.Machine.execCoalTimerExpiry ctx s
  | .qeReadTimeout ctx descRead pos => Sys2Proof.Machine.execQeReadTimeout ctx descRead pos s
  | .qeReadError ctx x => Sys2Proof.Machine.execQeReadError ctx x s
  | .ccEnSet c cc => Sys2Proof.Machine.execCcEnSet c cc s
  | .ccEnClear c => Sys2Proof.Machine.execCcEnClear c s
  | .nvmeSqDoorbell f y x => Sys2Proof.Machine.execNvmeSqDoorbell f y x s
  | .nvmeCqDoorbell f y x => Sys2Proof.Machine.execNvmeCqDoorbell f y x s
  | .nvmeCommandFetch c sq => Sys2Proof.Machine.execNvmeCommandFetch c sq s
  | .deleteIoSq c => Sys2Proof.Machine.execDeleteIoSq c s
  | .createIoSq c => Sys2Proof.Machine.execCreateIoSq c s
  | .getLogPage c => Sys2Proof.Machine.execGetLogPage c s
  | .deleteIoCq c => Sys2Proof.Machine.execDeleteIoCq c s
  | .createIoCq c => Sys2Proof.Machine.execCreateIoCq c s
  | .identify c => Sys2Proof.Machine.execIdentify c s
  | .abort c => Sys2Proof.Machine.execAbort c s
  | .setFeatures c => Sys2Proof.Machine.execSetFeatures c s
  | .getFeatures c => Sys2Proof.Machine.execGetFeatures c s
  | .asynchronousEventRequest c => Sys2Proof.Machine.execAsynchronousEventRequest c s
  | .formatNvm c => Sys2Proof.Machine.execFormatNvm c s
  | .nvmeFlush c tag => Sys2Proof.Machine.execNvmeFlush c tag s
  | .nvmeWrite c tag prpOk => Sys2Proof.Machine.execNvmeWrite c tag prpOk s
  | .nvmeRead c tag prpOk => Sys2Proof.Machine.execNvmeRead c tag prpOk s
  | .writeZeroes c tag => Sys2Proof.Machine.execWriteZeroes c tag s
  | .datasetManagement c tag prpOk => Sys2Proof.Machine.execDatasetManagement c tag prpOk s
  | .nvmeBackendStart tag => Sys2Proof.Machine.execNvmeBackendStart tag s
  | .backendResponse tag status data => Sys2Proof.Machine.execBackendResponse tag status data s
  | .rlockWaitLimit tag => Sys2Proof.Machine.execRlockWaitLimit tag s
  | .nvmeBackendTimeout tag => Sys2Proof.Machine.execNvmeBackendTimeout tag s
  | .nvmeCqFullLimit c cq => Sys2Proof.Machine.execNvmeCqFullLimit c cq s
  | .nvmeSqReadFailed c sq timeout => Sys2Proof.Machine.execNvmeSqReadFailed c sq timeout s
  | .autonomousPowerStateTransition c ps => Sys2Proof.Machine.execAutonomousPowerStateTransition c ps s
  | .nvmeCtrlCreate who r => Sys2Proof.Machine.execNvmeCtrlCreate who r s
  | .nvmeCtrlDestroy who h => Sys2Proof.Machine.execNvmeCtrlDestroy who h s
  | .nvmeVolWrite who v r => Sys2Proof.Machine.execNvmeVolWrite who v r s
  | .dplRangeWrite who ten k r => Sys2Proof.Machine.execDplRangeWrite who ten k r s
  | .dplCtrl who ten x => Sys2Proof.Machine.execDplCtrl who ten x s
  | .dplHarvest who ten r => Sys2Proof.Machine.execDplHarvest who ten r s
  | .migHold who ten x => Sys2Proof.Machine.execMigHold who ten x s
  | .migHoldDrained n => Sys2Proof.Machine.execMigHoldDrained n s
  | .migHoldExpired n => Sys2Proof.Machine.execMigHoldExpired n s
  | .mbOfferWrite n side w => Sys2Proof.Machine.execMbOfferWrite n side w s
  | .mbCountWrite n side producer x => Sys2Proof.Machine.execMbCountWrite n side producer x s
  | .mbSlotWrite n side slot off b => Sys2Proof.Machine.execMbSlotWrite n side slot off b s
  | .mbReset who ten => Sys2Proof.Machine.execMbReset who ten s
  | .mbFunctionWrite who ten h => Sys2Proof.Machine.execMbFunctionWrite who ten h s
  | .mbResetComplete n => Sys2Proof.Machine.execMbResetComplete n s
  | .hartRunWrite h run => Sys2Proof.Machine.execHartRunWrite h run s
  | .quadTest who q => Sys2Proof.Machine.execQuadTest who q s
  | .quadTestDone pass => Sys2Proof.Machine.execQuadTestDone pass s
  | .steppeRingEnable r w => Sys2Proof.Machine.execSteppeRingEnable r w s
  | .steppeRingCountWrite r x => Sys2Proof.Machine.execSteppeRingCountWrite r x s
  | .injectionTake q => Sys2Proof.Machine.execInjectionTake q s
  | .spitCommand w => Sys2Proof.Machine.execSpitCommand w s
  | .spitCsRise words inWord extraEdges => Sys2Proof.Machine.execSpitCsRise words inWord extraEdges s
  | .spiEdgeGap => Sys2Proof.Machine.execSpiEdgeGap s
  | .spitSnapshot => Sys2Proof.Machine.execSpitSnapshot s
  | .periphEnWrite who x => Sys2Proof.Machine.execPeriphEnWrite who x s
  | .glenWatchdog => Sys2Proof.Machine.execGlenWatchdog s
  | .ddrTraining trained gib => Sys2Proof.Machine.execDdrTraining trained gib s
  | .zqCalibration ch => Sys2Proof.Machine.execZqCalibration ch s
  | .hbmTraining ok0 ok1 => Sys2Proof.Machine.execHbmTraining ok0 ok1 s
  | .patrolScrub stack word corrected => Sys2Proof.Machine.execPatrolScrub stack word corrected s
  | .lcAdvance who r => Sys2Proof.Machine.execLcAdvance who r s
  | .keyGenerate who r => Sys2Proof.Machine.execKeyGenerate who r s
  | .keyImport who r => Sys2Proof.Machine.execKeyImport who r s
  | .keyImportT who ten r => Sys2Proof.Machine.execKeyImportT who ten r s
  | .keyDestroy who slot => Sys2Proof.Machine.execKeyDestroy who slot s
  | .sealedStoreWrite => Sys2Proof.Machine.execSealedStoreWrite s
  | .debugChallenge who => Sys2Proof.Machine.execDebugChallenge who s
  | .debugUnlock who r => Sys2Proof.Machine.execDebugUnlock who r s
  | .tamperSample high0 high1 => Sys2Proof.Machine.execTamperSample high0 high1 s
  | .tamperLockWrite who x => Sys2Proof.Machine.execTamperLockWrite who x s
  | .trngFailed => Sys2Proof.Machine.execTrngFailed s
  | .vaultHash who alg addr len => Sys2Proof.Machine.execVaultHash who alg addr len s
  | .vaultSign who alg slot msg => Sys2Proof.Machine.execVaultSign who alg slot msg s
  | .vaultVerify who alg operands => Sys2Proof.Machine.execVaultVerify who alg operands s
  | .vaultEcdh who alg slot peer => Sys2Proof.Machine.execVaultEcdh who alg slot peer s
  | .vaultRandom who len => Sys2Proof.Machine.execVaultRandom who len s
  | .saWrite who a r => Sys2Proof.Machine.execSaWrite who a r s
  | .romBoot => Sys2Proof.Machine.execRomBoot s
  | .flashReadTimeout => Sys2Proof.Machine.execFlashReadTimeout s
  | .componentLoad kind => Sys2Proof.Machine.execComponentLoad kind s
  | .steppeRelease => Sys2Proof.Machine.execSteppeRelease s
  | .colRelease v => Sys2Proof.Machine.execColRelease v s
  | .flashRelease => Sys2Proof.Machine.execFlashRelease s
  | .imgInstall who r => Sys2Proof.Machine.execImgInstall who r s
  | .installCheckDone => Sys2Proof.Machine.execInstallCheckDone s
  | .installWriteDone ok => Sys2Proof.Machine.execInstallWriteDone ok s
  | .installVerifyDone => Sys2Proof.Machine.execInstallVerifyDone s
  | .imgMark who slot st => Sys2Proof.Machine.execImgMark who slot st s
  | .rollbackCommit who x => Sys2Proof.Machine.execRollbackCommit who x s
  | .rollbackFuseStep => Sys2Proof.Machine.execRollbackFuseStep s
  | .imgKeyRevoke who x => Sys2Proof.Machine.execImgKeyRevoke who x s
  | .goldRequest => Sys2Proof.Machine.execGoldRequest s
  | .qualifyWindow c pass => Sys2Proof.Machine.execQualifyWindow c pass s
  | .qualifyLimit c => Sys2Proof.Machine.execQualifyLimit c s
  | .clkRequalify who x => Sys2Proof.Machine.execClkRequalify who x s
  | .clkSourceWrite who d x => Sys2Proof.Machine.execClkSourceWrite who d x s
  | .pllLossOfLock p => Sys2Proof.Machine.execPllLossOfLock p s
  | .pllRelock p => Sys2Proof.Machine.execPllRelock p s
  | .pllRestart p => Sys2Proof.Machine.execPllRestart p s
  | .memoryPllTimeout p => Sys2Proof.Machine.execMemoryPllTimeout p s
  | .steppeFreqWrite who q x => Sys2Proof.Machine.execSteppeFreqWrite who q x s
  | .clkMonTrip c => Sys2Proof.Machine.execClkMonTrip c s
  | .droopTrip k => Sys2Proof.Machine.execDroopTrip k s
  | .droopHold k => Sys2Proof.Machine.execDroopHold k s
  | .avsPoll r => Sys2Proof.Machine.execAvsPoll r s
  | .pmbusPoll rail answered inRange phaseFault => Sys2Proof.Machine.execPmbusPoll rail answered inRange phaseFault s
  | .vrAlert => Sys2Proof.Machine.execVrAlert s
  | .powerCapClear who alertHigh => Sys2Proof.Machine.execPowerCapClear who alertHigh s
  | .thermalSample t => Sys2Proof.Machine.execThermalSample t s
  | .thermtrip => Sys2Proof.Machine.execThermtrip s
  | .powerDomainWrite who d x => Sys2Proof.Machine.execPowerDomainWrite who d x s
  | .domainChangeDone d => Sys2Proof.Machine.execDomainChangeDone d s
  | .ladderRequest who x => Sys2Proof.Machine.execLadderRequest who x s
  | .ladderStepDone => Sys2Proof.Machine.execLadderStepDone s
  | .ladderStepLimit => Sys2Proof.Machine.execLadderStepLimit s
  | .wake w => Sys2Proof.Machine.execWake w s
  | .rtcAlarm => Sys2Proof.Machine.execRtcAlarm s
  | .boardPwrEnRaise => Sys2Proof.Machine.execBoardPwrEnRaise s
  | .errorArrival e => Sys2Proof.Machine.execErrorArrival e s
  | .errorActionComplete h => Sys2Proof.Machine.execErrorActionComplete h s
  | .chipReset who x => Sys2Proof.Machine.execChipReset who x s
  | .failstopResetDelay => Sys2Proof.Machine.execFailstopResetDelay s
  | .rstN high straps => Sys2Proof.Machine.execRstN high straps s
  | .eventLogRead who => Sys2Proof.Machine.execEventLogRead who s
  | .errorLogRead who => Sys2Proof.Machine.execErrorLogRead who s
  | .laneTest who x => Sys2Proof.Machine.execLaneTest who x s
  | .laneTestDone pass => Sys2Proof.Machine.execLaneTestDone pass s
  | .saddlePortTest who x => Sys2Proof.Machine.execSaddlePortTest who x s
  | .saddlePortTestDone pass => Sys2Proof.Machine.execSaddlePortTestDone pass s
  | .powerUp => Sys2Proof.Machine.execPowerUp s
  | .vaonLoss => Sys2Proof.Machine.execVaonLoss s
  | .winFirstMissRead who => Sys2Proof.Machine.execWinFirstMissRead who s
  | .qeLastFaultRead who => Sys2Proof.Machine.execQeLastFaultRead who s
  | .crossFifoPeakRead who v => Sys2Proof.Machine.execCrossFifoPeakRead who v s
  | .relbufPeakRead who v => Sys2Proof.Machine.execRelbufPeakRead who v s
  | .registerWrite t => Sys2Proof.Machine.execRegisterWrite t s
  | .hostLinkUp => Sys2Proof.Machine.execHostLinkUp s
  | .saddleLinkDown p => Sys2Proof.Machine.execSaddleLinkDown p s
  | .teardownDrainTimeout n => Sys2Proof.Machine.execTeardownDrainTimeout n s
  | .powerStateTransitionDone c => Sys2Proof.Machine.execPowerStateTransitionDone c s
  | .erasureComplete => Sys2Proof.Machine.execErasureComplete s
  | .trngStartupTestDone => Sys2Proof.Machine.execTrngStartupTestDone s
  | .ladderReversalDone => Sys2Proof.Machine.execLadderReversalDone s
  | .ssdEnumerated p nsid lbads lbas mqes granted => Sys2Proof.Machine.execSsdEnumerated p nsid lbads lbas mqes granted s

end Sys2Proof.Machine
end

