-- ==== Sys2Proof/WellFormed.lean ====
section
/-! DEFINITION. Well-formed commands: operands that the interfaces of the spec can carry. What a field may hold that the spec
itself checks (RANGE, R13) is no matter of form. -/

namespace Sys2Proof

/-- A tenant's request is bound to a tenancy handle, any other to none (R53). -/
def whoWf (w : Who) : Bool :=
  if w.role = .tenant then decide (w.bound.toNat / 0x1000000 = 1) && decide (w.bound.toNat % 0x10000 < 256)
  else decide (w.bound = 0)

/-- Payloads of at most 1,024 bytes (R46). -/
def payloadWf (bs : List Byte) : Bool := decide (bs.length ≤ 1024)

/-- The 16-bit length field holds the length of the payload (R46). -/
def msgWf (m : IdienMsg) : Bool := decide (m.payload.length < 65536)

/-- A session identifier of 16 bits. -/
def srcWf : ReqSource → Bool
  | .session n => decide (n < 65536)
  | .open_ _ => true

def sourceWf : NwSource → Bool
  | .host c => decide (c < 65536)
  | .saddle _ => true
  | .steppe _ => true
  | .recirc => true

/-- An access of 1 to 4,096 bytes inside BAR2; a write carries its bytes (R287). -/
def accessWf (off : Nat) (data : Option (List Byte)) (len : Nat) : Bool :=
  decide (1 ≤ len) && decide (len ≤ 4096) && decide (off < 2 ^ 40) &&
    match data with
    | some bs => decide (bs.length = len)
    | none => true

/-- A function number: PF0-PF3 and 1,024 virtual functions (R284). -/
def fnWf (f : Nat) : Bool := decide (f < 1028)

def sgWf (q : SgReq) : Bool :=
  match q.kind with
  | .read n => decide (1 ≤ n) && decide (n ≤ 4096)
  | .write bs => decide (1 ≤ bs.length) && decide (bs.length ≤ 4096)
  | .unsupported _ => true

/-- Error bits of the AER registers are below 32; functions exist. -/
def tlpWf : TlpError → Bool
  | .correctable b => decide (b < 32)
  | .poisonedWrite f => fnWf f
  | .unsupported f => (match f with | some g => fnWf g | none => true)
  | .completionTimeout f => fnWf f
  | .completionError f => fnWf f
  | .unexpectedCompletion => true
  | .malformed b => decide (b < 32)
  | .surpriseDown => true
  | .msixEntry f v => fnWf f && decide (v < 2048)
  | .internalRead => true

/-- The resource that an error row names exists on the part. -/
def errWf : ErrKind → Bool
  | .colSbe _ _ _ a => decide (a < 65536)
  | .stageActionDbe _ _ e => decide (e < 1024)
  | .tableSbe _ p _ | .tableRow _ p _ _ _ => decide (p < 1024)
  | .tmQueueDbe _ q => decide (q < 32768)
  | .tmShaperDbe _ n => decide (n < 36864)
  | .floodLinks _ q => decide (q < 32768)
  | .policerDbe _ p => decide (p < 16384)
  | .replMemberDbe _ g _ => decide (g < 65536)
  | .hostWindowDbe i => decide (i < 4096)
  | .hostMsixDbe f v => fnWf f && decide (v < 2048)
  | .hostFunction f _ => fnWf f
  | .qeDescDbe c => decide (c < 65536)
  | .qeStartedDbe c _ => decide (c < 65536)
  | .qeContextDbe c => decide (c < 65536)
  | .storBuffer c _ => decide (c < 256)
  | .storController c => decide (c < 256)
  | _ => true

/-- A register access at a word of its block. -/
def targetWf : RegTarget → Bool
  | .dict who _ _ _ v => whoWf who && payloadWf v
  | .mbIntrEn _ => true
  | .tc _ _ off _ _ => decide (off % 4 = 0)
  | .telem _ off _ _ => decide (off % 4 = 0)
  | .qeCmdBuf f off _ => fnWf f && decide (off < 64)
  | .qeCtrl f _ => fnWf f
  | .nvmeReg c off _ => decide (c < 256) && decide (off % 4 = 0)
  | .mbox _ _ off _ => decide (off % 4 = 0)
  | .mbPending _ _ _ => true
  | .steppeRing r off _ => decide (r < 1216) && decide (off % 4 = 0)
  | .hartPc _ _ _ => true
  | .msixEntry f v _ _ => fnWf f && decide (v < 2048)

/-- A well-formed command. -/
def Instr.wf : Instr → Bool
  | .tenancyCreate who _ => whoWf who
  | .tenancyDestroy who _ => whoWf who
  | .teardownIsolate _ silent => decide (silent.Nodup)
  | .teardownFlush _ => true
  | .teardownPurge _ => true
  | .teardownRelease _ => true
  | .tenReset who _ _ => whoWf who
  | .tenResetComplete _ => true
  | .tenQuotaWrite who _ _ _ => whoWf who
  | .tenShareWrite who _ _ _ => whoWf who
  | .stagedWrite who _ _ bytes => whoWf who && payloadWf bytes
  | .epochCommit who => whoWf who
  | .epochDiscard who => whoWf who
  | .unitReady _ => true
  | .commitTimeout => true
  | .retireComplete => true
  | .retireTimeout => true
  | .portNodeSwitch _ _ => true
  | .requestEnqueue src m => srcWf src && msgWf m
  | .getVersion _ => true
  | .read _ => true
  | .write _ => true
  | .describe _ => true
  | .list _ => true
  | .unitAnswerTimeout _ => true
  | .persistCommit => true
  | .spdmGetVersion _ => true
  | .getCapabilities _ => true
  | .negotiateAlgorithms _ _ _ _ _ => true
  | .getDigests _ => true
  | .getCertificate _ _ _ _ => true
  | .challenge _ _ nonce => decide (nonce.length = 32)
  | .getMeasurements _ _ _ => true
  | .keyExchange _ _ root _ => decide (root.length = 48)
  | .finish _ _ => true
  | .heartbeat _ => true
  | .keyUpdate _ => true
  | .endSession _ => true
  | .sessionIdleTimeout _ => true
  | .mgmtDatagram _ _ => true
  | .setEndpointId _ => true
  | .getVendorDefinedMessageSupport => true
  | .mbGo => true
  | .mbRequestTaken => true
  | .mbBufferWrite off _ => decide (off < 0x1000)
  | .mbDoneClear => true
  | .portModeWrite who _ _ => whoWf who
  | .linkUp _ _ => true
  | .linkDown _ _ => true
  | .wireFrameStart _ _ _ => true
  | .intakeGrant _ src => sourceWf src
  | .frameTail _ _ _ _ => true
  | .tailTimeout _ _ => true
  | .distribute _ _ => true
  | .headerBytesArrive _ _ _ => true
  | .hdrWaitLimit _ => true
  | .tableResultReturn _ => true
  | .tblWaitLimit _ => true
  | .watchdog _ _ => true
  | .storeDrain _ => true
  | .releaseBufferEntry _ => true
  | .narrowsForward _ => true
  | .add _ _ _ _ => true
  | .sub _ _ _ _ => true
  | .and_ _ _ _ _ => true
  | .or_ _ _ _ _ => true
  | .xor _ _ _ _ => true
  | .shl _ _ _ _ => true
  | .shr _ _ _ _ => true
  | .sar _ _ _ _ => true
  | .minu _ _ _ _ => true
  | .maxu _ _ _ _ => true
  | .cmp _ _ _ => true
  | .tst _ _ _ => true
  | .mul _ _ _ _ => true
  | .mov _ _ _ => true
  | .pack _ _ _ => true
  | .unpk _ _ _ => true
  | .crc _ _ _ _ => true
  | .addi _ _ _ _ => true
  | .andi _ _ _ _ => true
  | .ori _ _ _ _ => true
  | .xori _ _ _ _ => true
  | .shli _ _ _ _ => true
  | .shri _ _ _ _ => true
  | .sari _ _ _ _ => true
  | .cmpi _ _ _ => true
  | .mvi _ _ _ => true
  | .lui _ _ _ => true
  | .ext _ _ _ _ => true
  | .ins _ _ _ _ => true
  | .tsti _ _ _ => true
  | .ldh _ _ _ _ _ => true
  | .prb _ _ _ _ _ => true
  | .ldr _ _ _ _ => true
  | .str _ _ _ _ => true
  | .rbs _ _ => true
  | .rbc _ _ => true
  | .ldd _ _ _ _ _ => true
  | .std _ _ _ _ _ => true
  | .xadd _ _ _ _ _ => true
  | .fence _ => true
  | .br _ _ _ => true
  | .cbeq _ _ _ _ => true
  | .cbne _ _ _ _ => true
  | .call _ _ _ => true
  | .jr _ _ => true
  | .jtab _ _ _ _ => true
  | .nop _ => true
  | .fork _ _ _ _ _ => true
  | .join _ => true
  | .release _ _ => true
  | .end_ _ => true
  | .tlk _ _ _ _ _ => true
  | .mfc _ _ _ => true
  | .mtc _ _ _ => true
  | .wait _ => true
  | .npop _ _ => true
  | .ldim _ _ _ _ => true
  | .stim _ _ _ _ => true
  | .synci _ => true
  | .illegal _ _ => true
  | .timerExpiry _ _ _ => true
  | .edgeDetect _ _ _ _ => true
  | .handlerStart _ _ => true
  | .supervisorHandlerLimit _ _ => true
  | .colTest who _ _ => whoWf who
  | .colTestDrained _ => true
  | .colTestDrainTimeout _ => true
  | .colTestDone _ _ => true
  | .substitutionComplete _ _ => true
  | .condQueueWrite who _ _ _ => whoWf who
  | .colProgram who _ _ => whoWf who
  | .colProgLoaded _ => true
  | .stageExecute _ _ => true
  | .extLookupReturn _ _ => true
  | .stageLookupTimeout _ _ => true
  | .puntDeliver _ => true
  | .stageDefWrite who _ _ _ => whoWf who
  | .partMapWrite who _ _ _ _ => whoWf who
  | .partitionCreate who _ _ => whoWf who
  | .partitionDestroy who _ _ => whoWf who
  | .tcRingEnable _ _ _ => true
  | .tcDoorbell _ _ _ => true
  | .tcInsert _ _ => true
  | .tcDelete _ _ => true
  | .tcRead _ _ => true
  | .tcLock _ _ => true
  | .tcUpdate _ _ => true
  | .tcUnlock _ _ => true
  | .tcWalk _ _ => true
  | .tcFlush _ _ => true
  | .tableLockExpired _ _ => true
  | .learnInsert _ => true
  | .learnLogRead who _ => whoWf who
  | .ageTick _ => true
  | .agerVisit _ _ pos => decide (pos < 2097152 + 67108864)
  | .tcamScrub _ _ pos _ => decide (pos < 98304)
  | .tableBankTest who _ _ => whoWf who
  | .tableMigrationDone _ => true
  | .tableTestDone _ _ => true
  | .queueCreate who _ _ => whoWf who
  | .queueConfWrite who _ _ _ => whoWf who
  | .queueDestroy who _ _ => whoWf who
  | .shaperCreate who _ _ => whoWf who
  | .shaperWrite who _ _ _ => whoWf who
  | .shaperDestroy who _ _ => whoWf who
  | .enqueue _ => true
  | .crossingTransfer _ => true
  | .dequeue _ _ => true
  | .spillWriteComplete _ _ => true
  | .refill _ _ => true
  | .floodSizeWrite who _ _ => whoWf who
  | .tick => true
  | .timeSet who _ => whoWf who
  | .timeStep who _ => whoWf who
  | .policerCreate who _ _ => whoWf who
  | .policerWrite who _ _ _ => whoWf who
  | .policerDestroy who _ _ => whoWf who
  | .police _ => true
  | .gateApply who _ _ => whoWf who
  | .gateListChange _ _ => true
  | .gateEntryEnd _ _ => true
  | .replCreate who _ _ => whoWf who
  | .replDestroy who _ _ => whoWf who
  | .replWrite who _ bytes => whoWf who && payloadWf bytes
  | .replApply who _ _ => whoWf who
  | .replQuery who _ _ => whoWf who
  | .replicate _ => true
  | .telemSample _ _ => true
  | .telemRingEnable _ _ => true
  | .telemLogRead who _ => whoWf who
  | .slotModeWrite who _ _ => whoWf who
  | .slotPower who _ _ _ => whoWf who
  | .slotPgoodRise _ => true
  | .slotPgoodTimeout _ => true
  | .slotPgoodFall _ => true
  | .slotLoad who _ => whoWf who
  | .manifestVerified _ => true
  | .cfgInitRise _ => true
  | .cfgInitTimeout _ => true
  | .cfgInitFall _ => true
  | .cfgDone _ => true
  | .cfgDoneTimeout _ => true
  | .saddleLinkUp _ _ _ => true
  | .saddleLinkTimeout _ => true
  | .shReady _ _ => true
  | .shReadyTimeout _ => true
  | .slotUnload who _ => whoWf who
  | .regionCreate who _ => whoWf who
  | .isoAckFall _ => true
  | .regionDestroy who _ => whoWf who
  | .isoAckSet _ => true
  | .isoAckTimeout _ => true
  | .regionReset who _ => whoWf who
  | .resetDone _ => true
  | .resetDoneTimeout _ => true
  | .saddleRequest _ q => sgWf q
  | .pageEntryFetch _ => true
  | .gateQueueRelease _ => true
  | .windowWrite who _ _ _ => whoWf who
  | .sgInvalidate who _ => whoWf who
  | .saddleRxWrite _ => true
  | .apertureWrite _ _ bytes => decide (bytes.length ≤ 4096)
  | .rxConsWrite _ _ => true
  | .saddlePortReset who _ => whoWf who
  | .saddleCplTimeout _ => true
  | .saddleL1Entry _ => true
  | .saddleL1Exit _ => true
  | .regionFaultRead who _ => whoWf who
  | .pciePerstRise => true
  | .hostConfigLoaded => true
  | .vfAssign who _ => whoWf who
  | .vfRelease who _ => whoWf who
  | .vfReset who _ => whoWf who
  | .initiateFlr _ => true
  | .functionSilenced _ => true
  | .flrQueueReset _ => true
  | .flrComplete _ => true
  | .hostLinkDown _ => true
  | .vfEnableChange _ _ num => decide (num < 65536)
  | .configWrite _ _ _ => true
  | .bar2Request _ off data len => accessWf off data len
  | .winEntryWrite who _ _ => whoWf who
  | .msixSend _ _ => true
  | .intxAck _ _ => true
  | .hostArbGrant _ => true
  | .hostTlpError e => tlpWf e
  | .qeCreate _ => true
  | .qeArm _ => true
  | .qeDestroy _ => true
  | .qeInvalidate _ => true
  | .qeQuery _ => true
  | .sqDb _ lq _ => decide (lq < 4096)
  | .cqDb _ lq _ => decide (lq < 4096)
  | .descriptorFetch _ => true
  | .descriptorStart => true
  | .txFrameTaken _ => true
  | .rxDeliver _ => true
  | .controlCopyDone _ _ => true
  | .coalTimerExpiry _ => true
  | .qeReadTimeout _ _ _ => true
  | .qeReadError _ _ => true
  | .ccEnSet _ _ => true
  | .ccEnClear _ => true
  | .nvmeSqDoorbell _ y _ => decide (y < 2048)
  | .nvmeCqDoorbell _ y _ => decide (y < 2048)
  | .nvmeCommandFetch _ _ => true
  | .deleteIoSq _ => true
  | .createIoSq _ => true
  | .getLogPage _ => true
  | .deleteIoCq _ => true
  | .createIoCq _ => true
  | .identify _ => true
  | .abort _ => true
  | .setFeatures _ => true
  | .getFeatures _ => true
  | .asynchronousEventRequest _ => true
  | .formatNvm _ => true
  | .nvmeFlush _ _ => true
  | .nvmeWrite _ _ _ => true
  | .nvmeRead _ _ _ => true
  | .writeZeroes _ _ => true
  | .datasetManagement _ _ _ => true
  | .nvmeBackendStart _ => true
  | .backendResponse _ _ _ => true
  | .rlockWaitLimit _ => true
  | .nvmeBackendTimeout _ => true
  | .nvmeCqFullLimit _ _ => true
  | .nvmeSqReadFailed _ _ _ => true
  | .autonomousPowerStateTransition _ _ => true
  | .nvmeCtrlCreate who _ => whoWf who
  | .nvmeCtrlDestroy who _ => whoWf who
  | .nvmeVolWrite who _ _ => whoWf who
  | .dplRangeWrite who _ _ _ => whoWf who
  | .dplCtrl who _ _ => whoWf who
  | .dplHarvest who _ _ => whoWf who
  | .migHold who _ _ => whoWf who
  | .migHoldDrained _ => true
  | .migHoldExpired _ => true
  | .mbOfferWrite _ _ _ => true
  | .mbCountWrite _ _ _ _ => true
  | .mbSlotWrite _ _ _ _ _ => true
  | .mbReset who _ => whoWf who
  | .mbFunctionWrite who _ _ => whoWf who
  | .mbResetComplete _ => true
  | .hartRunWrite _ _ => true
  | .quadTest who _ => whoWf who
  | .quadTestDone _ => true
  | .steppeRingEnable _ _ => true
  | .steppeRingCountWrite _ _ => true
  | .injectionTake _ => true
  | .spitCommand _ => true
  | .spitCsRise words _ _ => decide (words.length ≤ 4096)
  | .spiEdgeGap => true
  | .spitSnapshot => true
  | .periphEnWrite who _ => whoWf who
  | .glenWatchdog => true
  | .ddrTraining trained _ => decide (trained.length = 4)
  | .zqCalibration _ => true
  | .hbmTraining _ _ => true
  | .patrolScrub _ word _ => decide (word < 2 ^ 32)
  | .lcAdvance who _ => whoWf who
  | .keyGenerate who _ => whoWf who
  | .keyImport who _ => whoWf who
  | .keyImportT who _ _ => whoWf who
  | .keyDestroy who _ => whoWf who
  | .sealedStoreWrite => true
  | .debugChallenge who => whoWf who
  | .debugUnlock who _ => whoWf who
  | .tamperSample _ _ => true
  | .tamperLockWrite who _ => whoWf who
  | .trngFailed => true
  | .vaultHash who _ _ _ => whoWf who
  | .vaultSign who _ _ msg => whoWf who && payloadWf msg
  | .vaultVerify who _ operands => whoWf who && payloadWf operands
  | .vaultEcdh who _ _ peer => whoWf who && payloadWf peer
  | .vaultRandom who _ => whoWf who
  | .saWrite who _ _ => whoWf who
  | .romBoot => true
  | .flashReadTimeout => true
  | .componentLoad _ => true
  | .steppeRelease => true
  | .colRelease _ => true
  | .flashRelease => true
  | .imgInstall who _ => whoWf who
  | .installCheckDone => true
  | .installWriteDone _ => true
  | .installVerifyDone => true
  | .imgMark who _ _ => whoWf who
  | .rollbackCommit who _ => whoWf who
  | .rollbackFuseStep => true
  | .imgKeyRevoke who _ => whoWf who
  | .goldRequest => true
  | .qualifyWindow _ _ => true
  | .qualifyLimit _ => true
  | .clkRequalify who _ => whoWf who
  | .clkSourceWrite who _ _ => whoWf who
  | .pllLossOfLock _ => true
  | .pllRelock _ => true
  | .pllRestart _ => true
  | .memoryPllTimeout _ => true
  | .steppeFreqWrite who _ _ => whoWf who
  | .clkMonTrip _ => true
  | .droopTrip _ => true
  | .droopHold _ => true
  | .avsPoll r => decide (r.current < 65536)
  | .pmbusPoll _ _ _ _ => true
  | .vrAlert => true
  | .powerCapClear who _ => whoWf who
  | .thermalSample t => decide (-32768 ≤ t) && decide (t ≤ 32767)
  | .thermtrip => true
  | .powerDomainWrite who _ _ => whoWf who
  | .domainChangeDone _ => true
  | .ladderRequest who _ => whoWf who
  | .ladderStepDone => true
  | .ladderStepLimit => true
  | .wake w => decide (w.others.length ≤ 8)
  | .rtcAlarm => true
  | .boardPwrEnRaise => true
  | .errorArrival e => errWf e.kind
  | .errorActionComplete _ => true
  | .chipReset who _ => whoWf who
  | .failstopResetDelay => true
  | .rstN _ _ => true
  | .eventLogRead who => whoWf who
  | .errorLogRead who => whoWf who
  | .laneTest who _ => whoWf who
  | .laneTestDone _ => true
  | .saddlePortTest who _ => whoWf who
  | .saddlePortTestDone _ => true
  | .powerUp => true
  | .vaonLoss => true
  | .winFirstMissRead who => whoWf who
  | .qeLastFaultRead who => whoWf who
  | .crossFifoPeakRead who _ => whoWf who
  | .relbufPeakRead who _ => whoWf who
  | .registerWrite t => targetWf t
  | .hostLinkUp => true
  | .saddleLinkDown _ => true
  | .teardownDrainTimeout _ => true
  | .powerStateTransitionDone _ => true
  | .erasureComplete => true
  | .trngStartupTestDone => true
  | .ladderReversalDone => true
  | .ssdEnumerated _ _ _ _ _ _ => true

end Sys2Proof
end

