-- ==== Sys2Proof/Certificates/Slice0/Obligations.lean ====
section
/-! DEFINITION. The statements about the model. -/

open Sys2Proof Sys2Proof.Machine

namespace Sys2Proof.Machine

/-- A command completes in a state: exec answers a next state, of which `P` holds. -/
def Completes (c : Instr) (s : State) (P : State → Prop) : Prop := ∃ t, exec c s = .next t ∧ P t

/-- A dictionary command completes with OK: Glen serves, every check of R14 passes, and the next state is that of its effect with
the answer; nothing else changes. -/
def Serves (c : Instr) (op : DictOp) : Prop :=
  ∀ s, glenServes s = true → op.status s = .ok → exec c s = .next (respond (op.effect s).1 .ok 0 (op.effect s).2)

end Sys2Proof.Machine

/-! ### The queue and the answers -/

/-- A step takes the command at the front of the queue and runs it on the state with the queue's rest; on an empty queue the block
idles (the model's choice, log entry 4). -/
def Obligations.FrontCommandRuns : Prop :=
  (∀ (s : State) (c : Instr) (rest : List Instr), s.pending = c :: rest → step s = exec c { s with pending := rest }) ∧
  (∀ s : State, s.pending = [] → step s = .next s)

/-- R14: of the reasons that apply, the first in the order of R14 is answered; OK exactly when none applies. -/
def Obligations.FirstFailureAnswered : Prop :=
  (∀ cs : List (Status × Bool), (∀ c ∈ cs, c.1 ≠ .ok) → (firstStatus cs = .ok ↔ ∀ c ∈ cs, c.2 = false)) ∧
  (∀ (cs : List (Status × Bool)) (st : Status), st ≠ .ok → firstStatus cs = st →
    (st, true) ∈ cs ∧ ∀ x ∈ statusOrder.takeWhile (fun y => decide (y ≠ st)), (x, true) ∉ cs) ∧
  statusOrder = [.version, .access, .staleHandle, .range, .halted, .notReady, .locked, .busy, .noResource, .timeout]

/-- R51: the negotiation selects the highest major common to both sides with the lower of the two minors, and fails when no major
is common (0 being no major). -/
def Obligations.NegotiationSelects : Prop :=
  ∀ a b : List (Nat × Nat), (∀ x ∈ a, x.1 ≠ 0) →
    (negotiate a b = none ↔ ∀ x ∈ a, ∀ y ∈ b, x.1 ≠ y.1) ∧
    (∀ z, negotiate a b = some z → ∃ x ∈ a, ∃ y ∈ b, x.1 = y.1 ∧ z = (x.1, min x.2 y.2) ∧
      ∀ x' ∈ a, ∀ y' ∈ b, x'.1 = y'.1 → x'.1 ≤ z.1)

/-! ### Chapter 1: tenancies and epochs -/

/-- R20-R23, R30: tenancy commands that pass their checks complete: the new tenancy is Active with the mode and shares of its record
and its handle, of the index that the free list gives, is answered; a quota and a share take the value written; a destroy moves
the tenancy to Destroying with teardown step 1 ahead; a reset runs from then on. -/
def Sys2Proof.Claims.TenancyCommandsComplete : Prop :=
  (∀ who r s, glenServes s = true → (tenancyCreateOp who r).status s = .ok →
    Completes (.tenancyCreate who r) s (fun t => ∃ i, (allocIndex s 1).map (·.1) = some i ∧
      tenAt t i = some {
        st := .active, mode := tcMode r.toNat, dyn := decide (tcKind r.toNat = 1)
        shareEast := tcShare r.toNat .east, shareWest := tcShare r.toNat .west, handle := handleOf s 1 i } ∧
      (∀ j, j ≠ i → tenAt t j = tenAt s j) ∧ t.mem = s.mem ∧
      t.resp = { status := .ok, payload := beBytes 4 (handleOf s 1 i).toNat })) ∧
  (∀ who h kind v s, glenServes s = true → (tenQuotaOp who h kind v).status s = .ok →
    Completes (.tenQuotaWrite who h kind v) s (fun t =>
      numD t (tkey (hIdx h) 0xC001 kind.toNat) 0 = v.toNat ∧ t.resp = { status := .ok } ∧ t.tens = s.tens ∧ t.mem = s.mem ∧
      ∀ k d, k ≠ tkey (hIdx h) 0xC001 kind.toNat → numD t k d = numD s k d)) ∧
  (∀ who h v x s y, glenServes s = true → (tenShareOp who h v x).status s = .ok → tenAt s (hIdx h) = some y →
    Completes (.tenShareWrite who h v x) s (fun t =>
      tenAt t (hIdx h) = some (setShare y v x.toNat) ∧ (∀ j, j ≠ hIdx h → tenAt t j = tenAt s j) ∧ t.dict = s.dict ∧
      t.mem = s.mem ∧ t.resp = { status := .ok })) ∧
  (∀ who h, Serves (.tenancyDestroy who h) (tenancyDestroyOp who h)) ∧
  (∀ who h s x, glenServes s = true → (tenancyDestroyOp who h).status s = .ok → tenAt s (hIdx h) = some x →
    Completes (.tenancyDestroy who h) s (fun t =>
      tenAt t (hIdx h) = some { x with st := .destroying, step := 1, resetting := false } ∧
      (∀ j, j ≠ hIdx h → tenAt t j = tenAt s j) ∧ t.mem = s.mem ∧ t.resp = { status := .ok })) ∧
  (∀ who h v, Serves (.tenReset who h v) (tenResetOp who h v)) ∧
  (∀ who h v s x, glenServes s = true → (tenResetOp who h v).status s = .ok → tenAt s (hIdx h) = some x →
    Completes (.tenReset who h v) s (fun t =>
      (tenAt t (hIdx h)).map (·.resetting) = some true ∧ t.resp = { status := .ok }))

/-- R21: a create that finds no free index, or would push the static shares of a Vale above 576, completes with NO_RESOURCE and
creates nothing. -/
def Obligations.TenancyCreateNoResource : Prop :=
  ∀ who (r : Rec 8) s, glenServes s = true → s.err.failStop = false → who.role = .operator →
    1 ≤ tcMode r.toNat → tcMode r.toNat ≤ 3 → tcKind r.toNat ≤ 1 →
    shareBad (decide (tcKind r.toNat = 1)) (tcShare r.toNat .east) = false →
    shareBad (decide (tcKind r.toNat = 1)) (tcShare r.toNat .west) = false →
    (allocIndex s 1 = none ∨ (tcKind r.toNat = 0 ∧
      (576 < staticSum s .east + tcShare r.toNat .east ∨ 576 < staticSum s .west + tcShare r.toNat .west))) →
    exec (.tenancyCreate who r) s = .next { s with resp := { status := .noResource } }

/-- R32: each teardown step runs when it is the one in progress and moves to the next; a step out of order does nothing; after the
last step the tenancy is Free and TENANCY_FREED is logged with its handle. -/
def Sys2Proof.Claims.TeardownRuns : Prop :=
  (∀ (i : Fin 256) silent s x, tenAt s i = some x → x.st = .destroying → s.err.failStop = false →
    (x.step = 1 → fnsReset s x.handle = true → exec (.teardownIsolate i silent) s =
      .next (modTen ((tenRegions s x.handle).foldl (tearRegion silent) s) i (fun y => { y with step := 3 })) ∧
      Completes (.teardownIsolate i silent) s (fun t => (tenAt t i).map (·.step) = some 3)) ∧
    (x.step ≠ 1 → exec (.teardownIsolate i silent) s = .next s)) ∧
  (∀ (i : Fin 256) s x, tenAt s i = some x → x.st = .destroying → s.err.failStop = false →
    (x.step = 3 → exec (.teardownFlush i) s = .next (modTen (flushTenancy s x.handle) i (fun y => { y with step := 4 })) ∧
      Completes (.teardownFlush i) s (fun t => (tenAt t i).map (·.step) = some 4)) ∧
    (x.step ≠ 3 → exec (.teardownFlush i) s = .next s) ∧
    (x.step = 3 → exec (.teardownDrainTimeout i) s = .next (modTen (flushTenancy s x.handle) i (fun y => { y with step := 4 })) ∧
      Completes (.teardownDrainTimeout i) s (fun t => (tenAt t i).map (·.step) = some 4)) ∧
    (x.step = 4 → s.epoch.st ≠ .committing → exec (.teardownPurge i) s =
      .next (modTen (purgeVale x.handle (purgeVale x.handle s .east) .west) i (fun y => { y with step := 5 })) ∧
      Completes (.teardownPurge i) s (fun t => (tenAt t i).map (·.step) = some 5)) ∧
    (s.epoch.st = .committing → exec (.teardownPurge i) s = .next s) ∧
    (x.step = 5 → Completes (.teardownRelease i) s (fun t =>
      tenAt t i = none ∧ ∃ e, t.err.events.head? = some e ∧ e.name = "TENANCY_FREED" ∧ e.tenancy = x.handle)) ∧
    (x.step ≠ 5 → exec (.teardownRelease i) s = .next s)) ∧
  (∀ (i : Fin 256) s x, tenAt s i = some x → x.resetting = true → x.st = .halted → tenResetOver s x.handle = true →
    s.err.failStop = false →
    exec (.tenResetComplete i) s = .next (setTen s i { x with st := .active, resetting := false, halt := none }))

/-- R35, R37: the transitions of the epoch control. A staged write changes the staging copy alone; commit, discard, readiness, the
timeouts and the end of retirement move the control as the table of R37 gives. -/
def Obligations.EpochTransitions : Prop :=
  (∀ who index sub bytes, Serves (.stagedWrite who index sub bytes) (stagedWriteOp who index.toNat sub.toNat bytes)) ∧
  (∀ who (index : U16) (sub : U8) bytes x s, glenServes s = true →
    stagedWriteOp who index.toNat sub.toNat bytes = stagedOp who x bytes → (stagedOp who x bytes).status s = .ok →
    Completes (.stagedWrite who index sub bytes) s (fun t =>
      tget t.dict.staged x.key = some (x.into (beNat bytes)) ∧ t.dict.nums = s.dict.nums ∧ t.resp = { status := .ok } ∧
      t.epoch = { s.epoch with st := if s.epoch.st = .idle then .staging else s.epoch.st } ∧ t.mem = s.mem ∧
      t.east = s.east ∧ t.west = s.west)) ∧
  (∀ who s, glenServes s = true → (epochCommitOp who).status s = .ok → s.epoch.st = .staging →
    exec (.epochCommit who) s = .next { s with
      epoch := { s.epoch with st := .committing, ready := [], switched := [], start := tickNs s }, resp := { status := .ok } }) ∧
  (∀ who s, glenServes s = true → (epochDiscardOp who).status s = .ok → s.epoch.st = .staging →
    Completes (.epochDiscard who) s (fun t => t.epoch.st = .idle ∧ t.dict.staged = [] ∧ t.resp = { status := .ok } ∧
      t.mem = s.mem)) ∧
  (∀ u s, s.epoch.st = .committing → unitReady s u = true → u ∈ epochUnits s → s.err.failStop = false →
    exec (.unitReady u) s = .next (commitReady { s with epoch := { s.epoch with
      ready := if s.epoch.ready.contains u then s.epoch.ready else s.epoch.ready ++ [u] } })) ∧
  (∀ s, s.epoch.st = .committing → s.err.failStop = false →
    Completes .commitTimeout s (fun t => t.epoch.st = .staging ∧ t.epoch.ready = [] ∧ t.epoch.lastResult = .timeout)) ∧
  (∀ s, s.epoch.st = .retiring → s.err.failStop = false →
    (∀ v, epochInside s v s.epoch.active = false ∧ allSwitched s v = true ∧ supsLeft s v = true) →
    Completes .retireComplete s (fun t => t.epoch.st = .idle ∧ t.epoch.active = nextEpoch s ∧ t.epoch.lastResult = .ok)) ∧
  (∀ s, s.epoch.st = .retiring → s.err.failStop = false →
    Completes .retireTimeout s (fun t => t.epoch.st = .idle ∧ t.epoch.lastResult = .ok ∧
      ∃ e, t.err.events.head? = some e ∧ e.name = "EPOCH_RETIRE_FORCED" ∧ e.cls = 1)) ∧
  (∀ v (n : Fin 15) s, s.epoch.st = .retiring → portNodeExists s v n = true → portSwitched s v n = false →
    epochBelow s v n s.epoch.active = false → s.err.failStop = false →
    exec (.portNodeSwitch v n) s = .next { s with epoch := { s.epoch with switched := s.epoch.switched ++ [valeNum v * 16 + n.val] } })

/-- R38: in state Committing or Retiring a commit, a discard and a staged write complete with BUSY and change nothing; in state Idle
a commit and a discard complete with OK and have no effect. -/
def Obligations.EpochBusy : Prop :=
  (∀ who s, glenServes s = true → s.err.failStop = false → who.role = .operator →
    s.epoch.st = .committing ∨ s.epoch.st = .retiring →
    exec (.epochCommit who) s = .next { s with resp := { status := .busy, retry := clampRetry (epochRetry s) } } ∧
    exec (.epochDiscard who) s = .next { s with resp := { status := .busy, retry := clampRetry (epochRetry s) } } ∧
    ∀ (index : U16) (sub : U8) bytes x, stagedWriteOp who index.toNat sub.toNat bytes = stagedOp who x bytes →
      bytes.length = x.size → x.bad (beNat bytes) = false → firstStatus (x.checks s (beNat bytes)) = .ok →
      exec (.stagedWrite who index sub bytes) s =
        .next { s with resp := { status := .busy, retry := clampRetry (epochRetry s) } }) ∧
  (∀ who s, glenServes s = true → s.err.failStop = false → who.role = .operator → s.epoch.st = .idle →
    exec (.epochCommit who) s = .next { s with resp := { status := .ok } } ∧
    exec (.epochDiscard who) s = .next { s with resp := { status := .ok } })

/-- Every part holds: TenancyCommandsComplete, TeardownRuns. -/
def Obligations.TenancyLife : Prop :=
  Claims.TenancyCommandsComplete ∧ Claims.TeardownRuns


/-! ### Chapter 2: Idien, sessions, transports -/

/-- Glen takes request `r` from the front of queue `q` now, and no cached response answers it. -/
def Sys2Proof.Machine.Takes (s : State) (q : GlenQueue) (r : Req) (op : Nat) : Prop :=
  glenServes s = true ∧ mayServe s q = true ∧ (∃ rest, queueAt s q = r :: rest) ∧ r.msg.opcode.toNat = op ∧ resent s r = none

/-- R47-R49, R64, R65: a request is checked and executed when Glen takes it from its queue; it is answered with what its operation comes
to on the state at that moment. -/
def Sys2Proof.Claims.RequestsServed : Prop :=
  ∀ (s : State) (q : GlenQueue) (r : Req),
    (Takes s q r 1 → exec (.getVersion q) s = .next (answerOp (takenState s q) r (getVersionOp r))) ∧
    (Takes s q r 2 → vendorTest s r = false → exec (.read q) s = .next (answerOp (takenState s q) r (readMsgOp (takenState s q) r))) ∧
    (Takes s q r 3 → vendorTest s r = false → exec (.write q) s = .next (writeReq (takenState s q) r)) ∧
    (Takes s q r 4 → vendorTest s r = false →
      exec (.describe q) s = .next (answerOp (takenState s q) r (describeMsgOp (takenState s q) r))) ∧
    (Takes s q r 5 → exec (.list q) s = .next (answerOp (takenState s q) r (listMsgOp (takenState s q) r))) ∧
    (Takes s q r 2 → vendorTest s r = false → (readMsgOp (takenState s q) r).status (takenState s q) = .ok →
      exec (.unitAnswerTimeout q) s = .next (answerReq (takenState s q) r { status := .timeout }) ∧
      Completes (.unitAnswerTimeout q) s (fun t => t.resp = { status := .timeout } ∧ t.dict = s.dict ∧ t.mem = s.mem)) ∧
    (Takes s q r 3 → vendorTest s r = false → (writeMsgOp (takenState s q) r).status (takenState s q) = .ok →
      exec (.unitAnswerTimeout q) s =
        .next (answerReq ((writeMsgOp (takenState s q) r).onFail (takenState s q) .timeout) r { status := .timeout }) ∧
      Completes (.unitAnswerTimeout q) s (fun t => t.resp = { status := .timeout })) ∧
    (Takes s q r 1 → (getVersionOp r).status (takenState s q) = .ok → Completes (.getVersion q) s (fun t =>
      ∃ z, negotiate (offersOf r.msg.payload) idienVersions = some z ∧
        t.resp = { status := .ok, payload := beBytes 1 z.1 ++ beBytes 1 z.2 })) ∧
    (Takes s q r 5 → (listMsgOp (takenState s q) r).status (takenState s q) = .ok → Completes (.list q) s (fun t =>
      t.resp = { status := .ok, payload := listFrom (listRanges (takenState s q)
        (whoOf (takenState s q) r.src).role) 255 r.msg.index.toNat } ∧ t.dict = s.dict ∧ t.mem = s.mem)) ∧
    (Takes s q r 4 → vendorTest s r = false → (describeMsgOp (takenState s q) r).status (takenState s q) = .ok →
      Completes (.describe q) s (fun t => ∃ d, descOf (takenState s q) (whoOf (takenState s q) r.src) (hIdx r.msg.handle)
        r.msg.index.toNat r.msg.subindex.toNat = some d ∧ t.resp = { status := .ok, payload := d.2 } ∧ t.mem = s.mem)) ∧
    (Takes s q r 3 → vendorTest s r = false → (writeMsgOp (takenState s q) r).status (takenState s q) = .ok →
      isRegionReset r.msg.index.toNat r.msg.subindex.toNat = false → gateBusy (takenState s q) (windowKeys r.msg) = false →
      Completes (.write q) s (fun t =>
        t.resp = { status := .ok, payload := ((writeMsgOp (takenState s q) r).effect (takenState s q)).2 }))

/-- R48: a READ that completes with any status other than OK has no effect on the objects it names: the request is taken and answered,
and nothing else changes. A READ that completes with OK answers the values its operation takes. -/
def Sys2Proof.Claims.ReadAllOrNone : Prop :=
  ∀ (s : State) (q : GlenQueue) (r : Req), Takes s q r 2 → vendorTest s r = false →
    ((readMsgOp (takenState s q) r).status (takenState s q) ≠ .ok →
      ∃ n, exec (.read q) s = .next (answerReq (takenState s q) r
        { status := (readMsgOp (takenState s q) r).status (takenState s q), retry := n })) ∧
    ((readMsgOp (takenState s q) r).status (takenState s q) = .ok →
      ((readMsgOp (takenState s q) r).effect (takenState s q)).2.length ≤ 1024 ∧
      Completes (.read q) s (fun t =>
        t.resp = { status := .ok, payload := ((readMsgOp (takenState s q) r).effect (takenState s q)).2 }))

/-- R50: an answered request of a session is kept as its cached response, the only one; the same sequence number resent in the session
gets that response again and is neither queued nor executed. -/
def Obligations.CachedResponse : Prop :=
  (∀ (s : State) (n : Nat) (x : Session) (m : IdienMsg) (a : Resp), tget s.idien.sessions n = some x → n ≠ 0 →
    ∃ y b, tget (answerReq s { src := .session n, msg := m } a).idien.sessions n = some y ∧
      y.cached = some (m.sequence, b) ∧ b.sequence = m.sequence ∧ b.resp.status = a.status ∧ b.resp.payload = a.payload) ∧
  (∀ (s : State) (n : Nat) (x : Session) (m : IdienMsg) (b : RespMsg), glenServes s = true → s.err.failStop = false →
    tget s.idien.sessions n = some x → n ≠ 0 → verHas x 1 3 = true → m.payload.length ≤ 1024 → x.cached = some (m.sequence, b) →
    exec (.requestEnqueue (.session n) m) s = .next (sendResp s (.session n) b))

/-- R63: a request is appended to the queue of its source while the queue and the source have room; beyond a limit it is answered with
BUSY, the refusal is counted, and the queue is as before. R43: a commit writes the value that waits longest to flash. -/
def Sys2Proof.Claims.RequestsQueued : Prop :=
  (∀ (s : State) (r : Req), glenServes s = true → sourceStands s r.src = true → r.msg.payload.length ≤ 1024 → resent s r = none →
    (queueAt s (queueFor s r.src)).length < queueCap (queueFor s r.src) → outstanding s r.src < 4 →
    exec (.requestEnqueue r.src r.msg) s = .next (setQueue s (queueFor s r.src) (queueAt s (queueFor s r.src) ++ [r]))) ∧
  (∀ (s : State) (r : Req), glenServes s = true → sourceStands s r.src = true → r.msg.payload.length ≤ 1024 → resent s r = none →
    (queueCap (queueFor s r.src) ≤ (queueAt s (queueFor s r.src)).length ∨ 4 ≤ outstanding s r.src ∧ r.src ≠ .session 0) →
    s.idien.served < 64 →
    exec (.requestEnqueue r.src r.msg) s = .next (answerReq (bump s (okey 0x1104 (queueNum (queueFor s r.src) + 1)) 32 1) r
      { status := .busy, retry := clampRetry (queueAt s (queueFor s r.src)).length })) ∧
  (∀ (s : State) k ks, glenServes s = true → s.err.failStop = false → s.dict.pending = k :: ks →
    Completes .persistCommit s (fun t => t.dict.pending = ks ∧ tget t.dict.flashNums k = tget s.dict.nums k ∧
      tget t.dict.flashOcts k = tget s.dict.octs k ∧ t.dict.nums = s.dict.nums ∧ t.dict.octs = s.dict.octs ∧ t.mem = s.mem ∧
      ∀ j, j ≠ k → tget t.dict.flashNums j = tget s.dict.flashNums j ∧ tget t.dict.flashOcts j = tget s.dict.flashOcts j))

/-- R54, R417: the SPDM responder answers each request of an established connection, and what a request before a session changes is the
connection alone (and the counter of random draws); R412: one that needs random data is not served while the TRNG is not. -/
def Sys2Proof.Claims.SpdmAnswers : Prop :=
  (∀ c s, spdmServes s = true → exec (.spdmGetVersion c) s = .next (setConn s c { connOf s c with
    version := true, capabilities := false, algorithms := false, pending := none, answer := 0x04 :: spdmVersions, refused := .ok })) ∧
  (∀ c s, spdmServes s = true → (connOf s c).version = true → exec (.getCapabilities c) s = .next (setConn s c { connOf s c with
    capabilities := true, algorithms := false, answer := 0x61 :: spdmCaps, refused := .ok })) ∧
  (∀ c s, spdmServes s = true → (connOf s c).capabilities = true → exec (.negotiateAlgorithms c true true true true) s =
    .next (setConn s c { connOf s c with algorithms := true, answer := 0x63 :: spdmAlgs, refused := .ok })) ∧
  (∀ c s, spdmServes s = true → (connOf s c).algorithms = true →
    exec (.getDigests c) s = .next (setConn s c { connOf s c with
      answer := 0x01 :: ([0x03] ++ Config.sha384 (chainOf s 0) ++ Config.sha384 (chainOf s 1)), refused := .ok }) ∧
    (∀ slot offset len, slot.toNat ≤ 1 → exec (.getCertificate c slot offset len) s = .next (setConn s c { connOf s c with
      answer := 0x02 :: certPortion s slot.toNat offset.toNat len.toNat, refused := .ok })) ∧
    (∀ slot nonce, slot.toNat ≤ 1 → trngServes s = true → Completes (.challenge c slot nonce) s (fun t =>
      (connOf t c).refused = .ok ∧ (connOf t c).answer.head? = some 0x03 ∧ t.mem = s.mem ∧ t.dict = s.dict ∧
      t.idien.sessions = s.idien.sessions)) ∧
    (∀ index ks, measAsked index.toNat = some ks → exec (.getMeasurements c index false) s = .next (setConn s c { connOf s c with
      answer := 0x60 :: measContent s index.toNat ks, refused := .ok })) ∧
    (∀ slot nonce, slot.toNat ≤ 1 → trngServes s = false →
      exec (.challenge c slot nonce) s = .next (spdmRefuse s c .notReady)) ∧
    (∀ index ks, measAsked index.toNat = some ks → trngServes s = true → Completes (.getMeasurements c index true) s (fun t =>
      (connOf t c).refused = .ok ∧ (connOf t c).answer.head? = some 0x60 ∧ t.mem = s.mem ∧ t.dict = s.dict)))

/-- R53, R56, R57: KEY_EXCHANGE takes the role from the root of the requester's chain and is refused with ACCESS for an unknown root or a
transport the role may not use, and with BUSY beyond the role's limit; FINISH establishes the session; a session that ends leaves no
queued request. -/
def Sys2Proof.Claims.SessionLife : Prop :=
  (∀ c t root s r h, spdmServes s = true → (connOf s c).algorithms = true → roleFor s root = some (r, h) → mayUse r t = true →
    (connOf s c).pending = none → sessCount s r < sessLimit r → trngServes s = true →
    Completes (.keyExchange c t root true) s (fun u => (connOf u c).pending = some (r, h, t) ∧ (connOf u c).refused = .ok ∧
      u.idien.sessions = s.idien.sessions ∧ u.mem = s.mem)) ∧
  (∀ c t root m s, spdmServes s = true → (connOf s c).algorithms = true →
    (roleFor s root = none ∨ ∃ r h, roleFor s root = some (r, h) ∧ (mayUse r t = false ∨ m = false)) →
    exec (.keyExchange c t root m) s = .next (spdmRefuse s c .access)) ∧
  (∀ c t root s r h, spdmServes s = true → (connOf s c).algorithms = true → roleFor s root = some (r, h) → mayUse r t = true →
    (connOf s c).pending = none → sessLimit r ≤ sessCount s r →
    exec (.keyExchange c t root true) s = .next (spdmRefuse s c .busy)) ∧
  (∀ c s r h t, spdmServes s = true → (connOf s c).algorithms = true → (connOf s c).pending = some (r, h, t) →
    Completes (.finish c true) s (fun u =>
      tget u.idien.sessions s.idien.nextSession = some { role := r, bound := h, transport := t } ∧
      u.idien.nextSession = s.idien.nextSession + 1 ∧ (connOf u c).pending = none ∧ u.mem = s.mem ∧ u.dict = s.dict)) ∧
  (∀ n x s, spdmServes s = true → tget s.idien.sessions n = some x → n ≠ 0 →
    exec (.heartbeat n) s = .next { s with idien := { s.idien with spdm := [0x68] } } ∧
    Completes (.keyUpdate n) s (fun t => tget t.idien.sessions n = some { x with keyGen := x.keyGen + 1 } ∧ t.mem = s.mem) ∧
    (∀ c, c = .endSession n ∨ c = .sessionIdleTimeout n → Completes c s (fun t =>
      tget t.idien.sessions n = none ∧ (∀ q : GlenQueue, q ≠ .u → ∀ r ∈ queueAt t q, r.src ≠ .session n) ∧
      t.dict = s.dict ∧ t.mem = s.mem)))

/-- R58-R61: a datagram for one of the port's addresses is accepted as a secured message, its Idien message going to Glen's queue, or
dropped and counted; Set Endpoint ID and Get Vendor Defined Message
Support; the PF0 mailbox hands a request to Glen, marks an overrun, refuses a bad length and keeps a response until DONE is clear. -/
def Sys2Proof.Claims.TransportsAndMailbox : Prop :=
  (∀ dst len valid msg s, glenServes s = true → mgmtTakes s dst = true →
    (valid = true → len ≤ 1068 → mgmtCarries s msg = true →
      (∀ x, msg = some x → exec (.mgmtDatagram ⟨dst, len, msg⟩ valid) s = .next (enqueueReq
        { s with idien := { s.idien with secured := s.idien.secured + 1 } } { src := .session x.1, msg := x.2 })) ∧
      (msg = none → exec (.mgmtDatagram ⟨dst, len, msg⟩ valid) s =
        .next { s with idien := { s.idien with secured := s.idien.secured + 1 } })) ∧
    (¬ (valid = true ∧ len ≤ 1068 ∧ mgmtCarries s msg = true) →
      exec (.mgmtDatagram ⟨dst, len, msg⟩ valid) s = .next (count s (okey 0x1102 4)))) ∧
  (∀ dst len valid msg s, mgmtTakes s dst = false → exec (.mgmtDatagram ⟨dst, len, msg⟩ valid) s = .next s) ∧
  (∀ eid s, glenServes s = true → periphOn s 1 = true → eid ≠ 0 → eid ≠ 0xFF →
    exec (.setEndpointId eid) s = .next { s with idien := { s.idien with eid := eid } }) ∧
  (∀ s, glenServes s = true → periphOn s 1 = true → Completes .getVendorDefinedMessageSupport s (fun t =>
    t.idien.vdmAnswer = [0, 0xFF, 1] ++ beBytes 4 Config.vendorIana.toNat ++ [0, 0] ∧ t.dict = s.dict ∧ t.mem = s.mem)) ∧
  (∀ s, fnServes s 0 = true → s.idien.pf0.go = false →
    (20 ≤ s.idien.pf0.reqLen → s.idien.pf0.reqLen ≤ 1280 →
      exec .mbGo s = .next (setPf0 s { s.idien.pf0 with go := true })) ∧
    ((s.idien.pf0.reqLen < 20 ∨ 1280 < s.idien.pf0.reqLen) → Completes .mbGo s (fun t =>
      t.idien.pf0.done = true ∧ t.idien.pf0.respLen = 0x02000000 ∧ t.idien.pf0.go = false))) ∧
  (∀ s, fnServes s 0 = true → s.idien.pf0.go = true → exec .mbGo s = .next s) ∧
  (∀ off b s, fnServes s 0 = true → 0x100 ≤ off → off < 0x600 →
    (s.idien.pf0.go = true → exec (.mbBufferWrite off b) s = .next (setPf0 s { s.idien.pf0 with overrun := true })) ∧
    (s.idien.pf0.go = false → Completes (.mbBufferWrite off b) s (fun t =>
      tgetD t.idien.pf0.reqBuf (off - 0x100) 0 = b ∧ (∀ k, k ≠ off - 0x100 → tgetD t.idien.pf0.reqBuf k 0 = tgetD s.idien.pf0.reqBuf k 0) ∧
      t.idien.pf0.reqLen = s.idien.pf0.reqLen ∧ t.mem = s.mem))) ∧
  (∀ s, fnServes s 0 = true → s.idien.pf0.done = true → s.idien.pf0.held = [] →
    exec .mbDoneClear s = .next (setPf0 s { s.idien.pf0 with done := false })) ∧
  (∀ s bs l, fnServes s 0 = true → s.idien.pf0.done = true → s.idien.pf0.held = bs :: l →
    Completes .mbDoneClear s (fun t => t.idien.pf0.done = true ∧ t.idien.pf0.respBuf = bs ∧ t.idien.pf0.held = l)) ∧
  (∀ s, glenServes s = true → s.idien.pf0.go = true → exec .mbRequestTaken s = .next (mbTakeAct s) ∧
    Completes .mbRequestTaken s (fun t => t.idien.pf0.go = false))

/-- Every part holds: RequestsServed, ReadAllOrNone, RequestsQueued. -/
def Obligations.DictionaryRequests : Prop :=
  Claims.RequestsServed ∧ Claims.ReadAllOrNone ∧ Claims.RequestsQueued

/-- Every part holds: SpdmAnswers, SessionLife, TransportsAndMailbox. -/
def Obligations.ManagementTransports : Prop :=
  Claims.SpdmAnswers ∧ Claims.SessionLife ∧ Claims.TransportsAndMailbox


/-! ### Chapter 3: the packet path -/

/-- R72, R73, R85: PORT_MODE is served; a port comes up where the mode forms it and its lanes are usable, and alone changes; a port
that loses its link goes down, and alone changes. -/
def Sys2Proof.Claims.PortsAndLinks : Prop :=
  (∀ who v m, Serves (.portModeWrite who v m) (portModeOp who v m)) ∧
  (∀ who v m s, glenServes s = true → (portModeOp who v m).status s = .ok → Completes (.portModeWrite who v m) s (fun t =>
    (t.vale v).path.linkUp = 0 ∧ t.resp.status = .ok ∧ t.mem = s.mem)) ∧
  (∀ v k s, portCanLink s v k.val = true → s.err.failStop = false → Completes (.linkUp v k) s (fun t =>
    linkIsUp t v k = true ∧ (∀ j : Fin 8, j ≠ k → linkIsUp t v j = linkIsUp s v j) ∧
    t = s.modPath v (fun _ => { (s.vale v).path with linkUp := (t.vale v).path.linkUp }))) ∧
  (∀ v k s, Completes (.linkDown v k) s (fun t =>
    linkIsUp t v k = false ∧ (∀ j : Fin 8, j ≠ k → linkIsUp t v j = linkIsUp s v j) ∧
    t = s.modPath v (fun _ => { (s.vale v).path with linkUp := (t.vale v).path.linkUp })))

/-- R76, R78, R420: a frame that starts at a port whose link is up takes cells and a record number in Basin; without a free cell it is
dropped and counted; a port with MACsec holds it in its MAC. -/
def Sys2Proof.Claims.FrameStarts : Prop :=
  ∀ (v : Vale) (k : Fin 8) (bs : List Byte) (s : State), linkIsUp s v k = true → intakeOpen s v = true → valeSlow s v = false →
    (macMode s (valeNum v * 8 + k.val) = 0 → cellsOf bs.length ≤ (s.vale v).path.basinFree →
      Completes (.wireFrameStart v k bs) s (fun t =>
        (t.vale v).path.basinFree = (s.vale v).path.basinFree - cellsOf bs.length ∧
        (t.vale v).path.nextPkt = (s.vale v).path.nextPkt + 1 ∧
        (∃ p, tget (t.vale v).path.packets (s.vale v).path.nextPkt = some p ∧ p.bytes = bs ∧ p.srcClass = 0 ∧
          p.srcIndex = valeNum v * 8 + k.val ∧ p.epoch = ingressEpoch s ∧ p.cells = cellsOf bs.length) ∧
        t.mem = s.mem ∧ t.dict = s.dict)) ∧
    (macMode s (valeNum v * 8 + k.val) = 0 → (s.vale v).path.basinFree < cellsOf bs.length →
      exec (.wireFrameStart v k bs) s = .next (count (count s (vkey v 0x3005 (valeNum v * 8 + k.val))) (vkey v 0x3004 0x10))) ∧
    (macMode s (valeNum v * 8 + k.val) ≠ 0 → Completes (.wireFrameStart v k bs) s (fun t =>
      (∃ p, tget (t.vale v).path.packets (s.vale v).path.nextPkt = some p ∧ p.bytes = bs ∧ p.loc = .mac) ∧
      (t.vale v).path.basinFree = (s.vale v).path.basinFree ∧ t.mem = s.mem ∧ t.dict = s.dict))

/-- R78, R80, R97: bytes of a frame join the frame that is arriving and its header cells; a tail that never comes discards it; a MACsec
frame is validated at its tail. -/
def Sys2Proof.Claims.FrameBytesArrive : Prop :=
  (∀ v i bs s, exec (.headerBytesArrive v i bs) s = .next (wakeHeader (appendBytes s v i bs) v i)) ∧
  (∀ v i bs s p, pktAt s v i = some p → p.tail = false → p.discarded = false → p.loc ≠ .mac →
    cellsOf (p.bytes.length + bs.length) - p.cells ≤ (s.vale v).path.basinFree →
    ∃ q, pktAt (appendBytes s v i bs) v i = some q ∧ q.bytes = p.bytes ++ bs) ∧
  (∀ v i bs s p, pktAt s v i = some p → p.tail = false → p.discarded = false → p.loc ≠ .mac → coreOfPkt s v i = none →
    cellsOf (p.bytes.length + bs.length) - p.cells ≤ (s.vale v).path.basinFree →
    Completes (.headerBytesArrive v i bs) s (fun t =>
      (∃ q, pktAt t v i = some q ∧ q.bytes = p.bytes ++ bs ∧
        q.cells = p.cells + (cellsOf (p.bytes.length + bs.length) - p.cells)) ∧
      (t.vale v).path.basinFree = (s.vale v).path.basinFree - (cellsOf (p.bytes.length + bs.length) - p.cells) ∧
      t.mem = s.mem ∧ t.dict = s.dict) ∧
    (numD s (vkey v 0x3003 2) 9216 ≥ (p.bytes ++ bs).length + 4 → Completes (.frameTail v i bs true) s (fun t =>
      (∃ q, pktAt t v i = some q ∧ q.bytes = p.bytes ++ bs ∧ q.tail = true ∧ q.bad = false) ∧ t.mem = s.mem ∧ t.dict = s.dict)) ∧
    (p.loc ≠ .thread → Completes (.frameTail v i bs false) s (fun t => pktAt t v i = none ∧ t.mem = s.mem))) ∧
  (∀ v i bs ok s p, pktAt s v i = some p → p.loc ≠ .mac → exec (.frameTail v i bs ok) s = .next (frameTail s v i bs ok)) ∧
  (∀ v i bs ok s p, pktAt s v i = some p → p.loc = .mac → exec (.frameTail v i bs ok) s = .next (macTail s v i bs ok)) ∧
  (∀ v i s p, pktAt s v i = some p → p.tail = false → p.discarded = false → valeSlow s v = false →
    (p.loc ≠ .thread → exec (.tailTimeout v i) s = .next (dropPkt s v i 0x04) ∧
      Completes (.tailTimeout v i) s (fun t => pktAt t v i = none ∧ t.mem = s.mem)) ∧
    (p.loc = .thread → exec (.tailTimeout v i) s = .next (wakeHeader (setPkt s v i { p with discarded := true }) v i)))

/-- R76, R77: a source whose class has its turn starts its frame under the caps and the floor of free cells, and is charged: a
transmit queue gets the grant its next descriptor starts on, an injection ring's entry and a frame whole at a Saddle region become
packets of class 3 and 2, a recirculated packet may leave its queue. A frame longer than MAX_FRAME is dropped. -/
def Sys2Proof.Claims.IntakeGrants : Prop :=
  (∀ (v : Vale) (src : NwSource) (s : State) c n s1 left, intakeOpen s v = true → valeSlow s v = false →
    0 < (s.vale v).path.nwPps → 0 < (s.vale v).path.nwBytes → numD s (vkey v 0x3002 6) 16384 ≤ (s.vale v).path.basinFree →
    nwStart s v src = some (c, n, s1) → wrrServe (s.vale v).path.nwLeft (nwWeight s v) (nwWaiting s v) c = some left →
    exec (.intakeGrant v src) s = .next (dropLong (s1.modPath v (fun x =>
      { x with nwLeft := left, nwPps := x.nwPps - 1000, nwBytes := x.nwBytes - n })) v (s.vale v).path.nextPkt)) ∧
  (∀ (v : Vale) (s : State) left, intakeOpen s v = true → valeSlow s v = false →
    0 < (s.vale v).path.nwPps → 0 < (s.vale v).path.nwBytes → numD s (vkey v 0x3002 6) 16384 ≤ (s.vale v).path.basinFree →
    (∀ c q, ctxOf s c = some q → txAsks s v q = true →
      wrrServe (s.vale v).path.nwLeft (nwWeight s v) (nwWaiting s v) 0 = some left → pktAt s v (s.vale v).path.nextPkt = none →
      Completes (.intakeGrant v (.host c)) s (fun t => (t.vale v).path = { (s.vale v).path with
        hostGrant := true, nwLeft := left, nwPps := (s.vale v).path.nwPps - 1000 } ∧ t.qe = s.qe ∧ t.mem = s.mem ∧
        t.dict = s.dict)) ∧
    (∀ c, (s.vale v).path.recircGrant = false → choosePacket s v 14 = some c →
      wrrServe (s.vale v).path.nwLeft (nwWeight s v) (nwWaiting s v) 3 = some left → pktAt s v (s.vale v).path.nextPkt = none →
      Completes (.intakeGrant v .recirc) s (fun t => (t.vale v).path.recircGrant = true ∧ (t.vale v).path.nwLeft = left ∧
        (t.vale v).path.packets = (s.vale v).path.packets ∧ (t.vale v).tm = (s.vale v).tm ∧ t.mem = s.mem ∧ t.dict = s.dict)) ∧
    (∀ q : Fin 64, injVale q = v → (sringOf s (injRing q)).presented = true → (sringOf s (injRing q)).en = true →
      wrrServe (s.vale v).path.nwLeft (nwWeight s v) (nwWaiting s v) 2 = some left →
      tooLong s v (readInt s (sringSlotAt (sringOf s (injRing q)) (sringOf s (injRing q)).cons + 16)
        (injEntry s (sringOf s (injRing q))).1).length = false →
      Completes (.intakeGrant v (.steppe q)) s (fun t =>
        (∃ p, pktAt t v (s.vale v).path.nextPkt = some p ∧ p.srcClass = 3 ∧ p.srcIndex = q.val ∧ p.tail = true ∧
          p.bytes = readInt s (sringSlotAt (sringOf s (injRing q)) (sringOf s (injRing q)).cons + 16)
            (injEntry s (sringOf s (injRing q))).1 ∧ p.preset = (injEntry s (sringOf s (injRing q))).2) ∧
        (sringOf t (injRing q)).cons = ((sringOf s (injRing q)).cons + 1) % 65536 ∧
        (sringOf t (injRing q)).presented = false ∧ t.mem = s.mem)) ∧
    (∀ (r : Fin 64) x f rest, regionOf s r = some x → rgVale x.conf = v → x.apWait = f :: rest → regionOpen x = true →
      wrrServe (s.vale v).path.nwLeft (nwWeight s v) (nwWaiting s v) 1 = some left → tooLong s v f.length = false →
      Completes (.intakeGrant v (.saddle r)) s (fun t =>
        (∃ p, pktAt t v (s.vale v).path.nextPkt = some p ∧ p.srcClass = 2 ∧ p.srcIndex = r.val ∧ p.bytes = f ∧
          p.preset = rgOwner x.conf) ∧
        (∃ y, regionOf t r = some y ∧ y.apWait = rest ∧ y.credit = (x.credit + 1) % 65536) ∧ t.mem = s.mem)))

/-- R79, R113: the oldest packet of a pool that has a thread free starts on the next slot that offers one, at the packet entry of its
program bank. -/
def Sys2Proof.Claims.DistributorStarts : Prop :=
  ∀ (v : Vale) (p : Pool) (s : State) i k n t bank q, (s.vale v).col.held = false → s.err.failStop = false →
    poolHead s v p = some i → nextOffer (s.vale v).col = some (k, n, t) → pktAt s v i = some q → poolHasThread s v p = true →
    packetBank s v q.epoch n = some bank → (distTurn s v p).isSome →
    Completes (.distribute v p) s (fun u =>
      (u.vale v).col.ring = k ∧ (threadOf (coreAt u v n) t).pkt = some i ∧ (threadOf (coreAt u v n) t).bank = bank ∧
      (threadOf (coreAt u v n) t).pc = ((bankOf (coreAt s v n) bank).getD {}).packetEntry ∧
      (∃ x, pktAt u v i = some x ∧ x.loc = .thread ∧ x.pool = some p ∧ x.preset = presetOf s v q) ∧ u.mem = s.mem)

/-- R99, R101, R107: a header wait at its limit faults with HDR_WAIT at the lowest offset still Pending, a table wait with TBL_WAIT; a
table result resumes the thread that waits for it with its registers and Z; the watchdog ends the family with reason 0x03 and tells the
supervisor; a store-buffer entry drains. -/
def Sys2Proof.Claims.ThreadWaits : Prop :=
  (∀ th s, (thrAt s th).st = .waitHeader → valeSlow s th.v = false → exec (.hdrWaitLimit th) s =
    .next (colFault s th .hdrWait (lowestIn (pktOf s th) (thrAt s th).wait.addr (thrAt s th).wait.n .pending)) ∧
    ∀ i, (thrAt s th).pkt = some i → Completes (.hdrWaitLimit th) s (fun t => pktAt t th.v i = none ∧
      (∀ k : Fin 8, (threadOf (coreAt t th.v th.core) k).pkt ≠ some i) ∧ t.mem = s.mem)) ∧
  (∀ th s, (thrAt s th).st = .waitTable → valeSlow s th.v = false → exec (.tblWaitLimit th) s = .next (colFault s th .tblWait 0) ∧
    ∀ i, (thrAt s th).pkt = some i → Completes (.tblWaitLimit th) s (fun t => pktAt t th.v i = none ∧
      (∀ k : Fin 8, (threadOf (coreAt t th.v th.core) k).pkt ≠ some i) ∧ t.mem = s.mem)) ∧
  (∀ th s, (thrAt s th).st = .waitTable →
    let w := (thrAt s th).wait
    (∀ r, tlkResult (tlkExt s th.v w.part w.key) th.v w.part w.key = some r → Completes (.tableResultReturn th) s (fun t =>
      thrAt t th = { putR (putR (thrAt s th) w.a ((r.extractLsb' 32 32).zeroExtend 36)) (w.a + 1)
        ((r.extractLsb' 0 32).zeroExtend 36) with st := .running, z := false, pc := (thrAt s th).pc + 1 } ∧ t.mem = s.mem)) ∧
    (tlkResult (tlkExt s th.v w.part w.key) th.v w.part w.key = none → Completes (.tableResultReturn th) s (fun t =>
      thrAt t th = { putR (putR (thrAt s th) w.a 0) (w.a + 1) 0 with st := .running, z := true, pc := (thrAt s th).pc + 1 } ∧
      t.mem = s.mem))) ∧
  (∀ v i s n t, coreOfPkt s v i = some n →
    (familyOf (coreAt s v n) i).find? (fun u => decide ((threadOf (coreAt s v n) u).parent = none)) = some t →
    (threadOf (coreAt s v n) t).st ≠ .releasing → valeSlow s v = false →
    exec (.watchdog v i) s = .next (pushNote (endFamily s v n i 0x03) v n
      (noteWords 2 t 0 (threadOf (coreAt s v n) t).pc ((pktAt s v i).getD {}) (watchState (threadOf (coreAt s v n) t).st))) ∧
    Completes (.watchdog v i) s (fun u => pktAt u v i = none ∧ (∀ k : Fin 8, (threadOf (coreAt u v n) k).pkt ≠ some i) ∧
      u.mem = s.mem)) ∧
  (∀ th s e es, (thrAt s th).sb = e :: es → Completes (.storeDrain th) s (fun t => (thrAt t th).sb = es ∧
    (e.toRec = false → tgetD (coreAt t th.v th.core).dmem e.addr 0 = mergeStore (tgetD (coreAt s th.v th.core).dmem e.addr 0) e ∧
      ∀ j, j ≠ e.addr → tgetD (coreAt t th.v th.core).dmem j 0 = tgetD (coreAt s th.v th.core).dmem j 0) ∧ t.mem = s.mem))

/-- R80, R83, R101, R111: a thread in Releasing whose packet is the oldest of its chain forwards it directly and becomes Free; another
takes one of the 1,024 release-buffer entries; a frame whose tail is lost is dropped with 0x04. Narrows forwards up to two records, a
stale TENANCY being dropped with 0x06. -/
def Sys2Proof.Claims.ReleaseAndForward : Prop :=
  (∀ th s i p, (thrAt s th).st = .releasing → (thrAt s th).pkt = some i → pktAt s th.v i = some p → p.discarded = true →
    Completes (.releaseBufferEntry th) s (fun t => pktAt t th.v i = none ∧ (thrAt t th).st = .free ∧ t.mem = s.mem)) ∧
  (∀ th s i p, (thrAt s th).st = .releasing → (thrAt s th).pkt = some i → pktAt s th.v i = some p → p.discarded = false →
    oldestOfChain s th.v i = true → releasingThr s th.v i = some th → s.err.failStop = false →
    (s.vale th.v).path.outOfService = false → tenFresh s (pktTen p) = true →
    Completes (.releaseBufferEntry th) s (fun t => (thrAt t th).st = .free ∧ (thrAt t th).pkt = none ∧
      (∃ q, pktAt t th.v i = some q ∧ q.token = none ∧ q.bytes = p.bytes ∧ q.pool = none ∧
        q.loc = (if recBits (clearOdd (oddMask s th.v p) p) 5 34 1 = 1 then .punt else .stage 0)) ∧ t.mem = s.mem)) ∧
  (∀ th s i p, (thrAt s th).st = .releasing → (thrAt s th).pkt = some i → pktAt s th.v i = some p → p.discarded = false →
    oldestOfChain s th.v i = true → s.err.failStop = true ∨ (s.vale th.v).path.outOfService = true →
    exec (.releaseBufferEntry th) s = .next s) ∧
  (∀ th s i p, (thrAt s th).st = .releasing → (thrAt s th).pkt = some i → pktAt s th.v i = some p → p.discarded = false →
    oldestOfChain s th.v i = false → relbufUse s th.v < 1024 →
    Completes (.releaseBufferEntry th) s (fun t => (thrAt t th).st = .free ∧ (thrAt t th).pkt = none ∧
      pktAt t th.v i = some { p with loc := .relbuf, pool := none } ∧
      (t.vale th.v).path.relPeak = max (s.vale th.v).path.relPeak (relbufUse s th.v + 1) ∧ t.mem = s.mem)) ∧
  (∀ th s i, (thrAt s th).st = .releasing → (thrAt s th).pkt = some i → (pktAt s th.v i).any (·.discarded) = false →
    oldestOfChain s th.v i = false → 1024 ≤ relbufUse s th.v → exec (.releaseBufferEntry th) s = .next s) ∧
  (∀ v s, s.err.failStop = false → (s.vale v).path.outOfService = false →
    exec (.narrowsForward v) s = .next (forwardOne (forwardOne s v) v)) ∧
  (∀ v s i p, s.err.failStop = false → (s.vale v).path.outOfService = false → forwardNext s v = some i →
    forwardNext (forwardOne s v) v = none → pktAt s v i = some p → releasingThr s v i = none → p.discarded = false →
    (tenFresh s (pktTen p) = false → Completes (.narrowsForward v) s (fun t => pktAt t v i = none ∧ t.mem = s.mem)) ∧
    (tenFresh s (pktTen p) = true → Completes (.narrowsForward v) s (fun t => (∃ q, pktAt t v i = some q ∧ q.token = none ∧
      q.bytes = p.bytes ∧ q.loc = (if recBits (clearOdd (oddMask s v p) p) 5 34 1 = 1 then .punt else .stage 0)) ∧
      t.mem = s.mem)))

/-- R173, R384, R385: an injection entry is presented or skipped; a whole punted packet goes into the punt ring of its tenancy for one
token, and is dropped when it is bad, stale, or without a token. -/
def Sys2Proof.Claims.PuntAndInjection : Prop :=
  (∀ (q : Fin 64) s, (sringOf s (1152 + q.val)).en = true → sringHeld (sringOf s (1152 + q.val)) ≠ 0 →
    (sringOf s (1152 + q.val)).presented = false → s.err.failStop = false →
    14 ≤ (injEntry s (sringOf s (1152 + q.val))).1 → (injEntry s (sringOf s (1152 + q.val))).1 ≤ 15996 →
    16 + (injEntry s (sringOf s (1152 + q.val))).1 ≤ sringSlotBytes (sringOf s (1152 + q.val)) →
    tenFresh s (injEntry s (sringOf s (1152 + q.val))).2 = true →
    exec (.injectionTake q) s = .next (setSring s (1152 + q.val) { sringOf s (1152 + q.val) with presented := true })) ∧
  (∀ v s i p, oldestAt s v .punt = some i → pktAt s v i = some p → s.err.failStop = false →
    (p.bad = true → exec (.puntDeliver v) s = .next (dropPkt s v i 0x05)) ∧
    (p.bad = false → p.discarded = true → exec (.puntDeliver v) s = .next (dropPkt s v i 0x04)) ∧
    (p.bad = false → p.discarded = false → p.tail = true → tenFresh s (pktTen p) = false →
      exec (.puntDeliver v) s = .next (dropPkt s v i 0x06)) ∧
    (p.bad = false → p.discarded = false → p.tail = true → pktTen p = 0 →
      token ≤ tgetD (s.vale v).stage.puntTokens 256 (256 * token) →
      sringFull (sringOf s (valeNum v * 257 + 256)) = false → Completes (.puntDeliver v) s (fun t =>
        pktAt t v i = none ∧ (sringOf t (valeNum v * 257 + 256)).prod = ((sringOf s (valeNum v * 257 + 256)).prod + 1) % 65536 ∧
        readInt t (sringSlotAt (sringOf s (valeNum v * 257 + 256)) (sringOf s (valeNum v * 257 + 256)).prod)
          (min (sringSlotBytes (sringOf s (valeNum v * 257 + 256))) (puntEntry p).length) =
            (puntEntry p).take (sringSlotBytes (sringOf s (valeNum v * 257 + 256))) ∧
        tgetD (t.vale v).stage.puntTokens 256 0 + token = tgetD (s.vale v).stage.puntTokens 256 (256 * token) ∧
        (quadRetired s ((irqRoute s (sringOf s (valeNum v * 257 + 256)).irq).1 / 4) = false → t.dict = s.dict))))

/-- Every part holds: PortsAndLinks, FrameStarts, FrameBytesArrive. -/
def Obligations.IngressFrames : Prop :=
  Claims.PortsAndLinks ∧ Claims.FrameStarts ∧ Claims.FrameBytesArrive

/-- Every part holds: IntakeGrants, PuntAndInjection. -/
def Obligations.IntakeAndPunt : Prop :=
  Claims.IntakeGrants ∧ Claims.PuntAndInjection

/-- Every part holds: DistributorStarts, ThreadWaits, ReleaseAndForward. -/
def Obligations.CoreService : Prop :=
  Claims.DistributorStarts ∧ Claims.ThreadWaits ∧ Claims.ReleaseAndForward


/-! ### Chapter 5: Col instructions -/

namespace Sys2Proof.Machine

/-- A thread that issues the instruction: Running, clocked, its program counter within instruction memory (R106), and the word there
is this instruction's. -/
def CanIssue (th : Thr) (i : Instr) (s : State) : Prop :=
  (thrAt s th).st = .running ∧ ladderRuns s = true ∧ (thrAt s th).pc < 16384 ∧ colInstr th (fetched s th) = i

/-- At most one thread differs: every other thread, the data memories, packets, tables, queues, dictionary and memory are the same. -/
def OnlyThread (s t : State) (th : Thr) : Prop :=
  (∀ u, u ≠ th → thrAt t u = thrAt s u) ∧ (∀ v n, (coreAt t v n).dmem = (coreAt s v n).dmem ∧ (coreAt t v n).st = (coreAt s v n).st) ∧
  (∀ v, (t.vale v).path = (s.vale v).path ∧ (t.vale v).stage = (s.vale v).stage ∧ (t.vale v).table = (s.vale v).table ∧
    (t.vale v).tm = (s.vale v).tm) ∧
  t.dict = s.dict ∧ t.mem = s.mem ∧ t.hmem = s.hmem ∧ t.err = s.err ∧ t.resp = s.resp ∧ t.pending = s.pending

/-- An instruction that completes on every thread that issues, changing its thread by `f` and nothing else. -/
def Runs (c : Thr → Instr) (f : Thread → Thread) : Prop :=
  ∀ th s, CanIssue th (c th) s → Completes (c th) s (fun t => thrAt t th = f (thrAt s th) ∧ OnlyThread s t th)

/-- The thread with w[A] = r, Z and N of r, and the next instruction. -/
def withZn (a : BitVec 4) (r : Thread → Word36) (x : Thread) : Thread :=
  { putR x a (r x) with pc := x.pc + 1, z := decide (r x = 0), n := (r x).msb }

/-- The signed sum or difference does not fit in 36 bits. -/
def overflows (i : Int) : Bool := decide (i < -(2 ^ 35)) || decide (2 ^ 35 ≤ i)

/-- The thread with w[A] = p + q and the flags of the sum. -/
def withSum (a : BitVec 4) (p q : Thread → Word36) (x : Thread) : Thread :=
  { putR x a (p x + q x) with
    pc := x.pc + 1, z := decide (p x + q x = 0), n := (p x + q x).msb
    c := decide (2 ^ 36 ≤ (p x).toNat + (q x).toNat), v := overflows ((p x).toInt + (q x).toInt) }

/-- The thread with the flags of p - q: C is the borrow. -/
def withDiff (p q : Thread → Word36) (x : Thread) : Thread :=
  { x with
    pc := x.pc + 1, z := decide (p x = q x), n := (p x - q x).msb
    c := decide ((p x).toNat < (q x).toNat), v := overflows ((p x).toInt - (q x).toInt) }

/-- Shifts by k: zeros, or the sign, when k is 36 or more. -/
def shiftL (w : Word36) (k : Nat) : Word36 := BitVec.ofNat 36 (w.toNat * 2 ^ k)
def shiftR (w : Word36) (k : Nat) : Word36 := BitVec.ofNat 36 (w.toNat / 2 ^ k)
def shiftA (w : Word36) (k : Nat) : Word36 := BitVec.ofInt 36 (w.toInt / 2 ^ k)

end Sys2Proof.Machine

/-- R132, R135: the register forms of arithmetic, logic, shifts, compares and moves: result, flags, the next instruction, and nothing
else changed. -/
def Obligations.RegisterInstructions : Prop :=
  ∀ a b c : BitVec 4,
    Runs (.add · a b c) (withSum a (getR · b) (getR · c)) ∧
    Runs (.sub · a b c) (fun x => { withDiff (getR · b) (getR · c) x with regs := (putR x a (getR x b - getR x c)).regs }) ∧
    Runs (.and_ · a b c) (withZn a (fun x => getR x b &&& getR x c)) ∧
    Runs (.or_ · a b c) (withZn a (fun x => getR x b ||| getR x c)) ∧
    Runs (.xor · a b c) (withZn a (fun x => getR x b ^^^ getR x c)) ∧
    Runs (.shl · a b c) (withZn a (fun x => shiftL (getR x b) ((getR x c).toNat % 64))) ∧
    Runs (.shr · a b c) (withZn a (fun x => shiftR (getR x b) ((getR x c).toNat % 64))) ∧
    Runs (.sar · a b c) (withZn a (fun x => shiftA (getR x b) ((getR x c).toNat % 64))) ∧
    Runs (.minu · a b c) (withZn a (fun x => BitVec.ofNat 36 (min (getR x b).toNat (getR x c).toNat))) ∧
    Runs (.maxu · a b c) (withZn a (fun x => BitVec.ofNat 36 (max (getR x b).toNat (getR x c).toNat))) ∧
    Runs (.cmp · b c) (withDiff (getR · b) (getR · c)) ∧
    Runs (.tst · b c) (fun x => { withZn a (fun y => getR y b &&& getR y c) x with regs := x.regs }) ∧
    Runs (.mul · a b c) (withZn a (fun x => BitVec.ofNat 36 ((getR x b).toNat * (getR x c).toNat))) ∧
    Runs (.mov · a b) (fun x => { putR x a (getR x b) with pc := x.pc + 1 })

/-- R136: the immediate forms; sext(D) and zext(D). -/
def Sys2Proof.Claims.ImmediateInstructions : Prop :=
  ∀ (a b : BitVec 4) (d : BitVec 18),
    Runs (.addi · a b d) (withSum a (getR · b) (fun _ => BitVec.ofInt 36 d.toInt)) ∧
    Runs (.andi · a b d) (withZn a (fun x => getR x b &&& BitVec.ofNat 36 d.toNat)) ∧
    Runs (.ori · a b d) (withZn a (fun x => getR x b ||| BitVec.ofNat 36 d.toNat)) ∧
    Runs (.xori · a b d) (withZn a (fun x => getR x b ^^^ BitVec.ofNat 36 d.toNat)) ∧
    Runs (.shli · a b d) (withZn a (fun x => shiftL (getR x b) (d.toNat % 64))) ∧
    Runs (.shri · a b d) (withZn a (fun x => shiftR (getR x b) (d.toNat % 64))) ∧
    Runs (.sari · a b d) (withZn a (fun x => shiftA (getR x b) (d.toNat % 64))) ∧
    Runs (.cmpi · b d) (withDiff (getR · b) (fun _ => BitVec.ofInt 36 d.toInt)) ∧
    Runs (.mvi · a d) (fun x => { putR x a (BitVec.ofInt 36 d.toInt) with pc := x.pc + 1 }) ∧
    Runs (.lui · a d) (fun x => { putR x a (BitVec.ofNat 36 (d.toNat * 2 ^ 18)) with pc := x.pc + 1 }) ∧
    Runs (.tsti · b d) (fun x => { withZn a (fun y => getR y b &&& BitVec.ofNat 36 d.toNat) x with regs := x.regs })

/-- R135, R136: bit fields, PACK, UNPK and CRC: EXT and INS on a field of 1 to 36 bits within the word; outside it they fault with
ILLEGAL. -/
def Sys2Proof.Claims.FieldInstructions : Prop :=
  (∀ (a b : BitVec 4) (d : BitVec 18), d.toNat % 64 ≠ 0 → d.toNat / 64 % 64 + d.toNat % 64 ≤ 36 →
    Runs (.ext · a b d) (withZn a (fun x => BitVec.ofNat 36 ((getR x b).toNat / 2 ^ (d.toNat / 64 % 64) % 2 ^ (d.toNat % 64)))) ∧
    ∀ th s, CanIssue th (.ins th a b d) s → Completes (.ins th a b d) s (fun t => OnlyThread s t th ∧ (thrAt t th).pc = (thrAt s th).pc + 1 ∧
      (∀ r, r ≠ a → getR (thrAt t th) r = getR (thrAt s th) r) ∧ (thrAt t th).z = (thrAt s th).z ∧
      ∀ i, i < 36 → (getR (thrAt t th) a).getLsbD i =
        if d.toNat / 64 % 64 ≤ i ∧ i < d.toNat / 64 % 64 + d.toNat % 64 then (getR (thrAt s th) b).getLsbD (i - d.toNat / 64 % 64)
        else (getR (thrAt s th) a).getLsbD i)) ∧
  (∀ th (a b : BitVec 4) (d : BitVec 18) s, d.toNat % 64 = 0 ∨ 36 < d.toNat / 64 % 64 + d.toNat % 64 →
    ∀ i ∈ [Instr.ext th a b d, .ins th a b d], CanIssue th i s → exec i s = .next (colFault s th .illegal 0)) ∧
  (∀ a b : BitVec 4, Runs (.pack · a b) (fun x =>
    let w := (getR x b).toNat
    let r : Word36 := BitVec.ofNat 36 (w / 2 ^ 27 % 256 * 2 ^ 24 + w / 2 ^ 18 % 256 * 2 ^ 16 + w / 2 ^ 9 % 256 * 2 ^ 8 + w % 256)
    { putR x a r with
      pc := x.pc + 1, z := decide (r = 0)
      m := decide (w / 2 ^ 35 % 2 = 1) || decide (w / 2 ^ 26 % 2 = 1) || decide (w / 2 ^ 17 % 2 = 1) || decide (w / 2 ^ 8 % 2 = 1) })) ∧
  (∀ a b : BitVec 4, Runs (.unpk · a b) (fun x =>
    let w := (getR x b).toNat
    { putR x a (BitVec.ofNat 36 (w / 2 ^ 24 % 256 * 2 ^ 27 + w / 2 ^ 16 % 256 * 2 ^ 18 + w / 2 ^ 8 % 256 * 2 ^ 9 + w % 256)) with
      pc := x.pc + 1 })) ∧
  (∀ a b c : BitVec 4, Runs (.crc · a b c) (fun x =>
    { putR x a (BitVec.ofNat 36 (crcBytes (BitVec.ofNat 32 (getR x b).toNat) (beBytes 4 ((getR x c).toNat % 2 ^ 32))).toNat) with
      pc := x.pc + 1 }))

/-- R133, R139: branches on the conditions of field A, compare and branch, call, jumps and NOP. -/
def Obligations.FlowInstructions : Prop :=
  ∀ (a b c : BitVec 4) (d : BitVec 18),
    Runs (.br · a d) (fun x =>
      let s := x.n != x.v
      { x with pc := if [true, x.z, !x.z, x.c, !x.c, s, !s, x.z || s, !x.z && !s, x.n, !x.n, x.v, x.m, !x.m, x.e, !x.e].getD a.toNat false
                     then d.toNat % 2 ^ 14 else x.pc + 1 }) ∧
    Runs (.cbeq · b c d) (fun x => { x with pc := if getR x b = getR x c then d.toNat % 2 ^ 14 else x.pc + 1 }) ∧
    Runs (.cbne · b c d) (fun x => { x with pc := if getR x b = getR x c then x.pc + 1 else d.toNat % 2 ^ 14 }) ∧
    Runs (.call · a d) (fun x => { putR x a (BitVec.ofNat 36 (x.pc + 1)) with pc := d.toNat % 2 ^ 14 }) ∧
    Runs (.jr · b) (fun x => { x with pc := (getR x b).toNat }) ∧
    Runs (.jtab · b c d) (fun x =>
      { x with pc := if (getR x b).toNat ≤ c.toNat then d.toNat % 2 ^ 14 + (getR x b).toNat else x.pc + 1 }) ∧
    Runs (.nop ·) (fun x => { x with pc := x.pc + 1 })

/-- R99, R100, R138: an ordinary header load faults on an Ended nonet, waits on a Pending one and otherwise completes; a probe load
completes in every case and sets M and E. Both fault beyond offset 511. -/
def Sys2Proof.Claims.HeaderLoads : Prop :=
  ∀ (th : Thr) (a b c : BitVec 4) (d : BitVec 18) (s : State), th.t.val ≠ 0 →
    let n := c.toNat / 4 + 1
    let o := (getR (thrAt s th) b).toNat + d.toNat
    let cs := (List.range n).map (fun i => nonetCond (pktOf s th) (o + i))
    (CanIssue th (.ldh th a b c d) s → o + n ≤ 512 → .ended ∉ cs → .pending ∉ cs → Completes (.ldh th a b c d) s (fun t => OnlyThread s t th ∧
      thrAt t th = { putR (thrAt s th) a (hdrValue cs (c.getLsbD 1)) with pc := (thrAt s th).pc + 1 })) ∧
    (CanIssue th (.ldh th a b c d) s → o + n ≤ 512 → .ended ∉ cs → .pending ∈ cs → Completes (.ldh th a b c d) s (fun t => OnlyThread s t th ∧
      (thrAt t th).st = .waitHeader ∧ (thrAt t th).pc = (thrAt s th).pc ∧ (thrAt t th).regs = (thrAt s th).regs)) ∧
    (CanIssue th (.ldh th a b c d) s → o + n ≤ 512 → .ended ∈ cs → exec (.ldh th a b c d) s = .next (colFault s th .hdrEnd (lowestIn (pktOf s th) o n .ended))) ∧
    (512 < o + n → ∀ i ∈ [Instr.ldh th a b c d, .prb th a b c d], CanIssue th i s →
      exec i s = .next (colFault s th .hdrRange o)) ∧
    (CanIssue th (.prb th a b c d) s → o + n ≤ 512 → Completes (.prb th a b c d) s (fun t => OnlyThread s t th ∧
      thrAt t th = { putR (thrAt s th) a (hdrValue cs (c.getLsbD 1)) with
        pc := (thrAt s th).pc + 1, m := decide (.ended ∈ cs ∨ .pending ∈ cs), e := decide (.ended ∈ cs) }))

/-- R81, R137, R144, R145: record and data loads see the thread's own buffered stores; stores enter its store buffer; RBS and RBC are
whole-word stores; XADD adds atomically once the buffer has drained; FENCE drains the buffer. -/
def Sys2Proof.Claims.RecordAndDataMemory : Prop :=
  (∀ th a b d s, CanIssue th (.ldr th a b d) s → th.t.val ≠ 0 → (getR (thrAt s th) b).toNat + d.toNat ≤ 63 →
    Completes (.ldr th a b d) s (fun t => OnlyThread s t th ∧
      thrAt t th = { putR (thrAt s th) a (loadRec s th ((getR (thrAt s th) b).toNat + d.toNat)) with pc := (thrAt s th).pc + 1 })) ∧
  (∀ s th i, ((thrAt s th).sb = [] → loadRec s th i = recAt (pktOf s th) i) ∧
    (∀ es e, (thrAt s th).sb = es ++ [e] → e.toRec = true → e.addr = i → e.first = 0 → e.count = 4 → loadRec s th i = e.val)) ∧
  (∀ th a b d s, CanIssue th (.str th a b d) s → th.t.val ≠ 0 → (getR (thrAt s th) b).toNat + d.toNat ≤ 63 →
    recNotOwned s th ((getR (thrAt s th) b).toNat + d.toNat) = false → (thrAt s th).sb.length < 4 →
    Completes (.str th a b d) s (fun t => (thrAt t th).pc = (thrAt s th).pc + 1 ∧ (thrAt t th).regs = (thrAt s th).regs ∧
      t.mem = s.mem ∧ (thrAt t th).sb = (thrAt s th).sb ++ [{ toRec := true, addr := (getR (thrAt s th) b).toNat + d.toNat
                                                              val := storeMasked ((getR (thrAt s th) b).toNat + d.toNat)
                                                                (recAt (pktOf s th) ((getR (thrAt s th) b).toNat + d.toNat))
                                                                (getR (thrAt s th) a) }])) ∧
  (∀ th d s, th.t.val ≠ 0 → d.toNat % 64 ≤ 35 → recNotOwned s th (d.toNat / 64 % 64) = false →
    (thrAt s th).sb.length < 4 →
    (CanIssue th (.rbs th d) s → Completes (.rbs th d) s (fun t => (thrAt t th).pc = (thrAt s th).pc + 1 ∧ t.mem = s.mem ∧ ∃ w,
      (thrAt t th).sb = (thrAt s th).sb ++ [{ toRec := true, addr := d.toNat / 64 % 64, val := w }] ∧
      w = storeMasked (d.toNat / 64 % 64) (recAt (pktOf s th) (d.toNat / 64 % 64))
        (loadRec s th (d.toNat / 64 % 64) ||| (1#36 <<< (d.toNat % 64))))) ∧
    (CanIssue th (.rbc th d) s → Completes (.rbc th d) s (fun t => (thrAt t th).pc = (thrAt s th).pc + 1 ∧ t.mem = s.mem ∧ ∃ w,
      (thrAt t th).sb = (thrAt s th).sb ++ [{ toRec := true, addr := d.toNat / 64 % 64, val := w }] ∧
      w = storeMasked (d.toNat / 64 % 64) (recAt (pktOf s th) (d.toNat / 64 % 64))
        (loadRec s th (d.toNat / 64 % 64) &&& ~~~ (1#36 <<< (d.toNat % 64)))))) ∧
  (∀ th a b (c : BitVec 4) d s, c.toNat / 4 + c.toNat % 4 ≤ 3 → (getR (thrAt s th) b).toNat + d.toNat ≤ 8191 →
    (CanIssue th (.ldd th a b c d) s → (thrAt s th).sb = [] → Completes (.ldd th a b c d) s (fun t => OnlyThread s t th ∧
      thrAt t th = { putR (thrAt s th) a (BitVec.ofNat 36
        ((tgetD (coreAt s th.v th.core).dmem ((getR (thrAt s th) b).toNat + d.toNat) 0).toNat
          / 2 ^ (9 * (3 - c.toNat / 4 - c.toNat % 4)) % 2 ^ (9 * (c.toNat / 4 + 1)))) with pc := (thrAt s th).pc + 1 })) ∧
    (CanIssue th (.std th a b c d) s → (thrAt s th).sb.length < 4 → Completes (.std th a b c d) s (fun t => OnlyThread s t th ∧
      (thrAt t th).pc = (thrAt s th).pc + 1 ∧ (thrAt t th).regs = (thrAt s th).regs ∧
      (thrAt t th).sb = (thrAt s th).sb ++ [{ toRec := false, addr := (getR (thrAt s th) b).toNat + d.toNat, first := c.toNat % 4
                                              count := c.toNat / 4 + 1
                                              val := getR (thrAt s th) a <<< (9 * (3 - c.toNat / 4 - c.toNat % 4)) }]))) ∧
  (∀ th a b (c : BitVec 4) d s, CanIssue th (.xadd th a b c d) s → (getR (thrAt s th) b).toNat + d.toNat ≤ 8191 → (thrAt s th).sb = [] →
    Completes (.xadd th a b c d) s (fun t =>
      let o := (getR (thrAt s th) b).toNat + d.toNat
      let old := tgetD (coreAt s th.v th.core).dmem o 0
      thrAt t th = { putR (thrAt s th) a old with pc := (thrAt s th).pc + 1 } ∧
      tgetD (coreAt t th.v th.core).dmem o 0 = old + getR (thrAt s th) c ∧
      (∀ j, j ≠ o → tgetD (coreAt t th.v th.core).dmem j 0 = tgetD (coreAt s th.v th.core).dmem j 0) ∧
      (t.vale th.v).path = (s.vale th.v).path ∧ t.mem = s.mem ∧ t.dict = s.dict)) ∧
  (∀ th s, CanIssue th (.fence th) s → Completes (.fence th) s (fun t => (thrAt t th).sb = [] ∧ (thrAt t th).regs = (thrAt s th).regs ∧
    (thrAt t th).pc = (thrAt s th).pc + 1 ∧ t.mem = s.mem))

/-- R101, R103-R105, R140: FORK starts a child with the parent's registers and its grant, or sets Z when none is free; JOIN, RELEASE and
END wait for children, release and end; TLK waits for its table result. -/
def Obligations.FamilyInstructions : Prop :=
  (∀ th a b c d s k, CanIssue th (.fork th a b c d) s → th.t.val ≠ 0 → isChild s th = false →
    16 ≤ (getR (thrAt s th) b).toNat → (getR (thrAt s th) b).toNat + c.toNat + 1 ≤ 64 →
    grantOverlaps s th (getR (thrAt s th) b).toNat (c.toNat + 1) = false → (thrAt s th).sb = [] →
    (childrenOf (coreAt s th.v th.core) th.t).length < 3 → forkHasShare s th = true →
    findFreeThread (coreAt s th.v th.core) = some k →
    Completes (.fork th a b c d) s (fun t =>
      thrAt t th = { putR (thrAt s th) a (BitVec.ofNat 36 k) with pc := (thrAt s th).pc + 1, z := false } ∧
      (threadOf (coreAt t th.v th.core) k).pkt = (thrAt s th).pkt ∧ (threadOf (coreAt t th.v th.core) k).st = .running ∧
      (threadOf (coreAt t th.v th.core) k).pc = d.toNat % 2 ^ 14 ∧ (threadOf (coreAt t th.v th.core) k).parent = some th.t.val ∧
      (threadOf (coreAt t th.v th.core) k).grant = some ((getR (thrAt s th) b).toNat, c.toNat + 1) ∧
      (threadOf (coreAt t th.v th.core) k).regs = (putR (thrAt s th) a 0).regs ∧ t.mem = s.mem ∧ t.dict = s.dict)) ∧
  (∀ th a b c d s, CanIssue th (.fork th a b c d) s → th.t.val ≠ 0 → isChild s th = false →
    16 ≤ (getR (thrAt s th) b).toNat → (getR (thrAt s th) b).toNat + c.toNat + 1 ≤ 64 →
    grantOverlaps s th (getR (thrAt s th) b).toNat (c.toNat + 1) = false → (thrAt s th).sb = [] →
    (3 ≤ (childrenOf (coreAt s th.v th.core) th.t).length ∨ forkHasShare s th = false ∨
      findFreeThread (coreAt s th.v th.core) = none) →
    exec (.fork th a b c d) s = .next (count (setThr s th { putR (thrAt s th) a 0 with pc := (thrAt s th).pc + 1, z := true })
      (vkey th.v 0x3013 0x40))) ∧
  (∀ th s, CanIssue th (.join th) s → th.t.val ≠ 0 → isChild s th = false →
    (childrenOf (coreAt s th.v th.core) th.t = [] → exec (.join th) s =
      .next (setThr s th { thrAt s th with pc := (thrAt s th).pc + 1 })) ∧
    (childrenOf (coreAt s th.v th.core) th.t ≠ [] → exec (.join th) s =
      .next (setThr s th { thrAt s th with st := .waitJoin false }))) ∧
  (∀ th d s, CanIssue th (.release th d) s → th.t.val ≠ 0 → isChild s th = false →
    (childrenOf (coreAt s th.v th.core) th.t ≠ [] → exec (.release th d) s =
      .next (setThr s th { thrAt s th with st := .waitJoin true, drop := d.getLsbD 0 })) ∧
    (childrenOf (coreAt s th.v th.core) th.t = [] → exec (.release th d) s = .next (doRelease s th (d.getLsbD 0)))) ∧
  (∀ th (d : BitVec 18) s i p, CanIssue th (.release th d) s → th.t.val ≠ 0 → isChild s th = false → childrenOf (coreAt s th.v th.core) th.t = [] →
    (thrAt s th).sb = [] → (thrAt s th).pkt = some i → pktAt s th.v i = some p →
    (p.preset = 0 ∨ pktTen p = p.preset) → p.discarded = false → tenFresh s (pktTen p) = true →
    (d.getLsbD 0 = false → recBits p 5 35 1 ≠ 1 →
      exec (.release th d) s = .next (setThr s th { thrAt s th with st := .releasing })) ∧
    (d.getLsbD 0 = true → Completes (.release th d) s (fun t =>
      pktAt t th.v i = none ∧ (thrAt t th).st = .free ∧ (thrAt t th).pkt = none ∧ t.mem = s.mem))) ∧
  (∀ th s q, CanIssue th (.end_ th) s → th.t.val ≠ 0 → (thrAt s th).parent = some q → exec (.end_ th) s =
    .next (childEnded (setThr (drainAll s th) th (threadEnded (thrAt (drainAll s th) th))) th q) ∧
    Completes (.end_ th) s (fun t => (thrAt t th).st = .free ∧ (thrAt t th).pkt = none ∧ (thrAt t th).parent = none ∧
      t.mem = s.mem)) ∧
  (∀ th (a b c : BitVec 4) (d : BitVec 18) s p, CanIssue th (.tlk th a b c d) s → th.t.val ≠ 0 → a.toNat % 2 = 0 →
    (getR (thrAt s th) b).toNat + c.toNat % 4 ≤ 63 → partAt s th.v (d.toNat % 1024) = some p →
    p.flags % 2 = 1 → (p.owner = 0 ∨ p.owner = (pktOf s th).preset) → 32 * (c.toNat % 4 + 1) = (p.keyWidth + 31) / 32 * 32 →
    Completes (.tlk th a b c d) s (fun t => (thrAt t th).st = .waitTable ∧ (thrAt t th).wait.part = d.toNat % 1024 ∧
      (thrAt t th).wait.a = a ∧ (thrAt t th).pc = (thrAt s th).pc ∧ (thrAt t th).regs = (thrAt s th).regs ∧
      (thrAt t th).sb = [] ∧ t.mem = s.mem))

/-- R106, R119, R130, R505: the first fault that applies in the order of R505 is taken; an undefined encoding faults with ILLEGAL; a fault
of a packet thread ends its family, drops its packet with reason 0x02 and is counted. -/
def Sys2Proof.Claims.ColFaultOrder : Prop :=
  (∀ th w s, CanIssue th (.illegal th w) s → exec (.illegal th w) s = .next (colFault s th .illegal 0) ∧
    ∀ i, (thrAt s th).pkt = some i → Completes (.illegal th w) s (fun t => pktAt t th.v i = none ∧
      (∀ k : Fin 8, (threadOf (coreAt t th.v th.core) k).pkt ≠ some i) ∧ t.mem = s.mem)) ∧
  (∀ s th i fs dt body, (thrAt s th).st = .running → ladderRuns s = true → 16384 ≤ (thrAt s th).pc → (.parity, true) ∉ fs →
    issue s th i fs dt body = colFault s th .imemRange (dt .imemRange)) ∧
  (∀ s th i fs dt body f, CanIssue th i s → (f, true) ∈ fs → (∀ g, (g, true) ∈ fs → faultOrder.idxOf f ≤ faultOrder.idxOf g) →
    f ∈ faultOrder → issue s th i fs dt body = colFault s th f (dt f)) ∧
  (∀ s th f dt i, (thrAt s th).pkt = some i →
    (∀ k : Fin 8, (threadOf (coreAt (colFault s th f dt) th.v th.core) k).pkt ≠ some i) ∧ pktAt (colFault s th f dt) th.v i = none ∧
    (colFault s th f dt).mem = s.mem)

namespace Sys2Proof.Machine

/-- An encoding that R130 and R135 leave undefined: an opcode that the chapter does not list, or for opcode 0o01 a D above 0o20. -/
def undefinedEncoding (w : Word36) : Prop :=
  let op := w.toNat / 2 ^ 30
  (op = 0o01 ∧ 0o20 < w.toNat % 2 ^ 18) ∨ op = 0 ∨ op = 0o17 ∨ (0o45 ≤ op ∧ op ≤ 0o47) ∨ op = 0o53 ∨ op = 0o60 ∨ 0o62 ≤ op

end Sys2Proof.Machine

/-- R129-R131, R135-R141: every instruction reads back from its word, with every operand; the fields of a word lie where R129 puts them;
the undefined encodings are those of R130; a running thread issues the instruction of the word that it fetches and no other. -/
def Sys2Proof.Claims.InstructionWords : Prop :=
  (∀ i th w, colWord i = some (th, w) → colInstr th w = i) ∧
  (∀ th w, ¬ undefinedEncoding w → ∃ w', colWord (colInstr th w) = some (th, w')) ∧
  (∀ th w, undefinedEncoding w → colInstr th w = .illegal th w) ∧
  (∀ th (a b c : BitVec 4) (d : BitVec 18), colWord (.ldh th a b c d) = some (th, BitVec.ofNat 36
    (0o20 * 2 ^ 30 + a.toNat * 2 ^ 26 + b.toNat * 2 ^ 22 + c.toNat * 2 ^ 18 + d.toNat))) ∧
  (∀ s th i fs dt body, (thrAt s th).pc < 16384 → colInstr th (fetched s th) ≠ i → issue s th i fs dt body = s)

/-- Every part holds: ColFaultOrder, InstructionWords. -/
def Obligations.ColFaults : Prop :=
  Claims.ColFaultOrder ∧ Claims.InstructionWords

/-- Every part holds: ImmediateInstructions, FieldInstructions. -/
def Obligations.ImmediateAndFieldInstructions : Prop :=
  Claims.ImmediateInstructions ∧ Claims.FieldInstructions

/-- Every part holds: HeaderLoads, RecordAndDataMemory. -/
def Obligations.MemoryInstructions : Prop :=
  Claims.HeaderLoads ∧ Claims.RecordAndDataMemory


/-! ### Chapter 4 (and R141, R146-R148): supervisors, events, tests, program images -/

/-- R141: a supervisor instruction in a packet thread faults with SUP_ONLY. -/
def Obligations.SupervisorOnly : Prop :=
  ∀ (th : Thr) (a b : BitVec 4) (d : BitVec 18) (s : State), th.t.val ≠ 0 →
    ∀ c ∈ [Instr.mfc th a d, .mtc th b d, .wait th, .npop th a, .ldim th a b d, .stim th a b d, .synci th],
      CanIssue th c s → exec c s = .next (colFault s th .supOnly 0)

/-- R118, R141, R146-R148: the supervisor's instructions: control words, WAIT, notifications, instruction memory and SYNCI. -/
def Sys2Proof.Claims.SupervisorInstructions : Prop :=
  ∀ (th : Thr) (a b : BitVec 4) (d : BitVec 18) (s : State), th.t.val = 0 →
    let c := coreAt s th.v th.core
    let i := d.toNat % 2 ^ 12
    let o := (getR (thrAt s th) b).toNat + d.toNat
    (CanIssue th (.mfc th a d) s → ctlExists i = true → Completes (.mfc th a d) s (fun t =>
      thrAt t th = { putR (thrAt s th) a (BitVec.ofNat 36 (ctlRead s th.v th.core c i)) with pc := (thrAt s th).pc + 1 } ∧
      OnlyThread s t th)) ∧
    (ctlRead s th.v th.core c 0x23 = c.notes.length ∧ ctlRead s th.v th.core c 0x24 = s.time.ns ∧
      ctlRead s th.v th.core c 0x20 = c.latchEd.toNat * 16 + c.latchTmr.toNat ∧
      ctlRead s th.v th.core c 0x22 = valeNum th.v * 2 ^ 35 + th.core.val * 2 ^ 16 + c.slot.getD 127) ∧
    (CanIssue th (.mtc th b d) s → ctlExists i = true → ctlWrite c i (getR (thrAt s th) b).toNat = none → Completes (.mtc th b d) s (fun t =>
      thrAt t th = { thrAt s th with pc := (thrAt s th).pc + 1, v := true } ∧ OnlyThread s t th)) ∧
    (CanIssue th (.mtc th b d) s → i < 4 → bitsOf (getR (thrAt s th) b).toNat 0 32 ≠ 0 → Completes (.mtc th b d) s (fun t =>
      thrAt t th = { thrAt s th with pc := (thrAt s th).pc + 1, v := false } ∧ OnlyThread s t th ∧
      (timerOf (coreAt t th.v th.core) i).period = bitsOf (getR (thrAt s th) b).toNat 0 32)) ∧
    (CanIssue th (.wait th) s → Completes (.wait th) s (fun t =>
      thrAt t th = { thrAt s th with st := .waiting } ∧ OnlyThread s t th)) ∧
    (CanIssue th (.npop th a) s → a.toNat % 4 = 0 → (c.notes = [] → Completes (.npop th a) s (fun t =>
        thrAt t th = { thrAt s th with pc := (thrAt s th).pc + 1, z := true } ∧ OnlyThread s t th)) ∧
      (∀ w0 w1 w2 w3 r, c.notes = [w0, w1, w2, w3] :: r → Completes (.npop th a) s (fun t =>
        (coreAt t th.v th.core).notes = r ∧ (thrAt t th).z = false ∧ (thrAt t th).pc = (thrAt s th).pc + 1 ∧
        getR (thrAt t th) a = w0 ∧ getR (thrAt t th) (a + 1) = w1 ∧ getR (thrAt t th) (a + 2) = w2 ∧
        getR (thrAt t th) (a + 3) = w3 ∧ OnlyThread s t th))) ∧
    (CanIssue th (.ldim th a b d) s → o ≤ 16383 → Completes (.ldim th a b d) s (fun t =>
      thrAt t th = { putR (thrAt s th) a (codeWord c c.supBank o) with pc := (thrAt s th).pc + 1 } ∧ OnlyThread s t th)) ∧
    (CanIssue th (.stim th a b d) s → o ≤ 16383 → c.stimQ.length < 8 → Completes (.stim th a b d) s (fun t =>
      (coreAt t th.v th.core).stimQ = c.stimQ ++ [{ bank := c.supBank, addr := o, val := getR (thrAt s th) a }] ∧
      thrAt t th = { thrAt s th with pc := (thrAt s th).pc + 1 } ∧ OnlyThread s t th)) ∧
    (∀ e, CanIssue th (.synci th) s → (thrAt s th).sb = [] → c.stimQ = [e] → Completes (.synci th) s (fun t =>
      (coreAt t th.v th.core).stimQ = [] ∧ codeWord (coreAt t th.v th.core) e.bank e.addr = e.val ∧
      (∀ j, j ≠ e.addr → codeWord (coreAt t th.v th.core) e.bank j = codeWord c e.bank j) ∧
      (thrAt t th).pc = (thrAt s th).pc + 1 ∧ t.mem = s.mem))

/-- R118-R121: a timer that is due or a selected edge of its line latches its source, or counts an overrun when it is latched already;
a timer that is not due and an edge that does not arise do nothing; the waiting supervisor
starts the handler of the lowest latched bound slot at its vector; a handler that runs too long is a block-level error of its core. -/
def Sys2Proof.Claims.SupervisorEvents : Prop :=
  (∀ v (core : Fin 100) (i : Fin 4) s, coreRuns s v core = true → timerDue s (timerOf (coreAt s v core) i) = true →
    (∀ t, exec (.timerExpiry v core i) s = .next t → (timerOf (coreAt t v core) i).en = (timerOf (coreAt s v core) i).periodic) ∧
    ((coreAt s v core).latchTmr.getLsbD i = false → Completes (.timerExpiry v core i) s (fun t =>
      (coreAt t v core).latchTmr.getLsbD i = true ∧ (timerOf (coreAt t v core) i).ovr = (timerOf (coreAt s v core) i).ovr)) ∧
    ((coreAt s v core).latchTmr.getLsbD i = true → Completes (.timerExpiry v core i) s (fun t =>
      (coreAt t v core).latchTmr = (coreAt s v core).latchTmr ∧
      (timerOf (coreAt t v core) i).ovr = min 255 ((timerOf (coreAt s v core) i).ovr + 1)))) ∧
  (∀ v (core : Fin 100) (i : Fin 8) rising s, coreRuns s v core = true → edgeArises s v (edOf (coreAt s v core) i) rising = true →
    edgeSelected (edOf (coreAt s v core) i) rising = true →
    ((coreAt s v core).latchEd.getLsbD i = false → Completes (.edgeDetect v core i rising) s (fun t =>
      (coreAt t v core).latchEd.getLsbD i = true ∧ (coreAt t v core).latchTmr = (coreAt s v core).latchTmr)) ∧
    ((coreAt s v core).latchEd.getLsbD i = true → Completes (.edgeDetect v core i rising) s (fun t =>
      (coreAt t v core).latchEd = (coreAt s v core).latchEd ∧
      (edOf (coreAt t v core) i).ovr = min 255 ((edOf (coreAt s v core) i).ovr + 1)))) ∧
  (∀ v (core : Fin 100) (i : Fin 4) s, timerDue s (timerOf (coreAt s v core) i) = false → exec (.timerExpiry v core i) s = .next s) ∧
  (∀ v (core : Fin 100) (i : Fin 8) rising s, edgeArises s v (edOf (coreAt s v core) i) rising = false →
    exec (.edgeDetect v core i rising) s = .next s) ∧
  (∀ v (core : Fin 100) n s, coreRuns s v core = true → (threadOf (coreAt s v core) 0).st = .waiting → dueSlot (coreAt s v core) = some n →
    Completes (.handlerStart v core) s (fun t => (threadOf (coreAt t v core) 0).st = .running ∧
      (threadOf (coreAt t v core) 0).pc = (supImage (coreAt s v core)).vectors.getD n 0xFFFF ∧
      (threadOf (coreAt t v core) 0).regs = (threadOf (coreAt s v core) 0).regs ∧ (coreAt t v core).dmem = (coreAt s v core).dmem ∧
      t.mem = s.mem ∧ t.dict = s.dict)) ∧
  (∀ v (core : Fin 100) s, coreRuns s v core = true → (threadOf (coreAt s v core) 0).st = .running →
    exec (.supervisorHandlerLimit v core) s = .next (coreBlockError s v core (.colSupervisor v core 0) 7 0) ∧
    ((handlerAt s (handlerKey 2 (1 + valeNum v) core)).active = none → Completes (.supervisorHandlerLimit v core) s (fun t =>
      (∃ e ∈ t.err.errors, e.level = 2 ∧ e.cause = 7 ∧ e.seq = s.err.errSeq) ∧ (∃ e ∈ t.err.events, e.name = "COL_REPLACED") ∧
      t.mem = s.mem)))

/-- R124-R127: COL_TEST drains or takes a core, tests it, and makes it Spare or Retired; a substitute takes over its logical slot. -/
def Sys2Proof.Claims.ColTests : Prop :=
  (∀ who v n, Serves (.colTest who v n) (colTestOp who v n)) ∧
  (∀ who v n s, glenServes s = true → (colTestOp who v n).status s = .ok → (coreAt s v n.toNat).st = .spare →
    Completes (.colTest who v n) s (fun t => (t.vale v).col.testSt = 2 ∧ (t.vale v).col.testCore = n.toNat ∧ (t.vale v).col.testNamed = n.toNat ∧
      coreAt t v n.toNat = { coreAt s v n.toNat with st := .testing } ∧
      (∀ k, k ≠ n.toNat → coreAt t v k = coreAt s v k) ∧ t.mem = s.mem)) ∧
  (∀ v s, (s.vale v).col.testSt = 1 → coreDrained (coreAt s v (s.vale v).col.testCore) = true →
    Completes (.colTestDrained v) s (fun t => (t.vale v).col.testSt = 2 ∧
      (coreAt t v (s.vale v).col.testCore).latchTmr = 0 ∧ (coreAt t v (s.vale v).col.testCore).latchEd = 0 ∧
      (coreAt t v (s.vale v).col.testCore).notes = [] ∧ (t.vale v).path = (s.vale v).path ∧ t.mem = s.mem)) ∧
  (∀ v s, (s.vale v).col.testSt = 1 → Completes (.colTestDrainTimeout v) s (fun t => (t.vale v).col.testSt = 2 ∧ t.mem = s.mem)) ∧
  (∀ v p s, (s.vale v).col.testSt = 2 → Completes (.colTestDone v p) s (fun t =>
    (coreAt t v (s.vale v).col.testCore).st =
      (if (testVerdict s (valeBlock v (s.vale v).col.testCore) p).1 then .spare else .retired) ∧ t.mem = s.mem)) ∧
  (∀ v (core : Fin 100) k s, (coreAt s v core).substFor = some k → exec (.substitutionComplete v core) s =
    .next (setCore s v core { coreAt s v core with st := .active, slot := some k, substFor := none }))

/-- R122, R149-R152: COND_QUEUE and COL_PROGRAM are served; a program image is rejected with the first check of R150 that fails, a good
one is staged, and after its load every Active, Spare or draining core has it in the bank it does not run from. -/
def Sys2Proof.Claims.ColPrograms : Prop :=
  (∀ who v i r, Serves (.condQueueWrite who v i r) (condQueueOp who v i r)) ∧
  (∀ who v (i : Fin 32) (r : Rec 12) s, glenServes s = true → (condQueueOp who v i r).status s = .ok →
    Completes (.condQueueWrite who v i r) s (fun t => numD t (vkey v 0x3015 i) 0 = r.toNat ∧
      (∀ k d, k ≠ vkey v 0x3015 i → numD t k d = numD s k d) ∧ i.val ∉ (t.vale v).col.queueLines ∧ t.mem = s.mem ∧
      t.resp = { status := .ok })) ∧
  (∀ who v r, Serves (.colProgram who v r) (colProgramOp who v r)) ∧
  (∀ who v r s, glenServes s = true → (colProgramOp who v r).status s = .ok → (s.vale v).col.held = false →
    Completes (.colProgram who v r) s (fun t =>
      (t.vale v).col.staged = some (parseImage (memReadN s.mem (recField 12 0 8 r.toNat) (recField 12 8 4 r.toNat))) ∧
      (t.vale v).col.loading = true ∧ (t.vale v).col.cores = (s.vale v).col.cores ∧ t.mem = s.mem)) ∧
  (∀ bs, imageCheck bs = none → bs.length = 104 + 8 * (imgField bs 12 2 + imgField bs 14 2) ∧ imgField bs 0 4 = 0x434F4C50 ∧
    1 ≤ imgField bs 12 2 ∧ imgField bs 12 2 ≤ 16384 ∧ imgField bs 14 2 ≤ 8192 ∧ imgField bs 16 2 < imgField bs 12 2 ∧
    imgField bs 18 2 < imgField bs 12 2) ∧
  (∀ v s i, (s.vale v).col.loading = true → (s.vale v).col.staged = some i → Completes (.colProgLoaded v) s (fun t =>
    (t.vale v).col.loading = false ∧ (t.vale v).col.progState = 2 ∧ t.mem = s.mem ∧
    ∀ n < 100, (coreAt s v n).st = .active ∨ (coreAt s v n).st = .spare ∨ (coreAt s v n).draining = true →
      bankOf (coreAt t v n) (!(coreAt s v n).cur) = some i ∧ bankOf (coreAt t v n) (coreAt s v n).cur = bankOf (coreAt s v n) (coreAt s v n).cur ∧
      (coreAt t v n).dmem = (coreAt s v n).dmem ∧ (coreAt t v n).threads = (coreAt s v n).threads))

/-- Every part holds: SupervisorInstructions, SupervisorEvents. -/
def Obligations.SupervisorWork : Prop :=
  Claims.SupervisorInstructions ∧ Claims.SupervisorEvents

/-- Every part holds: ColTests, ColPrograms. -/
def Obligations.ColTestsAndPrograms : Prop :=
  Claims.ColTests ∧ Claims.ColPrograms


/-! ### Chapter 6: match stages -/

/-- R33, R157, R158: the oldest record at a stage is dropped with 0x06 when its TENANCY is stale, passes unchanged when its NEXT_STAGE names
another stage, is only advanced by a disabled stage, and is looked up by the others. -/
def Sys2Proof.Claims.StagesExecute : Prop :=
  ∀ (v : Vale) (k : Fin 12) (s : State) i p, s.err.failStop = false → (s.vale v).path.stopped = false → stageHead s v k = some i →
    pktAt s v i = some p → stageHolds s v k p = false →
    (tenFresh s (pktTen p) = false → exec (.stageExecute v k) s = .next (dropPkt s v i 0x06)) ∧
    (tenFresh s (pktTen p) = true → recBits p 13 32 4 ≠ k.val → k.val < 11 → Completes (.stageExecute v k) s (fun t =>
      pktAt t v i = some { p with loc := .stage (k.val + 1) } ∧ (∀ j, j ≠ i → pktAt t v j = pktAt s v j) ∧
      t.dict = s.dict ∧ t.mem = s.mem)) ∧
    (tenFresh s (pktTen p) = true → recBits p 13 32 4 = k.val → (stageDef s v k p.epoch).kind = 0 → k.val < 11 →
      Completes (.stageExecute v k) s (fun t => ∃ q, pktAt t v i = some q ∧ q.loc = .stage (k.val + 1) ∧ q.bytes = p.bytes ∧
        recBits q 13 32 4 = k.val + 1 ∧ recBits q 13 0 32 = recBits p 13 0 32 ∧ (∀ w, w ≠ 13 → recAt q w = recAt p w) ∧
        t.dict = s.dict ∧ t.mem = s.mem)) ∧
    (tenFresh s (pktTen p) = true → recBits p 13 32 4 = k.val → (stageDef s v k p.epoch).kind ≠ 0 →
      exec (.stageExecute v k) s = .next (lookupStage s v k i (stageDef s v k p.epoch) p))

/-- R159, R184: a bucket read of the extension completes the lookup that waits for it, as a hit or a miss that its stage counts; a
partition that no longer fits counts as a mismatch; a lookup that does not return in time drops the packet
with 0x08 and is counted. -/
def Sys2Proof.Claims.ExtensionLookups : Prop :=
  ∀ (v : Vale) (k : Fin 12) (s : State) i p, extWaiting s v k = some i → pktAt s v i = some p →
    let d := stageDef s v k p.epoch
    (∀ x, partFits s v d p.lookPart = true → partAt s v (hIdx p.lookPart) = some x →
      let hit := resultAt x (lookupExt x (buildKey s v k d p))
      exec (.extLookupReturn v k) s = .next (applyAction
        (s.modTable v (fun y => (extBucketIds x (buildKey s v k d p)).foldl touchBucket y)) v k i d hit) ∧
      Completes (.extLookupReturn v k) s (fun t =>
        numD t (vkey v (0x3060 + k.val) (if hit.isSome then 1 else 2)) 0 =
          (numD s (vkey v (0x3060 + k.val) (if hit.isSome then 1 else 2)) 0 + 1) % 2 ^ 64 ∧
        (∀ q, pktAt t v i = some q → q.loc ≠ .extWait k.val) ∧ t.mem = s.mem)) ∧
    (partFits s v d p.lookPart = false → Completes (.extLookupReturn v k) s (fun t =>
      numD t (vkey v (0x3060 + k.val) 4) 0 = (numD s (vkey v (0x3060 + k.val) 4) 0 + 1) % 2 ^ 64 ∧
      (∀ q, pktAt t v i = some q → q.loc ≠ .extWait k.val) ∧ t.mem = s.mem)) ∧
    (valeSlow s v = false → Completes (.stageLookupTimeout v k) s (fun t => pktAt t v i = none ∧
      t = dropPkt (count s (vkey v (0x3060 + k.val) 3)) v i 0x08))

/-- R171: the checks of a record that leaves the sequence, in their order, and what each failure counts. -/
def Obligations.ExitChecks : Prop :=
  ∀ (s : State) (v : Vale) i p, pktAt s v i = some p →
    (tenFresh s (pktTen p) = false → exitChecks s v i = dropPkt s v i 0x06) ∧
    (tenFresh s (pktTen p) = true → queueValid s (recHandle p 8) (pktTen p) = false →
      (recHandle p 8 ≠ 0 ∨ recHandle p 10 = 0) → exitChecks s v i = dropPkt (count s (vkey v 0x3070 1)) v i 0x0E) ∧
    (tenFresh s (pktTen p) = true → queueValid s (recHandle p 8) (pktTen p) = true →
      objValid s (recHandle p 9) (0x12 + valeNum v) (pktTen p) = false →
      exitChecks s v i = dropPkt (count s (vkey v 0x3070 2)) v i 0x0E) ∧
    (tenFresh s (pktTen p) = true → queueValid s (recHandle p 8) (pktTen p) = true →
      objValid s (recHandle p 9) (0x12 + valeNum v) (pktTen p) = true →
      objValid s (recHandle p 10) (0x16 + valeNum v) (pktTen p) = false →
      exitChecks s v i = dropPkt (count s (vkey v 0x3070 3)) v i 0x0E) ∧
    (tenFresh s (pktTen p) = true → queueValid s (recHandle p 8) (pktTen p) = true →
      objValid s (recHandle p 9) (0x12 + valeNum v) (pktTen p) = true →
      objValid s (recHandle p 10) (0x16 + valeNum v) (pktTen p) = true →
      ∃ q, pktAt (exitChecks s v i) v i = some q ∧ q.loc = .exited ∧ q.bytes = p.bytes ∧
        (recBits p 11 35 1 ≠ 1 ∨ queueValid s (recHandle p 11) (pktTen p) = true → q.words = p.words))

/-- R160, R163: STAGE_DEF and PART_MAP are served; a definition is staged for the next epoch, its reserved bits taken as zero. -/
def Sys2Proof.Claims.StageObjects : Prop :=
  (∀ who v k r, Serves (.stageDefWrite who v k r) (stageDefOp who v k r)) ∧
  (∀ who v (k : Fin 12) (r : Rec 20) s, glenServes s = true → (stageDefOp who v k r).status s = .ok →
    Completes (.stageDefWrite who v k r) s (fun t =>
      tget t.dict.staged (stageDefKey v k) = some (stageDefIn r.toNat) ∧ t.dict.nums = s.dict.nums ∧
      (s.epoch.st = .idle → t.epoch.st = .staging) ∧ t.east = s.east ∧ t.west = s.west ∧ t.mem = s.mem ∧
      t.resp = { status := .ok })) ∧
  (∀ who v k n h, Serves (.partMapWrite who v k n h) (partMapOp who v k n h)) ∧
  (∀ who v k n h s, glenServes s = true → (partMapOp who v k n h).status s = .ok → Completes (.partMapWrite who v k n h) s (fun t =>
    numD t (partMapKey v k n) 0 = h.toNat ∧ (∀ j, j ≠ partMapKey v k n → numD t j 0 = numD s j 0) ∧ t.resp.status = .ok ∧
    t.mem = s.mem ∧ t.east = s.east ∧ t.west = s.west))

/-- Every part holds: StagesExecute, ExtensionLookups, StageObjects. -/
def Obligations.MatchStages : Prop :=
  Claims.StagesExecute ∧ Claims.ExtensionLookups ∧ Claims.StageObjects


/-! ### Chapter 7: tables -/

/-- R179, R180: partitions are created and destroyed; a destroyed partition is gone and its handle stale. -/
def Sys2Proof.Claims.Partitions : Prop :=
  (∀ who v r, Serves (.partitionCreate who v r) (partitionCreateOp who v r)) ∧
  (∀ who v r s, glenServes s = true → (partitionCreateOp who v r).status s = .ok → Completes (.partitionCreate who v r) s (fun t =>
    ∃ i p, (allocIndex s (partKind v)).map (·.1) = some i ∧ partAt t v i = some p ∧ p.memory = pcField 0 1 r.toNat ∧
      p.kind = pcField 1 1 r.toNat ∧ p.keyWidth = pcField 4 2 r.toNat ∧ p.owner = pcOwner r.toNat ∧ p.slots = [] ∧
      p.units = (freeUnits (s.vale v).table p.memory).take (pcUnits r.toNat) ∧ (∀ j, j ≠ i → partAt t v j = partAt s v j) ∧
      t.resp.status = .ok ∧ t.resp.payload = beBytes 4 (handleOf s (partKind v) i).toNat ∧ t.mem = s.mem)) ∧
  (∀ who v h, Serves (.partitionDestroy who v h) (partitionDestroyOp who v h)) ∧
  (∀ who v r s, glenServes s = true → pcRangeBad r.toNat = true → (partitionCreateOp who v r).status s ≠ .ok) ∧
  (∀ who v h s, glenServes s = true → (partitionDestroyOp who v h).status s = .ok →
    Completes (.partitionDestroy who v h) s (fun t => partAt t v (hIdx h) = none ∧
      (∀ j, j ≠ hIdx h → partAt t v j = partAt s v j) ∧ t.resp.status = .ok ∧ t.mem = s.mem))

/-- R187, R188, R291, R295: EN starts a ring that is off or halted, and has no effect on one that runs; base, size and SPACE stand while
EN is 1; a VECTOR at or above PF0's table size neither starts a ring of host space nor is taken; a TAIL write is taken, ignored while EN
is 0, and counted when it is beyond the ring; a host write while PF0 is not served is discarded. -/
def Sys2Proof.Claims.TableRings : Prop :=
  (∀ v (r : Fin 8) w host s, ringShut s host = false → Completes (.tcRingEnable v r ⟨w, host⟩) s (fun t =>
    tcRingOf t v r = tcControl (msixSize s 0) (tcRingOf s v r) w ∧
    (∀ j, j ≠ r.val → tcRingOf t v j = tcRingOf s v j) ∧ (t.vale v).table.parts = (s.vale v).table.parts ∧ t.mem = s.mem ∧ t.dict = s.dict)) ∧
  (∀ v r w x host s, ringShut s host = true →
    exec (.tcRingEnable v r ⟨w, host⟩) s = .next s ∧ exec (.tcDoorbell v r ⟨x, host⟩) s = .next s) ∧
  (∀ lim x w, bitOf w.toNat 31 = true → (x.en = false ∨ x.halted = true) →
    4 ≤ (if x.en then x.log2 else bitsOf w.toNat 16 4) → (if x.en then x.log2 else bitsOf w.toNat 16 4) ≤ 12 →
    ((if x.en then x.space else bitOf w.toNat 30) = true → bitsOf w.toNat 0 11 < lim) →
    (tcControl lim x w).en = true ∧ (tcControl lim x w).halted = false ∧ (tcControl lim x w).reason = 0 ∧ (tcControl lim x w).head = 0 ∧
    (tcControl lim x w).tail = 0 ∧ (tcControl lim x w).phase = true ∧ (tcControl lim x w).vector = bitsOf w.toNat 0 11) ∧
  (∀ lim x w, (if x.en then x.space else bitOf w.toNat 30) = true → lim ≤ bitsOf w.toNat 0 11 →
    (tcControl lim x w).vector = x.vector ∧ (x.en = false → (tcControl lim x w).en = false) ∧
    (x.halted = true → (tcControl lim x w).halted = true)) ∧
  (∀ lim x w, x.en = true → (tcControl lim x w).space = x.space ∧ (tcControl lim x w).log2 = x.log2 ∧ (tcControl lim x w).cmdLo = x.cmdLo ∧
    (tcControl lim x w).cmdHi = x.cmdHi ∧ (x.halted = false → bitOf w.toNat 31 = true →
      (tcControl lim x w).head = x.head ∧ (tcControl lim x w).tail = x.tail ∧ (tcControl lim x w).phase = x.phase)) ∧
  (∀ v (r : Fin 8) (x : BitVec 12) host s, ringShut s host = false →
    ((tcRingOf s v r).en = false → exec (.tcDoorbell v r ⟨x, host⟩) s = .next s) ∧
    ((tcRingOf s v r).en = true → x.toNat < 2 ^ (tcRingOf s v r).log2 →
      let t := setTcRing s v r { tcRingOf s v r with tail := x.toNat }
      ((∀ c a, tcFetch t v r = some (some (c, a)) → 1 ≤ c.op ∧ c.op ≤ 8) → exec (.tcDoorbell v r ⟨x, host⟩) s = .next t) ∧
      exec (.tcDoorbell v r ⟨x, host⟩) s = .next (tcSkip 4096 v r t)) ∧
    ((tcRingOf s v r).en = true → 2 ^ (tcRingOf s v r).log2 ≤ x.toNat →
      let t := count s (vkey v 0x3637 5)
      ((∀ c a, tcFetch t v r = some (some (c, a)) → 1 ≤ c.op ∧ c.op ≤ 8) → exec (.tcDoorbell v r ⟨x, host⟩) s = .next t)))

/-- The command `c` of opcode `op` stands at HEAD of ring `r`, and its checks pass. -/
def Sys2Proof.Machine.TcAt (s : State) (v : Vale) (r : Fin 8) (op : Nat) (c : TcCmd) (s1 : State) : Prop :=
  tcFetch s v r = some (some (c, s1)) ∧ c.op = op ∧ tcChecks s1 v c = .ok

/-- The command is answered in the completion slot of its own slot; commands of no opcode that follow it are completed too. -/
def Sys2Proof.Machine.TcDone (s : State) (v : Vale) (r : Fin 8) (c : TcCmd) (a : State) (cpl : TcCpl) : State :=
  tcSkip (tcSize (tcRingOf s v r)) v r (tcComplete a v r c.tag cpl)

/-- R189-R193: what each table command does to the entry it identifies and what it answers. -/
def Sys2Proof.Claims.TableCommands : Prop :=
  ∀ (v : Vale) (r : Fin 8) (s : State) (c : TcCmd) (s1 : State) (p : Partition), partAt s1 v (hIdx c.part) = some p →
    (TcAt s v r 1 c s1 → p.memory = 5 ∨ p.memory = 6 → p.kind = 4 ∨ p.kind = 5 → posDead (s1.vale v).table p c.index = false →
      tget p.slots c.index = none → exec (.tcInsert v r) s =
        .next (TcDone s v r c (setPart s1 v (hIdx c.part) { p with slots := tset p.slots c.index (tcEntry (s1.vale v).table.now p c 0) })
          (tcContent (setPart s1 v (hIdx c.part) { p with slots := tset p.slots c.index (tcEntry (s1.vale v).table.now p c 0) })
            v (hIdx c.part) c.index {}))) ∧
    (TcAt s v r 1 c s1 → p.memory = 1 ∨ p.memory = 3 → exec (.tcInsert v r) s =
      .next (TcDone s v r c (tcInsertExact s1 v (hIdx c.part) p c).1 (tcInsertExact s1 v (hIdx c.part) p c).2)) ∧
    (∀ q e, tcFind (s1.vale v).table p c = some q → tget p.slots q = some e →
      (TcAt s v r 2 c s1 → tcTicket (s1.vale v).table p c (some e) = .ok → exec (.tcDelete v r) s =
        .next (TcDone s v r c (deleteEntry s1 v (hIdx c.part) q) { found := true })) ∧
      (TcAt s v r 3 c s1 → exec (.tcRead v r) s = .next (TcDone s v r c s1 (tcContent s1 v (hIdx c.part) q {}))) ∧
      (∀ n, TcAt s v r 4 c s1 → e.lock = none → freeLock (s1.vale v).table = some n → ∃ a cpl,
        exec (.tcLock v r) s = .next (TcDone s v r c a cpl) ∧ cpl.status = .ok ∧ cpl.found = true ∧ cpl.result = e.result ∧
        cpl.ticket = (tgetD (s1.vale v).table.lockSeq n 0 + 1) % 65536 * 65536 + n ∧
        (∃ l, tget (a.vale v).table.locks n = some l ∧ l.ticket = cpl.ticket ∧ l.pos = q ∧ l.staged = none) ∧
        partAt a v (hIdx c.part) = some { p with slots := tset p.slots q { e with lock := some n } }) ∧
      (∀ n l, TcAt s v r 5 c s1 → e.lock = some n → tget (s1.vale v).table.locks n = some l → l.ticket = c.ticket →
        (s1.vale v).table.expired.contains (c.ticket, c.part.toNat, tcIdent p c) = false → ∃ a cpl,
        exec (.tcUpdate v r) s = .next (TcDone s v r c a cpl) ∧ cpl.status = .ok ∧ cpl.result = e.result ∧
        partAt a v (hIdx c.part) = some p ∧ (∃ m, tget (a.vale v).table.locks n = some m ∧ m.ticket = l.ticket ∧
          m.staged.map (·.1) = some c.result)) ∧
      (∀ n l, TcAt s v r 6 c s1 → e.lock = some n → tget (s1.vale v).table.locks n = some l → l.ticket = c.ticket →
        (s1.vale v).table.expired.contains (c.ticket, c.part.toNat, tcIdent p c) = false → ∃ a cpl y,
        exec (.tcUnlock v r) s = .next (TcDone s v r c a cpl) ∧ cpl.status = .ok ∧ tget (a.vale v).table.locks n = none ∧
        (partAt a v (hIdx c.part)).bind (fun x => tget x.slots q) = some y ∧ y.lock = none ∧
        y.result = (if bitOf c.flags 1 then (l.staged.map (·.1)).getD e.result else e.result))) ∧
    (tcFind (s1.vale v).table p c = none →
      (TcAt s v r 2 c s1 → exec (.tcDelete v r) s = .next (TcDone s v r c s1 {})) ∧
      (TcAt s v r 3 c s1 → exec (.tcRead v r) s = .next (TcDone s v r c s1 {})) ∧
      (TcAt s v r 4 c s1 → exec (.tcLock v r) s = .next (TcDone s v r c s1 {})) ∧
      (TcAt s v r 5 c s1 → exec (.tcUpdate v r) s = .next (TcDone s v r c s1 {}))) ∧
    (TcAt s v r 7 c s1 → tcReach s1 (tcRingOf s v r).space c.buffer (96 * max (min c.count (walkTotal p - c.index)) 1) = true →
      exec (.tcWalk v r) s = .next (TcDone s v r c (tcWriteMem s1 (tcRingOf s v r).space c.buffer
        ((List.range (min c.count (walkTotal p - c.index))).flatMap (fun k => walkRecord p (c.index + k))))
        { location := c.index + min c.count (walkTotal p - c.index) })) ∧
    (TcAt s v r 8 c s1 → ∃ a cpl, exec (.tcFlush v r) s = .next (TcDone s v r c a cpl) ∧ cpl.status = .ok ∧
      cpl.location = (p.slots.filter (fun e => !e.2.static && (bitOf c.flags 2 || decide (e.2.slot = c.index)) && e.2.lock.isSome)).length)

/-- The command at HEAD of ring `r` is the ring's last, and in the state `a` that its effect leaves its completion can be written. -/
def Sys2Proof.Machine.TcLast (s a : State) (v : Vale) (r : Fin 8) : Prop :=
  let g := tcRingOf s v r
  g.tail = (g.head + 1) % tcSize g ∧ tcReach a g.space (tcCplBase g + 32 * g.head) 32 = true

/-- The ring after that command: HEAD stepped past it, still enabled and not halted. -/
def Sys2Proof.Machine.TcStepped (s t : State) (v : Vale) (r : Fin 8) : Prop :=
  let g := tcRingOf s v r
  tcRingOf t v r = { g with head := (g.head + 1) % tcSize g, phase := if (g.head + 1) % tcSize g = 0 then !g.phase else g.phase }

/-- R188-R193: the last command of a ring, its completion reachable: HEAD steps past it, and the partition holds what the command did to
its entry. -/
def Sys2Proof.Claims.TableCommandsComplete : Prop :=
  ∀ (v : Vale) (r : Fin 8) (s : State) (c : TcCmd) (s1 : State) (p : Partition), partAt s1 v (hIdx c.part) = some p →
    let n := insertExact (s1.vale v).table p (tcEntry (s1.vale v).table.now p c 0).key (fun _ => tcEntry (s1.vale v).table.now p c 0)
    (TcAt s v r 1 c s1 → p.memory = 1 → n.status = .ok → TcLast s (setPart s1 v (hIdx c.part) n.part) v r →
      Completes (.tcInsert v r) s (fun t => TcStepped s t v r ∧ partAt t v (hIdx c.part) = some n.part ∧
        tget n.part.slots n.pos = some (tcEntry (s1.vale v).table.now p c 0))) ∧
    (∀ q e, tcFind (s1.vale v).table p c = some q → tget p.slots q = some e →
      (TcAt s v r 2 c s1 → tcTicket (s1.vale v).table p c (some e) = .ok → TcLast s (deleteEntry s1 v (hIdx c.part) q) v r →
        Completes (.tcDelete v r) s (fun t => TcStepped s t v r ∧
          partAt t v (hIdx c.part) = some { p with slots := terase p.slots q })) ∧
      (TcAt s v r 3 c s1 → TcLast s s1 v r → Completes (.tcRead v r) s (fun t => TcStepped s t v r ∧ partAt t v (hIdx c.part) = some p)) ∧
      (∀ k, TcAt s v r 4 c s1 → e.lock = none → freeLock (s1.vale v).table = some k →
        (∀ a cpl, tcRunLock v c s1 = some (a, cpl) → TcLast s a v r) → Completes (.tcLock v r) s (fun t => TcStepped s t v r ∧
          partAt t v (hIdx c.part) = some { p with slots := tset p.slots q { e with lock := some k } } ∧
          (tget (t.vale v).table.locks k).map (·.pos) = some q)) ∧
      (∀ k l, TcAt s v r 5 c s1 → e.lock = some k → tget (s1.vale v).table.locks k = some l → l.ticket = c.ticket →
        (s1.vale v).table.expired.contains (c.ticket, c.part.toNat, tcIdent p c) = false →
        (∀ a cpl, tcRunUpdate v c s1 = some (a, cpl) → TcLast s a v r) → Completes (.tcUpdate v r) s (fun t => TcStepped s t v r ∧
          partAt t v (hIdx c.part) = some p ∧ ((tget (t.vale v).table.locks k).bind (·.staged)).map (·.1) = some c.result)) ∧
      (∀ k l, TcAt s v r 6 c s1 → e.lock = some k → tget (s1.vale v).table.locks k = some l → l.ticket = c.ticket →
        (s1.vale v).table.expired.contains (c.ticket, c.part.toNat, tcIdent p c) = false →
        (∀ a cpl, tcRunUnlock v c s1 = some (a, cpl) → TcLast s a v r) → Completes (.tcUnlock v r) s (fun t => TcStepped s t v r ∧
          tget (t.vale v).table.locks k = none ∧
          ((partAt t v (hIdx c.part)).bind (fun x => tget x.slots q)).map (·.lock) = some none))) ∧
    (TcAt s v r 7 c s1 → tcReach s1 (tcRingOf s v r).space c.buffer (96 * max (min c.count (walkTotal p - c.index)) 1) = true →
      (∀ a cpl, tcRunWalk v (tcRingOf s v r).space c s1 = some (a, cpl) → TcLast s a v r) →
      Completes (.tcWalk v r) s (fun t => TcStepped s t v r ∧ partAt t v (hIdx c.part) = some p)) ∧
    (TcAt s v r 8 c s1 → (∀ a cpl, tcRunFlush v c s1 = some (a, cpl) → TcLast s a v r) →
      Completes (.tcFlush v r) s (fun t => TcStepped s t v r ∧ ∃ q, partAt t v (hIdx c.part) = some q ∧
        (∀ k e, tget q.slots k = some e → tget p.slots k = some e) ∧
        (∀ k e, tget p.slots k = some e → e.lock ≠ none → tget q.slots k = some e)))

/-- R190: a table command that fails its checks changes nothing but its ring and completion. -/
def Sys2Proof.Claims.FailedTableCommands : Prop :=
  ∀ (v : Vale) (r : Fin 8) (s : State) (c : TcCmd) (s1 : State), tcFetch s v r = some (some (c, s1)) → tcChecks s1 v c ≠ .ok →
    ∀ i op, (i, op) ∈ [(Instr.tcInsert v r, 1), (.tcDelete v r, 2), (.tcRead v r, 3), (.tcLock v r, 4), (.tcUpdate v r, 5),
      (.tcUnlock v r, 6), (.tcWalk v r, 7), (.tcFlush v r, 8)] → c.op = op →
      exec i s = .next (TcDone s v r c s1 { status := tcChecks s1 v c })

/-- R194-R199, R230: a lock that expires is released without its staged content; the learner takes its oldest request and inserts its key;
a stale one, or one whose key is there, is dropped, and one that finds no place is counted; LEARN_LOG returns the oldest 32 records; AGE_NOW advances once AGE_TICK has passed, and not before; the ager deletes an old unlocked entry that is not static. -/
def Sys2Proof.Claims.LearningAndAging : Prop :=
  (∀ v (l : Fin 4096) k s, tget (s.vale v).table.locks l = some k → Completes (.tableLockExpired v l) s (fun t =>
    tget (t.vale v).table.locks l = none ∧ (∃ n b, (k.ticket, n, b) ∈ (t.vale v).table.expired) ∧ t.mem = s.mem)) ∧
  (∀ v r rest s, (s.vale v).table.learnQ = r :: rest → s.err.failStop = false → (s.vale v).table.stopped = false →
    (handleCurrent s r.handle = false → exec (.learnInsert v) s =
      .next (subLearn (s.modTable v (fun y => { y with learnQ := rest })) v r.slot)) ∧
    (∀ p, handleCurrent s r.handle = true → partAt s v r.part = some p → (lookupAll (s.vale v).table p r.key).isSome = true →
      exec (.learnInsert v) s = .next (subLearn (s.modTable v (fun y => { y with learnQ := rest })) v r.slot)) ∧
    (∀ p, handleCurrent s r.handle = true → partAt s v r.part = some p → lookupAll (s.vale v).table p r.key = none →
      let e : Entry := { key := r.key, result := BitVec.ofNat 64 (p.learnAction * 2 ^ 54 + r.value.toNat),
                         ts := (s.vale v).table.now, slot := r.slot }
      let n := insertExact (s.vale v).table p r.key (fun _ => e)
      (n.status = .ok → Completes (.learnInsert v) s (fun t => (t.vale v).table.learnQ = rest ∧ partAt t v r.part = some n.part ∧
        tget n.part.slots n.pos = some e ∧ (∀ j, j ≠ r.part → partAt t v j = partAt s v j) ∧ t.mem = s.mem)) ∧
      (n.status ≠ .ok → Completes (.learnInsert v) s (fun t => (t.vale v).table.learnQ = rest ∧
        (t.vale v).table.parts = (s.vale v).table.parts ∧
        numD t (vkey v 0x3635 2) 0 = (numD s (vkey v 0x3635 2) 0 + 1) % 2 ^ 64 ∧ t.mem = s.mem)))) ∧
  (∀ who v, Serves (.learnLogRead who v) (learnLogOp who v)) ∧
  (∀ who v s, glenServes s = true → (learnLogOp who v).status s = .ok → Completes (.learnLogRead who v) s (fun t =>
    t.resp.payload = ((s.vale v).table.learnLog.take 32).flatten ∧ (t.vale v).table.learnLog = (s.vale v).table.learnLog.drop 32 ∧
    t.mem = s.mem ∧ t.dict = s.dict)) ∧
  (∀ v s, s.time.ticks < (s.vale v).table.ageDue → exec (.ageTick v) s = .next s) ∧
  (∀ v s, (s.vale v).table.ageDue ≤ s.time.ticks → Completes (.ageTick v) s (fun t =>
    (t.vale v).table.now = ((s.vale v).table.now + 1) % 65536 ∧
    (t.vale v).table.ageDue = (s.vale v).table.ageDue + numD s (vkey v 0x3630 1) 1000 * 125000 ∧
    (t.vale v).table.parts = (s.vale v).table.parts ∧ t.mem = s.mem ∧ t.dict = s.dict)) ∧
  (∀ v (p : Fin 1024) pos x e s, partAt s v p = some x → tget x.slots pos = some e → s.err.failStop = false → x.memory = 3 →
    (e.static = true ∨ e.lock ≠ none → exec (.agerVisit v p pos) s = .next s) ∧
    (x.ageLimit ≠ 0 → e.static = false → e.lock = none → x.ageLimit ≤ ((s.vale v).table.now + 65536 - e.ts) % 65536 →
      Completes (.agerVisit v p pos) s (fun t => ∃ y, partAt t v p = some y ∧ tget y.slots pos = none ∧
        (∀ j, j ≠ pos → tget y.slots j = tget x.slots j) ∧ t.mem = s.mem)))

/-- R186, R201, R202: the scrubber counts a repair; TABLE_BANK_TEST takes a spare, migrates, tests, and returns the bank as a spare or
retires it. -/
def Sys2Proof.Claims.TableBanks : Prop :=
  (∀ v (p : Fin 1024) pos x s, partAt s v p = some x → x.memory = 4 → pos < partSize x →
    exec (.tcamScrub v p pos true) s = .next (count s (vkey v 0x3637 2)) ∧ exec (.tcamScrub v p pos false) s = .next s) ∧
  (∀ who v x, Serves (.tableBankTest who v x) (tableTestOp who v x)) ∧
  (∀ who v x s, glenServes s = true → (tableTestOp who v x).status s = .ok → Completes (.tableBankTest who v x) s (fun t =>
    (t.vale v).table.testSt = 1 ∧ (t.vale v).table.testBank = x.toNat ∧
    tgetD (t.vale v).table.spares (x.toNat / 256) 0 = tgetD (s.vale v).table.spares (x.toNat / 256) 0 + 1 ∧ (t.vale v).table.parts = (s.vale v).table.parts ∧ t.mem = s.mem)) ∧
  (∀ v s, (s.vale v).table.testSt = 1 → Completes (.tableMigrationDone v) s (fun t => (t.vale v).table.testSt = 2 ∧
    (t.vale v).table.parts = (s.vale v).table.parts ∧ t.mem = s.mem)) ∧
  (∀ v p s, (s.vale v).table.testSt = 2 → Completes (.tableTestDone v p) s (fun t => (t.vale v).table.testSt = 0 ∧
    (t.vale v).table.parts = (s.vale v).table.parts ∧ t.mem = s.mem ∧
    (((t.vale v).table.testResult = .ok ∧
      tgetD (t.vale v).table.spares ((s.vale v).table.testBank / 256) 0 = tgetD (s.vale v).table.spares ((s.vale v).table.testBank / 256) 0 - 1) ∨
     ((t.vale v).table.testResult = .halted ∧ (t.vale v).table.spares = (s.vale v).table.spares)) ∧
    (p = false → (t.vale v).table.testResult = .halted)))

/-- Every part holds: Partitions, LearningAndAging, TableBanks. -/
def Obligations.PartitionsAndBanks : Prop :=
  Claims.Partitions ∧ Claims.LearningAndAging ∧ Claims.TableBanks

/-- Every part holds: TableRings, TableCommands, TableCommandsComplete, FailedTableCommands. -/
def Obligations.TableRingCommands : Prop :=
  Claims.TableRings ∧ Claims.TableCommands ∧ Claims.TableCommandsComplete ∧ Claims.FailedTableCommands


/-! ### Chapter 8: the traffic manager -/

/-- R209-R211, R217-R220, R224: queues, shapers and the Floodplain size: every write is served; QUEUE_CONF keeps the fields it may not change;
a destroyed queue is gone and its record all zero; a shaper's record is loaded at the next tick. -/
def Obligations.QueueAndShaperObjects : Prop :=
  (∀ who v r, Serves (.queueCreate who v r) (queueCreateOp who v r)) ∧
  (∀ who v r s, glenServes s = true → (queueCreateOp who v r).status s = .ok → Completes (.queueCreate who v r) s (fun t =>
    ∃ i, (allocIndex s (queueKind v)).map (·.1) = some i ∧ queueConf t v i = queueIn r.toNat ∧ tmQueue t v i = {} ∧
      (∀ j, j ≠ i → tmQueue t v j = tmQueue s v j) ∧ t.resp.status = .ok ∧
      t.resp.payload = beBytes 4 (handleOf s (queueKind v) i).toNat ∧ t.mem = s.mem)) ∧
  (∀ who v h s, glenServes s = true → (queueDestroyOp who v h).status s = .ok → Completes (.queueDestroy who v h) s (fun t =>
    queueConf t v (hIdx h) = 0 ∧ tmQueue t v (hIdx h) = {} ∧ t.resp.status = .ok ∧ t.mem = s.mem)) ∧
  (∀ who v r s, glenServes s = true → (shaperCreateOp who v r).status s = .ok → Completes (.shaperCreate who v r) s (fun t =>
    ∃ i, (allocIndex s (shaperKind v)).map (·.1) = some i ∧ numD t (shaperKey v i) 0 = shaperIn (r.toNat % 256 ^ 16) ∧
      tget (t.vale v).tm.shapers i = some { load := true } ∧ t.resp.status = .ok ∧
      t.resp.payload = beBytes 4 (handleOf s (shaperKind v) i).toNat ∧ (t.vale v).path = (s.vale v).path ∧ t.mem = s.mem)) ∧
  (∀ who v h s, glenServes s = true → (shaperDestroyOp who v h).status s = .ok → Completes (.shaperDestroy who v h) s (fun t =>
    numD t (shaperKey v (hIdx h)) 0 = 0 ∧ tget (t.vale v).tm.shapers (hIdx h) = none ∧ t.resp.status = .ok ∧
    (t.vale v).path = (s.vale v).path ∧ t.mem = s.mem)) ∧
  (∀ who v q r, Serves (.queueConfWrite who v q r) (queueConfOp who v q r)) ∧
  (∀ who v h, Serves (.queueDestroy who v h) (queueDestroyOp who v h)) ∧
  (∀ who v r, Serves (.shaperCreate who v r) (shaperCreateOp who v r)) ∧
  (∀ who v i r, Serves (.shaperWrite who v i r) (shaperWriteOp who v i r)) ∧
  (∀ who v h, Serves (.shaperDestroy who v h) (shaperDestroyOp who v h)) ∧
  (∀ who v x, Serves (.floodSizeWrite who v x) (floodSizeOp who v x)) ∧
  (∀ who v q r s, glenServes s = true → (queueConfOp who v q r).status s = .ok → Completes (.queueConfWrite who v q r) s (fun t =>
    queueConf t v q = queueIn r.toNat ∧ qOwner (queueConf t v q) = qOwner (queueConf s v q) ∧
    qClass (queueConf t v q) = qClass (queueConf s v q) ∧ qDest (queueConf t v q) = qDest (queueConf s v q) ∧
    t.mem = s.mem ∧ t.east = s.east ∧ t.west = s.west)) ∧
  (∀ who v i r s, glenServes s = true → (shaperWriteOp who v i r).status s = .ok → Completes (.shaperWrite who v i r) s (fun t =>
    numD t (shaperKey v i) 0 = shaperIn r.toNat ∧ (∃ x, tget (t.vale v).tm.shapers i = some x ∧ x.load = true) ∧
    (t.vale v).path = (s.vale v).path ∧ t.mem = s.mem)) ∧
  (∀ r x, x.load = true → shaperTick r x = { act := r, tokens := if shResetFull r then (shBurst r * 65536 : Nat) else 0 }) ∧
  (∀ r x, x.load = false → (shaperTick r x).tokens =
    min (x.tokens + (tickInc (shRate x.act) : Nat)) (shBurst x.act * 65536 : Nat) ∧ (shaperTick r x).act = x.act) ∧
  (∀ who v x s, glenServes s = true → (floodSizeOp who v x).status s = .ok → x.toNat ≤ 16 ∧
    Completes (.floodSizeWrite who v x) s (fun t => numD t (vkey v 0x4001 1) 0 = x.toNat ∧ t.mem = s.mem ∧ t.east = s.east ∧ t.west = s.west))

/-- R33, R80, R174, R221: before enqueue a discarded packet is dropped with 0x04, a bad one with 0x05, one of a stale tenancy with 0x06,
one of a stale queue with 0x0E; the others meet their queue, and a plain one that the queue has room for joins its end. -/
def Sys2Proof.Claims.EnqueueChecks : Prop :=
  ∀ (v : Vale) (s : State) i p, s.err.failStop = false → (s.vale v).path.outOfService = false → (s.vale v).tm.stopped = false →
    enqueueNext s v .atEnqueue = some i → pktAt s v i = some p →
    (p.discarded = true → exec (.enqueue v) s = .next (dropPkt s v i 0x04)) ∧
    (p.discarded = false → p.bad = true → exec (.enqueue v) s = .next (dropPkt s v i 0x05)) ∧
    (p.discarded = false → p.bad = false → tenFresh s (pktTen p) = false → exec (.enqueue v) s = .next (dropPkt s v i 0x06)) ∧
    (p.discarded = false → p.bad = false → tenFresh s (pktTen p) = true →
      (handleFits (recHandle p 8) (queueKind v) && objLive s (recHandle p 8)) = false → exec (.enqueue v) s = .next (dropCopy s v i 0x0E)) ∧
    (p.discarded = false → p.bad = false → tenFresh s (pktTen p) = true →
      (handleFits (recHandle p 8) (queueKind v) && objLive s (recHandle p 8)) = true →
      exec (.enqueue v) s = .next (enqueueAt s v i (hIdx (recHandle p 8)) ((queuePort s v (hIdx (recHandle p 8))).getD 15) p)) ∧
    (p.discarded = true → Completes (.enqueue v) s (fun t => pktAt t v i = none ∧ t.mem = s.mem)) ∧
    (p.discarded = false → p.bad = false → tenFresh s (pktTen p) = true →
      (handleFits (recHandle p 8) (queueKind v) && objLive s (recHandle p 8)) = true → recBits p 12 33 3 = 0 → recBits p 11 35 1 = 0 →
      p.edits = [] → p.template = 0xFFFF → p.bytes.length + 4 ≤ numD s (vkey (procVale p) 0x3003 2) 9216 →
      let q := hIdx (recHandle p 8)
      (tmQueue s v q).spilling = false → qSpill (queueConf s v q) = false →
      queueDepth s v (tmQueue s v q) + cellsOf p.bytes.length ≤ qMax (queueConf s v q) →
      Completes (.enqueue v) s (fun t => (tmQueue t v q).basin = (tmQueue s v q).basin ++ [i] ∧
        (∃ x, pktAt t v i = some x ∧ x.loc = .queued q ∧ x.bytes = p.bytes) ∧ t.mem = s.mem))

/-- R221: admission of a packet to its queue, step by step. -/
def Sys2Proof.Claims.AdmissionSteps : Prop :=
  ∀ (s : State) (v : Vale) (i q cells : Nat),
    (qMax (queueConf s v q) < queueDepth s v (tmQueue s v q) + cells →
      takeIn s v i q cells = refuse (count s (vkey v 0x4002 1)) v i q 0x0A) ∧
    (queueDepth s v (tmQueue s v q) + cells ≤ qMax (queueConf s v q) →
      ((tmQueue s v q).spilling = true → takeIn s v i q cells =
        (if floodTakes s v cells then linkFlood s v i q else refuse (count s (vkey v 0x4002 2)) v i q 0x0A)) ∧
      ((tmQueue s v q).spilling = false → qSpill (queueConf s v q) = true → floodGib s v ≠ 0 →
        qSpillOn (queueConf s v q) < cellsIn s v (tmQueue s v q).basin + cells → takeIn s v i q cells =
        (if floodTakes s v cells then linkFlood s v i q else linkBasin (count s (vkey v 0x4002 2)) v i q)) ∧
      ((tmQueue s v q).spilling = false → (qSpill (queueConf s v q) = false ∨ floodGib s v = 0 ∨
        cellsIn s v (tmQueue s v q).basin + cells ≤ qSpillOn (queueConf s v q)) → takeIn s v i q cells = linkBasin s v i q))

/-- R86: a full crossing FIFO drops the packet that arrives; the FIFO's head is carried into the other Vale, where it takes cells of its
own, and toward a Vale out of service it is dropped. -/
def Sys2Proof.Claims.CrossingLink : Prop :=
  (∀ v s i p, enqueueNext s v .crossWait = none → s.err.failStop = false → (s.vale v).path.outOfService = false →
    countAt s v .crossWait = 0 → oldestAt s v .crossing = some i → pktAt s v i = some p →
    ((s.vale (otherVale v)).path.outOfService = true → exec (.crossingTransfer v) s =
      .next (dropPkt s v i 0x0C)) ∧
    ((s.vale (otherVale v)).path.outOfService = false → cellsOf p.bytes.length ≤ (s.vale (otherVale v)).path.basinFree →
      Completes (.crossingTransfer v) s (fun t => pktAt t v i = none ∧
        (∃ x, pktAt t (otherVale v) (s.vale (otherVale v)).path.nextPkt = some x ∧ x.bytes = p.bytes ∧ x.loc = .atEnqueue ∧
          x.cells = cellsOf p.bytes.length) ∧
        (t.vale (otherVale v)).path.basinFree = (s.vale (otherVale v)).path.basinFree - cellsOf p.bytes.length ∧ t.mem = s.mem))) ∧
  (∀ v s i k, enqueueNext s v .crossWait = some i → 262144 < (s.vale v).path.crossBytes + ((pktAt s v i).getD {}).bytes.length →
    admitCrossing (k + 1) v s = admitCrossing k v (dropCopy s v i 0x0B))

/-- R76, R85, R213, R215: a port node takes the packet its arbitration chooses; it leaves its queue, the levels and shapers of its path are charged
with its length, and it goes to its egress; the recirculation node waits for the intake's grant, and uses it up. -/
def Sys2Proof.Claims.DequeueStep : Prop :=
  ∀ (v : Vale) (n : Fin 15) (s : State), s.err.failStop = false → (s.vale v).path.outOfService = false → (s.vale v).tm.stopped = false →
    portNodeExists s v n = true → (n.val = 14 → (s.vale v).path.recircGrant = true) →
    (choosePacket (dropOversize s v n) v n = none → exec (.dequeue v n) s = .next (dropOversize s v n)) ∧
    (∀ c i r p, choosePacket (dropOversize s v n) v n = some c → (tmQueue (dropOversize s v n) v c.queue).basin = i :: r →
      pktAt (dropOversize s v n) v i = some p → ∃ a,
      exec (.dequeue v n) s = .next (endVisits (egress a v n c.queue i { p with loc := .atEnqueue }) v n c) ∧
      a = settle (modPkt (setTmQueue (chargeDequeue (takeGrant (dropOversize s v n) v n) v n c p.flen) v c.queue
        { tmQueue (dropOversize s v n) v c.queue with
          basin := r, sent := ((tmQueue (dropOversize s v n) v c.queue).sent + p.flen) % 2 ^ 64
          high := max (tmQueue (dropOversize s v n) v c.queue).high (nowNs (dropOversize s v n) - p.enqNs) }) v i
        (fun y => { y with loc := .atEnqueue })) v n c.queue) ∧
    (∀ q i p, tenFresh s (pktTen p) = false → egress s v n q i p = dropPkt s v i 0x06) ∧
    (∀ q i p, tenFresh s (pktTen p) = true → p.ttl = false → n.val < 8 → linkIsUp s v n = false → egress s v n q i p = dropCopy s v i 0x0C) ∧
    (∀ c i r p, n.val < 8 → (gateOf s v n).act.enable = false → choosePacket s v n = some c → (tmQueue s v c.queue).basin = i :: r →
      pktAt s v i = some p → tenFresh s (pktTen p) = true → p.ttl = false → linkIsUp s v n = true → valeSlow s v = false →
      recBits p 12 34 2 = 0 → Completes (.dequeue v n) s (fun t => (tmQueue t v c.queue).basin = r ∧
        (tmQueue t v c.queue).sent = ((tmQueue s v c.queue).sent + p.flen) % 2 ^ 64 ∧ pktAt t v i = none ∧
        ∃ f, f ∈ (t.vale v).path.txFrames ∧ f.port = n ∧ f.pkt = i)) ∧
    (n.val = 14 → ((takeGrant s v n).vale v).path.recircGrant = false)

/-- R222, R223: a spilled packet gives its Basin cells back when its HBM write is done, and takes cells again when it is refilled to its
queue in order. -/
def Sys2Proof.Claims.SpillAndRefill : Prop :=
  (∀ v i s p q, pktAt s v i = some p → p.loc = .spilling q → p.share = none → Completes (.spillWriteComplete v i) s (fun t =>
    (t.vale v).path.basinFree = (s.vale v).path.basinFree + p.cells ∧ (∃ x, pktAt t v i = some x ∧ x.loc = .flood q ∧ x.cells = 0 ∧
      x.bytes = p.bytes) ∧ t.mem = s.mem ∧ t.dict = s.dict)) ∧
  (∀ v (q : Fin 32768) i r p s, (tmQueue s v q).flood = i :: r → pktAt s v i = some p → s.err.failStop = false → p.loc = .flood q →
    cellsIn s v (tmQueue s v q).basin ≤ qRefill (queueConf s v q) → numD s (vkey v 0x3002 6) 16384 ≤ (s.vale v).path.basinFree →
    cellsOf p.bytes.length ≤ (s.vale v).path.basinFree → Completes (.refill v q) s (fun t =>
      (tmQueue t v q).basin = (tmQueue s v q).basin ++ [i] ∧ (tmQueue t v q).flood = r ∧ (tmQueue t v q).spilling = !r.isEmpty ∧
      (t.vale v).path.basinFree = (s.vale v).path.basinFree - cellsOf p.bytes.length ∧ t.mem = s.mem ∧ t.dict = s.dict))

/-- R229, R230, R464: a tick advances the tick base by one and device time by 8 ns when no rate is set; TIME_SET and TIME_STEP move device
time alone; device time stands still from Sleep on. -/
def Obligations.DeviceTime : Prop :=
  (∀ s, ladderDone s < 3 → Completes .tick s (fun t => t.time.ticks = s.time.ticks + 1 ∧ t.mem = s.mem ∧ t.err = s.err ∧
    (s.time.held = false → timeRate s = 0 → s.time.acc < 1000000000000 → s.time.ns < 1000000000 → s.time.frac < 16 → s.time.sec < 2 ^ 48 - 1 →
      t.time.frac = s.time.frac ∧ t.time.acc = s.time.acc ∧
      t.time.sec * 1000000000 + t.time.ns = s.time.sec * 1000000000 + s.time.ns + 8))) ∧
  (∀ s, 3 ≤ ladderDone s → exec .tick s = .next s) ∧
  (∀ who r, Serves (.timeSet who r) (timeSetOp who r) ∧ ∀ s, glenServes s = true → (timeSetOp who r).status s = .ok →
    Completes (.timeSet who r) s (fun t => t.time.sec = recField 12 0 8 r.toNat ∧ t.time.ns = recField 12 8 4 r.toNat ∧
      t.time.held = false ∧ t.time.ticks = s.time.ticks ∧ t.mem = s.mem ∧ t.dict = s.dict)) ∧
  (∀ who r, Serves (.timeStep who r) (timeStepOp who r) ∧ ∀ s, glenServes s = true → (timeStepOp who r).status s = .ok →
    0 ≤ (nowNs s : Int) + (r.extractLsb' 32 32).toInt * 1000000000 + (r.extractLsb' 0 32).toInt →
    (nowNs s : Int) + (r.extractLsb' 32 32).toInt * 1000000000 + (r.extractLsb' 0 32).toInt < 2 ^ 48 * 1000000000 →
    Completes (.timeStep who r) s (fun t =>
      (t.time.sec * 1000000000 + t.time.ns : Int) = nowNs s + (r.extractLsb' 32 32).toInt * 1000000000 + (r.extractLsb' 0 32).toInt ∧
      t.time.ticks = s.time.ticks ∧ t.time.held = s.time.held ∧ t.mem = s.mem ∧ t.dict = s.dict))

/-- Every part holds: EnqueueChecks, AdmissionSteps. -/
def Obligations.Admission : Prop :=
  Claims.EnqueueChecks ∧ Claims.AdmissionSteps

/-- Every part holds: CrossingLink, DequeueStep, SpillAndRefill. -/
def Obligations.QueueMovement : Prop :=
  Claims.CrossingLink ∧ Claims.DequeueStep ∧ Claims.SpillAndRefill


/-! ### Chapter 9: policers, gates, replication, telemetry -/

/-- R231, R237, R241, R244, R248: the objects of policers, gates, replication groups and telemetry are served; POLICER and REPL_APPLY say what
is in force after them. -/
def Sys2Proof.Claims.PolicerGroupObjects : Prop :=
  (∀ who v r, Serves (.policerCreate who v r) (policerCreateOp who v r)) ∧
  (∀ who v p r, Serves (.policerWrite who v p r) (policerWriteOp who v p r)) ∧
  (∀ who v h, Serves (.policerDestroy who v h) (policerDestroyOp who v h)) ∧
  (∀ who v n, Serves (.gateApply who v n) (gateApplyOp who v n)) ∧
  (∀ who v h, Serves (.replCreate who v h) (replCreateOp who v h)) ∧
  (∀ who v h, Serves (.replDestroy who v h) (replDestroyOp who v h)) ∧
  (∀ who v bs, Serves (.replWrite who v bs) (replWriteOp who v bs)) ∧
  (∀ who v r, Serves (.replApply who v r) (replApplyOp who v r)) ∧
  (∀ who v r, Serves (.replQuery who v r) (replQueryOp who v r)) ∧
  (∀ who v, Serves (.telemLogRead who v) (telemLogOp who v)) ∧
  (∀ who v r s, glenServes s = true → (policerCreateOp who v r).status s = .ok → Completes (.policerCreate who v r) s (fun t =>
    ∃ i, (allocIndex s (policerKind v)).map (·.1) = some i ∧ numD t (policerKey v i) 0 = policerIn (r.toNat % 256 ^ 24) ∧
      tget (t.vale v).tm.polices i = some { act := policerIn (r.toNat % 256 ^ 24), load := true } ∧ t.resp.status = .ok ∧
      t.resp.payload = beBytes 4 (handleOf s (policerKind v) i).toNat ∧ (t.vale v).path = (s.vale v).path ∧ t.mem = s.mem)) ∧
  (∀ who v h s, glenServes s = true → (policerDestroyOp who v h).status s = .ok → Completes (.policerDestroy who v h) s (fun t =>
    numD t (policerKey v (hIdx h)) 0 = 0 ∧ tget (t.vale v).tm.polices (hIdx h) = none ∧ t.resp.status = .ok ∧
    (t.vale v).path = (s.vale v).path ∧ t.mem = s.mem)) ∧
  (∀ who v n s, glenServes s = true → (gateApplyOp who v n).status s = .ok → Completes (.gateApply who v n) s (fun t =>
    let l := pendingList s v n.toNat
    (gateOf t v n.toNat).next = some (cycleFrom l (nowNs s + 10000), l) ∧ (gateOf t v n.toNat).act = (gateOf s v n.toNat).act ∧
    (∀ j, j ≠ n.toNat → gateOf t v j = gateOf s v j) ∧ t.resp.status = .ok ∧ (t.vale v).path = (s.vale v).path ∧ t.mem = s.mem)) ∧
  (∀ who v h s, glenServes s = true → (replCreateOp who v h).status s = .ok → Completes (.replCreate who v h) s (fun t =>
    ∃ i, (allocIndex s (groupKind v)).map (·.1) = some i ∧ groupOf t v i = {} ∧ (∀ j, j ≠ i → groupOf t v j = groupOf s v j) ∧
      t.resp.status = .ok ∧ t.resp.payload = beBytes 4 (handleOf s (groupKind v) i).toNat ∧ (t.vale v).path = (s.vale v).path ∧
      t.mem = s.mem)) ∧
  (∀ who v h s, glenServes s = true → (replDestroyOp who v h).status s = .ok → Completes (.replDestroy who v h) s (fun t =>
    tget (t.vale v).tm.groups (hIdx h) = none ∧ (∀ j, j ≠ hIdx h → groupOf t v j = groupOf s v j) ∧ t.resp.status = .ok ∧
    (t.vale v).path = (s.vale v).path ∧ t.mem = s.mem)) ∧
  (∀ who v bs s, glenServes s = true → (replWriteOp who v bs).status s = .ok → Completes (.replWrite who v bs) s (fun t =>
    let g := hIdx (BitVec.ofNat 32 (beNat (sliceD bs 0 4 0)))
    (∀ k, k < beNat (sliceD bs 6 2 0) → tget (groupOf t v g).pend (beNat (sliceD bs 4 2 0) + k) =
      some ((writtenMembers bs (beNat (sliceD bs 6 2 0))).getD k 0)) ∧
    (groupOf t v g).active = (groupOf s v g).active ∧ t.resp.status = .ok ∧ (t.vale v).path = (s.vale v).path ∧ t.mem = s.mem)) ∧
  (∀ who v r s x, glenServes s = true → (replQueryOp who v r).status s = .ok → tget s.idien.sessions who.sess = some x →
    Completes (.replQuery who v r) s (fun t => ∃ y, tget t.idien.sessions who.sess = some y ∧
      tget y.replQuery (valeNum v) = some (beBytes 6 r.toNat) ∧ t.resp.status = .ok ∧ t.mem = s.mem ∧ t.dict = s.dict ∧
      t.east = s.east ∧ t.west = s.west)) ∧
  (∀ who v (p : Fin 16384) r s, glenServes s = true → (policerWriteOp who v p r).status s = .ok → Completes (.policerWrite who v p r) s (fun t =>
    numD t (policerKey v p) 0 = policerIn r.toNat ∧ (∃ x, tget (t.vale v).tm.polices p = some x ∧ x.load = true) ∧ t.mem = s.mem)) ∧
  (∀ r x, x.load = true → policerTick r x = { act := r, tc := poCbs r * 65536, te := poEbs r * 65536 }) ∧
  (∀ who v (r : Rec 6) s, glenServes s = true → (replApplyOp who v r).status s = .ok → Completes (.replApply who v r) s (fun t =>
    (groupOf t v (hIdx (BitVec.ofNat 32 (recField 6 0 4 r.toNat)))).active =
      pendMembers (groupOf s v (hIdx (BitVec.ofNat 32 (recField 6 0 4 r.toNat)))) (recField 6 4 2 r.toNat) ∧
    (t.vale v).path = (s.vale v).path ∧ t.mem = s.mem)) ∧
  (∀ who v s, glenServes s = true → (telemLogOp who v).status s = .ok → Completes (.telemLogRead who v) s (fun t =>
    t.resp.payload = ((s.vale v).tm.log.reverse).flatten ∧ (t.vale v).tm.log = [] ∧ t.mem = s.mem ∧ t.dict = s.dict))

/-- R232, R234: single and two rate marking. A packet of `b` units with incoming colour `inn` is green, yellow or red as the counts
allow, and takes from the counts of its colour. -/
def Sys2Proof.Claims.PolicerColours : Prop :=
  ∀ (x : Policer) (b inn : Nat),
    (poMode x.act = 1 → bitOf (poFlags x.act) 0 = false →
      (b ≤ x.tc → colourOf x b inn = (0, { x with tc := x.tc - b })) ∧
      (x.tc < b → b ≤ x.te → colourOf x b inn = (1, { x with te := x.te - b })) ∧
      (x.tc < b → x.te < b → colourOf x b inn = (2, x))) ∧
    (poMode x.act = 2 → bitOf (poFlags x.act) 0 = false →
      (x.te < b → colourOf x b inn = (2, x)) ∧
      (b ≤ x.te → x.tc < b → colourOf x b inn = (1, { x with te := x.te - b })) ∧
      (b ≤ x.te → b ≤ x.tc → colourOf x b inn = (0, { x with te := x.te - b, tc := x.tc - b }))) ∧
    (bitOf (poFlags x.act) 0 = true → inn = 2 → colourOf x b inn = (2, x)) ∧
    (bitOf (poFlags x.act) 0 = true → inn = 1 → (colourOf x b inn).1 ≠ 0)

/-- R232, R234: the packet that has left the match stages first is policed by its policer, counted, dropped with 0x09 when it is red and the
policer drops red, and goes on otherwise; without a policer it goes on. -/
def Sys2Proof.Claims.PoliceStep : Prop :=
  ∀ (v : Vale) (s : State) i p, s.err.failStop = false → (s.vale v).path.stopped = false → oldestAt s v .exited = some i →
    pktAt s v i = some p →
    (recHandle p 9 = 0 → exec (.police v) s = .next (afterPolice s v i p) ∧ Completes (.police v) s (fun t =>
      (∃ x, pktAt t v i = some x ∧ x.loc = (if recBits p 10 0 32 ≠ 0 then .policed else towardQueue v (recHandle p 8)) ∧
        x.bytes = p.bytes ∧ x.words = p.words) ∧
      t.mem = s.mem ∧ t.dict = s.dict)) ∧
    (recHandle p 9 ≠ 0 → (handleFits (recHandle p 9) (policerKind v) && objLive s (recHandle p 9)) = true → p.tail = true → ∃ c a,
      c = colourOf (tgetD (s.vale v).tm.polices (hIdx (recHandle p 9)) {})
        ((max (((p.bytes.length + 4 : Nat) : Int) + poOverhead (tgetD (s.vale v).tm.polices (hIdx (recHandle p 9)) {}).act) 1).toNat * 65536)
        (recBits p 9 32 2) ∧
      tget (a.vale v).tm.polices (hIdx (recHandle p 9)) = some c.2 ∧ a.mem = s.mem ∧ (a.vale v).path = (s.vale v).path ∧
      (c.1 = 2 → bitOf (poFlags (tgetD (s.vale v).tm.polices (hIdx (recHandle p 9)) {}).act) 1 = true →
        exec (.police v) s = .next (dropPkt a v i 0x09) ∧ Completes (.police v) s (fun t => pktAt t v i = none ∧ t.mem = s.mem)) ∧
      (c.1 ≠ 2 ∨ bitOf (poFlags (tgetD (s.vale v).tm.polices (hIdx (recHandle p 9)) {}).act) 1 = false →
        exec (.police v) s = .next (afterPolice a v i p) ∧ Completes (.police v) s (fun t =>
          (∃ x, pktAt t v i = some x ∧ x.loc = (if recBits p 10 0 32 ≠ 0 then .policed else towardQueue v (recHandle p 8)) ∧
        x.bytes = p.bytes ∧ x.words = p.words) ∧
          t.mem = s.mem)))

/-- R235, R237: a new gate list governs from its change time on, and the entry that device time stands in governs after each
interval. -/
def Sys2Proof.Claims.GateLists : Prop :=
  (∀ v (n : Fin 8) s t l, (gateOf s v n).next = some (t, l) → t ≤ nowNs s → Completes (.gateListChange v n) s (fun u =>
    (gateOf u v n).act = l ∧ (gateOf u v n).next = none ∧ (gateOf u v n).pos = (gatePos s l).1 ∧
    (∀ j, j ≠ n.val → gateOf u v j = gateOf s v j) ∧ u.mem = s.mem ∧ u.dict = s.dict)) ∧
  (∀ v (n : Fin 8) s, (gateOf s v n).act.enable = true → Completes (.gateEntryEnd v n) s (fun u =>
    (gateOf u v n).pos = (gatePos s (gateOf s v n).act).1 ∧ (gateOf u v n).act = (gateOf s v n).act ∧
    (gateOf u v n).next = (gateOf s v n).next ∧ u.mem = s.mem ∧ u.dict = s.dict))

/-- R242: the engine replicates the packet at the head of its input queue; with a stale group it is dropped with 0x0E; a packet that
finds the input queue full is dropped with 0x0A and counted. -/
def Sys2Proof.Claims.ReplicationStep : Prop :=
  (∀ v s i p, s.err.failStop = false → (s.vale v).path.stopped = false → countAt s v .policed = 0 → oldestAt s v .repl = some i →
    pktAt s v i = some p → (p.tail = true ∨ p.discarded = true) →
    ((handleFits (recHandle p 10) (groupKind v) && objLive s (recHandle p 10)) = false →
      exec (.replicate v) s = .next (dropPkt s v i 0x0E)) ∧
    ((handleFits (recHandle p 10) (groupKind v) && objLive s (recHandle p 10)) = true →
      exec (.replicate v) s = .next (replicateOne s v i p (recHandle p 10))) ∧
    Completes (.replicate v) s (fun t => pktAt t v i = none ∧ t.mem = s.mem)) ∧
  (∀ v s i p, pktAt s v i = some p → pktAt (replicateOne s v i p (recHandle p 10)) v i = none) ∧
  (∀ v s i k, oldestAt s v .policed = some i → 2048 ≤ countAt s v .repl →
    admitRepl (k + 1) v s = admitRepl k v (dropPkt (count s (vkey v 0x4630 8)) v i 0x0A))

/-- R244, R245, R291, R295: EN starts the telemetry ring with a legal size and a vector of PF0's table; size and SPACE stand while it runs;
a host write while PF0 is not served is discarded; a sample of a watched queue is delivered and its high-water mark restarts. -/
def Sys2Proof.Claims.Telemetry : Prop :=
  (∀ v (w : U32) host s, (host = true → fnServes s 0 = true) →
    (s.vale v).tm.ring.en = false → bitOf w.toNat 31 = true → 6 ≤ bitsOf w.toNat 16 4 → bitsOf w.toNat 16 4 ≤ 15 →
    (bitOf w.toNat 30 = false → (s.vale v).tm.ring.baseHi.toNat < 0x10000) →
    (bitOf w.toNat 30 = true → bitsOf w.toNat 0 11 < msixSize s 0) → Completes (.telemRingEnable v ⟨w, host⟩) s (fun t =>
      (t.vale v).tm.ring = { (s.vale v).tm.ring with
        en := true, prod := 0, cons := 0, phase := true, space := bitOf w.toNat 30, log2 := bitsOf w.toNat 16 4
        intEn := bitOf w.toNat 29, vector := bitsOf w.toNat 0 11 } ∧ t.mem = s.mem ∧ t.dict = s.dict)) ∧
  (∀ v (w : U32) host s, (host = true → fnServes s 0 = true) →
    (s.vale v).tm.ring.en = true → Completes (.telemRingEnable v ⟨w, host⟩) s (fun t =>
      (t.vale v).tm.ring.space = (s.vale v).tm.ring.space ∧ (t.vale v).tm.ring.log2 = (s.vale v).tm.ring.log2 ∧
      (t.vale v).tm.ring.prod = (s.vale v).tm.ring.prod ∧ (t.vale v).tm.ring.en = bitOf w.toNat 31)) ∧
  (∀ v (w : U32) host s, (host = true → fnServes s 0 = true) → (s.vale v).tm.ring.en = false → bitOf w.toNat 30 = true →
    msixSize s 0 ≤ bitsOf w.toNat 0 11 → Completes (.telemRingEnable v ⟨w, host⟩) s (fun t => (t.vale v).tm.ring.en = false ∧
      (t.vale v).tm.ring.vector = (s.vale v).tm.ring.vector)) ∧
  (∀ v (w : U32) s, fnServes s 0 = false → exec (.telemRingEnable v ⟨w, true⟩) s = .next s) ∧
  (∀ v (w : Fin 4096) s h n, recField 8 0 4 (numD s (watchKey v w) 0) = h → h ≠ 0 → h < 2 ^ 32 →
    (s.time.ticks - tgetD (s.vale v).tm.watchAt w 0) / max 1 (watchTicks (numD s (watchKey v w) 0)) = n → n ≠ 0 → s.err.failStop = false →
    Completes (.telemSample v w) s (fun t => (tmQueue t v (hIdx (BitVec.ofNat 32 h))).high = 0 ∧
      tget (t.vale v).tm.watchAt w = some (tgetD (s.vale v).tm.watchAt w 0 + n * watchTicks (numD s (watchKey v w) 0))))

/-- Every part holds: PolicerGroupObjects, Telemetry. -/
def Obligations.PolicersGroupsTelemetry : Prop :=
  Claims.PolicerGroupObjects ∧ Claims.Telemetry

/-- Every part holds: PolicerColours, PoliceStep. -/
def Obligations.Policing : Prop :=
  Claims.PolicerColours ∧ Claims.PoliceStep

/-- Every part holds: GateLists, ReplicationStep. -/
def Obligations.GatesAndReplication : Prop :=
  Claims.GateLists ∧ Claims.ReplicationStep

/-! ### Chapter 10: Saddle slots, ports and regions -/

namespace Sys2Proof.Machine

/-- What a slot event leaves alone: the other slots, the ports, the regions, the dictionary, the memories, the Vales. -/
def OnlySlot (s t : State) (q : Nat) : Prop :=
  (∀ j, j ≠ q → slotOf t j = slotOf s j) ∧ t.saddle.ports = s.saddle.ports ∧ t.saddle.regions = s.saddle.regions ∧ t.dict = s.dict ∧
  t.mem = s.mem ∧ t.hmem = s.hmem ∧ t.east = s.east ∧ t.west = s.west

/-- A load has failed with a status: the slot is Failed with that result and its FPGA is being cleared; only the slot and its
even port change. -/
def LoadFailed (s t : State) (q : Nat) (st : Status) : Prop :=
  slotOf t q = { clearCfg s (slotDown (slotOf s q) .failed) with result := st } ∧ (sportOf t (2 * q)).link = false ∧
  (∀ j, j ≠ q → slotOf t j = slotOf s j) ∧ (∀ j, j ≠ 2 * q → sportOf t j = sportOf s j) ∧ t.saddle.regions = s.saddle.regions ∧
  t.dict = s.dict ∧ t.mem = s.mem ∧ t.hmem = s.hmem ∧ t.east = s.east ∧ t.west = s.west

end Sys2Proof.Machine

/-- R252, R255, R257, R264, R267, R268, R273, R274, R276, R279: the dictionary's Saddle objects are served; SLOT_POWER switches a present
card's power, SLOT_UNLOAD empties the slot, REGION_CREATE starts a region's release, REGION_DESTROY isolates it or frees it at once,
SADDLE_PORT_RESET resets a port that runs; a window is kept without its reserved bits, SG_INVALIDATE only drops cached page entries (both
are answered when the host writes translated before them are gone), REGION_FAULT is returned and its first fault cleared. -/
def Sys2Proof.Claims.SaddleObjects : Prop :=
  (∀ who q m, Serves (.slotModeWrite who q m) (slotModeOp who q m)) ∧
  (∀ who q x y, Serves (.slotPower who q x y) (slotPowerOp who q x y)) ∧
  (∀ who r, Serves (.slotLoad who r) (slotLoadOp who r)) ∧
  (∀ who q, Serves (.slotUnload who q) (slotUnloadOp who q)) ∧
  (∀ who r, Serves (.regionCreate who r) (regionCreateOp who r)) ∧
  (∀ who h, Serves (.regionDestroy who h) (regionDestroyOp who h)) ∧
  (∀ who o w r s, glenServes s = true → (windowOp who o w r).status s = .ok →
    (gateBusy s [windowKey o w] = false → exec (.windowWrite who o w r) s = .next (runOp (windowOp who o w r) s)) ∧
    (gateBusy s [windowKey o w] = true → Completes (.windowWrite who o w r) s (fun t =>
      t.saddle.gateWaits = s.saddle.gateWaits ++ [{ wins := [windowKey o w], req := none }] ∧ t.resp = s.resp))) ∧
  (∀ who r s, glenServes s = true → (sgInvalidateOp who r).status s = .ok →
    (gateBusy s [sgInvalKey r] = false → exec (.sgInvalidate who r) s = .next (runOp (sgInvalidateOp who r) s)) ∧
    (gateBusy s [sgInvalKey r] = true → Completes (.sgInvalidate who r) s (fun t =>
      t.saddle.gateWaits = s.saddle.gateWaits ++ [{ wins := [sgInvalKey r], req := none }] ∧ t.resp = s.resp))) ∧
  (∀ who p, Serves (.saddlePortReset who p) (saddlePortResetOp who p)) ∧
  (∀ who r, Serves (.regionFaultRead who r) (regionFaultOp who r)) ∧
  (∀ who (q : Fin 4) s, glenServes s = true → (slotPowerOp who q 0 true).status s = .ok → Completes (.slotPower who q 0 true) s (fun t =>
    (slotOf t q).st = .off ∧ (slotOf t q).pwrEn = false ∧ (slotOf t q).present = true ∧ (slotOf t q).shell = [] ∧
    (sportOf t (2 * q.val)).link = false ∧ numD t (okey 0x6801 q) 0 = 0 ∧ t.resp.status = .ok)) ∧
  (∀ who (q : Fin 4) b s, glenServes s = true → (slotPowerOp who q 1 b).status s = .ok → Completes (.slotPower who q 1 b) s (fun t =>
    numD t (okey 0x6801 q) 0 = 1 ∧ t.resp.status = .ok ∧ t.saddle.ports = s.saddle.ports ∧ t.mem = s.mem ∧
    slotOf t q = (if (slotOf s q).st = .off ∧ b = true ∧ slotMode s q ≠ 0 then
      { slotOf s q with present := true, st := .empty, powering := true, pwrEn := true } else { slotOf s q with present := b }))) ∧
  (∀ who r s, glenServes s = true → (regionCreateOp who r).status s = .ok → Completes (.regionCreate who r) s (fun t =>
    ∃ i x, (allocIndex s 5).map (·.1) = some i ∧ regionOf t i = some x ∧ x.conf = recClear 24 [(3, 1), (18, 6)] r.toNat ∧
      x.st = .isolated ∧ x.opening = true ∧ x.enable = true ∧ x.isoReq = false ∧ (∀ j, j ≠ i → regionOf t j = regionOf s j) ∧
      t.resp.status = .ok ∧ t.resp.payload = beBytes 4 (handleOf s 5 i).toNat ∧ t.saddle.slots = s.saddle.slots ∧ t.mem = s.mem)) ∧
  (∀ who h s x, glenServes s = true → (regionDestroyOp who h).status s = .ok → regionOf s (hIdx h) = some x → x.st ≠ .recovering →
    ((x.st = .open_ ∨ x.opening = true) → x.iso ≠ some .destroy → x.byWrite = false → x.resetting = false →
      Completes (.regionDestroy who h) s (fun t => regionOf t (hIdx h) =
        some { x with iso := some .destroy, opening := false, isoReq := true, enable := false } ∧
        (∀ j, j ≠ hIdx h → regionOf t j = regionOf s j) ∧ t.resp.status = .ok ∧ t.mem = s.mem)) ∧
    (x.st = .isolated → x.opening = false → x.iso = none → Completes (.regionDestroy who h) s (fun t =>
      regionOf t (hIdx h) = none ∧ (∀ j, j ≠ hIdx h → regionOf t j = regionOf s j) ∧ t.resp.status = .ok ∧ t.mem = s.mem))) ∧
  (∀ who (p : Fin 8) s, glenServes s = true → (saddlePortResetOp who p).status s = .ok →
    (portResets s p = false → exec (.saddlePortReset who p) s = .next (respond s .ok 0 [])) ∧
    (portResets s p = true → (resetsWithin s p).length < 4 → p.val % 2 = 0 → Completes (.saddlePortReset who p) s (fun t =>
      (sportOf t p).link = false ∧ (sportOf t p).resets = ((sportOf s p).resets + 1) % 2 ^ 32 ∧ (sportOf t p).waits = [] ∧
      (slotOf t (p.val / 2)).st = .linking ∧ (slotOf t (p.val / 2)).clampN = false ∧ t.resp.status = .ok ∧
      (∀ r x, regionOf s r = some x → rgPort x.conf = p.val → x.iso ≠ some .destroy → ∃ y, regionOf t r = some y ∧
        y.st = .recovering ∧ y.enable = false ∧ y.isoReq = true ∧ y.queue = [])))) ∧
  (∀ who h s x, glenServes s = true → regionResetSt who h s = .ok → regionOf s (hIdx h) = some x → x.st = .open_ →
    x.iso ≠ some .destroy → Completes (.regionReset who h) s (fun t => regionOf t (hIdx h) =
      some { x with byWrite := true, iso := some .reset, opening := false, isoReq := true, enable := false } ∧
      (∀ j, j ≠ hIdx h → regionOf t j = regionOf s j) ∧ t.saddle.slots = s.saddle.slots ∧ t.dict = s.dict ∧ t.mem = s.mem)) ∧
  (∀ who h s, glenServes s = true → (regionResetSt who h s = .ok →
      exec (.regionReset who h) s = .next (isolateFor (modRegion s (hIdx h) (fun x => { x with byWrite := true })) (hIdx h) .reset)) ∧
    (regionResetSt who h s ≠ .ok → exec (.regionReset who h) s = .next (respond s (regionResetSt who h s) 0 []))) ∧
  (∀ who (r : Rec 24) s, glenServes s = true → (slotLoadOp who r).status s = .ok → Completes (.slotLoad who r) s (fun t =>
    OnlySlot s t (recField 24 0 1 r.toNat) ∧ (slotOf t (recField 24 0 1 r.toNat)).st = .verifying ∧
    (slotOf t (recField 24 0 1 r.toNat)).owner = BitVec.ofNat 32 (recField 24 4 4 r.toNat))) ∧
  (∀ who (q : U8) s, glenServes s = true → (slotUnloadOp who q).status s = .ok → Completes (.slotUnload who q) s (fun t =>
    (slotOf t q.toNat).st = .empty ∧ (slotOf t q.toNat).shell = [] ∧ (slotOf t q.toNat).clampN = false ∧ (sportOf t (2 * q.toNat)).link = false ∧
    t.saddle.regions = s.saddle.regions ∧ t.dict = s.dict ∧ t.mem = s.mem)) ∧
  (∀ who o w r s, glenServes s = true → (windowOp who o w r).status s = .ok → Completes (.windowWrite who o w r) s (fun t =>
    numD t (windowKey o w) 0 = windowIn r.toNat ∧ (∀ j, j ≠ windowKey o w → numD t j 0 = numD s j 0) ∧
    windowKey o w ∉ t.saddle.badWindows ∧ t.saddle.regions = s.saddle.regions ∧ t.saddle.slots = s.saddle.slots ∧ t.mem = s.mem)) ∧
  (∀ who r s, glenServes s = true → (sgInvalidateOp who r).status s = .ok → Completes (.sgInvalidate who r) s (fun t =>
    t.saddle.regions = s.saddle.regions ∧ t.saddle.slots = s.saddle.slots ∧ t.dict = s.dict ∧ t.mem = s.mem ∧
    ∀ p a e, cachedPage (sportOf t p) a = some e → cachedPage (sportOf s p) a = some e)) ∧
  (∀ who (r : Fin 64) x s, glenServes s = true → (regionFaultOp who r).status s = .ok → regionOf s r = some x →
    Completes (.regionFaultRead who r) s (fun t => t.resp.payload = beBytes 8 x.faults ++ beBytes 16 x.first ∧
      regionOf t r = some { x with first := 0 } ∧ (∀ j, j ≠ r.val → regionOf t j = regionOf s j) ∧ t.dict = s.dict ∧ t.mem = s.mem))

/-- R255, R257-R259: the ways of a slot from power to a configured FPGA, and what each failure leaves. -/
def Sys2Proof.Claims.SlotLoading : Prop :=
  (∀ (q : Fin 4) s, (slotOf s q).powering = true → Completes (.slotPgoodRise q) s (fun t => OnlySlot s t q ∧
    slotOf t q = { slotOf s q with powering := false })) ∧
  (∀ (q : Fin 4) s, (slotOf s q).powering = true → Completes (.slotPgoodTimeout q) s (fun t => OnlySlot s t q ∧
    slotOf t q = { slotDown (slotOf s q) .failed with pwrEn := false, result := .timeout })) ∧
  (∀ (q : Fin 4) s, (slotOf s q).st ≠ .off → s.err.failStop = false →
    exec (.slotPgoodFall q) s = .next (slotFails (isolateAll s q) q 6) ∧
    ((handlerAt (isolateAll s q) (handlerKey 3 4 (2 * q.val))).active = none → Completes (.slotPgoodFall q) s (fun t =>
      (slotOf t q).st = .failed ∧ (slotOf t q).clampN = false ∧ (sportOf t (2 * q.val)).link = false))) ∧
  (∀ q k r s, (slotOf (slotFailAct q k 3 r s) q).st = .failed ∧ (slotOf (slotFailAct q k 3 r s) q).clampN = false) ∧
  (∀ (q : Fin 4) s, (slotOf s q).st = .verifying → s.vault.up = true → s.err.failStop = false →
    (manifestCheck s q (slotOf s q).owner (slotOf s q).bitAddr (manifestAt s (slotOf s q).manAddr) = .ok →
      Completes (.manifestVerified q) s (fun t => OnlySlot s t q ∧ (slotOf t q).st = .configuring ∧ (slotOf t q).cfg = .clearing ∧ (slotOf t q).progN = false ∧
        (slotOf t q).manifest = manifestAt s (slotOf s q).manAddr)) ∧
    (∀ st, st ≠ .ok → manifestCheck s q (slotOf s q).owner (slotOf s q).bitAddr (manifestAt s (slotOf s q).manAddr) = st →
      Completes (.manifestVerified q) s (fun t => OnlySlot s t q ∧ slotOf t q = { slotOf s q with st := .empty, result := st }))) ∧
  (∀ s q o bit m, manifestCheck s q o bit m = .ok →
    Config.verify (octD s (okey 0x6807 (manField m 6 1))) (Config.sha384 (m.take (124 + 8 * manN m)))
      ((m.drop (124 + 8 * manN m)).take 96) = true ∧
    manField m 0 4 = 0x53444D46 ∧ manField m 4 1 = 1 ∧ numD s (okey 0x6808 (manField m 6 1)) 0 ≤ manField m 8 4 ∧
    manField m 12 4 = numD s (okey 0x6802 q) 0 ∧ anchorFits s o m = true) ∧
  (∀ (q : Fin 4) s, (slotOf s q).st = .configuring → (slotOf s q).cfg = .clearing →
    ((slotOf s q).progN = true → Completes (.cfgInitRise q) s (fun t => OnlySlot s t q ∧
      slotOf t q = { slotOf s q with cfg := .shifting, cfgStart := tickNs s })) ∧
    Completes (.cfgInitTimeout q) s (fun t => LoadFailed s t q .timeout)) ∧
  (∀ (q : Fin 4) s, (slotOf s q).st = .configuring → (slotOf s q).cfg = .shifting →
    (allShifted s (slotOf s q) = false → Completes (.cfgInitFall q) s (fun t => LoadFailed s t q .range)) ∧
    (allShifted s (slotOf s q) = true → exec (.cfgInitFall q) s = .next s)) ∧
  (∀ (q : Fin 4) s, (slotOf s q).st = .configuring → (slotOf s q).cfg = .shifting →
    (allShifted s (slotOf s q) = true → Completes (.cfgDoneTimeout q) s (fun t => LoadFailed s t q .timeout)) ∧
    (Config.sha384 (readInt s (slotOf s q).bitAddr (bitLen (slotOf s q).manifest)) ≠ ((slotOf s q).manifest.drop 28).take 48 →
      Completes (.cfgDone q) s (fun t => LoadFailed s t q .access)) ∧
    (Config.sha384 (readInt s (slotOf s q).bitAddr (bitLen (slotOf s q).manifest)) = ((slotOf s q).manifest.drop 28).take 48 →
      Completes (.cfgDone q) s (fun t => (slotOf t q).st = .linking ∧ (sportOf t (2 * q)).perstN = true ∧
        (∀ j, j ≠ q.val → slotOf t j = slotOf s j) ∧ (∀ j, j ≠ 2 * q.val → sportOf t j = sportOf s j) ∧
        t.saddle.regions = s.saddle.regions ∧ t.dict = s.dict ∧ t.mem = s.mem)))

/-- R260-R263, R276, R277: links, the negotiation with the shell, and link power. -/
def Sys2Proof.Claims.SaddleLinks : Prop :=
  (∀ (p : Fin 8) a b s, s.err.failStop = false → portFormedSaddle s p = true → saddleRetired s p = false → (sportOf s p).link = false →
    s.err.portTest ≠ some p.val → linkFits s p a.toNat b.toNat = true →
    (p.val % 2 = 0 → (slotOf s (p.val / 2)).st = .linking → Completes (.saddleLinkUp p a b) s (fun t =>
      (slotOf t (p.val / 2)).st = .negotiating ∧ (sportOf t p).link = true ∧ (sportOf t p).speed = a.toNat ∧ (sportOf t p).width = b.toNat ∧
      (∀ j, j ≠ p.val → sportOf t j = sportOf s j) ∧ t.saddle.regions = s.saddle.regions ∧ t.dict = s.dict ∧ t.mem = s.mem)) ∧
    (p.val % 2 = 1 → (slotOf s (p.val / 2)).st ≠ .off → (slotOf s (p.val / 2)).st ≠ .failed → Completes (.saddleLinkUp p a b) s (fun t =>
      (sportOf t p).link = true ∧ t.saddle.slots = s.saddle.slots ∧ (∀ j, j ≠ p.val → sportOf t j = sportOf s j) ∧
      t.saddle.regions = s.saddle.regions ∧ t.dict = s.dict ∧ t.mem = s.mem))) ∧
  (∀ (p : Fin 8) s, p.val % 2 = 0 → (slotOf s (p.val / 2)).st = .linking →
    Completes (.saddleLinkTimeout p) s (fun t => LoadFailed s t (p.val / 2) .timeout)) ∧
  (∀ (p : Fin 8) s, p.val % 2 = 0 → (slotOf s (p.val / 2)).st = .negotiating →
    Completes (.shReadyTimeout p) s (fun t => LoadFailed s t (p.val / 2) .timeout)) ∧
  (∀ (p : Fin 8) o s, p.val % 2 = 0 → (slotOf s (p.val / 2)).st = .negotiating → s.err.failStop = false →
    (∀ st, st ≠ .ok → (negotiateShell (slotOf s (p.val / 2)).manifest o).1 = st →
      Completes (.shReady p o) s (fun t => LoadFailed s t (p.val / 2) st)) ∧
    ((negotiateShell (slotOf s (p.val / 2)).manifest o).1 = .ok → (slotOf s (p.val / 2)).relink = false →
      Completes (.shReady p o) s (fun t => OnlySlot s t (p.val / 2) ∧ slotOf t (p.val / 2) = { slotOf s (p.val / 2) with
        st := .ready, clampN := true, relink := false, result := .ok
        sel := 2 ^ 31 + (negotiateShell (slotOf s (p.val / 2)).manifest o).2.1
        version := (negotiateShell (slotOf s (p.val / 2)).manifest o).2.1, shell := (negotiateShell (slotOf s (p.val / 2)).manifest o).2.2 }))) ∧
  (∀ m o, (negotiateShell m o).1 = .ok → o.magic = 0x53445348#32 ∧
    (∃ a b, negotiate [(1, 0), (2, 1)] (shellOffers o.offer) = some (a, b) ∧ (negotiateShell m o).2.1 = a * 256 + b ∧
      manField m 24 1 ≤ a ∧ a ≤ manField m 25 1) ∧
    ∀ g, g ∈ enumRegions (negotiateShell m o).2.2 ↔ g ∈ manRegions m) ∧
  (∀ (p : Fin 8) s, p.val % 2 = 0 → (slotOf s (p.val / 2)).st = .negotiating ∨ (slotOf s (p.val / 2)).st = .ready → s.err.failStop = false →
    exec (.saddleCplTimeout p) s = .next (portError (rootAer s p 14) p 3) ∧
    ((handlerAt s (handlerKey 2 4 p)).active = none → (resetsWithin s p).length < 4 → Completes (.saddleCplTimeout p) s (fun t =>
      (sportOf t p).link = false ∧ (slotOf t (p.val / 2)).st = .linking))) ∧
  (∀ (p : Fin 8) s, (sportOf s p).link = true → s.err.failStop = false → exec (.saddleLinkDown p) s = .next (portError s p 4) ∧
    (p.val % 2 = 0 → (handlerAt s (handlerKey 2 4 p)).active = none → portResets s p = true → (resetsWithin s p).length < 4 →
      Completes (.saddleLinkDown p) s (fun t => (sportOf t p).link = false ∧ (slotOf t (p.val / 2)).st = .linking))) ∧
  (∀ (p : Fin 8) s, (sportOf s p).link = true → (sportOf s p).pstate = 0 → numD s (okey 0x6822 p) 0 ≠ 0 → Completes (.saddleL1Entry p) s (fun t =>
    (sportOf t p).pstate = numD s (okey 0x6822 p) 0 ∧ (sportOf t p).link = true ∧ (∀ j, j ≠ p.val → sportOf t j = sportOf s j) ∧
    t.saddle.slots = s.saddle.slots ∧ t.saddle.regions = s.saddle.regions ∧ t.mem = s.mem)) ∧
  (∀ (p : Fin 8) s, (sportOf s p).pstate ≠ 0 → Completes (.saddleL1Exit p) s (fun t =>
    sportOf t p = { sportOf s p with pstate := 0, clkreqN := false } ∧ (∀ j, j ≠ p.val → sportOf t j = sportOf s j) ∧
    t.saddle.slots = s.saddle.slots ∧ t.saddle.regions = s.saddle.regions ∧ t.mem = s.mem))

/-- R265, R273-R275: the release of a region, its isolation, and its reset. -/
def Sys2Proof.Claims.RegionSequences : Prop :=
  (∀ (r : Fin 64) s x, regionOf s r = some x → x.opening = true → (slotOf s (rgSlot x.conf)).st = .ready → s.err.failStop = false →
    Completes (.isoAckFall r) s (fun t => regionOf t r = some { x with
      st := .open_, opening := false, iso := none, credit := if rgPkt s x then (x.taken + 8) % 65536 else x.credit } ∧
      (∀ j, j ≠ r.val → regionOf t j = regionOf s j) ∧ t.saddle.slots = s.saddle.slots ∧ t.dict = s.dict ∧ t.mem = s.mem)) ∧
  (∀ (r : Fin 64) s x why, regionOf s r = some x → x.iso = some why → s.err.failStop = false →
    exec (.isoAckSet r) s = .next (afterIso (closeRegion s r) r why) ∧
    exec (.isoAckTimeout r) s = .next (afterIso (isoErr (closeRegion s r) "SADDLE_ISO_TIMEOUT" r x 3) r why) ∧
    (why = .halt → Completes (.isoAckSet r) s (fun t => ∃ y, regionOf t r = some y ∧ y.st = .isolated ∧ y.iso = none ∧ y.isoReq = true)) ∧
    (why = .destroy → Completes (.isoAckSet r) s (fun t => regionOf t r = none) ∧
      Completes (.isoAckTimeout r) s (fun t => regionOf t r = none)) ∧
    (why = .reset → 0x0201 ≤ (slotOf s (rgSlot x.conf)).version → Completes (.isoAckSet r) s (fun t =>
      ∃ y, regionOf t r = some y ∧ y.st = .isolated ∧ y.resetting = true ∧ y.rgReset = true)) ∧
    (why = .halt → rgOwner x.conf = 0 → (handlerAt (closeRegion s r) (handlerKey 2 4 (rgPort x.conf))).active = none →
      Completes (.isoAckTimeout r) s (fun t => ∃ y, regionOf t r = some y ∧ y.st = .isolated ∧ y.isoReq = true))) ∧
  (∀ s r y, regionOf (closeRegion s r) r = some y → y.st = .isolated ∧ y.iso = none ∧ y.isoReq = true ∧ y.enable = false) ∧
  (∀ s r, regionOf (afterIso s r .destroy) r = none) ∧
  (∀ s r x, regionOf s r = some x → 0x0201 ≤ (slotOf s (rgSlot x.conf)).version →
    ∃ y, regionOf (afterIso s r .reset) r = some y ∧ y = { x with resetting := true, rgReset := true }) ∧
  (∀ (r : Fin 64) s x, regionOf s r = some x → x.resetting = true →
    Completes (.resetDone r) s (fun t => regionOf t r = some { x with
      byWrite := false, byReq := none, opening := true, isoReq := false, enable := true, iso := none, resetting := false, rgReset := false } ∧
      (x.byWrite = true → t.resp.status = .ok) ∧ (∀ j, j ≠ r.val → regionOf t j = regionOf s j) ∧ t.mem = s.mem) ∧
    Completes (.resetDoneTimeout r) s (fun t => regionOf t r = some { x with resetting := false, byWrite := false, byReq := none } ∧
      (x.byWrite = true → t.resp.status = .timeout) ∧ (∀ j, j ≠ r.val → regionOf t j = regionOf s j) ∧ t.mem = s.mem))

/-- A write request passes the page entry `e` of a window `n` whose target is internal memory. -/
def Sys2Proof.Machine.WriteOpen (s : State) (n e : Nat) (q : SgReq) (bs : List Byte) : Prop :=
  bitOf e 0 = true ∧ bitOf (wdFlags n) 1 = true ∧ bitOf e 1 = true ∧ wdHost n = false ∧
  e / 4096 * 4096 + q.addr.toNat % 4096 < 2 ^ 48 ∧ inDdrHbm s (e / 4096 * 4096 + q.addr.toNat % 4096) bs.length = true

/-- R251, R266-R270: a request of attached logic is attributed, charged or queued, and translated; what each failure does. -/
def Sys2Proof.Claims.SaddleRequests : Prop :=
  (∀ (p : Fin 8) q s, s.err.failStop = false → p.val % 2 = 0 → (sportOf s p).link = true → (sportOf s p).pstate = 0 → portStalled s p = false →
    (512 < sgDataLen q → exec (.saddleRequest p q) s = .next (malformedTlp s p)) ∧ (sgDataLen q ≤ 512 →
    (sgRegion s p q = none → exec (.saddleRequest p q) s = .next (count (sgReject s p q) (okey 0x6825 1))) ∧
    (∀ r x, sgRegion s p q = some r → regionOf s r = some x →
      (x.st ≠ .open_ → exec (.saddleRequest p q) s = .next (sgFault s p r q 1)) ∧
      (∀ b, x.st = .open_ → q.kind = .unsupported b → exec (.saddleRequest p q) s = .next (sgFault s p r q 9)) ∧
      (x.st = .open_ → (∀ b, q.kind ≠ .unsupported b) → (x.queue ≠ [] ∨ rgMay x = false ∨ sgHeld s r x q = true) →
        exec (.saddleRequest p q) s = .next (setRegion s r { x with queue := x.queue ++ [q] })) ∧
      (x.st = .open_ → (∀ b, q.kind ≠ .unsupported b) → x.queue = [] → rgMay x = true → sgHeld s r x q = false →
        exec (.saddleRequest p q) s = .next (sgProceed s p r q))) ∧
    (sgRegion s p q = none → Completes (.saddleRequest p q) s (fun t =>
      numD t (okey 0x6825 1) 0 = (numD s (okey 0x6825 1) 0 + 1) % 2 ^ 64 ∧ t.saddle.regions = s.saddle.regions ∧ t.mem = s.mem)) ∧
    (∀ r x n a e bs, sgRegion s p q = some r → regionOf s r = some x → x.st = .open_ → q.kind = .write bs → x.queue = [] →
      rgMay x = true → sgHeld s r x q = false → sgWindow s r x q = .inr (n, a) → cachedPage (sportOf s p) a = some e →
      (sportOf s p).waits = [] → WriteOpen s n e q bs → Completes (.saddleRequest p q) s (fun t =>
        t.mem = (writeInt s (e / 4096 * 4096 + q.addr.toNat % 4096) bs).mem ∧ t.dict = s.dict)))) ∧
  (∀ (r : Fin 64) x q rest s, regionOf s r = some x → x.queue = q :: rest → s.err.failStop = false → x.st = .open_ → rgMay x = true →
    sgHeld s r x q = false →
    exec (.gateQueueRelease r) s = .next (sgProceed (setRegion s r { x with queue := rest }) (rgPort x.conf) r q) ∧
    (∀ n a e bs, q.kind = .write bs → sgWindow s r x q = .inr (n, a) → cachedPage (sportOf s (rgPort x.conf)) a = some e →
      (sportOf s (rgPort x.conf)).waits = [] → WriteOpen s n e q bs → Completes (.gateQueueRelease r) s (fun t =>
        t.mem = (writeInt s (e / 4096 * 4096 + q.addr.toNat % 4096) bs).mem ∧ (regionOf t r).map (·.queue) = some rest ∧
        t.dict = s.dict))) ∧
  (∀ (p : Fin 8) (r : Fin 64) w rest x n a s, (sportOf s p).waits = w :: rest → w.region = r.val → regionOf s r = some x → s.err.failStop = false →
    sgHeld s r x w.req = false → sgWindow s r x w.req = .inr (n, a) → cachedPage (sportOf s p) a = none →
    (poisoned s a 8 = true → exec (.pageEntryFetch p) s = .next (sgFault (modSport s p (fun y => { y with waits := rest })) p r w.req 8)) ∧
    (poisoned s a 8 = false → exec (.pageEntryFetch p) s = .next (sgTranslate
      (modSport (modSport s p (fun y => { y with waits := rest })) p (fun y => cachePage y a (beNat (readInt s a 8)))) p r n
      (beNat (readInt s a 8)) w.req)) ∧
    (∀ bs, poisoned s a 8 = false → w.req.kind = .write bs → WriteOpen s n (beNat (readInt s a 8)) w.req bs →
      Completes (.pageEntryFetch p) s (fun t => (sportOf t p).waits = rest ∧ t.dict = s.dict ∧
        t.mem = (writeInt s (beNat (readInt s a 8) / 4096 * 4096 + w.req.addr.toNat % 4096) bs).mem))) ∧
  (∀ s r x q, (2 ^ 42 ≤ q.addr.toNat → sgWindow s r x q = .inl 2) ∧
    (q.addr.toNat < 2 ^ 42 → bitOf (wdFlags (numD s (windowKey (rgOwner x.conf) (q.addr.toNat / 2 ^ 36)) 0)) 0 = false →
      sgWindow s r x q = .inl 3)) ∧
  (∀ s p r n e q, (bitOf e 0 = false → sgTranslate s p r n e q = sgFault s p r q 5) ∧
    (∀ bs, q.kind = .write bs → bitOf e 0 = true → bitOf (wdFlags n) 1 = true → bitOf e 1 = true → wdHost n = false →
      e / 4096 * 4096 + q.addr.toNat % 4096 < 2 ^ 48 → inDdrHbm s (e / 4096 * 4096 + q.addr.toNat % 4096) bs.length = true →
      sgTranslate s p r n e q = writeInt s (e / 4096 * 4096 + q.addr.toNat % 4096) bs) ∧
    (∀ bs, q.kind = .write bs → bitOf e 0 = true → (bitOf (wdFlags n) 1 = false ∨ bitOf e 1 = false) →
      sgTranslate s p r n e q = sgFault s p r q 6)) ∧
  (∀ s p (r : Fin 64) q code x, regionOf s r = some x → rgLimit x.conf = 0 → x.first = 0 → ∃ y, regionOf (sgFault s p r q code) r = some y ∧
    y.faults = (x.faults + 1) % 2 ^ 64 ∧ y.st = x.st ∧ y.first / 2 ^ 120 = code % 256)

/-- R271-R273: packets toward a region fill its receive slots; the aperture takes its packets in order; RX_CONS frees slots. -/
def Sys2Proof.Claims.RegionPackets : Prop :=
  (∀ (r : Fin 64) x v i p s, regionOf s r = some x → towardRegion s r = some (v, i) → pktAt s v i = some p → regionOpen x = true →
    (sportOf s (rgPort x.conf)).pstate = 0 → rxHeld x < rxSlots s x →
    (rxSlotBytes s x < p.out.length + 32 → exec (.saddleRxWrite r) s = .next (dropPkt (count s (okey 0x6825 2)) v i 0x0C)) ∧
    (p.out.length + 32 ≤ rxSlotBytes s x → Completes (.saddleRxWrite r) s (fun t => pktAt t v i = none ∧ t.mem = s.mem ∧
      regionOf t r = some { x with rxProd := (x.rxProd + 1) % 65536, rx := keep 8 ((rxPlace s x, rxHeader p ++ p.out) :: x.rx) } ∧
      (∀ j, j ≠ r.val → regionOf t j = regionOf s j)))) ∧
  (∀ (r : Fin 64) x off bs s, regionOf s r = some x → s.err.failStop = false → (sportOf s (rgPort x.conf)).link = true →
    (sportOf s (rgPort x.conf)).pstate = 0 → portStalled s (rgPort x.conf) = false → bs.length ≤ 512 →
    off + bs.length ≤ 131072 → bs ≠ [] → x.st = .open_ → rgPkt s x = true → rgMay x = true → x.queue = [] →
    (∃ a y, regionOf a r = some y ∧ a = rgCharge s r bs.length ∧
      exec (.apertureWrite r off bs) s = .next (aperture a r y off bs)) ∧
    (off / 16384 = apNumber x % 8 → off % 16384 = x.apOff → x.credit ≠ apNumber x → x.apLen = 0 → x.apBuf = [] → x.apPkt = none →
      (bs.length < 16 → Completes (.apertureWrite r off bs) s (fun t => ∃ z, regionOf t r = some z ∧ z.apOff = bs.length ∧ z.apBuf = bs ∧
        z.apWait = x.apWait ∧ z.credit = x.credit ∧ t.dict = s.dict ∧ t.mem = s.mem)) ∧
      (bs.length = 16 + beNat (bs.take 2) → 14 ≤ beNat (bs.take 2) → Completes (.apertureWrite r off bs) s (fun t =>
        ∃ z, regionOf t r = some z ∧ z.apOff = 0 ∧ z.apLen = 0 ∧ z.apWait = x.apWait ++ [bs.drop 16] ∧ z.credit = x.credit ∧
          t.dict = s.dict ∧ t.mem = s.mem)))) ∧
  (∀ s r x off bs, (off / 16384 ≠ apNumber x % 8 ∨ off % 16384 ≠ x.apOff ∨ x.credit = apNumber x) →
    aperture s r x off bs = apViolation s r) ∧
  (∀ (r : Fin 64) (v : U16) y s, regionOf s r = some y → y.st = .open_ → rgPkt s y = true → rgMay y = true → y.queue = [] →
    (sportOf s (rgPort y.conf)).link = true → (sportOf s (rgPort y.conf)).pstate = 0 → portStalled s (rgPort y.conf) = false →
    Completes (.rxConsWrite r v) s (fun t => ∃ z, regionOf t r = some z ∧ z.rxCons = v.toNat ∧
      z.rxProd = y.rxProd ∧ z.st = y.st ∧ z.credit = y.credit ∧ (∀ j, j ≠ r.val → regionOf t j = regionOf s j) ∧ t.dict = s.dict ∧
      t.mem = s.mem))

/-- Every part holds: SaddleObjects, SlotLoading, SaddleLinks. -/
def Obligations.SaddleSlots : Prop := Claims.SaddleObjects ∧ Claims.SlotLoading ∧ Claims.SaddleLinks

/-- Every part holds: RegionSequences, SaddleRequests, RegionPackets. -/
def Obligations.SaddleRegions : Prop := Claims.RegionSequences ∧ Claims.SaddleRequests ∧ Claims.RegionPackets


/-- R252: a write of SLOT_MODE by the operator is accepted only while the slot is in state Off; in any other state it completes with
NOT_READY and changes nothing. -/
def Obligations.SlotModeOnlyInOff : Prop :=
  ∀ who (q : Fin 4) (m : U8) s, glenServes s = true → s.err.failStop = false → who.role = .operator → m.toNat ≤ 2 →
    ((slotOf s q).st ≠ .off → exec (.slotModeWrite who q m) s = .next { s with resp := { status := .notReady } }) ∧
    ((slotOf s q).st = .off → Completes (.slotModeWrite who q m) s (fun t =>
      numD t (okey 0x6800 q) 0 = m.toNat ∧ (∀ j, j ≠ okey 0x6800 q.val → numD t j 0 = numD s j 0) ∧ t.resp = { status := .ok } ∧
      t.saddle = s.saddle ∧ t.mem = s.mem))
/-! ### Chapter 11: the host interface -/

namespace Sys2Proof.Machine

/-- Only one function of the host interface has changed. -/
def OnlyFn (s t : State) (f : Nat) : Prop :=
  (∀ g, g ≠ f → fnOf t g = fnOf s g) ∧ t.dict = s.dict ∧ t.mem = s.mem ∧ t.hmem = s.hmem ∧ t.east = s.east ∧ t.west = s.west ∧
  t.saddle.slots = s.saddle.slots ∧ t.saddle.ports = s.saddle.ports ∧ t.saddle.regions = s.saddle.regions

end Sys2Proof.Machine

/-- R283, R297: the host link comes up with one of the rates and widths of R280 and goes down, which resets every function; the reset
pin and the stored configuration. -/
def Sys2Proof.Claims.HostLink : Prop :=
  (∀ s, exec .pciePerstRise s = .next { s with host := { s.host with perstN := true } }) ∧
  (∀ s, s.boot.hostUp = true → s.err.failStop = false →
    exec .hostConfigLoaded s = .next { s with host := { s.host with configured := true } }) ∧
  (∀ s, s.boot.hostUp = true → s.host.perstN = true → s.host.link = 0 → s.err.failStop = false → Completes .hostLinkUp s (fun t =>
    t.host.link = 1 ∧ t.host.rate ∈ [64, 32, 16] ∧ t.host.width ∈ [16, 8, 1] ∧ t.host.fns = s.host.fns ∧ t.host.reqs = s.host.reqs ∧
    t.dict = s.dict ∧ t.mem = s.mem ∧ t.hmem = s.hmem)) ∧
  (∀ s, s.host.perstN = true → Completes (.hostLinkDown .perstLow) s (fun t => t.host.link = 0 ∧ t.host.perstN = false ∧
    t.host.downs = (s.host.downs + 1) % 2 ^ 32 ∧ t.mem = s.mem ∧ t.hmem = s.hmem)) ∧
  (∀ c s, c ≠ .perstLow → s.host.link ≠ 0 → Completes (.hostLinkDown c) s (fun t => t.host.link = 0 ∧ t.host.perstN = s.host.perstN ∧
    t.host.downs = (s.host.downs + 1) % 2 ^ 32 ∧ t.mem = s.mem ∧ t.hmem = s.hmem))

/-- R285, R286, R295-R297, R299, R302: virtual functions are assigned and released, a function reset runs through its steps, and
configuration writes reach the function's registers. -/
def Sys2Proof.Claims.HostFunctions : Prop :=
  (∀ who r, Serves (.vfAssign who r) (vfAssignOp who r)) ∧
  (∀ who h, Serves (.vfRelease who h) (vfReleaseOp who h)) ∧
  (∀ who h, Serves (.vfReset who h) (vfResetOp who h)) ∧
  (∀ who (r : Rec 8) s, glenServes s = true → (vfAssignOp who r).status s = .ok → Completes (.vfAssign who r) s (fun t =>
    ownerOf t 3 (recField 8 0 2 r.toNat) = some (BitVec.ofNat 32 (recField 8 4 4 r.toNat)) ∧
    t.resp.payload = beBytes 4 (handleOf s 3 (recField 8 0 2 r.toNat)).toNat ∧ t.host = s.host ∧ t.mem = s.mem)) ∧
  (∀ who h s, glenServes s = true → (vfReleaseOp who h).status s = .ok → Completes (.vfRelease who h) s (fun t =>
    (fnOf t (hIdx h + 4)).releasing = true ∧ (fnOf t (hIdx h + 4)).flr ≠ 0 ∧ genOf t 3 (hIdx h) = nextGen (genOf s 3 (hIdx h)) ∧
    t.resp.status = .ok ∧ t.mem = s.mem ∧ t.hmem = s.hmem)) ∧
  (∀ who h s, glenServes s = true → (vfResetOp who h).status s = .ok → Completes (.vfReset who h) s (fun t =>
    (fnOf t (hIdx h + 4)).flr = (if (fnOf s (hIdx h + 4)).flr = 0 then 1 else (fnOf s (hIdx h + 4)).flr) ∧
    genOf t 3 (hIdx h) = genOf s 3 (hIdx h) ∧ t.resp.status = .ok ∧ t.mem = s.mem ∧ t.hmem = s.hmem)) ∧
  (∀ (f : Fin 1028) s, cfgServes s f = true → exec (.initiateFlr f) s = .next (startFlr s f) ∧
    ((fnOf s f).flr = 0 → Completes (.initiateFlr f) s (fun t => (fnOf t f).flr = 1 ∧
      (f.val < 4 → ∀ g, g ∈ vfsOf s f → (fnOf t g).flr ≠ 0) ∧ t.mem = s.mem ∧ t.hmem = s.hmem)) ∧
    ((fnOf s f).flr ≠ 0 → exec (.initiateFlr f) s = .next s)) ∧
  (∀ s f, (fnOf s f).flr = 0 → (fnOf (startFlrOne s f) f).flr = 1) ∧
  (∀ s f, (fnOf s f).flr ≠ 0 → startFlrOne s f = s) ∧
  (∀ (f : Fin 1028) s, (fnOf s f).silenced = false → ((fnOf s f).flr = 1 ∨ (fnOf s f).flr = 0 ∧ fnHalted s f = true) →
    Completes (.functionSilenced f) s (fun t => (fnOf t f).silenced = true ∧ (∀ r, r ∈ t.host.reqs → r.fn ≠ f.val) ∧
      t.mem = s.mem ∧ t.hmem = s.hmem)) ∧
  (∀ (f : Fin 1028) s, s.saddle.gateWaits = [] → (fnOf s f).silenced = false → (fnOf s f).flr = 1 → Completes (.functionSilenced f) s (fun t => OnlyFn s t f ∧
    fnOf t f = { fnOf s f with silenced := true, flr := 2 } ∧ t.host.reqs = s.host.reqs.filter (fun r => decide (r.fn ≠ f.val)))) ∧
  (∀ (f : Fin 1028) s, s.saddle.gateWaits = [] → (fnOf s f).silenced = false → (fnOf s f).flr = 0 → fnHalted s f = true → Completes (.functionSilenced f) s (fun t =>
    OnlyFn s t f ∧ fnOf t f = { fnOf s f with silenced := true } ∧ t.host.reqs = s.host.reqs.filter (fun r => decide (r.fn ≠ f.val)))) ∧
  (∀ (f : Fin 1028) s, (fnOf s f).flr = 1 ∨ (fnOf s f).flr = 2 → (fnOf s f).silenced = true → Completes (.flrQueueReset f) s (fun t =>
    fnOf t f = fnAfterReset (fnOf s f) ∧ tget t.qe.blks f = none)) ∧
  (∀ (f : Fin 1028) s, (fnOf s f).flr = 3 → (fnOf s f).releasing = true → 4 ≤ f.val → Completes (.flrComplete f) s (fun t =>
    (fnOf t f).flr = 0 ∧ (fnOf t f).releasing = false ∧ ownerOf t 3 (f.val - 4) = none ∧ t.mem = s.mem)) ∧
  (∀ (f : Fin 1028) s, (fnOf s f).flr = 3 → (fnOf s f).releasing = false → Completes (.flrComplete f) s (fun t =>
    fnOf t f = { fnOf s f with flr := 0, silenced := false } ∧ (∀ g, g ≠ f.val → fnOf t g = fnOf s g) ∧ t.dict = s.dict ∧ t.mem = s.mem ∧
    ∃ e rest, t.err.events = e :: rest ∧ e.name = "HOST_FLR_DONE" ∧ e.resource = f.val)) ∧
  (∀ (pf : Fin 4) en n s, pf.val ≠ 0 → cfgServes s pf = true → (fnOf s pf).flr = 0 → n ≤ totalVfs s pf →
    (((fnOf s pf).vfEnable = true ∧ en = false ∨ (fnOf s pf).numVfs ≠ n) → exec (.vfEnableChange pf en n) s =
      .next ((vfsOf s pf).foldl startFlrOne (setFn s pf { fnOf s pf with vfEnable := en, numVfs := n }))) ∧
    (((fnOf s pf).vfEnable = true ∧ en = false ∨ (fnOf s pf).numVfs ≠ n) → Completes (.vfEnableChange pf en n) s (fun t =>
      (fnOf t pf).vfEnable = en ∧ (fnOf t pf).numVfs = n ∧ (∀ g, g ∈ vfsOf s pf → (fnOf t g).flr ≠ 0) ∧ t.mem = s.mem)) ∧
    (¬ ((fnOf s pf).vfEnable = true ∧ en = false) → (fnOf s pf).numVfs = n → exec (.vfEnableChange pf en n) s =
      .next (setFn s pf { fnOf s pf with vfEnable := en, numVfs := n }))) ∧
  (∀ (f : Fin 1028) fld b s, cfgServes s f = true → (fnOf s f).flr = 0 → ¬ (4 ≤ f.val ∧ fld = .intxDisable) →
    exec (.configWrite f fld b) s = .next (updateIntx (modFn s f (fun y => cfgField y fld b)) f) ∧
    Completes (.configWrite f fld b) s (fun t => OnlyFn s t f ∧ ∃ l, fnOf t f = { cfgField (fnOf s f) fld b with level := l })) ∧
  (∀ x b, bitOf (cfgField x (.uncStatus b) true).unc b = false ∧ cfgField x (.uncStatus b) false = x)

/-- R291-R294: a vector's pending bit is set where the table has the vector, its message is sent when nothing masks it, and an
acknowledgment clears it. -/
def Sys2Proof.Claims.HostInterrupts : Prop :=
  (∀ s f vec, msixSize s f ≤ vec → raiseVector s f vec = s) ∧
  (∀ s f vec, vec < msixSize s f → vec ∈ (fnOf (raiseVector s f vec) f).pend) ∧
  (∀ (f : Fin 1028) vec s, msixReady s f vec = true → Completes (.msixSend f vec) s (fun t => OnlyFn s t f ∧
    fnOf t f = { fnOf s f with pend := (fnOf s f).pend.filter (fun v => decide (v ≠ vec)) } ∧
    ∃ rest, t.host.msgs = .msix f ((msixOf (fnOf s f) vec).hi.toNat * 2 ^ 32 + (msixOf (fnOf s f) vec).lo.toNat) (msixOf (fnOf s f) vec).data.toNat
      :: rest)) ∧
  (∀ (f : Fin 4) (vec : BitVec 11) s, fnServes s f = true → Completes (.intxAck f vec) s (fun t => OnlyFn s t f ∧
    vec.toNat ∉ (fnOf t f).pend ∧ ∀ u, u ≠ vec.toNat → (u ∈ (fnOf t f).pend ↔ u ∈ (fnOf s f).pend)))

/-- R288-R290, R304: the window table takes a record without its reserved bits; a host request to BAR2 goes to the window's target, and one
that no window takes is a miss. -/
def Sys2Proof.Claims.HostWindows : Prop :=
  (∀ who i r, Serves (.winEntryWrite who i r) (winEntryOp who i r)) ∧
  (∀ who i r s, glenServes s = true → (winEntryOp who i r).status s = .ok → Completes (.winEntryWrite who i r) s (fun t =>
    numD t (winKey i) 0 = winIn r.toNat ∧ (∀ j, j ≠ winKey i → numD t j 0 = numD s j 0) ∧ i.val ∉ t.host.badWin ∧ t.mem = s.mem)) ∧
  (∀ who s, glenServes s = true → (winFirstMissOp who).status s = .ok → Completes (.winFirstMissRead who) s (fun t =>
    t.resp.payload = beBytes 12 (numD s (okey 0x5030 2) 0) ∧ numD t (okey 0x5030 2) 0 = 0 ∧
    (∀ j, j ≠ okey 0x5030 2 → numD t j 0 = numD s j 0) ∧ t.mem = s.mem)) ∧
  (∀ who s, glenServes s = true → (qeLastFaultOp who).status s = .ok → Completes (.qeLastFaultRead who) s (fun t =>
    t.resp.payload = beBytes 12 (numD s (okey 0x5802 1) 0) ∧ numD t (okey 0x5802 1) 0 = 0 ∧
    (∀ j, j ≠ okey 0x5802 1 → numD t j 0 = numD s j 0) ∧ t.mem = s.mem)) ∧
  (∀ (f : Fin 1028) off bs n s, s.host.link ≠ 0 → fnExists s f = true → off + bs.length ≤ bar2Size s f → bs ≠ [] → fnServes s f = true →
    (winFor s f off bs.length = none → exec (.bar2Request f off (some bs) n) s = .next (winMiss s f off none)) ∧
    (∀ r, winFor s f off bs.length = some r →
      (bitOf (winFlags r) 2 = false → exec (.bar2Request f off (some bs) n) s = .next (winMiss s f off none)) ∧
      (bitOf (winFlags r) 2 = true → winSaddle r = false → inDdrHbm s (winTarget r + (off - winBase r)) bs.length = true →
        exec (.bar2Request f off (some bs) n) s = .next (writeInt s (winTarget r + (off - winBase r)) bs)))) ∧
  (∀ (f : Fin 1028) off n s, s.host.link ≠ 0 → fnExists s f = true → off + n ≤ bar2Size s f → n ≠ 0 →
    (fnServes s f = false → exec (.bar2Request f off none n) s = .next (barData s (List.replicate n 0xFF#8))) ∧
    (fnServes s f = true → winFor s f off n = none → Completes (.bar2Request f off none n) s (fun t =>
      t.host.bar = some (List.replicate n 0xFF#8) ∧ numD t (okey 0x5030 1) 0 = (numD s (okey 0x5030 1) 0 + 1) % 2 ^ 64 ∧ t.mem = s.mem)) ∧
    (∀ r, fnServes s f = true → winFor s f off n = some r → bitOf (winFlags r) 1 = true → winSaddle r = false →
      inDdrHbm s (winTarget r + (off - winBase r)) n = true → Completes (.bar2Request f off none n) s (fun t =>
        t.host.bar = some (readInt s (winTarget r + (off - winBase r)) n) ∧ t.mem = s.mem ∧ t.saddle = s.saddle)))

/-- R300-R303, R366: a granted request toward the host writes its bytes to host memory; the errors a link reports. -/
def Sys2Proof.Claims.HostTraffic : Prop :=
  (∀ d s c s1 r, s.err.failStop = false → arbPick s d none = some (c, s1) → nextOfClient s d c = some r →
    exec (.hostArbGrant d) s = .next (arbEnd (arbSettle (hostCharge (grantReq s1 r) d r.fn r.len) d c) d c) ∧
    (d = .toHost → Completes (.hostArbGrant d) s (fun t => t.hmem = memWriteN s.hmem r.addr r.data ∧
      (fnOwner s r.fn = 0 ∨ r.log = false → t.mem = s.mem) ∧
      tget t.host.arbFn (dirNum d * 1024 + c) = some r.fn)) ∧
    (d = .fromHost → Completes (.hostArbGrant d) s (fun t => t.hmem = s.hmem ∧ t.mem = s.mem ∧
      t.host.reqs = s.host.reqs.map (fun x => if x = r then { x with granted := true } else x)))) ∧
  (∀ s d c ds z, drrPick ((List.range 258).filter (fun c => s.host.reqs.any (fun r => hostMay s d r && decide (clientOf s r.fn = c))))
      (fun c => hostWeight s c * 256) (fun c => tgetD s.host.arbDef (dirNum d * 1024 + c) 0) (tget s.host.arbCur (dirNum d)) = some (c, ds, z) →
    arbPick s d none = some (c, { s with host := { s.host with
      arbDef := ds.foldl (fun t p => tset t (dirNum d * 1024 + p.1) p.2) s.host.arbDef
      arbCur := tset s.host.arbCur (dirNum d) (c, true) } })) ∧
  (∀ s d c r, nextOfClient s d c = some r → r ∈ s.host.reqs ∧ r.dir = d ∧ r.granted = false ∧ fnHeld s r.fn = false ∧
    (fnOf s r.fn).busMaster = true ∧ (d = .fromHost → readsOut s < 768) ∧ clientOf s r.fn = c) ∧
  (∀ s r, r.dir = .toHost → (grantReq s r).hmem = memWriteN s.hmem r.addr r.data ∧
    (s.saddle.gateWaits = [] → (grantReq s r).host.reqs = s.host.reqs.erase r)) ∧
  (∀ s r, r.dir = .fromHost → (grantReq s r).hmem = s.hmem ∧ (grantReq s r).mem = s.mem) ∧
  (∀ s f, s.host.link ≠ 0 → fnExists s f = true →
    exec (.hostTlpError (.poisonedWrite f)) s = .next (aerUnc s f 12) ∧
    exec (.hostTlpError (.unsupported (some f))) s = .next (aerUnc s f 20) ∧
    exec (.hostTlpError (.completionTimeout f)) s = .next (aerUnc s f 14) ∧
    Completes (.hostTlpError (.completionTimeout f)) s (fun t => bitOf (fnOf t f).unc 14 = true ∧ t.dict = s.dict ∧ t.mem = s.mem ∧
      ((fnOf s f).unc = 0 → (fnOf t f).first = 14))) ∧
  (∀ s, s.host.link ≠ 0 → exec (.hostTlpError .unexpectedCompletion) s = .next (aerUnc s 0 16) ∧
    exec (.hostTlpError .surpriseDown) s = .next (linkDown (aerUnc s 0 5) false))

/-- Every part holds: HostLink, HostFunctions, HostInterrupts. -/
def Obligations.HostFunctionsAndLink : Prop := Claims.HostLink ∧ Claims.HostFunctions ∧ Claims.HostInterrupts

/-- Every part holds: HostWindows, HostTraffic. -/
def Obligations.HostAccesses : Prop := Claims.HostWindows ∧ Claims.HostTraffic

/-! ### Chapter 12: work queues -/

namespace Sys2Proof.Machine

/-- The command block of a function has completed its command with a status; no other block changes. -/
def BlockDone (s t : State) (f : Nat) (st : Status) : Prop :=
  (blkOf t f).go = false ∧ (blkOf t f).done = true ∧ (blkOf t f).status = statusCode st ∧ (∀ g, g ≠ f → blkOf t g = blkOf s g) ∧
  t.mem = s.mem ∧ t.hmem = s.hmem ∧ t.host = s.host

/-- The command of an opcode is handed over by a function that serves and has a queue-engine block. -/
def Handed (s : State) (f op : Nat) : Prop :=
  (blkOf s f).go = true ∧ (blkOf s f).opcode = op ∧ hasQe s f = true ∧ fnServes s f = true

/-- The queue a command names. -/
def Names (s : State) (f i : Nat) (q : QCtx) : Prop := cmdCtx s f (blkOf s f) = some (i, q)

end Sys2Proof.Machine

/-- R307-R312: a command of the block completes with its status and its effect: CREATE makes a Running context with the version
negotiated (R311), ARM starts an Idle one again, DESTROY frees it, INVALIDATE drops cached descriptors (which the ring read that
may follow fetches again), QUERY answers; a
number that names no queue answers RANGE. -/
def Sys2Proof.Claims.QueueCommands : Prop :=
  (∀ (f : Fin 1028) s, Handed s f 1 →
    (negotiate [(cmdField (blkOf s f) 4 1, cmdField (blkOf s f) 5 1), (cmdField (blkOf s f) 6 1, cmdField (blkOf s f) 7 1)] qeOffer = none →
      Completes (.qeCreate f) s (fun t => BlockDone s t f .version ∧ t.qe.ctx = s.qe.ctx)) ∧
    (∀ v i s1 lq, negotiate [(cmdField (blkOf s f) 4 1, cmdField (blkOf s f) 5 1), (cmdField (blkOf s f) 6 1, cmdField (blkOf s f) 7 1)] qeOffer = some v →
      createBad s f (blkOf s f) = false → quotaOk s (fnOwner s f) 2 = true → allocIndex s 2 = some (i, s1) → freeLq s f = some lq →
      Completes (.qeCreate f) s (fun t => BlockDone s t f .ok ∧ ctxOf t i = some (newCtx f lq (blkOf s f) v) ∧ (blkOf t f).lq = lq ∧
        (blkOf t f).selMajor = v.1 ∧ (blkOf t f).selMinor = v.2 ∧ (∀ j, j ≠ i → ctxOf t j = ctxOf s j) ∧
        ownerOf t 2 i = some (fnOwner s f)))) ∧
  (∀ (f : Fin 1028) op s, Handed s f op → 2 ≤ op → op ≤ 5 → cmdCtx s f (blkOf s f) = none →
    ∃ c : Instr, c = (if op = 2 then .qeArm f else if op = 3 then .qeDestroy f else if op = 4 then .qeInvalidate f else .qeQuery f) ∧
      Completes c s (fun t => BlockDone s t f .range ∧ t.qe.ctx = s.qe.ctx)) ∧
  (∀ (f : Fin 1028) i q s, Handed s f 2 → Names s f i q → q.st = .idle → cmdField (blkOf s f) 8 8 % 4096 = 0 →
    cmdField (blkOf s f) 16 8 % 4096 = 0 → Completes (.qeArm f) s (fun t => BlockDone s t f .ok ∧
      ctxOf t i = some (emptyCtx q .running (cmdField (blkOf s f) 8 8) (cmdField (blkOf s f) 16 8)) ∧ (∀ j, j ≠ i → ctxOf t j = ctxOf s j))) ∧
  (∀ (f : Fin 1028) i q s, Handed s f 3 → Names s f i q → (q.st = .idle → Completes (.qeDestroy f) s (fun t => BlockDone s t f .ok ∧
      ctxOf t i = none ∧ (∀ j, j ≠ i → ctxOf t j = ctxOf s j) ∧ ownerOf t 2 i = none)) ∧
    (q.st ≠ .idle → Completes (.qeDestroy f) s (fun t => BlockDone s t f .notReady ∧ t.qe.ctx = s.qe.ctx))) ∧
  (∀ (f : Fin 1028) i q s, Handed s f 4 → Names s f i q → 1 ≤ cmdField (blkOf s f) 6 2 → cmdField (blkOf s f) 6 2 ≤ ringSize q →
    (∀ x ∈ q.started, cmdField (blkOf s f) 6 2 ≤ cdiff x.pos (cmdField (blkOf s f) 4 2)) → Completes (.qeInvalidate f) s (fun t =>
      (blkOf t f).go = false ∧ (blkOf t f).done = true ∧ (blkOf t f).status = 0 ∧ (∀ g, g ≠ f.val → blkOf t g = blkOf s g) ∧
      t.mem = s.mem ∧ t.hmem = s.hmem ∧ (∃ c rr, ctxOf t i = some { q with cache := c, ringRead := rr } ∧
        ∀ d, d ∈ c ↔ d ∈ q.cache ∧ cmdField (blkOf s f) 6 2 ≤ cdiff d.1 (cmdField (blkOf s f) 4 2)) ∧ (∀ j, j ≠ i → ctxOf t j = ctxOf s j))) ∧
  (∀ (f : Fin 1028) i q s, Handed s f 5 → Names s f i q → Completes (.qeQuery f) s (fun t => BlockDone s t f .ok ∧ t.qe.ctx = s.qe.ctx ∧
    (blkOf t f).result = beBytes 4 (handleOf s 2 i).toNat ++ beBytes 1 (qStCode q.st) ++ beBytes 1 q.major ++ beBytes 1 q.minor ++ [0] ++
      ctxCounts q))

/-- R314, R325: a doorbell of a Running queue is taken within the ring; one beyond it is malformed entry 6 or 7; one that meets no Running
queue is counted. -/
def Sys2Proof.Claims.QueueDoorbells : Prop :=
  (∀ (f : Fin 1028) lq x s, doorbellOpen s f = true → hasQe s f = true → lq < lqLimit f → lqCtx s f lq = none →
    exec (.sqDb f lq x) s = .next (count s (okey 0x5801 1)) ∧ exec (.cqDb f lq x) s = .next (count s (okey 0x5801 1))) ∧
  (∀ (f : Fin 1028) lq (x : U16) s i q, doorbellOpen s f = true → hasQe s f = true → lq < lqLimit f → lqCtx s f lq = some (i, q) →
    (q.st ≠ .running → exec (.sqDb f lq x) s = .next (count s (okey 0x5801 1)) ∧
      exec (.cqDb f lq x) s = .next (count s (okey 0x5801 1))) ∧
    (q.st = .running → fnServes s f = false → exec (.sqDb f lq x) s = .next s ∧ exec (.cqDb f lq x) s = .next s) ∧
    (q.st = .running → fnServes s f = true → x.toNat ≠ q.door → cdiff x.toNat q.oldest ≤ ringSize q → cdiff x.toNat q.door < 32768 →
      Completes (.sqDb f lq x) s (fun t => (∃ rr, ctxOf t i = some { q with door := x.toNat, ringRead := rr }) ∧
        (∀ j, j ≠ i → ctxOf t j = ctxOf s j) ∧ t.dict = s.dict ∧ t.mem = s.mem ∧ t.hmem = s.hmem)) ∧
    (q.st = .running → fnServes s f = true → x.toNat ≠ q.door → (ringSize q < cdiff x.toNat q.oldest ∨ 32768 ≤ cdiff x.toNat q.door) →
      exec (.sqDb f lq x) s = .next (malformed s i x.toNat 0xFFFFFF 6)) ∧
    (q.st = .running → fnServes s f = true → cdiff x.toNat q.consumed ≤ cplHeld q → Completes (.cqDb f lq x) s (fun t =>
      ctxOf t i = some { q with consumed := x.toNat } ∧ (∀ j, j ≠ i → ctxOf t j = ctxOf s j) ∧ t.dict = s.dict ∧ t.mem = s.mem ∧
      t.hmem = s.hmem ∧ t.host = s.host)) ∧
    (q.st = .running → fnServes s f = true → cplHeld q < cdiff x.toNat q.consumed →
      exec (.cqDb f lq x) s = .next (malformed s i x.toNat 0xFFFFFF 7)))

/-- R313, R315-R320, R322, R323, R326, R327: descriptors are fetched, started and ended; completions and their vector; failed reads. -/
def Sys2Proof.Claims.QueueDescriptors : Prop :=
  (∀ (c : Fin 65536) s q ps s1, ctxOf s c = some q → q.st = .running → ringReadBack s c q = some (ps, s1) →
    exec (.descriptorFetch c) s = .next (askFetch (cacheDescs s1 c
      (ps.map (fun x => (x, memReadN s.hmem (q.ring + 64 * (x % ringSize q)) 64)))) c)) ∧
  (∀ (c : Fin 65536) s q p r, ctxOf s c = some q → q.st = .running → q.ringRead = some (p, 1) →
    pendingRead s q.fn (q.ring + 64 * (p % ringSize q)) = some r → r.granted = true → q.cache = [] → p < 65536 →
    q.startPos = p → q.fetched = p → descItem s q (memReadN s.hmem (q.ring + 64 * (p % ringSize q)) 64) = 0 →
    Completes (.descriptorFetch c) s (fun t => (∃ rr, ctxOf t c = some { q with
        fetched := (p + 1) % 65536, cache := [(p, memReadN s.hmem (q.ring + 64 * (p % ringSize q)) 64)], ringRead := rr }) ∧
      (∀ j, j ≠ c.val → ctxOf t j = ctxOf s j) ∧ t.dict = s.dict ∧ t.mem = s.mem ∧ t.hmem = s.hmem)) ∧
  (∀ s c k s1 s2, s.err.failStop = false → qePick s = some (c, k, s1) → k < 0x100000 → startGranted s1 k = some s2 →
    exec .descriptorStart s = .next (qeSettle s2 c k (match ctxOf s2 k with | some q => decide (q.startPos = q.door) | none => true))) ∧
  (∀ s c k s1 q p d, s.err.failStop = false → qePick s = some (c, k, s1) → k < 0x100000 → ctxOf s k = some q → q.type = 3 →
    q.cache.find? (fun x => decide (x.1 = q.startPos)) = some (p, d) → dField d 1 1 = 4 → dIndirect d = false →
    segsBad q (segList (d.drop 16) (segCount q d)) = false → internalBad s q d (segList (d.drop 16) (segCount q d)) = false →
    Completes .descriptorStart s (fun t => (∃ rr, ctxOf t k = some { popDesc q with
        started := q.started ++ [{ pos := p, desc := d, segs := segList (d.drop 16) (segCount q d), data := [] }], ringRead := rr }) ∧
      (∀ j, j ≠ k → ctxOf t j = ctxOf s j) ∧ t.dict = s.dict ∧ t.mem = s.mem ∧ t.hmem = s.hmem)) ∧
  (∀ s q d, (bitOf (d.getD 0 0).toNat 7 = false → descItem s q d = 1) ∧
    (bitOf (d.getD 0 0).toNat 7 = true → q.type = 1 ∨ q.type = 2 → dField d 1 1 ≠ q.type → descItem s q d = 2)) ∧
  (∀ (c : Fin 65536) s q x rest p, ctxOf s c = some q → q.started = x :: rest → x.pkt = some p → q.type = 1 → q.st = .running →
    exec (.txFrameTaken c) s = .next ((endDesc (frameTail s (ctxVale q) p [] true) c x
      { pos := x.pos, tag := dTag x.desc, len := x.data.length }).getD s) ∧
    (cplRoom q = true → Completes (.txFrameTaken c) s (fun t =>
      (ctxOf t c).map (·.started) = some (q.started.filter (fun y => decide (y.pos ≠ x.pos))) ∧
      (∀ j, j ≠ c.val → ctxOf t j = ctxOf s j) ∧ t.mem = s.mem ∧ t.hmem = s.hmem))) ∧
  (∀ (c : Fin 65536) s v pk, rxOldest s c = some (v, pk) →
    (ctxOf s c = none → exec (.rxDeliver c) s = .next (dropCopy s v pk 0x0C) ∧
      Completes (.rxDeliver c) s (fun t => pktAt t v pk = none ∧ t.qe = s.qe ∧ t.mem = s.mem ∧ t.hmem = s.hmem)) ∧
    (∀ q, ctxOf s c = some q → rxAlive s q = false ∨ q.type ≠ 2 → exec (.rxDeliver c) s = .next (dropCopy s v pk 0x0C) ∧
      Completes (.rxDeliver c) s (fun t => pktAt t v pk = none ∧ t.qe = s.qe ∧ t.mem = s.mem ∧ t.hmem = s.hmem)) ∧
    (∀ q d p, ctxOf s c = some q → rxAlive s q = true → q.type = 2 → fnIssues s q.fn = true → fnHeld s q.fn = false →
      q.cache.find? (fun d => decide (d.1 = q.startPos)) = some d → pktAt s v pk = some p →
      exec (.rxDeliver c) s = .next (rxInto s v c pk p q d) ∧
      (dIndirect d.2 = false → segsBad q (segList (d.2.drop 16) (segCount q d.2)) = false → cplRoom q = true →
        p.out.length ≤ totalLen (segList (d.2.drop 16) (segCount q d.2)) → Completes (.rxDeliver c) s (fun t =>
          pktAt t v pk = none ∧ (ctxOf t c).map (·.startPos) = some ((q.startPos + 1) % 65536) ∧
          (∀ j, j ≠ c.val → ctxOf t j = ctxOf s j) ∧ t.dict = s.dict ∧ t.mem = s.mem ∧ t.hmem = s.hmem)))) ∧
  (∀ (c : Fin 65536) (pos : U16) s q x, ctxOf s c = some q → q.started.find? (fun x => decide (x.pos = pos.toNat)) = some x → q.type = 3 →
    q.st = .running → fnIssues s q.fn = true →
    (dField x.desc 1 1 = 3 → exec (.controlCopyDone c pos) s = .next ((endDesc (writeInt s (dField x.desc 8 8) x.data) c x
      { pos := x.pos, tag := dTag x.desc, len := totalLen x.segs }).getD s) ∧
      (cplRoom q = true → Completes (.controlCopyDone c pos) s (fun t => t.mem = (writeInt s (dField x.desc 8 8) x.data).mem ∧
        (ctxOf t c).map (·.started) = some (q.started.filter (fun y => decide (y.pos ≠ x.pos))) ∧
        (∀ j, j ≠ c.val → ctxOf t j = ctxOf s j) ∧ t.hmem = s.hmem))) ∧
    (dField x.desc 1 1 = 4 → poisoned s (dField x.desc 8 8) (totalLen x.segs) = false → exec (.controlCopyDone c pos) s = .next ((endDesc
      (writeSegs s q.fn x.segs (readInt s (dField x.desc 8 8) (totalLen x.segs))) c x
      { pos := x.pos, tag := dTag x.desc, len := totalLen x.segs }).getD s))) ∧
  (∀ s i x c q, ctxOf s i = some q → cplHeld q = cplSize q → c.error = true → endDesc s i x c = none) ∧
  (∀ (c : Fin 65536) s q, ctxOf s c = some q → q.coalUsec ≠ 0 → q.unsig ≠ 0 → exec (.coalTimerExpiry c) s = .next (qeRaise s c q) ∧
    Completes (.coalTimerExpiry c) s (fun t => ctxOf t c = some { q with unsig := 0 } ∧ (∀ j, j ≠ c.val → ctxOf t j = ctxOf s j) ∧
      (q.vector ≠ 0xFFFF → q.vector < msixSize s q.fn → q.vector ∈ (fnOf t q.fn).pend) ∧ t.dict = s.dict ∧ t.mem = s.mem ∧
      t.hmem = s.hmem)) ∧
  (∀ (c : Fin 65536) (pos : U16) s q, ctxOf s c = some q → q.st = .running →
    (∀ s1, ringReadAt s c q pos.toNat = some s1 →
      exec (.qeReadTimeout c true pos) s = .next (readFails s1 c pos.toNat 0xFFFFFF 2 .timeout) ∧
      exec (.qeReadError c ⟨true, pos⟩) s = .next (readFails s1 c pos.toNat 0xFFFFFF 3 .access)) ∧
    (∀ x, q.started.find? (fun x => decide (x.pos = pos.toNat)) = some x → dField x.desc 1 1 ≠ 4 →
      exec (.qeReadTimeout c false pos) s = .next (readFails (loseTail s q x) c x.pos (dTag x.desc) 2 .timeout) ∧
      exec (.qeReadError c ⟨false, pos⟩) s = .next ((endDesc (loseTail s q x) c x
        { error := true, status := .access, pos := x.pos, tag := dTag x.desc, cause := 3 }).getD s) ∧
      (cplRoom q = true → Completes (.qeReadError c ⟨false, pos⟩) s (fun t =>
        (ctxOf t c).map (·.started) = some (q.started.filter (fun y => decide (y.pos ≠ x.pos))) ∧
        (ctxOf t c).map (·.st) = some .running ∧ (∀ j, j ≠ c.val → ctxOf t j = ctxOf s j) ∧ t.mem = s.mem ∧ t.hmem = s.hmem)) ∧
      (q.fn ≠ 0 → ownQueue s (fnOwner s q.fn) = false → (handlerAt s (handlerKey 2 3 2)).active = none →
        Completes (.qeReadTimeout c false pos) s (fun t => (ctxOf t c).map (·.st) = some .halted ∧ t.mem = s.mem ∧
          t.hmem = s.hmem))))

/-- R321: the bytes of a completion entry: 32 of them, PHASE and ERROR the two top bits of the first. -/
def Sys2Proof.Claims.CompletionEntries : Prop :=
  (∀ ph c, c.rx.length = 16 → (cplBytes ph c).length = 32) ∧
  (∀ ph c, bitOf ((cplBytes ph c).getD 0 0).toNat 7 = ph ∧ bitOf ((cplBytes ph c).getD 0 0).toNat 6 = c.error) ∧
  (∀ s i q c, ctxOf s i = some q → q.written % cplSize q + 1 ≠ cplSize q → c.error = false → q.unsig + 1 < q.coalCount → (fnOf s q.fn).silenced = false →
    ∃ t, t = writeCpl s i c ∧ ctxOf t i = some { q with written := (q.written + 1) % 65536, unsig := q.unsig + 1 } ∧
      t.host.reqs = s.host.reqs ++ [{ fn := q.fn, dir := .toHost, addr := q.cpl + 32 * (q.written % cplSize q)
                                      len := (cplBytes q.phase c).length, data := cplBytes q.phase c, log := true, win := 0
                                      relaxed := false }])

/-- Every part holds: QueueCommands, QueueDoorbells, QueueDescriptors, CompletionEntries. -/
def Obligations.WorkQueues : Prop :=
  Claims.QueueCommands ∧ Claims.QueueDoorbells ∧ Claims.QueueDescriptors ∧ Claims.CompletionEntries

/-! ### Chapter 13: storage -/

namespace Sys2Proof.Machine

/-- An admin command of opcode `op` stands at a controller that takes it: `x` the controller, `i` its admin submission queue, `b` the
command's 64 bytes. -/
def AdminAt (s : State) (c op : Nat) (x : NvCtrl) (i : Nat) (b : List Byte) : Prop :=
  nvCtrl s c = some x ∧ (∃ q, nvFind s c true 0 = some (i, q) ∧ q.entry = some b) ∧ sField b 0 1 = op ∧ sField b 1 1 = 0 ∧
  x.cfs = false ∧ x.rdy = true ∧ fnIssues s x.fn = true

/-- The state `u` goes over to `t` by taking the admin command away and posting its completion with a status and a result. -/
def Posted (u t : State) (c i : Nat) (b : List Byte) (st dw0 : Nat) : Prop :=
  nvPost (modNvQ u i (fun y => { y with entry := none })) c i (sCid b) st dw0 (sNsid b) = some t

/-- A completion of submission queue `i` of controller `c` finds its completion queue in order and with room. -/
def PostRoom (s : State) (c i : Nat) : Prop :=
  ∃ q k cq, tget s.nv.qs i = some q ∧ nvFind s c false q.cq = some (k, cq) ∧ cq.frozen = false ∧ cq.used + 1 < cq.size

/-- The admin command ends with a status and a result after the effect `u`: its next state is the one in which the completion is posted,
and there is such a state wherever the completion queue has room; memory and the dictionary are as the effect leaves them. -/
def Ends (cmd : Instr) (s u : State) (c i : Nat) (b : List Byte) (st dw0 : Nat) : Prop :=
  (∀ t, Posted u t c i b st dw0 → exec cmd s = .next t) ∧
  (PostRoom (modNvQ u i (fun y => { y with entry := none })) c i →
    Completes cmd s (fun t => Posted u t c i b st dw0 ∧ t.mem = u.mem ∧ t.dict = u.dict))

/-- The result of an I/O command can be posted at once, and no delete waits for its queue. -/
def ResultRoom (s : State) (m : NvCmd) : Prop :=
  ∃ q k cq, tget s.nv.qs m.sq = some q ∧ q.deleting = none ∧ nvFind s m.ctrl false q.cq = some (k, cq) ∧ k ≠ m.sq ∧
    cq.frozen = false ∧ cq.used + 1 < cq.size

/-- The I/O command has ended. -/
def CmdEnded (s t : State) (tag : Nat) : Prop :=
  tget t.nv.cmds tag = none ∧ (∀ j, j ≠ tag → tget t.nv.cmds j = tget s.nv.cmds j) ∧ t.mem = s.mem ∧ t.hmem = s.hmem

/-- A fetched I/O command that has not run its own row. -/
def IoAt (s : State) (c tag op : Nat) (m : NvCmd) : Prop :=
  tget s.nv.cmds tag = some m ∧ m.ctrl = c ∧ m.op = op ∧ m.ready = false ∧ m.cpl = none ∧ s.err.failStop = false

/-- Only the record of one controller changes. -/
def OnlyCtrl (s t : State) (c : Nat) : Prop :=
  (∀ d, d ≠ c → nvCtrl t d = nvCtrl s d) ∧ t.nv.qs = s.nv.qs ∧ t.nv.cmds = s.nv.cmds ∧ t.dict = s.dict ∧ t.mem = s.mem ∧ t.hmem = s.hmem ∧
  t.host = s.host

end Sys2Proof.Machine

/-- R331, R333, R334, R341-R343, R345, R348: controllers and volumes are created and configured; CC.EN; doorbells; power states; an SSD
enumerated. -/
def Sys2Proof.Claims.NvmeControllers : Prop :=
  (∀ who r, Serves (.nvmeCtrlCreate who r) (nvmeCtrlCreateOp who r)) ∧
  (∀ who r s, glenServes s = true → (nvmeCtrlCreateOp who r).status s = .ok → Completes (.nvmeCtrlCreate who r) s (fun t => ∃ c,
    (allocIndex s 4).map (·.1) = some c ∧ nvCtrl t c = some { fn := ncFn r.toNat, maxQ := recField 8 2 1 r.toNat, owner := ncOwner r.toNat } ∧
    (∀ d, d ≠ c → nvCtrl t d = nvCtrl s d) ∧ t.nv.cmds = s.nv.cmds ∧ ownerOf t 4 c = some (ncOwner r.toNat) ∧ t.mem = s.mem ∧
    t.resp = { status := .ok, payload := beBytes 4 (handleOf s 4 c).toNat })) ∧
  (∀ who h, Serves (.nvmeCtrlDestroy who h) (nvmeCtrlDestroyOp who h)) ∧
  (∀ who h s, glenServes s = true → (nvmeCtrlDestroyOp who h).status s = .ok → Completes (.nvmeCtrlDestroy who h) s (fun t =>
    nvCtrl t (hIdx h) = none ∧ (∀ d, d ≠ hIdx h → nvCtrl t d = nvCtrl s d) ∧ t.mem = s.mem ∧ t.hmem = s.hmem ∧ t.resp = { status := .ok })) ∧
  (∀ who v r, Serves (.nvmeVolWrite who v r) (nvmeVolOp who v r)) ∧
  (∀ who v r s, glenServes s = true → (nvmeVolOp who v r).status s = .ok → Completes (.nvmeVolWrite who v r) s (fun t =>
    volRec t v = volIn r.toNat ∧ (∀ j, j ≠ volKey v → numD t j 0 = numD s j 0) ∧ t.nv = s.nv ∧ t.mem = s.mem)) ∧
  (∀ (c : Fin 256) (cc : U32) x s, nvCtrl s c = some x → nvEn x = false → fnServes s x.fn = true → cc.getLsbD 0 = true →
    (ccInvalid cc = true → Completes (.ccEnSet c cc) s (fun t => OnlyCtrl s t c ∧ nvCtrl t c = some { x with cc := cc, cfs := true })) ∧
    (ccInvalid cc = false → Completes (.ccEnSet c cc) s (fun t => nvCtrl t c = some { x with cc := cc, rdy := true } ∧
      (∀ d, d ≠ c.val → nvCtrl t d = nvCtrl s d) ∧ (∀ i q, tget s.nv.qs i = some q → q.ctrl ≠ c.val ∨ q.qid ≠ 0 → tget t.nv.qs i = some q) ∧
      (∀ i q, tget s.nv.qs i = some q → q.ctrl = c.val → q.qid = 0 → tget t.nv.qs i = some (adminQueue x q)) ∧
      t.dict = s.dict ∧ t.mem = s.mem ∧ t.host = s.host))) ∧
  (∀ (c : Fin 256) x s, nvCtrl s c = some x → nvEn x = true → fnServes s x.fn = true → exec (.ccEnClear c) s = .next (nvReset s c false) ∧
    Completes (.ccEnClear c) s (fun t => (nvCtrl t c).map nvEn = some false ∧ (nvCtrl t c).map (·.rdy) = some false ∧
      (∀ m ∈ t.nv.cmds, m.2.ctrl ≠ c.val) ∧ (∀ d, d ≠ c.val → nvCtrl t d = nvCtrl s d) ∧ t.mem = s.mem ∧ t.hmem = s.hmem)) ∧
  (∀ (f : Fin 1028) y (v : U16) c k s, doorbellOf s f y = some (c, k) →
    (nvFind (setNv s c (psTouch k (decide (y ≠ 0)))) c true y = none →
      exec (.nvmeSqDoorbell f y v) s = .next (nvBadDb (setNv s c (psTouch k (decide (y ≠ 0)))) c)) ∧
    (nvFind (setNv s c (psTouch k (decide (y ≠ 0)))) c false y = none →
      exec (.nvmeCqDoorbell f y v) s = .next (nvBadDb (setNv s c (psTouch k (decide (y ≠ 0)))) c)) ∧
    (∀ i q, nvFind (setNv s c (psTouch k (decide (y ≠ 0)))) c true y = some (i, q) → q.frozen = false → k.cfs = false →
      (v.toNat < q.size → v.toNat ≠ q.head → Completes (.nvmeSqDoorbell f y v) s (fun t => tget t.nv.qs i = some { q with tail := v.toNat } ∧
        (∀ j, j ≠ i → tget t.nv.qs j = tget s.nv.qs j) ∧ t.dict = s.dict ∧ t.mem = s.mem ∧ t.host = s.host)) ∧
      (q.size ≤ v.toNat ∨ v.toNat = q.head →
        exec (.nvmeSqDoorbell f y v) s = .next (nvFreeze (setNv s c (psTouch k (decide (y ≠ 0)))) c i 1 0 v.toNat 0))) ∧
    (∀ i q, nvFind (setNv s c (psTouch k (decide (y ≠ 0)))) c false y = some (i, q) → q.frozen = false → k.cfs = false →
      (v.toNat < q.size → (v.toNat + q.size - q.head) % max 1 q.size ≤ q.used → exec (.nvmeCqDoorbell f y v) s =
        .next (nvRetry (setNvQ (setNv s c (psTouch k (decide (y ≠ 0)))) i
          { q with head := v.toNat, used := q.used - (v.toNat + q.size - q.head) % max 1 q.size }) c) ∧
        (s.nv.cmds = [] → k.evts = [] → (∀ p ∈ s.nv.qs, p.2.deleting = none) → Completes (.nvmeCqDoorbell f y v) s (fun t =>
          tget t.nv.qs i = some { q with head := v.toNat, used := q.used - (v.toNat + q.size - q.head) % max 1 q.size } ∧
          (∀ j, j ≠ i → tget t.nv.qs j = tget s.nv.qs j) ∧ t.dict = s.dict ∧ t.mem = s.mem ∧ t.host = s.host))) ∧
      (q.size ≤ v.toNat → exec (.nvmeCqDoorbell f y v) s = .next (nvFreeze (setNv s c (psTouch k (decide (y ≠ 0)))) c i 2 0 v.toNat 0)))) ∧
  (∀ (c : Fin 256) (p : Fin 4) x s, nvCtrl s c = some x → x.rdy = true → tgetD x.feats 0x0C 0 = 1 → x.psTo = none → nvIdle s c = true →
    bitsOf (sField x.apst (8 * x.ps) 8) 3 5 = p.val → bitsOf (sField x.apst (8 * x.ps) 8) 8 24 ≠ 0 →
    Completes (.autonomousPowerStateTransition c p) s (fun t => OnlyCtrl s t c ∧ nvCtrl t c = some { x with psTo := some p.val })) ∧
  (∀ (c : Fin 256) x p s, nvCtrl s c = some x → x.psTo = some p → Completes (.powerStateTransitionDone c) s (fun t => OnlyCtrl s t c ∧
    nvCtrl t c = some { x with ps := p, psTo := none, psOp := if p = 3 then x.psOp else p })) ∧
  (∀ (p : Fin 8) (n : U32) (l : U8) (z : U64) (m : U16) g s, p.val % 2 = 1 → (tgetD s.saddle.ports p {}).link = true → s.err.failStop = false →
    Completes (.ssdEnumerated p n l z m g) s (fun t => ∃ d, tget t.nv.ssds p = some d ∧ d.pairs = min 8 g ∧ d.mqes = m.toNat ∧
      tget d.nss n.toNat = some (l.toNat, z.toNat) ∧ t.nv.ctrls = s.nv.ctrls ∧ t.nv.cmds = s.nv.cmds ∧ t.dict = s.dict ∧ t.mem = s.mem)) ∧
  (∀ (c : Fin 256) cq i q s, nvFind s c false cq = some (i, q) → q.size ≤ q.used + 1 → q.size ≠ 0 →
    exec (.nvmeCqFullLimit c cq) s = .next (nvRetry (nvFreeze s c i 4 0 0 0) c) ∧
    (∀ x, nvCtrl s c = some x → tget s.nv.qs i = some q → q.qid ≠ 0 → x.aers = [] → (∀ m ∈ s.nv.cmds, m.2.cpl = none) →
      (∀ p ∈ s.nv.qs, p.2.deleting = none) → ownQueue s x.owner = false → (handlerAt s (handlerKey 2 3 3)).active = none →
      Completes (.nvmeCqFullLimit c cq) s (fun t => (tget t.nv.qs i).map (·.frozen) = some true ∧ t.mem = s.mem ∧ t.hmem = s.hmem))) ∧
  (∀ (c : Fin 256) n i q s, nvFind s c true n = some (i, q) → sqEligible s q = true →
    exec (.nvmeSqReadFailed c n true) s = .next (nvFreeze s c i 3 7 0 (q.base + 64 * q.head)) ∧
    exec (.nvmeSqReadFailed c n false) s = .next (nvFreeze s c i 3 3 0 (q.base + 64 * q.head)) ∧
    (∀ x e, nvCtrl s c = some x → tget s.nv.qs i = some q → q.qid ≠ 0 → x.aers = [] → ownQueue s x.owner = false →
      (handlerAt s (handlerKey 2 3 3)).active = none → Completes (.nvmeSqReadFailed c n e) s (fun t =>
        (tget t.nv.qs i).map (·.frozen) = some true ∧ (nvCtrl t c).map (·.total) = some (x.total + 1) ∧ t.mem = s.mem ∧ t.hmem = s.hmem)))

/-- R330-R333, R335, R336, R340, R343, R344: the admin commands, each with its completion, and the checks that end one with a status. The numbers
of statuses and the layouts of structures are the model's (log entry 32). -/
def Sys2Proof.Claims.NvmeAdmin : Prop :=
  (∀ (c : Fin 256) x i b s, AdminAt s c 0x05 x i b →
    (qidBad s c x false (sDw b 10 % 65536) = true → Ends (.createIoCq c) s s c i b nvBadQid 0) ∧
    (∀ u, qidBad s c x false (sDw b 10 % 65536) = false → sizeBad (sDw b 10 / 65536) = false → bitOf (sDw b 11) 0 = true →
      sField b 24 8 % 4096 = 0 → sDw b 11 / 65536 < msixSize s x.fn →
      nvNewQ s x { ctrl := c, sq := false, qid := sDw b 10 % 65536, base := sField b 24 8, size := sDw b 10 / 65536 + 1
                   vector := sDw b 11 / 65536, ien := bitOf (sDw b 11) 1 } = some u →
      Ends (.createIoCq c) s u c i b 0 0)) ∧
  (∀ (c : Fin 256) x i b s, AdminAt s c 0x01 x i b →
    (sDw b 11 / 65536 = 0 ∨ nvFind s c false (sDw b 11 / 65536) = none → Ends (.createIoSq c) s s c i b nvCqInvalid 0) ∧
    (∀ u, sDw b 11 / 65536 ≠ 0 → (nvFind s c false (sDw b 11 / 65536)).isSome = true → qidBad s c x true (sDw b 10 % 65536) = false →
      sizeBad (sDw b 10 / 65536) = false → bitOf (sDw b 11) 0 = true → sField b 24 8 % 4096 = 0 →
      nvNewQ s x { ctrl := c, sq := true, qid := sDw b 10 % 65536, base := sField b 24 8, size := sDw b 10 / 65536 + 1
                   cq := sDw b 11 / 65536 } = some u →
      Ends (.createIoSq c) s u c i b 0 0)) ∧
  (∀ (c : Fin 256) x i b s k q, AdminAt s c 0x00 x i b → sDw b 10 % 65536 ≠ 0 → nvFind s c true (sDw b 10 % 65536) = some (k, q) →
    q.deleting = none → (∀ m ∈ s.nv.cmds, m.2.sq ≠ k) → Ends (.deleteIoSq c) s (dropNvQ s k true) c i b 0 0) ∧
  (∀ (c : Fin 256) x i b s k q, AdminAt s c 0x04 x i b → sDw b 10 % 65536 ≠ 0 → nvFind s c false (sDw b 10 % 65536) = some (k, q) →
    ((∃ p ∈ s.nv.qs, p.2.ctrl = c.val ∧ p.2.sq = true ∧ p.2.cq = sDw b 10 % 65536) → Ends (.deleteIoCq c) s s c i b nvBadDelete 0) ∧
    ((∀ p ∈ s.nv.qs, p.2.ctrl = c.val → p.2.sq = true → p.2.cq ≠ sDw b 10 % 65536) → Ends (.deleteIoCq c) s (dropNvQ s k true) c i b 0 0)) ∧
  (∀ (c : Fin 256) x i b s p, AdminAt s c 0x02 x i b → logPage s x (sDw b 10 % 256) = some p → sDw b 12 + sDw b 13 * 2 ^ 32 ≤ p.length →
    (sDw b 12 + sDw b 13 * 2 ^ 32) % 4 = 0 → bitOf (sDw b 10) 15 = true →
    Ends (.getLogPage c) s (nvAnswer s c b (sliceD p (sDw b 12 + sDw b 13 * 2 ^ 32) (min ((sDw b 10 / 65536 + sDw b 11 % 65536 * 65536 + 1) * 4)
      (p.length - (sDw b 12 + sDw b 13 * 2 ^ 32))) 0)) c i b 0 0) ∧
  (∀ (c : Fin 256) x i b s, AdminAt s c 0x06 x i b →
    (sDw b 10 % 256 = 1 → Ends (.identify c) s (nvAnswer s c b (identifyCtrl s c)) c i b 0 0) ∧
    (3 < sDw b 10 % 256 → Ends (.identify c) s s c i b nvInvalidField 0)) ∧
  (∀ (c : Fin 256) x i b s, AdminAt s c 0x08 x i b →
    ((∀ m ∈ s.nv.cmds, m.2.ctrl = c.val → m.2.cid = sDw b 10 / 65536 → m.2.started = true) →
      headWaits s c (sDw b 10 % 65536) (sDw b 10 / 65536) = none → Ends (.abort c) s s c i b 0 1) ∧
    (∀ m r, s.nv.cmds = m :: r → m.2.ctrl = c.val → m.2.cid = sDw b 10 / 65536 → m.2.started = false → m.2.cpl = none →
      (tget s.nv.qs m.2.sq).map (·.qid) = some (sDw b 10 % 65536) → Ends (.abort c) s (nvFinish s m.1 nvAborted 0) c i b 0 0)) ∧
  (∀ (c : Fin 256) x i b s, AdminAt s c 0x09 x i b → sDw b 10 % 256 = 0x08 → bitOf (sDw b 10) 31 = false →
    Ends (.setFeatures c) s (setNv s c { x with feats := tset x.feats 8 (sDw b 11 % 65536) }) c i b 0 0) ∧
  (∀ (c : Fin 256) x i b s, AdminAt s c 0x09 x i b → sDw b 10 % 256 = 0x02 → bitOf (sDw b 10) 31 = false →
    sDw b 11 % 32 ≤ 3 → sDw b 11 % 32 ≠ x.ps → Ends (.setFeatures c) s (setNv s c { x with psTo := some (sDw b 11 % 32) }) c i b 0 0) ∧
  (∀ (c : Fin 256) x i b s, AdminAt s c 0x0A x i b → sDw b 10 % 256 = 0x08 → bitsOf (sDw b 10) 8 3 = 0 →
    Ends (.getFeatures c) s s c i b 0 (tgetD x.feats 8 0)) ∧
  (∀ (c : Fin 256) x i b s, AdminAt s c 0x0C x i b →
    (4 ≤ x.aers.length → Ends (.asynchronousEventRequest c) s s c i b nvAerLimit 0) ∧
    (x.aers.length < 4 → exec (.asynchronousEventRequest c) s = .next (modNvQ (nvAens 8 c (setNv s c { x with aers := x.aers ++ [sCid b] })) i
      (fun y => { y with entry := none })) ∧
      (x.evts = [] → Completes (.asynchronousEventRequest c) s (fun t => nvCtrl t c = some { x with aers := x.aers ++ [sCid b] } ∧
        (∀ d, d ≠ c.val → nvCtrl t d = nvCtrl s d) ∧ t.dict = s.dict ∧ t.mem = s.mem ∧ t.hmem = s.hmem ∧ t.host = s.host)))) ∧
  (∀ (c : Fin 256) x i b s v r, AdminAt s c 0x80 x i b → volOf s c (sNsid b) = some (v, r) →
    (volProtected r = true → Ends (.formatNvm c) s s c i b nvWriteProtected 0) ∧
    (volProtected r = false → sDw b 10 % 16 = 0 → bitsOf (sDw b 10) 4 5 = 0 →
      Ends (.formatNvm c) s (rekeySlot (drawTrng s 512).2 (volSlot r) (beBytes 64 (drawTrng s 512).1)) c i b 0 0)) ∧
  (∀ s c i sq k cq cid st dw0 ns, (nvCtrl s c).isSome = true → tget s.nv.qs i = some sq → nvFind s c false sq.cq = some (k, cq) →
    (cq.frozen = true → nvPost s c i cid st dw0 ns = some s) ∧
    (cq.frozen = false → cq.size ≤ cq.used + 1 → nvPost s c i cid st dw0 ns = none) ∧
    (cq.frozen = false → cq.used + 1 < cq.size → (nvPost s c i cid st dw0 ns).isSome = true))

/-- R335, R337-R340, R345-R347: I/O commands are fetched, made ready, started at their backend, and end with its answer, or with a status of
the controller's own. -/
def Sys2Proof.Claims.NvmeIo : Prop :=
  (∀ (c : Fin 256) sq i q b s, nvFind s c true sq = some (i, q) → q.wait = some b → q.frozen = false → s.err.failStop = false →
    exec (.nvmeCommandFetch c sq) s = .next (ioFetched s c i b) ∧
    (∀ v r, sField b 0 1 = 0 → sField b 1 1 = 0 → volOf s c (sNsid b) = some (v, r) → rlockUsed s ≤ 16384 → tget s.nv.qs i = some q →
      Completes (.nvmeCommandFetch c sq) s (fun t =>
        tget t.nv.cmds s.nv.nextTag = some { ctrl := c, sq := i, cid := sCid b, op := 0, bytes := b, vol := v, ranges := [] } ∧
        t.nv.nextTag = s.nv.nextTag + 1 ∧ tget t.nv.qs i = some { q with wait := none } ∧ t.dict = s.dict ∧ t.mem = s.mem ∧
        t.hmem = s.hmem ∧ t.host = s.host))) ∧
  (∀ (c : Fin 256) i q s cl s1 s2, nvFind s c true 0 = some (i, q) → q.wait = none → qePick s = some (cl, sqKey q, s1) →
    s.err.failStop = false → readTurn s1 (nvFn s c) = some s2 →
    sField (memReadN s.hmem (q.base + 64 * q.head) 64) 0 1 ∈ adminOps →
    Completes (.nvmeCommandFetch c 0) s (fun t => tget t.nv.qs i = some { q with
        head := (q.head + 1) % max 1 q.size, entry := some (memReadN s.hmem (q.base + 64 * q.head) 64) } ∧
      (∀ j, j ≠ i → tget t.nv.qs j = tget s.nv.qs j) ∧ t.nv.cmds = s.nv.cmds ∧ t.dict = s.dict ∧ t.mem = s.mem ∧ t.hmem = s.hmem)) ∧
  (∀ s c b, sField b 0 1 ∉ [0x00, 0x01, 0x02, 0x08, 0x09] → (ioChecks s c b).1 = nvInvalidOpcode) ∧
  (∀ s c b, sField b 0 1 ∈ [0x00, 0x01, 0x02, 0x08, 0x09] → sField b 1 1 = 0 → volOf s c (sNsid b) = none → (ioChecks s c b).1 = nvInvalidNs) ∧
  (∀ s c b v r, sField b 0 1 = 2 → sField b 1 1 = 0 → volOf s c (sNsid b) = some (v, r) → ioOptionBad b = false →
    (ioRange b).2 * lbaSize r ≤ 1048576 → ((ioChecks s c b).1 = 0 ↔ (ioRange b).1 + (ioRange b).2 ≤ volCapacity r)) ∧
  (∀ (c : Fin 256) tag m s, IoAt s c tag 0x00 m → (∀ p ∈ s.nv.cmds, p.1 < tag → p.2.vol = m.vol → writeClass p.2 = false) →
    Completes (.nvmeFlush c tag) s (fun t => tget t.nv.cmds tag = some { m with ready := true } ∧
      (∀ j, j ≠ tag → tget t.nv.cmds j = tget s.nv.cmds j) ∧ t.dict = s.dict ∧ t.mem = s.mem ∧ t.hmem = s.hmem)) ∧
  (∀ (c : Fin 256) tag m s, IoAt s c tag 0x01 m → exec (.nvmeWrite c tag false) s = .next (nvFinish s tag nvDataTransfer 0) ∧
    (ResultRoom s m → Completes (.nvmeWrite c tag false) s (fun t => CmdEnded s t tag ∧ t.dict = s.dict)) ∧
    (fnIssues s (nvFn s c) = true → fnHeld s (nvFn s c) = false → ∀ s1 key a, readTurn s (nvFn s c) = some s1 →
      (∀ sp d, sp = prpSpans s1 (nvFn s c) m.bytes ((ioRange m.bytes).2 * lbaSize (volRec s m.vol)) → d = spanRead sp.2 (nvFn s c) sp.1 →
        exec (.nvmeWrite c tag true) s = .next (bufferWrite d.2 tag m (volRec s m.vol) d.1 (ioRange m.bytes).2)) ∧
      (volKeyMat s (volRec s m.vol) = some key → allocBuf s ((ioRange m.bytes).2 * lbaSize (volRec s m.vol)) = some a →
        Completes (.nvmeWrite c tag true) s (fun t => tget t.nv.cmds tag = some { m with
            ready := true, buffer := a, len := (ioRange m.bytes).2 * lbaSize (volRec s m.vol) } ∧
          (∀ j, j ≠ tag → tget t.nv.cmds j = tget s.nv.cmds j) ∧ t.dict = s.dict ∧ t.hmem = s.hmem)))) ∧
  (∀ (c : Fin 256) tag m s a key, IoAt s c tag 0x02 m → fnIssues s (nvFn s c) = true → fnHeld s (nvFn s c) = false →
    volKeyMat s (volRec s m.vol) = some key → allocBuf s ((ioRange m.bytes).2 * lbaSize (volRec s m.vol)) = some a →
    (prpReads m.bytes ((ioRange m.bytes).2 * lbaSize (volRec s m.vol)) = false ∨ (readTurn s (nvFn s c)).isSome = true) →
    Completes (.nvmeRead c tag true) s (fun t => (∃ sp, tget t.nv.cmds tag = some { m with
        ready := true, buffer := a, len := (ioRange m.bytes).2 * lbaSize (volRec s m.vol), spans := sp } ∧
        (prpReads m.bytes ((ioRange m.bytes).2 * lbaSize (volRec s m.vol)) = false →
          sp = (prpSpans s (nvFn s c) m.bytes ((ioRange m.bytes).2 * lbaSize (volRec s m.vol))).1)) ∧
      (∀ j, j ≠ tag → tget t.nv.cmds j = tget s.nv.cmds j) ∧ t.dict = s.dict ∧ t.mem = s.mem ∧ t.hmem = s.hmem)) ∧
  (∀ (c : Fin 256) tag m s, IoAt s c tag 0x08 m → exec (.writeZeroes c tag) s = .next (bufferWrite s tag m (volRec s m.vol)
      (List.replicate ((ioRange m.bytes).2 * lbaSize (volRec s m.vol)) 0) (ioRange m.bytes).2) ∧
    (∀ key a, volKeyMat s (volRec s m.vol) = some key → allocBuf s ((ioRange m.bytes).2 * lbaSize (volRec s m.vol)) = some a →
      Completes (.writeZeroes c tag) s (fun t => tget t.nv.cmds tag = some { m with
          ready := true, buffer := a, len := (ioRange m.bytes).2 * lbaSize (volRec s m.vol) } ∧
        (∀ j, j ≠ tag → tget t.nv.cmds j = tget s.nv.cmds j) ∧ t.dict = s.dict ∧ t.hmem = s.hmem))) ∧
  (∀ s tag m r data n key a, volKeyMat s r = some key → allocBuf s (n * lbaSize r) = some a →
    (bufferWrite s tag m r data n).mem = (writeInt s a (xtsRun Config.xtsEncrypt key (lbaSize r) (sField m.bytes 40 8) n data)).mem ∧
    tget (bufferWrite s tag m r data n).nv.cmds tag = some { m with ready := true, buffer := a, len := n * lbaSize r }) ∧
  (∀ (c : Fin 256) tag m s, IoAt s c tag 0x09 m → exec (.datasetManagement c tag false) s = .next (nvFinish s tag nvDataTransfer 0) ∧
    (volBackend (volRec s m.vol) ≠ 1 → Completes (.datasetManagement c tag true) s (fun t =>
      tget t.nv.cmds tag = some { m with ready := true } ∧ (∀ j, j ≠ tag → tget t.nv.cmds j = tget s.nv.cmds j) ∧ t.dict = s.dict ∧
      t.mem = s.mem ∧ t.hmem = s.hmem)) ∧
    (∀ a, volBackend (volRec s m.vol) = 1 → allocBuf s (16 * m.ranges.length) = some a →
      Completes (.datasetManagement c tag true) s (fun t =>
        tget t.nv.cmds tag = some { m with ready := true, buffer := a, len := 16 * m.ranges.length } ∧
        (∀ j, j ≠ tag → tget t.nv.cmds j = tget s.nv.cmds j) ∧ t.mem = (writeInt s a (dsmList (volRec s m.vol) m.ranges)).mem ∧
        t.dict = s.dict ∧ t.hmem = s.hmem))) ∧
  (∀ tag m d s, tget s.nv.cmds tag = some m → m.ready = true → m.started = false → m.cpl = none → nvMayStart s tag m = true → s.err.failStop = false →
    volBackend (volRec s m.vol) ≠ 2 → tget s.nv.ssds (volWhere (volRec s m.vol)) = some d → d.pairs ≠ 0 →
    pairOpen s (volWhere (volRec s m.vol)) (m.ctrl % d.pairs) < pairDepth d → Completes (.nvmeBackendStart tag) s (fun t =>
      tget t.nv.cmds tag = some { m with started := true, pair := m.ctrl % d.pairs, left := 1 } ∧
      (∃ rest, t.nv.sent = (volWhere (volRec s m.vol), ssdCommand tag m (volRec s m.vol)) :: rest) ∧
      (∀ j, j ≠ tag → tget t.nv.cmds j = tget s.nv.cmds j) ∧ t.dict = s.dict ∧ t.mem = s.mem ∧ t.hmem = s.hmem)) ∧
  (∀ tag m (st : U16) data s, tget s.nv.cmds tag = some m → m.started = true → m.cpl = none → volBackend (volRec s m.vol) ≠ 2 → m.op ≠ 2 →
    exec (.backendResponse tag st data) s = .next (nvAnswered s tag m (ssdStatus st.toNat)) ∧
    (m.op ≠ 1 → m.left ≤ 1 → ResultRoom s m → Completes (.backendResponse tag st data) s (fun t => CmdEnded s t tag))) ∧
  (∀ tag m s, tget s.nv.cmds tag = some m → m.started = false → m.cpl = none → nvMayStart s tag m = false →
    exec (.rlockWaitLimit tag) s = .next (nvFinish (count s (okey 0x6040 3)) tag nvInterrupted 0) ∧
    (ResultRoom s m → Completes (.rlockWaitLimit tag) s (fun t => CmdEnded s t tag ∧ t.dict = (count s (okey 0x6040 3)).dict))) ∧
  (∀ tag m s, tget s.nv.cmds tag = some m → m.started = true → m.cpl = none →
    exec (.nvmeBackendTimeout tag) s = .next (nvFinish s tag nvTransport 0) ∧
    (ResultRoom s m → Completes (.nvmeBackendTimeout tag) s (fun t => CmdEnded s t tag ∧ t.dict = s.dict))) ∧
  (∀ s tag m, nvMayStart s tag m = true ↔ ∀ p ∈ s.nv.cmds, p.1 < tag → p.2.vol = m.vol → writeClass p.2 = true ∨ writeClass m = true →
    lbasMeet p.2.ranges m.ranges = false)

/-- Every part holds: NvmeControllers, NvmeAdmin. -/
def Obligations.StorageControllers : Prop := Claims.NvmeControllers ∧ Claims.NvmeAdmin

/-- Every part holds: NvmeIo. -/
def Obligations.StorageCommands : Prop := Claims.NvmeIo

/-! ### Chapter 14: migration and mailboxes -/

/-- R360-R366: the dirty-page log and the migration hold: ranges are kept, a write of a tenancy marks its page, a harvest copies the words and
clears them, and the hold goes through its states. -/
def Sys2Proof.Claims.MigrationLog : Prop :=
  (∀ who h k r, Serves (.dplRangeWrite who h k r) (dplRangeOp who h k r)) ∧
  (∀ who h x, Serves (.dplCtrl who h x) (dplCtrlOp who h x)) ∧
  (∀ who h r, Serves (.dplHarvest who h r) (dplHarvestOp who h r)) ∧
  (∀ who h x, Serves (.migHold who h x) (migHoldOp who h x)) ∧
  (∀ who h (k : Fin 8) (r : Rec 24) s, glenServes s = true → (dplRangeOp who h k r).status s = .ok → Completes (.dplRangeWrite who h k r) s (fun t =>
    (dplPages r.toNat ≠ 0 → tget (migOf t (hIdx h)).ranges k = some { base := dplBase r.toNat, pages := dplPages r.toNat, bitmap := dplBitmap r.toNat }) ∧
    (dplPages r.toNat = 0 → tget (migOf t (hIdx h)).ranges k = none) ∧ (∀ j, j ≠ k.val → tget (migOf t (hIdx h)).ranges j = tget (migOf s (hIdx h)).ranges j) ∧
    (∀ j, j ≠ hIdx h → migOf t j = migOf s j) ∧ t.mem = s.mem)) ∧
  (∀ who h (x : U8) s, glenServes s = true → (dplCtrlOp who h x).status s = .ok → Completes (.dplCtrl who h x) s (fun t =>
    (migOf t (hIdx h)).on = decide (x = 1) ∧ (x = 1 → (migOf t (hIdx h)).incomplete = false ∧ (migOf t (hIdx h)).uncovered = 0) ∧
    (migOf t (hIdx h)).ranges = (migOf s (hIdx h)).ranges ∧ (∀ j, j ≠ hIdx h → migOf t j = migOf s j) ∧ t.dict = s.dict ∧ t.mem = s.mem)) ∧
  (∀ who h (r : Rec 32) d s, glenServes s = true → (dplHarvestOp who h r).status s = .ok → hvSpace r.toNat = 1 →
    tget (migOf s (hIdx h)).ranges (hvRange r.toNat) = some d → Completes (.dplHarvest who h r) s (fun t =>
      t.resp.payload = beBytes 4 (bitsSet (readInt s (d.bitmap + 8 * hvFirst r.toNat) (8 * hvCount r.toNat))) ∧
      t.mem = memWriteN s.mem (d.bitmap + 8 * hvFirst r.toNat)
        (List.replicate (readInt s (d.bitmap + 8 * hvFirst r.toNat) (8 * hvCount r.toNat)).length 0) ∧ t.dict = s.dict ∧ t.mig = s.mig)) ∧
  (∀ s t a r n, (migOf s t).on = true → dplRange (migOf s t) a = some (r, n) →
    bitOf (memRead (dplPage s t a).mem (r.bitmap + 8 * (n / 64) + n % 64 / 8)).toNat (n % 8) = true ∧
    (migOf (dplPage s t a) t).marked = ((migOf s t).marked + 1) % 2 ^ 64) ∧
  (∀ s t a n, (migOf s t).on = true → (∀ p ∈ pagesOf a n, dplRange (migOf s t) p = none) → pagesOf a n ≠ [] → (dplMark s t a n).mem = s.mem ∧
    (migOf (dplMark s t a n) t).incomplete = true ∧ (migOf (dplMark s t a n) t).uncovered = ((migOf s t).uncovered + 1) % 2 ^ 64) ∧
  (∀ s t a, (migOf s t).on = false → dplPage s t a = s) ∧
  (∀ who h (x : U8) s, glenServes s = true → (migHoldOp who h x).status s = .ok → Completes (.migHold who h x) s (fun t =>
    (x = 0 → (migOf t (hIdx h)).hold = 0) ∧ (x ≠ 0 → (migOf s (hIdx h)).hold = 0 → (migOf t (hIdx h)).hold = 1) ∧
    (∀ j, j ≠ hIdx h → migOf t j = migOf s j) ∧ t.dict = s.dict ∧ t.mem = s.mem ∧ t.host = s.host)) ∧
  (∀ (i : Fin 256) s, (migOf s i).hold = 1 → s.err.failStop = false → Completes (.migHoldDrained i) s (fun t =>
    migOf t i = { migOf s i with hold := 2 } ∧ (∀ j, j ≠ i.val → migOf t j = migOf s j) ∧ t.dict = s.dict ∧ t.mem = s.mem)) ∧
  (∀ (i : Fin 256) s, (migOf s i).hold ≠ 0 → s.err.failStop = false → Completes (.migHoldExpired i) s (fun t =>
    migOf t i = { migOf s i with hold := 0 } ∧ (∀ j, j ≠ i.val → migOf t j = migOf s j) ∧ t.dict = s.dict ∧ t.mem = s.mem ∧
    ∃ e rest, t.err.events = e :: rest ∧ e.name = "MIG_HOLD_EXPIRED" ∧ e.cls = 8 ∧ e.resource = i.val))

/-- R369-R374: a mailbox takes the writes of its two sides: offers select a version, a count moves within the rule of R371, a slot that holds an
unconsumed message is not written; its reset. -/
def Sys2Proof.Claims.Mailboxes : Prop :=
  (∀ who h, Serves (.mbReset who h) (mbResetOp who h)) ∧
  (∀ who h s, glenServes s = true → (mbResetOp who h).status s = .ok → Completes (.mbReset who h) s (fun t =>
    mbOf t (hIdx h) = { operOffer := (mbOf s (hIdx h)).operOffer, intEn := (mbOf s (hIdx h)).intEn, vector := (mbOf s (hIdx h)).vector, resetting := true
                        peerResetTen := true, peerResetOper := (mbOf s (hIdx h)).peerResetOper } ∧
    (∀ j, j ≠ hIdx h → mbOf t j = mbOf s j) ∧ t.dict = s.dict ∧ t.mem = s.mem ∧ t.host = s.host ∧ t.resp = { status := .ok })) ∧
  (∀ who h f, Serves (.mbFunctionWrite who h f) (mbFunctionOp who h f)) ∧
  (∀ who h (f : Handle) s, glenServes s = true → (mbFunctionOp who h f).status s = .ok → Completes (.mbFunctionWrite who h f) s (fun t =>
    numD t (tkey (hIdx h) 0xC070 1) 0 = f.toNat ∧ (∀ k d, k ≠ tkey (hIdx h) 0xC070 1 → numD t k d = numD s k d) ∧
    (mbOf t (hIdx h)).resetting = true ∧ (mbOf t (hIdx h)).sel = 0 ∧ (mbOf t (hIdx h)).peerResetTen = true ∧
    (∀ j, j ≠ hIdx h → mbOf t j = mbOf s j) ∧ t.mem = s.mem ∧ t.host = s.host ∧ t.resp = { status := .ok })) ∧
  (∀ (n : Fin 256) (w : U32) s side, mbTakes s n side = true → side ≠ .tenant → Completes (.mbOfferWrite n side w) s (fun t =>
    mbOf t n = { mbOf s n with operOffer := w, sel := mbSelect w (mbOf s n).tenOffer } ∧ (∀ j, j ≠ n.val → mbOf t j = mbOf s j) ∧ t.dict = s.dict ∧
    t.mem = s.mem)) ∧
  (∀ (n : Fin 256) (w : U32) s, mbTakes s n .tenant = true → Completes (.mbOfferWrite n .tenant w) s (fun t =>
    mbOf t n = { mbOf s n with tenOffer := w, sel := mbSelect (mbOf s n).operOffer w } ∧ (∀ j, j ≠ n.val → mbOf t j = mbOf s j) ∧ t.dict = s.dict ∧
    t.mem = s.mem)) ∧
  (∀ a b : U32, (bitsOf a.toNat 24 8 = 0 ∨ bitsOf b.toNat 24 8 = 0 → mbSelect a b = 0) ∧
    (bitsOf a.toNat 24 8 ≠ 0 → bitsOf b.toNat 24 8 ≠ 0 → negotiate (mbOffer a) (mbOffer b) = none → mbSelect a b = 0x40000000)) ∧
  (∀ (n : Fin 256) side pr (x : U16) s, mbTakes s n side = true →
    (mbAccepts pr x (mbCounts (mbOf s n) side pr).1 (mbCounts (mbOf s n) side pr).2 = true → Completes (.mbCountWrite n side pr x) s (fun t =>
      mbOf t n = mbSetCount (mbOf s n) side pr x ∧ (∀ j, j ≠ n.val → mbOf t j = mbOf s j) ∧ t.mem = s.mem)) ∧
    (mbAccepts pr x (mbCounts (mbOf s n) side pr).1 (mbCounts (mbOf s n) side pr).2 = false → Completes (.mbCountWrite n side pr x) s (fun t =>
      mbOf t n = { mbOf s n with violations := min 65535 ((mbOf s n).violations + 1) } ∧ (∀ j, j ≠ n.val → mbOf t j = mbOf s j) ∧ t.mem = s.mem))) ∧
  (∀ p c v : U16, (mbAccepts true v p c = true ↔ (v - c).toNat ≤ 16 ∧ (v - p).toNat ≤ (v - c).toNat) ∧
    (mbAccepts false v p c = true ↔ (v - c).toNat ≤ (p - c).toNat)) ∧
  (∀ (n : Fin 256) (k : Fin 16) (o : Fin 64) b s, mbTakes s n .tenant = true →
    (mbOccupied (mbOf s n).txProd (mbOf s n).txCons k = false → Completes (.mbSlotWrite n .tenant k o b) s (fun t =>
      tget (mbOf t n).txSlots (k.val * 64 + o.val) = some b ∧ (∀ j, j ≠ k.val * 64 + o.val → tget (mbOf t n).txSlots j = tget (mbOf s n).txSlots j) ∧
      (mbOf t n).rxSlots = (mbOf s n).rxSlots ∧ (∀ j, j ≠ n.val → mbOf t j = mbOf s j) ∧ t.dict = s.dict ∧ t.mem = s.mem)) ∧
    (mbOccupied (mbOf s n).txProd (mbOf s n).txCons k = true → Completes (.mbSlotWrite n .tenant k o b) s (fun t =>
      mbOf t n = { mbOf s n with violations := min 65535 ((mbOf s n).violations + 1) }))) ∧
  (∀ (n : Fin 256) (k : Fin 16) (o : Fin 64) b s side, mbTakes s n side = true → side ≠ .tenant →
    mbOccupied (mbOf s n).rxProd (mbOf s n).rxCons k = false → Completes (.mbSlotWrite n side k o b) s (fun t => tget (mbOf t n).rxSlots (k.val * 64 + o.val) = some b ∧
      (mbOf t n).txSlots = (mbOf s n).txSlots ∧ t.dict = s.dict ∧ t.mem = s.mem)) ∧
  (∀ s n side, (mbOf s n).resetting = true → mbTakes s n side = false) ∧
  (∀ s n b, (mbOf (mbResetStart s n b) n).resetting = true ∧ (mbOf (mbResetStart s n b) n).sel = 0 ∧ (mbOf (mbResetStart s n b) n).tenOffer = 0 ∧
    (mbOf (mbResetStart s n b) n).operOffer = (mbOf s n).operOffer ∧ (b = true → (mbOf (mbResetStart s n b) n).peerResetOper = true) ∧
    (b = false → (mbOf (mbResetStart s n b) n).peerResetTen = true)) ∧
  (∀ (n : Fin 256) s, (mbOf s n).resetting = true → Completes (.mbResetComplete n) s (fun t => mbOf t n = { mbOf s n with resetting := false } ∧
    (∀ j, j ≠ n.val → mbOf t j = mbOf s j) ∧ t.dict = s.dict ∧ t.mem = s.mem))

/-- Every part holds: MigrationLog, Mailboxes. -/
def Obligations.MigrationAndMailboxes : Prop := Claims.MigrationLog ∧ Claims.Mailboxes

/-! ### Chapter 15: control cores and memory -/

namespace Sys2Proof.Machine

/-- Nothing but the Steppe cluster's controls, Glen's peripherals and the memory controllers has changed. -/
def OnlyCtl (s t : State) : Prop :=
  t.dict = s.dict ∧ t.mem = s.mem ∧ t.hmem = s.hmem ∧ t.east = s.east ∧ t.west = s.west ∧ t.host = s.host ∧ t.err = s.err ∧ t.boot = s.boot ∧
  t.clk = s.clk ∧ t.resp = s.resp

end Sys2Proof.Machine

/-- R378, R379: harts start and stop; a quad is tested once its harts have stopped, and a quad that fails is retired. -/
def Sys2Proof.Claims.HartsAndQuads : Prop :=
  (∀ (h : Fin 24) s, s.err.failStop = false → quadClosed s (h / 4) = false →
    Completes (.hartRunWrite h false) s (fun t => OnlyCtl s t ∧ hartOf t h = { hartOf s h with run := false, stopped := true } ∧
      (∀ j, j ≠ h.val → hartOf t j = hartOf s j)) ∧
    ((hartOf s h).stopped = true → Completes (.hartRunWrite h true) s (fun t => OnlyCtl s t ∧
      hartOf t h = { hartOf s h with run := true, stopped := false, pc := (hartOf s h).pcHi * 2 ^ 32 + (hartOf s h).pcLo.toNat } ∧
      (∀ j, j ≠ h.val → hartOf t j = hartOf s j)))) ∧
  (∀ who q, Serves (.quadTest who q) (quadTestOp who q)) ∧
  (∀ who (q : U8) s, glenServes s = true → (quadTestOp who q).status s = .ok → Completes (.quadTest who q) s (fun t =>
    t.ctl.quadTest = some q.toNat ∧ t.ctl.harts = s.ctl.harts ∧ t.dict = s.dict ∧ t.mem = s.mem)) ∧
  (∀ who (q : U8) s, (quadTestOp who q).status s = .ok → q.toNat < 6 ∧ quadRetired s q.toNat = false ∧ quadStopped s q.toNat = true ∧
    s.ctl.quadTest = none) ∧
  (∀ q s, s.ctl.quadTest = some q → s.err.failStop = false → s.ctl.quadQueue = [] → s.err.testFails.contains (unitId 2 6 q 0xFFF) = false →
    Completes (.quadTestDone true) s (fun t => t.ctl.quadTest = none ∧ numD t (okey 0x7000 4) 0 = 0 ∧ t.ctl.harts = s.ctl.harts ∧ t.mem = s.mem) ∧
    Completes (.quadTestDone false) s (fun t => t.ctl.quadTest = none ∧ bitOf (numD t (okey 0x7000 5) 0) q = true ∧
      (∀ i, i < 4 → (hartOf t (4 * q + i)).run = false ∧ (hartOf t (4 * q + i)).stopped = true) ∧ t.mem = s.mem))

/-- R382, R383: a ring's control word and counts. -/
def Sys2Proof.Claims.SteppeRings : Prop :=
  (∀ (r : Fin 1216) (w : U32) s, sringValid r = true → s.err.failStop = false → bitOf w.toNat 31 = true →
    ((sringOf s r).en = true → Completes (.steppeRingEnable r w) s (fun t => OnlyCtl s t ∧
      sringOf t r = { sringOf s r with irq := w.toNat % 2048 } ∧ (∀ j, j ≠ r.val → sringOf t j = sringOf s j))) ∧
    ((sringOf s r).en = false →
      sringFits s { sringOf s r with log2 := bitsOf w.toNat 16 4, size := bitsOf w.toNat 12 3, irq := w.toNat % 2048 } = true →
      Completes (.steppeRingEnable r w) s (fun t => OnlyCtl s t ∧ (sringOf t r).en = true ∧ (sringOf t r).prod = 0 ∧ (sringOf t r).cons = 0 ∧
        (sringOf t r).log2 = bitsOf w.toNat 16 4 ∧ (sringOf t r).size = bitsOf w.toNat 12 3 ∧ (∀ j, j ≠ r.val → sringOf t j = sringOf s j))) ∧
    ((sringOf s r).en = false →
      sringFits s { sringOf s r with log2 := bitsOf w.toNat 16 4, size := bitsOf w.toNat 12 3, irq := w.toNat % 2048 } = false →
      Completes (.steppeRingEnable r w) s (fun t => OnlyCtl s t ∧ (sringOf t r).en = false ∧ (∀ j, j ≠ r.val → sringOf t j = sringOf s j)))) ∧
  (∀ (r : Fin 1216) (x : U16) s, sringValid r = true → s.err.failStop = false →
    (sringAccepts r (sringOf s r) x.toNat = true → Completes (.steppeRingCountWrite r x) s (fun t => OnlyCtl s t ∧
      sringOf t r = (if 1152 ≤ r.val then { sringOf s r with prod := x.toNat } else { sringOf s r with cons := x.toNat }) ∧
      (∀ j, j ≠ r.val → sringOf t j = sringOf s j))) ∧
    (sringAccepts r (sringOf s r) x.toNat = false → exec (.steppeRingCountWrite r x) s = .next (sringDrop s r)))

/-- R394-R398: PERIPH_EN and the SPI target: a command word is taken or refused, a write takes effect as a whole at the end of
its transaction, an edge gap discards it, a snapshot is taken. -/
def Sys2Proof.Claims.Peripherals : Prop :=
  (∀ who x, Serves (.periphEnWrite who x) (periphEnOp who x)) ∧
  (∀ who (x : U16) s, glenServes s = true → (periphEnOp who x).status s = .ok → Completes (.periphEnWrite who x) s (fun t =>
    numD t (okey 0x7050 1) 0 = x.toNat % 64 ∧ t.mem = s.mem ∧ t.host = s.host)) ∧
  (∀ (w : U32) s, s.ctl.spit.active = false → periphOn s 3 = true →
    (spitRefused w.toNat = true → Completes (.spitCommand w) s (fun t => t.ctl.spit.active = true ∧ t.ctl.spit.ignore = true ∧ t.ctl.spit.out = [] ∧
      numD t (okey 0x7052 3) 0 = numD s (okey 0x7052 3) 0 ∧ t.mem = s.mem)) ∧
    (spitRefused w.toNat = false → bitsOf w.toNat 30 2 = 1 → Completes (.spitCommand w) s (fun t => OnlyCtl s t ∧ t.ctl.spit.active = true ∧
      t.ctl.spit.out = 0 :: (List.range (bitsOf w.toNat 18 10)).map (fun i => spitWord s (bitsOf w.toNat 2 10 + i)))) ∧
    (spitRefused w.toNat = false → bitsOf w.toNat 30 2 = 2 → Completes (.spitCommand w) s (fun t => OnlyCtl s t ∧ t.ctl.spit.active = true ∧
      t.ctl.spit.out = [] ∧ t.ctl.spit.addr = bitsOf w.toNat 2 10 ∧ t.ctl.spit.count = bitsOf w.toNat 18 10))) ∧
  (∀ ws s, periphOn s 3 = true → s.ctl.spit.active = true → s.ctl.spit.ignore = false → s.ctl.spit.gap = false →
    (s.ctl.spit.op = 2 → s.ctl.spit.count ≤ ws.length → exec (.spitCsRise ws false false) s = .next (spitStore
      (setSpit s { s.ctl.spit with active := false, ignore := false, gap := false, out := [] }) s.ctl.spit.addr (ws.take s.ctl.spit.count))) ∧
    (s.ctl.spit.op ≠ 2 ∨ ws.length < s.ctl.spit.count → Completes (.spitCsRise ws false false) s (fun t => OnlyCtl s t ∧
      t.ctl.spit.active = false))) ∧
  (∀ s a w, 1020 ≤ a → a < 1024 → scratchWord (spitStore s a [w]) (a - 1020) = w.toNat) ∧
  (∀ s a w, a < 1020 ∨ 1024 ≤ a → numD (spitStore s a [w]) (okey 0x7052 3) 0 = numD s (okey 0x7052 3) 0) ∧
  (∀ s, periphOn s 3 = true → s.ctl.spit.ignore = false → s.ctl.spit.gap = false → Completes .spiEdgeGap s (fun t =>
    t.ctl.spit.gap = true ∧ t.ctl.spit.active = true ∧ numD t (okey 0x7052 3) 0 = numD s (okey 0x7052 3) 0 ∧ t.mem = s.mem)) ∧
  (∀ s, s.boot.glenUp = true → periphOn s 3 = true → Completes .spitSnapshot s (fun t => OnlyCtl s t ∧
    t.ctl.spit.snap = snapshotWords s ∧ t.ctl.spit.snaps = (s.ctl.spit.snaps + 1) % 2 ^ 32))

/-- R388-R390: memory training and the patrol scrub. -/
def Sys2Proof.Claims.MemoryTraining : Prop :=
  (∀ tr g s, s.boot.stage = 4 → ddrDone s = false → tr.length = 4 → g = 16 ∨ g = 32 ∨ g = 64 → s.err.failStop = false →
    Completes (.ddrTraining tr g) s (fun t => t.ctl.ddr = ddrStates (ddrUsed (tr.filter (fun b => b)).length) tr ∧ t.ctl.ddrGib = g ∧
      ((∀ b ∈ tr, b = false) → t.boot.stage = 0xE3) ∧ ((∃ b ∈ tr, b = true) → t.boot = s.boot) ∧ t.dict = s.dict ∧ t.mem = s.mem)) ∧
  ddrStates (ddrUsed 3) [true, false, true, true] = [1, 2, 1, 3] ∧ ddrStates (ddrUsed 4) [true, true, true, true] = [1, 1, 1, 1] ∧
  ddrStates (ddrUsed 1) [false, false, true, false] = [2, 2, 1, 2] ∧
  (∀ c s, exec (.zqCalibration c) s = .next s) ∧
  (∀ a b s, s.ctl.hbm.length = 2 → 4 ≤ s.boot.stage → (carveOf s 0).trained = false → (carveOf s 0).failed = false → s.err.failStop = false →
    Completes (.hbmTraining a b) s (fun t => (carveOf t 0).trained = a ∧ (carveOf t 1).trained = (b || (carveOf s 1).trained) ∧
      (carveOf t 0).failed = !a ∧ t.dict = s.dict ∧ t.mem = s.mem)) ∧
  (∀ (k : Fin 2) w s, (carveOf s k).trained = true → s.err.failStop = false →
    exec (.patrolScrub k w true) s = .next (count s (okey 0x7040 1)) ∧ exec (.patrolScrub k w false) s = .next s)

/-- Every part holds: HartsAndQuads, SteppeRings. -/
def Obligations.ControlCores : Prop := Claims.HartsAndQuads ∧ Claims.SteppeRings

/-- Every part holds: Peripherals, MemoryTraining. -/
def Obligations.PeripheralsAndMemory : Prop := Claims.Peripherals ∧ Claims.MemoryTraining

/-! ### Chapter 16: the vault -/

namespace Sys2Proof.Machine

/-- Nothing but the vault, the draws and the answer has changed. -/
def OnlyVault (s t : State) : Prop :=
  t.dict = s.dict ∧ t.mem = s.mem ∧ t.hmem = s.hmem ∧ t.east = s.east ∧ t.west = s.west ∧ t.host = s.host ∧ t.nv = s.nv ∧
  t.saddle = s.saddle ∧ t.ctl = s.ctl ∧ t.boot = s.boot ∧ t.clk = s.clk ∧ t.err = s.err ∧ t.tens = s.tens

/-- Nothing but one key slot, the engines' copy of it and the note of a persistent change has changed in the vault. -/
def OnlyKey (s t : State) (i : Nat) : Prop :=
  OnlyVault s t ∧ (∀ j, j ≠ i → tget t.vault.slots j = tget s.vault.slots j) ∧ i ∉ t.vault.cached ∧ t.vault.keyReg = s.vault.keyReg ∧
  t.vault.lc = s.vault.lc ∧ t.vault.sealed = s.vault.sealed ∧ t.vault.erasing = s.vault.erasing ∧ t.vault.nonce = s.vault.nonce

/-- Steps 1 and 2 of an erasure are done and the others run towards `a`. -/
def Erasing (s t : State) (a : AfterErase) : Prop :=
  t.vault.keyReg = 0 ∧ t.vault.cached = [] ∧ t.vault.erasing = some a ∧ t.vault.sealed = s.vault.sealed ∧ t.vault.lc = s.vault.lc ∧
  (∀ i, tget t.vault.slots i = (tget s.vault.slots i).map (fun k => { k with lost := true, mat := [] })) ∧ t.mem = s.mem

end Sys2Proof.Machine

/-- R405, R406: keys are generated, imported and destroyed; one slot changes, and the sealed store is to follow where the key is
persistent (bit 0 of its flags). -/
def Sys2Proof.Claims.KeyCommands : Prop :=
  (∀ who r, Serves (.keyGenerate who r) (keyGenerateOp who r)) ∧ (∀ who r, Serves (.keyImport who r) (keyImportOp who r)) ∧
  (∀ who h r, Serves (.keyImportT who h r) (keyImportTOp who h r)) ∧ (∀ who x, Serves (.keyDestroy who x) (keyDestroyOp who x.toNat)) ∧
  (∀ who (r : Rec 8) s, glenServes s = true → (keyGenerateOp who r).status s = .ok → Completes (.keyGenerate who r) s (fun t =>
    OnlyKey s t (kgSlot r.toNat) ∧ (∃ mat, tget t.vault.slots (kgSlot r.toNat) = some
      { kind := kgKind r.toNat, flags := kgFlags r.toNat, owner := kgOwner r.toNat, mat := mat } ∧ mat.length = matBytes (kgKind r.toNat)) ∧
    t.vault.sealedDirty = (s.vault.sealedDirty || bitOf (kgFlags r.toNat) 0) ∧ t.resp.payload = [])) ∧
  (∀ who (r : Rec 72) s, glenServes s = true → (keyImportOp who r).status s = .ok → Completes (.keyImport who r) s (fun t =>
    OnlyKey s t (kgSlot (r.toNat / 256 ^ 64)) ∧ tget t.vault.slots (kgSlot (r.toNat / 256 ^ 64)) = some
      { kind := kgKind (r.toNat / 256 ^ 64), flags := kgFlags (r.toNat / 256 ^ 64), owner := kgOwner (r.toNat / 256 ^ 64),
        mat := (beBytes 64 (r.toNat % 256 ^ 64)).take (matBytes (kgKind (r.toNat / 256 ^ 64))) } ∧ t.free = s.free)) ∧
  (∀ who h (r : Rec 68) s k, glenServes s = true → (keyImportTOp who h r).status s = .ok → tget s.vault.slots (ktSlot r.toNat) = some k →
    k.owner = h ∧ Completes (.keyImportT who h r) s (fun t => OnlyKey s t (ktSlot r.toNat) ∧
      tget t.vault.slots (ktSlot r.toNat) = some { k with mat := (beBytes 64 (r.toNat % 256 ^ 64)).take (matBytes k.kind), lost := false } ∧
      t.free = s.free)) ∧
  (∀ who (x : U16) s, glenServes s = true → (keyDestroyOp who x.toNat).status s = .ok → keyNamed s x.toNat = false ∧
    Completes (.keyDestroy who x) s (fun t => tget t.vault.slots x.toNat = none ∧ (tget s.vault.slots x.toNat ≠ none → OnlyKey s t x.toNat))) ∧
  (∀ s, s.vault.up = true → s.vault.sealedDirty = true → s.vault.erasing = none → keyStoreOn s = true → s.err.failStop = false →
    Completes .sealedStoreWrite s (fun t => OnlyVault s t ∧ t.vault.slots = s.vault.slots ∧ t.vault.sealedDirty = false ∧
      t.vault.sealed = some ((match s.vault.sealed with | some x => x.1 + 1 | none => 1), persistentSlots s)))

/-- R405: drawn material is never out of range: no equal halves of an XTS pair, no scalar of 0 or of the group order or more. -/
def Sys2Proof.Claims.DrawnKeysFit : Prop :=
  ∀ s kind, kind < 256 → keyMatBad kind (drawKey s kind).1 = false ∧ (drawKey s kind).1.length = matBytes kind

/-- R402, R403, R408: the life cycle only moves as R403 allows, a move to Return or Scrapped erases the keys first and its fuse
word is programmed at the erasure's end; the sealed store is then gone and the key register new. -/
def Sys2Proof.Claims.LifeCycle : Prop :=
  (∀ who r, Serves (.lcAdvance who r) (lcAdvanceOp who r)) ∧
  (∀ a b, lcAllowed a b = true ↔ (a = 1 ∧ b = 2) ∨ (a = 2 ∧ b = 3) ∨ (a < 4 ∧ b = 4)) ∧
  (∀ s k, s.vault.lc.length = 4 → k < 4 → lcWord (programLc s k) k = true ∧ (∀ j, j ≠ k → lcWord (programLc s k) j = lcWord s j) ∧
    k + 1 ≤ lcState (programLc s k) ∧ lcState s ≤ lcState (programLc s k)) ∧
  (∀ who (r : Rec 132) s, glenServes s = true → (lcAdvanceOp who r).status s = .ok → lcAllowed (lcState s) (laTarget r.toNat) = true ∧
    (laTarget r.toNat = 2 → exec (.lcAdvance who r) s = .next (respond (programLc s 1) .ok 0 [])) ∧
    (laTarget r.toNat ≠ 2 → Completes (.lcAdvance who r) s (fun t => Erasing s t (.lcWord (laTarget r.toNat - 1))))) ∧
  (∀ s a, s.vault.erasing = some a → Completes .erasureComplete s (fun t => OnlyVault s t ∧ t.vault.erasing = none ∧ t.vault.sealed = none ∧
    t.vault.sealedDirty = false ∧ t.vault.keyRegLost = false ∧ t.vault.slots = s.vault.slots ∧ t.vault.up = s.vault.up ∧
    t.vault.lc = (match a with | .lcWord k => s.vault.lc.set k 0xFFFF | _ => s.vault.lc) ∧
    t.vault.scope = (match a with | .openPorts x => x | _ => s.vault.scope)))

/-- R409-R412: challenges, unlocks, tamper inputs and their lock, the health of the random source. -/
def Sys2Proof.Claims.DebugAndTamper : Prop :=
  (∀ who, Serves (.debugChallenge who) (debugChallengeOp who)) ∧ (∀ who r, Serves (.debugUnlock who r) (debugUnlockOp who r)) ∧
  (∀ who x, Serves (.tamperLockWrite who x) (tamperLockOp who x)) ∧
  (∀ who s, glenServes s = true → (debugChallengeOp who).status s = .ok → Completes (.debugChallenge who) s (fun t => OnlyVault s t ∧
    t.resp.payload.length = 32 ∧ t.vault.nonce = some (t.resp.payload, s.time.sec) ∧ t.vault.slots = s.vault.slots)) ∧
  (∀ who (r : Rec 148) s, glenServes s = true → (debugUnlockOp who r).status s = .ok → unlockFits s (beBytes 148 r.toNat) = true ∧
    (s.vault.lcBoot = 2 → Completes (.debugUnlock who r) s (fun t => Erasing s t (.openPorts (recField 148 48 1 r.toNat % 8)) ∧
      t.vault.scope = s.vault.scope)) ∧
    (s.vault.lcBoot ≠ 2 → Completes (.debugUnlock who r) s (fun t => OnlyVault s t ∧ t.vault.slots = s.vault.slots ∧
      t.vault.scope = s.vault.scope ||| (recField 148 48 1 r.toNat % 8)))) ∧
  (∀ who (x : U8) s, glenServes s = true → (tamperLockOp who x).status s = .ok → tamperLocked s = false ∧
    exec (.tamperLockWrite who x) s = .next (respond (setNum s (okey 0x2302 3) x.toNat) .ok 0 []) ∧
    (x = 1 → tamperLocked (setNum s (okey 0x2302 3) x.toNat) = true)) ∧
  (∀ a b s, s.clk.vaon = true → tamperRun s.vault.tamper0 (tamperActive s 0 a) ≠ 2 →
    tamperRun s.vault.tamper1 (tamperActive s 1 b) ≠ 2 → Completes (.tamperSample a b) s (fun t =>
    OnlyVault s t ∧ t.vault = { s.vault with
      tamper0 := tamperRun s.vault.tamper0 (tamperActive s 0 a)
      tamper1 := tamperRun s.vault.tamper1 (tamperActive s 1 b) })) ∧
  (∀ a b s, s.clk.vaon = true → tamperActive s 0 a = true → tamperActive s 1 b = false → s.vault.tamper0 = 1 → s.vault.tamper1 = 0 →
    s.vault.up = true → s.vault.erasing = none → tamperAction s 0 = 1 →
    Completes (.tamperSample a b) s (fun t => t.vault.keyReg = 0 ∧ t.vault.erasing = some .nothing ∧
      t.vault.tamperLog = keep 4 ((0, s.clk.rtc) :: s.vault.tamperLog) ∧ (∀ i k, tget t.vault.slots i = some k → k.lost = true ∧ k.mat = []) ∧
      t.mem = s.mem)) ∧
  (∀ s, s.vault.trng ≠ 2 → s.vault.up = true → s.err.failStop = false →
    (s.vault.trngFails.filter (fun u => decide (s.time.sec < u + 3600))).length < 2 → Completes .trngFailed s (fun t => t.vault.trng = 0 ∧
      t.vault.trngFails = s.time.sec :: s.vault.trngFails.filter (fun u => decide (s.time.sec < u + 3600)) ∧ t.vault.slots = s.vault.slots ∧
      t.mem = s.mem ∧ t.dict = s.dict)) ∧
  (∀ s, s.vault.trng = 0 → Completes .trngStartupTestDone s (fun t => OnlyVault s t ∧ t.vault = { s.vault with trng := 1 }))

/-- R415, R416: VAULT_CMD answers with a result record and leaves everything as it is but for what is drawn; the checks of a
verification and of a peer's point, the first that fails giving the result code. -/
def Sys2Proof.Claims.VaultEngine : Prop :=
  (∀ who alg addr len, Serves (.vaultHash who alg addr len) (vaultHashOp who alg.toNat addr.toNat len.toNat)) ∧
  (∀ who (alg : U8) (addr : U64) (len : U32) s, glenServes s = true → (vaultHashOp who alg.toNat addr.toNat len.toNat).status s = .ok →
    poisoned s addr.toNat len.toNat = false → exec (.vaultHash who alg addr len) s = .next (respond s .ok 0 (resultRec 0
      (sliceD (Config.hash alg.toNat (readInt s addr.toNat len.toNat)) 0 (digestBytes alg.toNat) 0)))) ∧
  (∀ who (alg : U8) (slot : U16) msg s k, glenServes s = true → tget s.vault.slots slot.toNat = some k →
    (vaultSignOp who alg.toNat slot.toNat msg).status s = .ok → k.lost = false ∧ k.kind = algKind alg.toNat ∧ k.owner = 0 ∧
    exec (.vaultSign who alg slot msg) s = .next (respond s .ok 0 (resultRec 0 (sliceD (Config.sign k.mat msg 0) 0 (sigBytes alg.toNat) 0)))) ∧
  (∀ who (alg : U8) ops s, glenServes s = true → (vaultVerifyOp who alg.toNat ops).status s = .ok →
    exec (.vaultVerify who alg ops) s = .next (respond s .ok 0 (resultRec (verifyResult alg.toNat ops) []))) ∧
  (∀ who (alg : U8) (slot : U16) peer s k, glenServes s = true → tget s.vault.slots slot.toNat = some k →
    (vaultEcdhOp who alg.toNat slot.toNat peer).status s = .ok → k.lost = false ∧ exec (.vaultEcdh who alg slot peer) s = .next (respond s .ok 0
      (resultRec (ecdhResult alg.toNat k.mat peer).1 (ecdhResult alg.toNat k.mat peer).2))) ∧
  (∀ who (len : U32) s, glenServes s = true → (vaultRandomOp who len.toNat).status s = .ok → Completes (.vaultRandom who len) s (fun t =>
    OnlyVault s t ∧ t.vault = s.vault ∧ t.free = s.free + 1 ∧ ∃ x, x.length = len.toNat ∧ t.resp.payload = resultRec 0 x)) ∧
  (∀ alg x y, (pointResult alg x y = 3 ↔ (if alg = 2 then prime384 else prime256) ≤ x ∨ (if alg = 2 then prime384 else prime256) ≤ y) ∧
    (pointResult alg x y = 0 → onCurve alg x y = true)) ∧
  (∀ ops : List Byte, beNat ((ops.drop 96).take 32) = 0 ∨ beNat ((ops.drop 128).take 32) = 0 → verifyResult 1 ops = 2) ∧
  (∀ ops : List Byte, verifyResult 1 ops = 0 → 0 < beNat ((ops.drop 96).take 32) ∧ beNat ((ops.drop 96).take 32) < order256 ∧
    0 < beNat ((ops.drop 128).take 32) ∧ beNat ((ops.drop 128).take 32) < order256 ∧
    onCurve 1 (beNat (ops.take 32)) (beNat ((ops.drop 32).take 32)) = true)

/-- R418, R420: a security association is written, its fields checked unless the record is all zero (log entry 57); its replay window starts anew, and no other association changes. -/
def Sys2Proof.Claims.Associations : Prop :=
  (∀ who a r, Serves (.saWrite who a r) (saWriteOp who a r)) ∧
  (∀ who (a : Fin 16384) (r : Rec 64) s, glenServes s = true → (saWriteOp who a r).status s = .ok →
    (saIn r.toNat ≠ 0 → saBad s (saOfRec r.toNat) = false) ∧ saLowers (saOf s a) (saOfRec r.toNat) = false ∧
    Completes (.saWrite who a r) s (fun t => numD t (saKey a) 0 = saIn r.toNat ∧ tget t.vault.replay a = none ∧
      (∀ k, k ≠ saKey a.val → numD t k 0 = numD s k 0) ∧ (∀ b, b ≠ a.val → tget t.vault.replay b = tget s.vault.replay b) ∧
      t.vault.slots = s.vault.slots ∧ t.mem = s.mem ∧ t.host = s.host))

/-- Every part holds: KeyCommands, DrawnKeysFit, LifeCycle. -/
def Obligations.KeysAndLifeCycle : Prop := Claims.KeyCommands ∧ Claims.DrawnKeysFit ∧ Claims.LifeCycle

/-- Every part holds: DebugAndTamper, VaultEngine, Associations. -/
def Obligations.VaultServices : Prop := Claims.DebugAndTamper ∧ Claims.VaultEngine ∧ Claims.Associations

/-! ### Chapter 17: boot -/

namespace Sys2Proof.Machine

/-- Nothing but the boot state has changed. -/
def OnlyBoot (s t : State) : Prop := t = { s with boot := t.boot }

/-- An install ends: nothing is written, and IMG_INSTALLED is the newest event with the result as its detail. -/
def InstallEnds (s t : State) (st : Status) : Prop :=
  t.boot = { s.boot with inst := .idle, instResult := st } ∧ t.mem = s.mem ∧ t.vault = s.vault ∧
  ∃ e rest, t.err.events = e :: rest ∧ e.name = "IMG_INSTALLED" ∧ e.detail = statusCode st ∧ e.resource = s.boot.instSlot

end Sys2Proof.Machine

/-- R433, R434: the ROM stops when no candidate is left, runs the first that passes, and passes over one that fails; a candidate
whose flash does not answer is tried once more. Flash is free for its debug port only once boot has stopped (R437). -/
def Sys2Proof.Claims.RomAndFlash : Prop :=
  (∀ s, romRuns s = true → s.boot.stage = 2 → s.boot.cands = [] → Completes .romBoot s (fun t => OnlyBoot s t ∧ t.boot.glenUp = false ∧
    (t.boot.stage = 0xE1 ∨ t.boot.stage = 0xE2))) ∧
  (∀ s k ks, romRuns s = true → s.boot.stage = 2 → s.boot.cands = k :: ks → s.vault.lcBoot ≠ 0 →
    imgVerify s (slotImage s k) false = .ok → Completes .romBoot s (fun t => t.boot.glenUp = true ∧ t.boot.running = k ∧
      t.boot.hostUp = decide (s.vault.lcBoot ≠ 4) ∧ t.boot.stage = (if s.vault.lcBoot = 4 then 3 else 4) ∧ t.vault = s.vault ∧ t.mem = s.mem ∧
      t.boot.loaded = [1] ∧ t.boot.tablesInit = true)) ∧
  (∀ s k st, romRuns s = true → s.boot.stage = 2 → s.boot.cands = [k] → k < 2 → imgVerify s (slotImage s k) false = st → st ≠ .ok →
    st ≠ .timeout → Completes .romBoot s (fun t => t.boot.stage = 0xE1 ∧ t.boot.glenUp = false ∧
      (if k = 0 then t.boot.outA else t.boot.outB) = statusCode st ∧ t.vault = s.vault ∧ t.mem = s.mem)) ∧
  (∀ s k ks, romRuns s = true → s.boot.stage = 2 → s.boot.cands = k :: ks →
    (s.boot.tries = 0 → Completes .flashReadTimeout s (fun t => OnlyBoot s t ∧ t.boot = { s.boot with tries := 1 })) ∧
    (s.boot.tries ≠ 0 → ks ≠ [] → Completes .flashReadTimeout s (fun t => t.boot.cands = ks ∧ t.boot.tries = 0 ∧ t.boot.stage = 2 ∧
      (if k = 0 then t.boot.outA else t.boot.outB) = 7 ∧ t.mem = s.mem ∧ t.vault = s.vault))) ∧
  (∀ s, s.boot.stage = 0xE1 ∨ s.boot.stage = 0xE2 → Completes .flashRelease s (fun t => OnlyBoot s t ∧ t.boot = { s.boot with flashFree := true }))

/-- R435, R436: a component is copied to its load address; the first hart of a working quad starts at the entry of component 2;
a Vale with a program leaves reset. -/
def Sys2Proof.Claims.LoadsAndReleases : Prop :=
  (∀ s c, loadDue s 2 = true → compOf s.boot.header 2 = some c → compFits (runningImage s) c = true → inDdr s c.load c.len = true →
    Completes (.componentLoad 2) s (fun t => t.mem = (writeInt s c.load (compBytes (runningImage s) c)).mem ∧
      t.boot = { s.boot with loaded := s.boot.loaded ++ [2] } ∧ t.east = s.east ∧ t.west = s.west ∧ t.vault = s.vault)) ∧
  (∀ s c, loadDue s 2 = true → compOf s.boot.header 2 = some c → compFits (runningImage s) c = false →
    Completes (.componentLoad 2) s (fun t => t.boot.exclude = some s.boot.running ∧ t.boot.glenUp = false ∧ t.err.resetCause = 6 ∧ t.mem = s.mem)) ∧
  (∀ s c, s.boot.stage = 4 → s.boot.loaded.contains 2 = true → s.err.failStop = false → compOf s.boot.header 2 = some c →
    quadRetired s 0 = false → c.entry < 2 ^ 48 → Completes .steppeRelease s (fun t => t.boot.stage = 5 ∧ t.boot.steppeUp = true ∧
      (hartOf t 0).run = true ∧ (hartOf t 0).stopped = false ∧ (hartOf t 0).pc = c.entry ∧ (domOf t 3).st = 2 ∧ t.mem = s.mem ∧ t.dict = s.dict)) ∧
  (∀ s v i, (s.vale v).col.active = some i → (s.vale v).col.held = true → s.boot.tablesInit = true → s.boot.glenUp = true → s.err.failStop = false →
    Completes (.colRelease v) s (fun t => (t.vale v).col.held = false ∧ t.vale (otherVale v) = s.vale (otherVale v) ∧ t.mem = s.mem ∧ t.dict = s.dict ∧
      (s.boot.stage = 5 ∧ (s.vale (otherVale v)).col.held = false → t.boot.stage = 6) ∧
      (s.boot.stage ≠ 5 ∨ (s.vale (otherVale v)).col.held = true → t.boot = s.boot)))

/-- R438: an install is checked, written and verified in this order, and ends with a result. -/
def Sys2Proof.Claims.Installs : Prop :=
  (∀ who r, Serves (.imgInstall who r) (imgInstallOp who r)) ∧
  (∀ who (r : Rec 16) s, glenServes s = true → (imgInstallOp who r).status s = .ok → s.boot.inst = .idle ∧
    Completes (.imgInstall who r) s (fun t => t.boot = {
      s.boot with inst := .checking, instSlot := iiSlot r.toNat, instAddr := iiAddr r.toNat, instLen := iiLength r.toNat, instStart := tickNs s } ∧ t.mem = s.mem ∧ t.vault = s.vault ∧ t.dict = s.dict)) ∧
  (∀ s, s.boot.inst = .checking → s.boot.glenUp = true → s.err.failStop = false →
    (imgLength (installImage s) ≤ s.boot.instLen → imgVerify s (installImage s) true ≠ .ok →
      Completes .installCheckDone s (fun t => InstallEnds s t (imgVerify s (installImage s) true))) ∧
    (imgLength (installImage s) ≤ s.boot.instLen → imgVerify s (installImage s) true = .ok → seqRises s (imgSeq (installImage s)) = false →
      Completes .installCheckDone s (fun t => InstallEnds s t .range)) ∧
    (imgLength (installImage s) ≤ s.boot.instLen → imgVerify s (installImage s) true = .ok → seqRises s (imgSeq (installImage s)) = true →
      Completes .installCheckDone s (fun t => OnlyBoot s t ∧ t.boot.inst = .writing ∧ slotImage t s.boot.instSlot = [] ∧
        (s.boot.instSlot ≠ 0 → t.boot.slotA = s.boot.slotA) ∧ (s.boot.instSlot = 0 → t.boot.slotB = s.boot.slotB) ∧
        t.boot.running = s.boot.running))) ∧
  (∀ s, s.boot.inst = .writing → s.boot.glenUp = true → s.err.failStop = false →
    Completes (.installWriteDone true) s (fun t => OnlyBoot s t ∧ t.boot.inst = .verifying ∧ slotImage t s.boot.instSlot = installImage s ∧
      (s.boot.instSlot ≠ 0 → t.boot.slotA = s.boot.slotA) ∧ (s.boot.instSlot = 0 → t.boot.slotB = s.boot.slotB)) ∧
    Completes (.installWriteDone false) s (fun t => InstallEnds s t .timeout)) ∧
  (∀ s, s.boot.inst = .verifying → s.boot.glenUp = true → s.err.failStop = false →
    (imgVerify s (slotImage s s.boot.instSlot) true ≠ .ok → Completes .installVerifyDone s (fun t =>
      InstallEnds s t (imgVerify s (slotImage s s.boot.instSlot) true))) ∧
    (imgVerify s (slotImage s s.boot.instSlot) true = .ok → Completes .installVerifyDone s (fun t => t.boot.inst = .idle ∧
      t.boot.instResult = .ok ∧ t.boot.slotA = s.boot.slotA ∧ t.boot.slotB = s.boot.slotB ∧ t.mem = s.mem ∧ t.vault = s.vault)))

/-- R440-R442, R432: marks, the rollback fuses, the revocation fuses and a request for the Golden slot. -/
def Sys2Proof.Claims.MarksAndFuses : Prop :=
  (∀ who a b, Serves (.imgMark who a b) (imgMarkOp who a.toNat b.toNat)) ∧
  (∀ who x, Serves (.rollbackCommit who x) (rollbackCommitOp who x.toNat)) ∧
  (∀ who (x : U8), Serves (.imgKeyRevoke who x) (imgKeyRevokeOp who (x.toNat % 4))) ∧
  (∀ who (k st : U8) s, glenServes s = true → (imgMarkOp who k.toNat st.toNat).status s = .ok → k.toNat < 2 ∧
    (st = 2 ∨ st = 3 ∨ st = 4) ∧ Completes (.imgMark who k st) s (fun t => t.boot.slotA = s.boot.slotA ∧ t.boot.slotB = s.boot.slotB ∧
      t.boot.inst = s.boot.inst ∧ t.mem = s.mem ∧ t.vault = s.vault ∧ t.dict = s.dict)) ∧
  (∀ s r, jNow (jAppend s r) = { r with jseq := (jNow s).jseq + 1 }) ∧
  (∀ who (x : U8) s, glenServes s = true → (rollbackCommitOp who x.toNat).status s = .ok → s.vault.rollback ≤ x.toNat ∧
    x.toNat ≤ imgSecVer s.boot.header ∧ Completes (.rollbackCommit who x) s (fun t =>
      t.vault = { s.vault with rollTo := max s.vault.rollTo x.toNat } ∧ t.mem = s.mem ∧ t.boot = s.boot ∧ t.dict = s.dict)) ∧
  (∀ s, s.vault.rollback < s.vault.rollTo → s.vault.up = true → Completes .rollbackFuseStep s (fun t => OnlyVault s t ∧
    t.vault = { s.vault with rollback := s.vault.rollback + 1 })) ∧
  (∀ who (x : U8) s, glenServes s = true → (imgKeyRevokeOp who (x.toNat % 4)).status s = .ok → (s.vault.revoke ||| x.toNat % 4) % 4 ≠ 3 ∧
    Completes (.imgKeyRevoke who x) s (fun t => t.vault = { s.vault with revoke := (s.vault.revoke ||| x.toNat % 4) % 4 } ∧ t.mem = s.mem ∧
      t.boot = s.boot ∧ t.dict = s.dict)) ∧
  (∀ s, s.boot.glenUp = true → s.boot.goldLow = false → Completes .goldRequest s (fun t => t.boot.goldReq = true ∧ t.boot.glenUp = false ∧
    t.boot.stage = 0 ∧ t.err.resetCause = 5 ∧ t.mem = s.mem ∧ t.boot.slotA = s.boot.slotA ∧ t.boot.slotB = s.boot.slotB ∧
    t.vault.lc = s.vault.lc))

/-- Every part holds: RomAndFlash, LoadsAndReleases. -/
def Obligations.BootAndLoads : Prop := Claims.RomAndFlash ∧ Claims.LoadsAndReleases

/-- Every part holds: Installs, MarksAndFuses. -/
def Obligations.ImagesAndFuses : Prop := Claims.Installs ∧ Claims.MarksAndFuses

/-! ### Chapter 18: clocks, power, the ladder -/

namespace Sys2Proof.Machine

/-- Nothing but the clock and power state has changed. -/
def OnlyClk (s t : State) : Prop := t = { s with clk := t.clk }

end Sys2Proof.Machine

/-- R446, R447: a source is ready after two windows in a row that pass; a failed window starts the count anew. -/
def Sys2Proof.Claims.Sources : Prop :=
  (∀ c s, windowRuns s c = true → Completes (.qualifyWindow c false) s (fun t => OnlyClk s t ∧ srcOf t c = { srcOf s c with passes := 0 } ∧
    (∀ d, d ≠ c → srcOf t d = srcOf s d))) ∧
  (∀ c s, windowRuns s c = true → (srcOf s c).passes = 0 → Completes (.qualifyWindow c true) s (fun t => OnlyClk s t ∧
    srcOf t c = { srcOf s c with passes := 1 } ∧ (∀ d, d ≠ c → srcOf t d = srcOf s d))) ∧
  (∀ c s, windowRuns s c = true → (srcOf s c).passes ≠ 0 → Completes (.qualifyWindow c true) s (fun t => srcReady t c = true ∧
    (∀ d, d ≠ c → srcOf t d = srcOf s d) ∧ (∀ d ∈ t.clk.monTrip, domSource d ≠ c ∨ d ∈ s.clk.heldCells) ∧ t.mem = s.mem ∧ t.dict = s.dict)) ∧
  (∀ c s, (srcOf s c).st = 1 → s.clk.vaon = true → c ≠ .ref25 → c ≠ .lpo → Completes (.qualifyLimit c) s (fun t => (srcOf t c).st = 3 ∧
    (∀ d, d ≠ c → srcOf t d = srcOf s d) ∧ t.mem = s.mem ∧ t.dict = s.dict ∧
    ∃ e rest, t.err.events = e :: rest ∧ e.name = "CLK_SOURCE_FAILED" ∧ e.resource = srcNum c)) ∧
  (∀ who x, Serves (.clkRequalify who x) (clkRequalifyOp who x.toNat)) ∧
  (∀ who (x : U8) s, glenServes s = true → (clkRequalifyOp who x.toNat).status s = .ok → x.toNat ≤ 5 ∧ Completes (.clkRequalify who x) s (fun t =>
    t.mem = s.mem ∧ t.dict = s.dict ∧ (x ≠ 5 → srcOf t (srcAt x.toNat) = { st := if srcReady s (srcAt x.toNat) then 2 else 1, passes := 0 }) ∧
    (∀ d, d ≠ srcAt x.toNat → srcOf t d = srcOf s d))) ∧
  (∀ who d x, Serves (.clkSourceWrite who d x) (clkSourceOp who d x.toNat)) ∧
  (∀ who (d : Fin 45) (x : U8) s, glenServes s = true → (clkSourceOp who d x.toNat).status s = .ok → sourceWritable d = true ∧
    sourceFits s d x.toNat = true ∧ exec (.clkSourceWrite who d x) s = .next (respond (setNum s (okey 0x2001 d) x.toNat) .ok 0 []))

/-- R448-R454: PLLs lose lock and lock again, four failed attempts being a failure; monitors move a domain to RCO20; droop
sensors stretch a zone's clock. -/
def Sys2Proof.Claims.PllsAndMonitors : Prop :=
  (∀ q s, (pllOf s (.quad q)).locked = true → s.err.failStop = false → Completes (.pllLossOfLock (.quad q)) s (fun t =>
    pllOf t (.quad q) = { locked := false } ∧ (∀ r, r ≠ .quad q → pllOf t r = pllOf s r) ∧ t.mem = s.mem ∧
    numD t (okey 0x2003 1) 0 = (numD s (okey 0x2003 1) 0 + 1) % 2 ^ 64)) ∧
  (∀ s, (pllOf s .timeA).locked = true → s.err.failStop = false → (pllOf s .timeB).locked = true → Completes (.pllLossOfLock .timeA) s (fun t =>
    (pllOf t .timeA).locked = false ∧ t.time = s.time ∧ t.err = s.err ∧ t.mem = s.mem)) ∧
  (∀ p s, (pllOf s p).locked = false → (pllOf s p).failed = false → Completes (.pllRelock p) s (fun t => OnlyClk s t ∧
    pllOf t p = { locked := true } ∧ (∀ r, r ≠ p → pllOf t r = pllOf s r))) ∧
  (∀ p s, (pllOf s p).locked = false → (pllOf s p).failed = false → s.err.failStop = false → (pllOf s p).restarts < 3 →
    Completes (.pllRestart p) s (fun t => OnlyClk s t ∧ pllOf t p = { pllOf s p with restarts := (pllOf s p).restarts + 1 } ∧
      (∀ r, r ≠ p → pllOf t r = pllOf s r))) ∧
  (∀ p s, memoryPll p = true → (pllOf s p).locked = false → s.err.failStop = false → (handlerAt s (handlerKey 4 0 1)).active = none →
    Completes (.memoryPllTimeout p) s (fun t => t.err.failStop = true ∧ t.mem = s.mem)) ∧
  (∀ who q x, Serves (.steppeFreqWrite who q x) (steppeFreqOp who q x.toNat)) ∧
  (∀ who (q : Fin 6) (x : U16) s, glenServes s = true → (steppeFreqOp who q x.toNat).status s = .ok →
    1000 ≤ x.toNat ∧ x.toNat ≤ 2800 ∧ x.toNat % 200 = 0 ∧ Completes (.steppeFreqWrite who q x) s (fun t =>
      numD t (okey 0x2002 q) 0 = x.toNat ∧ (pllOf t (.quad q)).locked = ((pllOf s (.quad q)).failed && (pllOf s (.quad q)).locked) ∧
      t.mem = s.mem)) ∧
  (∀ (d : Fin 45) s, released s = true → (s.clk.monTrip ++ s.clk.heldCells).contains d.val = false → srcReady s .rco20 = true →
    domVale d = none → Completes (.clkMonTrip (.domain d)) s (fun t => t.clk.monTrip = s.clk.monTrip ++ [d.val] ∧
      t.clk.heldCells = s.clk.heldCells ∧ t.mem = s.mem ∧ t.dict = s.dict ∧ t.east = s.east ∧ t.west = s.west)) ∧
  (∀ (d : Fin 45) s, released s = true → (s.clk.monTrip ++ s.clk.heldCells).contains d.val = false → srcReady s .rco20 = false →
    Completes (.clkMonTrip (.domain d)) s (fun t => OnlyClk s t ∧ t.clk.heldCells = s.clk.heldCells ++ [d.val] ∧ t.clk.monTrip = s.clk.monTrip)) ∧
  (∀ (k : Fin 48) s, released s = true → Completes (.droopTrip k) s (fun t => k.val ∈ t.clk.stretch ∧ t.mem = s.mem ∧
    numD t (okey 0x2502 k) 0 = (numD s (okey 0x2502 k) 0 + 1) % 2 ^ 64)) ∧
  (∀ (k : Fin 48) s, Completes (.droopHold k) s (fun t => OnlyClk s t ∧ k.val ∉ t.clk.stretch ∧ (∀ j, j ≠ k.val → (j ∈ t.clk.stretch ↔ j ∈ s.clk.stretch))))

/-- R455-R459: regulators, their alert, the lowest limit in force and the junction temperature. -/
def Sys2Proof.Claims.PowerAndHeat : Prop :=
  (∀ (r : AvsReading) s, s.boot.glenUp = true → s.err.failStop = false → s.clk.telBad = false → r.answered = true →
    avsInRange s (median3 (keep 3 (r.current :: s.clk.currents))) = true →
    s.clk.same < 99 →
    (keep 10 (farApart (median3 ((keep 10 (r.power :: s.clk.power)).take 3)) r.estimate :: s.clk.bad)).all (fun b => b) = false →
    Completes (.avsPoll r) s (fun t => t.clk.power = keep 10 (r.power :: s.clk.power) ∧ t.clk.estimate = r.estimate ∧ t.clk.telBad = false ∧
      t.mem = s.mem ∧ t.dict = s.dict)) ∧
  (∀ n a b s, exec (.pmbusPoll n a b false) s = .next s) ∧
  (∀ n a b s, s.boot.glenUp = true → s.err.failStop = false → periphOn s 2 = true → (handlerAt s (handlerKey 4 0 2)).active = none →
    Completes (.pmbusPoll n a b true) s (fun t => t.clk.phaseCap = true ∧ t.clk.alertLow = s.clk.alertLow ∧ t.err.failStop = false ∧
      t.mem = s.mem ∧ t.dict = s.dict)) ∧
  (∀ s, s.boot.glenUp = false → Completes .vrAlert s (fun t => OnlyClk s t ∧ t.clk = { s.clk with alertLow := true })) ∧
  (∀ s, s.boot.glenUp = true → s.err.failStop = false → (handlerAt s (handlerKey 4 0 2)).active = none → Completes .vrAlert s (fun t =>
    t.clk.alertLow = true ∧ t.clk.phaseCap = true ∧ t.err.failStop = false ∧ activeLimit t ≤ numD s (okey 0x2110 2) 160 ∧ t.mem = s.mem ∧
    t.dict = s.dict)) ∧
  (∀ who x, Serves (.powerCapClear who x) (powerCapClearOp who x)) ∧
  (∀ who x s, glenServes s = true → (powerCapClearOp who x).status s = .ok → x = true ∧ Completes (.powerCapClear who x) s (fun t =>
    t.clk.phaseCap = false ∧ t.clk.alertLow = false ∧ t.mem = s.mem ∧ t.dict = s.dict)) ∧
  (∀ (x : Int) s, released s = true → x < 920 → Completes (.thermalSample x) s (fun t => t.clk.therm = x ∧ t.clk.tripped = s.clk.tripped ∧
    t.clk.warned = decide (((numD s (okey 0x2500 2) 100 * 8 : Nat) : Int) ≤ x) ∧
    t.clk.thermCut = (if ((numD s (okey 0x2500 3) 105 * 8 : Nat) : Int) < x then min 100 (s.clk.thermCut + 5) else s.clk.thermCut - 5) ∧
    t.mem = s.mem ∧ t.dict = s.dict)) ∧
  (∀ (x : Int) s, released s = true → 920 ≤ x → exec (.thermalSample x) s = exec .thermtrip { s with clk := { s.clk with therm := x } }) ∧
  (∀ s, released s = true → Completes .thermtrip s (fun t => t.clk.tripped = true ∧ released t = false ∧ t.boot.glenUp = false ∧
    t.vault.lc = s.vault.lc ∧ t.mem = s.mem))

/-- R460, R461: the domains that can be switched, and what a change does at its end. -/
def Sys2Proof.Claims.Domains : Prop :=
  (∀ who d x, Serves (.powerDomainWrite who d x) (powerDomainOp who d x.toNat)) ∧
  (∀ who (d : Fin 45) (x : U8) s, glenServes s = true → (powerDomainOp who d x.toNat).status s = .ok → x.toNat ≤ 2 ∧ domWritable d = true ∧
    (domOf s d).target = none ∧
    ((domOf s d).st = x.toNat → exec (.powerDomainWrite who d x) s = .next (respond s .ok 0 [])) ∧
    ((domOf s d).st ≠ x.toNat → d.val < 41 → Completes (.powerDomainWrite who d x) s (fun t =>
      domOf t d = { domOf s d with target := some x.toNat } ∧ (∀ e, e ≠ d.val → domOf t e = domOf s e) ∧ t.mem = s.mem ∧ t.dict = s.dict ∧
      t.east = s.east ∧ t.west = s.west ∧ t.ctl = s.ctl))) ∧
  (∀ (d : Fin 45) x s, (domOf s d).target = some x → Completes (.domainChangeDone d) s (fun t => domOf t d = { st := x } ∧
    (∀ e, e ≠ d.val → domOf t e = domOf s e) ∧ t.mem = s.mem ∧ t.dict = s.dict ∧
    (3 ≤ d.val → d.val ≤ 8 → x = 0 → ∀ h, h / 4 = d.val - 3 → hartOf t h = {}) ∧ (x ≠ 0 → t.ctl = s.ctl)))

/-- R463-R467: the ladder is entered step by step, a step that does not end in time is abandoned, a wake reverses the steps. -/
def Sys2Proof.Claims.LadderMoves : Prop :=
  (∀ who x, Serves (.ladderRequest who x) (ladderRequestOp who x.toNat)) ∧
  (∀ who (x : U8) s, glenServes s = true → (ladderRequestOp who x.toNat).status s = .ok → 1 ≤ x.toNat ∧ x.toNat ≤ 4 ∧ s.tens = [] ∧
    Completes (.ladderRequest who x) s (fun t => t.clk = {
      s.clk with ladder := { s.clk.ladder with target := x.toNat, step := 1, wakes := 0, result := .ok } } ∧ ladderRuns t = false ∧
      t.mem = s.mem ∧ t.dict = s.dict)) ∧
  (∀ s, s.err.failStop = false → 1 ≤ s.clk.ladder.step → s.clk.ladder.step < 6 → s.clk.ladder.wakes = 0 → Completes .ladderStepDone s (fun t =>
    t.mem = s.mem ∧ t.dict = s.dict ∧
    (s.clk.ladder.step = lastStep s.clk.ladder.target → t.clk.ladder.st = s.clk.ladder.target ∧ t.clk.ladder.step = 0) ∧
    (s.clk.ladder.step ≠ lastStep s.clk.ladder.target → t.clk.ladder.st = s.clk.ladder.st ∧ t.clk.ladder.step = s.clk.ladder.step + 1) ∧
    (s.clk.ladder.step = 3 → t.clk.ladder.stopRtc = s.clk.rtc) ∧ (s.clk.ladder.step = 5 → srcReady t .ref25 = false))) ∧
  (∀ s, s.err.failStop = false → 1 ≤ s.clk.ladder.step → s.clk.ladder.step < 6 → s.clk.ladder.wakes ≠ 0 → Completes .ladderStepDone s (fun t =>
    t.clk.ladder.step = 0 ∧ t.clk.ladder.reversing = s.clk.ladder.step ∧ t.mem = s.mem ∧ t.dict = s.dict)) ∧
  (∀ s, s.err.failStop = false → s.clk.ladder.step = 6 → Completes .ladderStepDone s (fun t => t.clk.ladder.st = 4 ∧ t.clk.ladder.pwrEn = false ∧
    t.boot.glenUp = false ∧ t.vault.lc = s.vault.lc ∧ t.vault.sealed = (if s.vault.sealedDirty then
      some ((match s.vault.sealed with | some x => x.1 + 1 | none => 1), persistentSlots s) else s.vault.sealed))) ∧
  (∀ s, s.err.failStop = false → s.clk.ladder.step ≠ 0 → Completes .ladderStepLimit s (fun t => t.clk.ladder.step = 0 ∧
    t.clk.ladder.reversing = s.clk.ladder.step - 1 ∧ t.clk.ladder.result = .timeout ∧ t.mem = s.mem ∧ t.dict = s.dict)) ∧
  (∀ s, s.clk.ladder.step = 0 → 1 ≤ s.clk.ladder.reversing → s.clk.ladder.reversing < 3 → s.clk.ladder.st ≠ 4 →
    Completes .ladderReversalDone s (fun t => ladderRuns t = true ∧ t.time = s.time ∧ t.mem = s.mem ∧ t.dict = s.dict ∧
      t.host.link = (if s.host.link = 0 then 0 else 1))) ∧
  (∀ w os s, s.clk.vaon = true → s.clk.ladder.step = 0 → s.clk.ladder.st = 1 → s.clk.ladder.reversing = 0 →
    (∀ o ∈ os, wakeCode w ≤ wakeCode o) → Completes (.wake ⟨w, os⟩) s (fun t =>
      t.clk.ladder.reversing = 1 ∧ t.clk.wake.src = wakeCode w ∧ t.clk.wake.state = 1 ∧ t.clk.wake.abandoned = false ∧
      (os = [] → t.clk.wake.mask = 2 ^ wakeCode w) ∧ t.mem = s.mem ∧ t.dict = s.dict)) ∧
  (∀ w os s, s.clk.vaon = true → s.clk.ladder.step = 0 → s.clk.ladder.st = 3 → (∀ o ∈ w :: os, 5 ≤ wakeCode o) →
    exec (.wake ⟨w, os⟩) s = .next s) ∧
  (∀ s, numD s (okey 0x2101 5) 0 ≠ 0 → s.clk.vaon = true → s.clk.rtc ≤ numD s (okey 0x2101 5) 0 → s.clk.ladder.step = 0 → s.clk.ladder.st = 2 →
    s.clk.ladder.reversing = 0 → Completes .rtcAlarm s (fun t => t.clk.rtc = numD s (okey 0x2101 5) 0 ∧ t.clk.wake.src = 2 ∧
      t.clk.ladder.reversing = 3 ∧ t.mem = s.mem ∧ t.dict = s.dict)) ∧
  (∀ s, s.clk.vaon = true → s.clk.ladder.st = 4 → s.clk.ladder.pwrEn = false → s.clk.ladder.pwrWake = true → Completes .boardPwrEnRaise s (fun t =>
    t.clk.ladder.pwrEn = true ∧ t.clk.ladder.st = 0 ∧ t.boot.rstLow = true ∧ released t = false ∧ t.err.resetCause = 7 ∧ t.clk.wake = s.clk.wake ∧
    t.clk.rtc = s.clk.rtc ∧ t.vault.lc = s.vault.lc))

/-- R481, R492, R493, R496: supplies and the reset pin. -/
def Sys2Proof.Claims.SuppliesAndReset : Prop :=
  (∀ s, s.clk.vaon = false → Completes .powerUp s (fun t => t.clk.vaon = true ∧ t.clk.ladder.pwrEn = true ∧ srcReady t .lpo = true ∧
    released t = false ∧ t.err.resetCause = 1 ∧ t.vault.keyReg = 0 ∧ t.vault.keyRegLost = true ∧ t.clk.rtc = 0 ∧ t.vault.lc = s.vault.lc ∧
    t.vault.sealed = s.vault.sealed ∧ t.boot.slotA = s.boot.slotA ∧ t.boot.slotB = s.boot.slotB)) ∧
  (∀ s, s.clk.vaon = true → Completes .vaonLoss s (fun t => t.clk.vaon = false ∧ t.vault.keyReg = 0 ∧ t.vault.keyRegLost = true ∧
    t.clk.wake = {} ∧ t.clk.rtc = 0 ∧ t.boot.ptr = none ∧ t.boot.exclude = none ∧ t.err.aonErrors = [] ∧ t.vault.tamperLog = [] ∧
    t.vault.lc = s.vault.lc ∧ t.boot.glenUp = false)) ∧
  (∀ p s, s.clk.vaon = true → s.clk.ladder.pwrEn = true → s.boot.rstLow = false → Completes (.rstN false p) s (fun t => t.boot.rstLow = true ∧
    released t = false ∧ t.err.resetCause = 2 ∧ t.boot.glenUp = false ∧ t.vault.keyReg = s.vault.keyReg ∧ t.vault.lc = s.vault.lc ∧
    t.clk.rtc = s.clk.rtc ∧ t.tens = [] ∧ t.idien.sessions = [] ∧ t.dict.octs = s.dict.flashOcts)) ∧
  (∀ p s, s.clk.vaon = true → s.clk.ladder.pwrEn = true → s.boot.rstLow = true → Completes (.rstN true p) s (fun t => OnlyBoot s t ∧
    t.boot.rstLow = false ∧ t.boot.mgmtSel = p.mgmtSel ∧ t.boot.testMode = p.testMode ∧ t.boot.goldLow = p.goldLow))

/-- Every part holds: Sources, PllsAndMonitors. -/
def Obligations.Clocks : Prop := Claims.Sources ∧ Claims.PllsAndMonitors

/-- Every part holds: PowerAndHeat, Domains. -/
def Obligations.Power : Prop := Claims.PowerAndHeat ∧ Claims.Domains

/-- Every part holds: LadderMoves, SuppliesAndReset. -/
def Obligations.LadderAndSupplies : Prop := Claims.LadderMoves ∧ Claims.SuppliesAndReset

/-! ### Chapters 19 and 20: errors, tests, the last rows -/

/-- R470-R472, R480: an error whose handler is idle is logged with its record and acted on; while the handler is busy an error of another
resource waits, up to four, and is counted as nested; an error of the same resource, or one more than four, goes on to the next level,
and from the chip handler into its action. -/
def Sys2Proof.Claims.Handlers : Prop :=
  (∀ act d l s, 2 ≤ l → (handlerAt s (handlerKey l d.region d.block)).active = none → ∃ u,
    arrive act d l s = act d.kind l (errRecord s d l l 0 0) u ∧ u.err.errors = keep 512 (errRecord s d l l 0 0 :: s.err.errors) ∧
    u.err.errSeq = s.err.errSeq + 1 ∧ (statAt u l).handled = (statAt s l).handled + 1 ∧
    ((handlerAt u (handlerKey l d.region d.block)).active.isSome = decide (l ≠ 4)) ∧ u.mem = s.mem ∧ u.dict = s.dict) ∧
  (∀ act d l s a, 2 ≤ l → (handlerAt s (handlerKey l d.region d.block)).active = some a →
    findSame (handlerAt s (handlerKey l d.region d.block)) (errRecord s d l l 0 0) = none →
    (handlerAt s (handlerKey l d.region d.block)).queue.length < 4 →
    handlerAt (arrive act d l s) (handlerKey l d.region d.block) = { handlerAt s (handlerKey l d.region d.block) with
      queue := (handlerAt s (handlerKey l d.region d.block)).queue ++ [{ er := errRecord s d l l 1 0, kind := d.kind }] } ∧
    (statAt (arrive act d l s) l).nested = (statAt s l).nested + 1 ∧ (arrive act d l s).mem = s.mem ∧ (arrive act d l s).dict = s.dict) ∧
  (∀ act d l s a, l < 4 → (handlerAt s (handlerKey l d.region d.block)).active = some a →
    (findSame (handlerAt s (handlerKey l d.region d.block)) (errRecord s d l l 0 0)).isSome = true ∨
      4 ≤ (handlerAt s (handlerKey l d.region d.block)).queue.length →
    ∃ fl par, arrive act d l s = arriveAt act d l 4 (l + 1) fl par (setStat s l { statAt s l with escalated := (statAt s l).escalated + 1 })) ∧
  (∀ act d s a, (handlerAt s (handlerKey 4 d.region d.block)).active = some a →
    (findSame (handlerAt s (handlerKey 4 d.region d.block)) (errRecord s d 4 4 0 0)).isSome = true ∨
      4 ≤ (handlerAt s (handlerKey 4 d.region d.block)).queue.length →
    ∃ u, arrive act d 4 s = act d.kind 4 (errRecord s d 4 4 0 0) u ∧ (statAt u 4).escalated = (statAt s 4).escalated + 1)

/-- R470-R472, R399: the commands of an error's life. A corrected error only counts; any other goes to the handler of its level;
the end of an action frees its handler; Glen's restart ends every session. -/
def Sys2Proof.Claims.ErrorCommands : Prop :=
  (∀ e s t, released s = true → s.err.failStop = false → e.kind ≠ .bootDigest → e.kind ≠ .glenFault → corrected s e.kind = some t →
    exec (.errorArrival e) s = .next (afterCorrected e.kind t)) ∧
  (∀ s, corrected s .memSbe = some (count s (okey 0x7040 1)) ∧ (∀ v p o, corrected s (.tableSbe v p o) = some (count s (vkey v 0x3637 1))) ∧
    corrected s .vaultSbe = some (count s (okey 0x2360 3)) ∧ afterCorrected .memSbe s = s ∧ afterCorrected .vaultSbe s = s) ∧
  (∀ e s d l, released s = true → e.kind ≠ .bootDigest → e.kind ≠ .glenFault → corrected s e.kind = none → errInfo s e.kind = some (d, .level l) →
    underTest s e.kind = none → exec (.errorArrival e) s = .next (arrive errAct d l s)) ∧
  (∀ s a, released s = true → s.err.failStop = false → inDdrHbm s a 8 = true → inHbm a 1 = false →
    (handlerAt s (handlerKey 1 5 (ddrChannel s a))).active = none → Completes (.errorArrival ⟨.memDbe a false⟩) s (fun t => a / 8 * 8 ∈ t.ctl.poison ∧
      numD t (okey 0x7040 2) 0 = (numD s (okey 0x7040 2) 0 + 1) % 2 ^ 64 ∧ t.mem = s.mem ∧ t.err.errors = s.err.errors)) ∧
  (∀ h s p, s.err.failStop = false → (handlerAt s (h.level.val * 0x100000000 + h.unit.toNat)).active = some p →
    (handlerAt (finishAct p.kind h.level p.er (setHandler s (h.level.val * 0x100000000 + h.unit.toNat)
      { handlerAt s (h.level.val * 0x100000000 + h.unit.toNat) with active := none })) (h.level.val * 0x100000000 + h.unit.toNat)).queue = [] →
    exec (.errorActionComplete h) s = .next (finishAct p.kind h.level p.er (setHandler s (h.level.val * 0x100000000 + h.unit.toNat)
      { handlerAt s (h.level.val * 0x100000000 + h.unit.toNat) with active := none }))) ∧
  (∀ s p, s.err.failStop = false → handlerAt s (handlerKey 2 6 6) = { active := some p, queue := [] } → p.kind = .glenFault →
    Completes (.errorActionComplete ⟨2, BitVec.ofNat 32 (unitId 2 6 6 0xFFF)⟩) s (fun t => t.boot = { s.boot with glenUp := true } ∧
      handlerAt t (handlerKey 2 6 6) = {} ∧ t.mem = s.mem ∧ t.dict = s.dict)) ∧
  (∀ s, released s = true → s.err.failStop = false → s.boot.glenUp = true → (handlerAt s (handlerKey 2 6 6)).active = none →
    Completes .glenWatchdog s (fun t => t.boot.glenUp = false ∧ t.boot.inst = .idle ∧ t.idien.sessions = [] ∧ t.idien.qO = [] ∧
      t.idien.qT = [] ∧ (handlerAt t (handlerKey 2 6 6)).active.isSome = true ∧ t.mem = s.mem ∧ t.dict = s.dict ∧ t.vault = s.vault))

/-- R479, R481, R475-R477: chip reset by command and by the fail-stop delay; what it keeps; the logs' records. -/
def Sys2Proof.Claims.ResetAndLogs : Prop :=
  (∀ who s, glenServes s = true → failStopAnswers who s = true → isOV who = true → Completes (.chipReset who 1) s (fun t =>
    t.resp = { status := .ok, retry := 0, payload := [] } ∧ t.err.resetCause = 3 ∧ t.err.failStop = false ∧ t.boot.glenUp = false ∧
    t.tens = [] ∧ t.idien.sessions = [] ∧ t.vault.lc = s.vault.lc ∧ t.vault.sealed = s.vault.sealed ∧ t.boot.slotA = s.boot.slotA ∧
    t.boot.slotB = s.boot.slotB ∧ t.dict.flashNums = s.dict.flashNums ∧ t.err.chipErrors = s.err.chipErrors ∧ t.pending = s.pending)) ∧
  (∀ who (x : U8) s, glenServes s = true → failStopAnswers who s = true → isOV who = true → x ≠ 1 → exec (.chipReset who x) s =
    .next (respond s .range 0 [])) ∧
  (∀ s, s.err.failStop = true → numD s (okey 0x2440 2) 0 ≠ 0 → Completes .failstopResetDelay s (fun t => t.err.resetCause = 4 ∧
    t.err.failStop = false ∧ t.boot.glenUp = false ∧ t.vault.lc = s.vault.lc ∧ t.vault.keyReg = s.vault.keyReg)) ∧
  (∀ e : EvtRec, (evtBytes e).length = 64) ∧ (∀ r : ErrRec, (errBytes r).length = 48) ∧
  (∀ who, Serves (.eventLogRead who) (eventLogOp who)) ∧ (∀ who, Serves (.errorLogRead who) (errorLogOp who)) ∧
  (∀ who s, glenServes s = true → (s.err.failStop && s.err.vaultCause) = false → Completes (.eventLogRead who) s (fun t =>
    t.resp.payload.length % 64 = 0 ∧ t.resp.payload.length ≤ 1024 ∧ t.err = s.err ∧ t.dict = s.dict ∧ t.mem = s.mem)) ∧
  (∀ who s, glenServes s = true → who.role ≠ .tenant → Completes (.errorLogRead who) s (fun t => t.resp.payload.length % 48 = 0 ∧
    t.resp.payload.length ≤ 1008 ∧ t.err = s.err ∧ t.dict = s.dict ∧ t.mem = s.mem))

/-- R484, R485: tests in the field of lanes and of Saddle ports; what fails is retired. -/
def Sys2Proof.Claims.FieldTests : Prop :=
  (∀ who x, Serves (.laneTest who x) (laneTestOp who x.toNat)) ∧ (∀ who x, Serves (.saddlePortTest who x) (saddleTestOp who x.toNat)) ∧
  (∀ who (x : U8) s, glenServes s = true → (laneTestOp who x.toNat).status s = .ok → x.toNat < 16 ∧ s.err.laneTest = none ∧
    bitOf (numD s (okey 0x2450 3) 0) x.toNat = false ∧ Completes (.laneTest who x) s (fun t => t.err.laneTest = some x.toNat ∧
      ((t.vale (laneVale x.toNat)).path.linkUp = (s.vale (laneVale x.toNat)).path.linkUp &&& ~~~ (1#8 <<< lanePort s x.toNat)) ∧
      t.dict = s.dict ∧ t.mem = s.mem)) ∧
  (∀ n s, s.err.laneTest = some n → s.err.failStop = false →
    Completes (.laneTestDone true) s (fun t => t.err.laneTest = none ∧ numD t (okey 0x2450 2) 0 = 0 ∧
      numD t (okey 0x2450 3) 0 = numD s (okey 0x2450 3) 0 ∧ t.mem = s.mem) ∧
    Completes (.laneTestDone false) s (fun t => t.err.laneTest = none ∧ bitOf (numD t (okey 0x2450 3) 0) n = true ∧
      numD t (okey 0x2450 2) 0 = statusCode .halted ∧ t.mem = s.mem)) ∧
  (∀ who (x : U8) s, glenServes s = true → (saddleTestOp who x.toNat).status s = .ok → x.toNat < 8 ∧ s.err.portTest = none ∧
    saddleRetired s x.toNat = false ∧ Completes (.saddlePortTest who x) s (fun t => t.err.portTest = some x.toNat ∧ t.dict = s.dict ∧
      t.mem = s.mem ∧ t.east = s.east ∧ t.west = s.west ∧ t.host = s.host)) ∧
  (∀ n s, s.err.portTest = some n → s.err.failStop = false → s.err.testFails.contains (unitId 2 4 n 0xFFF) = false →
    ((slotOf s (n / 2)).st ≠ .ready → Completes (.saddlePortTestDone true) s (fun t => t.err.portTest = none ∧ numD t (okey 0x2451 2) 0 = 0 ∧
      t.saddle = s.saddle ∧ t.mem = s.mem)) ∧
    Completes (.saddlePortTestDone false) s (fun t => t.err.portTest = none ∧ bitOf (numD t (okey 0x2451 3) 0) n = true ∧
      (slotOf t (n / 2)).st = .failed ∧ t.mem = s.mem))

/-- R10, R91, R128, R44: a register without a row of its own is written; peaks are returned and cleared. A vendor test object is
refused by name: the spec does not describe it. -/
def Sys2Proof.Claims.RegistersAndPeaks : Prop :=
  (∀ t s, (∀ who h idx sub bs, t = .dict who h idx sub bs → vendorIndex idx.toNat = false) → ∃ u, exec (.registerWrite t) s = .next u) ∧
  (∀ who h (idx : U16) (sub : U8) bs s, vendorIndex idx.toNat = false → isRegionReset idx.toNat sub.toNat = false →
    exec (.registerWrite (.dict who h idx sub bs)) s = .next (runGated (dictWriteOp who h idx.toNat sub.toNat bs)
      (writeKeys h idx.toNat sub.toNat bs) s) ∧
    (gateBusy s (writeKeys h idx.toNat sub.toNat bs) = false →
      exec (.registerWrite (.dict who h idx sub bs)) s = .next (runOp (dictWriteOp who h idx.toNat sub.toNat bs) s))) ∧
  (∀ who (idx : U16) (sub : U8) bs s, glenServes s = true → vendorIndex idx.toNat = true → s.vault.lcBoot ≠ 2 → scrapped s idx.toNat = false →
    s.err.failStop = false → exec (.registerWrite (.dict who 0 idx sub bs)) s = .refused (.vendorTest idx.toNat)) ∧
  (∀ (k : Fin 8) w host s, ringShut s host = false → Completes (.registerWrite (.mbPending k w host)) s (fun t =>
    tgetD t.mbPend k 0 = ((BitVec.ofNat 32 (tgetD s.mbPend k 0)) &&& ~~~ w).toNat ∧ (∀ j, j ≠ k.val → tgetD t.mbPend j 0 = tgetD s.mbPend j 0) ∧
    t.mem = s.mem ∧ t.dict = s.dict)) ∧
  (∀ (h : Fin 24) w s, Completes (.registerWrite (.hartPc h false w)) s (fun t => OnlyCtl s t ∧ hartOf t h = { hartOf s h with pcLo := w }) ∧
    Completes (.registerWrite (.hartPc h true w)) s (fun t => OnlyCtl s t ∧ hartOf t h = { hartOf s h with pcHi := w.toNat % 65536 })) ∧
  (∀ v (r : Fin 8) s, s.err.failStop = false → (tcRingOf s v r).en = true → ∀ w host, ringShut s host = false →
    exec (.registerWrite (.tc v r 0x00 w host)) s =
    .next (setTcRing s v r (tcRingOf s v r))) ∧
  (∀ who v, Serves (.crossFifoPeakRead who v) (crossPeakOp who v)) ∧ (∀ who v, Serves (.relbufPeakRead who v) (relPeakOp who v)) ∧
  (∀ who v s, glenServes s = true → isO who = true → s.err.failStop = false →
    Completes (.crossFifoPeakRead who v) s (fun t => t.resp.payload = beBytes 4 (s.vale v).path.crossPeak ∧
      (t.vale v).path = { (s.vale v).path with crossPeak := 0 } ∧ t.vale (otherVale v) = s.vale (otherVale v) ∧ t.dict = s.dict ∧ t.mem = s.mem) ∧
    Completes (.relbufPeakRead who v) s (fun t => t.resp.payload = beBytes 2 (s.vale v).path.relPeak ∧
      (t.vale v).path = { (s.vale v).path with relPeak := 0 } ∧ t.vale (otherVale v) = s.vale (otherVale v) ∧ t.dict = s.dict ∧ t.mem = s.mem))

/-- Every part holds: Handlers, ErrorCommands. -/
def Obligations.ErrorHandling : Prop := Claims.Handlers ∧ Claims.ErrorCommands

/-- Every part holds: ResetAndLogs, FieldTests. -/
def Obligations.ResetsLogsTests : Prop := Claims.ResetAndLogs ∧ Claims.FieldTests

/-- Every part holds: RegistersAndPeaks. -/
def Obligations.PlainRegisters : Prop := Claims.RegistersAndPeaks

/-! ### The block as a whole -/

namespace Sys2Proof.Machine

/-- What every step keeps: both memories in canonical form, and the carve of two HBM stacks. -/
def Kept (s : State) : Prop := memWf 0 s.mem = true ∧ memWf 0 s.hmem = true ∧ s.ctl.hbm.length = 2

/-- A generation of R17: 1 to 255. -/
def GenFits (g : Nat) : Prop := 1 ≤ g ∧ g ≤ 255

end Sys2Proof.Machine

/-- Whatever the command and the state, a step keeps both memories in canonical form (so that equal contents are equal data) and the
carve of both HBM stacks. -/
def Obligations.StepKeepsMemory : Prop := ∀ s t : State, Kept s → step s = .next t → Kept t

/-- No command touches the waiting commands: a step takes the first and leaves the others in their order. -/
def Obligations.QueueFirstInFirstOut : Prop :=
  (∀ (c : Instr) (s t : State), exec c s = .next t → t.pending = s.pending) ∧
  (∀ (s t : State) (c : Instr) (rest : List Instr), s.pending = c :: rest → step s = .next t → t.pending = rest)

/-- The state right after reset: nothing runs and nothing is held. Memory lists nothing and is in canonical form; every generation is
1 (R17); no tenancy, session, packet, association, volume or error exists; the epoch control is Idle at epoch 0; Glen, the host and
the harts wait. The clock of the always-on region stands at 0 with VAON valid and the pin of chip reset high (log entry 6). -/
def Obligations.ResetState : Prop :=
  Kept State.reset ∧ State.reset.pending = [] ∧ State.reset.mem = [] ∧ State.reset.hmem = [] ∧ State.reset.tens = [] ∧
  State.reset.idien.sessions = [] ∧ State.reset.east.path.packets = [] ∧ State.reset.west.path.packets = [] ∧
  State.reset.vault.slots = [] ∧ State.reset.nv.qs = [] ∧ State.reset.err.errors = [] ∧ State.reset.err.events = [] ∧
  State.reset.epoch.st = .idle ∧ State.reset.boot.glenUp = false ∧ State.reset.boot.hostUp = false ∧ State.reset.boot.stage = 0 ∧
  State.reset.err.failStop = false ∧ State.reset.host.link = 0 ∧ (∀ h, (hartOf State.reset h).run = false) ∧
  (∀ k i, genOf State.reset k i = 1) ∧ (∀ k d, numD State.reset k d = d) ∧ released State.reset = true ∧ romRuns State.reset = false

/-- R17: generations run from 1 to 255; after 255 the next is 1, and 0 is never issued. -/
def Obligations.GenerationsRun : Prop :=
  (∀ s kind i, genOf (bumpGen s kind i) kind i = (if genOf s kind i = 255 then 1 else genOf s kind i + 1) ∧
    (∀ k j, k * 65536 + j ≠ kind * 65536 + i → genOf (bumpGen s kind i) k j = genOf s k j)) ∧
  (∀ g, GenFits g → GenFits (nextGen g)) ∧ nextGen 255 = 1 ∧
  (∀ kind gen idx, kind < 256 → gen < 256 → idx < 65536 → hKind (mkHandle kind gen idx) = kind ∧ hGen (mkHandle kind gen idx) = gen ∧
    hIdx (mkHandle kind gen idx) = idx ∧ (genZero (mkHandle kind gen idx) = true ↔ gen = 0 ∧ mkHandle kind gen idx ≠ 0))

/-- A write of bytes reads back, leaves every other byte, and keeps the canonical form; two memories in canonical form that read the
same everywhere are the same data. -/
def Obligations.MemoryReadsBack : Prop :=
  (∀ m a bs, memReadN (memWriteN m a bs) a bs.length = bs) ∧
  (∀ m a bs c, c < a ∨ a + bs.length ≤ c → memRead (memWriteN m a bs) c = memRead m c) ∧
  (∀ m a bs, memWf 0 m = true → memWf 0 (memWriteN m a bs) = true) ∧
  (∀ m n, memWf 0 m = true → memWf 0 n = true → (∀ a, memRead m a = memRead n a) → m = n)

/-- R12, R13, R46: a request that fails answers its first failure with an empty payload, a retry of 1 to 1,000 ms on BUSY only, and
has no effect but what its operation notes of a failure. -/
def Obligations.FailedRequests : Prop :=
  (∀ (op : DictOp) s, glenServes s = true → op.status s ≠ .ok → op.status s ≠ .busy →
    runOp op s = { op.onFail s (op.status s) with resp := { status := op.status s, retry := 0, payload := [] } }) ∧
  (∀ (op : DictOp) s, glenServes s = true → op.status s = .busy → ∃ n, 1 ≤ n ∧ n ≤ 1000 ∧
    runOp op s = { op.onFail s .busy with resp := { status := .busy, retry := n, payload := [] } }) ∧
  (∀ (op : DictOp) s, glenServes s = false → runOp op s = s)
end

