-- ==== Sys2Proof/Laws/State.lean ====
section
/-! SUPPORT. What each update of the state leaves alone, one lemma per field. -/

namespace Sys2Proof.Machine

@[simp] theorem setNum_pending (s : State) (k x : Nat) : (setNum s k x).pending = s.pending := rfl
@[simp] theorem setNum_free (s : State) (k x : Nat) : (setNum s k x).free = s.free := rfl
@[simp] theorem setNum_resp (s : State) (k x : Nat) : (setNum s k x).resp = s.resp := rfl
@[simp] theorem setNum_time (s : State) (k x : Nat) : (setNum s k x).time = s.time := rfl
@[simp] theorem setNum_idien (s : State) (k x : Nat) : (setNum s k x).idien = s.idien := rfl
@[simp] theorem setNum_tens (s : State) (k x : Nat) : (setNum s k x).tens = s.tens := rfl
@[simp] theorem setNum_mig (s : State) (k x : Nat) : (setNum s k x).mig = s.mig := rfl
@[simp] theorem setNum_mbox (s : State) (k x : Nat) : (setNum s k x).mbox = s.mbox := rfl
@[simp] theorem setNum_mbPend (s : State) (k x : Nat) : (setNum s k x).mbPend = s.mbPend := rfl
@[simp] theorem setNum_epoch (s : State) (k x : Nat) : (setNum s k x).epoch = s.epoch := rfl
@[simp] theorem setNum_east (s : State) (k x : Nat) : (setNum s k x).east = s.east := rfl
@[simp] theorem setNum_west (s : State) (k x : Nat) : (setNum s k x).west = s.west := rfl
@[simp] theorem setNum_err (s : State) (k x : Nat) : (setNum s k x).err = s.err := rfl
@[simp] theorem setNum_saddle (s : State) (k x : Nat) : (setNum s k x).saddle = s.saddle := rfl
@[simp] theorem setNum_host (s : State) (k x : Nat) : (setNum s k x).host = s.host := rfl
@[simp] theorem setNum_qe (s : State) (k x : Nat) : (setNum s k x).qe = s.qe := rfl
@[simp] theorem setNum_nv (s : State) (k x : Nat) : (setNum s k x).nv = s.nv := rfl
@[simp] theorem setNum_ctl (s : State) (k x : Nat) : (setNum s k x).ctl = s.ctl := rfl
@[simp] theorem setNum_vault (s : State) (k x : Nat) : (setNum s k x).vault = s.vault := rfl
@[simp] theorem setNum_boot (s : State) (k x : Nat) : (setNum s k x).boot = s.boot := rfl
@[simp] theorem setNum_clk (s : State) (k x : Nat) : (setNum s k x).clk = s.clk := rfl
@[simp] theorem setNum_mem (s : State) (k x : Nat) : (setNum s k x).mem = s.mem := rfl
@[simp] theorem setNum_hmem (s : State) (k x : Nat) : (setNum s k x).hmem = s.hmem := rfl

@[simp] theorem setOct_pending (s : State) (k : Nat) (x : List Byte) : (setOct s k x).pending = s.pending := rfl
@[simp] theorem setOct_free (s : State) (k : Nat) (x : List Byte) : (setOct s k x).free = s.free := rfl
@[simp] theorem setOct_resp (s : State) (k : Nat) (x : List Byte) : (setOct s k x).resp = s.resp := rfl
@[simp] theorem setOct_time (s : State) (k : Nat) (x : List Byte) : (setOct s k x).time = s.time := rfl
@[simp] theorem setOct_idien (s : State) (k : Nat) (x : List Byte) : (setOct s k x).idien = s.idien := rfl
@[simp] theorem setOct_tens (s : State) (k : Nat) (x : List Byte) : (setOct s k x).tens = s.tens := rfl
@[simp] theorem setOct_mig (s : State) (k : Nat) (x : List Byte) : (setOct s k x).mig = s.mig := rfl
@[simp] theorem setOct_mbox (s : State) (k : Nat) (x : List Byte) : (setOct s k x).mbox = s.mbox := rfl
@[simp] theorem setOct_mbPend (s : State) (k : Nat) (x : List Byte) : (setOct s k x).mbPend = s.mbPend := rfl
@[simp] theorem setOct_epoch (s : State) (k : Nat) (x : List Byte) : (setOct s k x).epoch = s.epoch := rfl
@[simp] theorem setOct_east (s : State) (k : Nat) (x : List Byte) : (setOct s k x).east = s.east := rfl
@[simp] theorem setOct_west (s : State) (k : Nat) (x : List Byte) : (setOct s k x).west = s.west := rfl
@[simp] theorem setOct_err (s : State) (k : Nat) (x : List Byte) : (setOct s k x).err = s.err := rfl
@[simp] theorem setOct_saddle (s : State) (k : Nat) (x : List Byte) : (setOct s k x).saddle = s.saddle := rfl
@[simp] theorem setOct_host (s : State) (k : Nat) (x : List Byte) : (setOct s k x).host = s.host := rfl
@[simp] theorem setOct_qe (s : State) (k : Nat) (x : List Byte) : (setOct s k x).qe = s.qe := rfl
@[simp] theorem setOct_nv (s : State) (k : Nat) (x : List Byte) : (setOct s k x).nv = s.nv := rfl
@[simp] theorem setOct_ctl (s : State) (k : Nat) (x : List Byte) : (setOct s k x).ctl = s.ctl := rfl
@[simp] theorem setOct_vault (s : State) (k : Nat) (x : List Byte) : (setOct s k x).vault = s.vault := rfl
@[simp] theorem setOct_boot (s : State) (k : Nat) (x : List Byte) : (setOct s k x).boot = s.boot := rfl
@[simp] theorem setOct_clk (s : State) (k : Nat) (x : List Byte) : (setOct s k x).clk = s.clk := rfl
@[simp] theorem setOct_mem (s : State) (k : Nat) (x : List Byte) : (setOct s k x).mem = s.mem := rfl
@[simp] theorem setOct_hmem (s : State) (k : Nat) (x : List Byte) : (setOct s k x).hmem = s.hmem := rfl

@[simp] theorem bumpGen_pending (s : State) (kind idx : Nat) : (bumpGen s kind idx).pending = s.pending := rfl
@[simp] theorem bumpGen_free (s : State) (kind idx : Nat) : (bumpGen s kind idx).free = s.free := rfl
@[simp] theorem bumpGen_resp (s : State) (kind idx : Nat) : (bumpGen s kind idx).resp = s.resp := rfl
@[simp] theorem bumpGen_time (s : State) (kind idx : Nat) : (bumpGen s kind idx).time = s.time := rfl
@[simp] theorem bumpGen_idien (s : State) (kind idx : Nat) : (bumpGen s kind idx).idien = s.idien := rfl
@[simp] theorem bumpGen_tens (s : State) (kind idx : Nat) : (bumpGen s kind idx).tens = s.tens := rfl
@[simp] theorem bumpGen_mig (s : State) (kind idx : Nat) : (bumpGen s kind idx).mig = s.mig := rfl
@[simp] theorem bumpGen_mbox (s : State) (kind idx : Nat) : (bumpGen s kind idx).mbox = s.mbox := rfl
@[simp] theorem bumpGen_mbPend (s : State) (kind idx : Nat) : (bumpGen s kind idx).mbPend = s.mbPend := rfl
@[simp] theorem bumpGen_epoch (s : State) (kind idx : Nat) : (bumpGen s kind idx).epoch = s.epoch := rfl
@[simp] theorem bumpGen_east (s : State) (kind idx : Nat) : (bumpGen s kind idx).east = s.east := rfl
@[simp] theorem bumpGen_west (s : State) (kind idx : Nat) : (bumpGen s kind idx).west = s.west := rfl
@[simp] theorem bumpGen_err (s : State) (kind idx : Nat) : (bumpGen s kind idx).err = s.err := rfl
@[simp] theorem bumpGen_saddle (s : State) (kind idx : Nat) : (bumpGen s kind idx).saddle = s.saddle := rfl
@[simp] theorem bumpGen_host (s : State) (kind idx : Nat) : (bumpGen s kind idx).host = s.host := rfl
@[simp] theorem bumpGen_qe (s : State) (kind idx : Nat) : (bumpGen s kind idx).qe = s.qe := rfl
@[simp] theorem bumpGen_nv (s : State) (kind idx : Nat) : (bumpGen s kind idx).nv = s.nv := rfl
@[simp] theorem bumpGen_ctl (s : State) (kind idx : Nat) : (bumpGen s kind idx).ctl = s.ctl := rfl
@[simp] theorem bumpGen_vault (s : State) (kind idx : Nat) : (bumpGen s kind idx).vault = s.vault := rfl
@[simp] theorem bumpGen_boot (s : State) (kind idx : Nat) : (bumpGen s kind idx).boot = s.boot := rfl
@[simp] theorem bumpGen_clk (s : State) (kind idx : Nat) : (bumpGen s kind idx).clk = s.clk := rfl
@[simp] theorem bumpGen_mem (s : State) (kind idx : Nat) : (bumpGen s kind idx).mem = s.mem := rfl
@[simp] theorem bumpGen_hmem (s : State) (kind idx : Nat) : (bumpGen s kind idx).hmem = s.hmem := rfl

@[simp] theorem freeIndex_pending (s : State) (kind idx : Nat) : (freeIndex s kind idx).pending = s.pending := rfl
@[simp] theorem freeIndex_free (s : State) (kind idx : Nat) : (freeIndex s kind idx).free = s.free := rfl
@[simp] theorem freeIndex_resp (s : State) (kind idx : Nat) : (freeIndex s kind idx).resp = s.resp := rfl
@[simp] theorem freeIndex_time (s : State) (kind idx : Nat) : (freeIndex s kind idx).time = s.time := rfl
@[simp] theorem freeIndex_idien (s : State) (kind idx : Nat) : (freeIndex s kind idx).idien = s.idien := rfl
@[simp] theorem freeIndex_tens (s : State) (kind idx : Nat) : (freeIndex s kind idx).tens = s.tens := rfl
@[simp] theorem freeIndex_mig (s : State) (kind idx : Nat) : (freeIndex s kind idx).mig = s.mig := rfl
@[simp] theorem freeIndex_mbox (s : State) (kind idx : Nat) : (freeIndex s kind idx).mbox = s.mbox := rfl
@[simp] theorem freeIndex_mbPend (s : State) (kind idx : Nat) : (freeIndex s kind idx).mbPend = s.mbPend := rfl
@[simp] theorem freeIndex_epoch (s : State) (kind idx : Nat) : (freeIndex s kind idx).epoch = s.epoch := rfl
@[simp] theorem freeIndex_east (s : State) (kind idx : Nat) : (freeIndex s kind idx).east = s.east := rfl
@[simp] theorem freeIndex_west (s : State) (kind idx : Nat) : (freeIndex s kind idx).west = s.west := rfl
@[simp] theorem freeIndex_err (s : State) (kind idx : Nat) : (freeIndex s kind idx).err = s.err := rfl
@[simp] theorem freeIndex_saddle (s : State) (kind idx : Nat) : (freeIndex s kind idx).saddle = s.saddle := rfl
@[simp] theorem freeIndex_host (s : State) (kind idx : Nat) : (freeIndex s kind idx).host = s.host := rfl
@[simp] theorem freeIndex_qe (s : State) (kind idx : Nat) : (freeIndex s kind idx).qe = s.qe := rfl
@[simp] theorem freeIndex_nv (s : State) (kind idx : Nat) : (freeIndex s kind idx).nv = s.nv := rfl
@[simp] theorem freeIndex_ctl (s : State) (kind idx : Nat) : (freeIndex s kind idx).ctl = s.ctl := rfl
@[simp] theorem freeIndex_vault (s : State) (kind idx : Nat) : (freeIndex s kind idx).vault = s.vault := rfl
@[simp] theorem freeIndex_boot (s : State) (kind idx : Nat) : (freeIndex s kind idx).boot = s.boot := rfl
@[simp] theorem freeIndex_clk (s : State) (kind idx : Nat) : (freeIndex s kind idx).clk = s.clk := rfl
@[simp] theorem freeIndex_mem (s : State) (kind idx : Nat) : (freeIndex s kind idx).mem = s.mem := rfl
@[simp] theorem freeIndex_hmem (s : State) (kind idx : Nat) : (freeIndex s kind idx).hmem = s.hmem := rfl

@[simp] theorem setOwner_pending (s : State) (kind idx : Nat) (h : Handle) : (setOwner s kind idx h).pending = s.pending := rfl
@[simp] theorem setOwner_free (s : State) (kind idx : Nat) (h : Handle) : (setOwner s kind idx h).free = s.free := rfl
@[simp] theorem setOwner_resp (s : State) (kind idx : Nat) (h : Handle) : (setOwner s kind idx h).resp = s.resp := rfl
@[simp] theorem setOwner_time (s : State) (kind idx : Nat) (h : Handle) : (setOwner s kind idx h).time = s.time := rfl
@[simp] theorem setOwner_idien (s : State) (kind idx : Nat) (h : Handle) : (setOwner s kind idx h).idien = s.idien := rfl
@[simp] theorem setOwner_tens (s : State) (kind idx : Nat) (h : Handle) : (setOwner s kind idx h).tens = s.tens := rfl
@[simp] theorem setOwner_mig (s : State) (kind idx : Nat) (h : Handle) : (setOwner s kind idx h).mig = s.mig := rfl
@[simp] theorem setOwner_mbox (s : State) (kind idx : Nat) (h : Handle) : (setOwner s kind idx h).mbox = s.mbox := rfl
@[simp] theorem setOwner_mbPend (s : State) (kind idx : Nat) (h : Handle) : (setOwner s kind idx h).mbPend = s.mbPend := rfl
@[simp] theorem setOwner_epoch (s : State) (kind idx : Nat) (h : Handle) : (setOwner s kind idx h).epoch = s.epoch := rfl
@[simp] theorem setOwner_east (s : State) (kind idx : Nat) (h : Handle) : (setOwner s kind idx h).east = s.east := rfl
@[simp] theorem setOwner_west (s : State) (kind idx : Nat) (h : Handle) : (setOwner s kind idx h).west = s.west := rfl
@[simp] theorem setOwner_err (s : State) (kind idx : Nat) (h : Handle) : (setOwner s kind idx h).err = s.err := rfl
@[simp] theorem setOwner_saddle (s : State) (kind idx : Nat) (h : Handle) : (setOwner s kind idx h).saddle = s.saddle := rfl
@[simp] theorem setOwner_host (s : State) (kind idx : Nat) (h : Handle) : (setOwner s kind idx h).host = s.host := rfl
@[simp] theorem setOwner_qe (s : State) (kind idx : Nat) (h : Handle) : (setOwner s kind idx h).qe = s.qe := rfl
@[simp] theorem setOwner_nv (s : State) (kind idx : Nat) (h : Handle) : (setOwner s kind idx h).nv = s.nv := rfl
@[simp] theorem setOwner_ctl (s : State) (kind idx : Nat) (h : Handle) : (setOwner s kind idx h).ctl = s.ctl := rfl
@[simp] theorem setOwner_vault (s : State) (kind idx : Nat) (h : Handle) : (setOwner s kind idx h).vault = s.vault := rfl
@[simp] theorem setOwner_boot (s : State) (kind idx : Nat) (h : Handle) : (setOwner s kind idx h).boot = s.boot := rfl
@[simp] theorem setOwner_clk (s : State) (kind idx : Nat) (h : Handle) : (setOwner s kind idx h).clk = s.clk := rfl
@[simp] theorem setOwner_mem (s : State) (kind idx : Nat) (h : Handle) : (setOwner s kind idx h).mem = s.mem := rfl
@[simp] theorem setOwner_hmem (s : State) (kind idx : Nat) (h : Handle) : (setOwner s kind idx h).hmem = s.hmem := rfl

@[simp] theorem clearOwner_pending (s : State) (kind idx : Nat) : (clearOwner s kind idx).pending = s.pending := rfl
@[simp] theorem clearOwner_free (s : State) (kind idx : Nat) : (clearOwner s kind idx).free = s.free := rfl
@[simp] theorem clearOwner_resp (s : State) (kind idx : Nat) : (clearOwner s kind idx).resp = s.resp := rfl
@[simp] theorem clearOwner_time (s : State) (kind idx : Nat) : (clearOwner s kind idx).time = s.time := rfl
@[simp] theorem clearOwner_idien (s : State) (kind idx : Nat) : (clearOwner s kind idx).idien = s.idien := rfl
@[simp] theorem clearOwner_tens (s : State) (kind idx : Nat) : (clearOwner s kind idx).tens = s.tens := rfl
@[simp] theorem clearOwner_mig (s : State) (kind idx : Nat) : (clearOwner s kind idx).mig = s.mig := rfl
@[simp] theorem clearOwner_mbox (s : State) (kind idx : Nat) : (clearOwner s kind idx).mbox = s.mbox := rfl
@[simp] theorem clearOwner_mbPend (s : State) (kind idx : Nat) : (clearOwner s kind idx).mbPend = s.mbPend := rfl
@[simp] theorem clearOwner_epoch (s : State) (kind idx : Nat) : (clearOwner s kind idx).epoch = s.epoch := rfl
@[simp] theorem clearOwner_east (s : State) (kind idx : Nat) : (clearOwner s kind idx).east = s.east := rfl
@[simp] theorem clearOwner_west (s : State) (kind idx : Nat) : (clearOwner s kind idx).west = s.west := rfl
@[simp] theorem clearOwner_err (s : State) (kind idx : Nat) : (clearOwner s kind idx).err = s.err := rfl
@[simp] theorem clearOwner_saddle (s : State) (kind idx : Nat) : (clearOwner s kind idx).saddle = s.saddle := rfl
@[simp] theorem clearOwner_host (s : State) (kind idx : Nat) : (clearOwner s kind idx).host = s.host := rfl
@[simp] theorem clearOwner_qe (s : State) (kind idx : Nat) : (clearOwner s kind idx).qe = s.qe := rfl
@[simp] theorem clearOwner_nv (s : State) (kind idx : Nat) : (clearOwner s kind idx).nv = s.nv := rfl
@[simp] theorem clearOwner_ctl (s : State) (kind idx : Nat) : (clearOwner s kind idx).ctl = s.ctl := rfl
@[simp] theorem clearOwner_vault (s : State) (kind idx : Nat) : (clearOwner s kind idx).vault = s.vault := rfl
@[simp] theorem clearOwner_boot (s : State) (kind idx : Nat) : (clearOwner s kind idx).boot = s.boot := rfl
@[simp] theorem clearOwner_clk (s : State) (kind idx : Nat) : (clearOwner s kind idx).clk = s.clk := rfl
@[simp] theorem clearOwner_mem (s : State) (kind idx : Nat) : (clearOwner s kind idx).mem = s.mem := rfl
@[simp] theorem clearOwner_hmem (s : State) (kind idx : Nat) : (clearOwner s kind idx).hmem = s.hmem := rfl

@[simp] theorem setUsage_pending (s : State) (t kind n : Nat) : (setUsage s t kind n).pending = s.pending := rfl
@[simp] theorem setUsage_free (s : State) (t kind n : Nat) : (setUsage s t kind n).free = s.free := rfl
@[simp] theorem setUsage_resp (s : State) (t kind n : Nat) : (setUsage s t kind n).resp = s.resp := rfl
@[simp] theorem setUsage_time (s : State) (t kind n : Nat) : (setUsage s t kind n).time = s.time := rfl
@[simp] theorem setUsage_idien (s : State) (t kind n : Nat) : (setUsage s t kind n).idien = s.idien := rfl
@[simp] theorem setUsage_tens (s : State) (t kind n : Nat) : (setUsage s t kind n).tens = s.tens := rfl
@[simp] theorem setUsage_mig (s : State) (t kind n : Nat) : (setUsage s t kind n).mig = s.mig := rfl
@[simp] theorem setUsage_mbox (s : State) (t kind n : Nat) : (setUsage s t kind n).mbox = s.mbox := rfl
@[simp] theorem setUsage_mbPend (s : State) (t kind n : Nat) : (setUsage s t kind n).mbPend = s.mbPend := rfl
@[simp] theorem setUsage_epoch (s : State) (t kind n : Nat) : (setUsage s t kind n).epoch = s.epoch := rfl
@[simp] theorem setUsage_east (s : State) (t kind n : Nat) : (setUsage s t kind n).east = s.east := rfl
@[simp] theorem setUsage_west (s : State) (t kind n : Nat) : (setUsage s t kind n).west = s.west := rfl
@[simp] theorem setUsage_err (s : State) (t kind n : Nat) : (setUsage s t kind n).err = s.err := rfl
@[simp] theorem setUsage_saddle (s : State) (t kind n : Nat) : (setUsage s t kind n).saddle = s.saddle := rfl
@[simp] theorem setUsage_host (s : State) (t kind n : Nat) : (setUsage s t kind n).host = s.host := rfl
@[simp] theorem setUsage_qe (s : State) (t kind n : Nat) : (setUsage s t kind n).qe = s.qe := rfl
@[simp] theorem setUsage_nv (s : State) (t kind n : Nat) : (setUsage s t kind n).nv = s.nv := rfl
@[simp] theorem setUsage_ctl (s : State) (t kind n : Nat) : (setUsage s t kind n).ctl = s.ctl := rfl
@[simp] theorem setUsage_vault (s : State) (t kind n : Nat) : (setUsage s t kind n).vault = s.vault := rfl
@[simp] theorem setUsage_boot (s : State) (t kind n : Nat) : (setUsage s t kind n).boot = s.boot := rfl
@[simp] theorem setUsage_clk (s : State) (t kind n : Nat) : (setUsage s t kind n).clk = s.clk := rfl
@[simp] theorem setUsage_mem (s : State) (t kind n : Nat) : (setUsage s t kind n).mem = s.mem := rfl
@[simp] theorem setUsage_hmem (s : State) (t kind n : Nat) : (setUsage s t kind n).hmem = s.hmem := rfl

@[simp] theorem bump_pending (s : State) (k w n : Nat) : (bump s k w n).pending = s.pending := rfl
@[simp] theorem bump_free (s : State) (k w n : Nat) : (bump s k w n).free = s.free := rfl
@[simp] theorem bump_resp (s : State) (k w n : Nat) : (bump s k w n).resp = s.resp := rfl
@[simp] theorem bump_time (s : State) (k w n : Nat) : (bump s k w n).time = s.time := rfl
@[simp] theorem bump_idien (s : State) (k w n : Nat) : (bump s k w n).idien = s.idien := rfl
@[simp] theorem bump_tens (s : State) (k w n : Nat) : (bump s k w n).tens = s.tens := rfl
@[simp] theorem bump_mig (s : State) (k w n : Nat) : (bump s k w n).mig = s.mig := rfl
@[simp] theorem bump_mbox (s : State) (k w n : Nat) : (bump s k w n).mbox = s.mbox := rfl
@[simp] theorem bump_mbPend (s : State) (k w n : Nat) : (bump s k w n).mbPend = s.mbPend := rfl
@[simp] theorem bump_epoch (s : State) (k w n : Nat) : (bump s k w n).epoch = s.epoch := rfl
@[simp] theorem bump_east (s : State) (k w n : Nat) : (bump s k w n).east = s.east := rfl
@[simp] theorem bump_west (s : State) (k w n : Nat) : (bump s k w n).west = s.west := rfl
@[simp] theorem bump_err (s : State) (k w n : Nat) : (bump s k w n).err = s.err := rfl
@[simp] theorem bump_saddle (s : State) (k w n : Nat) : (bump s k w n).saddle = s.saddle := rfl
@[simp] theorem bump_host (s : State) (k w n : Nat) : (bump s k w n).host = s.host := rfl
@[simp] theorem bump_qe (s : State) (k w n : Nat) : (bump s k w n).qe = s.qe := rfl
@[simp] theorem bump_nv (s : State) (k w n : Nat) : (bump s k w n).nv = s.nv := rfl
@[simp] theorem bump_ctl (s : State) (k w n : Nat) : (bump s k w n).ctl = s.ctl := rfl
@[simp] theorem bump_vault (s : State) (k w n : Nat) : (bump s k w n).vault = s.vault := rfl
@[simp] theorem bump_boot (s : State) (k w n : Nat) : (bump s k w n).boot = s.boot := rfl
@[simp] theorem bump_clk (s : State) (k w n : Nat) : (bump s k w n).clk = s.clk := rfl
@[simp] theorem bump_mem (s : State) (k w n : Nat) : (bump s k w n).mem = s.mem := rfl
@[simp] theorem bump_hmem (s : State) (k w n : Nat) : (bump s k w n).hmem = s.hmem := rfl

@[simp] theorem count_pending (s : State) (k : Nat) : (count s k).pending = s.pending := rfl
@[simp] theorem count_free (s : State) (k : Nat) : (count s k).free = s.free := rfl
@[simp] theorem count_resp (s : State) (k : Nat) : (count s k).resp = s.resp := rfl
@[simp] theorem count_time (s : State) (k : Nat) : (count s k).time = s.time := rfl
@[simp] theorem count_idien (s : State) (k : Nat) : (count s k).idien = s.idien := rfl
@[simp] theorem count_tens (s : State) (k : Nat) : (count s k).tens = s.tens := rfl
@[simp] theorem count_mig (s : State) (k : Nat) : (count s k).mig = s.mig := rfl
@[simp] theorem count_mbox (s : State) (k : Nat) : (count s k).mbox = s.mbox := rfl
@[simp] theorem count_mbPend (s : State) (k : Nat) : (count s k).mbPend = s.mbPend := rfl
@[simp] theorem count_epoch (s : State) (k : Nat) : (count s k).epoch = s.epoch := rfl
@[simp] theorem count_east (s : State) (k : Nat) : (count s k).east = s.east := rfl
@[simp] theorem count_west (s : State) (k : Nat) : (count s k).west = s.west := rfl
@[simp] theorem count_err (s : State) (k : Nat) : (count s k).err = s.err := rfl
@[simp] theorem count_saddle (s : State) (k : Nat) : (count s k).saddle = s.saddle := rfl
@[simp] theorem count_host (s : State) (k : Nat) : (count s k).host = s.host := rfl
@[simp] theorem count_qe (s : State) (k : Nat) : (count s k).qe = s.qe := rfl
@[simp] theorem count_nv (s : State) (k : Nat) : (count s k).nv = s.nv := rfl
@[simp] theorem count_ctl (s : State) (k : Nat) : (count s k).ctl = s.ctl := rfl
@[simp] theorem count_vault (s : State) (k : Nat) : (count s k).vault = s.vault := rfl
@[simp] theorem count_boot (s : State) (k : Nat) : (count s k).boot = s.boot := rfl
@[simp] theorem count_clk (s : State) (k : Nat) : (count s k).clk = s.clk := rfl
@[simp] theorem count_mem (s : State) (k : Nat) : (count s k).mem = s.mem := rfl
@[simp] theorem count_hmem (s : State) (k : Nat) : (count s k).hmem = s.hmem := rfl

@[simp] theorem setTen_pending (s : State) (i : Nat) (t : Tenancy) : (setTen s i t).pending = s.pending := rfl
@[simp] theorem setTen_free (s : State) (i : Nat) (t : Tenancy) : (setTen s i t).free = s.free := rfl
@[simp] theorem setTen_resp (s : State) (i : Nat) (t : Tenancy) : (setTen s i t).resp = s.resp := rfl
@[simp] theorem setTen_time (s : State) (i : Nat) (t : Tenancy) : (setTen s i t).time = s.time := rfl
@[simp] theorem setTen_dict (s : State) (i : Nat) (t : Tenancy) : (setTen s i t).dict = s.dict := rfl
@[simp] theorem setTen_idien (s : State) (i : Nat) (t : Tenancy) : (setTen s i t).idien = s.idien := rfl
@[simp] theorem setTen_mig (s : State) (i : Nat) (t : Tenancy) : (setTen s i t).mig = s.mig := rfl
@[simp] theorem setTen_mbox (s : State) (i : Nat) (t : Tenancy) : (setTen s i t).mbox = s.mbox := rfl
@[simp] theorem setTen_mbPend (s : State) (i : Nat) (t : Tenancy) : (setTen s i t).mbPend = s.mbPend := rfl
@[simp] theorem setTen_epoch (s : State) (i : Nat) (t : Tenancy) : (setTen s i t).epoch = s.epoch := rfl
@[simp] theorem setTen_east (s : State) (i : Nat) (t : Tenancy) : (setTen s i t).east = s.east := rfl
@[simp] theorem setTen_west (s : State) (i : Nat) (t : Tenancy) : (setTen s i t).west = s.west := rfl
@[simp] theorem setTen_err (s : State) (i : Nat) (t : Tenancy) : (setTen s i t).err = s.err := rfl
@[simp] theorem setTen_saddle (s : State) (i : Nat) (t : Tenancy) : (setTen s i t).saddle = s.saddle := rfl
@[simp] theorem setTen_host (s : State) (i : Nat) (t : Tenancy) : (setTen s i t).host = s.host := rfl
@[simp] theorem setTen_qe (s : State) (i : Nat) (t : Tenancy) : (setTen s i t).qe = s.qe := rfl
@[simp] theorem setTen_nv (s : State) (i : Nat) (t : Tenancy) : (setTen s i t).nv = s.nv := rfl
@[simp] theorem setTen_ctl (s : State) (i : Nat) (t : Tenancy) : (setTen s i t).ctl = s.ctl := rfl
@[simp] theorem setTen_vault (s : State) (i : Nat) (t : Tenancy) : (setTen s i t).vault = s.vault := rfl
@[simp] theorem setTen_boot (s : State) (i : Nat) (t : Tenancy) : (setTen s i t).boot = s.boot := rfl
@[simp] theorem setTen_clk (s : State) (i : Nat) (t : Tenancy) : (setTen s i t).clk = s.clk := rfl
@[simp] theorem setTen_mem (s : State) (i : Nat) (t : Tenancy) : (setTen s i t).mem = s.mem := rfl
@[simp] theorem setTen_hmem (s : State) (i : Nat) (t : Tenancy) : (setTen s i t).hmem = s.hmem := rfl

@[simp] theorem respond_pending (s : State) (st : Status) (retry : Nat) (payload : List Byte) : (respond s st retry payload).pending = s.pending := rfl
@[simp] theorem respond_free (s : State) (st : Status) (retry : Nat) (payload : List Byte) : (respond s st retry payload).free = s.free := rfl
@[simp] theorem respond_time (s : State) (st : Status) (retry : Nat) (payload : List Byte) : (respond s st retry payload).time = s.time := rfl
@[simp] theorem respond_dict (s : State) (st : Status) (retry : Nat) (payload : List Byte) : (respond s st retry payload).dict = s.dict := rfl
@[simp] theorem respond_idien (s : State) (st : Status) (retry : Nat) (payload : List Byte) : (respond s st retry payload).idien = s.idien := rfl
@[simp] theorem respond_tens (s : State) (st : Status) (retry : Nat) (payload : List Byte) : (respond s st retry payload).tens = s.tens := rfl
@[simp] theorem respond_mig (s : State) (st : Status) (retry : Nat) (payload : List Byte) : (respond s st retry payload).mig = s.mig := rfl
@[simp] theorem respond_mbox (s : State) (st : Status) (retry : Nat) (payload : List Byte) : (respond s st retry payload).mbox = s.mbox := rfl
@[simp] theorem respond_mbPend (s : State) (st : Status) (retry : Nat) (payload : List Byte) : (respond s st retry payload).mbPend = s.mbPend := rfl
@[simp] theorem respond_epoch (s : State) (st : Status) (retry : Nat) (payload : List Byte) : (respond s st retry payload).epoch = s.epoch := rfl
@[simp] theorem respond_east (s : State) (st : Status) (retry : Nat) (payload : List Byte) : (respond s st retry payload).east = s.east := rfl
@[simp] theorem respond_west (s : State) (st : Status) (retry : Nat) (payload : List Byte) : (respond s st retry payload).west = s.west := rfl
@[simp] theorem respond_err (s : State) (st : Status) (retry : Nat) (payload : List Byte) : (respond s st retry payload).err = s.err := rfl
@[simp] theorem respond_saddle (s : State) (st : Status) (retry : Nat) (payload : List Byte) : (respond s st retry payload).saddle = s.saddle := rfl
@[simp] theorem respond_host (s : State) (st : Status) (retry : Nat) (payload : List Byte) : (respond s st retry payload).host = s.host := rfl
@[simp] theorem respond_qe (s : State) (st : Status) (retry : Nat) (payload : List Byte) : (respond s st retry payload).qe = s.qe := rfl
@[simp] theorem respond_nv (s : State) (st : Status) (retry : Nat) (payload : List Byte) : (respond s st retry payload).nv = s.nv := rfl
@[simp] theorem respond_ctl (s : State) (st : Status) (retry : Nat) (payload : List Byte) : (respond s st retry payload).ctl = s.ctl := rfl
@[simp] theorem respond_vault (s : State) (st : Status) (retry : Nat) (payload : List Byte) : (respond s st retry payload).vault = s.vault := rfl
@[simp] theorem respond_boot (s : State) (st : Status) (retry : Nat) (payload : List Byte) : (respond s st retry payload).boot = s.boot := rfl
@[simp] theorem respond_clk (s : State) (st : Status) (retry : Nat) (payload : List Byte) : (respond s st retry payload).clk = s.clk := rfl
@[simp] theorem respond_mem (s : State) (st : Status) (retry : Nat) (payload : List Byte) : (respond s st retry payload).mem = s.mem := rfl
@[simp] theorem respond_hmem (s : State) (st : Status) (retry : Nat) (payload : List Byte) : (respond s st retry payload).hmem = s.hmem := rfl

@[simp] theorem setHandler_pending (s : State) (k : Nat) (h : Handler) : (setHandler s k h).pending = s.pending := rfl
@[simp] theorem setHandler_free (s : State) (k : Nat) (h : Handler) : (setHandler s k h).free = s.free := rfl
@[simp] theorem setHandler_resp (s : State) (k : Nat) (h : Handler) : (setHandler s k h).resp = s.resp := rfl
@[simp] theorem setHandler_time (s : State) (k : Nat) (h : Handler) : (setHandler s k h).time = s.time := rfl
@[simp] theorem setHandler_dict (s : State) (k : Nat) (h : Handler) : (setHandler s k h).dict = s.dict := rfl
@[simp] theorem setHandler_idien (s : State) (k : Nat) (h : Handler) : (setHandler s k h).idien = s.idien := rfl
@[simp] theorem setHandler_tens (s : State) (k : Nat) (h : Handler) : (setHandler s k h).tens = s.tens := rfl
@[simp] theorem setHandler_mig (s : State) (k : Nat) (h : Handler) : (setHandler s k h).mig = s.mig := rfl
@[simp] theorem setHandler_mbox (s : State) (k : Nat) (h : Handler) : (setHandler s k h).mbox = s.mbox := rfl
@[simp] theorem setHandler_mbPend (s : State) (k : Nat) (h : Handler) : (setHandler s k h).mbPend = s.mbPend := rfl
@[simp] theorem setHandler_epoch (s : State) (k : Nat) (h : Handler) : (setHandler s k h).epoch = s.epoch := rfl
@[simp] theorem setHandler_east (s : State) (k : Nat) (h : Handler) : (setHandler s k h).east = s.east := rfl
@[simp] theorem setHandler_west (s : State) (k : Nat) (h : Handler) : (setHandler s k h).west = s.west := rfl
@[simp] theorem setHandler_saddle (s : State) (k : Nat) (h : Handler) : (setHandler s k h).saddle = s.saddle := rfl
@[simp] theorem setHandler_host (s : State) (k : Nat) (h : Handler) : (setHandler s k h).host = s.host := rfl
@[simp] theorem setHandler_qe (s : State) (k : Nat) (h : Handler) : (setHandler s k h).qe = s.qe := rfl
@[simp] theorem setHandler_nv (s : State) (k : Nat) (h : Handler) : (setHandler s k h).nv = s.nv := rfl
@[simp] theorem setHandler_ctl (s : State) (k : Nat) (h : Handler) : (setHandler s k h).ctl = s.ctl := rfl
@[simp] theorem setHandler_vault (s : State) (k : Nat) (h : Handler) : (setHandler s k h).vault = s.vault := rfl
@[simp] theorem setHandler_boot (s : State) (k : Nat) (h : Handler) : (setHandler s k h).boot = s.boot := rfl
@[simp] theorem setHandler_clk (s : State) (k : Nat) (h : Handler) : (setHandler s k h).clk = s.clk := rfl
@[simp] theorem setHandler_mem (s : State) (k : Nat) (h : Handler) : (setHandler s k h).mem = s.mem := rfl
@[simp] theorem setHandler_hmem (s : State) (k : Nat) (h : Handler) : (setHandler s k h).hmem = s.hmem := rfl

@[simp] theorem setSession_pending (s : State) (n : Nat) (x : Session) : (setSession s n x).pending = s.pending := rfl
@[simp] theorem setSession_free (s : State) (n : Nat) (x : Session) : (setSession s n x).free = s.free := rfl
@[simp] theorem setSession_resp (s : State) (n : Nat) (x : Session) : (setSession s n x).resp = s.resp := rfl
@[simp] theorem setSession_time (s : State) (n : Nat) (x : Session) : (setSession s n x).time = s.time := rfl
@[simp] theorem setSession_dict (s : State) (n : Nat) (x : Session) : (setSession s n x).dict = s.dict := rfl
@[simp] theorem setSession_tens (s : State) (n : Nat) (x : Session) : (setSession s n x).tens = s.tens := rfl
@[simp] theorem setSession_mig (s : State) (n : Nat) (x : Session) : (setSession s n x).mig = s.mig := rfl
@[simp] theorem setSession_mbox (s : State) (n : Nat) (x : Session) : (setSession s n x).mbox = s.mbox := rfl
@[simp] theorem setSession_mbPend (s : State) (n : Nat) (x : Session) : (setSession s n x).mbPend = s.mbPend := rfl
@[simp] theorem setSession_epoch (s : State) (n : Nat) (x : Session) : (setSession s n x).epoch = s.epoch := rfl
@[simp] theorem setSession_east (s : State) (n : Nat) (x : Session) : (setSession s n x).east = s.east := rfl
@[simp] theorem setSession_west (s : State) (n : Nat) (x : Session) : (setSession s n x).west = s.west := rfl
@[simp] theorem setSession_err (s : State) (n : Nat) (x : Session) : (setSession s n x).err = s.err := rfl
@[simp] theorem setSession_saddle (s : State) (n : Nat) (x : Session) : (setSession s n x).saddle = s.saddle := rfl
@[simp] theorem setSession_host (s : State) (n : Nat) (x : Session) : (setSession s n x).host = s.host := rfl
@[simp] theorem setSession_qe (s : State) (n : Nat) (x : Session) : (setSession s n x).qe = s.qe := rfl
@[simp] theorem setSession_nv (s : State) (n : Nat) (x : Session) : (setSession s n x).nv = s.nv := rfl
@[simp] theorem setSession_ctl (s : State) (n : Nat) (x : Session) : (setSession s n x).ctl = s.ctl := rfl
@[simp] theorem setSession_vault (s : State) (n : Nat) (x : Session) : (setSession s n x).vault = s.vault := rfl
@[simp] theorem setSession_boot (s : State) (n : Nat) (x : Session) : (setSession s n x).boot = s.boot := rfl
@[simp] theorem setSession_clk (s : State) (n : Nat) (x : Session) : (setSession s n x).clk = s.clk := rfl
@[simp] theorem setSession_mem (s : State) (n : Nat) (x : Session) : (setSession s n x).mem = s.mem := rfl
@[simp] theorem setSession_hmem (s : State) (n : Nat) (x : Session) : (setSession s n x).hmem = s.hmem := rfl

@[simp] theorem setConn_pending (s : State) (c : Nat) (x : Conn) : (setConn s c x).pending = s.pending := rfl
@[simp] theorem setConn_free (s : State) (c : Nat) (x : Conn) : (setConn s c x).free = s.free := rfl
@[simp] theorem setConn_resp (s : State) (c : Nat) (x : Conn) : (setConn s c x).resp = s.resp := rfl
@[simp] theorem setConn_time (s : State) (c : Nat) (x : Conn) : (setConn s c x).time = s.time := rfl
@[simp] theorem setConn_dict (s : State) (c : Nat) (x : Conn) : (setConn s c x).dict = s.dict := rfl
@[simp] theorem setConn_tens (s : State) (c : Nat) (x : Conn) : (setConn s c x).tens = s.tens := rfl
@[simp] theorem setConn_mig (s : State) (c : Nat) (x : Conn) : (setConn s c x).mig = s.mig := rfl
@[simp] theorem setConn_mbox (s : State) (c : Nat) (x : Conn) : (setConn s c x).mbox = s.mbox := rfl
@[simp] theorem setConn_mbPend (s : State) (c : Nat) (x : Conn) : (setConn s c x).mbPend = s.mbPend := rfl
@[simp] theorem setConn_epoch (s : State) (c : Nat) (x : Conn) : (setConn s c x).epoch = s.epoch := rfl
@[simp] theorem setConn_east (s : State) (c : Nat) (x : Conn) : (setConn s c x).east = s.east := rfl
@[simp] theorem setConn_west (s : State) (c : Nat) (x : Conn) : (setConn s c x).west = s.west := rfl
@[simp] theorem setConn_err (s : State) (c : Nat) (x : Conn) : (setConn s c x).err = s.err := rfl
@[simp] theorem setConn_saddle (s : State) (c : Nat) (x : Conn) : (setConn s c x).saddle = s.saddle := rfl
@[simp] theorem setConn_host (s : State) (c : Nat) (x : Conn) : (setConn s c x).host = s.host := rfl
@[simp] theorem setConn_qe (s : State) (c : Nat) (x : Conn) : (setConn s c x).qe = s.qe := rfl
@[simp] theorem setConn_nv (s : State) (c : Nat) (x : Conn) : (setConn s c x).nv = s.nv := rfl
@[simp] theorem setConn_ctl (s : State) (c : Nat) (x : Conn) : (setConn s c x).ctl = s.ctl := rfl
@[simp] theorem setConn_vault (s : State) (c : Nat) (x : Conn) : (setConn s c x).vault = s.vault := rfl
@[simp] theorem setConn_boot (s : State) (c : Nat) (x : Conn) : (setConn s c x).boot = s.boot := rfl
@[simp] theorem setConn_clk (s : State) (c : Nat) (x : Conn) : (setConn s c x).clk = s.clk := rfl
@[simp] theorem setConn_mem (s : State) (c : Nat) (x : Conn) : (setConn s c x).mem = s.mem := rfl
@[simp] theorem setConn_hmem (s : State) (c : Nat) (x : Conn) : (setConn s c x).hmem = s.hmem := rfl

@[simp] theorem setPf0_pending (s : State) (m : Pf0Mb) : (setPf0 s m).pending = s.pending := rfl
@[simp] theorem setPf0_free (s : State) (m : Pf0Mb) : (setPf0 s m).free = s.free := rfl
@[simp] theorem setPf0_resp (s : State) (m : Pf0Mb) : (setPf0 s m).resp = s.resp := rfl
@[simp] theorem setPf0_time (s : State) (m : Pf0Mb) : (setPf0 s m).time = s.time := rfl
@[simp] theorem setPf0_dict (s : State) (m : Pf0Mb) : (setPf0 s m).dict = s.dict := rfl
@[simp] theorem setPf0_tens (s : State) (m : Pf0Mb) : (setPf0 s m).tens = s.tens := rfl
@[simp] theorem setPf0_mig (s : State) (m : Pf0Mb) : (setPf0 s m).mig = s.mig := rfl
@[simp] theorem setPf0_mbox (s : State) (m : Pf0Mb) : (setPf0 s m).mbox = s.mbox := rfl
@[simp] theorem setPf0_mbPend (s : State) (m : Pf0Mb) : (setPf0 s m).mbPend = s.mbPend := rfl
@[simp] theorem setPf0_epoch (s : State) (m : Pf0Mb) : (setPf0 s m).epoch = s.epoch := rfl
@[simp] theorem setPf0_east (s : State) (m : Pf0Mb) : (setPf0 s m).east = s.east := rfl
@[simp] theorem setPf0_west (s : State) (m : Pf0Mb) : (setPf0 s m).west = s.west := rfl
@[simp] theorem setPf0_err (s : State) (m : Pf0Mb) : (setPf0 s m).err = s.err := rfl
@[simp] theorem setPf0_saddle (s : State) (m : Pf0Mb) : (setPf0 s m).saddle = s.saddle := rfl
@[simp] theorem setPf0_host (s : State) (m : Pf0Mb) : (setPf0 s m).host = s.host := rfl
@[simp] theorem setPf0_qe (s : State) (m : Pf0Mb) : (setPf0 s m).qe = s.qe := rfl
@[simp] theorem setPf0_nv (s : State) (m : Pf0Mb) : (setPf0 s m).nv = s.nv := rfl
@[simp] theorem setPf0_ctl (s : State) (m : Pf0Mb) : (setPf0 s m).ctl = s.ctl := rfl
@[simp] theorem setPf0_vault (s : State) (m : Pf0Mb) : (setPf0 s m).vault = s.vault := rfl
@[simp] theorem setPf0_boot (s : State) (m : Pf0Mb) : (setPf0 s m).boot = s.boot := rfl
@[simp] theorem setPf0_clk (s : State) (m : Pf0Mb) : (setPf0 s m).clk = s.clk := rfl
@[simp] theorem setPf0_mem (s : State) (m : Pf0Mb) : (setPf0 s m).mem = s.mem := rfl
@[simp] theorem setPf0_hmem (s : State) (m : Pf0Mb) : (setPf0 s m).hmem = s.hmem := rfl

@[simp] theorem setFn_pending (s : State) (f : Nat) (x : HostFn) : (setFn s f x).pending = s.pending := rfl
@[simp] theorem setFn_free (s : State) (f : Nat) (x : HostFn) : (setFn s f x).free = s.free := rfl
@[simp] theorem setFn_resp (s : State) (f : Nat) (x : HostFn) : (setFn s f x).resp = s.resp := rfl
@[simp] theorem setFn_time (s : State) (f : Nat) (x : HostFn) : (setFn s f x).time = s.time := rfl
@[simp] theorem setFn_dict (s : State) (f : Nat) (x : HostFn) : (setFn s f x).dict = s.dict := rfl
@[simp] theorem setFn_idien (s : State) (f : Nat) (x : HostFn) : (setFn s f x).idien = s.idien := rfl
@[simp] theorem setFn_tens (s : State) (f : Nat) (x : HostFn) : (setFn s f x).tens = s.tens := rfl
@[simp] theorem setFn_mig (s : State) (f : Nat) (x : HostFn) : (setFn s f x).mig = s.mig := rfl
@[simp] theorem setFn_mbox (s : State) (f : Nat) (x : HostFn) : (setFn s f x).mbox = s.mbox := rfl
@[simp] theorem setFn_mbPend (s : State) (f : Nat) (x : HostFn) : (setFn s f x).mbPend = s.mbPend := rfl
@[simp] theorem setFn_epoch (s : State) (f : Nat) (x : HostFn) : (setFn s f x).epoch = s.epoch := rfl
@[simp] theorem setFn_east (s : State) (f : Nat) (x : HostFn) : (setFn s f x).east = s.east := rfl
@[simp] theorem setFn_west (s : State) (f : Nat) (x : HostFn) : (setFn s f x).west = s.west := rfl
@[simp] theorem setFn_err (s : State) (f : Nat) (x : HostFn) : (setFn s f x).err = s.err := rfl
@[simp] theorem setFn_saddle (s : State) (f : Nat) (x : HostFn) : (setFn s f x).saddle = s.saddle := rfl
@[simp] theorem setFn_qe (s : State) (f : Nat) (x : HostFn) : (setFn s f x).qe = s.qe := rfl
@[simp] theorem setFn_nv (s : State) (f : Nat) (x : HostFn) : (setFn s f x).nv = s.nv := rfl
@[simp] theorem setFn_ctl (s : State) (f : Nat) (x : HostFn) : (setFn s f x).ctl = s.ctl := rfl
@[simp] theorem setFn_vault (s : State) (f : Nat) (x : HostFn) : (setFn s f x).vault = s.vault := rfl
@[simp] theorem setFn_boot (s : State) (f : Nat) (x : HostFn) : (setFn s f x).boot = s.boot := rfl
@[simp] theorem setFn_clk (s : State) (f : Nat) (x : HostFn) : (setFn s f x).clk = s.clk := rfl
@[simp] theorem setFn_mem (s : State) (f : Nat) (x : HostFn) : (setFn s f x).mem = s.mem := rfl
@[simp] theorem setFn_hmem (s : State) (f : Nat) (x : HostFn) : (setFn s f x).hmem = s.hmem := rfl

@[simp] theorem setSlot_pending (s : State) (q : Nat) (x : Slot) : (setSlot s q x).pending = s.pending := rfl
@[simp] theorem setSlot_free (s : State) (q : Nat) (x : Slot) : (setSlot s q x).free = s.free := rfl
@[simp] theorem setSlot_resp (s : State) (q : Nat) (x : Slot) : (setSlot s q x).resp = s.resp := rfl
@[simp] theorem setSlot_time (s : State) (q : Nat) (x : Slot) : (setSlot s q x).time = s.time := rfl
@[simp] theorem setSlot_dict (s : State) (q : Nat) (x : Slot) : (setSlot s q x).dict = s.dict := rfl
@[simp] theorem setSlot_idien (s : State) (q : Nat) (x : Slot) : (setSlot s q x).idien = s.idien := rfl
@[simp] theorem setSlot_tens (s : State) (q : Nat) (x : Slot) : (setSlot s q x).tens = s.tens := rfl
@[simp] theorem setSlot_mig (s : State) (q : Nat) (x : Slot) : (setSlot s q x).mig = s.mig := rfl
@[simp] theorem setSlot_mbox (s : State) (q : Nat) (x : Slot) : (setSlot s q x).mbox = s.mbox := rfl
@[simp] theorem setSlot_mbPend (s : State) (q : Nat) (x : Slot) : (setSlot s q x).mbPend = s.mbPend := rfl
@[simp] theorem setSlot_epoch (s : State) (q : Nat) (x : Slot) : (setSlot s q x).epoch = s.epoch := rfl
@[simp] theorem setSlot_east (s : State) (q : Nat) (x : Slot) : (setSlot s q x).east = s.east := rfl
@[simp] theorem setSlot_west (s : State) (q : Nat) (x : Slot) : (setSlot s q x).west = s.west := rfl
@[simp] theorem setSlot_err (s : State) (q : Nat) (x : Slot) : (setSlot s q x).err = s.err := rfl
@[simp] theorem setSlot_host (s : State) (q : Nat) (x : Slot) : (setSlot s q x).host = s.host := rfl
@[simp] theorem setSlot_qe (s : State) (q : Nat) (x : Slot) : (setSlot s q x).qe = s.qe := rfl
@[simp] theorem setSlot_nv (s : State) (q : Nat) (x : Slot) : (setSlot s q x).nv = s.nv := rfl
@[simp] theorem setSlot_ctl (s : State) (q : Nat) (x : Slot) : (setSlot s q x).ctl = s.ctl := rfl
@[simp] theorem setSlot_vault (s : State) (q : Nat) (x : Slot) : (setSlot s q x).vault = s.vault := rfl
@[simp] theorem setSlot_boot (s : State) (q : Nat) (x : Slot) : (setSlot s q x).boot = s.boot := rfl
@[simp] theorem setSlot_clk (s : State) (q : Nat) (x : Slot) : (setSlot s q x).clk = s.clk := rfl
@[simp] theorem setSlot_mem (s : State) (q : Nat) (x : Slot) : (setSlot s q x).mem = s.mem := rfl
@[simp] theorem setSlot_hmem (s : State) (q : Nat) (x : Slot) : (setSlot s q x).hmem = s.hmem := rfl

@[simp] theorem setSport_pending (s : State) (p : Nat) (x : SPort) : (setSport s p x).pending = s.pending := rfl
@[simp] theorem setSport_free (s : State) (p : Nat) (x : SPort) : (setSport s p x).free = s.free := rfl
@[simp] theorem setSport_resp (s : State) (p : Nat) (x : SPort) : (setSport s p x).resp = s.resp := rfl
@[simp] theorem setSport_time (s : State) (p : Nat) (x : SPort) : (setSport s p x).time = s.time := rfl
@[simp] theorem setSport_dict (s : State) (p : Nat) (x : SPort) : (setSport s p x).dict = s.dict := rfl
@[simp] theorem setSport_idien (s : State) (p : Nat) (x : SPort) : (setSport s p x).idien = s.idien := rfl
@[simp] theorem setSport_tens (s : State) (p : Nat) (x : SPort) : (setSport s p x).tens = s.tens := rfl
@[simp] theorem setSport_mig (s : State) (p : Nat) (x : SPort) : (setSport s p x).mig = s.mig := rfl
@[simp] theorem setSport_mbox (s : State) (p : Nat) (x : SPort) : (setSport s p x).mbox = s.mbox := rfl
@[simp] theorem setSport_mbPend (s : State) (p : Nat) (x : SPort) : (setSport s p x).mbPend = s.mbPend := rfl
@[simp] theorem setSport_epoch (s : State) (p : Nat) (x : SPort) : (setSport s p x).epoch = s.epoch := rfl
@[simp] theorem setSport_east (s : State) (p : Nat) (x : SPort) : (setSport s p x).east = s.east := rfl
@[simp] theorem setSport_west (s : State) (p : Nat) (x : SPort) : (setSport s p x).west = s.west := rfl
@[simp] theorem setSport_err (s : State) (p : Nat) (x : SPort) : (setSport s p x).err = s.err := rfl
@[simp] theorem setSport_host (s : State) (p : Nat) (x : SPort) : (setSport s p x).host = s.host := rfl
@[simp] theorem setSport_qe (s : State) (p : Nat) (x : SPort) : (setSport s p x).qe = s.qe := rfl
@[simp] theorem setSport_nv (s : State) (p : Nat) (x : SPort) : (setSport s p x).nv = s.nv := rfl
@[simp] theorem setSport_ctl (s : State) (p : Nat) (x : SPort) : (setSport s p x).ctl = s.ctl := rfl
@[simp] theorem setSport_vault (s : State) (p : Nat) (x : SPort) : (setSport s p x).vault = s.vault := rfl
@[simp] theorem setSport_boot (s : State) (p : Nat) (x : SPort) : (setSport s p x).boot = s.boot := rfl
@[simp] theorem setSport_clk (s : State) (p : Nat) (x : SPort) : (setSport s p x).clk = s.clk := rfl
@[simp] theorem setSport_mem (s : State) (p : Nat) (x : SPort) : (setSport s p x).mem = s.mem := rfl
@[simp] theorem setSport_hmem (s : State) (p : Nat) (x : SPort) : (setSport s p x).hmem = s.hmem := rfl

@[simp] theorem setRegion_pending (s : State) (r : Nat) (x : SRegion) : (setRegion s r x).pending = s.pending := rfl
@[simp] theorem setRegion_free (s : State) (r : Nat) (x : SRegion) : (setRegion s r x).free = s.free := rfl
@[simp] theorem setRegion_resp (s : State) (r : Nat) (x : SRegion) : (setRegion s r x).resp = s.resp := rfl
@[simp] theorem setRegion_time (s : State) (r : Nat) (x : SRegion) : (setRegion s r x).time = s.time := rfl
@[simp] theorem setRegion_dict (s : State) (r : Nat) (x : SRegion) : (setRegion s r x).dict = s.dict := rfl
@[simp] theorem setRegion_idien (s : State) (r : Nat) (x : SRegion) : (setRegion s r x).idien = s.idien := rfl
@[simp] theorem setRegion_tens (s : State) (r : Nat) (x : SRegion) : (setRegion s r x).tens = s.tens := rfl
@[simp] theorem setRegion_mig (s : State) (r : Nat) (x : SRegion) : (setRegion s r x).mig = s.mig := rfl
@[simp] theorem setRegion_mbox (s : State) (r : Nat) (x : SRegion) : (setRegion s r x).mbox = s.mbox := rfl
@[simp] theorem setRegion_mbPend (s : State) (r : Nat) (x : SRegion) : (setRegion s r x).mbPend = s.mbPend := rfl
@[simp] theorem setRegion_epoch (s : State) (r : Nat) (x : SRegion) : (setRegion s r x).epoch = s.epoch := rfl
@[simp] theorem setRegion_east (s : State) (r : Nat) (x : SRegion) : (setRegion s r x).east = s.east := rfl
@[simp] theorem setRegion_west (s : State) (r : Nat) (x : SRegion) : (setRegion s r x).west = s.west := rfl
@[simp] theorem setRegion_err (s : State) (r : Nat) (x : SRegion) : (setRegion s r x).err = s.err := rfl
@[simp] theorem setRegion_host (s : State) (r : Nat) (x : SRegion) : (setRegion s r x).host = s.host := rfl
@[simp] theorem setRegion_qe (s : State) (r : Nat) (x : SRegion) : (setRegion s r x).qe = s.qe := rfl
@[simp] theorem setRegion_nv (s : State) (r : Nat) (x : SRegion) : (setRegion s r x).nv = s.nv := rfl
@[simp] theorem setRegion_ctl (s : State) (r : Nat) (x : SRegion) : (setRegion s r x).ctl = s.ctl := rfl
@[simp] theorem setRegion_vault (s : State) (r : Nat) (x : SRegion) : (setRegion s r x).vault = s.vault := rfl
@[simp] theorem setRegion_boot (s : State) (r : Nat) (x : SRegion) : (setRegion s r x).boot = s.boot := rfl
@[simp] theorem setRegion_clk (s : State) (r : Nat) (x : SRegion) : (setRegion s r x).clk = s.clk := rfl
@[simp] theorem setRegion_mem (s : State) (r : Nat) (x : SRegion) : (setRegion s r x).mem = s.mem := rfl
@[simp] theorem setRegion_hmem (s : State) (r : Nat) (x : SRegion) : (setRegion s r x).hmem = s.hmem := rfl

@[simp] theorem setMb_pending (s : State) (n : Nat) (m : Mailbox) : (setMb s n m).pending = s.pending := rfl
@[simp] theorem setMb_free (s : State) (n : Nat) (m : Mailbox) : (setMb s n m).free = s.free := rfl
@[simp] theorem setMb_resp (s : State) (n : Nat) (m : Mailbox) : (setMb s n m).resp = s.resp := rfl
@[simp] theorem setMb_time (s : State) (n : Nat) (m : Mailbox) : (setMb s n m).time = s.time := rfl
@[simp] theorem setMb_dict (s : State) (n : Nat) (m : Mailbox) : (setMb s n m).dict = s.dict := rfl
@[simp] theorem setMb_idien (s : State) (n : Nat) (m : Mailbox) : (setMb s n m).idien = s.idien := rfl
@[simp] theorem setMb_tens (s : State) (n : Nat) (m : Mailbox) : (setMb s n m).tens = s.tens := rfl
@[simp] theorem setMb_mig (s : State) (n : Nat) (m : Mailbox) : (setMb s n m).mig = s.mig := rfl
@[simp] theorem setMb_mbPend (s : State) (n : Nat) (m : Mailbox) : (setMb s n m).mbPend = s.mbPend := rfl
@[simp] theorem setMb_epoch (s : State) (n : Nat) (m : Mailbox) : (setMb s n m).epoch = s.epoch := rfl
@[simp] theorem setMb_east (s : State) (n : Nat) (m : Mailbox) : (setMb s n m).east = s.east := rfl
@[simp] theorem setMb_west (s : State) (n : Nat) (m : Mailbox) : (setMb s n m).west = s.west := rfl
@[simp] theorem setMb_err (s : State) (n : Nat) (m : Mailbox) : (setMb s n m).err = s.err := rfl
@[simp] theorem setMb_saddle (s : State) (n : Nat) (m : Mailbox) : (setMb s n m).saddle = s.saddle := rfl
@[simp] theorem setMb_host (s : State) (n : Nat) (m : Mailbox) : (setMb s n m).host = s.host := rfl
@[simp] theorem setMb_qe (s : State) (n : Nat) (m : Mailbox) : (setMb s n m).qe = s.qe := rfl
@[simp] theorem setMb_nv (s : State) (n : Nat) (m : Mailbox) : (setMb s n m).nv = s.nv := rfl
@[simp] theorem setMb_ctl (s : State) (n : Nat) (m : Mailbox) : (setMb s n m).ctl = s.ctl := rfl
@[simp] theorem setMb_vault (s : State) (n : Nat) (m : Mailbox) : (setMb s n m).vault = s.vault := rfl
@[simp] theorem setMb_boot (s : State) (n : Nat) (m : Mailbox) : (setMb s n m).boot = s.boot := rfl
@[simp] theorem setMb_clk (s : State) (n : Nat) (m : Mailbox) : (setMb s n m).clk = s.clk := rfl
@[simp] theorem setMb_mem (s : State) (n : Nat) (m : Mailbox) : (setMb s n m).mem = s.mem := rfl
@[simp] theorem setMb_hmem (s : State) (n : Nat) (m : Mailbox) : (setMb s n m).hmem = s.hmem := rfl

@[simp] theorem setSrc_pending (s : State) (c : ClkSource) (x : ClkSt) : (setSrc s c x).pending = s.pending := rfl
@[simp] theorem setSrc_free (s : State) (c : ClkSource) (x : ClkSt) : (setSrc s c x).free = s.free := rfl
@[simp] theorem setSrc_resp (s : State) (c : ClkSource) (x : ClkSt) : (setSrc s c x).resp = s.resp := rfl
@[simp] theorem setSrc_time (s : State) (c : ClkSource) (x : ClkSt) : (setSrc s c x).time = s.time := rfl
@[simp] theorem setSrc_dict (s : State) (c : ClkSource) (x : ClkSt) : (setSrc s c x).dict = s.dict := rfl
@[simp] theorem setSrc_idien (s : State) (c : ClkSource) (x : ClkSt) : (setSrc s c x).idien = s.idien := rfl
@[simp] theorem setSrc_tens (s : State) (c : ClkSource) (x : ClkSt) : (setSrc s c x).tens = s.tens := rfl
@[simp] theorem setSrc_mig (s : State) (c : ClkSource) (x : ClkSt) : (setSrc s c x).mig = s.mig := rfl
@[simp] theorem setSrc_mbox (s : State) (c : ClkSource) (x : ClkSt) : (setSrc s c x).mbox = s.mbox := rfl
@[simp] theorem setSrc_mbPend (s : State) (c : ClkSource) (x : ClkSt) : (setSrc s c x).mbPend = s.mbPend := rfl
@[simp] theorem setSrc_epoch (s : State) (c : ClkSource) (x : ClkSt) : (setSrc s c x).epoch = s.epoch := rfl
@[simp] theorem setSrc_east (s : State) (c : ClkSource) (x : ClkSt) : (setSrc s c x).east = s.east := rfl
@[simp] theorem setSrc_west (s : State) (c : ClkSource) (x : ClkSt) : (setSrc s c x).west = s.west := rfl
@[simp] theorem setSrc_err (s : State) (c : ClkSource) (x : ClkSt) : (setSrc s c x).err = s.err := rfl
@[simp] theorem setSrc_saddle (s : State) (c : ClkSource) (x : ClkSt) : (setSrc s c x).saddle = s.saddle := rfl
@[simp] theorem setSrc_host (s : State) (c : ClkSource) (x : ClkSt) : (setSrc s c x).host = s.host := rfl
@[simp] theorem setSrc_qe (s : State) (c : ClkSource) (x : ClkSt) : (setSrc s c x).qe = s.qe := rfl
@[simp] theorem setSrc_nv (s : State) (c : ClkSource) (x : ClkSt) : (setSrc s c x).nv = s.nv := rfl
@[simp] theorem setSrc_ctl (s : State) (c : ClkSource) (x : ClkSt) : (setSrc s c x).ctl = s.ctl := rfl
@[simp] theorem setSrc_vault (s : State) (c : ClkSource) (x : ClkSt) : (setSrc s c x).vault = s.vault := rfl
@[simp] theorem setSrc_boot (s : State) (c : ClkSource) (x : ClkSt) : (setSrc s c x).boot = s.boot := rfl
@[simp] theorem setSrc_mem (s : State) (c : ClkSource) (x : ClkSt) : (setSrc s c x).mem = s.mem := rfl
@[simp] theorem setSrc_hmem (s : State) (c : ClkSource) (x : ClkSt) : (setSrc s c x).hmem = s.hmem := rfl

@[simp] theorem setDom_pending (s : State) (d : Nat) (x : DomSt) : (setDom s d x).pending = s.pending := rfl
@[simp] theorem setDom_free (s : State) (d : Nat) (x : DomSt) : (setDom s d x).free = s.free := rfl
@[simp] theorem setDom_resp (s : State) (d : Nat) (x : DomSt) : (setDom s d x).resp = s.resp := rfl
@[simp] theorem setDom_time (s : State) (d : Nat) (x : DomSt) : (setDom s d x).time = s.time := rfl
@[simp] theorem setDom_dict (s : State) (d : Nat) (x : DomSt) : (setDom s d x).dict = s.dict := rfl
@[simp] theorem setDom_idien (s : State) (d : Nat) (x : DomSt) : (setDom s d x).idien = s.idien := rfl
@[simp] theorem setDom_tens (s : State) (d : Nat) (x : DomSt) : (setDom s d x).tens = s.tens := rfl
@[simp] theorem setDom_mig (s : State) (d : Nat) (x : DomSt) : (setDom s d x).mig = s.mig := rfl
@[simp] theorem setDom_mbox (s : State) (d : Nat) (x : DomSt) : (setDom s d x).mbox = s.mbox := rfl
@[simp] theorem setDom_mbPend (s : State) (d : Nat) (x : DomSt) : (setDom s d x).mbPend = s.mbPend := rfl
@[simp] theorem setDom_epoch (s : State) (d : Nat) (x : DomSt) : (setDom s d x).epoch = s.epoch := rfl
@[simp] theorem setDom_east (s : State) (d : Nat) (x : DomSt) : (setDom s d x).east = s.east := rfl
@[simp] theorem setDom_west (s : State) (d : Nat) (x : DomSt) : (setDom s d x).west = s.west := rfl
@[simp] theorem setDom_err (s : State) (d : Nat) (x : DomSt) : (setDom s d x).err = s.err := rfl
@[simp] theorem setDom_saddle (s : State) (d : Nat) (x : DomSt) : (setDom s d x).saddle = s.saddle := rfl
@[simp] theorem setDom_host (s : State) (d : Nat) (x : DomSt) : (setDom s d x).host = s.host := rfl
@[simp] theorem setDom_qe (s : State) (d : Nat) (x : DomSt) : (setDom s d x).qe = s.qe := rfl
@[simp] theorem setDom_nv (s : State) (d : Nat) (x : DomSt) : (setDom s d x).nv = s.nv := rfl
@[simp] theorem setDom_ctl (s : State) (d : Nat) (x : DomSt) : (setDom s d x).ctl = s.ctl := rfl
@[simp] theorem setDom_vault (s : State) (d : Nat) (x : DomSt) : (setDom s d x).vault = s.vault := rfl
@[simp] theorem setDom_boot (s : State) (d : Nat) (x : DomSt) : (setDom s d x).boot = s.boot := rfl
@[simp] theorem setDom_mem (s : State) (d : Nat) (x : DomSt) : (setDom s d x).mem = s.mem := rfl
@[simp] theorem setDom_hmem (s : State) (d : Nat) (x : DomSt) : (setDom s d x).hmem = s.hmem := rfl

@[simp] theorem setLadder_pending (s : State) (x : Ladder) : (setLadder s x).pending = s.pending := rfl
@[simp] theorem setLadder_free (s : State) (x : Ladder) : (setLadder s x).free = s.free := rfl
@[simp] theorem setLadder_resp (s : State) (x : Ladder) : (setLadder s x).resp = s.resp := rfl
@[simp] theorem setLadder_time (s : State) (x : Ladder) : (setLadder s x).time = s.time := rfl
@[simp] theorem setLadder_dict (s : State) (x : Ladder) : (setLadder s x).dict = s.dict := rfl
@[simp] theorem setLadder_idien (s : State) (x : Ladder) : (setLadder s x).idien = s.idien := rfl
@[simp] theorem setLadder_tens (s : State) (x : Ladder) : (setLadder s x).tens = s.tens := rfl
@[simp] theorem setLadder_mig (s : State) (x : Ladder) : (setLadder s x).mig = s.mig := rfl
@[simp] theorem setLadder_mbox (s : State) (x : Ladder) : (setLadder s x).mbox = s.mbox := rfl
@[simp] theorem setLadder_mbPend (s : State) (x : Ladder) : (setLadder s x).mbPend = s.mbPend := rfl
@[simp] theorem setLadder_epoch (s : State) (x : Ladder) : (setLadder s x).epoch = s.epoch := rfl
@[simp] theorem setLadder_east (s : State) (x : Ladder) : (setLadder s x).east = s.east := rfl
@[simp] theorem setLadder_west (s : State) (x : Ladder) : (setLadder s x).west = s.west := rfl
@[simp] theorem setLadder_err (s : State) (x : Ladder) : (setLadder s x).err = s.err := rfl
@[simp] theorem setLadder_saddle (s : State) (x : Ladder) : (setLadder s x).saddle = s.saddle := rfl
@[simp] theorem setLadder_host (s : State) (x : Ladder) : (setLadder s x).host = s.host := rfl
@[simp] theorem setLadder_qe (s : State) (x : Ladder) : (setLadder s x).qe = s.qe := rfl
@[simp] theorem setLadder_nv (s : State) (x : Ladder) : (setLadder s x).nv = s.nv := rfl
@[simp] theorem setLadder_ctl (s : State) (x : Ladder) : (setLadder s x).ctl = s.ctl := rfl
@[simp] theorem setLadder_vault (s : State) (x : Ladder) : (setLadder s x).vault = s.vault := rfl
@[simp] theorem setLadder_boot (s : State) (x : Ladder) : (setLadder s x).boot = s.boot := rfl
@[simp] theorem setLadder_mem (s : State) (x : Ladder) : (setLadder s x).mem = s.mem := rfl
@[simp] theorem setLadder_hmem (s : State) (x : Ladder) : (setLadder s x).hmem = s.hmem := rfl

@[simp] theorem setCtx_pending (s : State) (i : Nat) (q : QCtx) : (setCtx s i q).pending = s.pending := rfl
@[simp] theorem setCtx_free (s : State) (i : Nat) (q : QCtx) : (setCtx s i q).free = s.free := rfl
@[simp] theorem setCtx_resp (s : State) (i : Nat) (q : QCtx) : (setCtx s i q).resp = s.resp := rfl
@[simp] theorem setCtx_time (s : State) (i : Nat) (q : QCtx) : (setCtx s i q).time = s.time := rfl
@[simp] theorem setCtx_dict (s : State) (i : Nat) (q : QCtx) : (setCtx s i q).dict = s.dict := rfl
@[simp] theorem setCtx_idien (s : State) (i : Nat) (q : QCtx) : (setCtx s i q).idien = s.idien := rfl
@[simp] theorem setCtx_tens (s : State) (i : Nat) (q : QCtx) : (setCtx s i q).tens = s.tens := rfl
@[simp] theorem setCtx_mig (s : State) (i : Nat) (q : QCtx) : (setCtx s i q).mig = s.mig := rfl
@[simp] theorem setCtx_mbox (s : State) (i : Nat) (q : QCtx) : (setCtx s i q).mbox = s.mbox := rfl
@[simp] theorem setCtx_mbPend (s : State) (i : Nat) (q : QCtx) : (setCtx s i q).mbPend = s.mbPend := rfl
@[simp] theorem setCtx_epoch (s : State) (i : Nat) (q : QCtx) : (setCtx s i q).epoch = s.epoch := rfl
@[simp] theorem setCtx_east (s : State) (i : Nat) (q : QCtx) : (setCtx s i q).east = s.east := rfl
@[simp] theorem setCtx_west (s : State) (i : Nat) (q : QCtx) : (setCtx s i q).west = s.west := rfl
@[simp] theorem setCtx_err (s : State) (i : Nat) (q : QCtx) : (setCtx s i q).err = s.err := rfl
@[simp] theorem setCtx_saddle (s : State) (i : Nat) (q : QCtx) : (setCtx s i q).saddle = s.saddle := rfl
@[simp] theorem setCtx_host (s : State) (i : Nat) (q : QCtx) : (setCtx s i q).host = s.host := rfl
@[simp] theorem setCtx_nv (s : State) (i : Nat) (q : QCtx) : (setCtx s i q).nv = s.nv := rfl
@[simp] theorem setCtx_ctl (s : State) (i : Nat) (q : QCtx) : (setCtx s i q).ctl = s.ctl := rfl
@[simp] theorem setCtx_vault (s : State) (i : Nat) (q : QCtx) : (setCtx s i q).vault = s.vault := rfl
@[simp] theorem setCtx_boot (s : State) (i : Nat) (q : QCtx) : (setCtx s i q).boot = s.boot := rfl
@[simp] theorem setCtx_clk (s : State) (i : Nat) (q : QCtx) : (setCtx s i q).clk = s.clk := rfl
@[simp] theorem setCtx_mem (s : State) (i : Nat) (q : QCtx) : (setCtx s i q).mem = s.mem := rfl
@[simp] theorem setCtx_hmem (s : State) (i : Nat) (q : QCtx) : (setCtx s i q).hmem = s.hmem := rfl

end Sys2Proof.Machine
end

