-- ==== Sys2Proof/Laws/Tab.lean ====
section
/-! SUPPORT. Tables and memory: read after write, and the canonical form of memory. -/

namespace Sys2Proof.Machine

@[simp] theorem tget_tset_same {α : Type} (t : Tab α) (k : Nat) (v : α) : tget (tset t k v) k = some v := by
  induction t with
  | nil => simp [tset, tget]
  | cons p t ih =>
    obtain ⟨j, x⟩ := p
    simp only [tset]
    split
    · simp [tget]
    · split
      · simp [tget]
      · have : ¬ j = k := by omega
        simp [tget, this, ih]

theorem tget_tset_other {α : Type} (t : Tab α) (k i : Nat) (v : α) (h : i ≠ k) : tget (tset t k v) i = tget t i := by
  induction t with
  | nil => simp [tset, tget, Ne.symm h]
  | cons p t ih =>
    obtain ⟨j, x⟩ := p
    simp only [tset]
    split
    · simp [tget, Ne.symm h]
    · split
      · rename_i hj
        subst hj
        simp [tget, Ne.symm h]
      · simp [tget, ih]

@[simp] theorem tget_terase_same {α : Type} (t : Tab α) (k : Nat) : tget (terase t k) k = none := by
  induction t with
  | nil => rfl
  | cons p t ih =>
    obtain ⟨j, x⟩ := p
    simp only [terase]
    split
    · exact ih
    · rename_i h
      simp [tget, h, ih]

theorem tget_terase_other {α : Type} (t : Tab α) (k i : Nat) (h : i ≠ k) : tget (terase t k) i = tget t i := by
  induction t with
  | nil => rfl
  | cons p t ih =>
    obtain ⟨j, x⟩ := p
    simp only [terase]
    split
    · rename_i hj
      subst hj
      simp [tget, Ne.symm h, ih]
    · simp [tget, ih]

@[simp] theorem tgetD_tset_same {α : Type} (t : Tab α) (k : Nat) (v d : α) : tgetD (tset t k v) k d = v := by
  simp [tgetD]

theorem tgetD_tset_other {α : Type} (t : Tab α) (k i : Nat) (v d : α) (h : i ≠ k) :
    tgetD (tset t k v) i d = tgetD t i d := by
  simp [tgetD, tget_tset_other t k i v h]

@[simp] theorem tgetD_terase_same {α : Type} (t : Tab α) (k : Nat) (d : α) : tgetD (terase t k) k d = d := by
  simp [tgetD]

theorem tgetD_terase_other {α : Type} (t : Tab α) (k i : Nat) (d : α) (h : i ≠ k) :
    tgetD (terase t k) i d = tgetD t i d := by
  simp [tgetD, tget_terase_other t k i h]

@[simp] theorem memRead_memWrite_same (m : List Host.Cell) (a : Nat) (b : Byte) : memRead (memWrite m a b) a = b := by
  unfold memWrite memRead
  split
  · rename_i h
    subst h
    exact tgetD_terase_same m a _
  · exact tgetD_tset_same m a b _

theorem memRead_memWrite_other (m : List Host.Cell) (a c : Nat) (b : Byte) (h : c ≠ a) :
    memRead (memWrite m a b) c = memRead m c := by
  unfold memWrite memRead
  split
  · exact tgetD_terase_other m a c _ h
  · exact tgetD_tset_other m a c b _ h

theorem memWf_mono {lo lo' : Nat} {m : List Host.Cell} (h : memWf lo m = true) (hl : lo' ≤ lo) : memWf lo' m = true := by
  cases m with
  | nil => rfl
  | cons p t =>
    obtain ⟨a, b⟩ := p
    simp only [memWf, Bool.and_eq_true, decide_eq_true_eq] at h ⊢
    exact ⟨⟨by omega, h.1.2⟩, h.2⟩

theorem memWf_terase {lo : Nat} {m : List Host.Cell} (h : memWf lo m = true) (a : Nat) : memWf lo (terase m a) = true := by
  induction m generalizing lo with
  | nil => rfl
  | cons p t ih =>
    obtain ⟨c, x⟩ := p
    simp only [memWf, Bool.and_eq_true, decide_eq_true_eq] at h
    simp only [terase]
    split
    · exact memWf_mono (ih h.2) (by omega)
    · simp only [memWf, Bool.and_eq_true, decide_eq_true_eq]
      exact ⟨h.1, ih h.2⟩

theorem memWf_tset {lo : Nat} {m : List Host.Cell} (h : memWf lo m = true) (a : Nat) (b : Byte) (ha : lo ≤ a)
    (hb : b ≠ memDefault) : memWf lo (tset m a b) = true := by
  induction m generalizing lo with
  | nil => simp [tset, memWf, ha, hb]
  | cons p t ih =>
    obtain ⟨c, x⟩ := p
    simp only [memWf, Bool.and_eq_true, decide_eq_true_eq] at h
    simp only [tset]
    split
    · simp only [memWf, Bool.and_eq_true, decide_eq_true_eq]
      exact ⟨⟨ha, hb⟩, ⟨by omega, h.1.2⟩, h.2⟩
    · split
      · rename_i hc
        subst hc
        simp only [memWf, Bool.and_eq_true, decide_eq_true_eq]
        exact ⟨⟨ha, hb⟩, h.2⟩
      · simp only [memWf, Bool.and_eq_true, decide_eq_true_eq]
        exact ⟨h.1, ih h.2 (by omega)⟩

/-- Every memory operation keeps the canonical form. -/
theorem memWf_memWrite {m : List Host.Cell} (h : memWf 0 m = true) (a : Nat) (b : Byte) : memWf 0 (memWrite m a b) = true := by
  unfold memWrite
  split
  · exact memWf_terase h a
  · rename_i hb
    exact memWf_tset h a b (Nat.zero_le a) hb

theorem memWf_memWriteN {m : List Host.Cell} (h : memWf 0 m = true) (a : Nat) (bs : List Byte) :
    memWf 0 (memWriteN m a bs) = true := by
  induction bs generalizing m a with
  | nil => exact h
  | cons b bs ih => exact ih (memWf_memWrite h a b) (a + 1)

/-- A write of several bytes leaves every other byte alone. -/
theorem memRead_memWriteN_other (m : List Host.Cell) (a c : Nat) (bs : List Byte) (h : c < a ∨ a + bs.length ≤ c) :
    memRead (memWriteN m a bs) c = memRead m c := by
  induction bs generalizing m a with
  | nil => rfl
  | cons b bs ih =>
    simp only [List.length_cons] at h
    simp only [memWriteN]
    rw [ih _ _ (by omega), memRead_memWrite_other _ _ _ _ (by omega)]

/-- The field just replaced reads as the new value, cut to its length. -/
theorem recField_recSet (m off n v x : Nat) : recField m off n (recSet m off n v x) = x % 256 ^ n := by
  unfold recField recSet recField
  have hP : 0 < 256 ^ (m - off - n) := Nat.pow_pos (by decide)
  have hN : 0 < 256 ^ n := Nat.pow_pos (by decide)
  generalize 256 ^ (m - off - n) = p at *
  generalize 256 ^ n = k at *
  have h1 : v / p % k * p ≤ v := Nat.le_trans (Nat.mul_le_mul_right p (Nat.mod_le _ _)) (Nat.div_mul_le_self v p)
  have h2 : v - v / p % k * p = v % p + (k * (v / p / k)) * p := by
    have a := Nat.mod_add_div v p
    have b := Nat.mod_add_div (v / p) k
    have c : v / p * p = v / p % k * p + k * (v / p / k) * p := by
      conv => lhs; rw [← b]
      rw [Nat.add_mul]
    rw [Nat.mul_comm] at a
    omega
  rw [h2, Nat.add_assoc, ← Nat.add_mul, Nat.add_mul_div_right _ _ hP, Nat.div_eq_of_lt (Nat.mod_lt _ hP), Nat.zero_add,
    Nat.mul_add_mod, Nat.mod_mod]

/-- A mapped table lists the mapped values at the same numbers. -/
theorem tget_tmap {α : Type} (t : Tab α) (f : Nat → α → α) (k : Nat) : tget (tmap t f) k = (tget t k).map (f k) := by
  induction t with
  | nil => rfl
  | cons p t ih =>
    obtain ⟨j, x⟩ := p
    simp only [tmap, List.map_cons, tget] at *
    by_cases h : j = k
    · subst h; simp
    · simp [h, ih]

@[simp] theorem length_beBytes (n v : Nat) : (beBytes n v).length = n := by
  induction n generalizing v with
  | zero => rfl
  | succ n ih => simp [beBytes, ih]

@[simp] theorem length_leBytes (n v : Nat) : (leBytes n v).length = n := by simp [leBytes]

end Sys2Proof.Machine
end

