-- ==== Sys2Proof/Laws/Ops.lean ====
section
/-! SUPPORT. The shared operations: what each of them can do, said once. -/

namespace Sys2Proof.Machine

/-! ### Dictionary operations -/

/-- A request whose checks all pass has its effect and is answered with OK. -/
theorem runOp_ok (op : DictOp) (s : State) (hs : glenServes s = true) (h : op.status s = .ok) :
    runOp op s = respond (op.effect s).1 .ok 0 (op.effect s).2 := by
  simp [runOp, hs, h]

/-- A request that fails for another reason than BUSY records what a failure records, and is answered with the reason. -/
theorem runOp_fail (op : DictOp) (s : State) (hs : glenServes s = true) (h : op.status s ≠ .ok) (hb : op.status s ≠ .busy) :
    runOp op s = respond (op.onFail s (op.status s)) (op.status s) 0 [] := by
  unfold runOp
  simp only [hs, if_true]

theorem runOp_busy (op : DictOp) (s : State) (hs : glenServes s = true) (h : op.status s = .busy) :
    runOp op s = respond (op.onFail s .busy) .busy (clampRetry (op.retry s)) [] := by
  simp [runOp, hs, h]

/-- While Glen serves no request a dictionary command does nothing. -/
theorem runOp_idle (op : DictOp) (s : State) (hs : glenServes s = false) : runOp op s = s := by
  simp [runOp, hs]

theorem clampRetry_range (n : Nat) : 1 ≤ clampRetry n ∧ clampRetry n ≤ 1000 := by
  unfold clampRetry
  split
  · omega
  · split <;> omega

@[simp] theorem respond_resp (s : State) (st : Status) (r : Nat) (p : List Byte) :
    (respond s st r p).resp = { status := st, retry := r, payload := p } := rfl

/-! ### The order of R14 -/

/-- OK is answered exactly when no condition of the order applies. -/
theorem firstStatus_ok_iff (cs : List (Status × Bool)) :
    firstStatus cs = .ok ↔ ∀ st ∈ statusOrder, (cs.any (fun c => decide (c.1 = st) && c.2)) = false := by
  unfold firstStatus
  split
  · rename_i st hst
    have hm := List.mem_of_find?_eq_some hst
    have hp := List.find?_some hst
    constructor
    · intro h
      subst h
      simp [statusOrder] at hm
    · intro h
      rw [h st hm] at hp
      cases hp
  · rename_i hn
    rw [List.find?_eq_none] at hn
    simp only [true_iff]
    intro st hst
    exact eq_false_of_ne_true (hn st hst)

theorem find_congr {α : Type} {p q : α → Bool} (l : List α) (h : ∀ x ∈ l, p x = q x) : l.find? p = l.find? q := by
  induction l with
  | nil => rfl
  | cons x l ih =>
    simp only [List.find?_cons, h x List.mem_cons_self, ih (fun y hy => h y (List.mem_cons_of_mem x hy))]

/-- Conditions that do not apply do not matter. -/
theorem firstStatus_append_ok (cs ds : List (Status × Bool)) (h : firstStatus cs = .ok) :
    firstStatus (cs ++ ds) = firstStatus ds := by
  rw [firstStatus_ok_iff] at h
  have : statusOrder.find? (fun st => (cs ++ ds).any (fun c => decide (c.1 = st) && c.2))
      = statusOrder.find? (fun st => ds.any (fun c => decide (c.1 = st) && c.2)) := by
    apply find_congr
    intro st hst
    simp only [List.any_append]
    rw [h st hst, Bool.false_or]
  unfold firstStatus
  rw [this]

/-! ### Values of the dictionary -/

@[simp] theorem numD_setNum_same (s : State) (k x d : Nat) : numD (setNum s k x) k d = x := by
  simp [numD, setNum]

theorem numD_setNum_other (s : State) (k i x d : Nat) (h : i ≠ k) : numD (setNum s k x) i d = numD s i d := by
  simp [numD, setNum, tgetD_tset_other _ _ _ _ _ h]

@[simp] theorem octD_setOct_same (s : State) (k : Nat) (x : List Byte) : octD (setOct s k x) k = x := by
  simp [octD, setOct]

theorem octD_setOct_other (s : State) (k i : Nat) (x : List Byte) (h : i ≠ k) : octD (setOct s k x) i = octD s i := by
  simp [octD, setOct, tgetD_tset_other _ _ _ _ _ h]

@[simp] theorem numD_respond (s : State) (st : Status) (r : Nat) (p : List Byte) (k d : Nat) :
    numD (respond s st r p) k d = numD s k d := rfl

@[simp] theorem octD_respond (s : State) (st : Status) (r : Nat) (p : List Byte) (k : Nat) :
    octD (respond s st r p) k = octD s k := rfl

@[simp] theorem tenAt_setTen (s : State) (i : Nat) (x : Tenancy) : tenAt (setTen s i x) i = some x := by
  simp [tenAt, setTen]

@[simp] theorem tenAt_respond (s : State) (st : Status) (r : Nat) (p : List Byte) (i : Nat) :
    tenAt (respond s st r p) i = tenAt s i := rfl

/-- The generation rises by the rule of R17. -/
@[simp] theorem genOf_bumpGen (s : State) (kind i : Nat) : genOf (bumpGen s kind i) kind i = nextGen (genOf s kind i) := by
  simp [genOf, bumpGen]

/-! ### Vales -/

@[simp] theorem vale_setVale (s : State) (v : Vale) (x : ValeState) : (s.setVale v x).vale v = x := by
  cases v <;> rfl

@[simp] theorem vale_modVale (s : State) (v : Vale) (f : ValeState → ValeState) : (s.modVale v f).vale v = f (s.vale v) := by
  cases v <;> rfl

/-! ### Steps -/

/-- A step runs the command at the front of the queue on the state with the queue's rest. -/
theorem step_cons (s : State) (c : Instr) (rest : List Instr) (h : s.pending = c :: rest) :
    step s = exec c { s with pending := rest } := by
  simp [step, h]

end Sys2Proof.Machine
end

