-- ==== Sys2Proof/Laws/Host.lean ====
section
/-! SUPPORT. Vectors and mailbox answers: what they leave alone. -/

namespace Sys2Proof.Machine

/-- The emulated level and its messages are the host interface's alone. -/
theorem updateIntx_eq (s : State) (f : Nat) : updateIntx s f = { s with host := (updateIntx s f).host } := by
  unfold updateIntx
  dsimp only
  split
  · rfl
  · split
    · rfl
    · split <;> rfl

/-- Raising a vector changes the host interface alone. -/
theorem raiseVector_eq (s : State) (f vec : Nat) : raiseVector s f vec = { s with host := (raiseVector s f vec).host } := by
  unfold raiseVector
  split
  · rw [updateIntx_eq]
    rfl
  · rfl

@[simp] theorem raiseVector_idien (s : State) (f vec : Nat) : (raiseVector s f vec).idien = s.idien := by
  rw [raiseVector_eq]

@[simp] theorem raiseVector_resp (s : State) (f vec : Nat) : (raiseVector s f vec).resp = s.resp := by
  rw [raiseVector_eq]

@[simp] theorem raiseVector_mem (s : State) (f vec : Nat) : (raiseVector s f vec).mem = s.mem := by
  rw [raiseVector_eq]

@[simp] theorem raiseVector_pending (s : State) (f vec : Nat) : (raiseVector s f vec).pending = s.pending := by
  rw [raiseVector_eq]

/-- Filling the mailbox changes its registers and buffer, and signals vector 0. -/
theorem mbFill_eq (s : State) (bs : List Byte) : mbFill s bs = { s with
    idien := { s.idien with pf0 := { s.idien.pf0 with done := true, respLen := BitVec.ofNat 32 bs.length, respBuf := bs } }
    host := (mbFill s bs).host } := by
  unfold mbFill
  dsimp only
  split
  · rw [raiseVector_eq]
  · rfl

@[simp] theorem mbFill_resp (s : State) (bs : List Byte) : (mbFill s bs).resp = s.resp := by
  rw [mbFill_eq]

@[simp] theorem mbFill_sessions (s : State) (bs : List Byte) : (mbFill s bs).idien.sessions = s.idien.sessions := by
  rw [mbFill_eq]

end Sys2Proof.Machine
end

