-- ==== Sys2Proof/Machine/HostRegs.lean ====
section
/-! DEFINITION. The words that a host's reads of BAR0 and BAR4 return (R60, R287, R292, R294, R295, R307, R331, R332, R370). No row of
the table commands such a read, so these are views of the state. -/

namespace Sys2Proof.Machine

/-- The lowest pending vector of a function (R294). -/
def lowestPending (x : HostFn) : Option Nat := x.pend.foldl (fun m v => some (match m with | some a => min a v | none => v)) none

/-- A word of the function control block (R294); it stays readable in every state of the function (R295, R298). -/
def fcbWord (s : State) (f off : Nat) : Nat :=
  let x := fnOf s f
  if off = 0x000 then
    bit1 (fnHalted s f) * 2 ^ 31 + bit1 (decide (x.flr ≠ 0)) * 2 ^ 30 + bit1 x.silenced * 2 ^ 29 + fnReason s f
  else if off = 0x004 then (match lowestPending x with | some v => if f < 4 then 2 ^ 31 + v else 0 | none => 0)
  else if off = 0x00C then bit1 x.level
  else if off = 0x010 then f
  else if off = 0x014 then (fnOwner s f).toNat
  else 0

/-- A word of a function's MSI-X table (R292). -/
def msixTableWord (s : State) (f vec word : Nat) : Nat :=
  if msixSize s f ≤ vec then 0
  else
    let e := msixOf (fnOf s f) vec
    ([e.lo, e.hi, e.data, e.ctrl].getD word 0).toNat

/-- A word of a function's pending-bit array. -/
def pbaWord (s : State) (f k : Nat) : Nat :=
  (List.range 32).foldl (fun a i => a + (if (fnOf s f).pend.contains (32 * k + i) then 2 ^ i else 0)) 0

/-- A word of BAR4 (R287). -/
def bar4Word (s : State) (f off : Nat) : Nat :=
  if 0x9000 ≤ off ∧ off < 0x9018 then fcbWord s f (off - 0x9000)
  else if !fnServes s f then 0xFFFFFFFF
  else if off < 0x8000 then msixTableWord s f (off / 16) (off % 16 / 4)
  else if off < 0x8100 then pbaWord s f ((off - 0x8000) / 4)
  else 0

/-- A big-endian byte field as the little-endian word of the bytes at its offset. -/
def bytesWord (g : Nat → Byte) (off : Nat) : Nat := leNat ((List.range 4).map (fun i => g (off + i)))

/-- QE_VERSIONS and QE_VERSIONS_B (R307): the offer of the engine. -/
def qeVersions : Nat := 0x01000201
def qeVersionsB : Nat := 0x03000000

/-- A word of a function's queue-engine block (R307); doorbells read as zero. -/
def qeWord (s : State) (f off : Nat) : Nat :=
  let b := blkOf s f
  if off = 0x000 then bit1 b.go * 2 ^ 31 + bit1 b.done * 2 ^ 30 + b.opcode
  else if off = 0x004 then b.status * 2 ^ 24
  else if off = 0x008 then b.handle.toNat
  else if off = 0x00C then b.selMajor * 2 ^ 24 + b.selMinor * 2 ^ 16 + b.lq
  else if off = 0x010 then qeVersions
  else if off = 0x014 then qeVersionsB
  else if off = 0x018 then lqLimit f
  else if 0x040 ≤ off ∧ off < 0x080 then bytesWord (fun i => tgetD b.cmd i 0) (off - 0x040)
  else if 0x080 ≤ off ∧ off < 0x0C0 then bytesWord (fun i => b.result.getD i 0) (off - 0x080)
  else 0

/-- A word of the PF0 mailbox (R60). -/
def pf0MbWord (s : State) (off : Nat) : Nat :=
  let m := s.idien.pf0
  if off = 0x000 then bit1 m.go * 2 ^ 31 + bit1 m.done * 2 ^ 30 + bit1 m.overrun * 2 ^ 29 + m.reqLen
  else if off = 0x004 then m.respLen.toNat
  else if off = 0x008 then m.intrEn.toNat
  else if 0x100 ≤ off ∧ off < 0x600 then bytesWord (fun i => tgetD m.reqBuf i 0) (off - 0x100)
  else if 0x800 ≤ off ∧ off < 0xD00 then bytesWord (fun i => m.respBuf.getD i 0) (off - 0x800)
  else 0

/-- A word of the tenant view of a tenancy mailbox (R370). -/
def tenMbWord (s : State) (n f off : Nat) : Nat :=
  let m := mbOf s n
  if off = 0x020 then bit1 m.intEn * 2 ^ 31 + bit1 (decide (msixSize s f ≤ m.vector)) * 2 ^ 30 + m.vector
  else if off = 0x024 then bit1 m.peerResetTen * 2 ^ 31
  else mbWord s n off

/-- CAP of a controller (R331): MQES 4,095, CQR 1, TO 20, the NVM command set. -/
def nvCap : Nat := 4095 + 2 ^ 16 + 20 * 2 ^ 24 + 2 ^ 37

/-- A word of a controller's registers (R331); doorbells read as zero. -/
def nvWord (x : NvCtrl) (off : Nat) : Nat :=
  if off = 0x00 then nvCap % 2 ^ 32 else if off = 0x04 then nvCap / 2 ^ 32
  else if off = 0x08 then 0x00020000
  else if off = 0x0C ∨ off = 0x10 then x.intms.toNat
  else if off = 0x14 then x.cc.toNat
  else if off = 0x1C then bit1 x.rdy + 2 * bit1 x.cfs
  else if off = 0x24 then x.aqa.toNat
  else if off = 0x28 then x.asqLo.toNat else if off = 0x2C then x.asqHi.toNat
  else if off = 0x30 then x.acqLo.toNat else if off = 0x34 then x.acqHi.toNat else 0

/-- Size of BAR0 in bytes (R287, R332); BAR4 has 64 KiB. -/
def bar0Size (s : State) (f : Nat) : Nat := if f = 0 then 2 ^ 24 else if pfOf s f = 2 then 2 ^ 14 else 2 ^ 21

/-- A word of PF0's BAR0: the mailbox, the command and telemetry rings of both Vales, the queue-engine block (R60, R187, R245, R307). -/
def pf0Bar0Word (s : State) (off : Nat) : Nat :=
  if 0x00010000 ≤ off ∧ off < 0x00011000 then pf0MbWord s (off - 0x00010000)
  else if 0x00100000 ≤ off ∧ off < 0x00200000 then qeWord s 0 (off - 0x00100000)
  else if 0x00200000 ≤ off ∧ off < 0x00200200 then tcWord (tcRingOf s .east ((off - 0x00200000) / 64)) (off % 64)
  else if 0x00240000 ≤ off ∧ off < 0x00240200 then tcWord (tcRingOf s .west ((off - 0x00240000) / 64)) (off % 64)
  else if 0x00280000 ≤ off ∧ off < 0x00280018 then telemWord s.east.tm.ring (off - 0x00280000)
  else if 0x002C0000 ≤ off ∧ off < 0x002C0018 then telemWord s.west.tm.ring (off - 0x002C0000)
  else 0

/-- A word of BAR0 (R287): all-ones of a function that does not serve (R286, R295), zero where no block lies. -/
def bar0Word (s : State) (f off : Nat) : Nat :=
  if !fnServes s f then 0xFFFFFFFF
  else if f = 0 then pf0Bar0Word s off
  else if pfOf s f = 2 then
    (match nvOfFn s f with
     | some c => (match nvCtrl s c with | some x => nvWord x off | none => 0)
     | none => 0)
  else if 0x00010000 ≤ off ∧ off < 0x00011000 then
    (match mbFnTens s f with | n :: _ => tenMbWord s n f (off - 0x00010000) | [] => 0)
  else if 0x00100000 ≤ off then qeWord s f (off - 0x00100000)
  else 0

end Sys2Proof.Machine
end

