-- ==== Sys2Proof/Safety.lean ====
section
/-! DEFINITION. What counts as a run without a stop. -/

namespace Sys2Proof.Machine

/-- The outcome is a next state. -/
def isNext (o : Host.Outcome State Fault Refusal) : Bool :=
  match o with
  | .next _ => true
  | .fault _ => false
  | .refused _ => false

end Sys2Proof.Machine
end

