-- ==== Sys2Proof/Tests/Slice0.lean ====
section
/-! SUPPORT. Tests: small steps on small states, ill-formed commands, and for every statement with hypotheses a state and operands
that meet them together. -/

namespace Sys2Proof.Tests

open Sys2Proof Sys2Proof.Machine

set_option Elab.async false

/-- Glen serves; nothing else has happened. -/
def s0 : State := { State.reset with boot := { State.reset.boot with glenUp := true } }

def opr : Who := { role := .operator, bound := 0, sess := 0 }
def vlt : Who := { role := .vault, bound := 0, sess := 0 }

/-- Tenancy 0 in a state, its handle being 0x0101_0000. -/
def ten0 (t : Tenancy) : State := { s0 with tens := [(0, { t with handle := 0x01010000 })] }

/-! ### Core -/

theorem test_front : step { s0 with pending := [.tick, .goldRequest] } = exec .tick { s0 with pending := [.goldRequest] } := rfl
theorem test_queue_nonempty : ({ s0 with pending := [.tick] } : State).pending = .tick :: [] := rfl
theorem test_queue_empty : State.reset.pending = [] := by decide +kernel
theorem test_no_word : decodeTableWord 16 0x1234 = none := rfl
theorem test_first_failure : firstStatus [(.range, true), (.access, true), (.busy, true)] = .access := by decide +kernel
theorem test_first_failure_none : (∀ c ∈ [(Status.range, false)], c.1 ≠ .ok) ∧ firstStatus [(.range, false)] = .ok := by decide +kernel
theorem test_negotiate : negotiate [(2, 1), (3, 0)] [(1, 4), (2, 3)] = some (2, 1) := by decide +kernel
theorem test_negotiate_none : (∀ x ∈ [(3, 0)], x.1 ≠ 0) ∧ negotiate [(3, 0)] [(1, 4), (2, 3)] = none := by decide +kernel

/-! ### Ill-formed commands -/

def badWho : Who := { role := .operator, bound := 0x01010000, sess := 0 }

theorem test_wf_who : Instr.wf (.epochCommit badWho) = false := by decide +kernel
theorem test_wf_tenant : Instr.wf (.epochCommit { role := .tenant, bound := 0, sess := 1 }) = false := by decide +kernel
theorem test_wf_payload : payloadWf (List.replicate 1025 0) = false := by decide +kernel
theorem test_wf_source : Instr.wf (.intakeGrant .east (.host 65536)) = false := by decide +kernel
theorem test_wf_access : Instr.wf (.bar2Request 0 0 (some [1]) 2) = false := by decide +kernel
theorem test_wf_function : targetWf (.qeCtrl 1028 0) = false := by decide +kernel
theorem test_wf_aligned : Instr.wf (.registerWrite (.telem .east 2 0 false)) = false := by decide +kernel
theorem test_wf_root : Instr.wf (.keyExchange 0 .mgmt [] true) = false := by decide +kernel
theorem test_wf_doorbell : Instr.wf (.sqDb 0 4096 0) = false := by decide +kernel
theorem test_wf_training : Instr.wf (.ddrTraining [true] 64) = false := by decide +kernel
theorem test_wf_error : Instr.wf (.errorArrival { kind := .tmQueueDbe .east 32768 }) = false := by decide +kernel
theorem test_wf_tlp : Instr.wf (.hostTlpError (.correctable 32)) = false := by decide +kernel
theorem test_wf_saddle : sgWf { ours := true, func := 0, pasid := none, addr := 0, kind := .read 0 } = false := by decide +kernel
theorem test_wf_silent : Instr.wf (.teardownIsolate 0 [1, 1]) = false := by decide +kernel
theorem test_wf_nonce : Instr.wf (.challenge 0 0 []) = false := by decide +kernel
theorem test_wf_ok : Instr.wf (.epochCommit opr) = true := by decide +kernel

/-! ### Chapter 1 -/

/-- Mode P, dynamic, weights 16 and 16. -/
def crec : Rec 8 := 0x0101001000100000

/-- TENANCY_CREATE by R20: the record's fields are taken. -/
theorem test_create : (match exec (.tenancyCreate opr crec) s0 with
    | .next t => decide (tenAt t 0 = some { st := .active, mode := 1, dyn := true, shareEast := 16, shareWest := 16, handle := 0x01010000 })
    | _ => false) = true := by decide +kernel

theorem wit_tenancy_create : glenServes s0 = true ∧ (tenancyCreateOp opr crec).status s0 = .ok ∧
    ∃ i s1, allocIndex s0 1 = some (i, s1) := by
  refine ⟨by decide +kernel, by decide +kernel, _, _, rfl⟩

def sTen : State := ten0 { shareEast := 10 }

theorem wit_tenancy_others : glenServes sTen = true ∧ (tenQuotaOp opr 0x01010000 0x10 5).status sTen = .ok ∧
    (tenShareOp opr 0x01010000 .east 20).status sTen = .ok ∧ (tenAt sTen (hIdx 0x01010000)).isSome = true ∧
    (tenancyDestroyOp opr 0x01010000).status sTen = .ok ∧
    (tenResetOp opr 0x01010000 1).status (ten0 { st := .halted }) = .ok := by decide +kernel

/-- 10 static threads are reserved; 567 more are one too many (R21). -/
theorem wit_tenancy_none : glenServes sTen = true ∧ tcMode 0x0100023700000000 = 1 ∧ tcKind 0x0100023700000000 = 0 ∧
    shareBad false (tcShare 0x0100023700000000 .east) = false ∧ shareBad false (tcShare 0x0100023700000000 .west) = false ∧
    576 < staticSum sTen .east + tcShare 0x0100023700000000 .east ∧
    ¬ 576 < staticSum sTen .east + tcShare 0x0100023600000000 .east := by decide +kernel

def sDown (n : Nat) : State := ten0 { st := .destroying, step := n }

theorem wit_teardown : (∀ n ∈ [1, 3, 4, 5], tenAt (sDown n) 0 = some { st := .destroying, step := n, handle := 0x01010000 }) ∧
    fnsReset (sDown 1) 0x01010000 = true ∧ (sDown 4).epoch.st ≠ .committing ∧ (sDown 1).err.failStop = false := by decide +kernel

theorem wit_teardown_waits : tenAt { sDown 4 with epoch := { st := .committing } } 0 =
    some { st := .destroying, step := 4, handle := 0x01010000 } := by decide +kernel

theorem wit_ten_reset_complete : tenAt (ten0 { st := .halted, resetting := true }) 0 =
    some { st := .halted, resetting := true, handle := 0x01010000 } ∧
    tenResetOver (ten0 { st := .halted, resetting := true }) 0x01010000 = true := by decide +kernel

def ep (e : EpochSt) : State := { s0 with epoch := { st := e } }

/-- KEY_SEGMENT 0 of stage 0 of Vale East: word 0, bit 0, width 8. -/
def segBytes : List Byte := [0, 0, 8, 0, 0, 0, 0, 0]

theorem wit_staged : glenServes s0 = true ∧ (stagedWriteOp opr 0x3030 0 segBytes).status s0 = .ok := by decide +kernel
theorem wit_staged_op : ∃ x, stagedWriteOp opr 0x3030 0 segBytes = stagedOp opr x segBytes ∧
    (stagedOp opr x segBytes).status s0 = .ok ∧ segBytes.length = x.size ∧ x.bad (beNat segBytes) = false ∧
    firstStatus (x.checks s0 (beNat segBytes)) = .ok := ⟨_, rfl, by decide +kernel, by decide +kernel, by decide +kernel, by decide +kernel⟩
theorem wit_commit : (epochCommitOp opr).status (ep .staging) = .ok ∧ (epochDiscardOp opr).status (ep .staging) = .ok ∧
    (ep .staging).epoch.st = .staging := by decide +kernel
theorem wit_unit_ready : (ep .committing).epoch.st = .committing ∧ unitReady (ep .committing) (.tm .east) = true ∧
    .tm .east ∈ epochUnits (ep .committing) := ⟨by decide +kernel, by decide +kernel, by simp [epochUnits, epochUnitsOf]⟩
theorem wit_timeouts : (ep .committing).epoch.st = .committing ∧ (ep .retiring).epoch.st = .retiring ∧
    (ep .retiring).err.failStop = false := by decide +kernel

/-- Every port node has switched, no packet is inside, no supervisor runs. -/
def sRet : State :=
  { s0 with epoch := { st := .retiring, switched := (List.range 15) ++ (List.range 15).map (fun n => 16 + n) } }

theorem switched_ret (v : Vale) : allSwitched sRet v = true := by
  have h : ∀ n ∈ List.range 15, portSwitched sRet v n = true := by cases v <;> decide +kernel
  unfold allSwitched
  rw [List.all_eq_true]
  intro n hn
  rw [h n hn, Bool.or_true]

theorem wit_retire (v : Vale) : epochInside sRet v sRet.epoch.active = false ∧ allSwitched sRet v = true ∧ supsLeft sRet v = true := by
  refine ⟨?_, switched_ret v, ?_⟩ <;> cases v <;> decide +kernel
theorem wit_port_switch : portNodeExists (ep .retiring) .east 8 = true ∧ portSwitched (ep .retiring) .east 8 = false ∧
    epochBelow (ep .retiring) .east 8 (ep .retiring).epoch.active = false := by decide +kernel

/-! ### Chapter 2 -/

/-- An operator session of version 2.3 over MGMT. -/
def osess : Session := { role := .operator, bound := 0, transport := .mgmt, major := 2, minor := 3 }

/-- The request of the example of R50: READ of LANE_MASK, sequence 0x0017. -/
def laneBytes : List Byte := [0x02, 0x03, 0x02, 0x00, 0x00, 0x17, 0x00, 0x00, 0x00, 0x00, 0x00, 0x00, 0x10, 0x00, 0x05, 0x01, 0x00, 0x00, 0x00, 0x00]
def laneMsg : IdienMsg := parseMsg laneBytes

theorem test_header : laneMsg = { verMajor := 2, verMinor := 3, opcode := 2, flags := 0, sequence := 0x17, handle := 0, index := 0x1000, subindex := 5, count := 1, payload := [] } := by decide +kernel

/-- The response of the same example. -/
theorem test_response : respBytes (respMsg { laneMsg with } { payload := [0x0F, 0x0F] }) =
    [0x02, 0x03, 0x02, 0x80, 0x00, 0x17, 0x00, 0x00, 0x00, 0x00, 0x00, 0x00, 0x10, 0x00, 0x05, 0x01, 0x00, 0x02, 0x00, 0x00, 0x0F, 0x0F] := by decide +kernel

/-- Session 1 stands with the request `m` in queue O. -/
def sess1 (m : IdienMsg) : State :=
  { s0 with idien := { sessions := [(1, osess)], nextSession := 2, qO := [{ src := .session 1, msg := m }] } }

def msg (op : Nat) (index sub count : Nat) (p : List Byte) : IdienMsg :=
  { verMajor := 2, verMinor := 3, opcode := BitVec.ofNat 8 op, flags := 0, sequence := 7, handle := 0,
    index := BitVec.ofNat 16 index, subindex := BitVec.ofNat 8 sub, count := BitVec.ofNat 8 count, payload := p }

def req (m : IdienMsg) : Req := { src := .session 1, msg := m }

/-- READ of PART_NAME. -/
def rdName : IdienMsg := msg 2 0x1000 2 1 []
/-- WRITE of SESSION_IDLE_TIMEOUT. -/
def wrIdle : IdienMsg := msg 3 0x1101 2 1 [0, 60]

theorem wit_takes (m : IdienMsg) (n : Nat) (hn : m.opcode.toNat = n) : Takes (sess1 m) .o (req m) n :=
  ⟨rfl, rfl, ⟨[], rfl⟩, hn, rfl⟩
theorem wit_served : vendorTest (sess1 rdName) (req rdName) = false ∧ vendorTest (sess1 wrIdle) (req wrIdle) = false ∧
    (readMsgOp (takenState (sess1 rdName) .o) (req rdName)).status (takenState (sess1 rdName) .o) = .ok ∧
    (writeMsgOp (takenState (sess1 wrIdle) .o) (req wrIdle)).status (takenState (sess1 wrIdle) .o) = .ok ∧
    (readMsgOp (takenState (sess1 (msg 2 0x1000 0 1 [])) .o) (req (msg 2 0x1000 0 1 []))).status
      (takenState (sess1 (msg 2 0x1000 0 1 [])) .o) = .range ∧
    vendorTest (sess1 (msg 4 0x1000 2 1 [])) (req (msg 4 0x1000 2 1 [])) = false := by decide +kernel

/-- A read of PART_NAME answers "LN9192" (R68). -/
theorem test_read_name : (match exec (.read .o) (sess1 rdName) with
    | .next t => decide (t.resp = { payload := [0x4C, 0x4E, 0x39, 0x31, 0x39, 0x32] })
    | _ => false) = true := by decide +kernel

/-- DESCRIBE of SESSION_IDLE_TIMEOUT by R49 and R69: U16, O RW, stored, 2 bytes, default 300, 10-3600. -/
theorem test_describe : (match exec (.describe .o) (sess1 (msg 4 0x1101 2 1 [])) with
    | .next t => decide (t.resp.payload = [3, 0xC0, 1, 0, 0, 2, 0, 0, 0, 0, 0, 0, 0x01, 0x2C, 0, 0, 0, 0, 0, 0, 0, 10, 0, 0, 0, 0, 0, 0, 0x0E, 0x10])
    | _ => false) = true := by decide +kernel

/-- The example of R52: offers (2, 1) and (3, 0) select 2.1. -/
theorem test_get_version : (match exec (.getVersion .o) (sess1 (msg 1 0 0 0 [2, 1, 3, 0])) with
    | .next t => decide (t.resp.payload = [2, 1]) | _ => false) = true := by decide +kernel

theorem wit_cached : tget (sess1 rdName).idien.sessions 1 = some osess ∧ verHas osess 1 3 = true ∧
    rdName.payload.length ≤ 1024 ∧ ({ osess with cached := some (7, {}) } : Session).cached = some (rdName.sequence, {}) := by
  decide +kernel

theorem wit_queue : sourceStands (sess1 rdName) (.session 1) = true ∧ resent (sess1 rdName) (req rdName) = none ∧
    (queueAt (sess1 rdName) (queueFor (sess1 rdName) (.session 1))).length < queueCap (queueFor (sess1 rdName) (.session 1)) ∧
    outstanding (sess1 rdName) (.session 1) < 4 ∧ (sess1 rdName).idien.served < 64 := by decide +kernel

/-- Four requests of the session wait: a fifth is one too many. -/
def sFull : State := { sess1 rdName with idien := { (sess1 rdName).idien with qO := List.replicate 4 (req rdName) } }
theorem wit_queue_full : 4 ≤ outstanding sFull (.session 1) ∧ resent sFull (req rdName) = none := by decide +kernel

theorem wit_persist : ({ s0 with dict := { pending := [okey 0x1101 2] } } : State).dict.pending = [okey 0x1101 2] := rfl

def sVault : State := { s0 with vault := { up := true } }
def sConn (x : Conn) : State := { sVault with idien := { conns := [(0, x)], sessions := [(1, osess)] } }
theorem wit_spdm : spdmServes sVault = true ∧ (connOf (sConn { version := true, capabilities := true, algorithms := true }) 0).algorithms = true ∧
    (connOf (sConn { version := true, capabilities := true }) 0).capabilities = true ∧ (connOf (sConn { version := true }) 0).version = true ∧
    measAsked 0xFF ≠ none ∧ measAsked 11 = some [11] := by decide +kernel

/-- ANCHOR_O holds 48 bytes 0xA5. -/
def rootO : List Byte := List.replicate 48 0xA5
def sAnchor (x : Conn) : State := { sConn x with dict := { octs := [(okey 0x1100 1, rootO)] } }
def ready0 : Conn := { version := true, capabilities := true, algorithms := true }
theorem wit_key_exchange : roleFor (sAnchor ready0) rootO = some (.operator, 0) ∧ mayUse .operator .mctp = true ∧
    sessCount (sAnchor ready0) .operator < sessLimit .operator ∧ roleFor (sAnchor ready0) [] = none ∧
    mayUse .tenant .mctp = false ∧ (connOf (sAnchor ready0) 0).pending = none := by decide +kernel
def sFour : State := { sAnchor ready0 with idien := { (sAnchor ready0).idien with sessions := [(1, osess), (2, osess), (3, osess), (4, osess)] } }
theorem wit_key_exchange_busy : sessLimit .operator ≤ sessCount sFour .operator ∧ roleFor sFour rootO = some (.operator, 0) := by decide +kernel
theorem wit_finish : (connOf (sConn { ready0 with pending := some (.host, 0, .pf0) }) 0).pending = some (.host, 0, .pf0) := rfl
theorem wit_session : tget (sConn ready0).idien.sessions 1 = some osess ∧ spdmServes (sConn ready0) = true := by decide +kernel

def sMb (m : Pf0Mb) : State := { s0 with idien := { pf0 := m } }
theorem wit_mailbox : periphOn s0 1 = true ∧ fnServes (sMb { reqLen := 20 }) 0 = true ∧ (sMb { reqLen := 20 }).idien.pf0.reqLen = 20 ∧
    (sMb { go := true }).idien.pf0.go = true ∧ fnServes (sMb { done := true, held := [[1]] }) 0 = true ∧
    (sMb { done := true, held := [[1]] }).idien.pf0.held = [1] :: [] ∧ (sMb { done := true }).idien.pf0.held = [] := by decide +kernel

/-! ### Chapter 3 -/

/-- Vale East with a path, cores and match stages of its own. -/
def sEast (x : ValeState) : State := { s0 with east := x }
def sPath (p : Path) : State := sEast { path := p }

theorem wit_port_mode : glenServes s0 = true ∧ (portModeOp opr .east 2).status s0 = .ok := by
  refine ⟨by decide +kernel, ?_⟩
  simp only [portModeOp]
  cases Config.hx <;> decide +kernel
def sMode2 : State := { s0 with dict := { nums := [(vkey .east 0x3000 1, 2), (okey 0x2361 1, 2)] }, clk := { s0.clk with doms := [(41, {})] } }
theorem wit_link_up : portCanLink sMode2 .east 0 = true ∧ sMode2.err.failStop = false := by
  refine ⟨?_, by decide +kernel⟩
  have h : portMode sMode2 .east = 2 := by unfold portMode; cases Config.hx <;> decide +kernel
  unfold portCanLink
  rw [h]
  cases Config.hx <;> decide +kernel

def frame64 : List Byte := List.replicate 64 7
def sUp (n : Nat) : State := { sMode2 with east := { path := { linkUp := 3, basinFree := n } } }
theorem wit_frame : linkIsUp (sUp 1) .east 0 = true ∧ intakeOpen (sUp 1) .east = true ∧ valeSlow (sUp 1) .east = false ∧
    macMode (sUp 1) 0 = 0 ∧ cellsOf frame64.length ≤ ((sUp 1).vale .east).path.basinFree ∧
    ((sUp 0).vale .east).path.basinFree < cellsOf frame64.length ∧ linkIsUp (sUp 0) .east 0 = true ∧
    intakeOpen (sUp 0) .east = true ∧ valeSlow (sUp 0) .east = false ∧ linkIsUp (sUp 1) .east 1 = true ∧ macMode (sUp 1) 1 ≠ 0 := by
  decide +kernel

/-- Packet 5 of Vale East. -/
def sPkt (p : Packet) : State := sPath { packets := [(5, p)], nextPkt := 6, arrival := [5], narrows := [5] }
theorem wit_bytes : pktAt (sPkt { tail := false }) .east 5 = some { tail := false } ∧
    cellsOf 64 - 0 ≤ ((sPkt { tail := false }).vale .east).path.basinFree ∧
    pktAt (sPkt { loc := .mac }) .east 5 = some { loc := .mac } ∧ valeSlow (sPkt { tail := false }) .east = false ∧
    pktAt (sPkt { tail := false, loc := .thread }) .east 5 = some { tail := false, loc := .thread } := by decide +kernel

/-- Ring 1152 presents a frame of 14 bytes: the length stands at the slot's first two bytes. -/
def sInj (x : SRing) : State := { s0 with ctl := { rings := [(1152, x)] }, mem := [(1, 14)] }
def sGrant : State := { sInj { en := true, prod := 1, presented := true } with east := { path := { nwPps := 1000, nwBytes := 1000 } } }
theorem wit_intake : intakeOpen sGrant .east = true ∧ valeSlow sGrant .east = false ∧ 0 < (sGrant.vale .east).path.nwPps ∧
    0 < (sGrant.vale .east).path.nwBytes ∧ numD sGrant (vkey .east 0x3002 6) 16384 ≤ (sGrant.vale .east).path.basinFree := by
  decide +kernel
theorem wit_intake_start : ∃ c n s1 left, nwStart sGrant .east (.steppe 0) = some (c, n, s1) ∧
    wrrServe (sGrant.vale .east).path.nwLeft (nwWeight sGrant .east) (nwWaiting sGrant .east) c = some left :=
  ⟨_, _, _, _, rfl, rfl⟩

def pkReady : Packet := { bytes := frame64, token := some 0, cells := 1 }
def sDist : State := sEast { path := { packets := [(5, pkReady)], nextPkt := 6, arrival := [5] }, col := { held := false } }
theorem wit_distribute : (sDist.vale .east).col.held = false ∧ sDist.err.failStop = false ∧
    poolHead sDist .east .operator = some 5 ∧ nextOffer (sDist.vale .east).col = some (0, 0, 1) ∧
    pktAt sDist .east 5 = some pkReady ∧ poolHasThread sDist .east .operator = true ∧
    packetBank sDist .east pkReady.epoch 0 = some false := by decide +kernel

/-- Thread 1 of core 0 of Vale East. -/
def th1 : Thr := { v := .east, core := 0, t := 1 }
def th0 : Thr := { v := .east, core := 0, t := 0 }
def sThr (x : Thread) : State := sEast { col := { held := false, cores := [(0, { st := .active, slot := some 0, threads := [(1, x)] })] } }
def sHeld (x : Thread) (p : Packet) : State :=
  sEast { path := { packets := [(5, p)], nextPkt := 6, narrows := [5] },
          col := { held := false, cores := [(0, { st := .active, slot := some 0, threads := [(1, { x with pkt := some 5 })] })] } }

theorem wit_waits : (thrAt (sThr { st := .waitHeader }) th1).st = .waitHeader ∧ (thrAt (sThr { st := .waitTable }) th1).st = .waitTable ∧
    valeSlow (sThr { st := .waitTable }) .east = false ∧
    tlkResult (sThr { st := .waitTable }) .east (thrAt (sThr { st := .waitTable }) th1).wait.part (thrAt (sThr { st := .waitTable }) th1).wait.key = none := by
  decide +kernel

/-- A small exact partition of keys of 16 bits that holds key 9. -/
def partE : Partition := { memory := 0, kind := 4, flags := 0, keyWidth := 16, owner := 0, capacity := 512, seed := 0, secret := 0, units := [0], slots := [(9, { key := 9, result := 0x100000002 })] }
def sTlk : State := sEast { table := { parts := [(3, partE)] }, col := { held := false, cores := [(0, { st := .active, slot := some 0, threads := [(1, { st := .waitTable, wait := { part := 3, key := 9 } })] })] } }
theorem wit_table_result : (thrAt sTlk th1).st = .waitTable ∧
    tlkResult sTlk .east (thrAt sTlk th1).wait.part (thrAt sTlk th1).wait.key = some 0x100000002 := by decide +kernel

theorem wit_watchdog : coreOfPkt (sHeld { st := .running } {}) .east 5 = some 0 ∧
    (familyOf (coreAt (sHeld { st := .running } {}) .east 0) 5).find?
      (fun u => decide ((threadOf (coreAt (sHeld { st := .running } {}) .east 0) u).parent = none)) = some 1 ∧
    (threadOf (coreAt (sHeld { st := .running } {}) .east 0) 1).st ≠ .releasing ∧ valeSlow (sHeld { st := .running } {}) .east = false ∧
    (thrAt (sThr { sb := [{ toRec := false, addr := 3, val := 5 }] }) th1).sb = { toRec := false, addr := 3, val := 5 } :: [] := by decide +kernel

def sRel : State := sHeld { st := .releasing } { loc := .thread }
/-- Packet 4 of the same source is older. -/
def sRelNot : State := { sRel with east := { sRel.east with path := { sRel.east.path with packets := [(4, {}), (5, { loc := .thread })], narrows := [4, 5] } } }
theorem wit_release : (thrAt sRel th1).st = .releasing ∧ (thrAt sRel th1).pkt = some 5 ∧ oldestOfChain sRel .east 5 = true ∧
    (thrAt sRelNot th1).st = .releasing ∧ (thrAt sRelNot th1).pkt = some 5 ∧ oldestOfChain sRelNot .east 5 = false ∧
    relbufUse sRelNot .east < 1024 := by decide +kernel
def staleRec : Packet := { loc := .relbuf, words := [(1, 0x01000000)] }
theorem wit_direct : oldestOfChain sRel .east 5 = true ∧ releasingThr sRel .east 5 = some th1 ∧ sRel.err.failStop = false ∧
    (sRel.vale .east).path.outOfService = false ∧ pktAt sRel .east 5 = some { loc := .thread } ∧
    tenFresh sRel (pktTen { loc := .thread }) = true ∧
    (thrAt (sHeld { st := .releasing } { loc := .thread, discarded := true }) th1).pkt = some 5 ∧
    pktAt (sHeld { st := .releasing } { loc := .thread, discarded := true }) .east 5 = some { loc := .thread, discarded := true } := by decide +kernel
theorem wit_forward : forwardNext (sPkt { loc := .relbuf }) .east = some 5 ∧ pktAt (sPkt { loc := .relbuf }) .east 5 = some { loc := .relbuf } ∧
    forwardNext (forwardOne (sPkt { loc := .relbuf }) .east) .east = none ∧ releasingThr (sPkt { loc := .relbuf }) .east 5 = none ∧
    forwardNext (forwardOne (sPkt staleRec) .east) .east = none ∧
    tenFresh (sPkt { loc := .relbuf }) (pktTen { loc := .relbuf }) = true ∧ tenFresh (sPkt staleRec) (pktTen staleRec) = false ∧
    forwardNext (sPkt staleRec) .east = some 5 ∧ pktAt (sPkt staleRec) .east 5 = some staleRec ∧
    (sPkt staleRec).err.failStop = false ∧ ((sPkt staleRec).vale .east).path.outOfService = false := by decide +kernel

def sInj1 : State := sInj { en := true, prod := 1 }
theorem wit_injection : (sringOf sInj1 1152).en = true ∧ sringHeld (sringOf sInj1 1152) ≠ 0 ∧ (sringOf sInj1 1152).presented = false ∧
    14 ≤ (injEntry sInj1 (sringOf sInj1 1152)).1 ∧ (injEntry sInj1 (sringOf sInj1 1152)).1 ≤ 15996 ∧
    16 + (injEntry sInj1 (sringOf sInj1 1152)).1 ≤ sringSlotBytes (sringOf sInj1 1152) ∧
    tenFresh sInj1 (injEntry sInj1 (sringOf sInj1 1152)).2 = true := by decide +kernel

/-- Packet 5 waits before the punt ring; the operator's ring has room. -/
def sPunt (p : Packet) : State := { sPkt { p with loc := .punt } with ctl := { rings := [(256, { en := true, log2 := 4 })] } }
def wordStale : Packet := { words := [(1, 0x01000000)] }
theorem wit_punt : oldestAt (sPunt {}) .east .punt = some 5 ∧ pktAt (sPunt {}) .east 5 = some { loc := .punt } ∧
    pktTen ({ loc := .punt } : Packet) = 0 ∧ 1000000 ≤ tgetD ((sPunt {}).vale .east).stage.puntTokens 256 256000000 ∧
    sringFull (sringOf (sPunt {}) (valeNum .east * 257 + 256)) = false ∧ (sPunt {}).err.failStop = false ∧
    oldestAt (sPunt { bad := true }) .east .punt = some 5 ∧ oldestAt (sPunt { discarded := true }) .east .punt = some 5 ∧
    tenFresh (sPunt wordStale) (pktTen wordStale) = false ∧ oldestAt (sPunt wordStale) .east .punt = some 5 := by decide +kernel

/-! ### Chapters 4 and 5 -/

def sIss (x : Thread) : State := sHeld { x with st := .running } { bytes := frame64, loc := .thread }
/-- The state with the instruction's word at address 0 of core 0 of Vale East. -/
def sWord (s : State) (w : Word36) : State :=
  modCore s .east 0 (fun c => { c with bank0 := some { c.bank0.getD {} with code := [(0, w)] } })
def sAt (s : State) (i : Instr) : State := sWord s ((colWord i).getD (th1, 0)).2
/-- Words written out from the spec: the three of R131, an ADD with A = 1, B = 2, C = 3 (R135), RELEASE of a drop and NOP. -/
theorem test_words : colInstr th1 0o200404000014 = .ldh th1 1 0 4 12 ∧ colInstr th1 0o132000016066 = .lui th1 4 0o016066 ∧
    colInstr th1 0o443160000040 = .tlk th1 6 7 0 32 ∧ colInstr th1 0b000001000100100011000000000000000000 = .add th1 1 2 3 ∧
    colInstr th1 0b100010000000000000000000000000000001 = .release th1 1 ∧
    colInstr th1 0b110001000000000000000000000000000000 = .nop th1 := by decide +kernel
theorem test_word_back : colWord (.tlk th1 6 7 0 32) = some (th1, 0o443160000040) ∧ colWord (.lui th1 4 0o016066) = some (th1, 0o132000016066) := by
  decide +kernel
theorem wit_issue_registers : ∀ i ∈ [Instr.add th1 1 2 3, .sub th1 1 2 3, .and_ th1 1 2 3, .or_ th1 1 2 3, .xor th1 1 2 3, .shl th1 1 2 3,
    .shr th1 1 2 3, .sar th1 1 2 3, .minu th1 1 2 3, .maxu th1 1 2 3, .cmp th1 2 3, .tst th1 2 3, .mul th1 1 2 3, .mov th1 1 2,
    .pack th1 1 2, .unpk th1 1 2, .crc th1 1 2 3, .addi th1 1 2 3, .andi th1 1 2 3, .ori th1 1 2 3, .xori th1 1 2 3, .shli th1 1 2 3,
    .shri th1 1 2 3, .sari th1 1 2 3, .cmpi th1 2 3, .mvi th1 1 3, .lui th1 1 3, .ext th1 1 2 0x44, .ins th1 1 2 0x44, .ext th1 1 2 0x64,
    .ins th1 1 2 0x40, .tsti th1 2 3, .br th1 0 5, .cbeq th1 1 2 5, .cbne th1 1 2 5, .call th1 1 5, .jr th1 1, .jtab th1 1 2 5, .nop th1],
    CanIssue th1 i (sAt (sIss {}) i) := by unfold CanIssue; decide +kernel
theorem wit_issue_memory : ∀ i ∈ [Instr.ldh th1 1 0 12 60, .prb th1 1 0 12 60, .ldh th1 1 0 12 61, .ldh th1 1 0 4 511, .prb th1 1 0 4 511,
    .ldr th1 1 0 63, .str th1 1 0 63, .rbs th1 0x0FE3, .rbc th1 0x0FE3, .ldd th1 1 0 12 8191, .std th1 1 0 12 8191, .xadd th1 1 0 2 8191,
    .fence th1], CanIssue th1 i (sAt (sIss {}) i) ∧ th1.t.val ≠ 0 := by unfold CanIssue; decide +kernel
theorem wit_field : (0x0044#18).toNat % 64 ≠ 0 ∧ (0x0044#18).toNat / 64 % 64 + (0x0044#18).toNat % 64 ≤ 36 ∧
    (0x0040#18).toNat % 64 = 0 ∧ 36 < (0x0064#18).toNat / 64 % 64 + (0x0064#18).toNat % 64 := by decide +kernel

/-- Registers with r[1] = x. -/
def rg (x : Word36) : Vector Word36 16 := (Vector.replicate 16 0).set 1 x
/-- Header loads at offset 60, at the last byte, past the end of the frame, and beyond offset 511. -/
theorem wit_header : nonetCond (pktOf (sIss {}) th1) 63 = .present 7 ∧ nonetCond (pktOf (sIss {}) th1) 64 = .ended ∧
    nonetCond (pktOf (sHeld { st := .running } { tail := false }) th1) 0 = .pending ∧
    (getR (thrAt (sIss {}) th1) 0).toNat + 511 + 1 ≤ 512 ∧ 512 < (getR (thrAt (sIss {}) th1) 0).toNat + 511 + 2 := by decide +kernel

theorem wit_record : (getR (thrAt (sIss { regs := rg 63 }) th1) 1).toNat + 0 ≤ 63 ∧ recNotOwned (sIss { regs := rg 63 }) th1 63 = false ∧
    (thrAt (sIss {}) th1).sb.length < 4 ∧ (0x0FE3#18).toNat % 64 ≤ 35 ∧ recNotOwned (sIss {}) th1 ((0x0FE3#18).toNat / 64 % 64) = false ∧
    (thrAt (sThr { sb := [] ++ [{ toRec := true, addr := 5, val := 9 }] }) th1).sb = [] ++ [{ toRec := true, addr := 5, val := 9 }] := by
  decide +kernel
theorem wit_data : (12#4).toNat / 4 + (12#4).toNat % 4 ≤ 3 ∧ (getR (thrAt (sIss { regs := rg 8191 }) th1) 1).toNat + 0 ≤ 8191 ∧
    (thrAt (sIss { regs := rg 8191 }) th1).sb = [] := by decide +kernel

def sFork : State := sAt (sIss { regs := rg 48 }) (.fork th1 2 1 15 5)
theorem wit_fork : CanIssue th1 (.fork th1 2 1 15 5) sFork ∧ isChild sFork th1 = false ∧ 16 ≤ (getR (thrAt sFork th1) 1).toNat ∧
    (getR (thrAt sFork th1) 1).toNat + 15 + 1 ≤ 64 ∧ grantOverlaps sFork th1 48 16 = false ∧ (thrAt sFork th1).sb = [] ∧
    (childrenOf (coreAt sFork .east 0) 1).length < 3 ∧ forkHasShare sFork th1 = true ∧
    findFreeThread (coreAt sFork .east 0) = some 2 := by unfold CanIssue; decide +kernel
/-- Thread 1 has three children, each granted one word. -/
def kid (g : Nat) : Thread := { st := .running, pkt := some 5, parent := some 1, grant := some (g, 1) }
def kids : Tab Thread := [(1, { st := .running, regs := rg 48, pkt := some 5 }), (2, kid 16), (3, kid 17), (4, kid 18)]
def sKids : State := { sFork with east := { sFork.east with col := { held := false, cores := [(0, { st := .active, slot := some 0, threads := kids, bank0 := some { code := [(0, 0o400000000000 + 0o2 * 2 ^ 26 + 2 ^ 22 + 15 * 2 ^ 18)] } })] } } }
def th2 : Thr := { v := .east, core := 0, t := 2 }
theorem wit_fork_none : CanIssue th1 (.fork th1 2 1 15 0) sKids ∧ CanIssue th1 (.join th1) (sAt sKids (.join th1)) ∧
    CanIssue th1 (.release th1 0) (sAt sKids (.release th1 0)) ∧ isChild sKids th1 = false ∧ 16 ≤ (getR (thrAt sKids th1) 1).toNat ∧
    (getR (thrAt sKids th1) 1).toNat + 15 + 1 ≤ 64 ∧ grantOverlaps sKids th1 48 16 = false ∧ (thrAt sKids th1).sb = [] ∧
    3 ≤ (childrenOf (coreAt sKids .east 0) 1).length ∧ childrenOf (coreAt sKids .east 0) 1 ≠ [] := by unfold CanIssue; decide +kernel
theorem wit_join : CanIssue th1 (.join th1) (sAt sFork (.join th1)) ∧ CanIssue th1 (.release th1 1) (sAt sFork (.release th1 1)) ∧ isChild sFork th1 = false ∧ childrenOf (coreAt sFork .east 0) 1 = [] := by unfold CanIssue; decide +kernel
theorem wit_end : CanIssue th2 (.end_ th2) (sAt sKids (.end_ th2)) ∧ th2.t.val ≠ 0 ∧ (thrAt sKids th2).parent = some 1 := by unfold CanIssue; decide +kernel
theorem wit_do_release : (thrAt sFork th1).sb = [] ∧ (thrAt sFork th1).pkt = some 5 ∧
    pktAt sFork .east 5 = some { bytes := frame64, loc := .thread } ∧ tenFresh sFork (pktTen { bytes := frame64, loc := .thread }) = true ∧
    recBits { bytes := frame64, loc := .thread } 5 35 1 ≠ 1 := by decide +kernel
def sTlk0 : State := { sIss { regs := rg 16 } with east := { (sIss { regs := rg 16 }).east with table := { parts := [(3, { partE with flags := 1 })] } } }
def sTlk1 : State := sAt sTlk0 (.tlk th1 4 1 0 3)
theorem wit_tlk : CanIssue th1 (.tlk th1 4 1 0 3) sTlk1 ∧ (4#4).toNat % 2 = 0 ∧ (getR (thrAt sTlk1 th1) 1).toNat + (0#4).toNat % 4 ≤ 63 ∧
    partAt sTlk1 .east ((3#18).toNat % 1024) = some { partE with flags := 1 } ∧ ({ partE with flags := 1 } : Partition).flags % 2 = 1 ∧
    32 * ((0#4).toNat % 4 + 1) = (partE.keyWidth + 31) / 32 * 32 := by unfold CanIssue; decide +kernel

theorem wit_illegal : CanIssue th1 (.illegal th1 0) (sWord (sIss {}) 0) ∧ (thrAt (sWord (sIss {}) 0) th1).pkt = some 5 ∧
    undefinedEncoding 0 ∧ undefinedEncoding 0o770000000000 ∧ undefinedEncoding 0o010000000021 ∧ ¬ undefinedEncoding 0o010000000020 ∧
    (thrAt (sWord (sIss {}) 0) th1).pc < 16384 ∧ colInstr th1 (fetched (sWord (sIss {}) 0) th1) ≠ .nop th1 := by
  unfold CanIssue undefinedEncoding; decide +kernel
theorem wit_imem : (thrAt (sThr { st := .running, pc := 16384 }) th1).st = .running ∧ ladderRuns (sThr { st := .running, pc := 16384 }) = true ∧
    16384 ≤ (thrAt (sThr { st := .running, pc := 16384 }) th1).pc ∧ (FaultCode.parity, true) ∉ [(FaultCode.illegal, true)] := by decide +kernel
theorem wit_first_fault : CanIssue th1 (.illegal th1 0) (sWord (sIss {}) 0) ∧ (FaultCode.supOnly, true) ∈ [(FaultCode.illegal, true), (.supOnly, true)] ∧
    (∀ g ∈ [FaultCode.illegal, .supOnly], faultOrder.idxOf .illegal ≤ faultOrder.idxOf g) ∧ FaultCode.illegal ∈ faultOrder := by unfold CanIssue; decide +kernel

/-- The supervisor of core 0 of Vale East runs. -/
def sSup (c : Core) : State := sEast { col := { held := false, cores := [(0, { c with st := .active, slot := some 0, threads := [(0, { st := .running, regs := rg 7 })] })] } }
def noteA : List Word36 := [1, 2, 3, 4]
theorem wit_issue_supervisor : (∀ i ∈ [Instr.mfc th0 1 0x24, .mtc th0 1 0x24, .mtc th0 1 0, .wait th0, .npop th0 4, .ldim th0 1 0 16383, .stim th0 1 0 16383,
    .synci th0], CanIssue th0 i (sAt (sSup {}) i)) ∧ CanIssue th0 (.npop th0 4) (sAt (sSup { notes := [noteA] }) (.npop th0 4)) ∧
    CanIssue th0 (.synci th0) (sAt (sSup { stimQ := [{ bank := false, addr := 3, val := 5 }] }) (.synci th0)) ∧
    (∀ i ∈ [Instr.mfc th1 1 0, .mtc th1 1 0, .wait th1, .npop th1 1, .ldim th1 1 0 0, .stim th1 1 0 0, .synci th1],
      CanIssue th1 i (sAt (sIss {}) i)) := by unfold CanIssue; decide +kernel
theorem wit_supervisor : th0.t.val = 0 ∧ ctlExists 0x24 = true ∧ ctlExists 0 = true ∧
    ctlWrite (coreAt (sSup {}) .east 0) 0 0 = none ∧ bitsOf (getR (thrAt (sSup {}) th0) 1).toNat 0 32 ≠ 0 ∧
    (4#4).toNat % 4 = 0 ∧ (coreAt (sSup {}) .east 0).notes = [] ∧ (coreAt (sSup { notes := [noteA] }) .east 0).notes = [1, 2, 3, 4] :: [] ∧
    (getR (thrAt (sSup {}) th0) 1).toNat + 16376 ≤ 16383 ∧ (coreAt (sSup {}) .east 0).stimQ.length < 8 ∧
    (coreAt (sSup { stimQ := [{ bank := false, addr := 3, val := 5 }] }) .east 0).stimQ = [{ bank := false, addr := 3, val := 5 }] := by
  decide +kernel

/-- Timer 0 and detector 0 feed slot 2, whose vector is 0x40. -/
def evCore : Core :=
  { timers := [(0, { period := 10, en := true, slot := 2 })], eds := [(0, { en := true, edge := 1, slot := 2 })],
    bank0 := some { vectors := [0xFFFF, 0xFFFF, 0x40] } }
def sEv (c : Core) (st : ThSt) : State :=
  sEast { col := { held := false, cores := [(0, { c with st := .active, slot := some 0, threads := [(0, { st := st })] })] } }
theorem wit_events : coreRuns (sEv evCore .waiting) .east 0 = true ∧ (timerOf (coreAt (sEv evCore .waiting) .east 0) 0).en = true ∧
    (coreAt (sEv evCore .waiting) .east 0).latchTmr.getLsbD 0 = false ∧
    (coreAt (sEv { evCore with latchTmr := 1, latchEd := 1 } .waiting) .east 0).latchTmr.getLsbD 0 = true ∧
    edgeSelected (edOf (coreAt (sEv evCore .waiting) .east 0) 0) true = true ∧
    (coreAt (sEv evCore .waiting) .east 0).latchEd.getLsbD 0 = false ∧
    (coreAt (sEv { evCore with latchTmr := 1, latchEd := 1 } .waiting) .east 0).latchEd.getLsbD 0 = true ∧
    dueSlot (coreAt (sEv { evCore with latchTmr := 1 } .waiting) .east 0) = some 2 ∧
    (threadOf (coreAt (sEv { evCore with latchTmr := 1 } .waiting) .east 0) 0).st = .waiting ∧
    (threadOf (coreAt (sEv evCore .running) .east 0) 0).st = .running := by decide +kernel

def sCol (x : ColState) : State := sEast { col := x }
theorem wit_col_test : glenServes s0 = true ∧ (colTestOp opr .east 96).status s0 = .ok ∧ (coreAt s0 .east 96).st = .spare ∧
    ((sCol { testSt := 1, testCore := 5 }).vale .east).col.testSt = 1 ∧ coreDrained (coreAt (sCol { testSt := 1, testCore := 5 }) .east 5) = true ∧
    ((sCol { testSt := 2, testCore := 5 }).vale .east).col.testSt = 2 ∧
    (coreAt (sCol { cores := [(97, { st := .spare, substFor := some 3 })] }) .east 97).substFor = some 3 := by decide +kernel

/-- A program image of one word, SYS 0, with its CRC-32C; in memory at the start of HBM. -/
def imgBytes : List Byte :=
  [0x43, 0x4F, 0x4C, 0x50, 1, 0, 0, 0, 0, 0, 0, 1, 0, 1, 0, 0, 0, 0, 0, 0, 0x5E, 0x54, 0x69, 0x4C] ++ List.replicate 8 0 ++
    List.replicate 32 0xFF ++ List.replicate 40 0 ++ [0, 0, 0, 0, 0x40, 0, 0, 0]
def sImg : State := { s0 with mem := (imgBytes.zipIdx.filter (fun x => decide (x.1 ≠ 0))).map (fun x => (hbmBase 0 + x.2, x.1)), east := { col := { held := false } } }
/-- The record of COL_PROGRAM: address and length. -/
def imgRec : Rec 12 := BitVec.ofNat 96 (hbmBase 0 * 2 ^ 32 + 112)
def crcParts : List (List Byte) :=
  [[0x43, 0x4F, 0x4C, 0x50, 1, 0, 0, 0, 0, 0, 0, 1, 0, 1, 0, 0], List.replicate 16 0, List.replicate 16 0xFF, List.replicate 16 0xFF, List.replicate 16 0, List.replicate 16 0, [0, 0, 0, 0, 0, 0, 0, 0, 0, 0, 0, 0, 0x40, 0, 0, 0]]
theorem crc_parts : imgBytes.take 20 ++ [0, 0, 0, 0] ++ imgBytes.drop 24 = crcParts.flatten := by decide +kernel
theorem crc_img : crc32c (imgBytes.take 20 ++ [0, 0, 0, 0] ++ imgBytes.drop 24) = 0x5E54694C := by
  have h0 : crcBytes 0xffffffff#32 ([0x43, 0x4F, 0x4C, 0x50, 1, 0, 0, 0, 0, 0, 0, 1, 0, 1, 0, 0]) = 0x702909ed#32 := by decide +kernel
  have h1 : crcBytes 0x702909ed#32 (List.replicate 16 0) = 0x7f1404a5#32 := by decide +kernel
  have h2 : crcBytes 0x7f1404a5#32 (List.replicate 16 0xFF) = 0x8002750b#32 := by decide +kernel
  have h3 : crcBytes 0x8002750b#32 (List.replicate 16 0xFF) = 0x41d1623d#32 := by decide +kernel
  have h4 : crcBytes 0x41d1623d#32 (List.replicate 16 0) = 0xfb117a21#32 := by decide +kernel
  have h5 : crcBytes 0xfb117a21#32 (List.replicate 16 0) = 0xdc9bf85e#32 := by decide +kernel
  have h6 : crcBytes 0xdc9bf85e#32 ([0, 0, 0, 0, 0, 0, 0, 0, 0, 0, 0, 0, 0x40, 0, 0, 0]) = 0xa1ab96b3#32 := by decide +kernel
  rw [crc_parts]
  simp only [crc32c, crcParts, List.flatten_cons, List.flatten_nil, List.append_nil, crcBytes, List.foldl_append] at *
  rw [h0, h1, h2, h3, h4, h5, h6]
  decide +kernel
theorem wit_image : imageCheck imgBytes = none := by
  unfold imageCheck
  rw [crc_img]
  decide +kernel
theorem img_read : memReadN sImg.mem (recField 12 0 8 imgRec.toNat) (recField 12 8 4 imgRec.toNat) = imgBytes := by decide +kernel
theorem wit_col_program : glenServes sImg = true ∧ (colProgramOp opr .east imgRec).status sImg = .ok ∧ (sImg.vale .east).col.held = false := by
  have h : progFailure sImg imgRec = none := by
    unfold progFailure
    dsimp only
    rw [img_read, wit_image]
    decide +kernel
  refine ⟨by decide +kernel, ?_, by decide +kernel⟩
  simp only [colProgramOp, h]
  decide +kernel
theorem wit_program : ((sCol { held := false, loading := true, staged := some {} }).vale .east).col.loading = true ∧
    ((sCol { held := false, loading := true, staged := some {} }).vale .east).col.staged = some {} ∧
    (condQueueOp opr .east 0 0).status s0 = .ok := by decide +kernel

/-! ### Chapters 6 and 7 -/

/-- Packet 5 of Vale East in the match stages; partition 3 of the operator. -/
def sStage (p : Packet) (def_ : Nat) : State :=
  { sEast { path := { packets := [(5, p)], nextPkt := 6 }, stage := { order := [5] }, table := { parts := [(3, partE)] } } with
    dict := { nums := [(stageDefKey .east 0, def_)], owners := [(0x18 * 65536 + 3, 0)] } }
/-- Kind 4, key width 16, partition 0x18010003. -/
def def4 : Nat := 0x0400010000100000180100030000000000000000
def pk0 : Packet := { loc := .stage 0 }
def pkStale : Packet := { loc := .stage 0, words := [(1, 0x01000000)] }
def pkNext : Packet := { loc := .stage 0, words := [(13, 0x500000000)] }
theorem wit_stage_head : stageHead (sStage pk0 0) .east 0 = some 5 ∧ pktAt (sStage pk0 0) .east 5 = some pk0 ∧
    stageHolds (sStage pk0 0) .east 0 pk0 = false ∧ tenFresh (sStage pk0 0) (pktTen pk0) = true ∧ recBits pk0 13 32 4 = 0 ∧
    (stageDef (sStage pk0 0) .east 0 pk0.epoch).kind = 0 ∧ (stageDef (sStage pk0 def4) .east 0 pk0.epoch).kind ≠ 0 ∧
    tenFresh (sStage pkStale 0) (pktTen pkStale) = false ∧ stageHead (sStage pkStale 0) .east 0 = some 5 ∧
    stageHead (sStage pkNext 0) .east 0 = some 5 ∧ recBits pkNext 13 32 4 ≠ 0 := by decide +kernel
def pkExt : Packet := { loc := .extWait 0 }
theorem wit_ext : extWaiting (sStage pkExt def4) .east 0 = some 5 ∧ pktAt (sStage pkExt def4) .east 5 = some pkExt ∧
    partFits (sStage pkExt def4) .east (stageDef (sStage pkExt def4) .east 0 pkExt.epoch)
      (choosePart (sStage pkExt def4) .east 0 (stageDef (sStage pkExt def4) .east 0 pkExt.epoch) pkExt) = true ∧
    partAt (sStage pkExt def4) .east (hIdx (choosePart (sStage pkExt def4) .east 0 (stageDef (sStage pkExt def4) .east 0 pkExt.epoch) pkExt)) = some partE ∧
    valeSlow (sStage pkExt def4) .east = false := by decide +kernel

/-- A record with queue, shaper-set, group and mirror words; queue 2 and group 4 of East are live. -/
def pkExit (q f g : Word36) : Packet := { loc := .stage 11, words := [(8, q), (9, f), (10, g)] }
def sExit (p : Packet) : State := { sStage p 0 with dict := { owners := [(0x10 * 65536 + 2, 0), (0x12 * 65536 + 6, 0), (0x16 * 65536 + 4, 0)] } }
theorem wit_exit : (∀ p ∈ [pkExit 0 0 0, pkExit 0x10010002 0x12010007 0, pkExit 0x10010002 0x12010006 0x16010005, pkExit 0x10010002 0x12010006 0x16010004],
      pktAt (sExit p) .east 5 = some p ∧ tenFresh (sExit p) (pktTen p) = true) ∧
    queueValid (sExit (pkExit 0 0 0)) (recHandle (pkExit 0 0 0) 8) 0 = false ∧ recHandle (pkExit 0 0 0) 10 = 0 ∧
    queueValid (sExit (pkExit 0x10010002 0 0)) (recHandle (pkExit 0x10010002 0 0) 8) 0 = true ∧
    objValid (sExit pk0) (recHandle (pkExit 0x10010002 0x12010007 0) 9) (0x12 + valeNum .east) 0 = false ∧
    objValid (sExit pk0) (recHandle (pkExit 0x10010002 0x12010006 0) 9) (0x12 + valeNum .east) 0 = true ∧
    objValid (sExit pk0) (recHandle (pkExit 0 0 0x16010005) 10) (0x16 + valeNum .east) 0 = false ∧
    objValid (sExit pk0) (recHandle (pkExit 0 0 0x16010004) 10) (0x16 + valeNum .east) 0 = true ∧
    recBits (pkExit 0 0 0) 11 35 1 ≠ 1 ∧ tenFresh (sExit pkStale) (pktTen pkStale) = false := by decide +kernel
theorem wit_part_map : glenServes (sStage pk0 def4) = true ∧ (partMapOp opr .east 0 0 0).status (sStage pk0 def4) = .ok ∧
    (stageDefOp opr .east 0 (BitVec.ofNat 160 def4)).status (sStage pk0 def4) = .ok := by decide +kernel

/-- A range partition of 64 entries: memory 6, kind 5, width 16, capacity 64. -/
def pcRec : Rec 24 := BitVec.ofNat 192 (beNat [6, 5, 0, 0, 0, 16, 0, 0, 0, 0, 0, 0, 0, 0, 0, 64, 0, 0, 0, 0, 0, 0, 0, 0])
theorem wit_partitions : (partitionCreateOp opr .east pcRec).status s0 = .ok ∧ pcRangeBad 0 = true ∧
    (partitionDestroyOp opr .east 0x18010003).status (sStage pk0 0) = .ok := by decide +kernel

theorem wit_tc_control : bitOf (0x80040000#32).toNat 31 = true ∧ ({} : TcRing).en = false ∧ 4 ≤ bitsOf (0x80040000#32).toNat 16 4 ∧
    bitsOf (0x80040000#32).toNat 16 4 ≤ 12 ∧ ({ en := true, halted := true, log2 := 12 } : TcRing).log2 ≤ 12 ∧
    ({ en := true } : TcRing).halted = false := by decide +kernel
def sRing (g : TcRing) (stop : Bool) : State := sEast { table := { rings := [(0, g)], stopped := stop } }
theorem wit_tc_doorbell : ((sRing { en := true, log2 := 4 } true).vale .east).table.stopped = true ∧
    (tcRingOf (sRing {} true) .east 0).en = false ∧ (tcRingOf (sRing { en := true, log2 := 4 } true) .east 0).en = true ∧
    (15#12).toNat < 2 ^ (tcRingOf (sRing { en := true, log2 := 4 } true) .east 0).log2 ∧
    2 ^ (tcRingOf (sRing { en := true, log2 := 4 } true) .east 0).log2 ≤ (16#12).toNat := by decide +kernel

/-- A table command (R189): opcode, flags, partition, ticket, index, count, buffer. -/
def tcBytes (op flags : Byte) (part ticket index cnt buffer : Nat) : List Byte :=
  [op, flags, 0, 0] ++ beBytes 4 part ++ beBytes 4 0xABCD ++ beBytes 4 ticket ++ beBytes 8 5 ++ beBytes 4 index ++ [0, 0] ++
    beBytes 2 cnt ++ beBytes 8 buffer ++ List.replicate 88 0
def cells (a : Nat) (bs : List Byte) : List Host.Cell := (bs.zipIdx.filter (fun x => decide (x.1 ≠ 0))).map (fun x => (a + x.2, x.1))
/-- Ring 0 of East has one command in HBM; partition 3. -/
def sTc (p : Partition) (locks : Tab Lock) (bs : List Byte) : State :=
  { sEast { table := { parts := [(3, p)], locks := locks, rings := [(0, { en := true, log2 := 4, tail := 1, cmdHi := 0x10, cplHi := 0x10, cplLo := 0x10000 })] } } with
    mem := cells (hbmBase 0) bs, dict := { owners := [(0x18 * 65536 + 3, 0)] } }
def tcRd (p : Partition) (locks : Tab Lock) (bs : List Byte) : TcCmd := tcCmdOf (readInt (sTc p locks bs) (hbmBase 0) 128)
theorem tc_fetch (p : Partition) (locks : Tab Lock) (bs : List Byte) :
    tcFetch (sTc p locks bs) .east 0 = some (some (tcRd p locks bs, sTc p locks bs)) := by
  have h1 : tcRingOf (sTc p locks bs) .east 0 = { en := true, log2 := 4, tail := 1, cmdHi := 0x10, cplHi := 0x10, cplLo := 0x10000 } := rfl
  have h2 : tcReach (sTc p locks bs) false (hbmBase 0) 128 = true := rfl
  have h3 : poisoned (sTc p locks bs) (hbmBase 0) 128 = false := Eq.trans (b := poisoned s0 (hbmBase 0) 128) rfl (by decide +kernel)
  have h4 : tcCmdBase { en := true, log2 := 4, tail := 1, cmdHi := 0x10, cplHi := 0x10, cplLo := 0x10000 } + 128 * 0 = hbmBase 0 := by decide +kernel
  have h5 : ((sTc p locks bs).vale .east).table.stopped = false := rfl
  have h6 : (sTc p locks bs).err.failStop = false := rfl
  have h7 : tcTurn (sTc p locks bs) false = some (sTc p locks bs) := rfl
  simp only [tcFetch, h1, h5, h6, tcReadMem, h4, h2, h3, h7]
  simp [tcRd]

/-- A direct partition with an entry at 9. -/
def pD (e : Entry) : Partition := { memory := 5, kind := 4, flags := 0, keyWidth := 10, owner := 0, capacity := 1024, seed := 0, secret := 0, units := [0], slots := [(9, e)] }
def pF : Partition := { pD {} with memory := 3, kind := 1, keyWidth := 64, capacity := 4096, slots := [(9, { key := 9, slot := 2 })] }
def lock0 : Tab Lock := [(0, { part := 3, pos := 9, ticket := 65536 })]
def tAt (p : Partition) (locks : Tab Lock) (bs : List Byte) (op : Nat) : Bool :=
  decide ((tcRd p locks bs).op = op) && decide (tcChecks (sTc p locks bs) .east (tcRd p locks bs) = .ok)

theorem wit_tc_at (p : Partition) (locks : Tab Lock) (bs : List Byte) (op : Nat) (h : tAt p locks bs op = true) :
    TcAt (sTc p locks bs) .east 0 op (tcRd p locks bs) (sTc p locks bs) := by
  simp only [tAt, Bool.and_eq_true, decide_eq_true_eq] at h
  exact ⟨tc_fetch p locks bs, h.1, h.2⟩
theorem wit_tc_insert : tAt (pD {}) [] (tcBytes 1 0 0x18010003 0 8 0 0) 1 = true ∧
    posDead ((sTc (pD {}) [] []).vale .east).table (pD {}) 8 = false ∧ tget (pD {}).slots 8 = none ∧
    (tcRd (pD {}) [] (tcBytes 1 0 0x18010003 0 8 0 0)).index = 8 ∧
    tAt pF [] (tcBytes 1 0 0x18010003 0 0 0 0) 1 = true := by decide +kernel
theorem wit_tc_entry : tAt (pD {}) [] (tcBytes 2 0 0x18010003 0 9 0 0) 2 = true ∧ tAt (pD {}) [] (tcBytes 3 0 0x18010003 0 9 0 0) 3 = true ∧
    tAt (pD {}) [] (tcBytes 4 0 0x18010003 0 9 0 0) 4 = true ∧
    tcFind ((sTc (pD {}) [] []).vale .east).table (pD {}) (tcRd (pD {}) [] (tcBytes 2 0 0x18010003 0 9 0 0)) = some 9 ∧
    tcTicket ((sTc (pD {}) [] []).vale .east).table (pD {}) (tcRd (pD {}) [] (tcBytes 2 0 0x18010003 0 9 0 0)) (some {}) = .ok := by
  decide +kernel
theorem wit_free_lock : freeLock ((sTc (pD {}) [] []).vale .east).table = some 0 := by decide +kernel
theorem wit_tc_locked : tAt (pD { lock := some 0 }) lock0 (tcBytes 5 0 0x18010003 65536 9 0 0) 5 = true ∧
    tAt (pD { lock := some 0 }) lock0 (tcBytes 6 2 0x18010003 65536 9 0 0) 6 = true ∧
    (tcRd (pD { lock := some 0 }) lock0 (tcBytes 5 0 0x18010003 65536 9 0 0)).ticket = 65536 ∧
    tcFind ((sTc (pD { lock := some 0 }) lock0 []).vale .east).table (pD { lock := some 0 }) (tcRd (pD { lock := some 0 }) lock0 (tcBytes 5 0 0x18010003 65536 9 0 0)) = some 9 := by
  decide +kernel
theorem wit_tc_absent : tAt (pD {}) [] (tcBytes 2 0 0x18010003 0 8 0 0) 2 = true ∧ tAt (pD {}) [] (tcBytes 3 0 0x18010003 0 8 0 0) 3 = true ∧
    tAt (pD {}) [] (tcBytes 4 0 0x18010003 0 8 0 0) 4 = true ∧ tAt (pD {}) [] (tcBytes 5 0 0x18010003 0 8 0 0) 5 = true ∧
    tcFind ((sTc (pD {}) [] []).vale .east).table (pD {}) (tcRd (pD {}) [] (tcBytes 3 0 0x18010003 0 8 0 0)) = none := by decide +kernel
theorem wit_tc_walk : tAt (pD {}) [] (tcBytes 7 0 0x18010003 0 8 2 0x1000001000) 7 = true ∧
    tcReach (sTc (pD {}) [] []) false 0x1000001000 (96 * 2) = true ∧ tAt pF [] (tcBytes 8 4 0x18010003 0 0 0 0) 8 = true := by decide +kernel
theorem wit_tc_failed : tcChecks (sTc (pD {}) [] (tcBytes 3 0 0 0 9 0 0)) .east (tcRd (pD {}) [] (tcBytes 3 0 0 0 9 0 0)) ≠ .ok ∧
    (tcRd (pD {}) [] (tcBytes 3 0 0 0 9 0 0)).op = 3 := by decide +kernel

def sLearn (x : TableState) : State := { sEast { table := { x with parts := [(3, partE)] } } with dict := { owners := [(0x18 * 65536 + 3, 0)] } }
def lq (h : Handle) : TableState := { learnQ := [{ part := 3, handle := h, key := 9, value := 1, slot := 0 }], locks := lock0 }
theorem wit_learn : ((sLearn (lq 0x18010003)).vale .east).table.learnQ = { part := 3, handle := 0x18010003, key := 9, value := 1, slot := 0 } :: [] ∧
    handleCurrent (sLearn (lq 0x18010003)) 0x18010003 = true ∧ handleCurrent (sLearn (lq 0x18020003)) 0x18020003 = false ∧
    partAt (sLearn (lq 0x18010003)) .east 3 = some partE ∧ (lookupAll ((sLearn (lq 0x18010003)).vale .east).table partE 9).isSome = true ∧
    tget ((sLearn (lq 0x18010003)).vale .east).table.locks 0 = some { part := 3, pos := 9, ticket := 65536 } ∧
    (learnLogOp opr .east).status s0 = .ok := by decide +kernel
def pAge (e : Entry) : Partition := { pF with ageLimit := 5, slots := [(9, e)] }
def sAge (p : Partition) : State := sEast { table := { parts := [(3, p)], now := 10 } }
theorem wit_age : partAt (sAge (pAge {})) .east 3 = some (pAge {}) ∧ tget (pAge {}).slots 9 = some {} ∧ (pAge {}).memory = 3 ∧ (pAge {}).ageLimit ≠ 0 ∧
    (pAge {}).ageLimit ≤ (((sAge (pAge {})).vale .east).table.now + 65536 - ({} : Entry).ts) % 65536 ∧
    tget (pAge { static := true }).slots 9 = some { static := true } ∧
    ({ pD {} with memory := 4, kind := 3 } : Partition).memory = 4 ∧ 255 < partSize { pD {} with memory := 4, kind := 3 } := by decide +kernel
theorem wit_bank_test : (tableTestOp opr .east 0x0100).status s0 = .ok ∧ ((sEast { table := { testSt := 1 } }).vale .east).table.testSt = 1 ∧
    ((sEast { table := { testSt := 2 } }).vale .east).table.testSt = 2 := by decide +kernel

/-! ### Chapters 8 and 9 -/

/-- Queue 0 of East below port node 14 (recirculation): group 0, tenancy node 0, class node 0, all of weight 1. -/
def qRec : Nat := beNat ([0, 0, 0, 0, 0x40, 0, 0, 0, 0, 0, 0, 0, 1, 0, 0, 64] ++ beBytes 4 1000 ++ beBytes 4 100 ++ beBytes 4 50 ++ [0, 0, 0, 0])
def nGroup : Nat := beNat [0x10, 0, 0, 14, 0, 0, 0, 0, 1, 0, 0, 0, 0, 0, 0, 0]
def nTen : Nat := beNat [0x20, 0, 0, 0, 0, 0, 0, 0, 1, 0, 0, 0, 0, 0, 0, 0]
def shRec : Nat := beNat ([0, 0, 0, 0] ++ beBytes 4 10000 ++ beBytes 4 64 ++ [0, 0, 0, 0])
def treeDict : Dict :=
  { nums := [(nodeKey .east 2 0, nGroup), (nodeKey .east 3 0, nTen), (queueKey .east 0, qRec)], owners := [(0x10 * 65536, 0), (0x14 * 65536 + 3, 0)] }
def pkQ : Packet := { bytes := frame64, cells := 1, flen := 64, loc := .queued 0, words := [(8, 0x10010000)] }
/-- Packet 5 waits in queue 0. -/
def sTree (p : Packet) (q : TmQueue) : State :=
  { sEast { path := { packets := [(5, p)], nextPkt := 6 }, tm := { queues := [(0, q)] } } with dict := treeDict }

theorem wit_queue_objects : glenServes (sTree {} {}) = true ∧ (queueCreateOp opr .east (BitVec.ofNat 256 qRec)).status (sTree {} {}) = .ok ∧
    (queueConfOp opr .east 0 (BitVec.ofNat 256 qRec)).status (sTree {} {}) = .ok ∧ (queueDestroyOp opr .east 0x10010000).status (sTree {} {}) = .ok ∧
    (shaperCreateOp opr .east (BitVec.ofNat 160 shRec)).status (sTree {} {}) = .ok ∧
    (shaperWriteOp opr .east 3 (BitVec.ofNat 128 shRec)).status (sTree {} {}) = .ok ∧
    (shaperDestroyOp opr .east 0x14010003).status (sTree {} {}) = .ok ∧ (floodSizeOp opr .east 16).status (sTree {} {}) = .ok ∧
    ({ load := true } : Shaper).load = true ∧ ({} : Shaper).load = false := by decide +kernel

/-- Packet 5 waits before enqueue. -/
def sEnq (p : Packet) : State := sTree { p with loc := .atEnqueue } {}
def pkE : Packet := { words := [(8, 0x10010000)] }
theorem wit_enqueue : (∀ p ∈ [pkE, { pkE with discarded := true }, { pkE with bad := true }, wordStale, {}],
      enqueueNext (sEnq p) .east .atEnqueue = some 5 ∧ pktAt (sEnq p) .east 5 = some { p with loc := .atEnqueue }) ∧
    tenFresh (sEnq pkE) (pktTen pkE) = true ∧ (handleFits (recHandle pkE 8) (queueKind .east) && objLive (sEnq pkE) (recHandle pkE 8)) = true ∧
    (handleFits (recHandle {} 8) (queueKind .east) && objLive (sEnq {}) (recHandle {} 8)) = false ∧
    tenFresh (sEnq wordStale) (pktTen wordStale) = false ∧ ((sEnq pkE).vale .east).tm.stopped = false ∧
    ((sEnq pkE).vale .east).path.outOfService = false ∧ (sEnq pkE).err.failStop = false := by decide +kernel
/-- The same queue with spilling allowed above 100 cells. -/
def sSpill : State := { sTree pkQ { basin := [5] } with dict := { treeDict with nums := [(nodeKey .east 2 0, nGroup), (nodeKey .east 3 0, nTen), (queueKey .east 0, qRec + 256 ^ 18)] } }
theorem wit_admission : qMax (queueConf (sTree {} {}) .east 0) < queueDepth (sTree {} {}) .east (tmQueue (sTree {} {}) .east 0) + 1001 ∧
    queueDepth (sTree {} {}) .east (tmQueue (sTree {} {}) .east 0) + 100 ≤ qMax (queueConf (sTree {} {}) .east 0) ∧
    (tmQueue (sTree {} { spilling := true }) .east 0).spilling = true ∧ (tmQueue sSpill .east 0).spilling = false ∧
    qSpill (queueConf sSpill .east 0) = true ∧ floodGib { sSpill with ctl := { hbm := [{ flood := 8 }, {}] } } .east ≠ 0 ∧
    qSpillOn (queueConf sSpill .east 0) < cellsIn sSpill .east (tmQueue sSpill .east 0).basin + 100 ∧
    qSpill (queueConf (sTree {} {}) .east 0) = false := by decide +kernel

def sCross (l : Loc) (n : Nat) (out : Bool) : State :=
  { s0 with east := { path := { packets := [(5, { bytes := frame64, loc := l, cells := 1 })], nextPkt := 6, crossBytes := n } }, west := { path := { outOfService := out } } }
theorem wit_crossing : (∀ b : Bool, enqueueNext (sCross .crossing 64 b) .east .crossWait = none ∧ countAt (sCross .crossing 64 b) .east .crossWait = 0 ∧
      oldestAt (sCross .crossing 64 b) .east .crossing = some 5 ∧ pktAt (sCross .crossing 64 b) .east 5 = some { bytes := frame64, loc := .crossing, cells := 1 } ∧
      ((sCross .crossing 64 b).vale (otherVale .east)).path.outOfService = b ∧
      cellsOf frame64.length ≤ ((sCross .crossing 64 b).vale (otherVale .east)).path.basinFree) ∧
    enqueueNext (sCross .crossWait 262100 false) .east .crossWait = some 5 ∧
    262144 < ((sCross .crossWait 262100 false).vale .east).path.crossBytes + ((pktAt (sCross .crossWait 262100 false) .east 5).getD {}).bytes.length := by
  decide +kernel

def sDeq : State := sTree pkQ { basin := [5] }
theorem wit_dequeue : portNodeExists sDeq .east 14 = true ∧
    (choosePacket (dropOversize sDeq .east 14) .east 14).any (fun c => decide ((tmQueue (dropOversize sDeq .east 14) .east c.queue).basin = [5])) = true ∧
    pktAt (dropOversize sDeq .east 14) .east 5 = some pkQ ∧
    (choosePacket (dropOversize (sTree {} {}) .east 14) .east 14).isNone = true ∧
    tenFresh sDeq (pktTen pkQ) = true ∧ tenFresh sDeq (pktTen wordStale) = false ∧ pkQ.ttl = false ∧ linkIsUp sDeq .east 7 = false := by
  decide +kernel
def sFlood (l : Loc) : State := sTree { pkQ with loc := l } { flood := [5], spilling := true }
theorem wit_spill : pktAt (sFlood (.spilling 0)) .east 5 = some { pkQ with loc := .spilling 0 } ∧ pkQ.share = none ∧
    (tmQueue (sFlood (.flood 0)) .east 0).flood = 5 :: [] ∧ pktAt (sFlood (.flood 0)) .east 5 = some { pkQ with loc := .flood 0 } ∧
    cellsIn (sFlood (.flood 0)) .east (tmQueue (sFlood (.flood 0)) .east 0).basin ≤ qRefill (queueConf (sFlood (.flood 0)) .east 0) ∧
    numD (sFlood (.flood 0)) (vkey .east 0x3002 6) 16384 ≤ ((sFlood (.flood 0)).vale .east).path.basinFree ∧
    cellsOf pkQ.bytes.length ≤ ((sFlood (.flood 0)).vale .east).path.basinFree := by decide +kernel

def sTime (t : DevTime) (l : Ladder) : State := { s0 with time := t, clk := { s0.clk with ladder := l } }
theorem wit_time : ladderDone (sTime {} {}) < 3 ∧ (sTime {} {}).time.held = false ∧ timeRate (sTime {} {}) = 0 ∧
    (sTime { ns := 999999999, sec := 2 ^ 48 - 2, frac := 15 } {}).time.ns < 1000000000 ∧ 3 ≤ ladderDone (sTime {} { st := 2 }) ∧
    (timeSetOp opr 5000000000000001).status s0 = .ok ∧ (timeStepOp opr 1).status s0 = .ok ∧
    0 ≤ (nowNs s0 : Int) + ((1#64).extractLsb' 32 32).toInt * 1000000000 + ((1#64).extractLsb' 0 32).toInt := by decide +kernel

def poRec : Nat := beNat ([1, 2, 0, 0] ++ beBytes 4 10000 ++ beBytes 4 64 ++ beBytes 4 0 ++ beBytes 4 64 ++ [0, 0, 0, 0])
/-- Policer 6 and group 4 of East. -/
def objDict : Dict := { owners := [(0x12 * 65536 + 6, 0), (0x16 * 65536 + 4, 0), (0x10 * 65536 + 2, 0)] }
def sObj (x : TmState) : State := { sEast { tm := x } with dict := objDict }
def rwBytes : List Byte := [0x16, 1, 0, 4, 0, 0, 0, 1, 0x10, 1, 0, 2, 0xFF, 0xFF, 0, 0]
theorem wit_policer_objects : (policerCreateOp opr .east (BitVec.ofNat 224 poRec)).status (sObj {}) = .ok ∧
    (policerWriteOp opr .east 6 (BitVec.ofNat 192 poRec)).status (sObj {}) = .ok ∧ (policerDestroyOp opr .east 0x12010006).status (sObj {}) = .ok ∧
    (replCreateOp opr .east 0).status (sObj {}) = .ok ∧ (replDestroyOp opr .east 0x16010004).status (sObj {}) = .ok ∧
    (replWriteOp opr .east rwBytes).status (sObj {}) = .ok ∧ (replApplyOp opr .east 0x160100040000).status (sObj {}) = .ok ∧
    (replQueryOp opr .east 0x160100040000).status (sObj {}) = .ok ∧ (telemLogOp opr .east).status (sObj {}) = .ok := by decide +kernel
theorem wit_gate_apply : (gateApplyOp opr .east 0).status sMode2 = .ok := by
  have h : portNodeExists sMode2 .east (BitVec.toNat (0 : U8)) = true := by
    have hm : portMode sMode2 .east = 2 := by unfold portMode; cases Config.hx <;> decide +kernel
    unfold portNodeExists
    rw [hm]
    cases Config.hx <;> decide +kernel
  simp only [gateApplyOp, h]
  decide +kernel

def po1 : Policer := { act := poRec, tc := 10, te := 5 }
def po2 : Policer := { act := poRec + 256 ^ 23, tc := 5, te := 10 }
theorem wit_colours : poMode po1.act = 1 ∧ bitOf (poFlags po1.act) 0 = false ∧ 10 ≤ po1.tc ∧ ({ po1 with tc := 3 } : Policer).tc < 4 ∧ 4 ≤ po1.te ∧
    po1.tc < 11 ∧ po1.te < 11 ∧ poMode po2.act = 2 ∧ bitOf (poFlags po2.act) 0 = false ∧ po2.te < 11 ∧ 8 ≤ po2.te ∧ po2.tc < 8 ∧ 5 ≤ po2.tc ∧
    bitOf (poFlags (poRec + 256 ^ 22)) 0 = true := by decide +kernel
def sPol (p : Packet) : State := { sObj { polices := [(6, po1)] } with east := { path := { packets := [(5, { p with loc := .exited })], nextPkt := 6 }, tm := { polices := [(6, po1)] } } }
def pkPol : Packet := { words := [(9, 0x12010006)] }
theorem wit_police : (∀ p ∈ [({} : Packet), pkPol], oldestAt (sPol p) .east .exited = some 5 ∧ pktAt (sPol p) .east 5 = some { p with loc := .exited }) ∧
    recHandle {} 9 = 0 ∧ recHandle pkPol 9 ≠ 0 ∧ (handleFits (recHandle pkPol 9) (policerKind .east) && objLive (sPol pkPol) (recHandle pkPol 9)) = true ∧
    pkPol.tail = true ∧ bitOf (poFlags (tgetD ((sPol pkPol).vale .east).tm.polices (hIdx (recHandle pkPol 9)) {}).act) 1 = true := by decide +kernel

def sGate (g : Gate) : State := sEast { tm := { gates := [(2, g)] } }
theorem wit_gates : (gateOf (sGate { next := some (0, {}) }) .east 2).next = some (0, {}) ∧ 0 ≤ nowNs (sGate { next := some (0, {}) }) ∧
    (gateOf (sGate { act := { enable := true } }) .east 2).act.enable = true := by decide +kernel

def sRepl (p : Packet) : State := { sObj {} with east := { path := { packets := [(5, { p with loc := .repl })], nextPkt := 6 } } }
def pkGrp : Packet := { words := [(10, 0x16010004)] }
theorem wit_replicate : (∀ p ∈ [({} : Packet), pkGrp], countAt (sRepl p) .east .policed = 0 ∧ oldestAt (sRepl p) .east .repl = some 5 ∧
      pktAt (sRepl p) .east 5 = some { p with loc := .repl }) ∧
    (handleFits (recHandle {} 10) (groupKind .east) && objLive (sRepl {}) (recHandle {} 10)) = false ∧
    (handleFits (recHandle pkGrp 10) (groupKind .east) && objLive (sRepl pkGrp) (recHandle pkGrp 10)) = true := by decide +kernel
/-- `n` packets stand in the input queue, one more waits. -/
def sReplN (n : Nat) : State := sPath { packets := (5, { loc := .policed }) :: List.replicate n (6, { loc := .repl }) }
theorem repl_n (n : Nat) : oldestAt (sReplN n) .east .policed = some 5 ∧ countAt (sReplN n) .east .repl = n := by
  constructor <;> simp [oldestAt, countAt, sReplN, sPath, sEast, State.vale]
theorem wit_repl_full : oldestAt (sReplN 2048) .east .policed = some 5 ∧ 2048 ≤ countAt (sReplN 2048) .east .repl :=
  ⟨(repl_n 2048).1, Nat.le_of_eq (repl_n 2048).2.symm⟩

def sWatch : State := { sObj {} with dict := { nums := [(watchKey .east 0, 0x1001000200000001)] }, time := { ticks := 130 } }
theorem wit_telemetry : ((sEast {}).vale .east).tm.ring.en = false ∧ bitOf (0x80060000#32).toNat 31 = true ∧ 6 ≤ bitsOf (0x80060000#32).toNat 16 4 ∧
    bitsOf (0x80060000#32).toNat 16 4 ≤ 15 ∧ ((sEast {}).vale .east).tm.ring.baseHi.toNat < 0x10000 ∧
    ((sObj { ring := { en := true } }).vale .east).tm.ring.en = true ∧ recField 8 0 4 (numD sWatch (watchKey .east 0) 0) = 0x10010002 ∧
    (sWatch.time.ticks - tgetD (sWatch.vale .east).tm.watchAt 0 0) / max 1 (watchTicks (numD sWatch (watchKey .east 0) 0)) = 1 := by decide +kernel

/-! ### Hypotheses of the completion clauses of chapters 7 to 9 -/

/-- A host write reaches PF0's rings while PF0 is served. -/
theorem wit_ring_shut : ringShut s0 true = false ∧ ringShut s0 false = false ∧ fnServes s0 0 = true ∧
    ringShut { s0 with host := { fns := [(0, { silenced := true })] } } true = true ∧
    fnServes { s0 with host := { fns := [(0, { silenced := true })] } } 0 = false := by decide +kernel
theorem wit_vector : bitsOf (0x80040005#32).toNat 0 11 < 64 ∧ (bitOf (0xC0040040#32).toNat 30 = true ∧ 64 ≤ bitsOf (0xC0040040#32).toNat 0 11) ∧
    bitOf (0xC0060005#32).toNat 30 = true ∧ bitsOf (0xC0060005#32).toNat 0 11 < msixSize s0 0 ∧ msixSize s0 0 ≤ bitsOf (0xC00607FF#32).toNat 0 11 := by
  decide +kernel
/-- A TAIL equal to HEAD leaves nothing to fetch. -/
theorem wit_tc_no_command : (tcFetch (setTcRing (sRing { en := true, log2 := 4 } false) .east 0 { en := true, log2 := 4, tail := 0 }) .east 0).isNone = true := by
  decide +kernel

theorem wit_tc_last : (tcRingOf (sTc (pD {}) [] []) .east 0).tail = ((tcRingOf (sTc (pD {}) [] []) .east 0).head + 1) % tcSize (tcRingOf (sTc (pD {}) [] []) .east 0) ∧
    tcReach (sTc (pD {}) [] []) false (tcCplBase (tcRingOf (sTc (pD {}) [] []) .east 0) + 32 * 0) 32 = true := by decide +kernel
/-- An exact partition of memory 1 with one row of units. -/
def pX : Partition := { memory := 1, kind := 1, flags := 0, keyWidth := 16, owner := 0, capacity := 512, seed := 0, secret := 0, units := [0], slots := [] }
theorem wit_tc_exact : tAt pX [] (tcBytes 1 0 0x18010003 0 0 0 0) 1 = true ∧
    (insertExact ((sTc pX [] []).vale .east).table pX 5 (fun _ => {})).status = .ok := by decide +kernel
theorem wit_tc_run_lock : (tcRunLock .east (tcRd (pD {}) [] (tcBytes 4 0 0x18010003 0 9 0 0)) (sTc (pD {}) [] (tcBytes 4 0 0x18010003 0 9 0 0))).any
      (fun x => decide ((tcRingOf x.1 .east 0).tail = 1) && tcReach x.1 false (tcCplBase (tcRingOf (sTc (pD {}) [] []) .east 0)) 32) = true ∧
    lock0.head?.map (·.2.ticket) = some 65536 ∧
    ((sTc (pD { lock := some 0 }) lock0 []).vale .east).table.expired.contains (65536, 0x18010003, 9) = false := by decide +kernel

/-- The learner finds room for key 9 in a partition of one bucket, and none where its bank is retired. -/
def pOne : Partition := { pX with capacity := 4 }
def sLearn1 (x : TableState) : State := sEast { table := { x with learnQ := (lq 0x18010003).learnQ, parts := [(3, pOne)] } }
theorem one_bucket (p : Partition) (key : Nat) : buckets p key 1 = (0, 0) := by simp [buckets, Nat.mod_one]
theorem wit_learn_new : ∀ x ∈ [({} : TableState), { retired := [(1, 0)] }], lookupAll ((sLearn1 x).vale .east).table pOne 9 = none ∧
    ((insertExact ((sLearn1 x).vale .east).table pOne 9 (fun _ => {})).status = .ok ↔ x.retired = []) := by
  have h : dieBuckets pOne = 1 := rfl
  have hb := one_bucket pOne 9
  simp only [lookupAll, lookupDie, diePositions, insertExact, placeKey, h, hb]
  decide +kernel
theorem wit_age_due : (sEast {}).time.ticks < ((sEast {}).vale .east).table.ageDue ∧
    ((sEast { table := { ageDue := 0 } }).vale .east).table.ageDue ≤ (sEast { table := { ageDue := 0 } }).time.ticks := by decide +kernel

/-- Packet 5 is plain and its queue has room. -/
def pkPlain : Packet := { words := [(8, 0x10010000)], bytes := frame64, cells := 1 }
theorem wit_enqueue_plain : (handleFits (recHandle pkPlain 8) (queueKind .east) && objLive (sEnq pkPlain) (recHandle pkPlain 8)) = true ∧
    recBits pkPlain 12 33 3 = 0 ∧ recBits pkPlain 11 35 1 = 0 ∧ pkPlain.template = 0xFFFF ∧ pkPlain.edits = [] ∧
    pkPlain.bytes.length + 4 ≤ numD (sEnq pkPlain) (vkey (procVale pkPlain) 0x3003 2) 9216 ∧
    (tmQueue (sEnq pkPlain) .east 0).spilling = false ∧ qSpill (queueConf (sEnq pkPlain) .east 0) = false ∧
    queueDepth (sEnq pkPlain) .east (tmQueue (sEnq pkPlain) .east 0) + 1 ≤ qMax (queueConf (sEnq pkPlain) .east 0) ∧
    enqueueNext (sEnq pkPlain) .east .atEnqueue = some 5 ∧ tenFresh (sEnq pkPlain) (pktTen pkPlain) = true := by decide +kernel
/-- The recirculation node has its grant. -/
theorem wit_recirc_grant : ((sPath { recircGrant := true }).vale .east).path.recircGrant = true := rfl
/-- Queue 0 below the port node of wire port 0, whose link is up. -/
def sWireQ : State :=
  { sMode2 with
    east := { path := { linkUp := 3, packets := [(5, pkQ)], nextPkt := 6, basinFree := 1000 }, tm := { queues := [(0, { basin := [5] })] } }
    dict := { treeDict with nums := (vkey .east 0x3000 1, 2) :: (okey 0x2361 1, 2) ::
      [(nodeKey .east 2 0, beNat [0x10, 0, 0, 0, 0, 0, 0, 0, 1, 0, 0, 0, 0, 0, 0, 0]), (nodeKey .east 3 0, nTen), (queueKey .east 0, qRec)] } }
theorem wit_transmit : linkIsUp sWireQ .east 0 = true ∧ (gateOf sWireQ .east 0).act.enable = false ∧ pktAt sWireQ .east 5 = some pkQ ∧
    (choosePacket sWireQ .east 0).any (fun c => decide (c.queue = 0)) = true ∧ (tmQueue sWireQ .east 0).basin = [5] ∧
    tenFresh sWireQ (pktTen pkQ) = true ∧ valeSlow sWireQ .east = false ∧ recBits pkQ 12 34 2 = 0 := by
  refine ⟨?_, rfl, rfl, ?_, rfl, ?_, ?_, ?_⟩
  · unfold linkIsUp; cases Config.hx <;> decide +kernel
  · unfold choosePacket; cases Config.hx <;> decide +kernel
  · decide +kernel
  · decide +kernel
  · decide +kernel

theorem wit_repl_query : tget (sObj {}).idien.sessions 0 = none ∧
    tget ({ sObj {} with idien := { sessions := [(0, osess)] } } : State).idien.sessions 0 = some osess ∧
    (replQueryOp opr .east 0x160100040000).status { sObj {} with idien := { sessions := [(0, osess)] } } = .ok := by decide +kernel

/-! ### Chapter 10 -/

/-- Slot 0 with a state of its own, its even port, region 3 of the operator at port 0. -/
def sSlot (x : Slot) (p : SPort) : State := { s0 with saddle := { slots := [(0, x)], ports := [(0, p)] }, vault := { up := true } }
def regConf : Nat := 0
def shellR : ShellRegion := { present := true, dma := true, pkt := true, func := 0, pasidEn := false, pasid := 0, rxOff := 0, rxLog2 := 4, rxSize := 0, bar2 := 0x100000 }
def slotReady : Slot := { st := .ready, shell := [shellR], version := 0x0201, manifest := List.replicate 252 0 }
def sReg (x : SRegion) (p : SPort) : State :=
  { s0 with saddle := { slots := [(0, slotReady)], ports := [(0, p)], regions := [(3, x)] }, dict := { nums := [(okey 0x6800 0, 1)], owners := [(5 * 65536 + 3, 0)] },
            ctl := { ddr := [1, 0, 0, 0], ddrGib := 1 } }
def rOpen : SRegion := { conf := regConf, st := .open_, opening := false }
def pUp : SPort := { link := true }

theorem wit_slot_objects : (slotModeOp opr 0 1).status s0 = .ok ∧ (slotPowerOp opr 0 1 true).status s0 = .ok ∧
    (slotUnloadOp opr 0).status (sSlot { st := .failed } {}) = .ok ∧
    (regionDestroyOp opr 0x05010003).status (sReg rOpen pUp) = .ok ∧ (windowOp opr 0 0 0).status s0 = .ok ∧ (sgInvalidateOp opr 0).status s0 = .ok ∧
    (saddlePortResetOp opr 0).status s0 = .ok ∧ (regionFaultOp opr 3).status (sReg rOpen pUp) = .ok ∧ regionOf (sReg rOpen pUp) 3 = some rOpen ∧
    regionResetSt opr 0x05010003 (sReg rOpen pUp) = .ok ∧ regionResetSt opr 0 (sReg rOpen pUp) ≠ .ok := by decide +kernel
/-- Port 0, shell region 0, Vale East, the operator. -/
theorem wit_region_create : (regionCreateOp opr 0).status { sSlot slotReady pUp with ctl := {} } = .ok := by decide +kernel
def ldRec : Rec 24 := BitVec.ofNat 192 (hbmBase 0 * 2 ^ 64 + hbmBase 0 + 4096)
theorem wit_slot_load : (slotLoadOp opr ldRec).status (sSlot { st := .empty } {}) = .ok := by decide +kernel

/-- A manifest of one region with a signature; the image key's slot is 0. -/
theorem wit_slot_steps : (slotOf (sSlot { powering := true } {}) 0).powering = true ∧ (slotOf (sSlot { st := .empty } {}) 0).st ≠ .off ∧
    (slotOf (sSlot { st := .verifying } {}) 0).st = .verifying ∧ (sSlot { st := .verifying } {}).vault.up = true ∧
    manifestCheck (sSlot { st := .verifying } {}) 0 0 0 (manifestAt (sSlot { st := .verifying } {}) 0) = .range ∧
    (slotOf (sSlot { st := .configuring, cfg := .clearing } {}) 0).cfg = .clearing ∧
    (slotOf (sSlot { st := .configuring, cfg := .shifting } {}) 0).cfg = .shifting ∧
    (slotOf (sSlot { st := .configuring, cfg := .shifting } {}) 0).st = .configuring := by decide +kernel
/-- The fields of a good manifest: one region, one bitstream byte in HBM, major 1. -/
def manBytes : List Byte :=
  beBytes 4 0x53444D46 ++ [1, 0, 0, 0] ++ beBytes 8 0 ++ beBytes 4 1 ++ beBytes 4 10000 ++ [1, 2, 1, 0] ++ List.replicate 48 0 ++ List.replicate 48 0 ++
    List.replicate 8 0 ++ List.replicate 96 0
def sMan : State := { s0 with dict := { octs := [(okey 0x6807 0, List.replicate 97 1)] } }
/-- The checks of a manifest pass where its signature, which the model leaves opaque, verifies. -/
theorem wit_manifest (h : Config.verify (List.replicate 97 1) (Config.sha384 (manBytes.take 132)) ((manBytes.drop 132).take 96) = true) :
    manifestCheck sMan 0 0 (hbmBase 0) manBytes = .ok := by
  have h1 : (manFormBad manBytes || !inDdrHbm sMan (hbmBase 0) (bitLen manBytes)) = false := by decide +kernel
  have h2 : octD sMan (okey 0x6807 (manField manBytes 6 1)) = List.replicate 97 1 := by decide +kernel
  have h3 : 124 + 8 * manN manBytes = 132 := by decide +kernel
  unfold manifestCheck
  simp only [h1, h2, h3, h]
  decide +kernel
/-- The two outcomes of CFG_DONE: with the digest in the manifest, and with an empty one. -/
theorem wit_cfg_done (d : List Byte) (h : Config.sha384 [] = d) (hd : d.length = 48) :
    Config.sha384 (readInt s0 0 (bitLen (List.replicate 28 0 ++ d))) = ((List.replicate 28 0 ++ d).drop 28).take 48 := by
  have h1 : bitLen (List.replicate 28 0 ++ d) = 0 := by
    have : sliceD (List.replicate 28 0 ++ d) 16 4 0 = [0, 0, 0, 0] := by simp [sliceD, List.replicate]
    simp only [bitLen, manField, this]
    rfl
  rw [h1]
  have h2 : readInt s0 0 0 = [] := rfl
  rw [h2, h, List.drop_left' (by simp)]
  rw [← hd, List.take_length]

def sLnk (st : SlotSt) (p : SPort) : State := { sReg rOpen p with saddle := { slots := [(0, { slotReady with st := st })], ports := [(0, p)], regions := [(3, rOpen)] } }
/-- Mode 2 of the slot: its odd port is formed too. -/
def sOdd : State := { sLnk .ready {} with dict := { nums := [(okey 0x6800 0, 2)] } }
theorem wit_link : portFormedSaddle (sLnk .linking {}) 0 = true ∧ saddleRetired (sLnk .linking {}) 0 = false ∧ (sportOf (sLnk .linking {}) 0).link = false ∧
    (sLnk .linking {}).err.portTest ≠ some 0 ∧ (slotOf (sLnk .linking {}) (0 / 2)).st = .linking ∧ portFormedSaddle sOdd 1 = true ∧
    (slotOf sOdd (1 / 2)).st ≠ .off ∧ (slotOf sOdd (1 / 2)).st ≠ .failed ∧ (slotOf (sLnk .negotiating pUp) (0 / 2)).st = .negotiating ∧
    (sportOf (sLnk .ready pUp) 0).link = true ∧ (sportOf (sLnk .ready pUp) 0).pstate = 0 ∧ (sportOf (sLnk .ready { pUp with pstate := 2 }) 0).pstate ≠ 0 ∧
    numD { sLnk .ready pUp with dict := { nums := [(okey 0x6822 0, 1)] } } (okey 0x6822 0) 0 ≠ 0 := by decide +kernel
/-- A manifest of one region at shell region 0 with DMA, majors 1 to 2; a shell that offers just that. -/
def manNeg : List Byte := List.replicate 24 0 ++ [1, 2, 1, 0] ++ List.replicate 96 0 ++ [0, 1, 0, 0, 0, 0, 0, 0] ++ List.replicate 96 0
def offNeg : ShellOffer := { magic := 0x53445348, offer := 0x02010000, regions := [{ shellR with pkt := false }] }
theorem wit_negotiate : (negotiateShell manNeg offNeg).1 = .ok ∧ (negotiateShell manNeg { offNeg with magic := 0 }).1 = .timeout ∧
    (slotOf (sSlot { st := .negotiating, manifest := manNeg } {}) 0).relink = false ∧
    (slotOf (sSlot { st := .negotiating, manifest := manNeg } {}) 0).manifest = manNeg := by decide +kernel

theorem wit_regions : regionOf (sReg { rOpen with opening := true, st := .isolated } pUp) 3 = some { rOpen with opening := true, st := .isolated } ∧
    (slotOf (sReg rOpen pUp) (rgSlot rOpen.conf)).st = .ready ∧ regionOf (sReg { rOpen with iso := some .reset } pUp) 3 = some { rOpen with iso := some .reset } ∧
    0x0201 ≤ (slotOf (sReg rOpen pUp) (rgSlot rOpen.conf)).version ∧ (closeRegion (sReg rOpen pUp) 3).saddle.regions.length = 1 ∧
    regionOf (sReg { rOpen with resetting := true, byWrite := true } pUp) 3 = some { rOpen with resetting := true, byWrite := true } := by decide +kernel

def wrReq : SgReq := { ours := true, func := 0, pasid := none, addr := 0x5008, kind := .write [1, 2] }
/-- Window 0 of the operator: eight pages, the page table at the start of DDR5, read and write, region 3. -/
def wdRec : Nat := beNat ([7, 0, 0, 0] ++ beBytes 4 8 ++ beBytes 8 ddrBase ++ beBytes 4 0 ++ beBytes 4 0 ++ beBytes 8 8)
def sWin (x : SRegion) (p : SPort) : State := { sReg x p with dict := { nums := [(okey 0x6800 0, 1), (windowKey 0 0, wdRec)] } }
theorem wit_request : (sReg rOpen pUp).err.failStop = false ∧ (sportOf (sReg rOpen pUp) 0).link = true ∧ (sportOf (sReg rOpen pUp) 0).pstate = 0 ∧
    portStalled (sReg rOpen pUp) 0 = false ∧ sgRegion (sReg rOpen pUp) 0 { wrReq with func := 1 } = none ∧ sgRegion (sReg rOpen pUp) 0 wrReq = some 3 ∧
    regionOf (sReg { rOpen with st := .isolated } pUp) 3 = some { rOpen with st := .isolated } ∧ rgMay rOpen = true ∧
    sgHeld (sReg rOpen pUp) 3 rOpen wrReq = false ∧ rOpen.queue = [] ∧ rgMay { rOpen with conf := 10000 * 2 ^ 96 } = false ∧
    sgHeld (sReg { rOpen with queue := [wrReq] } pUp) 3 { rOpen with queue := [wrReq] } wrReq = false ∧ ({ rOpen with queue := [wrReq] } : SRegion).queue = wrReq :: [] := by
  decide +kernel
theorem wit_page : sgWindow (sWin rOpen pUp) 3 rOpen wrReq = .inr (wdRec, ddrBase + 40) ∧ cachedPage (sportOf (sWin rOpen pUp) 0) (ddrBase + 40) = none ∧
    poisoned (sWin rOpen pUp) (ddrBase + 40) 8 = false ∧ sgHeld (sWin rOpen pUp) 3 rOpen wrReq = false ∧
    poisoned { sWin rOpen pUp with ctl := { poison := [ddrBase + 40] } } (ddrBase + 40) 8 = true ∧
    (sportOf (sWin rOpen { pUp with waits := [{ region := 3, req := wrReq }] }) 0).waits = { region := 3, req := wrReq } :: [] := by decide +kernel
theorem wit_translate : 2 ^ 42 ≤ ({ wrReq with addr := 0x40000000000 } : SgReq).addr.toNat ∧ wrReq.addr.toNat < 2 ^ 42 ∧
    bitOf (wdFlags (numD (sReg rOpen pUp) (windowKey (rgOwner rOpen.conf) (wrReq.addr.toNat / 2 ^ 36)) 0)) 0 = false ∧ bitOf 0 0 = false ∧
    bitOf (hbmBase 0 + 3) 0 = true ∧ bitOf (wdFlags wdRec) 1 = true ∧ bitOf (hbmBase 0 + 3) 1 = true ∧ wdHost wdRec = false ∧
    (hbmBase 0 + 3) / 4096 * 4096 + wrReq.addr.toNat % 4096 < 2 ^ 48 ∧ inDdrHbm (sWin rOpen pUp) ((hbmBase 0 + 3) / 4096 * 4096 + wrReq.addr.toNat % 4096) 2 = true ∧
    bitOf (hbmBase 0 + 1) 1 = false ∧ rgLimit rOpen.conf = 0 ∧ rOpen.first = 0 := by decide +kernel

def sRx (n : Nat) : State := { sReg rOpen pUp with east := { path := { packets := [(5, { out := List.replicate n 7, loc := .toSaddle 3 })], nextPkt := 6 } } }
theorem wit_rx : towardRegion (sRx 2017) 3 = some (.east, 5) ∧ pktAt (sRx 64) .east 5 = some { out := List.replicate 64 7, loc := .toSaddle 3 } ∧ regionOpen rOpen = true ∧
    rxHeld rOpen < rxSlots (sRx 64) rOpen ∧ rxSlotBytes (sRx 64) rOpen < 2017 + 32 ∧ 2016 + 32 ≤ rxSlotBytes (sRx 64) rOpen ∧
    rgPkt (sRx 64) rOpen = true ∧ (sportOf (sRx 64) (rgPort rOpen.conf)).link = true ∧ (sportOf (sRx 64) (rgPort rOpen.conf)).pstate = 0 := by decide +kernel
theorem wit_aperture : regionOf (sReg { rOpen with credit := 8 } pUp) 3 = some { rOpen with credit := 8 } ∧ ({ rOpen with credit := 8 } : SRegion).apLen = 0 ∧
    131064 + [1, 2, 3, 4, 5, 6, 7, (8 : Byte)].length ≤ 131072 ∧ rOpen.credit = rOpen.taken ∧ 16384 / 16384 ≠ rOpen.taken % 8 := by decide +kernel
theorem wit_slot_mode : glenServes (sSlot { st := .failed } {}) = true ∧ opr.role = .operator ∧ (2 : U8).toNat ≤ 2 ∧ (slotOf (sSlot { st := .failed } {}) 0).st ≠ .off ∧
    (slotOf s0 0).st = .off ∧ (slotOf s0 0).powering = false ∧ s0.err.failStop = false := by decide +kernel

/-- A host write of a window waits, and a port that reset four times within ten seconds. -/
def sGateW : State := { sReg rOpen pUp with host := { reqs := [{ fn := 0, dir := .toHost, addr := 0, len := 1, data := [7], win := windowKey 0 1 }] } }
theorem wit_gate_writes : gateBusy s0 [windowKey 0 1] = false ∧ (windowOp opr 0 1 0).status sGateW = .ok ∧ gateBusy sGateW [windowKey 0 1] = true ∧
    (sgInvalidateOp opr 0).status sGateW = .ok ∧ glenServes sGateW = true ∧ gateBusy sGateW [sgInvalKey 0] = false := by decide +kernel
theorem wit_slot_power : (slotPowerOp opr 0 0 true).status s0 = .ok ∧ (slotPowerOp opr 0 1 false).status s0 = .ok ∧
    slotMode (sReg rOpen pUp) 0 ≠ 0 := by decide +kernel
theorem wit_region_objects : rOpen.st ≠ .recovering ∧ rOpen.iso ≠ some .destroy ∧ rOpen.byWrite = false ∧ rOpen.resetting = false ∧
    (regionDestroyOp opr 0x05010003).status (sReg { rOpen with st := .isolated } pUp) = .ok ∧
    ({ rOpen with st := .isolated } : SRegion).opening = false ∧ (allocIndex (sSlot slotReady pUp) 5).isSome = true := by decide +kernel
theorem wit_port_reset : portResets s0 0 = false ∧ portResets (sReg rOpen pUp) 0 = true ∧ (resetsWithin (sReg rOpen pUp) 0).length < 4 ∧
    (saddlePortResetOp opr 0).status (sReg rOpen pUp) = .ok ∧ rgPort rOpen.conf = 0 ∧ (handlerAt (sReg rOpen pUp) (handlerKey 2 4 0)).active = none := by
  decide +kernel
theorem wit_slot_fall : (handlerAt (isolateAll (sLnk .ready pUp) 0) (handlerKey 3 4 0)).active = none ∧ (slotOf (sLnk .ready pUp) 0).st ≠ .off := by
  decide +kernel
theorem wit_shift : (slotOf (sSlot { st := .configuring, cfg := .clearing, progN := true } {}) 0).progN = true ∧
    allShifted s0 { manifest := List.replicate 252 0 } = (decide (cfgCycles { manifest := List.replicate 252 0 } ≤ cfgCycle s0 { manifest := List.replicate 252 0 })) ∧
    allShifted (sSlot { st := .configuring, cfg := .shifting, manifest := List.replicate 20 1 ++ [0, 0, 0x27, 0x10] } {})
      { st := .configuring, cfg := .shifting, manifest := List.replicate 20 1 ++ [0, 0, 0x27, 0x10] } = false := by decide +kernel
theorem wit_link_fits : linkFits s0 0 32 8 = true ∧ linkFits sOdd 1 16 4 = true := by decide +kernel
theorem wit_iso_ends : regionOf (sReg { rOpen with iso := some .halt } pUp) 3 = some { rOpen with iso := some .halt } ∧
    regionOf (sReg { rOpen with iso := some .destroy } pUp) 3 = some { rOpen with iso := some .destroy } ∧ rgOwner rOpen.conf = 0 ∧
    (handlerAt (closeRegion (sReg { rOpen with iso := some .halt } pUp) 3) (handlerKey 2 4 0)).active = none := by decide +kernel
/-- The page entry of HBM's first page, valid for reads and writes, at the entry's address. -/
def ent : Nat := hbmBase 0 + 3
def pCach : SPort := cachePage pUp (ddrBase + 40) ent
theorem wit_write_open : WriteOpen (sWin rOpen pUp) wdRec ent wrReq [1, 2] :=
  ⟨by decide +kernel, by decide +kernel, by decide +kernel, by decide +kernel, by decide +kernel, by decide +kernel⟩
theorem wit_cached_write : cachedPage (sportOf (sWin rOpen pCach) 0) (ddrBase + 40) = some ent ∧ (sportOf (sWin rOpen pCach) 0).waits = [] ∧
    sgWindow (sWin rOpen pCach) 3 rOpen wrReq = .inr (wdRec, ddrBase + 40) ∧ sgRegion (sWin rOpen pCach) 0 wrReq = some 3 ∧
    sgHeld (sWin rOpen pCach) 3 rOpen wrReq = false ∧ sgDataLen wrReq ≤ 512 ∧
    512 < sgDataLen { wrReq with kind := .write (List.replicate 513 0) } := by decide +kernel
/-- The entry in memory: eight bytes big-endian at the page table's slot. -/
theorem wit_entry_memory : beNat (readInt { sWin rOpen pUp with mem := cells (ddrBase + 40) (beBytes 8 ent) } (ddrBase + 40) 8) = ent := by decide +kernel
def pktA : List Byte := [0, 14] ++ List.replicate 14 0 ++ List.replicate 14 7
theorem wit_aperture_packet : (0 : Nat) / 16384 = apNumber { rOpen with credit := 8 } % 8 ∧ 0 % 16384 = ({ rOpen with credit := 8 } : SRegion).apOff ∧
    ({ rOpen with credit := 8 } : SRegion).credit ≠ apNumber { rOpen with credit := 8 } ∧ ({ rOpen with credit := 8 } : SRegion).apBuf = [] ∧
    ({ rOpen with credit := 8 } : SRegion).apPkt = none ∧ pktA.length = 16 + beNat (pktA.take 2) ∧ 14 ≤ beNat (pktA.take 2) ∧ (pktA.take 15).length < 16 ∧
    rOpen.credit = apNumber rOpen ∧ portStalled (sReg rOpen pUp) 0 = false ∧ rgPkt (sReg rOpen pUp) rOpen = true ∧ pktA.length ≤ 512 := by decide +kernel

/-! ### Chapter 11 -/

def sHost (h : HostSt) : State := { s0 with boot := { glenUp := true, hostUp := true }, host := { h with perstN := true, configured := true } }
/-- The link in L0, one function with a state of its own. -/
def sFn (f : Nat) (x : HostFn) : State := sHost { link := 1, fns := [(f, x)] }
/-- VF 0 assigned to the operator. -/
def sVf : State := { sHost { link := 1 } with dict := { owners := [(3 * 65536, 0)] } }
def vfH : Handle := 0x03010000
theorem wit_vf : (vfReleaseOp opr vfH).status sVf = .ok ∧ (vfResetOp opr vfH).status sVf = .ok := by decide +kernel
def ten1 : Tenancy := { st := .active, mode := 1, dyn := false, shareEast := 0, shareWest := 0, handle := 0x01010000 }
theorem wit_vf_assign : (vfAssignOp opr 0x01010000).status { ten0 ten1 with dict := { nums := [(tkey 0 0xC001 3, 4)] } } = .ok := by decide +kernel
theorem wit_host_link : (sHost {}).boot.hostUp = true ∧ (sHost {}).err.failStop = false ∧ (sHost {}).host.perstN = true ∧ (sHost {}).host.link = 0 ∧
    LinkDownCause.hotReset ≠ .perstLow ∧ (sFn 1 {}).host.link ≠ 0 := by decide +kernel
theorem wit_functions : cfgServes (sFn 1 {}) 1 = true ∧ (fnOf (sFn 1 {}) 1).flr = 0 ∧ (fnOf (sFn 1 { flr := 1 }) 1).flr ≠ 0 ∧
    (fnOf (sFn 1 { flr := 1 }) 1).silenced = false ∧ (fnOf (sFn 1 { flr := 1 }) 1).flr = 1 ∧ (fnOf (sFn 1 { reason := 1 }) 1).silenced = false ∧
    fnHalted (sFn 1 { reason := 1 }) 1 = true ∧ (fnOf (sFn 1 { flr := 2, silenced := true }) 1).flr = 2 ∧
    (fnOf (sFn 1 { flr := 2, silenced := true }) 1).silenced = true ∧ (fnOf (sFn 1 { flr := 3 }) 1).flr = 3 ∧ 512 ≤ totalVfs (sFn 1 {}) 1 ∧
    (fnOf (sFn 1 {}) 1).numVfs ≠ 512 ∧ (fnOf (sFn 1 { vfEnable := true }) 1).vfEnable = true ∧ (fnOf (sFn 1 { numVfs := 512 }) 1).numVfs = 512 ∧
    ¬ ((fnOf (sFn 1 {}) 1).vfEnable = true ∧ false = false) ∧ ¬ (4 ≤ 1 ∧ ConfigField.busMaster = .intxDisable) := by decide +kernel
theorem wit_vectors : msixSize s0 4 ≤ 64 ∧ 63 < msixSize s0 4 ∧ fnServes (sFn 0 {}) 0 = true ∧
    msixReady (sFn 1 { pend := [3], msixEn := true, busMaster := true, msix := [(3, { lo := 0x1000, hi := 0, data := 7, ctrl := 0 })] }) 1 3 = true := by decide +kernel

/-- A window of PF1 of 4 KiB at its BAR2's start, on the start of DDR5, read and written. -/
def winRec : Nat := beNat ([0, 1, 7, 12] ++ beBytes 4 0 ++ beBytes 8 0 ++ beBytes 8 ddrBase)
def sWn : State := { sFn 1 {} with dict := { nums := [(winKey 0, winRec)] }, ctl := { ddr := [1, 0, 0, 0], ddrGib := 1 } }
theorem wit_windows : (winEntryOp opr 0 (BitVec.ofNat 192 winRec)).status sWn = .ok ∧ (winFirstMissOp opr).status sWn = .ok ∧ (qeLastFaultOp opr).status sWn = .ok ∧
    sWn.host.link ≠ 0 ∧ fnExists sWn 1 = true ∧ fnServes sWn 1 = true ∧ 4094 + 2 ≤ bar2Size sWn 1 ∧ winFor sWn 1 4094 2 = some winRec ∧
    winFor sWn 1 4095 2 = none ∧ bitOf (winFlags winRec) 2 = true ∧ bitOf (winFlags winRec) 1 = true ∧ winSaddle winRec = false ∧
    inDdrHbm sWn (winTarget winRec + (4094 - winBase winRec)) 2 = true ∧ fnServes (sFn 1 { flr := 1 }) 1 = false := by decide +kernel
def winRo : Nat := beNat ([0, 1, 3, 12] ++ beBytes 4 0 ++ beBytes 8 0 ++ beBytes 8 ddrBase)
theorem wit_window_closed : winFor { sWn with dict := { nums := [(winKey 0, winRo)] } } 1 0 4 = some winRo ∧ bitOf (winFlags winRo) 2 = false := by decide +kernel

/-- PF1 wants to write a byte to host memory. -/
def hostW : HReq := { fn := 1, dir := .toHost, addr := 0x1000, len := 1, data := [7] }
def hostR : HReq := { fn := 1, dir := .fromHost, addr := 0x1000, len := 64 }
def sReq (r : HReq) : State := sHost { link := 1, fns := [(1, { busMaster := true })], reqs := [r] }
theorem wit_traffic : (sReq hostW).err.failStop = false ∧ nextOfClient (sReq hostW) .toHost 0 = some hostW ∧ hostW.dir = .toHost ∧
    hostR.dir = .fromHost ∧ fnExists (sReq hostW) 1 = true ∧ (sReq hostW).host.link ≠ 0 ∧
    (drrPick ((List.range 258).filter (fun c => (sReq hostW).host.reqs.any (fun r => hostMay (sReq hostW) .toHost r && decide (clientOf (sReq hostW) r.fn = c))))
      (fun c => hostWeight (sReq hostW) c * 256) (fun c => tgetD (sReq hostW).host.arbDef (dirNum .toHost * 1024 + c) 0)
      (tget (sReq hostW).host.arbCur (dirNum .toHost))).any (fun x => decide (x.1 = 0)) = true := by decide +kernel

/-! ### Chapter 12 -/

def zeroQ : QCtx := { type := 1, fn := 1, lq := 3, logRing := 6, logCpl := 6, major := 2, minor := 0, ring := 0x10000, cpl := 0x20000, vector := 0xFFFF,
                      coalCount := 4, coalUsec := 10, weight := 1, burst := 1 }
/-- Context 7 of PF1, local number 3, and a command handed over. -/
def sQ (q : QCtx) (op : Nat) (cmd : List (Nat × Byte)) : State :=
  { sFn 1 { busMaster := true } with qe := { ctx := [(7, q)], blks := [(1, { go := true, opcode := op, cmd := cmd })] } }
/-- Type 1, rings of 64, version 2.9 to 2.0, weight 1, burst 1; the ring addresses are 0, the vector none. -/
def createCmd (major : Byte) : List (Nat × Byte) := [(0, 1), (2, 6), (3, 6), (4, major), (5, 9), (24, 0xFF), (25, 0xFF), (27, 1), (31, 1)]
theorem wit_queue_create :
    ((blkOf (sQ zeroQ 1 (createCmd 2)) 1).go = true ∧ (blkOf (sQ zeroQ 1 (createCmd 2)) 1).opcode = 1 ∧ hasQe (sQ zeroQ 1 (createCmd 2)) 1 = true ∧
      fnServes (sQ zeroQ 1 (createCmd 2)) 1 = true) ∧
    negotiate [(cmdField (blkOf (sQ zeroQ 1 (createCmd 2)) 1) 4 1, cmdField (blkOf (sQ zeroQ 1 (createCmd 2)) 1) 5 1),
      (cmdField (blkOf (sQ zeroQ 1 (createCmd 2)) 1) 6 1, cmdField (blkOf (sQ zeroQ 1 (createCmd 2)) 1) 7 1)] qeOffer = some (2, 1) ∧
    negotiate [(cmdField (blkOf (sQ zeroQ 1 (createCmd 4)) 1) 4 1, cmdField (blkOf (sQ zeroQ 1 (createCmd 4)) 1) 5 1),
      (cmdField (blkOf (sQ zeroQ 1 (createCmd 4)) 1) 6 1, cmdField (blkOf (sQ zeroQ 1 (createCmd 4)) 1) 7 1)] qeOffer = none ∧
    createBad (sQ zeroQ 1 (createCmd 2)) 1 (blkOf (sQ zeroQ 1 (createCmd 2)) 1) = false ∧ quotaOk (sQ zeroQ 1 (createCmd 2)) (fnOwner (sQ zeroQ 1 (createCmd 2)) 1) 2 = true ∧
    (allocIndex (sQ zeroQ 1 (createCmd 2)) 2).any (fun x => decide (x.1 = 0)) = true ∧ freeLq (sQ zeroQ 1 (createCmd 2)) 1 = some 0 := by decide +kernel
theorem wit_queue_commands : cmdCtx (sQ zeroQ 2 []) 1 (blkOf (sQ zeroQ 2 []) 1) = none ∧
    cmdCtx (sQ { zeroQ with st := .idle } 2 [(1, 3)]) 1 (blkOf (sQ { zeroQ with st := .idle } 2 [(1, 3)]) 1) = some (7, { zeroQ with st := .idle }) ∧
    cmdField (blkOf (sQ { zeroQ with st := .idle } 2 [(1, 3)]) 1) 8 8 % 4096 = 0 ∧ cmdField (blkOf (sQ { zeroQ with st := .idle } 2 [(1, 3)]) 1) 16 8 % 4096 = 0 ∧
    cmdCtx (sQ zeroQ 3 [(1, 3)]) 1 (blkOf (sQ zeroQ 3 [(1, 3)]) 1) = some (7, zeroQ) ∧ zeroQ.st ≠ .idle ∧
    cmdCtx (sQ zeroQ 4 [(1, 3), (7, 64)]) 1 (blkOf (sQ zeroQ 4 [(1, 3), (7, 64)]) 1) = some (7, zeroQ) ∧
    cmdField (blkOf (sQ zeroQ 4 [(1, 3), (7, 64)]) 1) 6 2 = ringSize zeroQ ∧ zeroQ.started = [] ∧ (blkOf (sQ zeroQ 5 [(1, 3)]) 1).opcode = 5 := by decide +kernel
theorem wit_doorbells : doorbellOpen (sQ zeroQ 0 []) 1 = true ∧ hasQe (sQ zeroQ 0 []) 1 = true ∧ fnServes (sQ zeroQ 0 []) 1 = true ∧
    fnServes (sFn 1 { silenced := true }) 1 = false ∧ lqCtx (sQ zeroQ 0 []) 1 4 = none ∧ lqCtx (sQ zeroQ 0 []) 1 3 = some (7, zeroQ) ∧ 3 < lqLimit 1 ∧ 4 < lqLimit 1 ∧ (64 : U16).toNat ≠ zeroQ.door ∧
    cdiff (64 : U16).toNat zeroQ.oldest ≤ ringSize zeroQ ∧ ringSize zeroQ < cdiff (65 : U16).toNat zeroQ.oldest ∧ cdiff (65 : U16).toNat zeroQ.door < 32768 ∧
    cdiff (0 : U16).toNat zeroQ.consumed ≤ cplHeld zeroQ ∧ cplHeld zeroQ < cdiff (1 : U16).toNat zeroQ.consumed ∧ ({ zeroQ with st := .halted } : QCtx).st ≠ .running := by
  decide +kernel

def ringReq (g : Bool) : HReq := { fn := 1, dir := .fromHost, addr := 0x10000, len := 64, granted := g }
/-- One position is rung, its ring read is granted. -/
def sFetch : State := { sQ { zeroQ with door := 1 } 0 [] with host := { (sQ zeroQ 0 []).host with reqs := [ringReq true] } }
/-- A transmit descriptor of one segment of 64 bytes. -/
def txDesc : List Byte := [0x80, 1, 1, 0] ++ beBytes 4 5 ++ List.replicate 8 0 ++ beBytes 8 0x5000 ++ beBytes 4 64 ++ List.replicate 36 0
def stTx : Started := { pos := 0, desc := txDesc, segs := [(0x5000, 64)], data := List.replicate 64 0, pkt := some 5 }
def ctlDesc (op : Byte) : List Byte := [0x80, op, 1, 0] ++ beBytes 4 5 ++ beBytes 8 ddrBase ++ beBytes 8 0x5000 ++ beBytes 4 8 ++ List.replicate 36 0
def stCtl (op : Byte) : Started := { pos := 0, desc := ctlDesc op, segs := [(0x5000, 8)], data := List.replicate 8 0 }
def qCtl (op : Byte) : QCtx := { zeroQ with type := 3, started := [stCtl op], startPos := 1, door := 1 }
def qRing : QCtx := { zeroQ with door := 1, ringRead := some (0, 1) }
def sRead : State := { sQ qRing 0 [] with host := { (sQ zeroQ 0 []).host with reqs := [ringReq true] }, hmem := cells 0x10000 txDesc }
theorem wit_fetch : ctxOf sRead 7 = some qRing ∧ qRing.st = .running ∧ qRing.ringRead = some (0, 1) ∧ qRing.cache = [] ∧ qRing.startPos = 0 ∧
    pendingRead sRead 1 (qRing.ring + 64 * (0 % ringSize qRing)) = some (ringReq true) ∧ (ringReq true).granted = true ∧ qRing.fetched = 0 ∧
    descItem sRead qRing (memReadN sRead.hmem (qRing.ring + 64 * (0 % ringSize qRing)) 64) = 0 ∧
    (ringReadBack sRead 7 qRing).isSome = true ∧ (ringReadAt sRead 7 qRing 0).isSome = true := by decide +kernel
/-- The intake has granted its host source. -/
def sStart (q : QCtx) : State := { sQ q 0 [] with east := { path := { hostGrant := true } }, ctl := { ddr := [1, 0, 0, 0], ddrGib := 1 } }
def qOut : QCtx := { zeroQ with type := 3, fn := 1, door := 1, cache := [(0, ctlDesc 4)] }
theorem wit_start : (qePick (sStart { zeroQ with door := 1, cache := [(0, txDesc)] })).any (fun x => decide (x.2.1 < 0x100000) &&
      (startGranted x.2.2 x.2.1).isSome) = true ∧
    (qePick (sStart qOut)).any (fun x => decide (x.2.1 = 7) && (startGranted x.2.2 7).isSome) = true ∧ ctxOf (sStart qOut) 7 = some qOut ∧
    qOut.cache.find? (fun x => decide (x.1 = qOut.startPos)) = some (0, ctlDesc 4) ∧ dField (ctlDesc 4) 1 1 = 4 ∧ dIndirect (ctlDesc 4) = false ∧
    segsBad qOut (segList ((ctlDesc 4).drop 16) (segCount qOut (ctlDesc 4))) = false ∧
    internalBad (sStart qOut) qOut (ctlDesc 4) (segList ((ctlDesc 4).drop 16) (segCount qOut (ctlDesc 4))) = false := by decide +kernel
theorem wit_items : bitOf ((List.replicate 64 (0 : Byte)).getD 0 0).toNat 7 = false ∧ bitOf (txDesc.getD 0 0).toNat 7 = true ∧
    dField txDesc 1 1 ≠ 2 := by decide +kernel
theorem wit_ends : stTx.pkt = some 5 ∧ ({ zeroQ with started := [stTx] } : QCtx).started = stTx :: [] ∧
    (qCtl 3).started.find? (fun x => decide (x.pos = (0 : U16).toNat)) = some (stCtl 3) ∧ (qCtl 3).type = 3 ∧ (qCtl 3).st = .running ∧
    fnIssues (sQ (qCtl 3) 0 []) 1 = true ∧ dField (stCtl 3).desc 1 1 = 3 ∧ dField (stCtl 4).desc 1 1 = 4 ∧ dField stTx.desc 1 1 ≠ 4 ∧
    poisoned (sQ (qCtl 4) 0 []) (dField (stCtl 4).desc 8 8) (totalLen (stCtl 4).segs) = false ∧
    cplHeld { zeroQ with written := 64 } = cplSize { zeroQ with written := 64 } ∧ cplRoom zeroQ = true ∧ cplRoom (qCtl 3) = true ∧
    ownQueue (sQ (qCtl 3) 0 []) (fnOwner (sQ (qCtl 3) 0 []) 1) = false ∧ (handlerAt (sQ (qCtl 3) 0 []) (handlerKey 2 3 2)).active = none ∧
    (3 : Nat) ≠ 0xFFFF ∧ 3 < msixSize (sQ zeroQ 0 []) 1 ∧ zeroQ.coalUsec ≠ 0 ∧ ({ zeroQ with unsig := 1 } : QCtx).unsig ≠ 0 := by decide +kernel
/-- A packet waits for receive queue 7. -/
def sDeliver (q : QCtx) : State := { sQ q 0 [] with east := { path := { packets := [(5, { out := List.replicate 64 7, loc := .toHost 7 })], nextPkt := 6 } } }
def qRx : QCtx := { zeroQ with type := 2, door := 1, cache := [(0, txDesc)] }
theorem wit_deliver : rxOldest (sDeliver qRx) 7 = some (.east, 5) ∧ rxAlive (sDeliver qRx) qRx = true ∧ qRx.type = 2 ∧ fnIssues (sDeliver qRx) 1 = true ∧
    fnHeld (sDeliver qRx) 1 = false ∧ qRx.cache.find? (fun d => decide (d.1 = qRx.startPos)) = some (0, txDesc) ∧
    pktAt (sDeliver qRx) .east 5 = some { out := List.replicate 64 7, loc := .toHost 7 } ∧ rxAlive (sDeliver qRx) { qRx with st := .halted } = false ∧
    dIndirect txDesc = false ∧ segsBad qRx (segList (txDesc.drop 16) (segCount qRx txDesc)) = false ∧ cplRoom qRx = true ∧
    (List.replicate 64 (7 : Byte)).length ≤ totalLen (segList (txDesc.drop 16) (segCount qRx txDesc)) ∧
    rxOldest { sDeliver qRx with qe := {} } 7 = some (.east, 5) ∧ ctxOf { sDeliver qRx with qe := {} } 7 = none := by decide +kernel
theorem wit_completion : ({ pos := 1 } : Cpl).rx.length = 16 ∧ zeroQ.written % cplSize zeroQ + 1 ≠ cplSize zeroQ ∧ ({ pos := 1 } : Cpl).error = false ∧
    zeroQ.unsig + 1 < zeroQ.coalCount ∧ (fnOf (sQ zeroQ 0 []) 1).silenced = false ∧ ctxOf (sQ zeroQ 0 []) 7 = some zeroQ := by decide +kernel

theorem wit_vf_flr : (fnOf (sFn 4 { flr := 3, releasing := true }) 4).flr = 3 ∧ (fnOf (sFn 4 { flr := 3, releasing := true }) 4).releasing = true ∧
    (fnOf (sFn 4 { flr := 3 }) 4).releasing = false ∧ (fnOf sVf (hIdx vfH + 4)).flr = 0 ∧ (sFn 1 { flr := 1 }).saddle.gateWaits = [] := by decide +kernel
theorem wit_arbiter : (arbPick (sReq hostW) .toHost none).any (fun x => decide (x.1 = 0)) = true ∧
    (arbPick (sReq hostR) .fromHost none).any (fun x => decide (x.1 = 0)) = true ∧ nextOfClient (sReq hostR) .fromHost 0 = some hostR ∧
    (sReq hostW).saddle.gateWaits = [] ∧ readsOut (sReq hostR) < 768 ∧ (fnOf (sReq hostW) 1).unc = 0 := by decide +kernel
theorem wit_vf_enable : (fnOf (sFn 1 { vfEnable := true, numVfs := 4 }) 1).vfEnable = true ∧ (fnOf (sFn 1 { vfEnable := true, numVfs := 4 }) 1).numVfs ≠ 5 := by
  decide +kernel

/-! ### Chapter 13 -/

/-- An entry of a submission queue: opcode, identifier 7, namespace, and Dwords by number. -/
def nvEntry (op ns : Nat) (dws : List (Nat × Nat)) : List Byte :=
  nvStruct 64 ((0, 1, op) :: (2, 2, 7) :: (4, 4, ns) :: dws.map (fun d => (4 * d.1, 4, d.2)))
def ctl0 : NvCtrl := { fn := 2, maxQ := 4, owner := 0, cc := 0x00460001, rdy := true }
def asq (e : Option (List Byte)) : NvQ := { ctrl := 0, sq := true, qid := 0, base := 0x1000, size := 8, cq := 0, entry := e }
def acq : NvQ := { ctrl := 0, sq := false, qid := 0, base := 0x2000, size := 8 }
def iosq : NvQ := { ctrl := 0, sq := true, qid := 1, base := 0x3000, size := 8, cq := 1 }
def iocq : NvQ := { ctrl := 0, sq := false, qid := 1, base := 0x4000, size := 8 }
/-- Controller 0 at PF2 with its admin pair (contexts 10 and 11) and more queues; key slot 5 of kind 2. -/
def sNv (x : NvCtrl) (e : Option (List Byte)) (more : List (Nat × NvQ)) : State :=
  { sFn 2 { busMaster := true } with
    nv := { ctrls := [(0, x)], qs := [(10, asq e), (11, acq)] ++ more, nextTag := 3 }
    vault := { slots := [(5, { kind := 2, flags := 0, owner := 0, mat := List.replicate 32 1 ++ List.replicate 32 2 })] } }
def sAdm (b : List Byte) : State := sNv ctl0 (some b) [(12, iocq), (13, iosq)]
theorem wit_admin (b : List Byte) (h0 : sField b 1 1 = 0) : AdminAt (sAdm b) 0 (sField b 0 1) ctl0 10 b :=
  ⟨rfl, ⟨asq (some b), rfl, rfl⟩, rfl, h0, rfl, rfl, rfl⟩
/-- What is posted to the admin completion queue finds room. -/
theorem wit_posted (b : List Byte) (st dw0 : Nat) : ∃ t, Posted (sAdm b) t 0 10 b st dw0 := by
  have h : (nvPost (modNvQ (sAdm b) 10 (fun y => { y with entry := none })) 0 10 (sCid b) st dw0 (sNsid b)).isSome = true := by
    unfold nvPost
    rfl
  exact ⟨_, (Option.some_get h).symm⟩

def ldb (op ns : Nat) (d : List (Nat × Nat)) : List Byte := nvEntry op ns d
theorem wit_create_cq : sField (nvEntry 5 0 [(10, 0x00070002), (11, 0x00010003)]) 0 1 = 5 ∧ sField (nvEntry 5 0 [(10, 0x00070002), (11, 0x00010003)]) 1 1 = 0 ∧
    qidBad (sAdm []) 0 ctl0 false (sDw (nvEntry 5 0 [(10, 0x00070001)]) 10 % 65536) = true ∧
    qidBad (sAdm []) 0 ctl0 false (sDw (nvEntry 5 0 [(10, 0x00070002)]) 10 % 65536) = false ∧ sizeBad (sDw (nvEntry 5 0 [(10, 0x00070002)]) 10 / 65536) = false ∧
    bitOf (sDw (nvEntry 5 0 [(10, 0x00070002), (11, 0x00010003)]) 11) 0 = true ∧ sField (nvEntry 5 0 [(10, 0x00070002), (11, 0x00010003)]) 24 8 % 4096 = 0 ∧
    sDw (nvEntry 5 0 [(10, 0x00070002), (11, 0x00010003)]) 11 / 65536 < msixSize (sAdm []) ctl0.fn ∧
    (nvNewQ (sAdm []) ctl0 { ctrl := 0, sq := false, qid := 2, base := 0, size := 8, vector := 1, ien := true }).isSome = true := by decide +kernel
/-- The completion of the create is posted too. -/
theorem wit_create_posted : ((nvNewQ (sAdm []) ctl0 { ctrl := 0, sq := false, qid := 2, base := 0, size := 8, vector := 1, ien := true }).bind
      (fun u => nvPost (modNvQ u 10 (fun y => { y with entry := none })) 0 10 7 0 0 0)).isSome = true ∧
    ((nvNewQ (sAdm []) ctl0 { ctrl := 0, sq := true, qid := 2, base := 0, size := 8, cq := 1 }).bind
      (fun u => nvPost (modNvQ u 10 (fun y => { y with entry := none })) 0 10 7 0 0 0)).isSome = true ∧
    (nvPost (modNvQ (dropNvQ (sAdm []) 13 true) 10 (fun y => { y with entry := none })) 0 10 7 0 0 0).isSome = true ∧
    (nvPost (modNvQ (dropNvQ (sNv ctl0 (some []) [(12, iocq)]) 12 true) 10 (fun y => { y with entry := none })) 0 10 7 0 0 0).isSome = true ∧
    (nvPost (modNvQ (setNv (sAdm []) 0 { ctl0 with feats := tset ctl0.feats 8 3 }) 10 (fun y => { y with entry := none })) 0 10 7 0 0 0).isSome = true := by decide +kernel
theorem wit_create_sq : sDw (nvEntry 1 0 [(11, 0x00020001)]) 11 / 65536 ≠ 0 ∧ nvFind (sAdm []) 0 false (sDw (nvEntry 1 0 [(11, 0x00020001)]) 11 / 65536) = none ∧
    (nvFind (sAdm []) 0 false (sDw (nvEntry 1 0 [(10, 0x00070002), (11, 0x00010001)]) 11 / 65536)).isSome = true ∧
    qidBad (sAdm []) 0 ctl0 true (sDw (nvEntry 1 0 [(10, 0x00070002), (11, 0x00010001)]) 10 % 65536) = false := by decide +kernel
theorem wit_delete : nvFind (sAdm (nvEntry 0 0 [(10, 1)])) 0 true (sDw (nvEntry 0 0 [(10, 1)]) 10 % 65536) = some (13, iosq) ∧ iosq.deleting = none ∧
    (sAdm []).nv.cmds = [] ∧ nvFind (sAdm (nvEntry 4 0 [(10, 1)])) 0 false (sDw (nvEntry 4 0 [(10, 1)]) 10 % 65536) = some (12, iocq) ∧
    ((13, iosq) ∈ (sAdm []).nv.qs ∧ iosq.cq = sDw (nvEntry 4 0 [(10, 1)]) 10 % 65536) ∧
    (∀ p ∈ (sNv ctl0 none [(12, iocq)]).nv.qs, p.2.ctrl = 0 → p.2.sq = true → p.2.cq ≠ sDw (nvEntry 4 0 [(10, 1)]) 10 % 65536) := by decide +kernel
theorem wit_pages : (logPage (sAdm []) ctl0 (sDw (nvEntry 2 0 [(10, 0x000F8002)]) 10 % 256)).any (fun p => decide (p.length = 512)) = true ∧
    sDw (nvEntry 2 0 [(10, 0x000F8002)]) 12 + sDw (nvEntry 2 0 [(10, 0x000F8002)]) 13 * 2 ^ 32 = 0 ∧ bitOf (sDw (nvEntry 2 0 [(10, 0x000F8002)]) 10) 15 = true := by
  decide +kernel
theorem wit_identify : sDw (nvEntry 6 0 [(10, 1)]) 10 % 256 = 1 ∧ 3 < sDw (nvEntry 6 0 [(10, 4)]) 10 % 256 ∧ sDw (nvEntry 9 0 [(10, 8)]) 10 % 256 = 8 ∧
    bitOf (sDw (nvEntry 9 0 [(10, 8)]) 10) 31 = false ∧ bitsOf (sDw (nvEntry 10 0 [(10, 8)]) 10) 8 3 = 0 ∧ ctl0.aers.length < 4 ∧
    4 ≤ ({ ctl0 with aers := [1, 2, 3, 4] } : NvCtrl).aers.length ∧ sDw (nvEntry 0x80 1 []) 10 % 16 = 0 := by decide +kernel
/-- An answer of an admin command is written and its completion posted, whatever the data. -/
theorem wit_answer : (nvPost (modNvQ (nvAnswer (sAdm (nvEntry 6 0 [(6, 0x8000)])) 0 (nvEntry 6 0 [(6, 0x8000)]) (List.replicate 512 0)) 10
    (fun y => { y with entry := none })) 0 10 7 0 0 0).isSome = true := by decide +kernel

/-- Volume 3: namespace 1 of controller 0, 512-byte blocks, on the SSD of port 1, key slot 5, 100 blocks. -/
def volR (backend flags : Nat) : Nat := beNat (beBytes 4 0 ++ beBytes 4 0x04010000 ++ beBytes 1 1 ++ beBytes 1 9 ++ beBytes 1 backend ++ beBytes 1 flags ++ beBytes 2 5 ++ beBytes 1 1 ++ beBytes 1 0 ++
  beBytes 8 100 ++ beBytes 4 1 ++ beBytes 4 0 ++ beBytes 8 0 ++ beBytes 8 1)
def ssd1 : Ssd := { nss := [(1, (9, 1000))], mqes := 63, pairs := 4 }
def readB : List Byte := nvEntry 2 1 [(6, 0x8000), (10, 90), (12, 9)]
def nvc (op : Nat) (b : List Byte) (rs : List (Nat × Nat)) : NvCmd := { ctrl := 0, sq := 13, cid := 7, op := op, bytes := b, vol := 3, ranges := rs }
/-- Volume 3 is there, HBM holds its buffers, the commands are in progress. -/
def sVol (r : Nat) (cmds : List (Nat × NvCmd)) : State :=
  { sAdm [] with
    nv := { (sAdm []).nv with cmds := cmds, ssds := [(1, ssd1)] }
    dict := { nums := [(volKey 3, r)], owners := [(4 * 65536, 0)] }
    ctl := { hbm := [{ trained := true, flood := 2, ext := 2, nvme := 4 }, { trained := true, flood := 2, ext := 2, nvme := 4 }] } }
theorem wit_volume : volOf (sVol (volR 1 0) []) 0 1 = some (3, volR 1 0) ∧ volProtected (volR 1 0) = false ∧ volProtected (volR 1 1) = true ∧
    volOf (sVol (volR 1 1) []) 0 1 = some (3, volR 1 1) ∧ volOf (sVol (volR 1 0) []) 0 2 = none ∧ (ioRange readB).1 + (ioRange readB).2 = volCapacity (volR 1 0) ∧
    (ioRange readB).2 * lbaSize (volR 1 0) ≤ 1048576 ∧ sField readB 0 1 = 2 ∧ sField readB 1 1 = 0 ∧ sField readB 0 1 ∈ [0x00, 0x01, 0x02, 0x08, 0x09] ∧
    sField (nvEntry 4 1 []) 0 1 ∉ [0x00, 0x01, 0x02, 0x08, 0x09] ∧ (volKeyMat (sVol (volR 1 0) []) (volR 1 0)).isSome = true ∧
    (allocBuf (sVol (volR 1 0) []) ((ioRange readB).2 * lbaSize (volR 1 0))).isSome = true ∧ volBackend (volR 1 0) ≠ 2 ∧
    tget (sVol (volR 1 0) []).nv.ssds (volWhere (volR 1 0)) = some ssd1 ∧ ssd1.pairs ≠ 0 := by decide +kernel
theorem wit_nvme_objects : (nvmeVolOp opr 3 (BitVec.ofNat 384 (volR 1 0))).status (sVol (volR 1 0) []) = .notReady ∧
    (nvmeVolOp opr 3 (BitVec.ofNat 384 (volR 1 0))).status { sVol (volR 1 0) [] with nv := { ctrls := [(0, { ctl0 with cc := 0 })], ssds := [(1, ssd1)] } } = .ok ∧
    (nvmeCtrlCreateOp opr (BitVec.ofNat 64 (2 * 2 ^ 48 + 4 * 2 ^ 40))).status s0 = .ok ∧ (nvmeCtrlDestroyOp opr 0x04010000).status (sVol (volR 1 0) []) = .ok := by decide +kernel
theorem wit_cc : nvEn { ctl0 with cc := 0 } = false ∧ nvCtrl (sNv { ctl0 with cc := 0 } none []) 0 = some { ctl0 with cc := 0 } ∧ fnServes (sAdm []) 2 = true ∧
    (0x00460001 : U32).getLsbD 0 = true ∧ ccInvalid 0x00460001 = false ∧ ccInvalid 0x00460081 = true ∧ nvEn ctl0 = true ∧ (10, asq none) ∈ (sNv ctl0 none []).nv.qs := by
  decide +kernel
theorem wit_nvme_doorbells : doorbellOf (sAdm []) 2 1 = some (0, ctl0) ∧ nvFind (setNv (sAdm []) 0 (psTouch ctl0 true)) 0 true 2 = none ∧
    nvFind (setNv (sAdm []) 0 (psTouch ctl0 true)) 0 false 2 = none ∧ doorbellOf (sAdm []) 2 2 = some (0, ctl0) ∧
    nvFind (setNv (sAdm []) 0 (psTouch ctl0 true)) 0 true 1 = some (13, iosq) ∧ nvFind (setNv (sAdm []) 0 (psTouch ctl0 true)) 0 false 1 = some (12, iocq) ∧
    iosq.frozen = false ∧ ctl0.cfs = false ∧ (7 : U16).toNat < iosq.size ∧ (7 : U16).toNat ≠ iosq.head ∧ iosq.size ≤ (8 : U16).toNat ∧ (0 : U16).toNat = iosq.head ∧
    ((0 : U16).toNat + iocq.size - iocq.head) % max 1 iocq.size ≤ iocq.used ∧ iocq.size ≤ (8 : U16).toNat := by decide +kernel
/-- State 0 goes to state 3 after 5 ms. -/
def ctlPs : NvCtrl := { ctl0 with feats := [(0x0C, 1)], apst := [0x18, 5] ++ List.replicate 254 0 }
theorem wit_power_states : nvCtrl (sNv ctlPs none []) 0 = some ctlPs ∧ ctlPs.rdy = true ∧ tgetD ctlPs.feats 0x0C 0 = 1 ∧ ctlPs.psTo = none ∧ nvIdle (sNv ctlPs none []) 0 = true ∧
    bitsOf (sField ctlPs.apst (8 * ctlPs.ps) 8) 3 5 = 3 ∧ bitsOf (sField ctlPs.apst (8 * ctlPs.ps) 8) 8 24 ≠ 0 ∧ ({ ctlPs with psTo := some 3 } : NvCtrl).psTo = some 3 ∧
    (tgetD (sReg rOpen pUp).saddle.ports 1 {}).link = false ∧ (tgetD ({ s0 with saddle := { ports := [(1, pUp)] } } : State).saddle.ports 1 {}).link = true := by decide +kernel
theorem wit_limits : nvFind (sNv ctl0 none [(12, { iocq with used := 7 })]) 0 false 1 = some (12, { iocq with used := 7 }) ∧ ({ iocq with used := 7 } : NvQ).size ≤ 7 + 1 ∧
    iocq.size ≠ 0 ∧ sqEligible (sNv ctl0 none [(12, iocq), (13, { iosq with tail := 1 })]) { iosq with tail := 1 } = true ∧
    nvFind (sNv ctl0 none [(12, iocq), (13, { iosq with wait := some readB })]) 0 true 1 = some (13, { iosq with wait := some readB }) := by decide +kernel

theorem wit_io (op : Nat) (b : List Byte) (rs : List (Nat × Nat)) : IoAt (sVol (volR 1 0) [(2, nvc op b rs)]) 0 2 op (nvc op b rs) := ⟨rfl, rfl, rfl, rfl, rfl, rfl⟩
theorem wit_io_runs : fnIssues (sVol (volR 1 0) []) (nvFn (sVol (volR 1 0) []) 0) = true ∧ fnHeld (sVol (volR 1 0) []) (nvFn (sVol (volR 1 0) []) 0) = false ∧
    nvMayStart (sVol (volR 1 0) [(2, { nvc 1 readB [(90, 10)] with ready := true })]) 2 { nvc 1 readB [(90, 10)] with ready := true } = true ∧
    nvMayStart (sVol (volR 1 0) [(1, nvc 1 readB [(95, 10)]), (2, nvc 2 readB [(90, 10)])]) 2 (nvc 2 readB [(90, 10)]) = false ∧
    tget (sVol (volR 1 0) [(2, { nvc 1 readB [] with started := true })]).nv.cmds 2 = some { nvc 1 readB [] with started := true } ∧
    (∀ p ∈ (sVol (volR 1 0) [(1, nvc 2 readB []), (2, nvc 0 readB [])]).nv.cmds, p.1 < 2 → p.2.vol = (nvc 0 readB []).vol → writeClass p.2 = false) := by decide +kernel
theorem wit_post : tget (sAdm []).nv.qs 13 = some iosq ∧ nvFind (sAdm []) 0 false iosq.cq = some (12, iocq) ∧ iocq.frozen = false ∧ iocq.used + 1 < iocq.size ∧
    ({ iocq with used := 7 } : NvQ).size ≤ ({ iocq with used := 7 } : NvQ).used + 1 ∧ (∀ m ∈ (sAdm []).nv.cmds, m.2.ctrl = 0 → m.2.cid = 5 → m.2.started = true) := by
  decide +kernel

/-- Completions of the admin queue and of I/O queue 13 find room. -/
theorem wit_post_room : PostRoom (modNvQ (sAdm []) 10 (fun y => { y with entry := none })) 0 10 :=
  ⟨asq none, 11, acq, rfl, rfl, rfl, by decide⟩
theorem wit_result_room (op : Nat) (b : List Byte) : ResultRoom (sVol (volR 1 0) [(2, nvc op b [])]) (nvc op b []) :=
  ⟨iosq, 12, iocq, rfl, rfl, rfl, (show (12 : Nat) ≠ 13 by decide), rfl, by decide⟩
theorem wit_delete_waits : (∀ m ∈ (sAdm []).nv.cmds, m.2.sq ≠ 13) ∧ headWaits (sAdm []) 0 1 5 = none ∧
    (∀ p ∈ (sNv ctl0 none [(12, iocq)]).nv.qs, p.2.ctrl = 0 → p.2.sq = true → p.2.cq ≠ 1) ∧
    (∃ p ∈ (sAdm []).nv.qs, p.2.ctrl = 0 ∧ p.2.sq = true ∧ p.2.cq = 1) ∧
    (tget (sVol (volR 1 0) [(2, nvc 1 readB [])]).nv.qs (nvc 1 readB []).sq).map (·.qid) = some 1 :=
  ⟨by decide +kernel, by decide +kernel, by decide +kernel, ⟨(13, iosq), by decide +kernel, rfl, rfl, rfl⟩, rfl⟩
theorem wit_no_events : ctl0.aers = [] ∧ ctl0.evts = [] ∧ (∀ p ∈ (sAdm []).nv.qs, p.2.deleting = none) ∧ (sAdm []).nv.cmds = [] ∧
    ownQueue (sAdm []) ctl0.owner = false ∧ (handlerAt (sAdm []) (handlerKey 2 3 3)).active = none ∧ iocq.qid ≠ 0 := by decide +kernel
theorem wit_flush_fetch : sField (nvEntry 0 1 []) 0 1 = 0 ∧ sField (nvEntry 0 1 []) 1 1 = 0 ∧ volOf (sVol (volR 1 0) []) 0 1 = some (3, volR 1 0) ∧
    rlockUsed (sVol (volR 1 0) []) ≤ 16384 := by decide +kernel
/-- The admin submission queue has an entry to fetch, at its head in host memory, and its function's read turn has come. -/
def sAdmF : State :=
  { sFn 2 { busMaster := true } with
    nv := { ctrls := [(0, ctl0)], qs := [(10, { asq none with tail := 1 }), (11, acq)], nextTag := 3 }, hmem := cells 0x1000 (nvEntry 6 0 [(10, 1)]) }
theorem wit_admin_fetch : nvFind sAdmF 0 true 0 = some (10, { asq none with tail := 1 }) ∧
    (qePick sAdmF).any (fun x => decide (x.2.1 = sqKey { asq none with tail := 1 }) && (readTurn x.2.2 (nvFn sAdmF 0)).isSome) = true ∧
    sField (memReadN sAdmF.hmem 0x1000 64) 0 1 ∈ adminOps := by decide +kernel
theorem wit_io_transfer : ioOptionBad readB = false ∧ prpReads readB ((ioRange readB).2 * lbaSize (volR 1 0)) = false ∧
    prpReads (nvEntry 2 1 [(6, 0x8000), (12, 19)]) (20 * lbaSize (volR 1 0)) = true ∧
    (readTurn (sVol (volR 1 0) []) (nvFn (sVol (volR 1 0) []) 0)).isSome = true ∧ volBackend (volR 2 0) ≠ 1 ∧ volBackend (volR 1 0) = 1 ∧
    (allocBuf (sVol (volR 1 0) []) (16 * [(90, 10)].length)).isSome = true ∧
    pairOpen (sVol (volR 1 0) []) (volWhere (volR 1 0)) ((nvc 1 readB []).ctrl % ssd1.pairs) < pairDepth ssd1 ∧
    (sVol (volR 1 0) []).err.failStop = false := by decide +kernel
theorem wit_answered : ({ nvc 8 readB [] with started := true, left := 1 } : NvCmd).left ≤ 1 ∧ (nvc 8 readB []).op ≠ 1 ∧ (nvc 8 readB []).op ≠ 2 ∧
    (nvc 8 readB []).cpl = none ∧ (nvc 8 readB []).started = false := by decide

/-! ### Chapters 14 and 15 -/

def tenH : Handle := 0x01010000
/-- Tenancy 0 is Active, its VF 0 serves its mailbox, a range of one page logs, DDR5 is up. -/
def sMig (m : Mig) (mb : Mailbox) : State :=
  { ten0 ten1 with mig := [(0, m)], mbox := [(0, mb)], host := { link := 1, perstN := true, configured := true }
                   dict := { nums := [(tkey 0 0xC070 1, 0x03010000)], owners := [(3 * 65536, tenH)] }, ctl := { ddr := [1, 0, 0, 0], ddrGib := 1 } }
def rng : DplRange := { base := 0x1000, pages := 1, bitmap := ddrBase }
def mOn : Mig := { on := true, ranges := [(0, rng)] }
def hvRec : Nat := beNat ([0, 1, 0, 0] ++ beBytes 4 0 ++ beBytes 4 1 ++ beBytes 4 0 ++ beBytes 8 0x8000 ++ beBytes 8 0)
def dplRec (pages : Nat) : Nat := beNat (beBytes 8 0x5000 ++ beBytes 4 pages ++ beBytes 4 0 ++ beBytes 8 (ddrBase + 64))
theorem wit_migration : (dplRangeOp opr tenH 1 (BitVec.ofNat 192 (dplRec 1))).status (sMig {} {}) = .ok ∧ (dplRangeOp opr tenH 1 (BitVec.ofNat 192 (dplRec 0))).status (sMig {} {}) = .ok ∧
    dplPages (BitVec.ofNat 192 (dplRec 1)).toNat ≠ 0 ∧ dplPages (BitVec.ofNat 192 (dplRec 0)).toNat = 0 ∧
    (dplCtrlOp opr tenH 1).status (sMig {} {}) = .ok ∧ (dplHarvestOp opr tenH (BitVec.ofNat 256 hvRec)).status (sMig mOn {}) = .ok ∧ hvSpace (BitVec.ofNat 256 hvRec).toNat = 1 ∧
    tget (migOf (sMig mOn {}) (hIdx tenH)).ranges (hvRange (BitVec.ofNat 256 hvRec).toNat) = some rng ∧ (migOf (sMig mOn {}) 0).on = true ∧
    dplRange (migOf (sMig mOn {}) 0) 0x1FFF = some (rng, 0) ∧ dplRange (migOf (sMig mOn {}) 0) 0x2000 = none ∧ (migOf (sMig {} {}) 0).on = false ∧
    (migHoldOp opr tenH 1).status (sMig {} {}) = .ok ∧ (migHoldOp opr tenH 0).status (sMig {} {}) = .ok ∧ (migOf (sMig {} {}) (hIdx tenH)).hold = 0 ∧
    (migOf (sMig { hold := 1 } {}) 0).hold = 1 := by decide +kernel
theorem wit_mailboxes : (mbResetOp opr tenH).status (sMig {} {}) = .ok ∧ (mbFunctionOp opr tenH 0).status (sMig {} {}) = .ok ∧ mbTakes (sMig {} {}) 0 .operator = true ∧
    mbTakes (sMig {} {}) 0 .tenant = true ∧ mbAccepts true 16 0 0 = true ∧ mbAccepts true 17 0 0 = false ∧ mbAccepts false 1 0 0 = false ∧
    mbAccepts true 16 (mbCounts (mbOf (sMig {} {}) 0) .tenant true).1 (mbCounts (mbOf (sMig {} {}) 0) .tenant true).2 = true ∧
    mbAccepts true 17 (mbCounts (mbOf (sMig {} {}) 0) .tenant true).1 (mbCounts (mbOf (sMig {} {}) 0) .tenant true).2 = false ∧
    mbOccupied (mbOf (sMig {} {}) 0).txProd (mbOf (sMig {} {}) 0).txCons 0 = false ∧
    mbOccupied (mbOf (sMig {} { txProd := 1 }) 0).txProd (mbOf (sMig {} { txProd := 1 }) 0).txCons 0 = true ∧ mbOccupied (mbOf (sMig {} {}) 0).rxProd (mbOf (sMig {} {}) 0).rxCons 15 = false ∧
    (mbOf (sMig {} { resetting := true }) 0).resetting = true ∧ bitsOf (0x01000000 : U32).toNat 24 8 ≠ 0 ∧ bitsOf (0x02000000 : U32).toNat 24 8 ≠ 0 ∧
    negotiate (mbOffer 0x01000000) (mbOffer 0x02000100) = some (1, 0) ∧ negotiate (mbOffer 0x01000100) (mbOffer 0x02000200) = none := by decide +kernel

def sCtl (c : CtlState) : State := { s0 with ctl := c }
theorem wit_harts : quadClosed s0 (23 / 4) = false ∧ (hartOf s0 23).stopped = true ∧ (quadTestOp opr 5).status s0 = .ok ∧ (sCtl { quadTest := some 5 }).ctl.quadTest = some 5 ∧
    (sCtl { quadTest := some 5 }).ctl.quadQueue = [] ∧ (sCtl { quadTest := some 5 }).err.testFails.contains (unitId 2 6 5 0xFFF) = false := by decide +kernel
/-- Ring 0 and injection ring 1152 in DDR5; 16 slots of 1024 bytes. -/
def ringAt (en : Bool) : SRing := { baseLo := 0, baseHi := ddrBase / 2 ^ 32, en := en, log2 := 4 }
def sStRing (en : Bool) : State := sCtl { rings := [(0, ringAt en), (1152, ringAt en)], ddr := [1, 0, 0, 0], ddrGib := 1 }
theorem wit_rings : sringValid 0 = true ∧ bitOf (0x80040000 : U32).toNat 31 = true ∧ (sringOf (sStRing true) 0).en = true ∧ (sringOf (sStRing false) 0).en = false ∧
    sringFits (sStRing false) { sringOf (sStRing false) 0 with log2 := bitsOf (0x80040000 : U32).toNat 16 4, size := bitsOf (0x80040000 : U32).toNat 12 3, irq := (0x80040000 : U32).toNat % 2048 } = true ∧
    sringFits (sStRing false) { sringOf (sStRing false) 0 with log2 := bitsOf (0x80030000 : U32).toNat 16 4, size := bitsOf (0x80030000 : U32).toNat 12 3, irq := (0x80030000 : U32).toNat % 2048 } = false ∧
    sringAccepts 1152 (sringOf (sStRing true) 1152) 16 = true ∧ sringAccepts 1152 (sringOf (sStRing true) 1152) 17 = false ∧ sringAccepts 0 (sringOf (sStRing true) 0) 1 = false := by decide +kernel
def sSpit (x : Spit) : State := sCtl { spit := x }
theorem wit_peripherals : (periphEnOp opr 1).status s0 = .ok ∧ (sSpit {}).ctl.spit.active = false ∧ periphOn (sSpit {}) 3 = true ∧ spitRefused (0x4004000C : U32).toNat = false ∧
    bitsOf (0x4004000C : U32).toNat 30 2 = 1 ∧ spitRefused (0x80040FF0 : U32).toNat = false ∧ bitsOf (0x80040FF0 : U32).toNat 30 2 = 2 ∧ spitRefused (0x80000FF0 : U32).toNat = true ∧
    (sSpit { active := true, op := 2, count := 1, addr := 1020 }).ctl.spit.op = 2 ∧ (sSpit { active := true, op := 2, count := 1, addr := 1020 }).ctl.spit.count ≤ [(5 : U32)].length ∧
    (sSpit { active := true, op := 2, count := 1, addr := 1020 }).ctl.spit.ignore = false ∧ (sSpit { active := true, op := 2, count := 1, addr := 1020 }).ctl.spit.gap = false ∧
    (sSpit { active := true, op := 2, count := 1, addr := 1020 }).ctl.spit.active = true ∧ ([] : List U32).length < (sSpit { active := true, op := 2, count := 1, addr := 1020 }).ctl.spit.count := by decide +kernel
theorem wit_training : ({ s0 with boot := { glenUp := true, stage := 4 } } : State).boot.stage = 4 ∧ ddrDone ({ s0 with boot := { glenUp := true, stage := 4 } } : State) = false ∧
    [true, true, false, true].length = 4 ∧ ({ s0 with ctl := { hbm := [{}, {}] } } : State).ctl.hbm.length = 2 ∧ (carveOf ({ s0 with ctl := { hbm := [{}, {}] } } : State) 0).trained = false ∧
    (carveOf ({ s0 with ctl := { hbm := [{}, {}] } } : State) 0).failed = false ∧ (carveOf ({ s0 with ctl := { hbm := [{ trained := true }, {}] } } : State) 0).trained = true := by decide +kernel

theorem wit_dirty_page : pagesOf 0x2000 1 ≠ [] ∧ (∀ p ∈ pagesOf 0x2000 1, dplRange (migOf (sMig mOn {}) 0) p = none) ∧ (0 : U8) = 0 ∧ (1 : U8) ≠ 0 := by
  decide +kernel
/-- PF0's side of a mailbox takes a write, and one in reset takes none. -/
theorem wit_mb_sides : mbTakes (sMig {} {}) 0 .pf0 = true ∧ MbSide.pf0 ≠ .tenant ∧ mbTakes (sMig {} { resetting := true }) 0 .pf0 = false := by decide +kernel

/-! ### Chapters 16 and 17 -/

def sVlt (v : Vault) : State := { s0 with vault := v, ctl := { ddr := [1, 0, 0, 0], ddrGib := 1 } }
/-- Slot 3 is empty; kind 3 (P-256) for the operator, persistent. -/
def kgRec : Nat := beNat (beBytes 2 3 ++ [3, 1] ++ beBytes 4 0)
def sKeys : State := sVlt { up := true, lcBoot := 1, slots := [(4, { kind := 3, flags := 1, owner := 0, mat := List.replicate 31 0 ++ [5] })] }
theorem wit_keys : (keyGenerateOp opr (BitVec.ofNat 64 kgRec)).status sKeys = .ok ∧ (keyImportOp opr (BitVec.ofNat 576 (kgRec * 256 ^ 64 + 256 ^ 32))).status sKeys = .ok ∧
    (keyDestroyOp opr (4 : U16).toNat).status sKeys = .ok ∧ (keyDestroyOp opr (3 : U16).toNat).status sKeys = .ok ∧ tget sKeys.vault.slots 4 ≠ none ∧
    ({ sKeys with vault := { sKeys.vault with sealedDirty := true } } : State).vault.erasing = none ∧ keyStoreOn { sKeys with vault := { sKeys.vault with sealedDirty := true } } = true := by
  decide +kernel
def tnt : Who := { role := .tenant, bound := tenH, sess := 1 }
def sTenKey : State := { ten0 ten1 with vault := { up := true, lcBoot := 1, slots := [(4, { kind := 1, flags := 0, owner := tenH, mat := [], lost := true })] } }
theorem wit_tenant_key : (keyImportTOp tnt tenH (BitVec.ofNat 544 (4 * 256 ^ 66))).status sTenKey = .ok ∧ ktSlot (BitVec.ofNat 544 (4 * 256 ^ 66)).toNat = 4 ∧
    (tget sTenKey.vault.slots 4).isSome = true := by decide +kernel
def sLc (lc : List Nat) (a : Option AfterErase) : State := sVlt { up := true, lc := lc, erasing := a }
theorem wit_life_cycle : (lcAdvanceOp opr (BitVec.ofNat 1056 (2 * 256 ^ 131))).status (sLc [0xFFFF, 0, 0, 0] none) = .ok ∧
    laTarget (BitVec.ofNat 1056 (2 * 256 ^ 131)).toNat = 2 ∧ (lcAdvanceOp opr (BitVec.ofNat 1056 (4 * 256 ^ 131))).status (sLc [0xFFFF, 0, 0, 0] none) = .ok ∧
    laTarget (BitVec.ofNat 1056 (4 * 256 ^ 131)).toNat ≠ 2 ∧ (sLc [0xFFFF, 0, 0, 0] none).vault.lc.length = 4 ∧ (sLc [0, 0, 0, 0] (some (.lcWord 3))).vault.erasing = some (.lcWord 3) := by
  decide +kernel
def ulRec : Rec 148 := 0
/-- An unlock passes where its signature, which the model leaves opaque, verifies and the serial number is that of the token. -/
theorem wit_unlock (lcb : Nat) (hl : lcb = 1 ∨ lcb = 2) (h0 : sliceD Config.serial 0 16 0 = List.replicate 16 0) (h1 : Config.sha384 [] = Config.debugKeyHash)
    (h2 : Config.verify [] (Config.sha384 (1 :: (beBytes 148 ulRec.toNat).take 52)) ((beBytes 148 ulRec.toNat).drop 52) = true) :
    (debugUnlockOp opr ulRec).status (sVlt { lcBoot := lcb, nonce := some (List.replicate 32 0, 0) }) = .ok := by
  have h3 : unlockFits (sVlt { lcBoot := lcb, nonce := some (List.replicate 32 0, 0) }) (beBytes 148 ulRec.toNat) = true := by
    have a1 : (beBytes 148 ulRec.toNat).take 16 = List.replicate 16 0 := by decide +kernel
    have a2 : nonceFits (sVlt { lcBoot := lcb, nonce := some (List.replicate 32 0, 0) }) (((beBytes 148 ulRec.toNat).drop 16).take 32) = true := by
      have e : ((beBytes 148 ulRec.toNat).drop 16).take 32 = List.replicate 32 0 := by decide +kernel
      rw [e]
      rfl
    have a3 : tokenFits (sVlt { lcBoot := lcb, nonce := some (List.replicate 32 0, 0) }) 1 ((beBytes 148 ulRec.toNat).take 52) ((beBytes 148 ulRec.toNat).drop 52) = true := by
      show (decide (Config.sha384 [] = Config.debugKeyHash) && Config.verify [] (Config.sha384 (1 :: (beBytes 148 ulRec.toNat).take 52)) ((beBytes 148 ulRec.toNat).drop 52)) = true
      rw [h2, decide_eq_true h1]
      rfl
    simp only [unlockFits, h0, a1, a2, a3, Bool.and_true, decide_true]
  rcases hl with rfl | rfl <;> (simp only [debugUnlockOp, h3]; decide +kernel)
theorem wit_debug : (debugChallengeOp opr).status sKeys = .ok ∧ (tamperLockOp opr 1).status sKeys = .ok ∧ ({ s0 with clk := { vaon := true } } : State).clk.vaon = true ∧
    tamperActive s0 0 false = true ∧ tamperActive s0 1 true = false ∧ tamperRun 0 true ≠ 2 ∧ tamperRun 2 true ≠ 2 ∧ tamperRun 1 true = 2 ∧
    tamperAction { s0 with dict := { nums := [(okey 0x2302 1, 256 ^ 2)] } } 0 = 1 ∧ (sVlt { up := true, trng := 0 }).vault.trng ≠ 2 ∧
    (((sVlt { up := true }).vault.trngFails.filter (fun u => decide ((sVlt { up := true }).time.sec < u + 3600))).length < 2) ∧
    (sVlt { up := true, trng := 0 }).vault.trng = 0 := by decide +kernel
theorem wit_engine : (vaultHashOp opr (6 : U8).toNat (BitVec.ofNat 64 ddrBase).toNat (1 : U32).toNat).status sKeys = .ok ∧
    poisoned sKeys (BitVec.ofNat 64 ddrBase).toNat (1 : U32).toNat = false ∧ (vaultSignOp opr (1 : U8).toNat (4 : U16).toNat (List.replicate 32 0)).status sKeys = .ok ∧
    (vaultVerifyOp opr (1 : U8).toNat (List.replicate 160 0)).status sKeys = .ok ∧ (vaultEcdhOp opr (1 : U8).toNat (4 : U16).toNat (List.replicate 64 0)).status sKeys = .ok ∧
    (vaultRandomOp opr (512 : U32).toNat).status sKeys = .ok ∧ beNat (((List.replicate 160 (0 : Byte)).drop 96).take 32) = 0 := by decide +kernel
/-- Association 9 of the operator: kind 1, key slot 6, number 1. -/
def saRec : Nat := beNat (beBytes 4 0 ++ [1, 1] ++ beBytes 2 6 ++ beBytes 8 0 ++ beBytes 4 0 ++ [0, 0] ++ beBytes 2 0 ++ beBytes 8 1 ++ List.replicate 32 0)
def sSa : State := sVlt { up := true, slots := [(6, { kind := 1, flags := 0, owner := 0, mat := List.replicate 32 1 })] }
theorem wit_association : (saWriteOp opr 9 (BitVec.ofNat 512 saRec)).status sSa = .ok ∧ bitOf (saOfRec (BitVec.ofNat 512 saRec).toNat).flags 0 = true := by decide +kernel

/-- An image of two components: one byte for Glen, one byte for the Steppe cluster at the start of DDR5. -/
def hdrBytes : List Byte :=
  beBytes 4 0x4C4E494D ++ [1, 0, 0, 2] ++ [1, 0, 0, 0] ++ beBytes 4 1 ++ beBytes 4 7 ++ beBytes 4 1281 ++ List.replicate 97 1 ++ List.replicate 7 0
def cmpBytes (kind : Byte) (off load : Nat) : List Byte :=
  [kind, 0, 0, 0] ++ beBytes 4 off ++ beBytes 4 1 ++ beBytes 4 0 ++ beBytes 8 load ++ beBytes 8 0 ++ List.replicate 48 0
def imgFl : List Byte :=
  hdrBytes ++ cmpBytes 1 1024 0 ++ cmpBytes 2 1280 ddrBase ++ List.replicate 480 0 ++ List.replicate 256 0 ++ [9] ++ List.replicate 255 0 ++ [9]
theorem wit_image_form : imgFormBad imgFl = false := by decide +kernel
/-- Its checks pass where the digests and the signature, which the model leaves opaque, are right. -/
theorem wit_image_ok (s : State) (full : Bool) (h0 : s.vault.revoke = 0) (h1 : s.vault.rollback ≤ 1) (h2 : Config.sha384 (List.replicate 97 1) = Config.imgKeyHash 0)
    (h3 : Config.verify (List.replicate 97 1) (Config.sha384 (sliceD imgFl 0 768 0xFF)) (sliceD imgFl 768 96 0xFF) = true)
    (h4 : Config.sha384 [9] = List.replicate 48 0) : imgVerify s imgFl full = .ok := by
  have a1 : imgKeyIndex imgFl = 0 := by decide +kernel
  have a2 : sliceD imgFl 24 97 0xFF = List.replicate 97 1 := by decide +kernel
  have a3 : imgAt imgFl 4 1 = 1 := by decide +kernel
  have a4 : imgSecVer imgFl = 1 := by decide +kernel
  have a5 : ∀ c ∈ comps imgFl, compBytes imgFl c = [9] ∧ c.digest = List.replicate 48 0 := by decide +kernel
  have a6 : (comps imgFl).all (fun c => compFits imgFl c || (!full && decide (c.kind ≠ 1))) = true := by
    rw [List.all_eq_true]
    intro c hc
    have := a5 c hc
    simp only [compFits, this.1, this.2, h4, decide_true, Bool.true_or]
  have a7 : bitOf s.vault.revoke 0 = false := by rw [h0]; rfl
  unfold imgVerify
  simp only [wit_image_form, a1, a2, a3, a4, a6, a7, h2, h3]
  simp
  omega
def sRom (b : Boot) : State :=
  { State.reset with vault := { up := true, lcBoot := 1, slots := [] }, boot := b }
theorem wit_rom : romRuns (sRom { stage := 2 }) = true ∧ (sRom { stage := 2 }).boot.cands = [] ∧ romRuns (sRom { stage := 2, cands := [0, 1], slotA := imgFl }) = true ∧
    (sRom { stage := 2, cands := [0, 1] }).vault.lcBoot ≠ 0 ∧ imgVerify (sRom { stage := 2, cands := [0] }) (slotImage (sRom { stage := 2, cands := [0] }) 0) false = .range ∧
    (sRom { stage := 2, cands := [0], tries := 1 }).boot.tries ≠ 0 ∧ slotImage (sRom { slotA := imgFl }) 0 = imgFl := by decide +kernel
def sLoad : State :=
  { sRom { glenUp := true, stage := 4, slotA := imgFl, loaded := [1], header := imgFl } with ctl := { ddr := [1, 0, 0, 0], ddrGib := 1 } }
theorem wit_load : loadDue sLoad 2 = true ∧ (compOf sLoad.boot.header 2).isSome = true ∧ runningImage sLoad = imgFl ∧ (∀ c ∈ compOf sLoad.boot.header 2, inDdr sLoad c.load c.len = true ∧ c.entry < 2 ^ 48) ∧
    (sRom { stage := 4, loaded := [1, 2] }).boot.loaded.contains 2 = true ∧ quadRetired (sRom { stage := 4, loaded := [1, 2] }) 0 = false := by decide +kernel
/-- A component fits or does not, as its opaque digest says. -/
theorem wit_fits (c : Comp) (hc : compOf imgFl 2 = some c) :
    (Config.sha384 [9] = List.replicate 48 0 → compFits imgFl c = true) ∧ (Config.sha384 [9] ≠ List.replicate 48 0 → compFits imgFl c = false) := by
  have a : ∀ c ∈ compOf imgFl 2, compBytes imgFl c = [9] ∧ c.digest = List.replicate 48 0 := by decide +kernel
  have := a c hc
  simp only [compFits, this.1, this.2]
  exact ⟨fun h => decide_eq_true h, fun h => decide_eq_false h⟩
def sColR (st : Nat) (h : Bool) : State :=
  { sRom { glenUp := true, stage := st, tablesInit := true } with east := { State.reset.east with col := { held := true, active := some {} } }, west := { State.reset.west with col := { held := h } } }
theorem wit_col_release : ((sColR 5 false).vale .east).col.active = some {} ∧ ((sColR 5 false).vale .east).col.held = true ∧ ((sColR 5 false).vale (otherVale .east)).col.held = false ∧
    ((sColR 5 true).vale (otherVale .east)).col.held = true ∧ (sColR 5 false).err.failStop = false ∧ (sColR 5 false).boot.stage = 5 := by decide +kernel

/-- Slot A is Valid and runs; slot B is Golden. -/
def jRec (a b : Nat) : JRec := { jseq := 1, stA := a, stB := b, seqA := 1, seqB := 1 }
def sInst (b : Boot) : State :=
  { sRom { b with glenUp := true, stage := 6, slotA := imgFl, j0 := [some (jRec 2 3)] } with ctl := { ddr := [1, 0, 0, 0], ddrGib := 1 } }
def iiRec : Rec 16 := BitVec.ofNat 128 (beNat (beBytes 4 0 ++ beBytes 4 1281 ++ beBytes 8 ddrBase))
theorem wit_install : (imgInstallOp opr iiRec).status (sInst {}) = .ok ∧ (sInst { inst := .checking }).boot.inst = .checking ∧
    imgLength (installImage (sInst { inst := .checking, instAddr := ddrBase, instLen := 1281 })) ≤ 1281 ∧
    imgVerify (sInst { inst := .checking, instAddr := ddrBase, instLen := 1281 }) (installImage (sInst { inst := .checking, instAddr := ddrBase, instLen := 1281 })) true ≠ .ok ∧
    (sInst { inst := .writing, instSlot := 1 }).boot.instSlot ≠ 0 ∧ imgVerify (sInst { inst := .verifying, instSlot := 1 }) (slotImage (sInst { inst := .verifying, instSlot := 1 }) 1) true ≠ .ok ∧
    (sInst { inst := .verifying, instSlot := 0 }).boot.inst = .verifying ∧ slotImage (sInst { inst := .verifying, instSlot := 0 }) 0 = imgFl := by decide +kernel
/-- The cells of bytes laid out from an address. -/
def laid (a : Nat) : List Byte → List Host.Cell
  | [] => []
  | b :: bs => if b = 0 then laid (a + 1) bs else (a, b) :: laid (a + 1) bs
theorem laid_below (bs : List Byte) (a c : Nat) (h : c < a) : tget (laid a bs) c = none := by
  induction bs generalizing a with
  | nil => rfl
  | cons b bs ih =>
    unfold laid
    split
    · exact ih (a + 1) (by omega)
    · rw [tget, if_neg (by omega)]
      exact ih (a + 1) (by omega)
theorem laid_read (bs : List Byte) (a i : Nat) : memRead (laid a bs) (a + i) = bs.getD i 0 := by
  induction bs generalizing a i with
  | nil => rfl
  | cons b bs ih =>
    cases i with
    | zero =>
      show tgetD (laid a (b :: bs)) (a + 0) memDefault = b
      unfold laid
      split
      · rename_i hb
        rw [tgetD, laid_below bs (a + 1) (a + 0) (by omega), hb]
        rfl
      · rw [tgetD, tget, if_pos (by omega)]
    | succ i =>
      have := ih (a + 1) i
      show tgetD (laid a (b :: bs)) (a + (i + 1)) memDefault = bs.getD i 0
      rw [← this, memRead, show a + 1 + i = a + (i + 1) by omega]
      rw [laid]
      split
      · rfl
      · rw [tgetD, tgetD, tget, if_neg (by omega)]
theorem laid_readN (bs : List Byte) (a : Nat) : memReadN (laid a bs) a bs.length = bs := by
  apply List.ext_getElem
  · simp [memReadN]
  · intro i h1 h2
    simp [memReadN, laid_read, List.getD_eq_getElem?_getD, List.getElem?_eq_getElem h2]
/-- The image in memory is the one that passes; its number 1 rises above that of slots without state, and not above the Golden slot's. -/
def sImgF (b : Nat) : State :=
  { sInst { inst := .checking, instAddr := ddrBase, instLen := 1281 } with mem := laid ddrBase imgFl
                                                                           boot := { (sInst { inst := .checking, instAddr := ddrBase, instLen := 1281 }).boot with j0 := [some (jRec b 0)] } }
theorem wit_install_image (b : Nat) : installImage (sImgF b) = imgFl ∧ imgLength (installImage (sImgF b)) ≤ (sImgF b).boot.instLen := by
  have h : installImage (sImgF b) = imgFl := by
    have hl : imgFl.length = 1281 := by decide +kernel
    show memReadN (laid ddrBase imgFl) ddrBase 1281 = imgFl
    rw [← hl]
    exact laid_readN imgFl ddrBase
  rw [h]
  refine ⟨rfl, ?_⟩
  show imgLength imgFl ≤ 1281
  decide +kernel
theorem wit_install_seq : seqRises (sImgF 0) (imgSeq imgFl) = true ∧ seqRises (sImgF 3) (imgSeq imgFl) = false := by decide +kernel
theorem wit_marks : (imgMarkOp opr (1 : U8).toNat (4 : U8).toNat).status (sInst {}) = .ok ∧ (rollbackCommitOp opr (0 : U8).toNat).status (sInst {}) = .ok ∧
    (sVlt { up := true, rollTo := 1 }).vault.rollback < (sVlt { up := true, rollTo := 1 }).vault.rollTo ∧
    (imgKeyRevokeOp opr ((2 : U8).toNat % 4)).status { sInst {} with boot := { (sInst {}).boot with slotB := imgFl } } = .ok ∧ (sInst {}).boot.goldLow = false := by decide +kernel

/-! ### Chapter 18 -/

/-- Glen runs, the clocks in a state. -/
def sClk (f : ClkState → ClkState) : State := { s0 with clk := f State.reset.clk }
theorem wit_sources : windowRuns (sClk id) .ref25 = true ∧ (srcOf (sClk id) .ref25).passes = 0 ∧ windowRuns (sClk (fun c => { c with srcs := [(0, { passes := 1 })] })) .ref25 = true ∧
    (srcOf (sClk (fun c => { c with srcs := [(0, { passes := 1 })] })) .ref25).passes ≠ 0 ∧ (srcOf (sClk id) .sdsRef).st = 1 ∧ (sClk id).clk.vaon = true ∧
    ClkSource.sdsRef ≠ .ref25 ∧ ClkSource.sdsRef ≠ .lpo ∧ (clkRequalifyOp opr (5 : U8).toNat).status s0 = .ok ∧ (clkRequalifyOp opr (2 : U8).toNat).status s0 = .ok ∧
    (clkSourceOp opr 3 (0 : U8).toNat).status s0 = .ok ∧ (clkSourceOp opr 0 (3 : U8).toNat).status s0 = .ok := by decide +kernel
def unlocked (p : Pll) : State := sClk (fun c => { c with plls := [(pllNum p, { locked := false })] })
theorem wit_plls : (pllOf s0 (.quad 5)).locked = true ∧ (pllOf s0 .timeA).locked = true ∧ (pllOf s0 .timeB).locked = true ∧ (pllOf (unlocked .ddr) .ddr).locked = false ∧
    (pllOf (unlocked .ddr) .ddr).failed = false ∧ (pllOf (unlocked .ddr) .ddr).restarts < 3 ∧ memoryPll .ddr = true ∧ (handlerAt (unlocked .ddr) (handlerKey 4 0 1)).active = none ∧
    (unlocked .ddr).err.failStop = false ∧ (steppeFreqOp opr 5 (2800 : U16).toNat).status s0 = .ok := by decide +kernel
theorem wit_monitors : released s0 = true ∧ (s0.clk.monTrip ++ s0.clk.heldCells).contains 30 = false ∧ domVale 30 = none ∧
    srcReady (sClk (fun c => { c with srcs := [(4, { st := 2 })] })) .rco20 = true ∧ srcReady s0 .rco20 = false ∧
    released (sClk (fun c => { c with srcs := [(4, { st := 2 })] })) = true := by decide +kernel
def avs1 : AvsReading := { answered := true, current := 0, estimate := 100, power := 100 }
theorem wit_power : s0.boot.glenUp = true ∧ s0.clk.telBad = false ∧ avs1.answered = true ∧ s0.clk.same < 99 ∧
    (keep 10 (farApart (median3 ((keep 10 (avs1.power :: s0.clk.power)).take 3)) avs1.estimate :: s0.clk.bad)).all (fun b => b) = false ∧
    (handlerAt s0 (handlerKey 4 0 2)).active = none ∧ State.reset.boot.glenUp = false ∧ (powerCapClearOp opr true).status s0 = .ok ∧ released s0 = true ∧
    (919 : Int) < 920 ∧ (920 : Int) ≤ 920 := by decide +kernel
theorem wit_avs : avsInRange s0 (median3 (keep 3 (avs1.current :: s0.clk.currents))) = true := by
  have h : median3 (keep 3 (avs1.current :: s0.clk.currents)) = 0 := by decide +kernel
  simp [avsInRange, h]
theorem wit_pmbus : periphOn s0 2 = true ∧ (∀ o ∈ [WakeSource.tamper], wakeCode .wakeN ≤ wakeCode o) ∧
    (∀ o ∈ WakeSource.idien :: [.hostTlp], 5 ≤ wakeCode o) := by decide +kernel
theorem wit_domains : (powerDomainOp opr 9 (2 : U8).toNat).status s0 = .ok ∧ (domOf s0 9).st = (2 : U8).toNat ∧ (powerDomainOp opr 26 (0 : U8).toNat).status s0 = .ok ∧
    (domOf s0 26).st ≠ (0 : U8).toNat ∧ (domOf (sClk (fun c => { c with doms := [(8, { target := some 0 })] })) 8).target = some 0 := by
  simp only [powerDomainOp, domBad, domOf]
  cases Config.hx <;> decide +kernel

def sLad (l : Ladder) : State := sClk (fun c => { c with doms := [(41, { st := 0 }), (42, { st := 0 }), (43, { st := 0 }), (44, { st := 0 })], ladder := { l with pwrEn := true } })
theorem wit_ladder : (ladderRequestOp opr (4 : U8).toNat).status (sLad {}) = .ok ∧ (sLad { target := 1, step := 1 }).clk.ladder.step = lastStep 1 ∧
    (sLad { target := 3, step := 3 }).clk.ladder.step ≠ lastStep 3 ∧ (sLad { target := 3, step := 5 }).clk.ladder.step = 5 ∧ (sLad { target := 3, step := 5 }).clk.ladder.wakes = 0 ∧
    (sLad { target := 3, step := 2, wakes := 2 }).clk.ladder.wakes ≠ 0 ∧ (sLad { target := 4, step := 6 }).clk.ladder.step = 6 ∧ (sLad { reversing := 2, st := 2 }).clk.ladder.reversing < 3 ∧
    (sLad { st := 1 }).clk.vaon = true ∧ (sLad { st := 1 }).clk.ladder.st = 1 ∧ (sLad { st := 3 }).clk.ladder.st = 3 ∧ wakeCode .idien = 9 ∧ wakeCode .mgmtFrame = 6 := by decide +kernel
theorem wit_alarm : numD { sLad { st := 2 } with dict := { nums := [(okey 0x2101 5, 100)] } } (okey 0x2101 5) 0 ≠ 0 ∧ (sLad { st := 2 }).clk.rtc ≤ 100 ∧
    (sLad { st := 2 }).clk.ladder.reversing = 0 ∧ (sClk (fun c => { c with ladder := { st := 4, pwrWake := true } })).clk.ladder.pwrEn = false ∧
    (sClk (fun c => { c with ladder := { st := 4, pwrWake := true } })).clk.ladder.pwrWake = true := by decide +kernel
theorem wit_supplies : (sClk (fun c => { c with vaon := false })).clk.vaon = false ∧ s0.clk.vaon = true ∧ s0.clk.ladder.pwrEn = true ∧ s0.boot.rstLow = false ∧
    ({ s0 with boot := { rstLow := true } } : State).boot.rstLow = true := by decide +kernel

/-! ### Chapters 19 and 20 -/

def dsc : ErrDesc := { kind := .memController, region := 6, block := 6, resource := 5 }
def pnd (r : Nat) : Pend := { er := errRecord s0 { dsc with resource := r } 2 2 0 0, kind := .glenFault }
/-- The handler of level 2 of Glen's block acts, and may hold more. -/
def sHan (q : List Pend) : State := { s0 with err := { handlers := [(handlerKey 2 6 6, { active := some (pnd 1), queue := q }), (handlerKey 4 6 6, { active := some (pnd 1), queue := q })] } }
theorem wit_handlers : (handlerAt s0 (handlerKey 2 dsc.region dsc.block)).active = none ∧ (handlerAt (sHan []) (handlerKey 2 dsc.region dsc.block)).active = some (pnd 1) ∧
    findSame (handlerAt (sHan []) (handlerKey 2 dsc.region dsc.block)) (errRecord (sHan []) dsc 2 2 0 0) = none ∧
    (handlerAt (sHan [pnd 2, pnd 3, pnd 4]) (handlerKey 2 dsc.region dsc.block)).queue.length < 4 ∧
    (findSame (handlerAt (sHan [pnd 5]) (handlerKey 2 dsc.region dsc.block)) (errRecord (sHan [pnd 5]) dsc 2 2 0 0)).isSome = true ∧
    4 ≤ (handlerAt (sHan [pnd 2, pnd 3, pnd 4, pnd 6]) (handlerKey 2 dsc.region dsc.block)).queue.length ∧
    (handlerAt (sHan []) (handlerKey 4 dsc.region dsc.block)).active = some (pnd 1) ∧ 4 ≤ (handlerAt (sHan [pnd 2, pnd 3, pnd 4, pnd 6]) (handlerKey 4 dsc.region dsc.block)).queue.length := by
  decide +kernel
theorem wit_errors : released s0 = true ∧ ErrKind.memSbe ≠ .bootDigest ∧ ErrKind.memSbe ≠ .glenFault ∧ (corrected s0 .memSbe).isSome = true ∧ (corrected s0 .memController).isNone = true ∧
    (errInfo s0 .memController).any (fun x => decide (x.2 = .level 4)) = true ∧ underTest s0 .memController = none ∧ inHbm ddrBase 1 = false ∧
    inDdrHbm sKeys ddrBase 8 = true ∧ (handlerAt sKeys (handlerKey 1 5 (ddrChannel sKeys ddrBase))).active = none ∧ released sKeys = true ∧
    handlerAt (sHan []) (handlerKey 2 6 6) = { active := some (pnd 1), queue := [] } ∧ (pnd 1).kind = .glenFault ∧ (handlerAt s0 (handlerKey 2 6 6)).active = none := by decide +kernel
/-- The action of Glen's restart at its block ends with an empty queue. -/
theorem wit_action_end : (handlerAt (sHan []) ((2 : Fin 5).val * 0x100000000 + (BitVec.ofNat 32 (unitId 2 6 6 0xFFF)).toNat)).active = some (pnd 1) ∧
    (handlerAt (finishAct (pnd 1).kind 2 (pnd 1).er (setHandler (sHan []) ((2 : Fin 5).val * 0x100000000 + (BitVec.ofNat 32 (unitId 2 6 6 0xFFF)).toNat)
      { handlerAt (sHan []) ((2 : Fin 5).val * 0x100000000 + (BitVec.ofNat 32 (unitId 2 6 6 0xFFF)).toNat) with active := none }))
      ((2 : Fin 5).val * 0x100000000 + (BitVec.ofNat 32 (unitId 2 6 6 0xFFF)).toNat)).queue = [] := by decide +kernel
def sFail : State := { s0 with err := { failStop := true } }
theorem wit_reset : glenServes s0 = true ∧ failStopAnswers opr s0 = true ∧ failStopAnswers opr sFail = true ∧ isOV opr = true ∧ (2 : U8) ≠ 1 ∧ sFail.err.failStop = true ∧
    numD sFail (okey 0x2440 2) 0 = 0 ∧ numD { sFail with dict := { nums := [(okey 0x2440 2, 60)] } } (okey 0x2440 2) 0 ≠ 0 ∧ (s0.err.failStop && s0.err.vaultCause) = false ∧
    opr.role ≠ .tenant ∧ (eventLogOp opr).status s0 = .ok ∧ (errorLogOp opr).status s0 = .ok := by decide +kernel
theorem wit_lane_test : (laneTestOp opr (0 : U8).toNat).status s0 = .ok ∧ ({ s0 with err := { laneTest := some 3 } } : State).err.laneTest = some 3 := by
  refine ⟨?_, rfl⟩
  unfold laneTestOp
  cases Config.hx <;> decide +kernel
theorem wit_port_test : (saddleTestOp opr (0 : U8).toNat).status (sLnk .linking {}) = .notReady ∧
    (saddleTestOp opr (0 : U8).toNat).status { sLnk .linking {} with saddle := { slots := [(0, slotReady)], ports := [(0, {})] } } = .ok ∧
    ({ s0 with err := { portTest := some 3 } } : State).err.testFails.contains (unitId 2 4 3 0xFFF) = false ∧ (slotOf ({ s0 with err := { portTest := some 3 } } : State) (3 / 2)).st ≠ .ready := by
  decide +kernel
theorem wit_registers : vendorIndex 0xF123 = true ∧ vendorIndex 0x2440 = false ∧ isRegionReset 0x2440 2 = false ∧ s0.vault.lcBoot ≠ 2 ∧ scrapped s0 0xF123 = false ∧ isO opr = true ∧
    (crossPeakOp opr .east).status s0 = .ok ∧ (relPeakOp opr .west).status s0 = .ok ∧ (tcRingOf (sEast { table := { rings := [(0, { en := true })] } }) .east 0).en = true := by decide +kernel

/-! ### The block as a whole -/

theorem wit_kept : memWf 0 State.reset.mem = true ∧ memWf 0 State.reset.hmem = true ∧ State.reset.ctl.hbm.length = 2 := by decide +kernel
theorem wit_step : (∃ t, step { State.reset with pending := [.tick] } = .next t) ∧ (∃ t, exec .tick State.reset = .next t) := ⟨⟨_, rfl⟩, ⟨_, rfl⟩⟩
theorem wit_generation : (1 ≤ 255 ∧ 255 ≤ 255) ∧ (24 < 256 ∧ 255 < 256 ∧ 65535 < 65536) := by decide
theorem wit_memory : memWf 0 (memWrite [] 5 7) = true ∧ (4 < 5 ∨ 5 + [(7 : Byte)].length ≤ 4) := by decide
theorem wit_failure : (clkRequalifyOp opr 6).status s0 = .range ∧ glenServes s0 = true ∧ glenServes State.reset = false ∧
    (powerDomainOp opr 26 (0 : U8).toNat).status (sClk (fun c => { c with doms := [(26, { target := some 0 })] })) = .busy := by
  simp only [powerDomainOp, domBad, domOf]
  cases Config.hx <;> decide +kernel

theorem wit_gated : gateBusy s0 (writeKeys 0 0x2440 2 []) = false ∧ gateBusy sGateW (writeKeys 0 0x6830 1 []) = true := by decide +kernel
theorem wit_wake_order : (∀ o ∈ [WakeSource.tamper], wakeCode .wakeN ≤ wakeCode o) := by decide

end Sys2Proof.Tests
end

section
/-! Proofs of the statements about the answers of requests (R12-R14, R46) and about plain registers and peaks
(R10, R44, R91, R128). -/

namespace Sys2Proof.Machine

/-! ### The order of R14 -/

/-- R14 gives every failure a place in its order. -/
theorem mem_statusOrder {st : Status} (h : st ≠ .ok) : st ∈ statusOrder := by
  cases st with
  | ok => exact absurd rfl h
  | _ => simp [statusOrder]

/-- A reason counts exactly when the request lists it as applying. -/
theorem any_applies_iff (cs : List (Status × Bool)) (st : Status) :
    (cs.any fun c => decide (c.1 = st) && c.2) = true ↔ (st, true) ∈ cs := by
  simp only [List.any_eq_true, Bool.and_eq_true, decide_eq_true_eq]
  constructor
  · rintro ⟨⟨_, _⟩, hc, rfl, rfl⟩
    exact hc
  · intro hc
    exact ⟨_, hc, rfl, rfl⟩

/-- A failure that is answered is what the search along the order of R14 stops at. -/
theorem find_statusOrder_of_firstStatus {cs : List (Status × Bool)} {st : Status} (hst : st ≠ .ok) (h : firstStatus cs = st) :
    statusOrder.find? (fun x => cs.any fun c => decide (c.1 = x) && c.2) = some st := by
  unfold firstStatus at h
  split at h
  case h_1 found hfound => rw [hfound, h]
  case h_2 => exact absurd h.symm hst

/-- Over failures only, OK is answered exactly when none of them applies. -/
theorem firstStatus_ok_iff_none_applies {cs : List (Status × Bool)} (hcs : ∀ c ∈ cs, c.1 ≠ .ok) :
    firstStatus cs = .ok ↔ ∀ c ∈ cs, c.2 = false := by
  simp only [firstStatus_ok_iff, ← Bool.not_eq_true, any_applies_iff]
  constructor
  · rintro hnone ⟨st, b⟩ hc rfl
    exact hnone st (mem_statusOrder (hcs _ hc)) hc
  · intro hall st _ hc
    exact hall _ hc rfl

/-- What a search passes over before its find does not satisfy it. -/
theorem not_of_mem_takeWhile_of_find {α : Type} [DecidableEq α] {p : α → Bool} {l : List α} {a x : α} (hfind : l.find? p = some a)
    (hx : x ∈ l.takeWhile (fun y => decide (y ≠ a))) : ¬ p x = true := by
  obtain ⟨hpa, before, after, rfl, hbefore⟩ := List.find?_eq_some_iff_append.mp hfind
  have hne : ∀ y ∈ before, decide (y ≠ a) = true := by
    intro y hy
    have hpy := hbefore y hy
    exact decide_eq_true (by rintro rfl; simp [hpa] at hpy)
  rw [List.takeWhile_append_of_pos hne, List.takeWhile_cons_of_neg (by simp), List.append_nil] at hx
  simpa using hbefore x hx

/-- The failure answered applies, and none that R14 puts before it does. -/
theorem firstStatus_first {cs : List (Status × Bool)} {st : Status} (hst : st ≠ .ok) (h : firstStatus cs = st) :
    (st, true) ∈ cs ∧ ∀ x ∈ statusOrder.takeWhile (fun y => decide (y ≠ st)), (x, true) ∉ cs := by
  have hfind := find_statusOrder_of_firstStatus hst h
  constructor
  · have happlies := List.find?_some hfind
    exact (any_applies_iff cs st).mp happlies
  · intro x hx hmem
    exact not_of_mem_takeWhile_of_find hfind hx ((any_applies_iff cs x).mpr hmem)

/-- Settles O2: the answer is what the search along `statusOrder` stops at, and every failure has its place there. -/
theorem firstFailureAnswered : Obligations.FirstFailureAnswered :=
  ⟨fun _ hcs => firstStatus_ok_iff_none_applies hcs, fun _ _ hst h => firstStatus_first hst h, rfl⟩

/-! ### Failed requests -/

/-- Settles O60: the three outcomes of `runOp` other than OK, with the bounds of the retry (R46). -/
theorem failedRequests : Obligations.FailedRequests := by
  refine ⟨?_, ?_, ?_⟩
  · intro op s hs hok hbusy
    exact runOp_fail op s hs hok hbusy
  · intro op s hs hbusy
    obtain ⟨hlow, hhigh⟩ := clampRetry_range (op.retry s)
    exact ⟨clampRetry (op.retry s), hlow, hhigh, runOp_busy op s hs hbusy⟩
  · intro op s hs
    exact runOp_idle op s hs

/-! ### Rules of the state -/

theorem vale_modVale_other (s : State) (v : Vale) (f : ValeState → ValeState) :
    (s.modVale v f).vale (otherVale v) = s.vale (otherVale v) := by
  cases v <;> rfl

@[simp] theorem modVale_dict (s : State) (v : Vale) (f : ValeState → ValeState) : (s.modVale v f).dict = s.dict := by
  cases v <;> rfl

@[simp] theorem modVale_mem (s : State) (v : Vale) (f : ValeState → ValeState) : (s.modVale v f).mem = s.mem := by
  cases v <;> rfl

@[simp] theorem vale_respond (s : State) (st : Status) (r : Nat) (p : List Byte) (v : Vale) : (respond s st r p).vale v = s.vale v := by
  cases v <;> rfl

/-- An answer after a change of one Vale's packet path: its payload, the path, and what stays. -/
theorem respond_modPath (s : State) (v : Vale) (f : Path → Path) (st : Status) (r : Nat) (p : List Byte) :
    let t := respond (s.modPath v f) st r p
    t.resp.payload = p ∧ (t.vale v).path = f (s.vale v).path ∧ t.vale (otherVale v) = s.vale (otherVale v) ∧ t.dict = s.dict ∧
      t.mem = s.mem := by
  simp [State.modPath, vale_modVale_other]

@[simp] theorem hartOf_setHart_same (s : State) (h : Nat) (x : Hart) : hartOf (setHart s h x) h = x := by
  simp [hartOf, setHart]

/-- Setting a hart changes the Steppe cluster's controls alone. -/
theorem onlyCtl_setHart (s : State) (h : Nat) (x : Hart) : OnlyCtl s (setHart s h x) :=
  ⟨rfl, rfl, rfl, rfl, rfl, rfl, rfl, rfl, rfl, rfl⟩

/-- The checks of every request pass for a role with the right outside fail-stop. -/
theorem firstStatus_baseChecks_ok {s : State} {allowed : Bool} (hallowed : allowed = true) (hstop : s.err.failStop = false) :
    firstStatus (baseChecks s allowed) = .ok := by
  rw [firstStatus_ok_iff_none_applies] <;> simp [baseChecks, hallowed, hstop]

/-! ### REGISTER_WRITE (R10) -/

theorem exec_registerWrite (t : RegTarget) (s : State) : exec (.registerWrite t) s = execRegisterWrite t s := rfl

/-- A write outside the vendor test range goes on: to the object's operation, or, for REGION_RESET, to the reset that
answers it later. -/
theorem execRegisterWrite_dict_next {idx : U16} (hv : vendorIndex idx.toNat = false) (who : Who) (h : Handle) (sub : U8)
    (bs : List Byte) (s : State) : ∃ u, execRegisterWrite (.dict who h idx sub bs) s = .next u := by
  simp only [execRegisterWrite, hv, Bool.and_false, Bool.false_and, Bool.false_eq_true, if_false]
  split
  · exact ⟨_, rfl⟩
  · exact ⟨_, rfl⟩

/-- A dictionary write that is neither in the vendor test range nor REGION_RESET runs the object's operation. -/
theorem execRegisterWrite_dict {idx : U16} {sub : U8} (hv : vendorIndex idx.toNat = false)
    (hr : isRegionReset idx.toNat sub.toNat = false) (who : Who) (h : Handle) (bs : List Byte) (s : State) :
    execRegisterWrite (.dict who h idx sub bs) s =
      .next (runGated (dictWriteOp who h idx.toNat sub.toNat bs) (writeKeys h idx.toNat sub.toNat bs) s) := by
  simp only [execRegisterWrite, hv, hr, Bool.and_false, Bool.false_and, Bool.false_eq_true, if_false]

/-- With no request under way through its window records a gated write is an ordinary one. -/
theorem runGated_free {s : State} {ks : List Nat} (hfree : gateBusy s ks = false) (op : DictOp) : runGated op ks s = runOp op s := by
  simp [runGated, hfree]

/-- R44: a vendor test object outside life-cycle state Field is refused by name. -/
theorem execRegisterWrite_vendor {idx : U16} {s : State} (hs : glenServes s = true) (hv : vendorIndex idx.toNat = true)
    (hlc : s.vault.lcBoot ≠ 2) (hscrap : scrapped s idx.toNat = false) (hstop : s.err.failStop = false) (who : Who) (sub : U8)
    (bs : List Byte) : execRegisterWrite (.dict who 0 idx sub bs) s = .refused (.vendorTest idx.toNat) := by
  simp [execRegisterWrite, hs, hv, hlc, hscrap, hstop]

/-- Every register but a vendor test object takes its write. -/
theorem execRegisterWrite_next {t : RegTarget}
    (ht : ∀ who h idx sub bs, t = .dict who h idx sub bs → vendorIndex idx.toNat = false) (s : State) :
    ∃ u, execRegisterWrite t s = .next u := by
  cases t
  case dict who h idx sub bs => exact execRegisterWrite_dict_next (ht who h idx sub bs rfl) who h sub bs s
  all_goals exact ⟨_, rfl⟩

/-- R373: a write of ones clears those pending bits of one mailbox word. -/
theorem completes_mbPending (k : Fin 8) (w : U32) {host : Bool} {s : State} (hopen : ringShut s host = false) :
    Completes (.registerWrite (.mbPending k w host)) s (fun t =>
      tgetD t.mbPend k 0 = ((BitVec.ofNat 32 (tgetD s.mbPend k 0)) &&& ~~~ w).toNat ∧
      (∀ j, j ≠ k.val → tgetD t.mbPend j 0 = tgetD s.mbPend j 0) ∧ t.mem = s.mem ∧ t.dict = s.dict) := by
  refine ⟨mbPendClear s k w, ?_, ?_, ?_, rfl, rfl⟩
  · simp [exec_registerWrite, execRegisterWrite, hopen]
  · exact tgetD_tset_same _ _ _ _
  · intro j hj
    exact tgetD_tset_other _ _ _ _ _ hj

/-- R378: RESTART_PC of a hart takes its lower word, or the low half of its upper word. -/
theorem completes_hartPc (h : Fin 24) (hi : Bool) (w : U32) (s : State) :
    Completes (.registerWrite (.hartPc h hi w)) s (fun t => OnlyCtl s t ∧
      hartOf t h = if hi then { hartOf s h with pcHi := w.toNat % 65536 } else { hartOf s h with pcLo := w }) :=
  ⟨hartPcWrite s h hi w, rfl, onlyCtl_setHart _ _ _, hartOf_setHart_same _ _ _⟩

/-- R187: the base of an enabled command ring stands. -/
theorem execRegisterWrite_tc_enabled {s : State} {v : Vale} {r : Fin 8} {host : Bool} (hstop : s.err.failStop = false)
    (hen : (tcRingOf s v r).en = true) (hopen : ringShut s host = false) (w : U32) :
    execRegisterWrite (.tc v r 0x00 w host) s = .next (setTcRing s v r (tcRingOf s v r)) := by
  simp [execRegisterWrite, hstop, hopen, tcRegister, hen]

/-! ### Peaks (R91, R128) -/

theorem serves_crossFifoPeakRead (who : Who) (v : Vale) : Serves (.crossFifoPeakRead who v) (crossPeakOp who v) :=
  fun s hs hok => congrArg Host.Outcome.next (runOp_ok (crossPeakOp who v) s hs hok)

theorem serves_relbufPeakRead (who : Who) (v : Vale) : Serves (.relbufPeakRead who v) (relPeakOp who v) :=
  fun s hs hok => congrArg Host.Outcome.next (runOp_ok (relPeakOp who v) s hs hok)

/-- A command that serves a read which changes one Vale's packet path answers the read's payload and leaves the rest. -/
theorem completes_of_serves_modPath {c : Instr} {op : DictOp} (hserves : Serves c op) {s : State} (hs : glenServes s = true)
    (hok : op.status s = .ok) {v : Vale} {f : Path → Path} {p : List Byte} (heff : op.effect s = (s.modPath v f, p)) :
    Completes c s (fun t => t.resp.payload = p ∧ (t.vale v).path = f (s.vale v).path ∧
      t.vale (otherVale v) = s.vale (otherVale v) ∧ t.dict = s.dict ∧ t.mem = s.mem) := by
  refine ⟨_, hserves s hs hok, ?_⟩
  rw [heff]
  exact respond_modPath s v f .ok 0 p

/-- Settles O54: a register's arm of `execRegisterWrite` at a time, then the two peaks. -/
theorem plainRegisters : Obligations.PlainRegisters := by
  refine ⟨?next, ?dict, ?vendor, ?mbPending, ?hartPc, ?tc, serves_crossFifoPeakRead, serves_relbufPeakRead, ?peaks⟩
  case next => exact fun t s ht => execRegisterWrite_next ht s
  case dict =>
    intro who h idx sub bs s hv hr
    have hrun := execRegisterWrite_dict hv hr who h bs s
    refine ⟨hrun, fun hfree => ?_⟩
    rw [exec_registerWrite, hrun, runGated_free hfree]
  case vendor => exact fun who idx sub bs s hs hv hlc hscrap hstop => execRegisterWrite_vendor hs hv hlc hscrap hstop who sub bs
  case mbPending => exact fun k w host s hopen => completes_mbPending k w hopen
  case hartPc => exact fun h w s => ⟨completes_hartPc h false w s, completes_hartPc h true w s⟩
  case tc => exact fun v r s hstop hen w host hopen => execRegisterWrite_tc_enabled hstop hen hopen w
  case peaks =>
    intro who v s hs hwho hstop
    have hok := firstStatus_baseChecks_ok hwho hstop
    exact ⟨completes_of_serves_modPath (serves_crossFifoPeakRead who v) hs hok rfl,
      completes_of_serves_modPath (serves_relbufPeakRead who v) hs hok rfl⟩

end Sys2Proof.Machine
end

section
/-! Proofs of the statements about generations, the reset state and NO_RESOURCE at a create (R17, R21). -/

namespace Sys2Proof.Machine

/-! ### Generations and handles (R11, R17) -/

theorem genOf_bumpGen_other (s : State) {kind i k j : Nat} (h : k * 65536 + j ≠ kind * 65536 + i) :
    genOf (bumpGen s kind i) k j = genOf s k j :=
  tgetD_tset_other _ _ _ _ _ h

theorem genFits_nextGen {g : Nat} (h : GenFits g) : GenFits (nextGen g) := by
  obtain ⟨hlow, hhigh⟩ := h
  unfold nextGen GenFits
  split <;> omega

/-- Kind, generation and index stand side by side in a handle. -/
theorem toNat_mkHandle {kind gen idx : Nat} (hkind : kind < 256) (hgen : gen < 256) (hidx : idx < 65536) :
    (mkHandle kind gen idx).toNat = kind * 0x1000000 + gen * 0x10000 + idx := by
  rw [mkHandle, BitVec.toNat_ofNat, Nat.mod_eq_of_lt (by omega)]

section
variable {kind gen idx : Nat} (hkind : kind < 256) (hgen : gen < 256) (hidx : idx < 65536)
include hkind hgen hidx

theorem hKind_mkHandle : hKind (mkHandle kind gen idx) = kind := by
  rw [hKind, toNat_mkHandle hkind hgen hidx]
  omega

theorem hGen_mkHandle : hGen (mkHandle kind gen idx) = gen := by
  rw [hGen, toNat_mkHandle hkind hgen hidx]
  omega

theorem hIdx_mkHandle : hIdx (mkHandle kind gen idx) = idx := by
  rw [hIdx, toNat_mkHandle hkind hgen hidx]
  omega

end

theorem genZero_iff (h : Handle) : genZero h = true ↔ hGen h = 0 ∧ h ≠ 0 := by
  simp [genZero, and_comm]

/-- Settles O58: `nextGen` at 255 and below it, and a handle's three fields by their places. -/
theorem generationsRun : Obligations.GenerationsRun := by
  refine ⟨?bump, ?fits, rfl, ?handle⟩
  case bump => exact fun s kind i => ⟨genOf_bumpGen s kind i, fun k j h => genOf_bumpGen_other s h⟩
  case fits => exact fun g h => genFits_nextGen h
  case handle =>
    intro kind gen idx hkind hgen hidx
    refine ⟨hKind_mkHandle hkind hgen hidx, hGen_mkHandle hkind hgen hidx, hIdx_mkHandle hkind hgen hidx, ?_⟩
    rw [genZero_iff, hGen_mkHandle hkind hgen hidx]

/-! ### The reset state -/

/-- Memory at reset lists nothing, and the carve has its two stacks. -/
theorem kept_reset : Kept State.reset := ⟨rfl, rfl, rfl⟩

/-- Nothing was ever destroyed at reset, so that every generation is its first. -/
theorem genOf_reset (kind i : Nat) : genOf State.reset kind i = 1 := rfl

theorem numD_reset (k d : Nat) : numD State.reset k d = d := rfl

theorem hartOf_reset (h : Nat) : hartOf State.reset h = {} := rfl

/-- Settles O57: the fields of `State.reset` as their definitions give them. -/
theorem resetState : Obligations.ResetState := by
  refine ⟨kept_reset, rfl, rfl, rfl, rfl, rfl, rfl, rfl, rfl, rfl, rfl, rfl, rfl, rfl, rfl, rfl, rfl, rfl, ?harts, genOf_reset,
    numD_reset, rfl, rfl⟩
  case harts => exact fun h => congrArg Hart.run (hartOf_reset h)

/-! ### Creation (R20, R21) -/

theorem exec_tenancyCreate (who : Who) (r : Rec 8) (s : State) :
    exec (.tenancyCreate who r) s = .next (runOp (tenancyCreateOp who r) s) := rfl

/-- A request whose role has the right, outside fail-stop, is answered by its own checks. -/
theorem firstStatus_baseChecks_append {s : State} {allowed : Bool} (hallowed : allowed = true) (hstop : s.err.failStop = false)
    (cs : List (Status × Bool)) : firstStatus (baseChecks s allowed ++ cs) = firstStatus cs :=
  firstStatus_append_ok _ _ (firstStatus_baseChecks_ok hallowed hstop)

/-- A failure that records nothing beside its status leaves the answer alone. -/
theorem runOp_fail_plain {op : DictOp} {s : State} (hs : glenServes s = true) {st : Status} (hst : op.status s = st)
    (hok : st ≠ .ok) (hbusy : st ≠ .busy) (hplain : op.onFail s st = s) : runOp op s = { s with resp := { status := st } } := by
  subst hst
  rw [runOp_fail op s hs hok hbusy, hplain]
  rfl

/-- R21: with its record in range, the create is short of an index or of static threads. -/
theorem tenancyCreateOp_noResource {who : Who} {r : Rec 8} {s : State} (hstop : s.err.failStop = false) (hwho : who.role = .operator)
    (hmode : 1 ≤ tcMode r.toNat ∧ tcMode r.toNat ≤ 3) (hkind : tcKind r.toNat ≤ 1)
    (heast : shareBad (decide (tcKind r.toNat = 1)) (tcShare r.toNat .east) = false)
    (hwest : shareBad (decide (tcKind r.toNat = 1)) (tcShare r.toNat .west) = false)
    (hshort : allocIndex s 1 = none ∨ (tcKind r.toNat = 0 ∧
      (576 < staticSum s .east + tcShare r.toNat .east ∨ 576 < staticSum s .west + tcShare r.toNat .west))) :
    (tenancyCreateOp who r).status s = .noResource := by
  have hrange : (decide (tcMode r.toNat < 1) || decide (3 < tcMode r.toNat) || decide (1 < tcKind r.toNat) ||
      shareBad (decide (tcKind r.toNat = 1)) (tcShare r.toNat .east) ||
      shareBad (decide (tcKind r.toNat = 1)) (tcShare r.toNat .west)) = false := by
    simp only [heast, hwest, Bool.or_false, Bool.or_eq_false_iff, decide_eq_false_iff_not]
    omega
  have hnone : (!hasFree s 1 || (!decide (tcKind r.toNat = 1) && (decide (576 < staticSum s .east + tcShare r.toNat .east) ||
      decide (576 < staticSum s .west + tcShare r.toNat .west)))) = true := by
    rcases hshort with hfull | ⟨hstatic, hover⟩
    · simp [hasFree, hfull]
    · simp [hstatic, hover]
  refine (firstStatus_baseChecks_append (decide_eq_true hwho) hstop _).trans ?_
  rw [hrange, hnone]
  rfl

/-- Settles O4: the failure of `tenancyCreateOp` records nothing beside NO_RESOURCE. -/
theorem tenancyCreateNoResource : Obligations.TenancyCreateNoResource := by
  intro who r s hs hstop hwho hmodeLow hmodeHigh hkind heast hwest hshort
  have hst := tenancyCreateOp_noResource hstop hwho ⟨hmodeLow, hmodeHigh⟩ hkind heast hwest hshort
  rw [exec_tenancyCreate, runOp_fail_plain hs hst (by decide) (by decide) rfl]

/-! ### The epoch control (R35-R38) -/
end Sys2Proof.Machine
end

section
/-! SUPPORT. What leaves the tenancies alone, and which tenancy indices are in use. -/

namespace Sys2Proof.Machine

/-! ### What leaves the tenancies alone -/

/-- Updates that each leave a part of the state alone leave it alone in a row. -/
theorem foldl_keeps {α β γ : Type} (π : β → γ) {f : β → α → β} (h : ∀ b a, π (f b a) = π b) (l : List α) (b : β) :
    π (l.foldl f b) = π b := by
  induction l generalizing b with
  | nil => rfl
  | cons a l ih => rw [List.foldl_cons, ih, h]

@[simp] theorem foldl_tens {α : Type} {f : State → α → State} (h : ∀ s a, (f s a).tens = s.tens) (l : List α) (s : State) :
    (l.foldl f s).tens = s.tens :=
  foldl_keeps State.tens h l s

@[simp] theorem tens_ite (c : Prop) [Decidable c] (s t : State) : (if c then s else t).tens = if c then s.tens else t.tens :=
  apply_ite State.tens c s t

@[simp] theorem modVale_tens (s : State) (v : Vale) (f : ValeState → ValeState) : (s.modVale v f).tens = s.tens := by
  cases v <;> rfl

@[simp] theorem modPath_tens (s : State) (v : Vale) (f : Path → Path) : (s.modPath v f).tens = s.tens := modVale_tens _ _ _
@[simp] theorem modCol_tens (s : State) (v : Vale) (f : ColState → ColState) : (s.modCol v f).tens = s.tens := modVale_tens _ _ _
@[simp] theorem modTm_tens (s : State) (v : Vale) (f : TmState → TmState) : (s.modTm v f).tens = s.tens := modVale_tens _ _ _
@[simp] theorem modTable_tens (s : State) (v : Vale) (f : TableState → TableState) : (s.modTable v f).tens = s.tens := modVale_tens _ _ _

/-! Packets. -/

@[simp] theorem setPkt_tens (s : State) (v : Vale) (i : Nat) (p : Packet) : (setPkt s v i p).tens = s.tens := modPath_tens _ _ _

@[simp] theorem removePkt_tens (s : State) (v : Vale) (i : Nat) : (removePkt s v i).tens = s.tens := by
  unfold removePkt
  split <;> simp

@[simp] theorem countQueueDrop_tens (s : State) (v : Vale) (p : Packet) : (countQueueDrop s v p).tens = s.tens := by
  unfold countQueueDrop
  split <;> simp

@[simp] theorem countStale_tens (s : State) (v : Vale) (p : Packet) (reason : Nat) : (countStale s v p reason).tens = s.tens := by
  unfold countStale
  split <;> simp

@[simp] theorem dropPkt_tens (s : State) (v : Vale) (i reason : Nat) : (dropPkt s v i reason).tens = s.tens := by
  unfold dropPkt
  split
  · rfl
  · dsimp only
    split <;> simp

@[simp] theorem countCopyDrop_tens (s : State) (h : Handle) : (countCopyDrop s h).tens = s.tens := by
  unfold countCopyDrop
  split <;> simp

@[simp] theorem dropCopy_tens (s : State) (v : Vale) (i reason : Nat) : (dropCopy s v i reason).tens = s.tens := by
  simp [dropCopy]

@[simp] theorem dropDown_tens (s : State) (v : Vale) (f : Nat → Packet → Bool) : (dropDown s v f).tens = s.tens := by
  simp [dropDown]

@[simp] theorem dropWhere_tens (s : State) (v : Vale) (f : Nat → Packet → Bool) (reason : Nat) :
    (dropWhere s v f reason).tens = s.tens := by
  simp [dropWhere]

/-! Cores and threads. -/

@[simp] theorem setCore_tens (s : State) (v : Vale) (n : Nat) (c : Core) : (setCore s v n c).tens = s.tens := modCol_tens _ _ _
@[simp] theorem modCore_tens (s : State) (v : Vale) (n : Nat) (f : Core → Core) : (modCore s v n f).tens = s.tens := setCore_tens _ _ _ _
@[simp] theorem setThr_tens (s : State) (th : Thr) (x : Thread) : (setThr s th x).tens = s.tens := modCore_tens _ _ _ _
@[simp] theorem modThr_tens (s : State) (th : Thr) (f : Thread → Thread) : (modThr s th f).tens = s.tens := setThr_tens _ _ _
@[simp] theorem freeFamily_tens (s : State) (v : Vale) (n i : Nat) : (freeFamily s v n i).tens = s.tens := modCore_tens _ _ _ _

@[simp] theorem endFamily_tens (s : State) (v : Vale) (n i reason : Nat) : (endFamily s v n i reason).tens = s.tens := by
  simp [endFamily]

@[simp] theorem pushNote_tens (s : State) (v : Vale) (n : Nat) (ws : List Word36) : (pushNote s v n ws).tens = s.tens := by
  unfold pushNote
  dsimp only
  split <;> simp

@[simp] theorem raise_tens (s : State) (m : EvtMsg) : (raise s m).tens = s.tens := rfl

@[simp] theorem poolShortEvent_tens (s : State) (v : Vale) : (poolShortEvent s v).tens = s.tens := by
  unfold poolShortEvent
  split <;> simp

@[simp] theorem groupOn_tens (s : State) (v : Vale) (n : Nat) : (groupOn s v n).tens = s.tens := by
  unfold groupOn
  split <;> simp

@[simp] theorem startSubst_tens (s : State) (v : Vale) (slot : Nat) : (startSubst s v slot).tens = s.tens := by
  unfold startSubst
  split <;> simp

@[simp] theorem endFamilies_tens (s : State) (v : Vale) (n : Nat) : (endFamilies s v n).tens = s.tens := by
  unfold endFamilies
  refine foldl_tens (fun a t => ?_) _ _
  split <;> simp

@[simp] theorem queueTest_tens (s : State) (v : Vale) (n : Nat) : (queueTest s v n).tens = s.tens := by
  unfold queueTest
  dsimp only
  repeat' split
  all_goals simp

@[simp] theorem leaveRing_tens (s : State) (v : Vale) (n : Nat) (st : CoreSt) : (leaveRing s v n st).tens = s.tens := by
  unfold leaveRing
  dsimp only
  split <;> simp

/-! Functions of the host interface. -/

@[simp] theorem modFn_tens (s : State) (f : Nat) (g : HostFn → HostFn) : (modFn s f g).tens = s.tens := rfl
@[simp] theorem pushMsg_tens (s : State) (m : HMsg) : (pushMsg s m).tens = s.tens := rfl

@[simp] theorem sendErr_tens (s : State) (f severity : Nat) : (sendErr s f severity).tens = s.tens := by
  unfold sendErr
  split <;> simp

@[simp] theorem aerCor_tens (s : State) (f bit : Nat) : (aerCor s f bit).tens = s.tens := by
  unfold aerCor
  dsimp only
  split <;> simp

@[simp] theorem drawFree_tens (s : State) (b : Nat) : (drawFree s b).2.tens = s.tens := rfl

@[simp] theorem aerUnc_tens (s : State) (f bit : Nat) : (aerUnc s f bit).tens = s.tens := by
  unfold aerUnc
  dsimp only
  split <;> simp

@[simp] theorem raiseVector_tens (s : State) (f vec : Nat) : (raiseVector s f vec).tens = s.tens := by
  rw [raiseVector_eq]

/-! Errors: a handler's action decides what an error leaves alone. -/

@[simp] theorem logErr_tens (s : State) (r : ErrRec) : (logErr s r).tens = s.tens := rfl
@[simp] theorem aonChip_tens (r : ErrRec) (s : State) : (aonChip r s).tens = s.tens := rfl
@[simp] theorem failStopUnits_tens (s : State) : (failStopUnits s).tens = s.tens := rfl
@[simp] theorem failStopVale_tens (s : State) (v : Vale) : (failStopVale s v).tens = s.tens := dropWhere_tens _ _ _ _

@[simp] theorem failStopAer_tens (s : State) : (failStopAer s).tens = s.tens := by
  simp [failStopAer]

@[simp] theorem enterFailStop_tens (r : ErrRec) (s : State) : (enterFailStop r s).tens = s.tens := by
  unfold enterFailStop
  split <;> simp

/-- What the error logs do not hold an error changes by its actions only. -/
theorem arriveAt_keeps {β : Type} {π : State → β} (hlog : ∀ s r, π (logErr s r) = π s)
    (hstat : ∀ s l x, π (setStat s l x) = π s) (hset : ∀ s k h, π (setHandler s k h) = π s) {act : ErrKind → Nat → ErrRec → State → State}
    (hact : ∀ k l r s, π (act k l r s) = π s) (d : ErrDesc) (first fuel level flags parent : Nat) (s : State) :
    π (arriveAt act d first fuel level flags parent s) = π s := by
  induction fuel generalizing level flags parent s with
  | zero => rfl
  | succ fuel ih =>
    unfold arriveAt
    dsimp only
    split
    case h_1 => split <;> split <;> simp only [hact, hset, hstat, hlog]
    case h_2 =>
      split
      · split <;> simp only [hact, ih, hstat, hlog]
      · split <;> split <;> simp only [hact, ih, hset, hstat, hlog]

@[simp] theorem arrive_tens {act : ErrKind → Nat → ErrRec → State → State} (hact : ∀ k l r s, (act k l r s).tens = s.tens)
    (d : ErrDesc) (level : Nat) (s : State) : (arrive act d level s).tens = s.tens :=
  arriveAt_keeps (fun _ _ => rfl) (fun _ _ _ => rfl) (fun _ _ _ => rfl) hact _ _ _ _ _ _ _

@[simp] theorem coreRegionAct_tens (v : Vale) (k : ErrKind) (l : Nat) (r : ErrRec) (s : State) :
    (coreRegionAct v k l r s).tens = s.tens := by
  unfold coreRegionAct
  split <;> simp

@[simp] theorem coreAct_tens (v : Vale) (n : Nat) (k : ErrKind) (l : Nat) (r : ErrRec) (s : State) :
    (coreAct v n k l r s).tens = s.tens := by
  unfold coreAct
  split
  · simp
  · dsimp only
    split <;> split <;> simp

@[simp] theorem coreBlockError_tens (s : State) (v : Vale) (n : Nat) (k : ErrKind) (cause detail : Nat) :
    (coreBlockError s v n k cause detail).tens = s.tens :=
  arrive_tens (coreAct_tens v n) _ _ _

@[simp] theorem colFault_tens (s : State) (th : Thr) (f : FaultCode) (detail : Nat) : (colFault s th f detail).tens = s.tens := by
  unfold colFault
  dsimp only
  split <;> simp

/-! Frames and their tails. -/

@[simp] theorem wakeThread_tens (s : State) (th : Thr) : (wakeThread s th).tens = s.tens := by
  unfold wakeThread
  dsimp only
  repeat' split
  all_goals simp

@[simp] theorem wakeHeader_tens (s : State) (v : Vale) (i : Nat) : (wakeHeader s v i).tens = s.tens := by
  unfold wakeHeader
  split
  · rfl
  · refine foldl_tens (fun a t => ?_) _ _
    dsimp only
    split <;> simp

@[simp] theorem dropHeld_tens (s : State) (v : Vale) (i reason : Nat) : (dropHeld s v i reason).tens = s.tens := by
  unfold dropHeld
  split <;> simp

@[simp] theorem appendBytes_tens (s : State) (v : Vale) (i : Nat) (bs : List Byte) : (appendBytes s v i bs).tens = s.tens := by
  unfold appendBytes
  split
  · rfl
  · dsimp only
    repeat' split
    all_goals simp

@[simp] theorem frameTail_tens (s : State) (v : Vale) (i : Nat) (rest : List Byte) (ok : Bool) :
    (frameTail s v i rest ok).tens = s.tens := by
  unfold frameTail
  dsimp only
  split
  · simp
  · repeat' split
    all_goals simp

@[simp] theorem tailLost_tens (s : State) (v : Vale) (i : Nat) : (tailLost s v i).tens = s.tens := by
  unfold tailLost
  split
  · rfl
  · repeat' split
    all_goals simp

/-! Saddle regions. -/

@[simp] theorem modSport_tens (s : State) (p : Nat) (f : SPort → SPort) : (modSport s p f).tens = s.tens := rfl
@[simp] theorem pushCpl_tens (s : State) (p : Nat) (c : SgCpl) : (pushCpl s p c).tens = s.tens := rfl

@[simp] theorem modRegion_tens (s : State) (r : Nat) (f : SRegion → SRegion) : (modRegion s r f).tens = s.tens := by
  unfold modRegion
  split <;> simp

@[simp] theorem dropPartial_tens (s : State) (r : Nat) (atReset : Bool) : (dropPartial s r atReset).tens = s.tens := by
  unfold dropPartial
  split
  · rfl
  · dsimp only
    split <;> split <;> simp

@[simp] theorem dropToRegion_tens (s : State) (r : Nat) : (dropToRegion s r).tens = s.tens := by
  simp [dropToRegion]

@[simp] theorem discardGate_tens (s : State) (r : Nat) : (discardGate s r).tens = s.tens := by
  unfold discardGate
  split
  · rfl
  · dsimp only
    rw [foldl_tens (fun _ _ => pushCpl_tens _ _ _)]
    simp

@[simp] theorem closeRegion_tens (s : State) (r : Nat) : (closeRegion s r).tens = s.tens := by
  simp [closeRegion]

/-! Answers, and the requests that a region's reset holds. -/

@[simp] theorem mbFill_tens (s : State) (bs : List Byte) : (mbFill s bs).tens = s.tens := by
  rw [mbFill_eq]

@[simp] theorem mbRespond_tens (s : State) (bs : List Byte) : (mbRespond s bs).tens = s.tens := by
  unfold mbRespond
  split <;> simp

@[simp] theorem sendResp_tens (s : State) (src : ReqSource) (m : RespMsg) : (sendResp s src m).tens = s.tens := by
  unfold sendResp
  repeat' split
  all_goals simp

@[simp] theorem answerReq_tens (s : State) (r : Req) (a : Resp) : (answerReq s r a).tens = s.tens := by
  unfold answerReq
  dsimp only
  rw [sendResp_tens]
  repeat' split
  all_goals simp

@[simp] theorem answerWrite_tens (s : State) (q : Option Req) (st : Status) : (answerWrite s q st).tens = s.tens := by
  unfold answerWrite
  split <;> simp

@[simp] theorem resetFails_tens (s : State) (r : Nat) (x : SRegion) (st : Status) : (resetFails s r x st).tens = s.tens := by
  unfold resetFails
  dsimp only
  split <;> simp

@[simp] theorem abortReset_tens (s : State) (r : Nat) (st : Status) : (abortReset s r st).tens = s.tens := by
  unfold abortReset
  split
  · split <;> simp
  · rfl

@[simp] theorem endReset_tens (s : State) (r : Nat) (why : IsoWhy) : (endReset s r why).tens = s.tens := by
  cases why <;> simp [endReset]

@[simp] theorem askReset_tens (s : State) (r : Nat) : (askReset s r).tens = s.tens := by
  unfold askReset
  split
  · rfl
  · split <;> simp

@[simp] theorem startIsolation_tens (s : State) (r : Nat) (why : IsoWhy) : (startIsolation s r why).tens = s.tens := by
  unfold startIsolation
  split
  · rfl
  · split <;> simp

/-! Queues of the traffic manager, partitions and maps. -/

@[simp] theorem setDeficit_tens (v : Vale) (s : State) (e : Nat) (d : Int) : (setDeficit v s e d).tens = s.tens := modTm_tens _ _ _

@[simp] theorem settleAll_tens (s : State) (v : Vale) : (settleAll s v).tens = s.tens := by
  unfold settleAll
  refine foldl_tens (fun a p => ?_) _ _
  split <;> simp

@[simp] theorem untarget_tens (s : State) (v : Vale) (e : Nat) : (untarget s v e).tens = s.tens := by
  unfold untarget
  dsimp only
  rw [foldl_tens]
  · simp
  · intro a p
    split <;> simp

@[simp] theorem flushQueue_tens (s : State) (v : Vale) (q : Nat) : (flushQueue s v q).tens = s.tens := by
  simp [flushQueue]

@[simp] theorem unwatch_tens (s : State) (v : Vale) (q : Nat) : (unwatch s v q).tens = s.tens := rfl

@[simp] theorem dropStamped_tens (s : State) (v : Vale) (h : Handle) : (dropStamped s v h).tens = s.tens := dropWhere_tens _ _ _ _

@[simp] theorem removeTenNode_tens (v : Vale) (h : Handle) (s : State) (i : Nat) : (removeTenNode v h s i).tens = s.tens := by
  simp [removeTenNode]

@[simp] theorem uncountPart_tens (s : State) (v : Vale) (p : Partition) : (uncountPart s v p).tens = s.tens := by
  unfold uncountPart
  split
  · refine foldl_tens (fun a e => ?_) _ _
    unfold subLearn
    split <;> simp
  · rfl

@[simp] theorem clearMaps_tens (s : State) (v : Vale) (i : Nat) : (clearMaps s v i).tens = s.tens := rfl

/-! Function level resets. -/

@[simp] theorem pendIrq_tens (s : State) (r : Nat × Nat × Nat) : (pendIrq s r).tens = s.tens := rfl

@[simp] theorem steppeIrq_tens (s : State) (i : Nat) : (steppeIrq s i).tens = s.tens := by
  simp [steppeIrq]

@[simp] theorem mbPendSet_tens (s : State) (n : Nat) : (mbPendSet s n).tens = s.tens := by
  simp [mbPendSet]

@[simp] theorem mbResetStart_tens (s : State) (n : Nat) (byTenant : Bool) : (mbResetStart s n byTenant).tens = s.tens := by
  simp [mbResetStart]

@[simp] theorem resetPf0_tens (s : State) : (resetPf0 s).tens = s.tens := rfl

@[simp] theorem startFlrOne_tens (s : State) (f : Nat) : (startFlrOne s f).tens = s.tens := by
  simp [startFlrOne]

@[simp] theorem flrTree_tens (s : State) (f : Nat) : (flrTree s f).tens = s.tens := by
  simp [flrTree]

@[simp] theorem startFlr_tens (s : State) (f : Nat) : (startFlr s f).tens = s.tens := by
  simp [startFlr]

@[simp] theorem clearPorts_tens (s : State) (h : Handle) : (clearPorts s h).tens = s.tens := by
  refine foldl_tens (fun a v => foldl_tens (fun b k => ?_) _ _) _ _
  simp [persist]

@[simp] theorem afterShare_tens (old s : State) (v : Vale) : (afterShare old s v).tens = s.tens := by
  simp [afterShare]

/-! ### Which tenancy indices are in use -/

/-- The indices in use are those of before. -/
@[simp] theorem isSome_foldl_tens {α : Type} {f : State → α → State} {i : Nat}
    (h : ∀ s a, (tget (f s a).tens i).isSome = (tget s.tens i).isSome) (l : List α) (s : State) :
    (tget (l.foldl f s).tens i).isSome = (tget s.tens i).isSome :=
  foldl_keeps (fun s : State => (tget s.tens i).isSome) h l s

theorem isSome_tset {α : Type} {t : Tab α} {k : Nat} (hk : (tget t k).isSome = true) (y : α) (i : Nat) :
    (tget (tset t k y) i).isSome = (tget t i).isSome := by
  by_cases hi : i = k
  · subst hi
    rw [tget_tset_same, hk]
    rfl
  · rw [tget_tset_other _ _ _ _ hi]

@[simp] theorem isSome_modTen (s : State) (k : Nat) (f : Tenancy → Tenancy) (i : Nat) :
    (tget (modTen s k f).tens i).isSome = (tget s.tens i).isSome := by
  unfold modTen
  split
  case h_1 t ht => exact isSome_tset (by rw [← tenAt, ht]; rfl) _ _
  case h_2 => rfl

@[simp] theorem isSome_endObj (s : State) (kind n i : Nat) :
    (tget (endObj s kind n).tens i).isSome = (tget s.tens i).isSome := by
  unfold endObj
  dsimp only
  split <;> simp [subUsage]

@[simp] theorem isSome_tenErrLeave (s : State) (o : Handle) (unit resource i : Nat) :
    (tget (tenErrLeave s o unit resource).tens i).isSome = (tget s.tens i).isSome := by
  unfold tenErrLeave
  split <;> simp

/-! Regions, and the tenancies that errors halt. -/

@[simp] theorem isSome_freeRegion (s : State) (r i : Nat) : (tget (freeRegion s r).tens i).isSome = (tget s.tens i).isSome := by
  unfold freeRegion
  split
  · rfl
  · dsimp only
    rw [isSome_endObj, isSome_tenErrLeave, foldl_tens (fun _ _ => count_tens _ _), abortReset_tens]

@[simp] theorem isSome_afterIso (s : State) (r : Nat) (why : IsoWhy) (i : Nat) :
    (tget (afterIso s r why).tens i).isSome = (tget s.tens i).isSome := by
  cases why <;> simp [afterIso]

@[simp] theorem isSome_isolateFor (s : State) (r : Nat) (why : IsoWhy) (i : Nat) :
    (tget (isolateFor s r why).tens i).isSome = (tget s.tens i).isSome := by
  unfold isolateFor
  split
  · rfl
  · split <;> simp

@[simp] theorem haltFn_tens (s : State) (f reason errSeq : Nat) : (haltFn s f reason errSeq).tens = s.tens := by
  simp [haltFn]

@[simp] theorem haltQueues_tens (s : State) (f : Nat) : (haltQueues s f).tens = s.tens := rfl

@[simp] theorem isSome_haltTenancy (s : State) (h : Handle) (errSeq i : Nat) :
    (tget (haltTenancy s h errSeq).tens i).isSome = (tget s.tens i).isSome := by
  simp [haltTenancy]

@[simp] theorem isSome_tenErr (s : State) (h : Handle) (d : ErrDesc) (origin i : Nat) :
    (tget (tenErr s h d origin).tens i).isSome = (tget s.tens i).isSome := by
  have hset : ∀ t : Tenancy, (tget s.tens (hIdx h)).isSome = true →
      (tget (tset s.tens (hIdx h) t) i).isSome = (tget s.tens i).isSome := fun t ht => isSome_tset ht t i
  unfold tenErr
  split
  case h_1 => rfl
  case h_2 t ht =>
    have hsome : (tget s.tens (hIdx h)).isSome = true := by
      rw [← tenAt, ht]
      rfl
    split
    · rfl
    · dsimp only
      split
      · simp [setTen, hset, hsome]
      · split <;> simp [setTen, hset, hsome]

theorem isSome_arrive {act : ErrKind → Nat → ErrRec → State → State} {i : Nat}
    (hact : ∀ k l r s, (tget (act k l r s).tens i).isSome = (tget s.tens i).isSome) (d : ErrDesc) (level : Nat) (s : State) :
    (tget (arrive act d level s).tens i).isSome = (tget s.tens i).isSome :=
  arriveAt_keeps (π := fun s : State => (tget s.tens i).isSome) (fun _ _ => rfl) (fun _ _ _ => rfl) (fun _ _ _ => rfl) hact _ _ _ _ _ _ _

theorem isSome_ownedError {act : ErrKind → Nat → ErrRec → State → State} {i : Nat}
    (hact : ∀ k l r s, (tget (act k l r s).tens i).isSome = (tget s.tens i).isSome) (d : ErrDesc) (s : State) :
    (tget (ownedError act d s).tens i).isSome = (tget s.tens i).isSome := by
  unfold ownedError
  split
  · rw [hact, isSome_tenErr]
  · exact isSome_arrive hact d 2 s

/-! Commands of a controller that end with its slot. -/

@[simp] theorem hostWrite_tens (s : State) (f addr : Nat) (bs : List Byte) : (hostWrite s f addr bs).tens = s.tens := by
  simp [hostWrite, hostIssue]

@[simp] theorem setNvQ_tens (s : State) (i : Nat) (q : NvQ) : (setNvQ s i q).tens = s.tens := rfl

@[simp] theorem modNv_tens (s : State) (c : Nat) (f : NvCtrl → NvCtrl) : (modNv s c f).tens = s.tens := by
  unfold modNv
  split <;> rfl

@[simp] theorem nvSignal_tens (s : State) (c i : Nat) : (nvSignal s c i).tens = s.tens := by
  unfold nvSignal
  split
  · simp
  · rfl

theorem nvPost_tens {s t : State} {c sqi cid status dw0 nsid : Nat} (h : nvPost s c sqi cid status dw0 nsid = some t) :
    t.tens = s.tens := by
  unfold nvPost at h
  repeat' split at h
  all_goals cases h
  all_goals simp

@[simp] theorem isSome_dropNvQ (s : State) (q : Nat) (bump : Bool) (i : Nat) :
    (tget (dropNvQ s q bump).tens i).isSome = (tget s.tens i).isSome := by
  unfold dropNvQ
  split
  · rfl
  · simp [freeContext]

@[simp] theorem isSome_tryDelete (s : State) (c q i : Nat) : (tget (tryDelete s c q).tens i).isSome = (tget s.tens i).isSome := by
  unfold tryDelete
  split
  case h_2 => rfl
  case h_1 =>
    split
    case h_1 => rfl
    case h_2 =>
      split
      · rfl
      · split
        case h_1 => rfl
        case h_2 t hpost => rw [isSome_dropNvQ, nvPost_tens hpost]

@[simp] theorem isSome_nvFinish (s : State) (tag status dw0 i : Nat) :
    (tget (nvFinish s tag status dw0).tens i).isSome = (tget s.tens i).isSome := by
  unfold nvFinish
  split
  · rfl
  · split
    case h_1 => rfl
    case h_2 t hpost => simp [nvPost_tens hpost]

@[simp] theorem isSome_portsDown (s : State) (q i : Nat) : (tget (portsDown s q).tens i).isSome = (tget s.tens i).isSome := by
  simp [portsDown, ssdLost]

@[simp] theorem isSome_slotFailAct (q : Nat) (k : ErrKind) (l : Nat) (r : ErrRec) (s : State) (i : Nat) :
    (tget (slotFailAct q k l r s).tens i).isSome = (tget s.tens i).isSome := by
  unfold slotFailAct
  split <;> simp

@[simp] theorem isSome_isoErr (s : State) (name : String) (r : Fin 64) (x : SRegion) (cause i : Nat) :
    (tget (isoErr s name r x cause).tens i).isSome = (tget s.tens i).isSome := by
  refine isSome_ownedError (fun k l e a => ?_) _ _
  unfold isoErrAct
  repeat' split
  all_goals simp

/-! ### The steps of a teardown -/

@[simp] theorem isSome_tearRegion (silent : List (Fin 64)) (s : State) (r i : Nat) :
    (tget (tearRegion silent s r).tens i).isSome = (tget s.tens i).isSome := by
  unfold tearRegion
  dsimp only
  split
  · simp
  · split <;> simp

@[simp] theorem isSome_endQueue (s : State) (v : Vale) (q i : Nat) :
    (tget (endQueue s v q).tens i).isSome = (tget s.tens i).isSome := by
  simp [endQueue]

@[simp] theorem isSome_freeShaper (s : State) (v : Vale) (x i : Nat) :
    (tget (freeShaper s v x).tens i).isSome = (tget s.tens i).isSome := by
  simp [freeShaper]

@[simp] theorem isSome_flushVale (h : Handle) (s : State) (v : Vale) (i : Nat) :
    (tget (flushVale h s v).tens i).isSome = (tget s.tens i).isSome := by
  simp [flushVale]

@[simp] theorem isSome_freePartition (s : State) (v : Vale) (p i : Nat) :
    (tget (freePartition s v p).tens i).isSome = (tget s.tens i).isSome := by
  unfold freePartition
  split <;> simp

@[simp] theorem isSome_purgeVale (h : Handle) (s : State) (v : Vale) (i : Nat) :
    (tget (purgeVale h s v).tens i).isSome = (tget s.tens i).isSome := by
  simp [purgeVale]

end Sys2Proof.Machine
end

section
/-! Proofs of the statement about the life of a tenancy (R20-R23, R30, R32). -/

namespace Sys2Proof.Machine

/-! ### What leaves memory alone -/

@[simp] theorem mem_ite (c : Prop) [Decidable c] (s t : State) : (if c then s else t).mem = if c then s.mem else t.mem :=
  apply_ite State.mem c s t

@[simp] theorem foldl_mem {α : Type} {f : State → α → State} (h : ∀ s a, (f s a).mem = s.mem) (l : List α) (s : State) :
    (l.foldl f s).mem = s.mem :=
  foldl_keeps State.mem h l s

@[simp] theorem modTen_mem (s : State) (i : Nat) (f : Tenancy → Tenancy) : (modTen s i f).mem = s.mem := by
  unfold modTen
  split <;> simp

@[simp] theorem modTen_dict (s : State) (i : Nat) (f : Tenancy → Tenancy) : (modTen s i f).dict = s.dict := by
  unfold modTen
  split <;> simp

@[simp] theorem raise_mem (s : State) (m : EvtMsg) : (raise s m).mem = s.mem := rfl

@[simp] theorem afterShare_mem (old s : State) (v : Vale) : (afterShare old s v).mem = s.mem := by
  simp [afterShare, poolShortEvent]

@[simp] theorem afterShare_dict (old s : State) (v : Vale) : (afterShare old s v).dict = s.dict := by
  unfold afterShare poolShortEvent
  repeat' split
  all_goals rfl

@[simp] theorem modFn_mem (s : State) (f : Nat) (g : HostFn → HostFn) : (modFn s f g).mem = s.mem := rfl

@[simp] theorem mbPendSet_mem (s : State) (n : Nat) : (mbPendSet s n).mem = s.mem := by
  simp [mbPendSet, steppeIrq, pendIrq]

@[simp] theorem mbResetStart_mem (s : State) (n : Nat) (byTenant : Bool) : (mbResetStart s n byTenant).mem = s.mem := by
  simp [mbResetStart]

@[simp] theorem resetPf0_mem (s : State) : (resetPf0 s).mem = s.mem := rfl

@[simp] theorem startFlrOne_mem (s : State) (f : Nat) : (startFlrOne s f).mem = s.mem := by
  simp [startFlrOne]

@[simp] theorem startFlr_mem (s : State) (f : Nat) : (startFlr s f).mem = s.mem := by
  simp [startFlr, flrTree]

@[simp] theorem clearPorts_mem (s : State) (h : Handle) : (clearPorts s h).mem = s.mem := by
  refine foldl_mem (fun a v => foldl_mem (fun b k => ?_) _ _) _ _
  simp [persist]

/-! ### Dictionary commands -/

/-- A dictionary row is its operation's run. -/
theorem serves_of_runOp {c : Instr} {op : DictOp} (h : ∀ s, exec c s = .next (runOp op s)) : Serves c op :=
  fun s hs hok => (h s).trans (congrArg Host.Outcome.next (runOp_ok op s hs hok))

/-- A served command completes in the state of its effect, with its answer. -/
theorem Serves.completes {c : Instr} {op : DictOp} (hserves : Serves c op) {s : State} (hs : glenServes s = true)
    (hok : op.status s = .ok) {P : State → Prop} (hP : P (respond (op.effect s).1 .ok 0 (op.effect s).2)) : Completes c s P :=
  ⟨_, hserves s hs hok, hP⟩

/-- A passed list of checks holds no failure that applies. -/
theorem not_applies_of_ok {cs : List (Status × Bool)} (hok : firstStatus cs = .ok) {st : Status} (hst : st ≠ .ok) {b : Bool}
    (hmem : (st, b) ∈ cs) : b = false := by
  rw [firstStatus_ok_iff] at hok
  have hnone := hok st (mem_statusOrder hst)
  rw [← Bool.not_eq_true, any_applies_iff] at hnone
  cases b with
  | false => rfl
  | true => exact absurd hmem hnone

/-! ### Creation, quotas and shares (R20-R23) -/

/-- An index drawn from a free list changes the free lists alone (R18). -/
theorem allocIndex_state {s s1 : State} {kind i : Nat} (h : allocIndex s kind = some (i, s1)) :
    ∃ fresh freed, s1 = { s with dict := { s.dict with fresh := fresh, freed := freed } } := by
  unfold allocIndex at h
  dsimp only at h
  split at h
  · cases h
    exact ⟨_, _, rfl⟩
  · split at h
    · cases h
    · cases h
      exact ⟨_, _, rfl⟩

theorem tenAt_setTen_other (s : State) {i j : Nat} (h : j ≠ i) (x : Tenancy) : tenAt (setTen s i x) j = tenAt s j :=
  tget_tset_other _ _ _ _ h

theorem tenAt_modTen {s : State} {i : Nat} {x : Tenancy} (h : tenAt s i = some x) (f : Tenancy → Tenancy) :
    tenAt (modTen s i f) i = some (f x) := by
  simp [modTen, h]

theorem tenAt_modTen_other (s : State) {i j : Nat} (h : j ≠ i) (f : Tenancy → Tenancy) : tenAt (modTen s i f) j = tenAt s j := by
  unfold modTen
  split
  · exact tenAt_setTen_other s h _
  · rfl

theorem tenAt_congr {s t : State} (h : t.tens = s.tens) (i : Nat) : tenAt t i = tenAt s i := by
  rw [tenAt, tenAt, h]

@[simp] theorem tenAt_afterShare (old s : State) (v : Vale) (i : Nat) : tenAt (afterShare old s v) i = tenAt s i :=
  tenAt_congr (afterShare_tens old s v) i

theorem serves_tenancyCreate (who : Who) (r : Rec 8) : Serves (.tenancyCreate who r) (tenancyCreateOp who r) :=
  serves_of_runOp (exec_tenancyCreate who r)

/-- A create that passes its checks has an index to take (R21). -/
theorem allocIndex_of_tenancyCreate_ok {who : Who} {r : Rec 8} {s : State} (hok : (tenancyCreateOp who r).status s = .ok) :
    ∃ i s1, allocIndex s 1 = some (i, s1) := by
  have hfree := not_applies_of_ok hok (st := .noResource) (by decide)
    (List.mem_append_right _ (List.mem_cons_of_mem _ (List.mem_singleton_self _)))
  rw [Bool.or_eq_false_iff, Bool.not_eq_false'] at hfree
  obtain ⟨⟨i, s1⟩, halloc⟩ := Option.isSome_iff_exists.mp hfree.1
  exact ⟨i, s1, halloc⟩

/-- R20: the tenancy that a record describes. -/
def createdTen (r : Nat) (h : Handle) : Tenancy :=
  { st := .active, mode := tcMode r, dyn := decide (tcKind r = 1), shareEast := tcShare r .east, shareWest := tcShare r .west, handle := h }

theorem tenancyCreateOp_effect {s s1 : State} {i : Nat} (halloc : allocIndex s 1 = some (i, s1)) (who : Who) (r : Rec 8) :
    (tenancyCreateOp who r).effect s =
      (afterShare s (afterShare s (setTen s1 i (createdTen r.toNat (handleOf s1 1 i))) .east) .west,
        beBytes 4 (handleOf s1 1 i).toNat) := by
  simp only [tenancyCreateOp, halloc]
  rfl

/-- R20, R21: the new tenancy. -/
theorem completes_tenancyCreate {who : Who} {r : Rec 8} {s : State} (hs : glenServes s = true)
    (hok : (tenancyCreateOp who r).status s = .ok) :
    Completes (.tenancyCreate who r) s (fun t => ∃ i, (allocIndex s 1).map (·.1) = some i ∧
      tenAt t i = some (createdTen r.toNat (handleOf s 1 i)) ∧ (∀ j, j ≠ i → tenAt t j = tenAt s j) ∧ t.mem = s.mem ∧
      t.resp = { status := .ok, payload := beBytes 4 (handleOf s 1 i).toNat }) := by
  obtain ⟨i, s1, halloc⟩ := allocIndex_of_tenancyCreate_ok hok
  have heff := tenancyCreateOp_effect halloc who r
  obtain ⟨fresh, freed, rfl⟩ := allocIndex_state halloc
  refine (serves_tenancyCreate who r).completes hs hok ⟨i, by rw [halloc]; rfl, ?_⟩
  rw [heff]
  refine ⟨?_, fun j hj => ?_, ?_, rfl⟩
  · simp only [tenAt_respond, tenAt_afterShare, tenAt_setTen]
    rfl
  · simp only [tenAt_respond, tenAt_afterShare, tenAt_setTen_other _ hj]
    rfl
  · simp

theorem serves_tenQuotaWrite (who : Who) (h : Handle) (kind : U8) (v : U32) :
    Serves (.tenQuotaWrite who h kind v) (tenQuotaOp who h kind v) :=
  serves_of_runOp (fun _ => rfl)

/-- R23: the quota alone takes the value. -/
theorem completes_tenQuotaWrite {who : Who} {h : Handle} {kind : U8} {v : U32} {s : State} (hs : glenServes s = true)
    (hok : (tenQuotaOp who h kind v).status s = .ok) :
    Completes (.tenQuotaWrite who h kind v) s (fun t =>
      numD t (tkey (hIdx h) 0xC001 kind.toNat) 0 = v.toNat ∧ t.resp = { status := .ok } ∧ t.tens = s.tens ∧ t.mem = s.mem ∧
      ∀ k d, k ≠ tkey (hIdx h) 0xC001 kind.toNat → numD t k d = numD s k d) :=
  (serves_tenQuotaWrite who h kind v).completes hs hok
    ⟨numD_setNum_same _ _ _ _, rfl, rfl, rfl, fun k d hk => numD_setNum_other s _ k _ d hk⟩

theorem serves_tenShareWrite (who : Who) (h : Handle) (v : Vale) (x : U16) :
    Serves (.tenShareWrite who h v x) (tenShareOp who h v x) :=
  serves_of_runOp (fun _ => rfl)

/-- R22: the share alone takes the value. -/
theorem completes_tenShareWrite {who : Who} {h : Handle} {v : Vale} {x : U16} {s : State} {y : Tenancy} (hs : glenServes s = true)
    (hok : (tenShareOp who h v x).status s = .ok) (hy : tenAt s (hIdx h) = some y) :
    Completes (.tenShareWrite who h v x) s (fun t =>
      tenAt t (hIdx h) = some (setShare y v x.toNat) ∧ (∀ j, j ≠ hIdx h → tenAt t j = tenAt s j) ∧ t.dict = s.dict ∧
      t.mem = s.mem ∧ t.resp = { status := .ok }) := by
  have heff : (tenShareOp who h v x).effect s = (afterShare s (modTen s (hIdx h) (fun t => setShare t v x.toNat)) v, []) := rfl
  refine (serves_tenShareWrite who h v x).completes hs hok ?_
  rw [heff]
  refine ⟨?_, fun j hj => ?_, ?_, ?_, rfl⟩
  · rw [tenAt_respond, tenAt_afterShare, tenAt_modTen hy]
  · rw [tenAt_respond, tenAt_afterShare, tenAt_modTen_other s hj]
  · rw [respond_dict, afterShare_dict, modTen_dict]
  · rw [respond_mem, afterShare_mem, modTen_mem]

/-! ### Destroy and reset (R17, R30) -/

theorem serves_tenancyDestroy (who : Who) (h : Handle) : Serves (.tenancyDestroy who h) (tenancyDestroyOp who h) :=
  serves_of_runOp (fun _ => rfl)

/-- The state of a destroy before its tenancy is marked: generations rise, and no COND_QUEUE record names its queues. -/
def destroyGens (s : State) (h : Handle) : State :=
  (dyingObjs s h).foldl (fun a (p : Nat × Nat) => bumpGen a p.1 p.2) (bumpGen (bumpGen (unnameQueues s h) 1 (hIdx h)) 7 (hIdx h))

/-- The tenancy of a destroy goes to Destroying, with teardown step 1 ahead. -/
def destroyMarked (s : State) (h : Handle) : State :=
  modTen (destroyGens s h) (hIdx h) (fun t => { t with st := .destroying, step := 1, resetting := false })

theorem destroyGens_tens (s : State) (h : Handle) : (destroyGens s h).tens = s.tens := by
  rw [destroyGens, foldl_tens (fun a (p : Nat × Nat) => bumpGen_tens a p.1 p.2)]
  rfl

theorem destroyGens_mem (s : State) (h : Handle) : (destroyGens s h).mem = s.mem := by
  rw [destroyGens, foldl_mem (fun a (p : Nat × Nat) => bumpGen_mem a p.1 p.2)]
  rfl

/-- After the mark a destroy touches no tenancy and no memory. -/
theorem tenancyDestroyOp_effect (who : Who) (h : Handle) (s : State) :
    ((tenancyDestroyOp who h).effect s).1.tens = (destroyMarked s h).tens ∧
    ((tenancyDestroyOp who h).effect s).1.mem = s.mem ∧ ((tenancyDestroyOp who h).effect s).2 = [] := by
  refine ⟨?_, ?_, rfl⟩
  · exact (foldl_tens startFlr_tens _ _).trans (clearPorts_tens _ _)
  · refine (foldl_mem startFlr_mem _ _).trans ((clearPorts_mem _ _).trans ?_)
    exact (modTen_mem _ _ _).trans (destroyGens_mem s h)

/-- R30: the tenancy is Destroying. -/
theorem completes_tenancyDestroy {who : Who} {h : Handle} {s : State} {x : Tenancy} (hs : glenServes s = true)
    (hok : (tenancyDestroyOp who h).status s = .ok) (hx : tenAt s (hIdx h) = some x) :
    Completes (.tenancyDestroy who h) s (fun t =>
      tenAt t (hIdx h) = some { x with st := .destroying, step := 1, resetting := false } ∧
      (∀ j, j ≠ hIdx h → tenAt t j = tenAt s j) ∧ t.mem = s.mem ∧ t.resp = { status := .ok }) := by
  obtain ⟨htens, hmem, hbytes⟩ := tenancyDestroyOp_effect who h s
  have hgens : ∀ j, tenAt (destroyGens s h) j = tenAt s j := tenAt_congr (destroyGens_tens s h)
  have hxg : tenAt (destroyGens s h) (hIdx h) = some x := by rw [hgens, hx]
  refine (serves_tenancyDestroy who h).completes hs hok
    ⟨?_, fun j hj => ?_, (respond_mem _ _ _ _).trans hmem, by rw [respond_resp, hbytes]⟩
  · rw [tenAt_respond, tenAt_congr htens, destroyMarked, tenAt_modTen hxg]
  · rw [tenAt_respond, tenAt_congr htens, destroyMarked, tenAt_modTen_other (destroyGens s h) hj, hgens]

theorem serves_tenReset (who : Who) (h : Handle) (v : U8) : Serves (.tenReset who h v) (tenResetOp who h v) :=
  serves_of_runOp (fun _ => rfl)

/-- The named field of a tenancy whose index stays in use takes its new value. -/
theorem map_tenAt_modTen {β : Type} {s : State} {i : Nat} (h : (tenAt s i).isSome = true) (f : Tenancy → Tenancy) {g : Tenancy → β}
    {b : β} (hg : ∀ x, g (f x) = b) : (tenAt (modTen s i f) i).map g = some b := by
  obtain ⟨x, hx⟩ := Option.isSome_iff_exists.mp h
  rw [tenAt_modTen hx, Option.map_some, hg]

/-- The resets that a tenancy reset starts: of the functions, the Saddle regions and the mailbox. -/
def resetStarted (s : State) (h : Handle) : State :=
  let s1 := (tenFns s h).foldl startFlr s
  mbResetStart ((tenRegions s1 h).foldl (fun a r => isolateFor a r .tenReset) s1) (hIdx h) false

theorem isSome_resetStarted (s : State) (h : Handle) (i : Nat) :
    (tget (resetStarted s h).tens i).isSome = (tget s.tens i).isSome := by
  simp [resetStarted]

/-- A reset runs from then on, whether or not it ran before. -/
theorem tenResetOp_effect {who : Who} {h : Handle} {v : U8} {s : State} {x : Tenancy} (hx : tenAt s (hIdx h) = some x) :
    (tenAt ((tenResetOp who h v).effect s).1 (hIdx h)).map (·.resetting) = some true ∧ ((tenResetOp who h v).effect s).2 = [] := by
  by_cases hruns : x.resetting = true
  · have heff : (tenResetOp who h v).effect s = (s, []) := by simp [tenResetOp, hx, hruns]
    simp [heff, hx, hruns]
  · have heff : (tenResetOp who h v).effect s =
        (modTen (resetStarted s h) (hIdx h) (fun y => { y with resetting := true }), []) := by
      simp [tenResetOp, hx, hruns, resetStarted]
    have hused : (tenAt (resetStarted s h) (hIdx h)).isSome = true := by
      rw [tenAt, isSome_resetStarted, ← tenAt, hx]
      rfl
    have hmarked := map_tenAt_modTen hused (fun y => { y with resetting := true }) (g := Tenancy.resetting) (b := true) (fun _ => rfl)
    simp only [heff, hmarked, and_self]

/-- R30: the reset runs. -/
theorem completes_tenReset {who : Who} {h : Handle} {v : U8} {s : State} {x : Tenancy} (hs : glenServes s = true)
    (hok : (tenResetOp who h v).status s = .ok) (hx : tenAt s (hIdx h) = some x) :
    Completes (.tenReset who h v) s (fun t =>
      (tenAt t (hIdx h)).map (·.resetting) = some true ∧ t.resp = { status := .ok }) := by
  obtain ⟨hresetting, hbytes⟩ := tenResetOp_effect (who := who) (v := v) hx
  exact (serves_tenReset who h v).completes hs hok ⟨hresetting, by rw [respond_resp, hbytes]⟩

theorem tenancyCommandsComplete : Claims.TenancyCommandsComplete :=
  ⟨fun _ _ _ hs hok => completes_tenancyCreate hs hok, fun _ _ _ _ _ hs hok => completes_tenQuotaWrite hs hok,
    fun _ _ _ _ _ _ hs hok hy => completes_tenShareWrite hs hok hy, serves_tenancyDestroy,
    fun _ _ _ _ hs hok hx => completes_tenancyDestroy hs hok hx, serves_tenReset,
    fun _ _ _ _ _ hs hok hx => completes_tenReset hs hok hx⟩

/-! ### Teardown (R32) -/

/-- A step that is the one in progress runs, and the next one is ahead. -/
theorem teardown_runs {s : State} {i : Fin 256} {x : Tenancy} {step : Nat} {ok : Handle → Bool} (hx : tenAt s i = some x)
    (hst : x.st = .destroying) (hstop : s.err.failStop = false) (hstep : x.step = step) (hok : ok x.handle = true)
    (run : Handle → State) :
    teardown s i step ok run = modTen (run x.handle) i (fun y => { y with step := if step = 1 then 3 else step + 1 }) := by
  simp [teardown, hx, hst, hstop, hstep, hok]

/-- A step out of order, or one that has to wait, does nothing. -/
theorem teardown_waits {s : State} {i : Fin 256} {x : Tenancy} {step : Nat} {ok : Handle → Bool} (hx : tenAt s i = some x)
    (h : x.step ≠ step ∨ ok x.handle = false) (run : Handle → State) : teardown s i step ok run = s := by
  rcases h with hstep | hok
  · simp [teardown, hx, hstep]
  · simp [teardown, hx, hok]

/-- The step that a teardown's step leaves ahead, when its work keeps the indices in use. -/
theorem map_step_modTen {s t : State} {i : Nat} {x : Tenancy} (hx : tenAt s i = some x)
    (hkeep : (tget t.tens i).isSome = (tget s.tens i).isSome) (n : Nat) :
    (tenAt (modTen t i (fun y => { y with step := n })) i).map (·.step) = some n := by
  refine map_tenAt_modTen ?_ _ (fun _ => rfl)
  rw [tenAt, hkeep, ← tenAt, hx]
  rfl

theorem exec_teardownIsolate (i : Fin 256) (silent : List (Fin 64)) (s : State) : exec (.teardownIsolate i silent) s =
    .next (teardown s i 1 (fnsReset s) (fun h => (tenRegions s h).foldl (tearRegion silent) s)) := rfl

theorem exec_teardownFlush (i : Fin 256) (s : State) :
    exec (.teardownFlush i) s = .next (teardown s i 3 (fun _ => true) (flushTenancy s)) := rfl

theorem exec_teardownPurge (i : Fin 256) (s : State) : exec (.teardownPurge i) s = .next (teardown s i 4
    (fun _ => decide (s.epoch.st ≠ .committing)) (fun h => purgeVale h (purgeVale h s .east) .west)) := rfl

@[simp] theorem isSome_flushTenancy (s : State) (h : Handle) (i : Nat) :
    (tget (flushTenancy s h).tens i).isSome = (tget s.tens i).isSome := by
  simp [flushTenancy]

section
variable {s : State} {i : Fin 256} {x : Tenancy} (hx : tenAt s i = some x) (hst : x.st = .destroying) (hstop : s.err.failStop = false)
include hx hst hstop

theorem teardownIsolate_runs {silent : List (Fin 64)} (hstep : x.step = 1) (hreset : fnsReset s x.handle = true) :
    exec (.teardownIsolate i silent) s =
      .next (modTen ((tenRegions s x.handle).foldl (tearRegion silent) s) i (fun y => { y with step := 3 })) := by
  rw [exec_teardownIsolate, teardown_runs hx hst hstop hstep hreset]
  rfl

theorem teardownFlush_runs (hstep : x.step = 3) :
    teardown s i 3 (fun _ => true) (flushTenancy s) = modTen (flushTenancy s x.handle) i (fun y => { y with step := 4 }) :=
  teardown_runs hx hst hstop hstep rfl (flushTenancy s)

theorem teardownPurge_runs (hstep : x.step = 4) (hepoch : s.epoch.st ≠ .committing) : exec (.teardownPurge i) s =
    .next (modTen (purgeVale x.handle (purgeVale x.handle s .east) .west) i (fun y => { y with step := 5 })) := by
  rw [exec_teardownPurge, teardown_runs hx hst hstop hstep (decide_eq_true hepoch)]
  rfl

/-- R32: after the last step the index is free, and the event names the handle. -/
theorem completes_teardownRelease (hstep : x.step = 5) : Completes (.teardownRelease i) s (fun t =>
    tenAt t i = none ∧ ∃ e, t.err.events.head? = some e ∧ e.name = "TENANCY_FREED" ∧ e.tenancy = x.handle) := by
  refine ⟨_, rfl, ?_⟩
  simp only [hx, hst, hstep, hstop, Bool.false_eq_true, not_false_eq_true, and_self, if_true]
  refine ⟨?_, _, rfl, rfl, rfl⟩
  rw [tenAt, raise_tens, freeIndex_tens, tget_terase_same]

end

theorem teardownRelease_waits {s : State} {i : Fin 256} {x : Tenancy} (hx : tenAt s i = some x) (hstep : x.step ≠ 5) :
    exec (.teardownRelease i) s = .next s := by
  show execTeardownRelease i s = _
  simp [execTeardownRelease, hx, hstep]

/-- R30: a reset that is over leaves the tenancy Active, without its halt entry. -/
theorem tenResetComplete_ends {s : State} {i : Fin 256} {x : Tenancy} (hx : tenAt s i = some x) (hresetting : x.resetting = true)
    (hhalted : x.st = .halted) (hover : tenResetOver s x.handle = true) (hstop : s.err.failStop = false) :
    exec (.tenResetComplete i) s = .next (setTen s i { x with st := .active, resetting := false, halt := none }) := by
  show execTenResetComplete i s = _
  simp [execTenResetComplete, hx, hresetting, hhalted, hover, hstop]

theorem teardownRuns : Claims.TeardownRuns := by
  refine ⟨?isolate, ?later, fun i s x hx hr hh ho hstop => tenResetComplete_ends hx hr hh ho hstop⟩
  case isolate =>
    intro i silent s x hx hst hstop
    refine ⟨fun hstep hreset => ?_, fun hstep => ?_⟩
    · have hruns := teardownIsolate_runs hx hst hstop (silent := silent) hstep hreset
      exact ⟨hruns, _, hruns, map_step_modTen hx (by simp) 3⟩
    · rw [exec_teardownIsolate, teardown_waits hx (.inl hstep)]
  case later =>
    intro i s x hx hst hstop
    have hflushed : (tenAt (modTen (flushTenancy s x.handle) i (fun y => { y with step := 4 })) i).map (·.step) = some 4 :=
      map_step_modTen hx (by simp) 4
    refine ⟨fun hstep => ?flush, fun hstep => ?notFlush, fun hstep => ?drain, fun hstep hepoch => ?purge, fun hepoch => ?notPurge,
      completes_teardownRelease hx hst hstop, teardownRelease_waits hx⟩
    case flush =>
      have hruns := congrArg (Host.Outcome.next (φ := Fault) (ρ := Refusal)) (teardownFlush_runs hx hst hstop hstep)
      exact ⟨hruns, _, hruns, hflushed⟩
    case notFlush => rw [exec_teardownFlush, teardown_waits hx (.inl hstep)]
    case drain =>
      have hruns := congrArg (Host.Outcome.next (φ := Fault) (ρ := Refusal)) (teardownFlush_runs hx hst hstop hstep)
      exact ⟨hruns, _, hruns, hflushed⟩
    case purge =>
      have hruns := teardownPurge_runs hx hst hstop hstep hepoch
      exact ⟨hruns, _, hruns, map_step_modTen hx (by simp) 5⟩
    case notPurge => rw [exec_teardownPurge, teardown_waits hx (.inr (by simp [hepoch]))]

/-- Settles O7: the commands by their effects on the tenancies, the teardown by the step in progress. -/
theorem tenancyLife : Obligations.TenancyLife := ⟨tenancyCommandsComplete, teardownRuns⟩

end Sys2Proof.Machine
end

section
/-! Proofs of the statements about the epoch control (R35-R38). -/

namespace Sys2Proof.Machine

/-! ### Staged writes (R35, R38) -/

theorem exec_stagedWrite (who : Who) (index : U16) (sub : U8) (bytes : List Byte) (s : State) :
    exec (.stagedWrite who index sub bytes) s = .next (runOp (stagedWriteOp who index.toNat sub.toNat bytes) s) := rfl

theorem exec_epochCommit (who : Who) (s : State) : exec (.epochCommit who) s = .next (runOp (epochCommitOp who) s) := rfl

theorem exec_epochDiscard (who : Who) (s : State) : exec (.epochDiscard who) s = .next (runOp (epochDiscardOp who) s) := rfl

theorem serves_stagedWrite (who : Who) (index : U16) (sub : U8) (bytes : List Byte) :
    Serves (.stagedWrite who index sub bytes) (stagedWriteOp who index.toNat sub.toNat bytes) :=
  serves_of_runOp (exec_stagedWrite who index sub bytes)

/-- R35, R37: a staged write changes the staging copy alone, and the first one leads from Idle to Staging. -/
theorem completes_stagedWrite {who : Who} {index : U16} {sub : U8} {bytes : List Byte} {x : Staged} {s : State}
    (hs : glenServes s = true) (hop : stagedWriteOp who index.toNat sub.toNat bytes = stagedOp who x bytes)
    (hok : (stagedOp who x bytes).status s = .ok) :
    Completes (.stagedWrite who index sub bytes) s (fun t =>
      tget t.dict.staged x.key = some (x.into (beNat bytes)) ∧ t.dict.nums = s.dict.nums ∧ t.resp = { status := .ok } ∧
      t.epoch = { s.epoch with st := if s.epoch.st = .idle then .staging else s.epoch.st } ∧ t.mem = s.mem ∧
      t.east = s.east ∧ t.west = s.west) := by
  have hserves := serves_stagedWrite who index sub bytes
  rw [hop] at hserves
  exact hserves.completes hs hok ⟨tget_tset_same _ _ _, rfl, rfl, rfl, rfl, rfl, rfl⟩

/-! ### Commit and discard (R37, R38) -/

theorem isO_of_operator {who : Who} (h : who.role = .operator) : isO who = true := decide_eq_true h

/-- A BUSY that records nothing beside its status leaves the answer alone, with the estimate held to R46. -/
theorem runOp_busy_plain {op : DictOp} {s : State} (hs : glenServes s = true) (hst : op.status s = .busy)
    (hplain : op.onFail s .busy = s) : runOp op s = { s with resp := { status := .busy, retry := clampRetry (op.retry s) } } := by
  rw [runOp_busy op s hs hst, hplain]
  rfl

/-- An accepted request without effect leaves the answer alone. -/
theorem runOp_ok_plain {op : DictOp} {s : State} (hs : glenServes s = true) (hst : op.status s = .ok)
    (heff : op.effect s = (s, [])) : runOp op s = { s with resp := { status := .ok } } := by
  rw [runOp_ok op s hs hst, heff]
  rfl

theorem stagingOpen_busy {s : State} (h : s.epoch.st = .committing ∨ s.epoch.st = .retiring) : stagingOpen s = false := by
  rcases h with h | h <;> simp [stagingOpen, h]

theorem stagingOpen_idle {s : State} (h : s.epoch.st = .idle) : stagingOpen s = true := by
  simp [stagingOpen, h]

section
variable {who : Who} {s : State} (hs : glenServes s = true) (hstop : s.err.failStop = false) (hwho : who.role = .operator)
include hstop hwho

/-- R38: a request of the epoch control is BUSY exactly when the control takes no staged write. -/
theorem epochControl_status : firstStatus (baseChecks s (isO who) ++ [(.busy, epochBusy s)]) = if stagingOpen s then .ok else .busy := by
  rw [firstStatus_baseChecks_append (isO_of_operator hwho) hstop, epochBusy]
  cases stagingOpen s <;> rfl

include hs

theorem epochCommit_busy (hbusy : s.epoch.st = .committing ∨ s.epoch.st = .retiring) :
    exec (.epochCommit who) s = .next { s with resp := { status := .busy, retry := clampRetry (epochRetry s) } } := by
  have hst : (epochCommitOp who).status s = .busy :=
    (epochControl_status hstop hwho).trans (by rw [stagingOpen_busy hbusy]; rfl)
  rw [exec_epochCommit, runOp_busy_plain hs hst rfl]
  rfl

theorem epochDiscard_busy (hbusy : s.epoch.st = .committing ∨ s.epoch.st = .retiring) :
    exec (.epochDiscard who) s = .next { s with resp := { status := .busy, retry := clampRetry (epochRetry s) } } := by
  have hst : (epochDiscardOp who).status s = .busy :=
    (epochControl_status hstop hwho).trans (by rw [stagingOpen_busy hbusy]; rfl)
  rw [exec_epochDiscard, runOp_busy_plain hs hst rfl]
  rfl

/-- R38: a staged write that nothing else is wrong with is BUSY. -/
theorem stagedWrite_busy (hbusy : s.epoch.st = .committing ∨ s.epoch.st = .retiring) {index : U16} {sub : U8} {bytes : List Byte}
    {x : Staged} (hop : stagedWriteOp who index.toNat sub.toNat bytes = stagedOp who x bytes) (hsize : bytes.length = x.size)
    (hgood : x.bad (beNat bytes) = false) (hchecks : firstStatus (x.checks s (beNat bytes)) = .ok) :
    exec (.stagedWrite who index sub bytes) s = .next { s with resp := { status := .busy, retry := clampRetry (epochRetry s) } } := by
  have hst : (stagedOp who x bytes).status s = .busy := by
    simp only [stagedOp, hsize, if_true, hgood, List.append_assoc, stagingOpen_busy hbusy]
    rw [firstStatus_baseChecks_append (isO_of_operator hwho) hstop, firstStatus_append_ok _ _ hchecks]
    simp [firstStatus, statusOrder]
  rw [exec_stagedWrite, hop, runOp_busy_plain hs hst rfl]
  rfl

theorem epochCommit_idle (hidle : s.epoch.st = .idle) : exec (.epochCommit who) s = .next { s with resp := { status := .ok } } := by
  have hst : (epochCommitOp who).status s = .ok :=
    (epochControl_status hstop hwho).trans (by rw [stagingOpen_idle hidle]; rfl)
  rw [exec_epochCommit, runOp_ok_plain hs hst (by simp [epochCommitOp, hidle])]

theorem epochDiscard_idle (hidle : s.epoch.st = .idle) : exec (.epochDiscard who) s = .next { s with resp := { status := .ok } } := by
  have hst : (epochDiscardOp who).status s = .ok :=
    (epochControl_status hstop hwho).trans (by rw [stagingOpen_idle hidle]; rfl)
  rw [exec_epochDiscard, runOp_ok_plain hs hst (by simp [epochDiscardOp, hidle])]

end

/-- Settles O6: BUSY and the two requests without effect, by the state of the control. -/
theorem epochBusyAnswers : Obligations.EpochBusy := by
  refine ⟨fun who s hs hstop hwho hbusy => ⟨epochCommit_busy hs hstop hwho hbusy, epochDiscard_busy hs hstop hwho hbusy, ?staged⟩,
    fun who s hs hstop hwho hidle => ⟨epochCommit_idle hs hstop hwho hidle, epochDiscard_idle hs hstop hwho hidle⟩⟩
  case staged => exact fun _ _ _ _ hop hsize hgood hchecks => stagedWrite_busy hs hstop hwho hbusy hop hsize hgood hchecks

/-- R37: a commit of what is staged. -/
theorem epochCommit_staging {who : Who} {s : State} (hs : glenServes s = true) (hok : (epochCommitOp who).status s = .ok)
    (hst : s.epoch.st = .staging) : exec (.epochCommit who) s = .next { s with
      epoch := { s.epoch with st := .committing, ready := [], switched := [], start := tickNs s }, resp := { status := .ok } } := by
  have heff : (epochCommitOp who).effect s =
      ({ s with epoch := { s.epoch with st := .committing, ready := [], switched := [], start := tickNs s } }, []) := by
    simp [epochCommitOp, hst]
  rw [exec_epochCommit, runOp_ok _ s hs hok, heff]
  rfl

@[simp] theorem modCol_mem (s : State) (v : Vale) (f : ColState → ColState) : (s.modCol v f).mem = s.mem := modVale_mem _ _ _

@[simp] theorem mapCores_mem (s : State) (v : Vale) (f : Core → Core) : (mapCores s v f).mem = s.mem := modCol_mem _ _ _

theorem discardStaged_mem (s : State) : (discardStaged s).mem = s.mem := by
  simp [discardStaged]

/-- R37: a discard of what is staged leaves no staging copy. -/
theorem completes_epochDiscard {who : Who} {s : State} (hs : glenServes s = true) (hok : (epochDiscardOp who).status s = .ok)
    (hst : s.epoch.st = .staging) : Completes (.epochDiscard who) s (fun t => t.epoch.st = .idle ∧ t.dict.staged = [] ∧
      t.resp = { status := .ok } ∧ t.mem = s.mem) := by
  have heff : (epochDiscardOp who).effect s = (discardStaged s, []) := by simp [epochDiscardOp, hst]
  refine (serves_of_runOp (exec_epochDiscard who)).completes hs hok ?_
  rw [heff]
  exact ⟨rfl, rfl, rfl, discardStaged_mem s⟩

/-! ### Readiness, abort and retirement (R37, R225) -/

theorem exec_unitReady {u : EpochUnit} {s : State} (hst : s.epoch.st = .committing) (hready : unitReady s u = true)
    (hu : u ∈ epochUnits s) (hstop : s.err.failStop = false) : exec (.unitReady u) s = .next (commitReady { s with epoch :=
      { s.epoch with ready := if s.epoch.ready.contains u then s.epoch.ready else s.epoch.ready ++ [u] } }) :=
  congrArg Host.Outcome.next (if_pos ⟨hst, hready, List.contains_iff_mem.mpr hu, by simp [hstop]⟩)

theorem completes_commitTimeout {s : State} (hst : s.epoch.st = .committing) (hstop : s.err.failStop = false) :
    Completes .commitTimeout s (fun t => t.epoch.st = .staging ∧ t.epoch.ready = [] ∧ t.epoch.lastResult = .timeout) :=
  ⟨_, congrArg Host.Outcome.next (if_pos ⟨hst, by simp [hstop]⟩), rfl, rfl, rfl⟩

theorem completes_retireComplete {s : State} (hst : s.epoch.st = .retiring) (hstop : s.err.failStop = false)
    (hleft : ∀ v, epochInside s v s.epoch.active = false ∧ allSwitched s v = true ∧ supsLeft s v = true) :
    Completes .retireComplete s (fun t => t.epoch.st = .idle ∧ t.epoch.active = nextEpoch s ∧ t.epoch.lastResult = .ok) := by
  have hall : ([Vale.east, Vale.west].all fun v => !epochInside s v s.epoch.active && allSwitched s v && supsLeft s v) = true := by
    rw [List.all_eq_true]
    intro v _
    obtain ⟨hinside, hswitched, hsups⟩ := hleft v
    simp [hinside, hswitched, hsups]
  exact ⟨_, congrArg Host.Outcome.next (if_pos ⟨hst, by simp [hstop], hall⟩), rfl, rfl, rfl⟩

theorem completes_retireTimeout {s : State} (hst : s.epoch.st = .retiring) (hstop : s.err.failStop = false) :
    Completes .retireTimeout s (fun t => t.epoch.st = .idle ∧ t.epoch.lastResult = .ok ∧
      ∃ e, t.err.events.head? = some e ∧ e.name = "EPOCH_RETIRE_FORCED" ∧ e.cls = 1) :=
  ⟨_, congrArg Host.Outcome.next (if_pos ⟨hst, by simp [hstop]⟩), rfl, rfl, _, rfl, rfl, rfl⟩

theorem exec_portNodeSwitch {v : Vale} {n : Fin 15} {s : State} (hst : s.epoch.st = .retiring) (hexists : portNodeExists s v n = true)
    (hswitched : portSwitched s v n = false) (hbelow : epochBelow s v n s.epoch.active = false) (hstop : s.err.failStop = false) :
    exec (.portNodeSwitch v n) s =
      .next { s with epoch := { s.epoch with switched := s.epoch.switched ++ [valeNum v * 16 + n.val] } } :=
  congrArg Host.Outcome.next (if_pos ⟨hst, hexists, by simp [hswitched], by simp [hbelow], by simp [hstop]⟩)

/-- Settles O5: the transitions of R37, one by one. -/
theorem epochTransitions : Obligations.EpochTransitions :=
  ⟨serves_stagedWrite, fun _ _ _ _ _ _ hs hop hok => completes_stagedWrite hs hop hok,
    fun _ _ hs hok hst => epochCommit_staging hs hok hst, fun _ _ hs hok hst => completes_epochDiscard hs hok hst,
    fun _ _ hst hready hu hstop => exec_unitReady hst hready hu hstop, fun _ hst hstop => completes_commitTimeout hst hstop,
    fun _ hst hstop hleft => completes_retireComplete hst hstop hleft, fun _ hst hstop => completes_retireTimeout hst hstop,
    fun _ _ _ hst hexists hswitched hbelow hstop => exec_portNodeSwitch hst hexists hswitched hbelow hstop⟩

end Sys2Proof.Machine
end

section
/-! Proofs of the statement about match stages (R33, R157-R163, R184). -/

namespace Sys2Proof.Machine

/-! ### Packets of a Vale -/

@[simp] theorem vale_setNum (s : State) (k x : Nat) (v : Vale) : (setNum s k x).vale v = s.vale v := by
  cases v <;> rfl

@[simp] theorem pktAt_count (s : State) (k : Nat) (v : Vale) (i : Nat) : pktAt (count s k) v i = pktAt s v i := by
  rw [pktAt, count, bump, vale_setNum, ← pktAt]

@[simp] theorem modPath_dict (s : State) (v : Vale) (f : Path → Path) : (s.modPath v f).dict = s.dict := modVale_dict _ _ _
@[simp] theorem modPath_mem (s : State) (v : Vale) (f : Path → Path) : (s.modPath v f).mem = s.mem := modVale_mem _ _ _
@[simp] theorem modTm_dict (s : State) (v : Vale) (f : TmState → TmState) : (s.modTm v f).dict = s.dict := modVale_dict _ _ _
@[simp] theorem modTm_mem (s : State) (v : Vale) (f : TmState → TmState) : (s.modTm v f).mem = s.mem := modVale_mem _ _ _
@[simp] theorem modCol_dict (s : State) (v : Vale) (f : ColState → ColState) : (s.modCol v f).dict = s.dict := modVale_dict _ _ _
@[simp] theorem modTable_dict (s : State) (v : Vale) (f : TableState → TableState) : (s.modTable v f).dict = s.dict := modVale_dict _ _ _
@[simp] theorem modTable_mem (s : State) (v : Vale) (f : TableState → TableState) : (s.modTable v f).mem = s.mem := modVale_mem _ _ _

@[simp] theorem setPkt_dict (s : State) (v : Vale) (i : Nat) (p : Packet) : (setPkt s v i p).dict = s.dict := modPath_dict _ _ _
@[simp] theorem setPkt_mem (s : State) (v : Vale) (i : Nat) (p : Packet) : (setPkt s v i p).mem = s.mem := modPath_mem _ _ _
@[simp] theorem moveTo_dict (s : State) (v : Vale) (i : Nat) (l : Loc) : (moveTo s v i l).dict = s.dict := modPath_dict _ _ _
@[simp] theorem moveTo_mem (s : State) (v : Vale) (i : Nat) (l : Loc) : (moveTo s v i l).mem = s.mem := modPath_mem _ _ _

/-- Values of the dictionary do not change with the packets. -/
theorem numD_of_dict {s t : State} (h : t.dict = s.dict) (k d : Nat) : numD t k d = numD s k d := by
  rw [numD, numD, h]

/-- A change of a Vale that keeps its path keeps its packets. -/
theorem pktAt_modVale_of_path {f : ValeState → ValeState} (h : ∀ x, (f x).path = x.path) (s : State) (v : Vale) (i : Nat) :
    pktAt (s.modVale v f) v i = pktAt s v i := by
  rw [pktAt, vale_modVale, h, ← pktAt]

@[simp] theorem pktAt_modTable (s : State) (v : Vale) (f : TableState → TableState) (i : Nat) :
    pktAt (s.modTable v f) v i = pktAt s v i :=
  pktAt_modVale_of_path (f := fun x => { x with table := f x.table }) (fun _ => rfl) s v i

@[simp] theorem pktAt_setPkt_same (s : State) (v : Vale) (i : Nat) (p : Packet) : pktAt (setPkt s v i p) v i = some p := by
  rw [pktAt, setPkt, State.modPath, vale_modVale, tget_tset_same]

theorem pktAt_setPkt_other (s : State) (v : Vale) {i j : Nat} (h : j ≠ i) (p : Packet) : pktAt (setPkt s v i p) v j = pktAt s v j := by
  rw [pktAt, setPkt, State.modPath, vale_modVale, tget_tset_other _ _ _ _ h, ← pktAt]

theorem modPkt_eq {s : State} {v : Vale} {i : Nat} {p : Packet} (h : pktAt s v i = some p) (f : Packet → Packet) :
    modPkt s v i f = setPkt s v i (f p) := by
  simp [modPkt, h]

/-- A packet that moves keeps everything but its place and its stamp. -/
theorem pktAt_moveTo {s : State} {v : Vale} {i : Nat} {p : Packet} (h : pktAt s v i = some p) (l : Loc) :
    ∃ n, pktAt (moveTo s v i l) v i = some { p with loc := l, stamp := n } := by
  refine ⟨(s.vale v).path.nextStamp, ?_⟩
  have hp : tgetD (s.vale v).path.packets i {} = p := by rw [tgetD, ← pktAt, h]
  rw [pktAt, moveTo, State.modPath, vale_modVale]
  simp only [tmod, tget_tset_same, hp]

/-! ### Drops -/

@[simp] theorem countQueueDrop_dict (s : State) (v : Vale) (p : Packet) : (countQueueDrop s v p).dict = s.dict := by
  unfold countQueueDrop
  split <;> simp

@[simp] theorem countQueueDrop_mem (s : State) (v : Vale) (p : Packet) : (countQueueDrop s v p).mem = s.mem := by
  unfold countQueueDrop
  split <;> simp

@[simp] theorem countStale_dict (s : State) (v : Vale) (p : Packet) (reason : Nat) : (countStale s v p reason).dict = s.dict := by
  unfold countStale
  split <;> simp

@[simp] theorem countStale_mem (s : State) (v : Vale) (p : Packet) (reason : Nat) : (countStale s v p reason).mem = s.mem := by
  unfold countStale
  split <;> simp

@[simp] theorem pktAt_countStale (s : State) (v : Vale) (p : Packet) (reason i : Nat) :
    pktAt (countStale s v p reason) v i = pktAt s v i := by
  unfold countStale
  split
  · simp [pktAt, State.modPath]
  · rfl

@[simp] theorem removePkt_dict (s : State) (v : Vale) (i : Nat) : (removePkt s v i).dict = s.dict := by
  unfold removePkt
  split <;> simp

@[simp] theorem removePkt_mem (s : State) (v : Vale) (i : Nat) : (removePkt s v i).mem = s.mem := by
  unfold removePkt
  split <;> simp

/-- A removed packet is gone. -/
@[simp] theorem pktAt_removePkt (s : State) (v : Vale) (i : Nat) : pktAt (removePkt s v i) v i = none := by
  unfold removePkt
  split
  case h_1 h => exact h
  case h_2 => simp [pktAt]

@[simp] theorem dropPkt_mem (s : State) (v : Vale) (i reason : Nat) : (dropPkt s v i reason).mem = s.mem := by
  unfold dropPkt
  split
  · rfl
  · simp

/-- A dropped packet is gone. -/
@[simp] theorem pktAt_dropPkt (s : State) (v : Vale) (i reason : Nat) : pktAt (dropPkt s v i reason) v i = none := by
  unfold dropPkt
  split
  case h_1 h => exact h
  case h_2 => dsimp only; split <;> simp

theorem numD_count_other (s : State) {k j : Nat} (h : k ≠ j) (d : Nat) : numD (count s j) k d = numD s k d :=
  numD_setNum_other s j k _ d h

theorem numD_count_same (s : State) (k d : Nat) : numD (count s k) k d = (numD s k 0 + 1) % 2 ^ 64 :=
  numD_setNum_same s k _ d

/-- A drop counts its reason, and the loss of a mirror copy, and no other value. -/
theorem numD_dropPkt_other (s : State) {v : Vale} {k reason : Nat} (hreason : k ≠ vkey v 0x3004 reason) (hmirror : k ≠ vkey v 0x3070 8)
    (i d : Nat) : numD (dropPkt s v i reason) k d = numD s k d := by
  unfold dropPkt
  split
  case h_1 => rfl
  case h_2 p _ =>
    have hdrop : numD (countStale (count (removePkt (countQueueDrop s v p) v i) (vkey v 0x3004 reason)) v p reason) k d =
        numD s k d := by
      rw [numD_of_dict (countStale_dict _ _ _ _), numD_count_other _ hreason, numD_of_dict (removePkt_dict _ _ _),
        numD_of_dict (countQueueDrop_dict _ _ _)]
    dsimp only
    split
    · rw [numD_count_other _ hmirror, hdrop]
    · exact hdrop

/-! ### The NEXT_STAGE field of a record (R158) -/

/-- A new value of the four bits on top of a word leaves the 32 below them. -/
theorem toNat_putBits_top (w : Word36) (x : Nat) : (putBits w 32 4 x).toNat = x % 16 * 2 ^ 32 + w.toNat % 2 ^ 32 := by
  have hw := w.isLt
  rw [putBits, bitsOf, BitVec.toNat_ofNat]
  omega

@[simp] theorem recAt_recPutBits_same (p : Packet) (i lo n x : Nat) : recAt (recPutBits p i lo n x) i = putBits (recAt p i) lo n x := by
  simp [recAt, recPutBits, recPut]

theorem recAt_recPutBits_other (p : Packet) {i w : Nat} (h : w ≠ i) (lo n x : Nat) : recAt (recPutBits p i lo n x) w = recAt p w := by
  simp [recAt, recPutBits, recPut, tgetD_tset_other _ _ _ _ _ h]

theorem recBits_nextStage (p : Packet) {x : Nat} (hx : x < 16) : recBits (recPutBits p 13 32 4 x) 13 32 4 = x := by
  rw [recBits, recAt_recPutBits_same, toNat_putBits_top, bitsOf]
  omega

theorem recBits_below_nextStage (p : Packet) (x : Nat) : recBits (recPutBits p 13 32 4 x) 13 0 32 = recBits p 13 0 32 := by
  rw [recBits, recBits, recAt_recPutBits_same, toNat_putBits_top, bitsOf, bitsOf]
  omega

/-! ### A stage at its oldest record (R33, R157, R158) -/

/-- What STAGE_EXECUTE does with the oldest record at a stage, when the stage does not hold it back. -/
theorem exec_stageExecute {v : Vale} {k : Fin 12} {s : State} {i : Nat} {p : Packet} (hstop : s.err.failStop = false)
    (hpath : (s.vale v).path.stopped = false) (hhead : stageHead s v k = some i) (hp : pktAt s v i = some p)
    (hfree : stageHolds s v k p = false) :
    exec (.stageExecute v k) s = .next (
      if !tenFresh s (pktTen p) then dropPkt s v i 0x06
      else if recBits p 13 32 4 ≠ k.val then passStage s v k i
      else if (stageDef s v k p.epoch).kind = 0 then passStage (setPkt s v i (recPutBits p 13 32 4 (k + 1))) v k i
      else lookupStage s v k i (stageDef s v k p.epoch) p) := by
  show execStageExecute v k s = _
  simp [execStageExecute, hstop, hpath, hhead, hp, hfree]

/-- A record that goes on from a stage before the last stands at the next one. -/
theorem passStage_eq {s : State} {v : Vale} {k i : Nat} {p : Packet} (hk : k < 11) (hp : pktAt s v i = some p) :
    passStage s v k i = setPkt s v i { p with loc := .stage (k + 1) } := by
  rw [passStage, if_pos hk, modPkt_eq hp]

theorem stagesExecute : Claims.StagesExecute := by
  intro v k s i p hstop hpath hhead hp hfree
  have hexec := exec_stageExecute hstop hpath hhead hp hfree
  refine ⟨fun hstale => ?stale, fun hfresh hnext hk => ?pass, fun hfresh hnext hkind hk => ?disabled,
    fun hfresh hnext hkind => ?lookup⟩
  case stale => simp [hexec, hstale]
  case pass =>
    rw [if_neg (by simp [hfresh]), if_pos hnext, passStage_eq hk hp] at hexec
    exact ⟨_, hexec, pktAt_setPkt_same _ _ _ _, fun j hj => pktAt_setPkt_other s v hj _, setPkt_dict _ _ _ _, setPkt_mem _ _ _ _⟩
  case disabled =>
    rw [if_neg (by simp [hfresh]), if_neg (by simp [hnext]), if_pos hkind, passStage_eq hk (pktAt_setPkt_same _ _ _ _)] at hexec
    refine ⟨_, hexec, _, pktAt_setPkt_same _ _ _ _, rfl, rfl, ?_, ?_, fun w hw => ?_, by simp, by simp⟩
    · exact recBits_nextStage p (by omega)
    · exact recBits_below_nextStage p _
    · exact recAt_recPutBits_other p hw _ _ _
  case lookup => rw [hexec, if_neg (by simp [hfresh]), if_neg (by simp [hnext]), if_neg hkind]

/-! ### A record that leaves a stage (R159, R166, R171) -/

theorem vkey_ne {i j : Nat} (h : i ≠ j) (v : Vale) {a b : Nat} (ha : a < 256) (hb : b < 256) : vkey v i a ≠ vkey v j b := by
  unfold vkey
  omega

/-- What holds however a record leaves stage `k`, or a drop ends it: the counters of a stage stay, the record does not wait for
the stage's extension lookup, and memory stays. -/
structure LeavesStage (s t : State) (v : Vale) (k i : Nat) : Prop where
  counters : ∀ j c, j < 12 → c < 256 → numD t (vkey v (0x3060 + j) c) 0 = numD s (vkey v (0x3060 + j) c) 0
  gone : ∀ q, pktAt t v i = some q → q.loc ≠ .extWait k
  mem : t.mem = s.mem

section
variable {s t u : State} {v : Vale} {k i : Nat}

/-- Counts of the sequence and changes of the record before it leaves do not matter. -/
theorem LeavesStage.of_before (h : LeavesStage t u v k i)
    (hcounters : ∀ j c, j < 12 → c < 256 → numD t (vkey v (0x3060 + j) c) 0 = numD s (vkey v (0x3060 + j) c) 0)
    (hmem : t.mem = s.mem) : LeavesStage s u v k i :=
  ⟨fun j c hj hc => (h.counters j c hj hc).trans (hcounters j c hj hc), h.gone, h.mem.trans hmem⟩

theorem LeavesStage.of_setPkt {p : Packet} (h : LeavesStage (setPkt s v i p) u v k i) : LeavesStage s u v k i :=
  h.of_before (fun _ _ _ _ => numD_of_dict (setPkt_dict _ _ _ _) _ _) (setPkt_mem _ _ _ _)

/-- A counter of the sequence (0x3070) is none of a stage. -/
theorem LeavesStage.of_count {c : Nat} (hc : c < 256) (h : LeavesStage (count s (vkey v 0x3070 c)) u v k i) : LeavesStage s u v k i :=
  h.of_before (fun j _ hj hb => numD_count_other s (vkey_ne (by omega) v hb hc) 0) rfl

theorem leavesStage_dropPkt (s : State) (v : Vale) (k i : Nat) {reason : Nat} (hreason : reason < 256) :
    LeavesStage s (dropPkt s v i reason) v k i where
  counters j c hj hc := numD_dropPkt_other s (vkey_ne (by omega) v hc hreason) (vkey_ne (by omega) v hc (by decide)) i 0
  gone q hq := by simp at hq
  mem := dropPkt_mem _ _ _ _

/-- A record that moves to another place than the wait, and is struck from the order of the stages. -/
theorem leavesStage_moveTo {p : Packet} (hp : pktAt s v i = some p) {l : Loc} (hl : l ≠ .extWait k) {f : ValeState → ValeState}
    (hf : ∀ x, (f x).path = x.path) : LeavesStage s ((moveTo s v i l).modVale v f) v k i where
  counters j c _ _ := numD_of_dict (by simp) _ _
  gone q hq := by
    obtain ⟨n, hmoved⟩ := pktAt_moveTo hp l
    rw [pktAt_modVale_of_path hf, hmoved] at hq
    cases hq
    exact hl
  mem := by simp

theorem leavesStage_exitChecks {p : Packet} (hp : pktAt s v i = some p) : LeavesStage s (exitChecks s v i) v k i := by
  have hdrop : ∀ c, c < 256 → LeavesStage s (dropPkt (count s (vkey v 0x3070 c)) v i 0x0E) v k i :=
    fun c hc => .of_count hc (leavesStage_dropPkt _ v k i (by decide))
  have hexit : ∀ (a : State) (q : Packet) (f : ValeState → ValeState), (∀ x, (f x).path = x.path) →
      LeavesStage a ((moveTo (setPkt a v i q) v i .exited).modVale v f) v k i :=
    fun a q f hf => (leavesStage_moveTo (pktAt_setPkt_same _ _ _ _) (by simp) hf).of_setPkt
  unfold exitChecks
  rw [hp]
  dsimp only
  split
  · exact leavesStage_dropPkt s v k i (by decide)
  split
  · exact hdrop 1 (by decide)
  split
  · exact hdrop 2 (by decide)
  split
  · exact hdrop 3 (by decide)
  split
  · exact .of_count (c := 4) (by decide) (hexit _ _ _ fun _ => rfl)
  · exact hexit _ _ _ fun _ => rfl

theorem leavesStage_passStage {p : Packet} (hp : pktAt s v i = some p) : LeavesStage s (passStage s v k i) v k i := by
  by_cases hk : k < 11
  · rw [passStage_eq hk hp]
    refine ⟨fun _ _ _ _ => numD_of_dict (setPkt_dict _ _ _ _) _ _, fun q hq => ?_, setPkt_mem _ _ _ _⟩
    rw [pktAt_setPkt_same] at hq
    cases hq
    simp
  · rw [passStage, if_neg hk]
    exact leavesStage_exitChecks hp

theorem LeavesStage.ite {c : Prop} [Decidable c] (ht : LeavesStage s t v k i) (hu : LeavesStage s u v k i) :
    LeavesStage s (if c then t else u) v k i := by
  split <;> assumption

/-- A skip of stages that is counted (0x3070.9) or not. -/
theorem LeavesStage.of_countIf {c : Bool} (h : LeavesStage (if c then count s (vkey v 0x3070 9) else s) u v k i) :
    LeavesStage s u v k i := by
  cases c
  · exact h
  · exact .of_count (by decide) h

/-- Whatever its action says, a stage first counts the hit or the miss, and then the record leaves it. -/
theorem leavesStage_applyAction {p : Packet} (hp : pktAt s v i = some p) (d : StageDef) (hit : Option (BitVec 64)) :
    LeavesStage (count s (vkey v (0x3060 + k) (if hit.isSome then 1 else 2))) (applyAction s v k i d hit) v k i := by
  unfold applyAction
  rw [hp]
  dsimp only
  refine .ite (leavesStage_dropPkt _ v k i (by decide)) ?_
  generalize (if bitOf (actionWord _ 3) 35 then requestEdit _ _ _ else some _) = edited
  cases edited with
  | none => exact .of_countIf (.of_count (by decide) (leavesStage_dropPkt _ v k i (by decide)))
  | some p3 =>
    refine .ite (.of_countIf (leavesStage_dropPkt _ v k i (by decide))) (.ite ?punt ?pass)
    case punt => exact .of_countIf (.of_setPkt (leavesStage_moveTo (pktAt_setPkt_same _ _ _ _) (by simp) fun _ => rfl))
    case pass => exact .of_countIf (.of_setPkt (leavesStage_passStage (pktAt_setPkt_same _ _ _ _)))

end

/-- A hit or a miss is counted once, in the stage's own counter. -/
theorem numD_applyAction_own {s : State} {v : Vale} {k i : Nat} (hk : k < 12) {p : Packet} (hp : pktAt s v i = some p) (d : StageDef)
    (hit : Option (BitVec 64)) :
    numD (applyAction s v k i d hit) (vkey v (0x3060 + k) (if hit.isSome then 1 else 2)) 0 =
      (numD s (vkey v (0x3060 + k) (if hit.isSome then 1 else 2)) 0 + 1) % 2 ^ 64 := by
  have hsub : (if hit.isSome then 1 else 2) < 256 := by split <;> decide
  rw [(leavesStage_applyAction hp d hit).counters k _ hk hsub, numD_count_same]

/-- The other counters of a stage do not see the hit or the miss. -/
theorem numD_applyAction_other {s : State} {v : Vale} {k i c : Nat} (hk : k < 12) (hc : c < 256) {p : Packet}
    (hp : pktAt s v i = some p) (d : StageDef) {hit : Option (BitVec 64)} (hne : c ≠ if hit.isSome then 1 else 2) :
    numD (applyAction s v k i d hit) (vkey v (0x3060 + k) c) 0 = numD s (vkey v (0x3060 + k) c) 0 := by
  rw [(leavesStage_applyAction hp d hit).counters k c hk hc, numD_count_other]
  unfold vkey
  omega

/-! ### Lookups in the extension (R159, R184) -/

section
variable {v : Vale} {k : Fin 12} {s : State} {i : Nat} {p : Packet} (hwait : extWaiting s v k = some i) (hp : pktAt s v i = some p)
include hwait hp

theorem extLookupReturn_fits {x : Partition} (hfits : partFits s v (stageDef s v k p.epoch) p.lookPart = true)
    (hx : partAt s v (hIdx p.lookPart) = some x) :
    exec (.extLookupReturn v k) s = .next (applyAction
      (s.modTable v (fun y => (extBucketIds x (buildKey s v k (stageDef s v k p.epoch) p)).foldl touchBucket y)) v k i
      (stageDef s v k p.epoch) (resultAt x (lookupExt x (buildKey s v k (stageDef s v k p.epoch) p)))) := by
  show execExtLookupReturn v k s = _
  simp [execExtLookupReturn, hwait, hp, hfits, hx]

theorem extLookupReturn_mismatch (hfits : partFits s v (stageDef s v k p.epoch) p.lookPart = false) :
    exec (.extLookupReturn v k) s =
      .next (applyAction (count s (vkey v (0x3060 + k) 4)) v k i (stageDef s v k p.epoch) none) := by
  show execExtLookupReturn v k s = _
  simp [execExtLookupReturn, hwait, hp, hfits]

/-- R184: the lookup completes in the partition that it started in. -/
theorem completes_extLookupReturn_fits {x : Partition} (hfits : partFits s v (stageDef s v k p.epoch) p.lookPart = true)
    (hx : partAt s v (hIdx p.lookPart) = some x) :
    let hit := resultAt x (lookupExt x (buildKey s v k (stageDef s v k p.epoch) p))
    Completes (.extLookupReturn v k) s (fun t =>
      numD t (vkey v (0x3060 + k.val) (if hit.isSome then 1 else 2)) 0 =
        (numD s (vkey v (0x3060 + k.val) (if hit.isSome then 1 else 2)) 0 + 1) % 2 ^ 64 ∧
      (∀ q, pktAt t v i = some q → q.loc ≠ .extWait k.val) ∧ t.mem = s.mem) := by
  intro hit
  have htouched := fun f => (pktAt_modTable s v f i).trans hp
  have hleaves := fun f => leavesStage_applyAction (k := k) (htouched f) (stageDef s v k p.epoch) hit
  refine ⟨_, extLookupReturn_fits hwait hp hfits hx, ?_, (hleaves _).gone, (hleaves _).mem.trans (modTable_mem _ _ _)⟩
  rw [numD_applyAction_own k.isLt (htouched _), numD_of_dict (modTable_dict _ _ _)]

/-- R184: a partition that no longer fits counts as a mismatch. -/
theorem completes_extLookupReturn_mismatch (hfits : partFits s v (stageDef s v k p.epoch) p.lookPart = false) :
    Completes (.extLookupReturn v k) s (fun t =>
      numD t (vkey v (0x3060 + k.val) 4) 0 = (numD s (vkey v (0x3060 + k.val) 4) 0 + 1) % 2 ^ 64 ∧
      (∀ q, pktAt t v i = some q → q.loc ≠ .extWait k.val) ∧ t.mem = s.mem) := by
  have hcounted : pktAt (count s (vkey v (0x3060 + k) 4)) v i = some p := (pktAt_count _ _ _ _).trans hp
  have hleaves := leavesStage_applyAction (k := k) hcounted (stageDef s v k p.epoch) none
  refine ⟨_, extLookupReturn_mismatch hwait hp hfits, ?_, hleaves.gone, hleaves.mem⟩
  rw [numD_applyAction_other k.isLt (by decide) hcounted _ (by decide), numD_count_same]

omit hp in
/-- R159: a lookup that is late drops the packet, and is counted. -/
theorem completes_stageLookupTimeout (hslow : valeSlow s v = false) : Completes (.stageLookupTimeout v k) s (fun t =>
    pktAt t v i = none ∧ t = dropPkt (count s (vkey v (0x3060 + k) 3)) v i 0x08) := by
  refine ⟨dropPkt (count s (vkey v (0x3060 + k) 3)) v i 0x08, ?_, pktAt_dropPkt _ _ _ _, rfl⟩
  show execStageLookupTimeout v k s = _
  simp [execStageLookupTimeout, hwait, hslow]

end

theorem extensionLookups : Claims.ExtensionLookups := by
  intro v k s i p hwait hp
  exact ⟨fun x hfits hx => ⟨extLookupReturn_fits hwait hp hfits hx, completes_extLookupReturn_fits hwait hp hfits hx⟩,
    completes_extLookupReturn_mismatch hwait hp, completes_stageLookupTimeout hwait⟩

/-! ### STAGE_DEF and PART_MAP (R160, R163) -/

theorem serves_stageDefWrite (who : Who) (v : Vale) (k : Fin 12) (r : Rec 20) :
    Serves (.stageDefWrite who v k r) (stageDefOp who v k r) :=
  serves_of_runOp (fun _ => rfl)

theorem serves_partMapWrite (who : Who) (v : Vale) (k : Fin 12) (n : Fin 256) (h : Handle) :
    Serves (.partMapWrite who v k n h) (partMapOp who v k n h) :=
  serves_of_runOp (fun _ => rfl)

theorem stageObjects : Claims.StageObjects := by
  refine ⟨serves_stageDefWrite, ?defined, serves_partMapWrite, ?mapped⟩
  case defined =>
    intro who v k r s hs hok
    exact (serves_stageDefWrite who v k r).completes hs hok
      ⟨tget_tset_same _ _ _, rfl, fun hidle => if_pos hidle, rfl, rfl, rfl, rfl⟩
  case mapped =>
    intro who v k n h s hs hok
    exact (serves_partMapWrite who v k n h).completes hs hok
      ⟨numD_setNum_same _ _ _ _, fun j hj => numD_setNum_other s _ j _ 0 hj, rfl, rfl, rfl, rfl⟩

/-- Settles O24: the branches of STAGE_EXECUTE, what holds however a record leaves a stage, and the two objects by their effects. -/
theorem matchStages : Obligations.MatchStages := ⟨stagesExecute, extensionLookups, stageObjects⟩

end Sys2Proof.Machine
end

section
/-! Proofs of the statement about admission (R33, R80, R174, R221). -/

namespace Sys2Proof.Machine

/-! ### Before enqueue (R33, R80, R174) -/

/-- What ENQUEUE does with the next packet. -/
theorem exec_enqueue {v : Vale} {s : State} {i : Nat} {p : Packet} (hstop : s.err.failStop = false)
    (hpath : (s.vale v).path.outOfService = false) (htm : (s.vale v).tm.stopped = false)
    (hnext : enqueueNext s v .atEnqueue = some i) (hp : pktAt s v i = some p) :
    exec (.enqueue v) s = .next (
      if p.discarded then dropPkt s v i 0x04
      else if p.bad then dropPkt s v i 0x05
      else if !tenFresh s (pktTen p) then dropPkt s v i 0x06
      else if !(handleFits (recHandle p 8) (queueKind v) && objLive s (recHandle p 8)) then dropCopy s v i 0x0E
      else enqueueAt s v i (hIdx (recHandle p 8)) ((queuePort s v (hIdx (recHandle p 8))).getD 15) p) := by
  show execEnqueue v s = _
  simp only [execEnqueue, hstop, hpath, htm, hnext, hp, Bool.or_self, Bool.false_eq_true, if_false]

/-! ### The frame of a packet without edits (R216) -/

theorem fixL4_no_edits (p : Packet) (l3 l4 : Nat) (g : List Byte) : fixL4 p [] l3 l4 g = g := by
  simp [fixL4, rangeSet4]

theorem fixL3_no_edits (p : Packet) (l3 : Nat) (g : List Byte) : fixL3 p [] l3 g = g := by
  simp [fixL3, rangeSet]

theorem correctedBytes_no_edits (p : Packet) : correctedBytes p [] = p.bytes := by
  simp [correctedBytes, fixL4_no_edits, fixL3_no_edits, setBytes]

/-- Without edits the pieces are the received bytes one by one. -/
theorem pieces_no_edits (tpl : Nat → Nat) (g : List Byte) :
    pieces tpl [] g = (List.range g.length).map (fun i => (none, [g.getD i 0])) := by
  simp [pieces, isRemoved, ← List.map_eq_flatMap]

/-- Where no piece is a template there is nothing to fill in. -/
theorem fillAll_received (tpl : Nat → Nat) (hash : Nat) {ps : List (Option Nat × List Byte)} (h : ∀ x ∈ ps, x.1 = none) (o : Nat)
    (f : List Byte) : fillAll tpl hash ps o f = f := by
  induction ps generalizing o with
  | nil => rfl
  | cons x ps ih =>
    obtain ⟨t, bs⟩ := x
    obtain rfl : t = none := h _ List.mem_cons_self
    exact ih (fun y hy => h y (List.mem_cons_of_mem _ hy)) _

theorem map_getD_range (g : List Byte) : (List.range g.length).map (fun i => g.getD i 0) = g := by
  refine List.ext_getElem (by simp) (fun i _ h => ?_)
  simp [h]

/-- A packet without edits and without a template keeps its bytes. -/
theorem editedFrame_no_edits (s : State) {p : Packet} (hedits : p.edits = []) (htemplate : p.template = 0xFFFF) :
    editedFrame s p = p.bytes := by
  simp only [editedFrame, hedits, htemplate, if_true, correctedBytes_no_edits, pieces_no_edits]
  rw [fillAll_received _ _ (by simp)]
  rw [List.flatMap_map, ← List.map_eq_flatMap, map_getD_range]

/-! ### A plain packet meets its queue (R221) -/

/-- The three bits on top of word 12 are clear: no crypto operation, and no direction. -/
theorem recBits_crypto_clear {p : Packet} (h : recBits p 12 33 3 = 0) : recBits p 12 34 2 = 0 ∧ recBits p 12 33 1 = 0 := by
  unfold recBits bitsOf at *
  omega

/-- The packet that joins a queue without edits: its frame, its length and its time are fixed (R216). -/
def enqueuedPkt (s : State) (n : Nat) (p : Packet) : Packet :=
  keptWords { p with out := p.bytes, flen := frameBytes (decide (n < 8)) p.bytes.length 0,
                     ttl := ttlExpired p.bytes p.edits, enqNs := nowNs s }

/-- A packet without crypto, mirror, edits and template, within the frame limit, is admitted as it is. -/
theorem enqueueAt_plain {s : State} {v : Vale} {i : Nat} {p : Packet} (hp : pktAt s v i = some p) (hcrypto : recBits p 12 33 3 = 0)
    (hmirror : recBits p 11 35 1 = 0) (hedits : p.edits = []) (htemplate : p.template = 0xFFFF)
    (hlen : p.bytes.length + 4 ≤ numD s (vkey (procVale p) 0x3003 2) 9216) (q n : Nat) :
    enqueueAt s v i q n p =
      sampleLines (takeIn (settle (setPkt (sampleLines s v) v i (enqueuedPkt s n p)) v n q) v i q (cellsOf p.bytes.length)) v := by
  obtain ⟨hop, hdir⟩ := recBits_crypto_clear hcrypto
  have hrefused : cryptoRefused s p n = false := by simp [cryptoRefused, hop, hdir]
  have hcopy : mirrorCopy s v i = s := by simp [mirrorCopy, hp, hmirror]
  have hadds : cryptoAdds s p p.bytes = some 0 := by simp [cryptoAdds, hop]
  have hshort : ¬ numD s (vkey (procVale p) 0x3003 2) 9216 < p.bytes.length + 0 + 4 := by omega
  simp only [enqueueAt, hrefused, hcopy, hp, Option.getD_some, hedits, editsClash, tplMissing, tplBad, htemplate, List.any_nil,
    editedFrame_no_edits s hedits htemplate, hadds, hshort, if_false]
  simp [enqueuedPkt, hedits, htemplate]

/-! ### Admission (R221) -/

section
variable {s : State} {v : Vale} {i q cells : Nat}

theorem takeIn_full (h : qMax (queueConf s v q) < queueDepth s v (tmQueue s v q) + cells) :
    takeIn s v i q cells = refuse (count s (vkey v 0x4002 1)) v i q 0x0A :=
  if_pos h

theorem takeIn_spilling (hroom : queueDepth s v (tmQueue s v q) + cells ≤ qMax (queueConf s v q))
    (hspilling : (tmQueue s v q).spilling = true) : takeIn s v i q cells =
      if floodTakes s v cells then linkFlood s v i q else refuse (count s (vkey v 0x4002 2)) v i q 0x0A :=
  (if_neg (Nat.not_lt.mpr hroom)).trans (if_pos hspilling)

theorem takeIn_spills (hroom : queueDepth s v (tmQueue s v q) + cells ≤ qMax (queueConf s v q))
    (hspilling : (tmQueue s v q).spilling = false) (hspill : qSpill (queueConf s v q) = true) (hflood : floodGib s v ≠ 0)
    (hmark : qSpillOn (queueConf s v q) < cellsIn s v (tmQueue s v q).basin + cells) : takeIn s v i q cells =
      if floodTakes s v cells then linkFlood s v i q else linkBasin (count s (vkey v 0x4002 2)) v i q :=
  (if_neg (Nat.not_lt.mpr hroom)).trans ((if_neg (by simp [hspilling])).trans (if_pos ⟨hspill, hflood, hmark⟩))

theorem takeIn_basin (hroom : queueDepth s v (tmQueue s v q) + cells ≤ qMax (queueConf s v q))
    (hspilling : (tmQueue s v q).spilling = false) (hstays : qSpill (queueConf s v q) = false ∨ floodGib s v = 0 ∨
      cellsIn s v (tmQueue s v q).basin + cells ≤ qSpillOn (queueConf s v q)) : takeIn s v i q cells = linkBasin s v i q := by
  have hno : ¬ (qSpill (queueConf s v q) = true ∧ floodGib s v ≠ 0 ∧
      qSpillOn (queueConf s v q) < cellsIn s v (tmQueue s v q).basin + cells) := by
    rintro ⟨hspill, hflood, hmark⟩
    rcases hstays with h | h | h
    · simp [h] at hspill
    · exact hflood h
    · omega
  exact (if_neg (Nat.not_lt.mpr hroom)).trans ((if_neg (by simp [hspilling])).trans (if_neg hno))

end

theorem admissionSteps : Claims.AdmissionSteps := fun _ _ _ _ _ =>
  ⟨takeIn_full, fun hroom => ⟨takeIn_spilling hroom, takeIn_spills hroom, takeIn_basin hroom⟩⟩

/-! ### What admission leaves alone -/

@[simp] theorem sampleLines_dict (s : State) (v : Vale) : (sampleLines s v).dict = s.dict := modCol_dict _ _ _
@[simp] theorem sampleLines_mem (s : State) (v : Vale) : (sampleLines s v).mem = s.mem := modCol_mem _ _ _

@[simp] theorem pktAt_modCol (s : State) (v : Vale) (f : ColState → ColState) (i : Nat) : pktAt (s.modCol v f) v i = pktAt s v i :=
  pktAt_modVale_of_path (f := fun x => { x with col := f x.col }) (fun _ => rfl) s v i

@[simp] theorem pktAt_modTm (s : State) (v : Vale) (f : TmState → TmState) (i : Nat) : pktAt (s.modTm v f) v i = pktAt s v i :=
  pktAt_modVale_of_path (f := fun x => { x with tm := f x.tm }) (fun _ => rfl) s v i

@[simp] theorem pktAt_sampleLines (s : State) (v : Vale) (i : Nat) : pktAt (sampleLines s v) v i = pktAt s v i :=
  pktAt_modCol _ _ _ _

/-- A change of a Vale that keeps its traffic manager keeps its queues. -/
theorem tmQueue_modVale_of_tm {f : ValeState → ValeState} (h : ∀ x, (f x).tm = x.tm) (s : State) (v : Vale) (q : Nat) :
    tmQueue (s.modVale v f) v q = tmQueue s v q := by
  rw [tmQueue, vale_modVale, h, ← tmQueue]

@[simp] theorem tmQueue_modPath (s : State) (v : Vale) (f : Path → Path) (q : Nat) : tmQueue (s.modPath v f) v q = tmQueue s v q :=
  tmQueue_modVale_of_tm (f := fun x => { x with path := f x.path }) (fun _ => rfl) s v q

@[simp] theorem tmQueue_modCol (s : State) (v : Vale) (f : ColState → ColState) (q : Nat) : tmQueue (s.modCol v f) v q = tmQueue s v q :=
  tmQueue_modVale_of_tm (f := fun x => { x with col := f x.col }) (fun _ => rfl) s v q

@[simp] theorem tmQueue_sampleLines (s : State) (v : Vale) (q : Nat) : tmQueue (sampleLines s v) v q = tmQueue s v q :=
  tmQueue_modCol _ _ _ _

@[simp] theorem tmQueue_setPkt (s : State) (v : Vale) (i : Nat) (p : Packet) (q : Nat) : tmQueue (setPkt s v i p) v q = tmQueue s v q :=
  tmQueue_modPath _ _ _ _

@[simp] theorem tmQueue_setTmQueue (s : State) (v : Vale) (q : Nat) (x : TmQueue) : tmQueue (setTmQueue s v q x) v q = x := by
  rw [tmQueue, setTmQueue, State.modTm, vale_modVale, tgetD_tset_same]

/-- Settling an element's deficit leaves the packets, the queues, the dictionary and memory. -/
theorem setDeficit_keeps (v : Vale) (s : State) (e : Nat) (d : Int) :
    ((setDeficit v s e d).vale v).path = (s.vale v).path ∧ ((setDeficit v s e d).vale v).tm.queues = (s.vale v).tm.queues ∧
      (setDeficit v s e d).dict = s.dict ∧ (setDeficit v s e d).mem = s.mem := by
  simp [setDeficit, State.modTm]

theorem settle_keeps {β : Type} {π : State → β} {v : Vale} (h : ∀ s e d, π (setDeficit v s e d) = π s) (s : State) (n q : Nat) :
    π (settle s v n q) = π s := by
  refine foldl_keeps π (fun a e => ?_) _ _
  split
  · exact h _ _ _
  · rfl

@[simp] theorem settle_dict (s : State) (v : Vale) (n q : Nat) : (settle s v n q).dict = s.dict :=
  settle_keeps (π := State.dict) (fun s e d => (setDeficit_keeps v s e d).2.2.1) s n q

@[simp] theorem settle_mem (s : State) (v : Vale) (n q : Nat) : (settle s v n q).mem = s.mem :=
  settle_keeps (π := State.mem) (fun s e d => (setDeficit_keeps v s e d).2.2.2) s n q

@[simp] theorem pktAt_settle (s : State) (v : Vale) (n q i : Nat) : pktAt (settle s v n q) v i = pktAt s v i :=
  congrArg (fun x : Path => tget x.packets i)
    (settle_keeps (π := fun s => (s.vale v).path) (fun s e d => (setDeficit_keeps v s e d).1) s n q)

@[simp] theorem tmQueue_settle (s : State) (v : Vale) (n q j : Nat) : tmQueue (settle s v n q) v j = tmQueue s v j :=
  congrArg (fun x : Tab TmQueue => tgetD x j {})
    (settle_keeps (π := fun s => (s.vale v).tm.queues) (fun s e d => (setDeficit_keeps v s e d).2.1) s n q)

theorem queueConf_of_dict {s t : State} (h : t.dict = s.dict) (v : Vale) (q : Nat) : queueConf t v q = queueConf s v q :=
  numD_of_dict h _ _

/-- The cells of a queue's packets are those of their bytes. -/
theorem cellsIn_congr {s t : State} {v : Vale} (h : ∀ j, (pktAt t v j).map (·.bytes) = (pktAt s v j).map (·.bytes)) (l : List Nat) :
    cellsIn t v l = cellsIn s v l := by
  unfold cellsIn
  congr 1
  funext n j
  have hj := h j
  cases hs : pktAt s v j with
  | none =>
    have ht : pktAt t v j = none := by simpa [hs] using hj
    simp [ht]
  | some y =>
    obtain ⟨x, ht, hxy⟩ : ∃ x, pktAt t v j = some x ∧ x.bytes = y.bytes := by simpa [hs] using hj
    simp [ht, hxy]

theorem queueDepth_congr {s t : State} {v : Vale} (h : ∀ j, (pktAt t v j).map (·.bytes) = (pktAt s v j).map (·.bytes)) (x : TmQueue) :
    queueDepth t v x = queueDepth s v x := by
  rw [queueDepth, queueDepth, cellsIn_congr h, cellsIn_congr h]

/-- A packet that joins the end of a queue in Basin. -/
theorem linkBasin_joins {s : State} {v : Vale} {i : Nat} {p : Packet} (hp : pktAt s v i = some p) (q : Nat) :
    (tmQueue (linkBasin s v i q) v q).basin = (tmQueue s v q).basin ++ [i] ∧
      (∃ x, pktAt (linkBasin s v i q) v i = some x ∧ x.loc = .queued q ∧ x.bytes = p.bytes) ∧ (linkBasin s v i q).mem = s.mem := by
  obtain ⟨n, hmoved⟩ := pktAt_moveTo hp (.queued q)
  refine ⟨?_, ⟨{ p with loc := .queued q, stamp := n }, ?_, rfl, rfl⟩, ?_⟩
  · simp [linkBasin]
  · rw [← hmoved]
    exact pktAt_modTm _ _ _ _
  · simp [linkBasin, setTmQueue]

/-- R221: a plain packet that its queue has room for joins the queue's end. -/
theorem enqueueAt_joins {s : State} {v : Vale} {i : Nat} {p : Packet} (hp : pktAt s v i = some p) (hcrypto : recBits p 12 33 3 = 0)
    (hmirror : recBits p 11 35 1 = 0) (hedits : p.edits = []) (htemplate : p.template = 0xFFFF)
    (hlen : p.bytes.length + 4 ≤ numD s (vkey (procVale p) 0x3003 2) 9216) {q : Nat} (n : Nat)
    (hspilling : (tmQueue s v q).spilling = false) (hspill : qSpill (queueConf s v q) = false)
    (hroom : queueDepth s v (tmQueue s v q) + cellsOf p.bytes.length ≤ qMax (queueConf s v q)) :
    (tmQueue (enqueueAt s v i q n p) v q).basin = (tmQueue s v q).basin ++ [i] ∧
      (∃ x, pktAt (enqueueAt s v i q n p) v i = some x ∧ x.loc = .queued q ∧ x.bytes = p.bytes) ∧
      (enqueueAt s v i q n p).mem = s.mem := by
  rw [enqueueAt_plain hp hcrypto hmirror hedits htemplate hlen]
  generalize ha : settle (setPkt (sampleLines s v) v i (enqueuedPkt s n p)) v n q = a
  have hdict : a.dict = s.dict := by simp [← ha]
  have hqueue : tmQueue a v q = tmQueue s v q := by simp [← ha]
  have hpkt : pktAt a v i = some (enqueuedPkt s n p) := by simp [← ha]
  have hbytes : ∀ j, (pktAt a v j).map (·.bytes) = (pktAt s v j).map (·.bytes) := by
    intro j
    by_cases hj : j = i
    · rw [hj, hpkt, hp]
      rfl
    · simp [← ha, pktAt_setPkt_other _ _ hj]
  have htaken : takeIn a v i q (cellsOf p.bytes.length) = linkBasin a v i q := by
    apply takeIn_basin
    · rwa [hqueue, queueDepth_congr hbytes, queueConf_of_dict hdict]
    · rw [hqueue, hspilling]
    · rw [queueConf_of_dict hdict]
      exact .inl hspill
  obtain ⟨hjoined, ⟨x, hx, hloc, hsame⟩, hmem⟩ := linkBasin_joins hpkt q
  rw [htaken, tmQueue_sampleLines, pktAt_sampleLines, sampleLines_mem, hjoined, hqueue, hmem]
  exact ⟨rfl, ⟨x, hx, hloc, hsame⟩, by simp [← ha]⟩

theorem enqueueChecks : Claims.EnqueueChecks := by
  intro v s i p hstop hpath htm hnext hp
  have hexec := exec_enqueue hstop hpath htm hnext hp
  have hmeets : p.discarded = false → p.bad = false → tenFresh s (pktTen p) = true →
      (handleFits (recHandle p 8) (queueKind v) && objLive s (recHandle p 8)) = true →
      exec (.enqueue v) s =
        .next (enqueueAt s v i (hIdx (recHandle p 8)) ((queuePort s v (hIdx (recHandle p 8))).getD 15) p) := by
    intro hkept hgood hfresh hlive
    rw [hexec, hkept, hgood, hfresh, hlive]
    rfl
  refine ⟨fun hdiscarded => ?_, fun hkept hbad => ?_, fun hkept hgood hstale => ?_, fun hkept hgood hfresh hdead => ?_, hmeets,
    fun hdiscarded => ?_, ?joins⟩
  · rw [hexec, hdiscarded]
    rfl
  · rw [hexec, hkept, hbad]
    rfl
  · rw [hexec, hkept, hgood, hstale]
    rfl
  · rw [hexec, hkept, hgood, hfresh, hdead]
    rfl
  · rw [hdiscarded] at hexec
    exact ⟨_, hexec, pktAt_dropPkt _ _ _ _, dropPkt_mem _ _ _ _⟩
  case joins =>
    intro hkept hgood hfresh hlive hcrypto hmirror hedits htemplate hlen q hspilling hspill hroom
    exact ⟨_, hmeets hkept hgood hfresh hlive,
      enqueueAt_joins hp hcrypto hmirror hedits htemplate hlen _ hspilling hspill hroom⟩

/-- Settles O29: the branches of ENQUEUE in their order, and admission step by step. -/
theorem admission : Obligations.Admission := ⟨enqueueChecks, admissionSteps⟩

end Sys2Proof.Machine
end

section
/-! Proofs of the statements about version negotiation, the cached response of a session and the requests of Idien
(R43, R47-R51, R63-R65). -/

namespace Sys2Proof.Machine

/-! ### Version negotiation (R51) -/

/-- What negotiation makes of one more offer `x`: `best` is what the offers before it came to. -/
def betterOffer (b : List (Nat × Nat)) (best : Option (Nat × Nat)) (x : Nat × Nat) : Option (Nat × Nat) :=
  match b.find? (fun y => decide (y.1 = x.1)) with
  | none => best
  | some y =>
    match best with
    | none => some (x.1, min x.2 y.2)
    | some z => if z.1 < x.1 then some (x.1, min x.2 y.2) else some z

/-- The result that R51 asks for from the offers `a` and `b`. -/
def Negotiated (a b : List (Nat × Nat)) : Option (Nat × Nat) → Prop
  | none => ∀ x ∈ a, ∀ y ∈ b, x.1 ≠ y.1
  | some z => ∃ x ∈ a, ∃ y ∈ b, x.1 = y.1 ∧ z = (x.1, min x.2 y.2) ∧ ∀ x' ∈ a, ∀ y' ∈ b, x'.1 = y'.1 → x'.1 ≤ z.1

/-- Negotiation takes the offers of a major other than 0 one after another. -/
theorem negotiate_eq_foldl {a : List (Nat × Nat)} (ha : ∀ x ∈ a, x.1 ≠ 0) (b : List (Nat × Nat)) :
    negotiate a b = a.foldl (betterOffer b) none := by
  have hall : a.filter (fun x => decide (x.1 ≠ 0)) = a := List.filter_eq_self.mpr (fun x hx => decide_eq_true (ha x hx))
  unfold negotiate
  rw [hall]
  congr 1
  funext best x
  unfold betterOffer
  cases b.find? (fun y => decide (y.1 = x.1)) <;> cases best <;> rfl

/-- An offer whose major `b` does not have changes nothing. -/
theorem negotiated_append_uncommon {a b : List (Nat × Nat)} {x : Nat × Nat} (hx : ∀ y ∈ b, x.1 ≠ y.1) {best : Option (Nat × Nat)}
    (h : Negotiated a b best) : Negotiated (a ++ [x]) b best := by
  cases best with
  | none => exact fun x' hx' => (List.mem_append.mp hx').elim (h x') (fun hnew => List.mem_singleton.mp hnew ▸ hx)
  | some z =>
    obtain ⟨w, hw, y, hy, hwy, hz, hmax⟩ := h
    refine ⟨w, List.mem_append_left _ hw, y, hy, hwy, hz, fun x' hx' y' hy' heq => ?_⟩
    rcases List.mem_append.mp hx' with hold | hnew
    · exact hmax x' hold y' hy' heq
    · exact absurd (List.mem_singleton.mp hnew ▸ heq) (hx y' hy')

/-- An offer of a common major that is at least as high as the common majors before it is the result. -/
theorem negotiated_append_common {a b : List (Nat × Nat)} {x y : Nat × Nat} (hy : y ∈ b) (hxy : x.1 = y.1)
    (hmax : ∀ x' ∈ a, ∀ y' ∈ b, x'.1 = y'.1 → x'.1 ≤ x.1) : Negotiated (a ++ [x]) b (some (x.1, min x.2 y.2)) := by
  refine ⟨x, List.mem_append_right _ (List.mem_singleton_self x), y, hy, hxy, rfl, fun x' hx' y' hy' heq => ?_⟩
  rcases List.mem_append.mp hx' with hold | hnew
  · exact hmax x' hold y' hy' heq
  · exact List.mem_singleton.mp hnew ▸ Nat.le_refl x'.1

/-- An offer of a major no higher than the result so far changes nothing. -/
theorem negotiated_append_lower {a b : List (Nat × Nat)} {x z : Nat × Nat} (hlow : x.1 ≤ z.1) (h : Negotiated a b (some z)) :
    Negotiated (a ++ [x]) b (some z) := by
  obtain ⟨w, hw, y, hy, hwy, hz, hmax⟩ := h
  refine ⟨w, List.mem_append_left _ hw, y, hy, hwy, hz, fun x' hx' y' hy' heq => ?_⟩
  rcases List.mem_append.mp hx' with hold | hnew
  · exact hmax x' hold y' hy' heq
  · exact List.mem_singleton.mp hnew ▸ hlow

theorem negotiated_betterOffer {a b : List (Nat × Nat)} {best : Option (Nat × Nat)} (h : Negotiated a b best) (x : Nat × Nat) :
    Negotiated (a ++ [x]) b (betterOffer b best x) := by
  unfold betterOffer
  split
  case h_1 hnone =>
    exact negotiated_append_uncommon (fun y hy heq => by simpa [heq] using List.find?_eq_none.mp hnone y hy) h
  case h_2 y hfind =>
    have hy := List.mem_of_find?_eq_some hfind
    have hyx : y.1 = x.1 := by simpa using List.find?_some hfind
    cases best with
    | none => exact negotiated_append_common hy hyx.symm (fun x' hx' y' hy' heq => absurd heq (h x' hx' y' hy'))
    | some z =>
      dsimp only
      split
      · next hlt =>
        obtain ⟨_, _, _, _, _, _, hmax⟩ := h
        exact negotiated_append_common hy hyx.symm (fun x' hx' y' hy' heq => Nat.le_trans (hmax x' hx' y' hy' heq) (Nat.le_of_lt hlt))
      · next hge => exact negotiated_append_lower (Nat.not_lt.mp hge) h

/-- Every offer in a row keeps the result that R51 asks for. -/
theorem negotiated_foldl {a b : List (Nat × Nat)} {best : Option (Nat × Nat)} (h : Negotiated a b best) (l : List (Nat × Nat)) :
    Negotiated (a ++ l) b (l.foldl (betterOffer b) best) := by
  induction l generalizing a best with
  | nil => simpa using h
  | cons x l ih =>
    rw [List.foldl_cons, List.append_cons]
    exact ih (negotiated_betterOffer h x)

/-- Negotiation comes to what R51 asks for. -/
theorem negotiated_negotiate {a : List (Nat × Nat)} (ha : ∀ x ∈ a, x.1 ≠ 0) (b : List (Nat × Nat)) :
    Negotiated a b (negotiate a b) := by
  have hnil : Negotiated [] b none := fun x hx => absurd hx List.not_mem_nil
  rw [negotiate_eq_foldl ha]
  exact negotiated_foldl hnil a

/-- Settles O3, by induction on the offers: each one keeps `Negotiated`. -/
theorem negotiationSelects : Obligations.NegotiationSelects := by
  intro a b ha
  have hres := negotiated_negotiate ha b
  refine ⟨⟨fun hnone => ?_, fun huncommon => ?_⟩, fun z hz => ?_⟩
  · rw [hnone] at hres
    exact hres
  · cases hn : negotiate a b with
    | none => rfl
    | some z =>
      rw [hn] at hres
      obtain ⟨x, hx, y, hy, hxy, _⟩ := hres
      exact absurd hxy (huncommon x hx y hy)
  · rw [hz] at hres
    exact hres

/-! ### What an answer changes (R46, R50, R60, R61) -/

/-- A response for the mailbox changes the mailbox but for GO, and the host interface. -/
theorem mbRespond_eq (s : State) (bs : List Byte) : mbRespond s bs = { s with
    idien := { s.idien with pf0 := { (mbRespond s bs).idien.pf0 with go := s.idien.pf0.go } }
    host := (mbRespond s bs).host } := by
  unfold mbRespond
  split
  · rfl
  · rw [mbFill_eq]

/-- A response that is sent changes the last response, the mailbox but for GO, and the host interface. -/
theorem sendResp_eq (s : State) (src : ReqSource) (m : RespMsg) : sendResp s src m = { s with
    idien := { s.idien with
      last := (sendResp s src m).idien.last
      pf0 := { (sendResp s src m).idien.pf0 with go := s.idien.pf0.go } }
    host := (sendResp s src m).host } := by
  unfold sendResp
  cases src with
  | open_ t =>
    dsimp only
    split
    · rw [mbRespond_eq]
    · rfl
  | session n =>
    dsimp only
    split
    · rfl
    · split
      · rw [mbRespond_eq]
      · rfl

@[simp] theorem sendResp_sessions (s : State) (src : ReqSource) (m : RespMsg) :
    (sendResp s src m).idien.sessions = s.idien.sessions := by
  rw [sendResp_eq]

@[simp] theorem sendResp_go (s : State) (src : ReqSource) (m : RespMsg) : (sendResp s src m).idien.pf0.go = s.idien.pf0.go := by
  rw [sendResp_eq]

/-- An answer is kept by the session, gives the status and payload (and retry_after where BUSY is answered and shown), and is
sent. -/
theorem answerReq_eq (s : State) (r : Req) (a : Resp) : answerReq s r a = { s with
    resp := { a with retry := if a.status = .busy ∧ retryShown s r.src then a.retry else 0 }
    idien := { s.idien with
      sessions := (answerReq s r a).idien.sessions
      last := (answerReq s r a).idien.last
      pf0 := { (answerReq s r a).idien.pf0 with go := s.idien.pf0.go } }
    host := (answerReq s r a).host } := by
  unfold answerReq
  dsimp only
  split
  · split
    · rw [sendResp_eq]
      rfl
    · rw [sendResp_eq]
  · rw [sendResp_eq]

@[simp] theorem answerReq_resp (s : State) (r : Req) (a : Resp) :
    (answerReq s r a).resp = { a with retry := if a.status = .busy ∧ retryShown s r.src then a.retry else 0 } := by
  rw [answerReq_eq]

@[simp] theorem answerReq_dict (s : State) (r : Req) (a : Resp) : (answerReq s r a).dict = s.dict := by
  rw [answerReq_eq]

@[simp] theorem answerReq_mem (s : State) (r : Req) (a : Resp) : (answerReq s r a).mem = s.mem := by
  rw [answerReq_eq]

@[simp] theorem answerReq_go (s : State) (r : Req) (a : Resp) : (answerReq s r a).idien.pf0.go = s.idien.pf0.go := by
  rw [answerReq_eq]

/-! ### The cached response (R50) -/

theorem sessionAt_of_tget {s : State} {n : Nat} {x : Session} (hx : tget s.idien.sessions n = some x) : sessionAt s n = some x := by
  simp [sessionAt, hx]

/-- A session that stands keeps the response to its request. -/
theorem tget_sessions_answerReq {s : State} {n : Nat} {x : Session} (hx : sessionAt s n = some x) (m : IdienMsg) (a : Resp) :
    tget (answerReq s { src := .session n, msg := m } a).idien.sessions n =
      some { x with cached := some (m.sequence, respMsg m (answerReq s { src := .session n, msg := m } a).resp) } := by
  have hstands : ∀ b : Resp, sessionAt { s with resp := b } n = some x := fun _ => hx
  rw [answerReq_resp]
  simp [answerReq, hstands, setSession]

/-- The sequence number of the cached response names a retransmission, in a session of version 1.3 or above. -/
theorem resent_cached {s : State} {n : Nat} {x : Session} {m : IdienMsg} {b : RespMsg} (hx : sessionAt s n = some x) (hn : n ≠ 0)
    (hver : verHas x 1 3 = true) (hcached : x.cached = some (m.sequence, b)) : resent s { src := .session n, msg := m } = some b := by
  simp [resent, hx, hn, hver, hcached]

/-! ### Arrival (R63) -/

section Arrival

variable {s : State} {r : Req} (hs : glenServes s = true) (hstand : sourceStands s r.src = true) (hlen : r.msg.payload.length ≤ 1024)
include hs hstand hlen

/-- A retransmission gets the cached response. -/
theorem enqueueReq_resent {b : RespMsg} (hresent : resent s r = some b) : enqueueReq s r = sendResp s r.src b := by
  simp [enqueueReq, hs, hstand, Nat.not_lt.mpr hlen, hresent]

/-- A request within the limits is the last of its queue. -/
theorem enqueueReq_room (hresent : resent s r = none)
    (hroom : (queueAt s (queueFor s r.src)).length < queueCap (queueFor s r.src)) (hout : outstanding s r.src < 4) :
    enqueueReq s r = setQueue s (queueFor s r.src) (queueAt s (queueFor s r.src) ++ [r]) := by
  simp [enqueueReq, hs, hstand, Nat.not_lt.mpr hlen, hresent, Nat.not_le.mpr hroom, Nat.not_le.mpr hout]

/-- A request beyond a limit is refused. -/
theorem enqueueReq_full (hresent : resent s r = none)
    (hfull : queueCap (queueFor s r.src) ≤ (queueAt s (queueFor s r.src)).length ∨ 4 ≤ outstanding s r.src ∧ r.src ≠ .session 0) :
    enqueueReq s r = refuseBusy s r := by
  simp only [enqueueReq, hs, hstand, Nat.not_lt.mpr hlen, hresent, hfull, Bool.not_true, Bool.or_self, Bool.false_eq_true, if_false,
    decide_false, Bool.and_false, if_true]

end Arrival

theorem exec_requestEnqueue (src : ReqSource) (m : IdienMsg) (s : State) :
    exec (.requestEnqueue src m) s = .next (enqueueReq s { src := src, msg := m }) := rfl

/-- Settles O8: an answer stands in its session, and `resent` finds it there. -/
theorem cachedResponse : Obligations.CachedResponse := by
  refine ⟨fun s n x m a hx _ => ?_, fun s n x m b hs hstop hx hn hver hlen hcached => ?_⟩
  · refine ⟨_, _, tget_sessions_answerReq (sessionAt_of_tget hx) m a, rfl, rfl, ?_, ?_⟩ <;> simp [respMsg]
  · have hsession := sessionAt_of_tget hx
    have hstand : sourceStands s (.session n) = true := by simp [sourceStands, hsession, hstop]
    rw [exec_requestEnqueue, enqueueReq_resent hs hstand hlen (resent_cached hsession hn hver hcached)]

/-! ### Refusals at a queue and the dictionary store (R43, R63) -/

theorem ceilDiv_mul_self (n : Nat) {k : Nat} (hk : 0 < k) : ceilDiv (n * k) k = n := by
  unfold ceilDiv
  rw [Nat.add_sub_assoc hk, Nat.add_comm, Nat.add_mul_div_right _ _ hk, Nat.div_eq_of_lt (by omega), Nat.zero_add]

/-- Until 64 requests are served a refusal counts 1 ms for each request that waits. -/
theorem refuseBusy_eq {s : State} (hserved : s.idien.served < 64) (r : Req) :
    refuseBusy s r = answerReq (bump s (okey 0x1104 (queueNum (queueFor s r.src) + 1)) 32 1) r
      { status := .busy, retry := clampRetry (queueAt s (queueFor s r.src)).length } := by
  simp only [refuseBusy, hserved, if_true, ceilDiv_mul_self _ (show 0 < 1000 by decide)]

theorem tget_flashNums_commitKey_same (d : Dict) (k : Nat) : tget (commitKey d k).flashNums k = tget d.nums k := by
  unfold commitKey
  dsimp only
  split <;> simp [*]

theorem tget_flashOcts_commitKey_same (d : Dict) (k : Nat) : tget (commitKey d k).flashOcts k = tget d.octs k := by
  unfold commitKey
  dsimp only
  split <;> simp [*]

theorem tget_flashNums_commitKey_other (d : Dict) {k j : Nat} (h : j ≠ k) :
    tget (commitKey d k).flashNums j = tget d.flashNums j := by
  unfold commitKey
  dsimp only
  split
  · exact tget_tset_other _ _ _ _ h
  · exact tget_terase_other _ _ _ h

theorem tget_flashOcts_commitKey_other (d : Dict) {k j : Nat} (h : j ≠ k) :
    tget (commitKey d k).flashOcts j = tget d.flashOcts j := by
  unfold commitKey
  dsimp only
  split
  · exact tget_tset_other _ _ _ _ h
  · exact tget_terase_other _ _ _ h

theorem exec_persistCommit {s : State} {k : Nat} {ks : List Nat} (hs : glenServes s = true) (hstop : s.err.failStop = false)
    (hpending : s.dict.pending = k :: ks) :
    exec .persistCommit s = .next { s with dict := { commitKey s.dict k with pending := ks } } := by
  show execPersistCommit s = _
  simp [execPersistCommit, hpending, hs, hstop]

theorem requestsQueued : Claims.RequestsQueued := by
  refine ⟨fun s r hs hstand hlen hresent hroom hout => ?_, fun s r hs hstand hlen hresent hfull hserved => ?_,
    fun s k ks hs hstop hpending => ⟨_, exec_persistCommit hs hstop hpending, rfl, ?_, ?_, rfl, rfl, rfl, fun j hj => ⟨?_, ?_⟩⟩⟩
  · rw [exec_requestEnqueue, enqueueReq_room hs hstand hlen hresent hroom hout]
  · rw [exec_requestEnqueue, enqueueReq_full hs hstand hlen hresent hfull, refuseBusy_eq hserved]
  · exact tget_flashNums_commitKey_same _ _
  · exact tget_flashOcts_commitKey_same _ _
  · exact tget_flashNums_commitKey_other _ hj
  · exact tget_flashOcts_commitKey_other _ hj

/-! ### Service (R64) -/

@[simp] theorem setQueue_dict (s : State) (q : GlenQueue) (l : List Req) : (setQueue s q l).dict = s.dict := by
  cases q <;> rfl

@[simp] theorem setQueue_mem (s : State) (q : GlenQueue) (l : List Req) : (setQueue s q l).mem = s.mem := by
  cases q <;> rfl

@[simp] theorem takenState_dict (s : State) (q : GlenQueue) : (takenState s q).dict = s.dict := setQueue_dict _ _ _
@[simp] theorem takenState_mem (s : State) (q : GlenQueue) : (takenState s q).mem = s.mem := setQueue_mem _ _ _

section Service

variable {s : State} {q : GlenQueue} {r : Req} {op : Nat} (htakes : Takes s q r op)
include htakes

/-- A request that Glen takes is served in the state without it. -/
theorem serve_takes {ops : Nat → Bool} (hops : ops op = true) (f : State → Req → State) : serve q ops f s = f (takenState s q) r := by
  obtain ⟨hs, hmay, ⟨rest, hqueue⟩, hop, hresent⟩ := htakes
  simp [serve, hqueue, hs, hmay, hop, hops, hresent]

/-- A request outside the vendor test range is served and not refused. -/
theorem serveOrRefuse_takes (hvendor : vendorTest s r = false) {ops : Nat → Bool} (hops : ops op = true) (f : State → Req → State) :
    serveOrRefuse q ops f s = .next (f (takenState s q) r) := by
  have hserves : servesVendor q ops s = false := by
    obtain ⟨_, _, ⟨rest, hqueue⟩, _, _⟩ := htakes
    simp [servesVendor, hqueue, hvendor]
  rw [serveOrRefuse, hserves, if_neg Bool.false_ne_true, serve_takes htakes hops]

end Service

section Rows

variable {s : State} {q : GlenQueue} {r : Req}

theorem exec_getVersion (htakes : Takes s q r 1) :
    exec (.getVersion q) s = .next (answerOp (takenState s q) r (getVersionOp r)) :=
  congrArg Host.Outcome.next (serve_takes htakes rfl _)

theorem exec_read (htakes : Takes s q r 2) (hvendor : vendorTest s r = false) :
    exec (.read q) s = .next (answerOp (takenState s q) r (readMsgOp (takenState s q) r)) := by
  have hknown : (queueAt s q).head?.elim false (fun r => opUnknown r.msg.opcode.toNat) = false := by
    obtain ⟨_, _, ⟨rest, hqueue⟩, hop, _⟩ := htakes
    simp [hqueue, hop, opUnknown]
  show execRead q s = _
  rw [execRead, hknown, if_neg Bool.false_ne_true, serveOrRefuse_takes htakes hvendor rfl]

theorem exec_write (htakes : Takes s q r 3) (hvendor : vendorTest s r = false) :
    exec (.write q) s = .next (writeReq (takenState s q) r) :=
  serveOrRefuse_takes htakes hvendor rfl _

theorem exec_describe (htakes : Takes s q r 4) (hvendor : vendorTest s r = false) :
    exec (.describe q) s = .next (answerOp (takenState s q) r (describeMsgOp (takenState s q) r)) :=
  serveOrRefuse_takes htakes hvendor rfl _

theorem exec_list (htakes : Takes s q r 5) :
    exec (.list q) s = .next (answerOp (takenState s q) r (listMsgOp (takenState s q) r)) :=
  congrArg Host.Outcome.next (serve_takes htakes rfl _)

end Rows

/-! ### Answers of an operation -/

theorem answerOp_ok {s : State} {op : DictOp} (hok : op.status s = .ok) (r : Req) :
    answerOp s r op = answerReq (op.effect s).1 r { payload := (op.effect s).2 } := by
  simp [answerOp, hok]

/-- A request that fails is answered with its reason after what the failure records. -/
theorem answerOp_fail {s : State} {op : DictOp} (hfail : op.status s ≠ .ok) (r : Req) :
    ∃ n, answerOp s r op = answerReq (op.onFail s (op.status s)) r { status := op.status s, retry := n } := by
  unfold answerOp
  cases hst : op.status s with
  | ok => exact absurd hst hfail
  | busy => exact ⟨_, rfl⟩
  | _ => exact ⟨0, rfl⟩

/-- A command that serves an operation whose checks pass completes with OK and the operation's values. -/
theorem completes_answerOp {c : Instr} {s t : State} {r : Req} {op : DictOp} (hexec : exec c s = .next (answerOp t r op))
    (hok : op.status t = .ok) {P : State → Prop}
    (hP : ∀ u, u.resp = { status := .ok, payload := (op.effect t).2 } → u.dict = (op.effect t).1.dict → u.mem = (op.effect t).1.mem →
      P u) : Completes c s P := by
  rw [answerOp_ok hok] at hexec
  exact ⟨_, hexec, hP _ (by simp) (by simp) (by simp)⟩

/-! ### READ (R48) -/

theorem length_takeValues_le_of_readMsgOp_ok {s t : State} {r : Req} (hok : (readMsgOp s r).status t = .ok) :
    ((readMsgOp s r).effect t).2.length ≤ 1024 := by
  unfold readMsgOp at hok ⊢
  dsimp only at hok ⊢
  split at hok
  · split at hok
    · cases hok
    · exact Nat.not_lt.mp ‹_›
  · next hne => exact absurd hok hne

theorem readAllOrNone : Claims.ReadAllOrNone := by
  intro s q r htakes hvendor
  have hexec := exec_read htakes hvendor
  refine ⟨fun hfail => ?_, fun hok => ⟨length_takeValues_le_of_readMsgOp_ok hok, completes_answerOp hexec hok fun _ h _ _ => h⟩⟩
  obtain ⟨n, hanswer⟩ := answerOp_fail hfail r
  exact ⟨n, hexec.trans (congrArg Host.Outcome.next hanswer)⟩

/-! ### A unit that does not answer (R65) -/

theorem answerOp_timeoutOf {s : State} {op : DictOp} (hok : op.status s = .ok) (r : Req) :
    answerOp s r (timeoutOf op) = answerReq (op.onFail s .timeout) r { status := .timeout } := by
  simp [answerOp, timeoutOf, hok]

section Timeout

variable {s : State} {q : GlenQueue} {r : Req}

theorem exec_unitAnswerTimeout_read (htakes : Takes s q r 2) (hvendor : vendorTest s r = false)
    (hok : (readMsgOp (takenState s q) r).status (takenState s q) = .ok) :
    exec (.unitAnswerTimeout q) s = .next (answerReq (takenState s q) r { status := .timeout }) := by
  have hop : r.msg.opcode.toNat ≠ 3 := by rw [htakes.2.2.2.1]; decide
  show execUnitAnswerTimeout q s = _
  rw [execUnitAnswerTimeout, serveOrRefuse_takes htakes hvendor rfl, timeoutReq, if_neg hop, answerOp_timeoutOf hok]
  rfl

theorem exec_unitAnswerTimeout_write (htakes : Takes s q r 3) (hvendor : vendorTest s r = false)
    (hok : (writeMsgOp (takenState s q) r).status (takenState s q) = .ok) :
    exec (.unitAnswerTimeout q) s =
      .next (answerReq ((writeMsgOp (takenState s q) r).onFail (takenState s q) .timeout) r { status := .timeout }) := by
  have hop : r.msg.opcode.toNat = 3 := htakes.2.2.2.1
  show execUnitAnswerTimeout q s = _
  rw [execUnitAnswerTimeout, serveOrRefuse_takes htakes hvendor rfl, timeoutReq, if_pos hop, answerOp_timeoutOf hok]

end Timeout

/-! ### Requests whose checks pass (R47-R49, R51) -/

section Passed

variable {s : State} {q : GlenQueue} {r : Req}

theorem completes_getVersion (htakes : Takes s q r 1) (hok : (getVersionOp r).status (takenState s q) = .ok) :
    Completes (.getVersion q) s (fun t => ∃ z, negotiate (offersOf r.msg.payload) idienVersions = some z ∧
      t.resp = { status := .ok, payload := beBytes 1 z.1 ++ beBytes 1 z.2 }) := by
  have hsome : (negotiate (offersOf r.msg.payload) idienVersions).isNone = false :=
    not_applies_of_ok hok (st := .version) (by decide) (by simp)
  obtain ⟨z, hz⟩ := Option.isSome_iff_exists.mp (Option.isNone_eq_false_iff.mp hsome)
  exact completes_answerOp (exec_getVersion htakes) hok fun u hu _ _ => ⟨z, hz, by simp [hu, getVersionOp, hz]⟩

theorem completes_describe (htakes : Takes s q r 4) (hvendor : vendorTest s r = false)
    (hok : (describeMsgOp (takenState s q) r).status (takenState s q) = .ok) :
    Completes (.describe q) s (fun t => ∃ d, descOf (takenState s q) (whoOf (takenState s q) r.src) (hIdx r.msg.handle)
      r.msg.index.toNat r.msg.subindex.toNat = some d ∧ t.resp = { status := .ok, payload := d.2 } ∧ t.mem = s.mem) := by
  have hrange : (decide (r.msg.count ≠ 1) || (descOf (takenState s q) (whoOf (takenState s q) r.src) (hIdx r.msg.handle)
      r.msg.index.toNat r.msg.subindex.toNat).isNone) = false :=
    not_applies_of_ok hok (st := .range) (by decide) (by simp)
  obtain ⟨d, hd⟩ := Option.isSome_iff_exists.mp (Option.isNone_eq_false_iff.mp (Bool.or_eq_false_iff.mp hrange).2)
  exact completes_answerOp (exec_describe htakes hvendor) hok fun u hu _ hmem =>
    ⟨d, hd, by simp [hu, describeMsgOp, hd], hmem.trans (takenState_mem s q)⟩

/-- A write that neither starts a region reset nor waits for requests under way is answered at once. -/
theorem writeReq_plain {u : State} (hreset : isRegionReset r.msg.index.toNat r.msg.subindex.toNat = false)
    (hfree : gateBusy u (windowKeys r.msg) = false) : writeReq u r = answerOp u r (writeMsgOp u r) := by
  simp [writeReq, hreset, hfree]

end Passed

theorem requestsServed : Claims.RequestsServed := by
  intro s q r
  refine ⟨exec_getVersion, exec_read, exec_write, exec_describe, exec_list, fun htakes hvendor hok => ?readTimeout,
    fun htakes hvendor hok => ?writeTimeout, completes_getVersion, fun htakes hok => ?listed, completes_describe,
    fun htakes hvendor hok hreset hfree => ?written⟩
  case readTimeout =>
    have hexec := exec_unitAnswerTimeout_read htakes hvendor hok
    exact ⟨hexec, _, hexec, by simp, by simp, by simp⟩
  case writeTimeout =>
    have hexec := exec_unitAnswerTimeout_write htakes hvendor hok
    exact ⟨hexec, _, hexec, by simp⟩
  case listed =>
    exact completes_answerOp (exec_list htakes) hok fun u hu hdict hmem =>
      ⟨hu, hdict.trans (takenState_dict s q), hmem.trans (takenState_mem s q)⟩
  case written =>
    have hexec := exec_write htakes hvendor
    rw [writeReq_plain hreset hfree] at hexec
    exact completes_answerOp hexec hok fun u hu _ _ => hu

/-- Settles O9: a request that Glen takes is answered by its operation on the state without it. -/
theorem dictionaryRequests : Obligations.DictionaryRequests := ⟨requestsServed, readAllOrNone, requestsQueued⟩

end Sys2Proof.Machine
end

section
/-! Proofs of the statement about the SPDM responder, sessions, datagrams and the PF0 mailbox (R53-R61, R412, R417). -/

namespace Sys2Proof.Machine

/-! ### Steps of the SPDM responder (R54) -/

@[simp] theorem connOf_setConn_same (s : State) (c : Nat) (x : Conn) : connOf (setConn s c x) c = x := tgetD_tset_same _ _ _ _

@[simp] theorem connOf_spdmAnswer_same (s : State) (c code : Nat) (content : List Byte) (f : Conn → Conn) :
    connOf (spdmAnswer s c code content f) c = { f (connOf s c) with answer := BitVec.ofNat 8 code :: content, refused := .ok } :=
  connOf_setConn_same _ _ _

theorem spdmStep_due {s : State} {due : Bool} (hs : spdmServes s = true) (hdue : due = true) (c : Nat) (f : State → State) :
    spdmStep s due c f = f s := by
  simp [spdmStep, hs, hdue]

theorem spdmRandom_serves {s : State} (htrng : trngServes s = true) (c : Nat) (f : State → State) : spdmRandom s c f = f s :=
  if_pos htrng

theorem spdmRandom_waits {s : State} (htrng : trngServes s = false) (c : Nat) (f : State → State) :
    spdmRandom s c f = spdmRefuse s c .notReady := by
  simp [spdmRandom, htrng]

theorem exec_spdmGetVersion {s : State} (hs : spdmServes s = true) (c : Nat) : exec (.spdmGetVersion c) s = .next (spdmAnswer s c 0x04
    spdmVersions (fun x => { x with version := true, capabilities := false, algorithms := false, pending := none })) :=
  congrArg Host.Outcome.next (spdmStep_due hs rfl _ _)

theorem exec_getCapabilities {s : State} {c : Nat} (hs : spdmServes s = true) (hversion : (connOf s c).version = true) :
    exec (.getCapabilities c) s =
      .next (spdmAnswer s c 0x61 spdmCaps (fun x => { x with capabilities := true, algorithms := false })) :=
  congrArg Host.Outcome.next (spdmStep_due hs hversion _ _)

theorem exec_negotiateAlgorithms {s : State} {c : Nat} (hs : spdmServes s = true) (hcaps : (connOf s c).capabilities = true) :
    exec (.negotiateAlgorithms c true true true true) s =
      .next (spdmAnswer s c 0x63 spdmAlgs (fun x => { x with algorithms := true })) :=
  congrArg Host.Outcome.next (spdmStep_due hs hcaps _ _)

section Established

variable {s : State} {c : Nat} (hs : spdmServes s = true) (hready : (connOf s c).algorithms = true)
include hs hready

theorem exec_getDigests : exec (.getDigests c) s =
    .next (spdmAnswer s c 0x01 ([0x03] ++ Config.sha384 (chainOf s 0) ++ Config.sha384 (chainOf s 1)) id) :=
  congrArg Host.Outcome.next (spdmStep_due hs hready _ _)

theorem exec_getCertificate {slot : U8} (hslot : slot.toNat ≤ 1) (offset len : U16) : exec (.getCertificate c slot offset len) s =
    .next (spdmAnswer s c 0x02 (certPortion s slot.toNat offset.toNat len.toNat) id) :=
  congrArg Host.Outcome.next ((spdmStep_due hs hready _ _).trans (if_neg (Nat.not_lt.mpr hslot)))

/-- A signed answer draws the nonce and the signature: beside the connection it changes the counter of random draws alone. -/
theorem exec_challenge_serves {slot : U8} (hslot : slot.toNat ≤ 1) (htrng : trngServes s = true) (nonce : List Byte) :
    ∃ content, exec (.challenge c slot nonce) s = .next (spdmAnswer { s with free := s.free + 1 + 1 } c 0x03 content id) := by
  refine ⟨(spdmSigned s slot.toNat nonce (beBytes 1 slot.toNat ++ [0x03] ++ Config.sha384 (chainOf s slot.toNat))).1, ?_⟩
  show execChallenge c slot nonce s = _
  simp only [execChallenge, spdmStep_due hs (show ready s c = true from hready), Nat.not_lt.mpr hslot, if_false, spdmRandom_serves htrng]
  rfl

theorem exec_challenge_waits {slot : U8} (hslot : slot.toNat ≤ 1) (htrng : trngServes s = false) (nonce : List Byte) :
    exec (.challenge c slot nonce) s = .next (spdmRefuse s c .notReady) := by
  show execChallenge c slot nonce s = _
  simp only [execChallenge, spdmStep_due hs (show ready s c = true from hready), Nat.not_lt.mpr hslot, if_false, spdmRandom_waits htrng]

theorem exec_getMeasurements_plain {index : U8} {ks : List Nat} (hasked : measAsked index.toNat = some ks) :
    exec (.getMeasurements c index false) s = .next (spdmAnswer s c 0x60 (measContent s index.toNat ks) id) := by
  show execGetMeasurements c index false s = _
  simp [execGetMeasurements, spdmStep_due hs (show ready s c = true from hready), hasked]

theorem exec_getMeasurements_signed {index : U8} {ks : List Nat} (hasked : measAsked index.toNat = some ks)
    (htrng : trngServes s = true) : ∃ content, exec (.getMeasurements c index true) s =
      .next (spdmAnswer { s with free := s.free + 1 + 1 } c 0x60 content id) := by
  refine ⟨(spdmSigned s 1 [index] (measContent s index.toNat ks)).1, ?_⟩
  show execGetMeasurements c index true s = _
  simp only [execGetMeasurements, spdmStep_due hs (show ready s c = true from hready), hasked, if_true, spdmRandom_serves htrng]
  rfl

end Established

theorem spdmAnswers : Claims.SpdmAnswers := by
  refine ⟨fun c s hs => exec_spdmGetVersion hs c, fun c s hs hversion => exec_getCapabilities hs hversion,
    fun c s hs hcaps => exec_negotiateAlgorithms hs hcaps, fun c s hs hready => ⟨exec_getDigests hs hready,
      fun slot offset len hslot => exec_getCertificate hs hready hslot offset len, fun slot nonce hslot htrng => ?challenged,
      fun index ks hasked => exec_getMeasurements_plain hs hready hasked, fun slot nonce hslot htrng => ?refused,
      fun index ks hasked htrng => ?measured⟩⟩
  case challenged =>
    obtain ⟨content, hexec⟩ := exec_challenge_serves hs hready hslot htrng nonce
    exact ⟨_, hexec, by simp, by simp, rfl, rfl, rfl⟩
  case refused => exact exec_challenge_waits hs hready hslot htrng nonce
  case measured =>
    obtain ⟨content, hexec⟩ := exec_getMeasurements_signed hs hready hasked htrng
    exact ⟨_, hexec, by simp, by simp, rfl, rfl⟩

/-! ### KEY_EXCHANGE and FINISH (R53, R56, R57) -/

theorem exec_keyExchange {s : State} {c : Nat} (hs : spdmServes s = true) (hready : (connOf s c).algorithms = true) (t : Transport)
    (root : List Byte) (m : Bool) : exec (.keyExchange c t root m) s = .next (keyExchangeAct s c t root m) :=
  congrArg Host.Outcome.next (spdmStep_due hs hready _ _)

section KeyExchange

variable {s : State} {c : Nat} {t : Transport} {root : List Byte}

theorem keyExchangeAct_unknown (hrole : roleFor s root = none) (m : Bool) :
    keyExchangeAct s c t root m = spdmRefuse s c .access := by
  simp [keyExchangeAct, hrole]

theorem keyExchangeAct_forbidden {r : Role} {h : Handle} (hrole : roleFor s root = some (r, h)) {m : Bool}
    (hbar : mayUse r t = false ∨ m = false) : keyExchangeAct s c t root m = spdmRefuse s c .access := by
  have hcond : (!m || !mayUse r t) = true := by
    rcases hbar with huse | hm
    · simp [huse]
    · simp [hm]
  simp [keyExchangeAct, hrole, hcond]

section Allowed

variable {r : Role} {h : Handle} (hrole : roleFor s root = some (r, h)) (huse : mayUse r t = true) (hnone : (connOf s c).pending = none)
include hrole huse hnone

theorem keyExchangeAct_limit (hfull : sessLimit r ≤ sessCount s r) : keyExchangeAct s c t root true = spdmRefuse s c .busy := by
  simp [keyExchangeAct, hrole, huse, hnone, hfull]

theorem keyExchangeAct_accepted (hroom : sessCount s r < sessLimit r) (htrng : trngServes s = true) :
    ∃ content, keyExchangeAct s c t root true =
      spdmAnswer { s with free := s.free + 1 + 1 } c 0x64 content (fun x => { x with pending := some (r, h, t) }) := by
  refine ⟨(spdmSigned s 1 root []).1, ?_⟩
  simp only [keyExchangeAct, hrole, huse, hnone, Nat.sub_zero, Nat.not_le.mpr hroom, Bool.not_true, Bool.or_self, Bool.false_eq_true,
    if_false, spdmRandom_serves htrng]
  rfl

end Allowed

end KeyExchange

/-- A session stands under the next number. -/
theorem openSession_ok {s : State} {c : Nat} {r : Role} {h : Handle} {t : Transport}
    (hpending : (connOf s c).pending = some (r, h, t)) : openSession s c true = spdmAnswer
      { s with idien := { s.idien with
          sessions := tset s.idien.sessions s.idien.nextSession { role := r, bound := h, transport := t }
          nextSession := s.idien.nextSession + 1 } } c 0x65 [] (fun x => { x with pending := none }) := by
  simp [openSession, hpending, setSession]

theorem exec_finish {s : State} {c : Nat} (hs : spdmServes s = true) (hready : (connOf s c).algorithms = true) (ok : Bool) :
    exec (.finish c ok) s = .next (openSession s c ok) :=
  congrArg Host.Outcome.next (spdmStep_due hs hready _ _)

/-! ### Messages in a session and its end (R54, R56) -/

theorem inSession_stands {s : State} {n : Nat} {x : Session} (hs : spdmServes s = true) (hx : tget s.idien.sessions n = some x)
    (hn : n ≠ 0) (f : Session → State) : inSession s n f = f x := by
  simp [inSession, hs, hx, hn]

/-- A table that is kept but for one number does not list that number. -/
theorem tget_tfilter_ne {α : Type} (t : Tab α) (k : Nat) : tget (tfilter t (fun n _ => decide (n ≠ k))) k = none := by
  induction t with
  | nil => rfl
  | cons p t ih =>
    obtain ⟨j, x⟩ := p
    by_cases h : j = k
    · simpa [tfilter, h] using ih
    · simpa [tfilter, tget, h] using ih

/-- The end of a session keeps a queued request where `reqKept` does, in the queues of the roles. -/
theorem queueAt_endOne (s : State) (n : Nat) {q : GlenQueue} (hq : q ≠ .u) :
    queueAt (endOne s n) q = (queueAt s q).filter (reqKept s.idien.sessions (fun j _ => decide (j ≠ n))) := by
  cases q with
  | u => exact absurd rfl hq
  | _ => rfl

theorem not_reqKept_ended {t : Tab Session} {n : Nat} {x : Session} (hx : tget t n = some x) {r : Req} (hr : r.src = .session n) :
    reqKept t (fun j _ => decide (j ≠ n)) r = false := by
  simp [reqKept, hr, hx]

/-- No request of an ended session waits in a queue of the roles. -/
theorem src_ne_of_mem_queueAt_endOne {s : State} {n : Nat} {x : Session} (hx : tget s.idien.sessions n = some x) {q : GlenQueue}
    (hq : q ≠ .u) {r : Req} (hr : r ∈ queueAt (endOne s n) q) : r.src ≠ .session n := by
  rw [queueAt_endOne s n hq] at hr
  exact fun hsrc => Bool.false_ne_true ((not_reqKept_ended hx hsrc).symm.trans (List.mem_filter.mp hr).2)

section InSession

variable {s : State} {n : Nat} {x : Session} (hs : spdmServes s = true) (hx : tget s.idien.sessions n = some x) (hn : n ≠ 0)
include hs hx hn

theorem exec_heartbeat : exec (.heartbeat n) s = .next (setSpdm s 0x68) := congrArg Host.Outcome.next (inSession_stands hs hx hn _)

theorem exec_keyUpdate : exec (.keyUpdate n) s = .next (setSpdm (setSession s n { x with keyGen := x.keyGen + 1 }) 0x69) :=
  congrArg Host.Outcome.next (inSession_stands hs hx hn _)

theorem exec_endSession : exec (.endSession n) s = .next (setSpdm (endOne s n) 0x6C) :=
  congrArg Host.Outcome.next (inSession_stands hs hx hn _)

theorem exec_sessionIdleTimeout : exec (.sessionIdleTimeout n) s = .next (endOne s n) :=
  congrArg Host.Outcome.next (inSession_stands hs hx hn _)

end InSession

@[simp] theorem queueAt_setSpdm (s : State) (code : Nat) (q : GlenQueue) : queueAt (setSpdm s code) q = queueAt s q := by
  cases q <;> rfl

theorem sessionLife : Claims.SessionLife := by
  refine ⟨fun c t root s r h hs hready hrole huse hnone hroom htrng => ?accepted, fun c t root m s hs hready hbar => ?access,
    fun c t root s r h hs hready hrole huse hnone hfull => ?busy, fun c s r h t hs hready hpending => ?finished,
    fun n x s hs hx hn => ⟨exec_heartbeat hs hx hn, ⟨_, exec_keyUpdate hs hx hn, tget_tset_same _ _ _, rfl⟩, ?ended⟩⟩
  case accepted =>
    obtain ⟨content, hact⟩ := keyExchangeAct_accepted (c := c) hrole huse hnone hroom htrng
    exact ⟨_, (exec_keyExchange hs hready t root true).trans (congrArg Host.Outcome.next hact), by simp, by simp, rfl, rfl⟩
  case access =>
    rw [exec_keyExchange hs hready]
    rcases hbar with hunknown | ⟨r, h, hrole, hforbidden⟩
    · rw [keyExchangeAct_unknown hunknown]
    · rw [keyExchangeAct_forbidden hrole hforbidden]
  case busy => rw [exec_keyExchange hs hready, keyExchangeAct_limit hrole huse hnone hfull]
  case finished =>
    have hexec := exec_finish hs hready true
    rw [openSession_ok hpending] at hexec
    exact ⟨_, hexec, tget_tset_same _ _ _, rfl, by simp, rfl, rfl⟩
  case ended =>
    rintro c (rfl | rfl)
    · refine ⟨_, exec_endSession hs hx hn, tget_tfilter_ne _ _, fun q hq r hr => ?_, rfl, rfl⟩
      exact src_ne_of_mem_queueAt_endOne hx hq (queueAt_setSpdm (endOne s n) 0x6C q ▸ hr)
    · exact ⟨_, exec_sessionIdleTimeout hs hx hn, tget_tfilter_ne _ _, fun q hq r hr => src_ne_of_mem_queueAt_endOne hx hq hr, rfl, rfl⟩

/-! ### The MGMT port and MCTP (R58, R59) -/

/-- A datagram for another address is not the port's. -/
theorem exec_mgmtDatagram_elsewhere {s : State} {d : Datagram} (htakes : mgmtTakes s d.dst = false) (valid : Bool) :
    exec (.mgmtDatagram d valid) s = .next s := by
  show execMgmtDatagram d valid s = _
  simp [execMgmtDatagram, htakes]

section Datagrams

variable {s : State} {dst : MgmtAddr} {len : Nat} {msg : Option (Nat × IdienMsg)} (hs : glenServes s = true)
  (htakes : mgmtTakes s dst = true)
include hs htakes

theorem exec_mgmtDatagram_message {x : Nat × IdienMsg} (hlen : len ≤ 1068) (hcarries : mgmtCarries s (some x) = true) :
    exec (.mgmtDatagram ⟨dst, len, some x⟩ true) s = .next (enqueueReq
      { s with idien := { s.idien with secured := s.idien.secured + 1 } } { src := .session x.1, msg := x.2 }) := by
  show execMgmtDatagram _ _ s = _
  simp [execMgmtDatagram, hs, htakes, hlen, hcarries]

theorem exec_mgmtDatagram_spdm (hlen : len ≤ 1068) : exec (.mgmtDatagram ⟨dst, len, none⟩ true) s =
    .next { s with idien := { s.idien with secured := s.idien.secured + 1 } } := by
  show execMgmtDatagram _ _ s = _
  simp [execMgmtDatagram, hs, htakes, hlen, mgmtCarries]

/-- A datagram for the port that is no secured message of its is dropped and counted. -/
theorem exec_mgmtDatagram_dropped {valid : Bool} (hbad : ¬ (valid = true ∧ len ≤ 1068 ∧ mgmtCarries s msg = true)) :
    exec (.mgmtDatagram ⟨dst, len, msg⟩ valid) s = .next (count s (okey 0x1102 4)) := by
  have hcond : (valid && decide (len ≤ 1068) && mgmtCarries s msg) = false := by
    rw [← Bool.not_eq_true]
    simpa [and_assoc] using hbad
  show execMgmtDatagram _ _ s = _
  simp only [execMgmtDatagram, hs, htakes, hcond, Bool.not_true, Bool.or_self, Bool.false_eq_true, if_false]

end Datagrams

theorem exec_setEndpointId {s : State} {eid : U8} (hs : glenServes s = true) (hperiph : periphOn s 1 = true) (hzero : eid ≠ 0)
    (hones : eid ≠ 0xFF) : exec (.setEndpointId eid) s = .next { s with idien := { s.idien with eid := eid } } :=
  congrArg Host.Outcome.next (if_pos ⟨hs, hperiph, hzero, hones⟩)

theorem exec_getVendorDefinedMessageSupport {s : State} (hs : glenServes s = true) (hperiph : periphOn s 1 = true) :
    exec .getVendorDefinedMessageSupport s = .next { s with idien := { s.idien with
      vdmAnswer := [0, 0xFF, 1] ++ beBytes 4 Config.vendorIana.toNat ++ [0, 0] } } :=
  congrArg Host.Outcome.next (if_pos ⟨hs, hperiph⟩)

/-! ### The PF0 mailbox (R60, R61) -/

/-- A command of PF0's host acts while the function serves. -/
theorem next_of_fnServes {s : State} (hfn : fnServes s 0 = true) (t : State) :
    (Host.Outcome.next (if fnServes s 0 then t else s) : Out) = .next t := by
  rw [if_pos hfn]

section Mailbox

variable {s : State} (hfn : fnServes s 0 = true)
include hfn

theorem exec_mbGo : exec .mbGo s = .next (mbGoAct s) := next_of_fnServes hfn _
theorem exec_mbDoneClear : exec .mbDoneClear s = .next (mbDoneAct s) := next_of_fnServes hfn _
theorem exec_mbBufferWrite (off : Nat) (b : Byte) : exec (.mbBufferWrite off b) s = .next (mbByteAct s off b) := next_of_fnServes hfn _

end Mailbox

theorem mbGoAct_under_way {s : State} (hgo : s.idien.pf0.go = true) : mbGoAct s = s := by
  simp [mbGoAct, hgo]

theorem mbGoAct_valid {s : State} (hgo : s.idien.pf0.go = false) (hlow : 20 ≤ s.idien.pf0.reqLen) (hhigh : s.idien.pf0.reqLen ≤ 1280) :
    mbGoAct s = setPf0 s { s.idien.pf0 with go := true } := by
  simp [mbGoAct, hgo, Nat.not_lt.mpr hlow, Nat.not_lt.mpr hhigh]

/-- A bad length is answered with RANGE at once. -/
theorem pf0_mbGoAct_invalid {s : State} (hgo : s.idien.pf0.go = false)
    (hbad : s.idien.pf0.reqLen < 20 ∨ 1280 < s.idien.pf0.reqLen) :
    (mbGoAct s).idien.pf0 = { s.idien.pf0 with done := true, respLen := 0x02000000 } := by
  simp only [mbGoAct, hgo, hbad, Bool.false_eq_true, if_false, if_true]
  split
  · rw [raiseVector_idien]
    rfl
  · rfl

theorem mbDoneAct_empty {s : State} (hdone : s.idien.pf0.done = true) (hheld : s.idien.pf0.held = []) :
    mbDoneAct s = setPf0 s { s.idien.pf0 with done := false } := by
  simp [mbDoneAct, hdone, hheld]

theorem mbDoneAct_held {s : State} {bs : List Byte} {l : List (List Byte)} (hdone : s.idien.pf0.done = true)
    (hheld : s.idien.pf0.held = bs :: l) :
    mbDoneAct s = mbFill (setPf0 s { s.idien.pf0 with done := false, held := l }) bs := by
  simp [mbDoneAct, hdone, hheld]

section Buffer

variable {s : State} {off : Nat} (hlow : 0x100 ≤ off) (hhigh : off < 0x600) (b : Byte)
include hlow hhigh

theorem mbByteAct_overrun (hgo : s.idien.pf0.go = true) : mbByteAct s off b = setPf0 s { s.idien.pf0 with overrun := true } := by
  have hctrl : off ≠ 3 := by omega
  simp [mbByteAct, hctrl, hlow, hhigh, hgo]

/-- The request buffer is written as memory is. -/
theorem mbByteAct_buffer (hgo : s.idien.pf0.go = false) : mbByteAct s off b =
    setPf0 s { s.idien.pf0 with reqBuf := memWrite s.idien.pf0.reqBuf (off - 0x100) b } := by
  have hgo' : ¬ s.idien.pf0.go = true := by simp [hgo]
  unfold mbByteAct
  dsimp only
  rw [if_neg (show off ≠ 3 by omega), if_pos (Or.inr ⟨hlow, hhigh⟩), if_neg hgo', if_neg (show off ≠ 0 by omega),
    if_neg (show off ≠ 1 by omega)]
  rfl

end Buffer

/-! ### Glen takes the mailbox's request (R60) -/

@[simp] theorem setQueue_pf0 (s : State) (q : GlenQueue) (l : List Req) : (setQueue s q l).idien.pf0 = s.idien.pf0 := by
  cases q <;> rfl

@[simp] theorem refuseBusy_go (s : State) (r : Req) : (refuseBusy s r).idien.pf0.go = s.idien.pf0.go := by
  unfold refuseBusy
  dsimp only
  rw [answerReq_go]
  split <;> rfl

@[simp] theorem enqueueReq_go (s : State) (r : Req) : (enqueueReq s r).idien.pf0.go = s.idien.pf0.go := by
  unfold enqueueReq
  split
  · rfl
  · split
    · rfl
    · split
      · rw [sendResp_go]
      · dsimp only
        split
        · rw [refuseBusy_go]
        · rw [setQueue_pf0]

@[simp] theorem mbMessage_go (s : State) (src : ReqSource) (bs : List Byte) : (mbMessage s src bs).idien.pf0.go = s.idien.pf0.go := by
  unfold mbMessage
  dsimp only
  split
  · rfl
  · split
    · split
      · rw [answerReq_go]
      · rfl
    · rw [enqueueReq_go]

/-- GO reads 0 once Glen has taken the request, whatever becomes of its message. -/
theorem mbTakeAct_go (s : State) : (mbTakeAct s).idien.pf0.go = false := by
  unfold mbTakeAct
  dsimp only
  split
  · rw [mbMessage_go]
    rfl
  · split
    · split
      · rw [mbMessage_go]
        rfl
      · rfl
    · rfl

theorem exec_mbRequestTaken {s : State} (hs : glenServes s = true) (hgo : s.idien.pf0.go = true) :
    exec .mbRequestTaken s = .next (mbTakeAct s) :=
  congrArg Host.Outcome.next (if_pos ⟨hgo, hs⟩)

theorem transportsAndMailbox : Claims.TransportsAndMailbox := by
  refine ⟨fun dst len valid msg s hs htakes => ⟨?secured, fun hbad => exec_mgmtDatagram_dropped hs htakes hbad⟩,
    fun dst len valid msg s htakes => exec_mgmtDatagram_elsewhere htakes valid,
    fun eid s hs hperiph hzero hones => exec_setEndpointId hs hperiph hzero hones,
    fun s hs hperiph => ⟨_, exec_getVendorDefinedMessageSupport hs hperiph, rfl, rfl, rfl⟩,
    fun s hfn hgo => ⟨fun hlow hhigh => ?valid, fun hbad => ?range⟩, fun s hfn hgo => ?twice,
    fun off b s hfn hlow hhigh => ⟨fun hgo => ?overrun, fun hgo => ?buffer⟩, fun s hfn hdone hheld => ?cleared,
    fun s bs l hfn hdone hheld => ?held, fun s hs hgo => ⟨exec_mbRequestTaken hs hgo, _, exec_mbRequestTaken hs hgo, mbTakeAct_go s⟩⟩
  case secured =>
    rintro rfl hlen hcarries
    refine ⟨?_, ?_⟩
    · rintro x rfl
      exact exec_mgmtDatagram_message hs htakes hlen hcarries
    · rintro rfl
      exact exec_mgmtDatagram_spdm hs htakes hlen
  case valid => rw [exec_mbGo hfn, mbGoAct_valid hgo hlow hhigh]
  case range =>
    have hpf0 := pf0_mbGoAct_invalid hgo hbad
    exact ⟨_, exec_mbGo hfn, congrArg Pf0Mb.done hpf0, congrArg Pf0Mb.respLen hpf0, (congrArg Pf0Mb.go hpf0).trans hgo⟩
  case twice => rw [exec_mbGo hfn, mbGoAct_under_way hgo]
  case overrun => rw [exec_mbBufferWrite hfn, mbByteAct_overrun hlow hhigh b hgo]
  case buffer =>
    have hexec := exec_mbBufferWrite hfn off b
    rw [mbByteAct_buffer hlow hhigh b hgo] at hexec
    exact ⟨_, hexec, memRead_memWrite_same _ _ _, fun k hk => memRead_memWrite_other _ _ _ _ hk, rfl, rfl⟩
  case cleared => rw [exec_mbDoneClear hfn, mbDoneAct_empty hdone hheld]
  case held =>
    have hexec := exec_mbDoneClear hfn
    rw [mbDoneAct_held hdone hheld, mbFill_eq] at hexec
    exact ⟨_, hexec, rfl, rfl, rfl⟩

/-- Settles O10: each row's answer is its act on a serving responder, port or mailbox. -/
theorem managementTransports : Obligations.ManagementTransports := ⟨spdmAnswers, sessionLife, transportsAndMailbox⟩

end Sys2Proof.Machine
end

section
/-! SUPPORT. Cores and threads: read after write, what a thread that is set leaves alone; how an instruction issues (R106, R505), and
instructions whose only effect is on their own thread. -/

namespace Sys2Proof.Machine

/-! ### Threads of a core -/

/-- The other Vale keeps its value. -/
theorem vale_modVale_ne (s : State) {v w : Vale} (h : w ≠ v) (f : ValeState → ValeState) : (s.modVale v f).vale w = s.vale w := by
  have hw : w = otherVale v := by
    revert h
    cases v <;> cases w <;> simp [otherVale]
  rw [hw, vale_modVale_other]

/-- A core reads back after it is set. -/
@[simp] theorem coreAt_setCore_same (s : State) (v : Vale) (n : Nat) (c : Core) : coreAt (setCore s v n c) v n = c := by
  rw [coreAt, setCore, State.modCol, vale_modVale, coreOf, tgetD_tset_same]

/-- Another core of the Vale, or a core of the other Vale, keeps its value. -/
theorem coreAt_setCore_other (s : State) {v w : Vale} {n m : Nat} (h : ¬ (w = v ∧ m = n)) (c : Core) :
    coreAt (setCore s v n c) w m = coreAt s w m := by
  rw [coreAt, setCore, State.modCol]
  by_cases hv : w = v
  · subst hv
    rw [vale_modVale, coreOf, tgetD_tset_other _ _ _ _ _ (fun hm => h ⟨rfl, hm⟩), ← coreOf, ← coreAt]
  · rw [vale_modVale_ne _ hv, ← coreAt]

@[simp] theorem thrAt_setThr_same (s : State) (th : Thr) (x : Thread) : thrAt (setThr s th x) th = x := by
  rw [thrAt, setThr, modCore, coreAt_setCore_same, threadOf, tgetD_tset_same]

theorem thrAt_setThr_other (s : State) {th u : Thr} (h : u ≠ th) (x : Thread) : thrAt (setThr s th x) u = thrAt s u := by
  rw [thrAt, setThr, modCore]
  by_cases hc : u.v = th.v ∧ u.core.val = th.core.val
  · obtain ⟨hv, hn⟩ := hc
    have ht : u.t.val ≠ th.t.val := fun ht => h (by cases u; cases th; simp_all [Fin.ext_iff])
    rw [hv, hn, coreAt_setCore_same, threadOf, tgetD_tset_other _ _ _ _ _ ht, ← threadOf, ← hv, ← hn, ← thrAt]
  · rw [coreAt_setCore_other s hc, ← thrAt]

/-- A thread that is set leaves the other units of its Vale alone. -/
theorem vale_setThr_col (s : State) (th : Thr) (x : Thread) (v : Vale) :
    (setThr s th x).vale v = { s.vale v with col := ((setThr s th x).vale v).col } := by
  rw [setThr, modCore, setCore, State.modCol]
  by_cases hv : v = th.v
  · rw [hv, vale_modVale]
  · rw [vale_modVale_ne _ hv]

/-- A core keeps its data memory and its state when one of its threads is set. -/
theorem coreAt_setThr_keeps (s : State) (th : Thr) (x : Thread) (v : Vale) (n : Nat) :
    (coreAt (setThr s th x) v n).dmem = (coreAt s v n).dmem ∧ (coreAt (setThr s th x) v n).st = (coreAt s v n).st := by
  rw [setThr, modCore]
  by_cases h : v = th.v ∧ n = th.core.val
  · obtain ⟨rfl, rfl⟩ := h
    rw [coreAt_setCore_same]
    exact ⟨rfl, rfl⟩
  · rw [coreAt_setCore_other s h]
    exact ⟨rfl, rfl⟩

/-- Setting a thread changes that thread and nothing else. -/
theorem onlyThread_setThr (s : State) (th : Thr) (x : Thread) : OnlyThread s (setThr s th x) th := by
  refine ⟨fun u hu => thrAt_setThr_other s hu x, coreAt_setThr_keeps s th x, fun v => ?_, ?_⟩
  · rw [vale_setThr_col]
    exact ⟨rfl, rfl, rfl, rfl⟩
  · unfold setThr modCore setCore State.modCol State.modVale
    cases th.v <;> exact ⟨rfl, rfl, rfl, rfl, rfl, rfl⟩

@[simp] theorem getR_putR_same (x : Thread) (a : BitVec 4) (w : Word36) : getR (putR x a w) a = w := by
  simp [getR, putR]

theorem getR_putR_other (x : Thread) {a r : BitVec 4} (h : r ≠ a) (w : Word36) : getR (putR x a w) r = getR x r := by
  have ha : a.toNat ≠ r.toNat := fun hn => h (BitVec.eq_of_toNat_eq hn.symm)
  simp [getR, putR, ha]

/-! ### Issue (R106, R505) -/

theorem any_fault_iff (fs : List (FaultCode × Bool)) (f : FaultCode) :
    (fs.any (fun c => decide (c.1 = f) && c.2)) = true ↔ (f, true) ∈ fs := by
  simp only [List.any_eq_true, Bool.and_eq_true, decide_eq_true_eq]
  constructor
  · rintro ⟨⟨g, b⟩, hmem, rfl, rfl⟩
    exact hmem
  · exact fun h => ⟨_, h, rfl, rfl⟩

/-- No condition of a fault holds: no fault is taken. -/
theorem firstFault_none {fs : List (FaultCode × Bool)} (hfs : ∀ c ∈ fs, c.2 = false) : firstFault fs = none := by
  rw [firstFault, List.find?_eq_none]
  intro f _ hf
  exact absurd (hfs _ ((any_fault_iff fs f).1 hf)) (by simp)

/-- The fault taken is the one whose condition holds and that no other of them precedes in the order of R505. -/
theorem firstFault_least {fs : List (FaultCode × Bool)} {f : FaultCode} (hf : (f, true) ∈ fs)
    (hleast : ∀ g, (g, true) ∈ fs → faultOrder.idxOf f ≤ faultOrder.idxOf g) (horder : f ∈ faultOrder) :
    firstFault fs = some f := by
  rw [firstFault, List.find?_eq_some_iff_getElem]
  refine ⟨(any_fault_iff fs f).2 hf, faultOrder.idxOf f, List.idxOf_lt_length_of_mem horder, List.getElem_idxOf _, fun j hj => ?_⟩
  have hj' : j < faultOrder.length := Nat.lt_trans hj (List.idxOf_lt_length_of_mem horder)
  have hidx : faultOrder.idxOf faultOrder[j] = j := List.Nodup.idxOf_getElem (by decide) j hj'
  rw [Bool.not_eq_true', ← Bool.not_eq_true, any_fault_iff]
  intro hg
  have := hleast _ hg
  omega

section
variable {th : Thr} {i : Instr} {s : State}

/-- A thread that can issue is past the tests of R106: it fetches the instruction from within instruction memory. -/
theorem fetches_of_canIssue (h : CanIssue th i s) :
    ((thrAt s th).st = .running ∧ ladderRuns s = true ∧ fetches s th i = true) ∧ decide (16384 ≤ (thrAt s th).pc) = false := by
  obtain ⟨hrunning, hladder, hpc, hword⟩ := h
  exact ⟨⟨hrunning, hladder, by simp [fetches, hword]⟩, by simpa using hpc⟩

theorem issue_runs (h : CanIssue th i s) {fs : List (FaultCode × Bool)} (hfs : ∀ c ∈ fs, c.2 = false) (dt : FaultCode → Nat)
    (body : State) : issue s th i fs dt body = body := by
  obtain ⟨hissues, hrange⟩ := fetches_of_canIssue h
  have hnone : firstFault ((.imemRange, false) :: fs) = none := firstFault_none (by simpa using hfs)
  simp only [issue, if_pos hissues, hrange, hnone]

theorem issue_first_fault (h : CanIssue th i s) {fs : List (FaultCode × Bool)} {f : FaultCode} (hf : (f, true) ∈ fs)
    (hleast : ∀ g, (g, true) ∈ fs → faultOrder.idxOf f ≤ faultOrder.idxOf g) (horder : f ∈ faultOrder) (dt : FaultCode → Nat)
    (body : State) : issue s th i fs dt body = colFault s th f (dt f) := by
  obtain ⟨hissues, hrange⟩ := fetches_of_canIssue h
  have hfirst : firstFault ((.imemRange, false) :: fs) = some f :=
    firstFault_least (List.mem_cons_of_mem _ hf) (fun g hg => hleast g (by simpa using hg)) horder
  simp only [issue, if_pos hissues, hrange, hfirst]

end

/-- An instruction whose only effect is `g` on its own thread, none of its faults applying. -/
theorem runs_of_exec {c : Thr → Instr} {fs : List (FaultCode × Bool)} {dt : FaultCode → Nat} {f g : Thread → Thread}
    (hexec : ∀ th s, exec (c th) s = .next (issue s th (c th) fs dt (modThr s th g))) (hfs : ∀ x ∈ fs, x.2 = false)
    (hfg : ∀ x, g x = f x) : Runs c f := by
  intro th s h
  refine ⟨modThr s th g, ?_, ?_, onlyThread_setThr _ _ _⟩
  · rw [hexec, issue_runs h hfs]
  · rw [modThr, thrAt_setThr_same, hfg]

/-- The same for an instruction without faults of its own. -/
theorem runs_of_exec_plain {c : Thr → Instr} {dt : FaultCode → Nat} {f g : Thread → Thread}
    (hexec : ∀ th s, exec (c th) s = .next (issue s th (c th) [] dt (modThr s th g))) (hfg : ∀ x, g x = f x) : Runs c f :=
  runs_of_exec hexec (List.forall_mem_nil _) hfg

end Sys2Proof.Machine
end

section
/-! Proofs of the statements about the Col instructions of one thread: register and immediate forms, bit fields, branches and jumps
(R132-R136, R139), and the supervisor instructions in a packet thread (R141). -/

namespace Sys2Proof.Machine

/-! ### Arithmetic, shifts and moves (R132, R135) -/

/-- A sum overflows when its operands have one sign and it has the other. -/
theorem overflows_add (p q : Word36) : (decide (p.msb = q.msb) && decide ((p + q).msb ≠ p.msb)) = overflows (p.toInt + q.toInt) := by
  have hlib := BitVec.saddOverflow_eq p q
  rw [BitVec.saddOverflow, Bool.or_comm] at hlib
  rw [overflows]
  refine Eq.trans ?_ hlib.symm
  cases p.msb <;> cases q.msb <;> cases (p + q).msb <;> rfl

/-- A difference overflows when its operands differ in sign and it differs from the first. -/
theorem overflows_sub (p q : Word36) : (decide (p.msb ≠ q.msb) && decide ((p - q).msb ≠ p.msb)) = overflows (p.toInt - q.toInt) := by
  have hlib := BitVec.ssubOverflow_eq p q
  rw [BitVec.ssubOverflow, Bool.or_comm] at hlib
  rw [overflows]
  refine Eq.trans ?_ hlib.symm
  cases p.msb <;> cases q.msb <;> cases (p - q).msb <;> rfl

theorem stepPc_addFlags (a : BitVec 4) (p q : Thread → Word36) (x : Thread) :
    stepPc (addFlags (p x) (q x) (putR x a (p x + q x))) = withSum a p q x := by
  simp only [addFlags, overflows_add]
  rfl

theorem stepPc_subFlags (p q : Thread → Word36) (x : Thread) : stepPc (subFlags (p x) (q x) x) = withDiff p q x := by
  have hz : decide (p x - q x = 0) = decide (p x = q x) :=
    decide_eq_decide.2 (BitVec.sub_eq_iff_eq_add.trans (by rw [BitVec.ofNat_eq_ofNat, BitVec.zero_add]))
  simp only [subFlags, overflows_sub, hz]
  rfl

/-- The flags of a difference do not read the registers. -/
theorem stepPc_subFlags_putR (a : BitVec 4) (w : Word36) (p q : Thread → Word36) (x : Thread) :
    stepPc (subFlags (p x) (q x) (putR x a w)) = { withDiff p q x with regs := (putR x a w).regs } := by
  rw [← stepPc_subFlags]
  rfl

theorem stepPc_resultZn (a : BitVec 4) {w : Word36} {r : Thread → Word36} {x : Thread} (h : w = r x) :
    stepPc (resultZn a w x) = withZn a r x := by
  rw [h]
  rfl

theorem stepPc_znFlags (a : BitVec 4) {w : Word36} {r : Thread → Word36} {x : Thread} (h : w = r x) :
    stepPc (znFlags w x) = { withZn a r x with regs := x.regs } := by
  rw [h]
  rfl

theorem stepPc_putR (a : BitVec 4) {w r : Word36} {x : Thread} (h : w = r) :
    stepPc (putR x a w) = { putR x a r with pc := x.pc + 1 } := by
  rw [h]
  rfl

theorem shl36_eq_shiftL (w : Word36) (k : Nat) : shl36 w k = shiftL w k := by
  have hshift : w <<< k = shiftL w k := by
    apply BitVec.eq_of_toNat_eq
    rw [BitVec.toNat_shiftLeft, shiftL, BitVec.toNat_ofNat, Nat.shiftLeft_eq]
  rw [shl36, ← hshift]
  split
  · next hk => exact (BitVec.shiftLeft_eq_zero hk).symm
  · rfl

theorem shr36_eq_shiftR (w : Word36) (k : Nat) : shr36 w k = shiftR w k := by
  have hshift : w >>> k = shiftR w k := by
    apply BitVec.eq_of_toNat_eq
    rw [BitVec.toNat_ushiftRight, shiftR, BitVec.toNat_ofNat, Nat.shiftRight_eq_div_pow,
      Nat.mod_eq_of_lt (Nat.lt_of_le_of_lt (Nat.div_le_self _ _) w.isLt)]
  rw [shr36, ← hshift]
  split
  · next hk => exact (BitVec.ushiftRight_eq_zero hk).symm
  · rfl

/-- From 36 on every arithmetic right shift leaves the sign alone. -/
theorem toInt_div_two_pow_of_le (w : Word36) {k : Nat} (hk : 36 ≤ k) : w.toInt / 2 ^ k = if w.toInt < 0 then -1 else 0 := by
  have hpow : (2 : Int) ^ 36 ≤ 2 ^ k := by
    have hcast := Int.ofNat_le.2 (Nat.pow_le_pow_right (n := 2) (by decide) hk)
    rwa [Int.natCast_pow, Int.natCast_pow] at hcast
  have hlow : -2 ^ 35 ≤ w.toInt := BitVec.le_toInt w
  have hhigh : w.toInt < 2 ^ 35 := BitVec.toInt_lt
  split
  · next hneg => exact Int.ediv_eq_neg_one_of_neg_of_le hneg (by omega)
  · exact Int.ediv_eq_zero_of_lt (by omega) (by omega)

theorem sar36_eq_shiftA (w : Word36) (k : Nat) : sar36 w k = shiftA w k := by
  have hshift (n : Nat) : w.sshiftRight n = shiftA w n := by
    rw [BitVec.sshiftRight, shiftA, Int.shiftRight_eq_div_pow, Int.natCast_pow]
    rfl
  rw [sar36, hshift]
  split
  · next hk => rw [shiftA, shiftA, toInt_div_two_pow_of_le w (Nat.le_refl 36), toInt_div_two_pow_of_le w hk]
  · rfl

theorem ite_le_eq_min (p q : Word36) : (if p ≤ q then p else q) = BitVec.ofNat 36 (min p.toNat q.toNat) := by
  rw [Nat.min_def, apply_ite (BitVec.ofNat 36), BitVec.ofNat_toNat, BitVec.ofNat_toNat, BitVec.setWidth_eq, BitVec.setWidth_eq]
  rfl

theorem ite_le_eq_max (p q : Word36) : (if p ≤ q then q else p) = BitVec.ofNat 36 (max p.toNat q.toNat) := by
  rw [Nat.max_def, apply_ite (BitVec.ofNat 36), BitVec.ofNat_toNat, BitVec.ofNat_toNat, BitVec.setWidth_eq, BitVec.setWidth_eq]
  rfl

theorem mul_eq_ofNat (p q : Word36) : p * q = BitVec.ofNat 36 (p.toNat * q.toNat) := by
  rw [BitVec.ofNat_mul, BitVec.ofNat_toNat, BitVec.ofNat_toNat, BitVec.setWidth_eq, BitVec.setWidth_eq]

/-- Settles O14: each form changes its own thread alone, by its result and the flags of R132. -/
theorem registerInstructions : Obligations.RegisterInstructions := by
  intro a b c
  refine ⟨?add, ?sub, ?and, ?or, ?xor, ?shl, ?shr, ?sar, ?minu, ?maxu, ?cmp, ?tst, ?mul, ?mov⟩
  case add => exact runs_of_exec_plain (fun _ _ => rfl) (stepPc_addFlags a (getR · b) (getR · c))
  case sub => exact runs_of_exec_plain (fun _ _ => rfl) (fun x => stepPc_subFlags_putR a _ (getR · b) (getR · c) x)
  case and => exact runs_of_exec_plain (fun _ _ => rfl) (fun _ => stepPc_resultZn a rfl)
  case or => exact runs_of_exec_plain (fun _ _ => rfl) (fun _ => stepPc_resultZn a rfl)
  case xor => exact runs_of_exec_plain (fun _ _ => rfl) (fun _ => stepPc_resultZn a rfl)
  case shl => exact runs_of_exec_plain (fun _ _ => rfl) (fun _ => stepPc_resultZn a (shl36_eq_shiftL _ _))
  case shr => exact runs_of_exec_plain (fun _ _ => rfl) (fun _ => stepPc_resultZn a (shr36_eq_shiftR _ _))
  case sar => exact runs_of_exec_plain (fun _ _ => rfl) (fun _ => stepPc_resultZn a (sar36_eq_shiftA _ _))
  case minu => exact runs_of_exec_plain (fun _ _ => rfl) (fun _ => stepPc_resultZn a (ite_le_eq_min _ _))
  case maxu => exact runs_of_exec_plain (fun _ _ => rfl) (fun _ => stepPc_resultZn a (ite_le_eq_max _ _))
  case cmp => exact runs_of_exec_plain (fun _ _ => rfl) (stepPc_subFlags (getR · b) (getR · c))
  case tst => exact runs_of_exec_plain (fun _ _ => rfl) (fun _ => stepPc_znFlags a rfl)
  case mul => exact runs_of_exec_plain (fun _ _ => rfl) (fun _ => stepPc_resultZn a (mul_eq_ofNat _ _))
  case mov => exact runs_of_exec_plain (fun _ _ => rfl) (fun _ => stepPc_putR a rfl)

/-! ### Branches, calls and jumps (R133, R139) -/

/-- The conditions of R133, in the order of field A. -/
theorem condHolds_eq_getD (a : BitVec 4) (x : Thread) :
    condHolds a x = [true, x.z, !x.z, x.c, !x.c, x.n != x.v, !(x.n != x.v), x.z || (x.n != x.v), !x.z && !(x.n != x.v),
      x.n, !x.n, x.v, x.m, !x.m, x.e, !x.e].getD a.toNat false := by
  have hge : (x.n == x.v) = !(x.n != x.v) := by simp [bne]
  have ha : a.toNat < 16 := a.isLt
  rw [condHolds, hge]
  generalize a.toNat = k at ha
  match k, ha with
  | 0, _ | 1, _ | 2, _ | 3, _ | 4, _ | 5, _ | 6, _ | 7, _ | 8, _ | 9, _ | 10, _ | 11, _ | 12, _ | 13, _ | 14, _ | 15, _ => rfl
  | k + 16, hk => exact absurd hk (by omega)

theorem branch_not (p : Prop) [Decidable p] (d : BitVec 18) (x : Thread) :
    branch (decide (¬ p)) d x = { x with pc := if p then x.pc + 1 else d.toNat % 2 ^ 14 } := by
  by_cases hp : p <;> simp [branch, targetOf, hp]

theorem branch_decide (p : Prop) [Decidable p] (d : BitVec 18) (x : Thread) :
    branch (decide p) d x = { x with pc := if p then d.toNat % 2 ^ 14 else x.pc + 1 } := by
  by_cases hp : p <;> simp [branch, targetOf, hp]

/-- Settles O15: each form changes the program counter of its own thread alone, CALL also w[A]. -/
theorem flowInstructions : Obligations.FlowInstructions := by
  intro a b c d
  refine ⟨?br, ?cbeq, ?cbne, ?call, ?jr, ?jtab, ?nop⟩
  case br => exact runs_of_exec_plain (fun _ _ => rfl) (fun x => congrArg (branch · d x) (condHolds_eq_getD a x))
  case cbeq => exact runs_of_exec_plain (fun _ _ => rfl) (fun x => branch_decide (getR x b = getR x c) d x)
  case cbne => exact runs_of_exec_plain (fun _ _ => rfl) (fun x => branch_not (getR x b = getR x c) d x)
  case call => exact runs_of_exec_plain (fun _ _ => rfl) (fun _ => rfl)
  case jr => exact runs_of_exec_plain (fun _ _ => rfl) (fun _ => rfl)
  case jtab => exact runs_of_exec_plain (fun _ _ => rfl) (fun _ => rfl)
  case nop => exact runs_of_exec_plain (fun _ _ => rfl) (fun _ => rfl)

/-! ### Supervisor instructions in a packet thread (R141) -/

/-- SUP_ONLY goes before the other faults of every supervisor instruction. -/
theorem issue_supOnly {th : Thr} {i : Instr} {s : State} (ht : th.t.val ≠ 0) (h : CanIssue th i s) {fs : List (FaultCode × Bool)}
    (hlater : ∀ c ∈ fs, faultOrder.idxOf .supOnly ≤ faultOrder.idxOf c.1) (dt : FaultCode → Nat) (body : State) :
    issue s th i (supOnly th :: fs) dt body = colFault s th .supOnly (dt .supOnly) := by
  have hsup : supOnly th = (.supOnly, true) := by simp [supOnly, isSup, ht]
  rw [hsup]
  refine issue_first_fault h (List.mem_cons_self ..) (fun g hg => ?_) (by decide) dt body
  rcases List.mem_cons.1 hg with heq | hmem
  · exact Nat.le_of_eq (congrArg (fun c => faultOrder.idxOf c.1) heq.symm)
  · exact hlater _ hmem

/-- Settles O20: no check of a supervisor instruction goes before SUP_ONLY. -/
theorem supervisorOnly : Obligations.SupervisorOnly := by
  intro th a b d s ht
  simp only [List.forall_mem_cons]
  have hnone : ∀ c ∈ ([] : List (FaultCode × Bool)), faultOrder.idxOf .supOnly ≤ faultOrder.idxOf c.1 := List.forall_mem_nil _
  have hone {g : FaultCode} (p : Bool) (hg : faultOrder.idxOf .supOnly ≤ faultOrder.idxOf g) :
      ∀ c ∈ [(g, p)], faultOrder.idxOf .supOnly ≤ faultOrder.idxOf c.1 := List.forall_mem_singleton.2 hg
  refine ⟨?mfc, ?mtc, ?wait, ?npop, ?ldim, ?stim, ?synci, List.forall_mem_nil _⟩
  case mfc => exact fun h => congrArg Host.Outcome.next (issue_supOnly ht h (hone _ (by decide)) _ _)
  case mtc => exact fun h => congrArg Host.Outcome.next (issue_supOnly ht h (hone _ (by decide)) _ _)
  case wait => exact fun h => congrArg Host.Outcome.next (issue_supOnly ht h hnone _ _)
  case npop => exact fun h => congrArg Host.Outcome.next (issue_supOnly ht h (hone _ (by decide)) _ _)
  case ldim => exact fun h => congrArg Host.Outcome.next (issue_supOnly ht h (hone _ (by decide)) _ _)
  case stim => exact fun h => congrArg Host.Outcome.next (issue_supOnly ht h (hone _ (by decide)) _ _)
  case synci => exact fun h => congrArg Host.Outcome.next (issue_supOnly ht h hnone _ _)

/-! ### Immediates (R131, R136) -/

theorem sextD_eq_ofInt (d : BitVec 18) : sextD d = BitVec.ofInt 36 d.toInt := rfl

theorem zextD_eq_ofNat (d : BitVec 18) : zextD d = BitVec.ofNat 36 d.toNat := (BitVec.ofNat_toNat 36 d).symm

theorem zextD_shiftLeft (d : BitVec 18) : zextD d <<< 18 = BitVec.ofNat 36 (d.toNat * 2 ^ 18) := by
  apply BitVec.eq_of_toNat_eq
  rw [zextD_eq_ofNat, BitVec.toNat_shiftLeft, BitVec.toNat_ofNat, BitVec.toNat_ofNat, Nat.shiftLeft_eq, Nat.mod_mul_mod]

theorem immediateInstructions : Claims.ImmediateInstructions := by
  intro a b d
  refine ⟨?addi, ?andi, ?ori, ?xori, ?shli, ?shri, ?sari, ?cmpi, ?mvi, ?lui, ?tsti⟩
  case addi => exact runs_of_exec_plain (fun _ _ => rfl) (stepPc_addFlags a (getR · b) (fun _ => sextD d))
  case andi => exact runs_of_exec_plain (fun _ _ => rfl) (fun _ => stepPc_resultZn a (congrArg _ (zextD_eq_ofNat d)))
  case ori => exact runs_of_exec_plain (fun _ _ => rfl) (fun _ => stepPc_resultZn a (congrArg _ (zextD_eq_ofNat d)))
  case xori => exact runs_of_exec_plain (fun _ _ => rfl) (fun _ => stepPc_resultZn a (congrArg _ (zextD_eq_ofNat d)))
  case shli => exact runs_of_exec_plain (fun _ _ => rfl) (fun _ => stepPc_resultZn a (shl36_eq_shiftL _ _))
  case shri => exact runs_of_exec_plain (fun _ _ => rfl) (fun _ => stepPc_resultZn a (shr36_eq_shiftR _ _))
  case sari => exact runs_of_exec_plain (fun _ _ => rfl) (fun _ => stepPc_resultZn a (sar36_eq_shiftA _ _))
  case cmpi => exact runs_of_exec_plain (fun _ _ => rfl) (stepPc_subFlags (getR · b) (fun _ => sextD d))
  case mvi => exact runs_of_exec_plain (fun _ _ => rfl) (fun _ => stepPc_putR a (sextD_eq_ofInt d))
  case lui => exact runs_of_exec_plain (fun _ _ => rfl) (fun _ => stepPc_putR a (zextD_shiftLeft d))
  case tsti => exact runs_of_exec_plain (fun _ _ => rfl) (fun _ => stepPc_znFlags a (congrArg _ (zextD_eq_ofNat d)))

/-! ### Bit fields, PACK, UNPK and CRC (R135, R136) -/

theorem and_lowMask (w : Word36) {p n : Nat} (hn : n ≤ 36) : (w >>> p) &&& lowMask n = BitVec.ofNat 36 (w.toNat / 2 ^ p % 2 ^ n) := by
  have hmask : 2 ^ n - 1 < 2 ^ 36 := by
    have := Nat.pow_le_pow_right (n := 2) (by decide) hn
    omega
  have hfield : w.toNat / 2 ^ p % 2 ^ n < 2 ^ 36 := Nat.lt_of_le_of_lt (Nat.mod_le _ _) (Nat.lt_of_le_of_lt (Nat.div_le_self _ _) w.isLt)
  apply BitVec.eq_of_toNat_eq
  rw [BitVec.toNat_and, BitVec.toNat_ushiftRight, lowMask, BitVec.toNat_ofNat, BitVec.toNat_ofNat, Nat.mod_eq_of_lt hmask,
    Nat.and_two_pow_sub_one_eq_mod, Nat.shiftRight_eq_div_pow, Nat.mod_eq_of_lt hfield]

theorem getLsbD_lowMask (n : Nat) {i : Nat} (hi : i < 36) : (lowMask n).getLsbD i = decide (i < n) := by
  rw [lowMask, BitVec.getLsbD_ofNat, Nat.testBit_two_pow_sub_one, decide_eq_true hi, Bool.true_and]

/-- The word that INS writes: bits [p, p + n) from the low bits of `r`, the others of `w`. -/
def insertField (w r : Word36) (p n : Nat) : Word36 := (w &&& ~~~ (lowMask n <<< p)) ||| ((r &&& lowMask n) <<< p)

theorem getLsbD_insertField (w r : Word36) (p n : Nat) {i : Nat} (hi : i < 36) :
    (insertField w r p n).getLsbD i = if p ≤ i ∧ i < p + n then r.getLsbD (i - p) else w.getLsbD i := by
  have hsub : i - p < 36 := by omega
  simp only [insertField, BitVec.getLsbD_or, BitVec.getLsbD_and, BitVec.getLsbD_not, BitVec.getLsbD_shiftLeft, getLsbD_lowMask n hsub,
    hi, decide_true, Bool.true_and]
  by_cases hp : p ≤ i
  · by_cases hn : i < p + n
    · have hfield : i - p < n := by omega
      simp [hp, hn, hfield, Nat.not_lt.2 hp]
    · have hfield : ¬ i - p < n := by omega
      simp [hn, hfield]
  · simp [hp, Nat.lt_of_not_le hp]

/-- A field of 1 to 36 bits within the word does not fault. -/
theorem badField_ok {d : BitVec 18} (hwidth : d.toNat % 64 ≠ 0) (hfit : d.toNat / 64 % 64 + d.toNat % 64 ≤ 36) :
    ∀ x ∈ [badField d], x.2 = false := by
  have hfit' : ¬ 36 < d.toNat / 64 % 64 + d.toNat % 64 := by omega
  simp [badField, dLow, dMid, hwidth, hfit']

/-- Any other field is the fault ILLEGAL. -/
theorem badField_bad {d : BitVec 18} (hbad : d.toNat % 64 = 0 ∨ 36 < d.toNat / 64 % 64 + d.toNat % 64) :
    badField d = (.illegal, true) := by
  rw [badField, ← Bool.decide_or, dLow, dMid, decide_eq_true hbad]

theorem issue_badField {th : Thr} {i : Instr} {s : State} {d : BitVec 18}
    (hbad : d.toNat % 64 = 0 ∨ 36 < d.toNat / 64 % 64 + d.toNat % 64) (h : CanIssue th i s) (dt : FaultCode → Nat) (body : State) :
    issue s th i [badField d] dt body = colFault s th .illegal (dt .illegal) := by
  rw [badField_bad hbad]
  refine issue_first_fault h (List.mem_cons_self ..) (fun g hg => ?_) (by decide) dt body
  exact Nat.le_of_eq (congrArg (fun c => faultOrder.idxOf c.1) (List.mem_singleton.1 hg).symm)

theorem toNat_append_eq_add {m n : Nat} (x : BitVec m) (y : BitVec n) : (x ++ y).toNat = x.toNat * 2 ^ n + y.toNat := by
  rw [BitVec.toNat_append, ← Nat.shiftLeft_add_eq_or_of_lt y.isLt, Nat.shiftLeft_eq]

/-- A byte cut out of a word, as a number. -/
theorem toNat_byte (w : Word36) (k : Nat) : (w.extractLsb' k 8).toNat = w.toNat / 2 ^ k % 256 := by
  rw [BitVec.extractLsb'_toNat, Nat.shiftRight_eq_div_pow]

/-- The data byte of a nonet. -/
theorem toNat_nonet_byte (w : Word36) (i : Nat) : ((nonetAt w i).extractLsb' 0 8).toNat = w.toNat / 2 ^ (27 - 9 * i) % 256 := by
  rw [BitVec.extractLsb'_toNat, nonetAt, BitVec.extractLsb'_toNat, Nat.shiftRight_zero, Nat.shiftRight_eq_div_pow]
  exact Nat.mod_mod_of_dvd _ (by decide)

theorem packWord_eq_ofNat (w : Word36) : packWord w = BitVec.ofNat 36 (w.toNat / 2 ^ 27 % 256 * 2 ^ 24 +
    w.toNat / 2 ^ 18 % 256 * 2 ^ 16 + w.toNat / 2 ^ 9 % 256 * 2 ^ 8 + w.toNat % 256) := by
  apply BitVec.eq_of_toNat_eq
  simp only [packWord, BitVec.zeroExtend, BitVec.toNat_setWidth, toNat_append_eq_add, toNat_nonet_byte, BitVec.toNat_ofNat,
    Nat.reduceMul, Nat.reduceSub]
  omega

theorem unpackWord_eq_ofNat (w : Word36) : unpackWord w = BitVec.ofNat 36 (w.toNat / 2 ^ 24 % 256 * 2 ^ 27 +
    w.toNat / 2 ^ 16 % 256 * 2 ^ 18 + w.toNat / 2 ^ 8 % 256 * 2 ^ 9 + w.toNat % 256) := by
  apply BitVec.eq_of_toNat_eq
  simp only [unpackWord, toNat_append_eq_add, toNat_byte, BitVec.toNat_ofNat]
  omega

theorem getLsbD_eq_decide_div (w : Word36) (i : Nat) : w.getLsbD i = decide (w.toNat / 2 ^ i % 2 = 1) := by
  rw [BitVec.getLsbD, Nat.testBit_eq_decide_div_mod_eq]

theorem anyMark_eq (w : Word36) : anyMark w = (decide (w.toNat / 2 ^ 35 % 2 = 1) || decide (w.toNat / 2 ^ 26 % 2 = 1) ||
    decide (w.toNat / 2 ^ 17 % 2 = 1) || decide (w.toNat / 2 ^ 8 % 2 = 1)) := by
  simp only [anyMark, getLsbD_eq_decide_div]

theorem wordBytes_eq_beBytes (w : Word36) : wordBytes w = beBytes 4 (w.toNat % 2 ^ 32) := by
  have hbyte (k n : Nat) (h : w.toNat / 2 ^ k % 256 = n % 256) : w.extractLsb' k 8 = BitVec.ofNat 8 n := by
    apply BitVec.eq_of_toNat_eq
    rw [toNat_byte, h, BitVec.toNat_ofNat]
  rw [wordBytes, hbyte 24 (w.toNat % 2 ^ 32 / 256 / 256 / 256) (by omega), hbyte 16 (w.toNat % 2 ^ 32 / 256 / 256) (by omega),
    hbyte 8 (w.toNat % 2 ^ 32 / 256) (by omega), hbyte 0 (w.toNat % 2 ^ 32) (by omega)]
  rfl

theorem crcWord_eq_ofNat (p q : Word36) : (crcBytes (p.extractLsb' 0 32) (wordBytes q)).zeroExtend 36 =
    BitVec.ofNat 36 (crcBytes (BitVec.ofNat 32 p.toNat) (beBytes 4 (q.toNat % 2 ^ 32))).toNat := by
  rw [wordBytes_eq_beBytes, BitVec.ofNat_toNat]
  rfl

theorem runs_ext {a b : BitVec 4} {d : BitVec 18} (hwidth : d.toNat % 64 ≠ 0) (hfit : d.toNat / 64 % 64 + d.toNat % 64 ≤ 36) :
    Runs (.ext · a b d) (withZn a (fun x => BitVec.ofNat 36 ((getR x b).toNat / 2 ^ (d.toNat / 64 % 64) % 2 ^ (d.toNat % 64)))) :=
  runs_of_exec (fun _ _ => rfl) (badField_ok hwidth hfit) (fun _ => stepPc_resultZn a (and_lowMask _ (by rw [dLow]; omega)))

/-- INS changes w[A] alone, and goes on. -/
theorem runs_ins {a b : BitVec 4} {d : BitVec 18} (hwidth : d.toNat % 64 ≠ 0) (hfit : d.toNat / 64 % 64 + d.toNat % 64 ≤ 36) :
    Runs (.ins · a b d) (fun x => stepPc (putR x a (insertField (getR x a) (getR x b) (dMid d) (dLow d)))) :=
  runs_of_exec (fun _ _ => rfl) (badField_ok hwidth hfit) (fun _ => rfl)

theorem fieldInstructions : Claims.FieldInstructions := by
  refine ⟨fun a b d hwidth hfit => ⟨runs_ext hwidth hfit, ?ins⟩, ?bad, ?pack, ?unpk, ?crc⟩
  case ins =>
    intro th s h
    obtain ⟨t, hexec, hthr, honly⟩ := runs_ins hwidth hfit th s h
    refine ⟨t, hexec, honly, by rw [hthr]; rfl, fun r hr => ?_, by rw [hthr]; rfl, fun i hi => ?_⟩
    · rw [hthr]
      exact getR_putR_other _ hr _
    · rw [hthr]
      exact (congrArg (BitVec.getLsbD · i) (getR_putR_same _ _ _)).trans (getLsbD_insertField _ _ _ _ hi)
  case bad =>
    intro th a b d s hbad
    simp only [List.forall_mem_cons]
    exact ⟨fun h => congrArg Host.Outcome.next (issue_badField hbad h _ _),
      fun h => congrArg Host.Outcome.next (issue_badField hbad h _ _), List.forall_mem_nil _⟩
  case pack =>
    exact fun a b => runs_of_exec_plain (fun _ _ => rfl) (fun x => by
      simp only [packWord_eq_ofNat, anyMark_eq]
      rfl)
  case unpk => exact fun a b => runs_of_exec_plain (fun _ _ => rfl) (fun x => stepPc_putR a (unpackWord_eq_ofNat (getR x b)))
  case crc => exact fun a b c => runs_of_exec_plain (fun _ _ => rfl) (fun x => stepPc_putR a (crcWord_eq_ofNat (getR x b) (getR x c)))

/-- Settles O18: each form changes its own thread alone; a field outside the word is ILLEGAL. -/
theorem immediateAndFieldInstructions : Obligations.ImmediateAndFieldInstructions := ⟨immediateInstructions, fieldInstructions⟩

end Sys2Proof.Machine
end

section
/-! SUPPORT. Table memories of a Vale: what reads as what after an update, and what leaves the Vales alone. -/

namespace Sys2Proof.Machine

/-! ### Updates of a Vale's tables -/

@[simp] theorem vale_modTable (s : State) (v : Vale) (f : TableState → TableState) :
    (s.modTable v f).vale v = { s.vale v with table := f (s.vale v).table } :=
  vale_modVale _ _ _

theorem table_setPart (s : State) (v : Vale) (i : Nat) (p : Partition) :
    ((setPart s v i p).vale v).table = { (s.vale v).table with parts := tset (s.vale v).table.parts i p } := by
  rw [setPart, vale_modTable]

@[simp] theorem setPart_mem (s : State) (v : Vale) (i : Nat) (p : Partition) : (setPart s v i p).mem = s.mem := modTable_mem _ _ _

@[simp] theorem partAt_setPart_same (s : State) (v : Vale) (i : Nat) (p : Partition) : partAt (setPart s v i p) v i = some p := by
  rw [partAt, table_setPart, tget_tset_same]

theorem partAt_setPart_other (s : State) (v : Vale) {i j : Nat} (h : j ≠ i) (p : Partition) :
    partAt (setPart s v i p) v j = partAt s v j := by
  rw [partAt, table_setPart, tget_tset_other _ _ _ _ h, ← partAt]

theorem partAt_congr {s t : State} {v : Vale} (h : (t.vale v).table.parts = (s.vale v).table.parts) (i : Nat) :
    partAt t v i = partAt s v i := by
  rw [partAt, partAt, h]

@[simp] theorem partAt_respond (s : State) (st : Status) (r : Nat) (bs : List Byte) (v : Vale) (i : Nat) :
    partAt (respond s st r bs) v i = partAt s v i :=
  partAt_congr (by rw [vale_respond]) i

theorem table_setTcRing (s : State) (v : Vale) (r : Nat) (g : TcRing) :
    ((setTcRing s v r g).vale v).table = { (s.vale v).table with rings := tset (s.vale v).table.rings r g } := by
  rw [setTcRing, vale_modTable]

@[simp] theorem tcRingOf_setTcRing_same (s : State) (v : Vale) (r : Nat) (g : TcRing) : tcRingOf (setTcRing s v r g) v r = g := by
  rw [tcRingOf, table_setTcRing, tgetD_tset_same]

theorem tcRingOf_setTcRing_other (s : State) (v : Vale) {r j : Nat} (h : j ≠ r) (g : TcRing) :
    tcRingOf (setTcRing s v r g) v j = tcRingOf s v j := by
  rw [tcRingOf, table_setTcRing, tgetD_tset_other _ _ _ _ _ h, ← tcRingOf]

theorem tcRingOf_congr {s t : State} {v : Vale} (h : (t.vale v).table.rings = (s.vale v).table.rings) (r : Nat) :
    tcRingOf t v r = tcRingOf s v r := by
  rw [tcRingOf, tcRingOf, h]

/-! ### What leaves the Vales alone -/

@[simp] theorem vale_ite (c : Prop) [Decidable c] (s t : State) (v : Vale) :
    (if c then s else t).vale v = if c then s.vale v else t.vale v :=
  apply_ite (fun x : State => x.vale v) c s t

@[simp] theorem vale_count (s : State) (k : Nat) (v : Vale) : (count s k).vale v = s.vale v := vale_setNum _ _ _ _

@[simp] theorem vale_raise (s : State) (m : EvtMsg) (v : Vale) : (raise s m).vale v = s.vale v := by cases v <;> rfl

@[simp] theorem vale_writeInt (s : State) (a : Nat) (bs : List Byte) (v : Vale) : (writeInt s a bs).vale v = s.vale v := by
  cases v <;> rfl

@[simp] theorem vale_hostIssue (s : State) (f addr : Nat) (bs : List Byte) (log : Bool) (win : Nat) (payload : Bool) (v : Vale) :
    (hostIssue s f addr bs log win payload).vale v = s.vale v := by
  unfold hostIssue
  split
  · rfl
  · cases v <;> rfl

@[simp] theorem vale_raiseVector (s : State) (f vec : Nat) (v : Vale) : (raiseVector s f vec).vale v = s.vale v := by
  rw [raiseVector_eq]
  cases v <;> rfl

@[simp] theorem vale_pendIrq (s : State) (r : Nat × Nat × Nat) (v : Vale) : (pendIrq s r).vale v = s.vale v := by cases v <;> rfl

@[simp] theorem vale_steppeIrq (s : State) (i : Nat) (v : Vale) : (steppeIrq s i).vale v = s.vale v := by
  simp [steppeIrq]

@[simp] theorem vale_ringVector (s : State) (space : Bool) (vec : Nat) (v : Vale) : (ringVector s space vec).vale v = s.vale v := by
  simp [ringVector]

@[simp] theorem vale_hostCharge (s : State) (d : LinkDir) (f n : Nat) (v : Vale) : (hostCharge s d f n).vale v = s.vale v := by
  cases v <;> rfl

@[simp] theorem vale_arbSettle (s : State) (d : LinkDir) (c : Nat) (v : Vale) : (arbSettle s d c).vale v = s.vale v := by
  unfold arbSettle
  split
  · rfl
  · cases v <;> rfl

@[simp] theorem vale_arbEnd (s : State) (d : LinkDir) (c : Nat) (v : Vale) : (arbEnd s d c).vale v = s.vale v := by
  unfold arbEnd
  split
  · rfl
  · cases v <;> rfl

@[simp] theorem vale_hostRead (s : State) (f addr n : Nat) (v : Vale) : (hostRead s f addr n).2.vale v = s.vale v := by
  simp [hostRead]

theorem vale_arbPick {s t : State} {d : LinkDir} {also : Option Nat} {c : Nat} (h : arbPick s d also = some (c, t)) (v : Vale) :
    t.vale v = s.vale v := by
  unfold arbPick at h
  dsimp only at h
  split at h
  · cases h
  · cases h
    cases v <;> rfl

theorem vale_readTurn {s t : State} {f : Nat} (h : readTurn s f = some t) (v : Vale) : t.vale v = s.vale v := by
  unfold readTurn at h
  split at h
  · cases h
  · split at h
    case h_1 c s1 hpick =>
      split at h
      · cases h
        exact vale_arbPick hpick v
      · cases h
    case h_2 => cases h

/-! ### A ring's accesses to its memory (R187, R299-R301) -/

@[simp] theorem vale_tcWriteMem (s : State) (space : Bool) (a : Nat) (bs : List Byte) (v : Vale) :
    (tcWriteMem s space a bs).vale v = s.vale v := by
  simp [tcWriteMem, hostData]

theorem vale_tcTurn {s t : State} {space : Bool} (h : tcTurn s space = some t) (v : Vale) : t.vale v = s.vale v := by
  unfold tcTurn at h
  split at h
  · cases h
    rfl
  · split at h
    · cases h
    · exact vale_readTurn h v

theorem vale_tcReadMem {s t : State} {space : Bool} {a n : Nat} {bs : List Byte} (h : tcReadMem s space a n = some (bs, t))
    (v : Vale) : t.vale v = s.vale v := by
  unfold tcReadMem at h
  split at h
  · cases h
  · split at h
    · cases h
      exact vale_hostRead s 0 a n v
    · split at h
      · cases h
      · cases h
        rfl

/-- A fetch changes nothing of a Vale: its ring still stands at the command. -/
theorem vale_tcFetch {s s1 : State} {v : Vale} {r : Nat} {c : TcCmd} (h : tcFetch s v r = some (some (c, s1))) (w : Vale) :
    s1.vale w = s.vale w := by
  unfold tcFetch at h
  dsimp only at h
  split at h
  · cases h
  · split at h
    case h_1 => cases h
    case h_2 s0 hturn =>
      split at h
      case h_1 => cases h
      case h_2 b t hread =>
        cases h
        rw [vale_tcReadMem hread, vale_tcTurn hturn]

/-! ### Entries and learn slots (R193, R195, R198) -/

@[simp] theorem vale_subLearn (s : State) (v : Vale) (slot : Nat) (w : Vale) : (subLearn s v slot).vale w = s.vale w := by
  simp [subLearn]

@[simp] theorem subLearn_mem (s : State) (v : Vale) (slot : Nat) : (subLearn s v slot).mem = s.mem := by
  simp [subLearn]

/-- A learn slot's count is no other object's value. -/
theorem numD_subLearn_other (s : State) (v : Vale) (slot : Nat) {index sub : Nat} (hindex : index ≠ 0x3632) (hsub : sub < 256) (d : Nat) :
    numD (subLearn s v slot) (vkey v index sub) d = numD s (vkey v index sub) d := by
  unfold subLearn
  split
  · rfl
  · exact numD_setNum_other _ _ _ _ _ (vkey_ne hindex v hsub (Nat.mod_lt _ (by decide)))

/-- The entry at a position goes with its lock, and the Vale's other tables stay. -/
theorem table_deleteEntry {s : State} {v : Vale} {i pos : Nat} {p : Partition} {e : Entry} (hp : partAt s v i = some p)
    (he : tget p.slots pos = some e) : ((deleteEntry s v i pos).vale v).table = { (s.vale v).table with
      parts := tset (s.vale v).table.parts i { p with slots := terase p.slots pos }
      locks := tfilter (s.vale v).table.locks (fun n _ => decide (e.lock ≠ some n)) } := by
  simp [deleteEntry, hp, he, table_setPart]

theorem partAt_deleteEntry {s : State} {v : Vale} {i pos : Nat} {p : Partition} {e : Entry} (hp : partAt s v i = some p)
    (he : tget p.slots pos = some e) : partAt (deleteEntry s v i pos) v i = some { p with slots := terase p.slots pos } := by
  rw [partAt, table_deleteEntry hp he, tget_tset_same]

@[simp] theorem deleteEntry_mem (s : State) (v : Vale) (i pos : Nat) : (deleteEntry s v i pos).mem = s.mem := by
  unfold deleteEntry
  split
  · rfl
  · split
    · rfl
    · simp

/-- A notification changes the learn log of its Vale's tables and nothing else of them (R198). -/
theorem table_notify (s : State) (v : Vale) (kind slot : Nat) (h : Handle) (arg key width : Nat) :
    ∃ log, ((notify s v kind slot h arg key width).vale v).table = { (s.vale v).table with learnLog := log } := by
  have hidien : ∀ x : Idien, ({ s with idien := x } : State).vale v = s.vale v := fun _ => by cases v <;> rfl
  unfold notify
  dsimp only
  split
  · exact ⟨_, by rw [vale_count]⟩
  · split
    · exact ⟨_, by rw [vale_count, hidien]⟩
    · exact ⟨_, by rw [vale_modTable, hidien]⟩

@[simp] theorem notify_mem (s : State) (v : Vale) (kind slot : Nat) (h : Handle) (arg key width : Nat) :
    (notify s v kind slot h arg key width).mem = s.mem := by
  simp [notify]

/-- An insertion that succeeds has stored the entry at the position that it names (R183). -/
theorem tget_insertExact {x : TableState} {p : Partition} {key : Nat} {e : Entry}
    (hok : (insertExact x p key (fun _ => e)).status = .ok) :
    tget (insertExact x p key (fun _ => e)).part.slots (insertExact x p key (fun _ => e)).pos = some e := by
  revert hok
  fun_cases insertExact x p key (fun _ => e)
  case case2 | case4 | case6 => exact fun _ => tget_tset_same _ _ _
  all_goals exact fun hok => nomatch hok

end Sys2Proof.Machine
end

section
/-! Proofs of the statement about partitions, locks that expire, the learner and the ager, and bank tests
(R179, R180, R186, R194-R199, R201, R202). -/

namespace Sys2Proof.Machine

/-! ### Creation and destruction (R179, R180) -/

theorem serves_partitionCreate (who : Who) (v : Vale) (r : Rec 24) : Serves (.partitionCreate who v r) (partitionCreateOp who v r) :=
  serves_of_runOp (fun _ => rfl)

theorem serves_partitionDestroy (who : Who) (v : Vale) (h : Handle) :
    Serves (.partitionDestroy who v h) (partitionDestroyOp who v h) :=
  serves_of_runOp (fun _ => rfl)

/-- A create that passes its checks has a record in range, and an index to take. -/
theorem partitionCreate_checks {who : Who} {v : Vale} {r : Rec 24} {s : State} (hok : (partitionCreateOp who v r).status s = .ok) :
    pcRangeBad r.toNat = false ∧ ∃ i s1, allocIndex s (partKind v) = some (i, s1) := by
  have hrange := not_applies_of_ok hok (st := .range) (b := pcRangeBad r.toNat) (by decide) (by simp)
  have hshort := not_applies_of_ok hok (st := .noResource) (b := pcShort s v r.toNat) (by decide) (by simp)
  rw [pcShort, Bool.or_eq_false_iff, Bool.not_eq_false'] at hshort
  obtain ⟨⟨i, s1⟩, halloc⟩ := Option.isSome_iff_exists.mp hshort.2
  exact ⟨hrange, i, s1, halloc⟩

theorem handleOf_of_gens {s t : State} (h : t.dict.gens = s.dict.gens) (kind i : Nat) : handleOf t kind i = handleOf s kind i := by
  rw [handleOf, handleOf, genOf, genOf, h]

theorem allocIndex_keeps {s s1 : State} {kind i : Nat} (h : allocIndex s kind = some (i, s1)) (v : Vale) :
    s1.vale v = s.vale v ∧ s1.dict.gens = s.dict.gens ∧ s1.mem = s.mem := by
  obtain ⟨fresh, freed, rfl⟩ := allocIndex_state h
  cases v <;> exact ⟨rfl, rfl, rfl⟩

/-- The state in which a new partition is placed: its index has its owner, and the owner's usage has risen (R19, R23). -/
def partitionOwned (s : State) (v : Vale) (r i : Nat) : State :=
  addUsage (setOwner (newPartition s v r).2 (partKind v) i (pcOwner r)) (pcOwner r) (partKind v)

theorem partitionOwned_keeps (s : State) (v : Vale) (r i : Nat) : (partitionOwned s v r i).vale v = s.vale v ∧
    (partitionOwned s v r i).dict.gens = s.dict.gens ∧ (partitionOwned s v r i).mem = s.mem := by
  unfold partitionOwned addUsage
  split <;> cases v <;> exact ⟨rfl, rfl, rfl⟩

theorem partitionCreateOp_effect {v : Vale} {r : Rec 24} {s s1 : State} {i : Nat} (halloc : allocIndex s (partKind v) = some (i, s1))
    (who : Who) : (partitionCreateOp who v r).effect s =
      (setPart (partitionOwned s1 v r.toNat i) v i (newPartition s1 v r.toNat).1, beBytes 4 (handleOf s1 (partKind v) i).toNat) := by
  simp only [partitionCreateOp, halloc]
  refine Prod.ext rfl (congrArg (fun h : Handle => beBytes 4 h.toNat) (handleOf_of_gens ?_ _ _))
  rw [setPart, modTable_dict]
  exact (partitionOwned_keeps s1 v r.toNat i).2.1

/-- R179: the new partition is the record's, empty, with the lowest free units of its memory. -/
theorem completes_partitionCreate {who : Who} {v : Vale} {r : Rec 24} {s : State} (hs : glenServes s = true)
    (hok : (partitionCreateOp who v r).status s = .ok) : Completes (.partitionCreate who v r) s (fun t =>
    ∃ i p, (allocIndex s (partKind v)).map (·.1) = some i ∧ partAt t v i = some p ∧ p.memory = pcField 0 1 r.toNat ∧
      p.kind = pcField 1 1 r.toNat ∧ p.keyWidth = pcField 4 2 r.toNat ∧ p.owner = pcOwner r.toNat ∧ p.slots = [] ∧
      p.units = (freeUnits (s.vale v).table p.memory).take (pcUnits r.toNat) ∧ (∀ j, j ≠ i → partAt t v j = partAt s v j) ∧
      t.resp.status = .ok ∧ t.resp.payload = beBytes 4 (handleOf s (partKind v) i).toNat ∧ t.mem = s.mem) := by
  obtain ⟨-, i, s1, halloc⟩ := partitionCreate_checks hok
  obtain ⟨hvale1, hgens1, hmem1⟩ := allocIndex_keeps halloc v
  obtain ⟨hvale, -, hmem⟩ := partitionOwned_keeps s1 v r.toNat i
  refine (serves_partitionCreate who v r).completes hs hok ⟨i, (newPartition s1 v r.toNat).1, by rw [halloc]; rfl, ?_⟩
  rw [partitionCreateOp_effect halloc]
  refine ⟨?_, rfl, rfl, rfl, rfl, rfl, ?_, fun j hj => ?_, rfl, ?_, ?_⟩
  · rw [partAt_respond, partAt_setPart_same]
  · simp only [newPartition, hvale1]
  · rw [partAt_respond, partAt_setPart_other _ _ hj]
    exact partAt_congr (by rw [hvale, hvale1]) j
  · rw [respond_resp, handleOf_of_gens hgens1]
  · rw [respond_mem, setPart_mem, hmem, hmem1]

/-! Destruction. -/

@[simp] theorem vale_uncountPart (s : State) (v : Vale) (p : Partition) (w : Vale) : (uncountPart s v p).vale w = s.vale w := by
  unfold uncountPart
  split
  · exact foldl_keeps (fun t : State => t.vale w) (fun _ _ => vale_subLearn _ _ _ _) _ _
  · rfl

@[simp] theorem uncountPart_mem (s : State) (v : Vale) (p : Partition) : (uncountPart s v p).mem = s.mem := by
  unfold uncountPart
  split
  · exact foldl_mem (fun _ _ => subLearn_mem _ _ _) _ _
  · rfl

@[simp] theorem vale_modTen (s : State) (i : Nat) (f : Tenancy → Tenancy) (v : Vale) : (modTen s i f).vale v = s.vale v := by
  unfold modTen
  split
  · cases v <;> rfl
  · rfl

@[simp] theorem subUsage_mem (s : State) (owner : Handle) (kind : Nat) : (subUsage s owner kind).mem = s.mem := by
  unfold subUsage
  split <;> rfl

@[simp] theorem vale_subUsage (s : State) (owner : Handle) (kind : Nat) (v : Vale) : (subUsage s owner kind).vale v = s.vale v := by
  unfold subUsage
  split
  · rfl
  · cases v <;> rfl

@[simp] theorem vale_clearOwner (s : State) (kind i : Nat) (v : Vale) : (clearOwner s kind i).vale v = s.vale v := by cases v <;> rfl
@[simp] theorem vale_freeIndex (s : State) (kind i : Nat) (v : Vale) : (freeIndex s kind i).vale v = s.vale v := by cases v <;> rfl
@[simp] theorem vale_bumpGen (s : State) (kind i : Nat) (v : Vale) : (bumpGen s kind i).vale v = s.vale v := by cases v <;> rfl

@[simp] theorem vale_endObj (s : State) (kind i : Nat) (v : Vale) : (endObj s kind i).vale v = s.vale v := by
  simp [endObj]

@[simp] theorem endObj_mem (s : State) (kind i : Nat) : (endObj s kind i).mem = s.mem := by
  simp [endObj]

/-- A partition that is given up is listed no more, and no other changes (R180). -/
theorem parts_freePartition (s : State) (v : Vale) (i : Nat) : partAt (freePartition s v i) v i = none ∧
    ∀ j, j ≠ i → partAt (freePartition s v i) v j = partAt s v j := by
  unfold freePartition
  split
  case h_1 h => exact ⟨h, fun _ _ => rfl⟩
  case h_2 p _ => exact ⟨by simp [partAt], fun j hj => by simp [partAt, tget_terase_other _ _ _ hj]⟩

@[simp] theorem freePartition_mem (s : State) (v : Vale) (i : Nat) : (freePartition s v i).mem = s.mem := by
  unfold freePartition
  split <;> simp

theorem completes_partitionDestroy {who : Who} {v : Vale} {h : Handle} {s : State} (hs : glenServes s = true)
    (hok : (partitionDestroyOp who v h).status s = .ok) : Completes (.partitionDestroy who v h) s (fun t =>
      partAt t v (hIdx h) = none ∧ (∀ j, j ≠ hIdx h → partAt t v j = partAt s v j) ∧ t.resp.status = .ok ∧ t.mem = s.mem) := by
  obtain ⟨hgone, hothers⟩ := parts_freePartition (bumpGen s (partKind v) (hIdx h)) v (hIdx h)
  refine (serves_partitionDestroy who v h).completes hs hok ⟨(partAt_respond ..).trans hgone, fun j hj => ?_, rfl, ?_⟩
  · exact ((partAt_respond ..).trans (hothers j hj)).trans (partAt_congr (by rw [vale_bumpGen]) j)
  · exact freePartition_mem _ _ _

theorem partitions : Claims.Partitions := by
  refine ⟨serves_partitionCreate, fun who v r s => completes_partitionCreate, serves_partitionDestroy,
    fun who v r s hs hbad hok => ?_, fun who v h s => completes_partitionDestroy⟩
  exact absurd (hbad.symm.trans (partitionCreate_checks hok).1) (by decide)

/-! ### Locks that expire (R194) -/

theorem locks_dropLock (x : TableState) (n : Nat) : tget (dropLock x n).locks n = none := by
  unfold dropLock
  split
  case h_1 h => exact h
  case h_2 => exact tget_terase_same _ _

/-- R194: the lock is released, and its ticket is remembered as expired. -/
theorem completes_tableLockExpired {v : Vale} {l : Fin 4096} {k : Lock} {s : State} (hk : tget (s.vale v).table.locks l = some k) :
    Completes (.tableLockExpired v l) s (fun t => tget (t.vale v).table.locks l = none ∧
      (∃ n b, (k.ticket, n, b) ∈ (t.vale v).table.expired) ∧ t.mem = s.mem) := by
  refine ⟨_, rfl, ?_⟩
  simp only [hk, vale_raise, vale_count, vale_modTable, raise_mem, count_mem, modTable_mem]
  exact ⟨locks_dropLock _ _, ⟨_, _, List.mem_cons_self⟩, trivial⟩

/-! ### The learner (R197, R198) -/

/-- The state in which the learner has taken its oldest request. -/
def learnTaken (s : State) (v : Vale) (rest : List LearnReq) : State := s.modTable v (fun y => { y with learnQ := rest })

theorem table_learnTaken (s : State) (v : Vale) (rest : List LearnReq) :
    ((learnTaken s v rest).vale v).table = { (s.vale v).table with learnQ := rest } := by
  rw [learnTaken, vale_modTable]

@[simp] theorem learnTaken_mem (s : State) (v : Vale) (rest : List LearnReq) : (learnTaken s v rest).mem = s.mem := modTable_mem _ _ _

theorem partAt_learnTaken (s : State) (v : Vale) (rest : List LearnReq) (i : Nat) : partAt (learnTaken s v rest) v i = partAt s v i :=
  partAt_congr (by rw [table_learnTaken]) i

/-- The entry that the learner writes (R197). -/
def learnEntry (s : State) (v : Vale) (p : Partition) (r : LearnReq) : Entry :=
  { key := r.key, result := BitVec.ofNat 64 (p.learnAction * 2 ^ 54 + r.value.toNat), ts := (s.vale v).table.now, slot := r.slot }

section Learner
variable {v : Vale} {r : LearnReq} {rest : List LearnReq} {s : State} (hq : (s.vale v).table.learnQ = r :: rest)
  (hstop : s.err.failStop = false) (hstopped : (s.vale v).table.stopped = false)

include hq hstop hstopped

/-- A request whose partition has been destroyed is discarded (R197). -/
theorem exec_learnInsert_stale (hstale : handleCurrent s r.handle = false) :
    exec (.learnInsert v) s = .next (subLearn (learnTaken s v rest) v r.slot) := by
  show execLearnInsert v s = _
  simp [execLearnInsert, hq, hstop, hstopped, hstale, learnTaken]

variable {p : Partition} (hcurrent : handleCurrent s r.handle = true) (hp : partAt s v r.part = some p)

include hcurrent hp

/-- A request whose key is there already changes its slot's count alone (R197). -/
theorem exec_learnInsert_present (hfound : (lookupAll (s.vale v).table p r.key).isSome = true) :
    exec (.learnInsert v) s = .next (subLearn (learnTaken s v rest) v r.slot) := by
  show execLearnInsert v s = _
  have hp0 := (partAt_learnTaken s v rest r.part).trans hp
  rw [learnTaken] at hp0
  simp [execLearnInsert, hq, hstop, hstopped, hcurrent, hp0, hfound, learnTaken]

/-- A request whose key is not there goes through the inserter (R197). -/
theorem exec_learnInsert_new (hnew : lookupAll (s.vale v).table p r.key = none) :
    exec (.learnInsert v) s = .next (
      let n := insertExact (s.vale v).table p r.key (fun _ => learnEntry s v p r)
      if n.status = .ok then
        notify (setPart (learnTaken s v rest) v r.part n.part) v 1 r.slot r.handle r.value.toNat r.key p.keyWidth
      else count (subLearn (learnTaken s v rest) v r.slot) (vkey v 0x3635 2)) := by
  show execLearnInsert v s = _
  have hp0 := (partAt_learnTaken s v rest r.part).trans hp
  rw [learnTaken] at hp0
  simp [execLearnInsert, hq, hstop, hstopped, hcurrent, hp0, hnew, learnTaken, learnEntry]
  rfl

end Learner

theorem completes_learnInsert_placed {v : Vale} {r : LearnReq} {rest : List LearnReq} {s : State} {p : Partition} {e : Entry}
    (hok : (insertExact (s.vale v).table p r.key (fun _ => e)).status = .ok)
    (hexec : exec (.learnInsert v) s = .next (notify (setPart (learnTaken s v rest) v r.part
      (insertExact (s.vale v).table p r.key (fun _ => e)).part) v 1 r.slot r.handle r.value.toNat r.key p.keyWidth)) :
    let n := insertExact (s.vale v).table p r.key (fun _ => e)
    Completes (.learnInsert v) s (fun t => (t.vale v).table.learnQ = rest ∧ partAt t v r.part = some n.part ∧
      tget n.part.slots n.pos = some e ∧ (∀ j, j ≠ r.part → partAt t v j = partAt s v j) ∧ t.mem = s.mem) := by
  intro n
  obtain ⟨log, hlog⟩ := table_notify (setPart (learnTaken s v rest) v r.part n.part) v 1 r.slot r.handle r.value.toNat r.key p.keyWidth
  have hparts : ∀ i, partAt _ v i = partAt (setPart (learnTaken s v rest) v r.part n.part) v i := partAt_congr (by rw [hlog])
  refine ⟨_, hexec, ?_, ?_, tget_insertExact hok, fun j hj => ?_, ?_⟩
  · rw [hlog, table_setPart, table_learnTaken]
  · rw [hparts]
    exact partAt_setPart_same _ _ _ _
  · rw [hparts]
    exact (partAt_setPart_other _ _ hj _).trans (partAt_learnTaken s v rest j)
  · rw [notify_mem, setPart_mem, learnTaken_mem]

theorem completes_learnInsert_noRoom {v : Vale} {r : LearnReq} {rest : List LearnReq} {s : State}
    (hexec : exec (.learnInsert v) s = .next (count (subLearn (learnTaken s v rest) v r.slot) (vkey v 0x3635 2))) :
    Completes (.learnInsert v) s (fun t => (t.vale v).table.learnQ = rest ∧ (t.vale v).table.parts = (s.vale v).table.parts ∧
      numD t (vkey v 0x3635 2) 0 = (numD s (vkey v 0x3635 2) 0 + 1) % 2 ^ 64 ∧ t.mem = s.mem) := by
  refine ⟨_, hexec, ?_, ?_, ?_, ?_⟩
  · rw [vale_count, vale_subLearn, table_learnTaken]
  · rw [vale_count, vale_subLearn, table_learnTaken]
  · rw [numD_count_same, numD_subLearn_other _ _ _ (by decide) (by decide), learnTaken,
      numD_of_dict (modTable_dict _ _ _)]
  · rw [count_mem, subLearn_mem, learnTaken_mem]

theorem serves_learnLogRead (who : Who) (v : Vale) : Serves (.learnLogRead who v) (learnLogOp who v) :=
  serves_of_runOp (fun _ => rfl)

/-- R198: the oldest records, at most 32, are answered and leave the log. -/
theorem completes_learnLogRead {who : Who} {v : Vale} {s : State} (hs : glenServes s = true) (hok : (learnLogOp who v).status s = .ok) :
    Completes (.learnLogRead who v) s (fun t => t.resp.payload = ((s.vale v).table.learnLog.take 32).flatten ∧
      (t.vale v).table.learnLog = (s.vale v).table.learnLog.drop 32 ∧ t.mem = s.mem ∧ t.dict = s.dict) := by
  refine (serves_learnLogRead who v).completes hs hok ⟨rfl, ?_, ?_, ?_⟩
  · simp [learnLogOp]
  · exact modTable_mem _ _ _
  · exact modTable_dict _ _ _

/-! ### Aging (R199, R230) -/

theorem exec_ageTick_early {v : Vale} {s : State} (h : s.time.ticks < (s.vale v).table.ageDue) : exec (.ageTick v) s = .next s := by
  show execAgeTick v s = _
  rw [execAgeTick, ageDue, if_neg (by simpa using h)]

theorem completes_ageTick {v : Vale} {s : State} (h : (s.vale v).table.ageDue ≤ s.time.ticks) : Completes (.ageTick v) s (fun t =>
    (t.vale v).table.now = ((s.vale v).table.now + 1) % 65536 ∧
    (t.vale v).table.ageDue = (s.vale v).table.ageDue + numD s (vkey v 0x3630 1) 1000 * 125000 ∧
    (t.vale v).table.parts = (s.vale v).table.parts ∧ t.mem = s.mem ∧ t.dict = s.dict) := by
  refine ⟨_, rfl, ?_⟩
  rw [ageDue, if_pos (by simpa using h)]
  simp

section Ager
variable {v : Vale} {p : Fin 1024} {pos : Nat} {x : Partition} {e : Entry} {s : State} (hx : partAt s v p = some x)
  (he : tget x.slots pos = some e)
include hx he

/-- The ager passes over a static entry and over a locked one (R193, R199). -/
theorem exec_agerVisit_spared (h : e.static = true ∨ e.lock ≠ none) : exec (.agerVisit v p pos) s = .next s := by
  have hspared : e.static = true ∨ e.lock.isSome = true := h.imp_right Option.isSome_iff_ne_none.mpr
  show execAgerVisit v p pos s = _
  simp only [execAgerVisit, hx, he]
  refine congrArg Host.Outcome.next (if_pos (.inr (.inr ?_)))
  exact hspared.elim .inl (fun hlock => .inr (.inl hlock))

/-- R199: an old entry that is neither static nor locked is deleted. -/
theorem completes_agerVisit (hstop : s.err.failStop = false) (hmem : x.memory = 3) (hlimit : x.ageLimit ≠ 0)
    (hstatic : e.static = false) (hlock : e.lock = none) (hage : x.ageLimit ≤ ((s.vale v).table.now + 65536 - e.ts) % 65536) :
    Completes (.agerVisit v p pos) s (fun t => ∃ y, partAt t v p = some y ∧ tget y.slots pos = none ∧
      (∀ j, j ≠ pos → tget y.slots j = tget x.slots j) ∧ t.mem = s.mem) := by
  refine ⟨_, rfl, { x with slots := terase x.slots pos }, ?_, tget_terase_same _ _, fun j hj => tget_terase_other _ _ _ hj, ?_⟩
  all_goals
    simp only [hx, he]
    rw [if_neg (by simp [hstop, hmem, hlimit, hstatic, hlock, hage])]
  · obtain ⟨log, hlog⟩ := table_notify (count (deleteEntry s v p pos) (vkey v 0x3635 5)) v 3 e.slot (handleOf s (partKind v) p)
      (e.result.toNat % 2 ^ 32) e.key x.keyWidth
    refine (partAt_congr (by rw [hlog, vale_count]) _).trans (partAt_deleteEntry hx he)
  · rw [notify_mem, count_mem, deleteEntry_mem]

end Ager

theorem learningAndAging : Claims.LearningAndAging := by
  refine ⟨fun v l k s => completes_tableLockExpired, fun v r rest s hq hstop hstopped => ⟨?stale, ?present, ?new⟩, serves_learnLogRead,
    fun who v s => completes_learnLogRead, fun v s => exec_ageTick_early, fun v s => completes_ageTick,
    fun v p pos x e s hx he hstop hmem => ⟨exec_agerVisit_spared hx he, completes_agerVisit hx he hstop hmem⟩⟩
  case stale => exact exec_learnInsert_stale hq hstop hstopped
  case present => exact fun p => exec_learnInsert_present hq hstop hstopped
  case new =>
    intro p hcurrent hp hnew
    have hexec := exec_learnInsert_new hq hstop hstopped hcurrent hp hnew
    refine ⟨fun hok => ?_, fun hfail => ?_⟩
    · exact completes_learnInsert_placed hok (hexec.trans (congrArg _ (if_pos hok)))
    · exact completes_learnInsert_noRoom (hexec.trans (congrArg _ (if_neg hfail)))

/-! ### Scrubbing and bank tests (R186, R201, R202) -/

theorem exec_tcamScrub {v : Vale} {p : Fin 1024} {pos : Nat} {x : Partition} {s : State} (hx : partAt s v p = some x)
    (hmem : x.memory = 4) (hpos : pos < partSize x) (differs : Bool) :
    exec (.tcamScrub v p pos differs) s = .next (if differs then count s (vkey v 0x3637 2) else s) := by
  show execTcamScrub v p pos differs s = _
  simp [execTcamScrub, hx, hmem, hpos]

theorem serves_tableBankTest (who : Who) (v : Vale) (x : U16) : Serves (.tableBankTest who v x) (tableTestOp who v x) :=
  serves_of_runOp (fun _ => rfl)

/-- R201, Idle to Migrating: a spare is taken. -/
theorem completes_tableBankTest {who : Who} {v : Vale} {x : U16} {s : State} (hs : glenServes s = true)
    (hok : (tableTestOp who v x).status s = .ok) : Completes (.tableBankTest who v x) s (fun t =>
      (t.vale v).table.testSt = 1 ∧ (t.vale v).table.testBank = x.toNat ∧
      tgetD (t.vale v).table.spares (x.toNat / 256) 0 = tgetD (s.vale v).table.spares (x.toNat / 256) 0 + 1 ∧
      (t.vale v).table.parts = (s.vale v).table.parts ∧ t.mem = s.mem) := by
  refine (serves_tableBankTest who v x).completes hs hok ?_
  simp [tableTestOp, tmod]

theorem swapRows_parts (x : TableState) (k : Nat) : (swapRows x k).parts = x.parts := by
  unfold swapRows
  dsimp only
  split
  · split <;> rfl
  · rfl

/-- R201, Migrating to Testing. -/
theorem completes_tableMigrationDone {v : Vale} {s : State} (hst : (s.vale v).table.testSt = 1) :
    Completes (.tableMigrationDone v) s (fun t => (t.vale v).table.testSt = 2 ∧
      (t.vale v).table.parts = (s.vale v).table.parts ∧ t.mem = s.mem) := by
  refine ⟨_, rfl, ?_⟩
  rw [if_pos hst]
  simp [swapRows_parts]

/-- R201, the end of a test: the bank is a spare again, or retired. -/
theorem completes_tableTestDone {v : Vale} {s : State} (hst : (s.vale v).table.testSt = 2) (pass : Bool) :
    Completes (.tableTestDone v pass) s (fun t => (t.vale v).table.testSt = 0 ∧
      (t.vale v).table.parts = (s.vale v).table.parts ∧ t.mem = s.mem ∧
      (((t.vale v).table.testResult = .ok ∧ tgetD (t.vale v).table.spares ((s.vale v).table.testBank / 256) 0 =
          tgetD (s.vale v).table.spares ((s.vale v).table.testBank / 256) 0 - 1) ∨
        ((t.vale v).table.testResult = .halted ∧ (t.vale v).table.spares = (s.vale v).table.spares)) ∧
      (pass = false → (t.vale v).table.testResult = .halted)) := by
  have hvale : ∀ u b, (testVerdict s u b).2.vale v = s.vale v := fun _ _ => by cases v <;> rfl
  have hmem : ∀ u b, (testVerdict s u b).2.mem = s.mem := fun _ _ => rfl
  refine ⟨_, rfl, ?_⟩
  dsimp only
  rw [if_neg (by simp [hst])]
  split
  case isTrue hpass =>
    have hpassed : pass = true := (Bool.and_eq_true_iff.mp hpass).1
    simp [hvale, hmem, tmod, hpassed]
  case isFalse => simp [hvale, hmem]

theorem tableBanks : Claims.TableBanks :=
  ⟨fun _ _ _ _ _ hx hmem hpos => ⟨exec_tcamScrub hx hmem hpos true, exec_tcamScrub hx hmem hpos false⟩, serves_tableBankTest,
    fun _ _ _ _ => completes_tableBankTest, fun _ _ => completes_tableMigrationDone,
    fun _ pass _ hst => completes_tableTestDone hst pass⟩

/-- Settles O25: what each command, row and service of the learner, the ager and the bank test does to the Vale's tables. -/
theorem partitionsAndBanks : Obligations.PartitionsAndBanks := ⟨partitions, learningAndAging, tableBanks⟩

end Sys2Proof.Machine
end

section
/-! Proofs of the statement about the table command rings and the table commands (R187-R193, R291, R295). -/

namespace Sys2Proof.Machine

/-! ### Ring control (R187, R291, R295) -/

theorem exec_tcRingEnable {s : State} {host : Bool} (hopen : ringShut s host = false) (v : Vale) (r : Fin 8) (w : U32) :
    exec (.tcRingEnable v r ⟨w, host⟩) s = .next (setTcRing s v r (tcControl (msixSize s 0) (tcRingOf s v r) w)) := by
  show execTcRingEnable v r ⟨w, host⟩ s = _
  simp [execTcRingEnable, hopen]

/-- R295: a host's writes of a ring are discarded while PF0 does not serve. -/
theorem exec_ring_shut {s : State} {host : Bool} (hshut : ringShut s host = true) (v : Vale) (r : Fin 8) (w : U32) (x : BitVec 12) :
    exec (.tcRingEnable v r ⟨w, host⟩) s = .next s ∧ exec (.tcDoorbell v r ⟨x, host⟩) s = .next s := by
  constructor
  · show execTcRingEnable v r ⟨w, host⟩ s = _
    simp [execTcRingEnable, hshut]
  · show execTcDoorbell v r ⟨x, host⟩ s = _
    simp [execTcDoorbell, hshut]

section Control
variable {lim : Nat} {x : TcRing} {w : U32}

/-- SPACE and LOG2_SIZE as a control write leaves them (R187). -/
def controlSpace (x : TcRing) (w : U32) : Bool := if x.en then x.space else bitOf w.toNat 30
def controlLog2 (x : TcRing) (w : U32) : Nat := if x.en then x.log2 else bitsOf w.toNat 16 4

theorem ringVecBad_iff {space : Bool} : ringVecBad lim space w = true ↔ space = true ∧ lim ≤ bitsOf w.toNat 0 11 := by
  simp [ringVecBad]

/-- R187: a write that starts the ring. -/
theorem tcControl_starts (hen : bitOf w.toNat 31 = true) (hoff : x.en = false ∨ x.halted = true) (hlow : 4 ≤ controlLog2 x w)
    (hhigh : controlLog2 x w ≤ 12) (hvec : controlSpace x w = true → bitsOf w.toNat 0 11 < lim) :
    tcControl lim x w = { x with
      space := controlSpace x w, log2 := controlLog2 x w, intEn := bitOf w.toNat 29, vector := bitsOf w.toNat 0 11
      en := true, halted := false, reason := 0, head := 0, tail := 0, phase := true } := by
  have hgood : ringVecBad lim (controlSpace x w) w = false := by
    rw [← Bool.not_eq_true, ringVecBad_iff]
    exact fun h => Nat.not_lt.mpr h.2 (hvec h.1)
  have hstart : (!x.en || x.halted) = true := by simpa using hoff
  unfold controlSpace at hgood
  unfold controlLog2 at hlow hhigh
  simp [tcControl, hen, hgood, hstart, hlow, hhigh, controlSpace, controlLog2]

/-- R291: a vector beyond PF0's table is not taken, and starts no ring. -/
theorem tcControl_vector_bad (hspace : controlSpace x w = true) (hvec : lim ≤ bitsOf w.toNat 0 11) :
    (tcControl lim x w).vector = x.vector ∧ (x.en = false → (tcControl lim x w).en = false) ∧
      (x.halted = true → (tcControl lim x w).halted = true) := by
  have hbad := ringVecBad_iff.mpr ⟨hspace, hvec⟩
  unfold controlSpace at hbad
  unfold tcControl
  simp only [hbad]
  cases bitOf w.toNat 31 <;> simp

/-- R187: what stands while EN is 1, and while the ring runs. -/
theorem tcControl_enabled (hen : x.en = true) : (tcControl lim x w).space = x.space ∧ (tcControl lim x w).log2 = x.log2 ∧
    (tcControl lim x w).cmdLo = x.cmdLo ∧ (tcControl lim x w).cmdHi = x.cmdHi ∧ (x.halted = false → bitOf w.toNat 31 = true →
      (tcControl lim x w).head = x.head ∧ (tcControl lim x w).tail = x.tail ∧ (tcControl lim x w).phase = x.phase) := by
  unfold tcControl
  simp only [hen, if_true]
  split
  case isTrue =>
    split
    case isTrue hstart => exact ⟨rfl, rfl, rfl, rfl, fun hrun => by simp [hrun] at hstart⟩
    case isFalse => exact ⟨rfl, rfl, rfl, rfl, fun _ _ => ⟨rfl, rfl, rfl⟩⟩
  case isFalse hoff => exact ⟨rfl, rfl, rfl, rfl, fun _ hon => absurd hon hoff⟩

end Control

/-! ### Fetches and doorbells (R187, R188) -/

/-- A ring with nothing between HEAD and TAIL, or with EN = 0, has no command to fetch. -/
theorem tcFetch_none {s : State} {v : Vale} {r : Nat} (h : (tcRingOf s v r).en = false ∨ (tcRingOf s v r).head = (tcRingOf s v r).tail) :
    tcFetch s v r = none := by
  unfold tcFetch
  rcases h with h | h <;> simp [h]

/-- Commands that have an opcode wait at HEAD for their own row. -/
theorem tcSkip_eq_self {s : State} {v : Vale} {r : Nat} (h : ∀ c a, tcFetch s v r = some (some (c, a)) → 1 ≤ c.op ∧ c.op ≤ 8)
    (fuel : Nat) : tcSkip fuel v r s = s := by
  cases fuel with
  | zero => rfl
  | succ fuel =>
    unfold tcSkip
    split
    case h_1 c a hfetch => exact if_pos (h c a hfetch)
    case h_2 => rfl

theorem tcSkip_of_tcFetch_none {s : State} {v : Vale} {r : Nat} (h : tcFetch s v r = none) (fuel : Nat) : tcSkip fuel v r s = s :=
  tcSkip_eq_self (fun _ _ hfetch => by simp [h] at hfetch) fuel

section Doorbell
variable {s : State} {host : Bool} (hopen : ringShut s host = false) (v : Vale) (r : Fin 8) (x : BitVec 12)
include hopen

theorem exec_tcDoorbell : exec (.tcDoorbell v r ⟨x, host⟩) s = .next (tcSkip 4096 v r (tcDoorbellAt s v r x.toNat)) := by
  show execTcDoorbell v r ⟨x, host⟩ s = _
  simp [execTcDoorbell, hopen]

theorem exec_tcDoorbell_off (hoff : (tcRingOf s v r).en = false) : exec (.tcDoorbell v r ⟨x, host⟩) s = .next s := by
  have hat : tcDoorbellAt s v r x.toNat = s := by simp [tcDoorbellAt, hoff]
  rw [exec_tcDoorbell hopen, hat, tcSkip_of_tcFetch_none (tcFetch_none (.inl hoff))]

variable (hen : (tcRingOf s v r).en = true)
include hen

theorem exec_tcDoorbell_taken (hx : x.toNat < 2 ^ (tcRingOf s v r).log2) : exec (.tcDoorbell v r ⟨x, host⟩) s =
    .next (tcSkip 4096 v r (setTcRing s v r { tcRingOf s v r with tail := x.toNat })) := by
  rw [exec_tcDoorbell hopen, tcDoorbellAt, tcSize]
  simp [hen, Nat.not_le.mpr hx]

theorem exec_tcDoorbell_beyond (hx : 2 ^ (tcRingOf s v r).log2 ≤ x.toNat) : exec (.tcDoorbell v r ⟨x, host⟩) s =
    .next (tcSkip 4096 v r (count s (vkey v 0x3637 5))) := by
  rw [exec_tcDoorbell hopen, tcDoorbellAt, tcSize]
  simp [hen, hx]

end Doorbell

theorem tableRings : Claims.TableRings := by
  refine ⟨fun v r w host s hopen => ?enable, fun v r w x host s hshut => exec_ring_shut hshut v r w x,
    fun lim x w hen hoff hlow hhigh hvec => ?starts, fun lim x w => tcControl_vector_bad, fun lim x w => tcControl_enabled,
    fun v r x host s hopen => ⟨exec_tcDoorbell_off hopen v r x, fun hen hx => ⟨fun hops => ?_, ?_⟩, fun hen hx hops => ?_⟩⟩
  case enable =>
    refine ⟨_, exec_tcRingEnable hopen v r w, tcRingOf_setTcRing_same _ _ _ _, fun j hj => tcRingOf_setTcRing_other _ _ hj _, ?_,
      modTable_mem _ _ _, modTable_dict _ _ _⟩
    rw [table_setTcRing]
  case starts =>
    rw [tcControl_starts hen hoff hlow hhigh hvec]
    exact ⟨rfl, rfl, rfl, rfl, rfl, rfl, rfl⟩
  · rw [exec_tcDoorbell_taken hopen v r x hen hx, tcSkip_eq_self hops]
  · exact exec_tcDoorbell_taken hopen v r x hen hx
  · rw [exec_tcDoorbell_beyond hopen v r x hen hx, tcSkip_eq_self hops]

/-! ### A command's row (R188, R190) -/

section Row
variable {s s1 : State} {v : Vale} {r : Fin 8} {op : Nat} {c : TcCmd}

theorem TcAt.op_eq (hat : TcAt s v r op c s1) : c.op = op := hat.2.1

/-- A command whose checks pass runs, and is answered in its own slot. -/
theorem tcRow_done {a : State} {cpl : TcCpl} {run : Bool → TcCmd → TcRun} (hat : TcAt s v r op c s1)
    (hrun : run (tcRingOf s v r).space c s1 = some (a, cpl)) : tcRow v r op run s = TcDone s v r c a cpl := by
  obtain ⟨hfetch, hop, hok⟩ := hat
  simp [tcRow, hfetch, hop, tcOne, hok, hrun, TcDone]

/-- A command that fails its checks is answered with the failure, and does nothing. -/
theorem tcRow_refused (hfetch : tcFetch s v r = some (some (c, s1))) (hbad : tcChecks s1 v c ≠ .ok) (hop : c.op = op)
    (run : Bool → TcCmd → TcRun) : tcRow v r op run s = TcDone s v r c s1 { status := tcChecks s1 v c } := by
  have hone : tcOne s1 v r c (run (tcRingOf s v r).space c) = tcComplete s1 v r c.tag { status := tcChecks s1 v c } := by
    unfold tcOne
    split
    case h_1 hok => exact absurd hok hbad
    case h_2 => rfl
  simp [tcRow, hfetch, hop, hone, TcDone]

end Row

theorem failedTableCommands : Claims.FailedTableCommands := by
  intro v r s c s1 hfetch hbad i op hi hop
  have hrow := tcRow_refused hfetch hbad hop
  simp only [List.mem_cons, Prod.mk.injEq, List.not_mem_nil, or_false] at hi
  rcases hi with ⟨rfl, rfl⟩ | ⟨rfl, rfl⟩ | ⟨rfl, rfl⟩ | ⟨rfl, rfl⟩ | ⟨rfl, rfl⟩ | ⟨rfl, rfl⟩ | ⟨rfl, rfl⟩ | ⟨rfl, rfl⟩
  all_goals exact congrArg Host.Outcome.next (hrow _)

/-! ### What a completion says of an entry (R191) -/

@[simp] theorem tcContent_status (s : State) (v : Vale) (i pos : Nat) (c : TcCpl) : (tcContent s v i pos c).status = c.status := by
  unfold tcContent
  repeat' split
  all_goals rfl

@[simp] theorem tcContent_ticket (s : State) (v : Vale) (i pos : Nat) (c : TcCpl) : (tcContent s v i pos c).ticket = c.ticket := by
  unfold tcContent
  repeat' split
  all_goals rfl

theorem tcContent_entry {s : State} {v : Vale} {i pos : Nat} {p : Partition} {e : Entry} (hp : partAt s v i = some p)
    (he : tget p.slots pos = some e) (c : TcCpl) : (tcContent s v i pos c).found = true ∧ (tcContent s v i pos c).result = e.result := by
  simp [tcContent, hp, he]

/-! ### Commands of an entry (R189, R190, R193) -/

/-- What an effect on entries and locks leaves alone: the rings of its Vale. -/
def KeepsRings (s t : State) (v : Vale) : Prop := (t.vale v).table.rings = (s.vale v).table.rings

section Entry
variable {s : State} {v : Vale} {c : TcCmd} {p : Partition} (hp : partAt s v (hIdx c.part) = some p)
include hp

theorem tcOnEntry_absent (hq : tcFind (s.vale v).table p c = none) (hop : c.op ≠ 6)
    (f : Nat → Partition → Nat → Entry → State → State × TcCpl) : tcOnEntry v c f s = some (s, {}) := by
  simp [tcOnEntry, hp, hq, hop]

variable {q : Nat} {e : Entry} (hq : tcFind (s.vale v).table p c = some q) (he : tget p.slots q = some e)
include hq he

theorem tcOnEntry_found (f : Nat → Partition → Nat → Entry → State → State × TcCpl) :
    tcOnEntry v c f s = some (f (hIdx c.part) p q e s) := by
  simp [tcOnEntry, hp, hq, he]

theorem tcRunDelete_found (hticket : tcTicket (s.vale v).table p c (some e) = .ok) :
    tcRunDelete v c s = some (deleteEntry s v (hIdx c.part) q, { found := true }) := by
  rw [tcRunDelete, tcOnEntry_found hp hq he]
  simp [hticket]

theorem tcRunRead_found : tcRunRead v c s = some (s, tcContent s v (hIdx c.part) q {}) := tcOnEntry_found hp hq he _

end Entry

/-! The states that LOCK, UPDATE and UNLOCK leave. -/

/-- The ticket under which a lock is taken next (R193). -/
def nextTicket (x : TableState) (n : Nat) : Nat := (tgetD x.lockSeq n 0 + 1) % 65536 * 65536 + n

/-- The entry at `q` is locked, and lock `n` taken with its next ticket (R193). -/
def takeLock (s : State) (v : Vale) (i : Nat) (p : Partition) (q : Nat) (e : Entry) (n : Nat) : State :=
  (setPart s v i { p with slots := tset p.slots q { e with lock := some n } }).modTable v (fun y => { y with
    locks := tset y.locks n { part := i, pos := q, ticket := nextTicket (s.vale v).table n, since := nowNs s }
    lockSeq := tset y.lockSeq n ((tgetD (s.vale v).table.lockSeq n 0 + 1) % 65536)
    expired := y.expired.filter (fun z => decide (z.1 ≠ nextTicket (s.vale v).table n)) })

/-- The new content stands in the lock, and nowhere else (R190). -/
def stageUpdate (s : State) (v : Vale) (n : Nat) (l : Lock) (x : BitVec 64 × Bool) : State :=
  s.modTable v (fun y => { y with locks := tset y.locks n { l with staged := some x } })

/-- The entry as UNLOCK leaves it: with the staged content published under COMMIT, as it was otherwise (R190). -/
def unlockedEntry (x : TableState) (p : Partition) (c : TcCmd) (e : Entry) (l : Lock) : Entry :=
  if bitOf c.flags 1 then
    { e with lock := none, result := (l.staged.map (·.1)).getD e.result, static := (l.staged.map (·.2)).getD e.static
             ts := if p.memory = 3 then x.now else e.ts }
  else { e with lock := none }

theorem unlockedEntry_lock (x : TableState) (p : Partition) (c : TcCmd) (e : Entry) (l : Lock) :
    (unlockedEntry x p c e l).lock = none := by
  unfold unlockedEntry
  split <;> rfl

theorem unlockedEntry_result (x : TableState) (p : Partition) (c : TcCmd) (e : Entry) (l : Lock) :
    (unlockedEntry x p c e l).result = if bitOf c.flags 1 then (l.staged.map (·.1)).getD e.result else e.result := by
  unfold unlockedEntry
  split <;> rfl

/-- The entry at `q` is the unlocked one, and lock `n` is free (R193). -/
def releaseLock (s : State) (v : Vale) (i : Nat) (p : Partition) (q : Nat) (e : Entry) (n : Nat) : State :=
  (setPart s v i { p with slots := tset p.slots q e }).modTable v (fun y => { y with locks := terase y.locks n })

section Locks
variable {s : State} {v : Vale} {c : TcCmd} {p : Partition} (hp : partAt s v (hIdx c.part) = some p)
variable {q : Nat} {e : Entry} (hq : tcFind (s.vale v).table p c = some q) (he : tget p.slots q = some e)
include hp hq he

/-- R193: LOCK takes the lowest free lock, and answers its ticket and the entry's content. -/
theorem tcRunLock_takes {n : Nat} (hfree : e.lock = none) (hn : freeLock (s.vale v).table = some n) : ∃ a cpl,
    tcRunLock v c s = some (a, cpl) ∧ KeepsRings s a v ∧ cpl.status = .ok ∧ cpl.found = true ∧ cpl.result = e.result ∧
      cpl.ticket = nextTicket (s.vale v).table n ∧
      (∃ l, tget (a.vale v).table.locks n = some l ∧ l.ticket = cpl.ticket ∧ l.pos = q ∧ l.staged = none) ∧
      partAt a v (hIdx c.part) = some { p with slots := tset p.slots q { e with lock := some n } } := by
  have hrun : tcRunLock v c s = some (takeLock s v (hIdx c.part) p q e n,
      tcContent (takeLock s v (hIdx c.part) p q e n) v (hIdx c.part) q { ticket := nextTicket (s.vale v).table n }) := by
    rw [tcRunLock, tcOnEntry_found hp hq he]
    simp only [hfree, hn]
    rfl
  have hpart : partAt (takeLock s v (hIdx c.part) p q e n) v (hIdx c.part) =
      some { p with slots := tset p.slots q { e with lock := some n } } := by
    simp [partAt, takeLock, table_setPart]
  obtain ⟨hfound, hresult⟩ := tcContent_entry hpart (tget_tset_same _ _ _) { ticket := nextTicket (s.vale v).table n }
  refine ⟨_, _, hrun, ?_, tcContent_status .., hfound, hresult, tcContent_ticket ..,
    ⟨{ part := hIdx c.part, pos := q, ticket := nextTicket (s.vale v).table n, since := nowNs s }, ?_, ?_, rfl, rfl⟩, hpart⟩
  · simp [KeepsRings, takeLock, table_setPart]
  · rw [takeLock, vale_modTable]
    exact tget_tset_same _ _ _
  · rw [tcContent_ticket]

/-- R190: UPDATE stages the new result in the lock of its ticket; lookups do not see it. -/
theorem tcRunUpdate_stages {n : Nat} {l : Lock} (hlock : e.lock = some n) (hl : tget (s.vale v).table.locks n = some l)
    (hticket : tcTicket (s.vale v).table p c (some e) = .ok) : ∃ a cpl,
    tcRunUpdate v c s = some (a, cpl) ∧ KeepsRings s a v ∧ cpl.status = .ok ∧ cpl.result = e.result ∧
      partAt a v (hIdx c.part) = some p ∧
      ∃ m, tget (a.vale v).table.locks n = some m ∧ m.ticket = l.ticket ∧ m.staged.map (·.1) = some c.result := by
  obtain ⟨x, hx, hrun⟩ : ∃ x : BitVec 64 × Bool, x.1 = c.result ∧ tcRunUpdate v c s =
      some (stageUpdate s v n l x, tcContent (stageUpdate s v n l x) v (hIdx c.part) q {}) := by
    refine ⟨(c.result, if p.memory = 3 then bitOf c.flags 0 else e.static), rfl, ?_⟩
    rw [tcRunUpdate, tcOnEntry_found hp hq he]
    simp only [hticket, hlock, stageUpdate, State.modTable, State.modVale, hl]
  have hpart : partAt (stageUpdate s v n l x) v (hIdx c.part) = some p :=
    (partAt_congr (by rw [stageUpdate, vale_modTable]) _).trans hp
  refine ⟨_, _, hrun, ?_, tcContent_status .., (tcContent_entry hpart he _).2, hpart, { l with staged := some x }, ?_, rfl, ?_⟩
  · rw [KeepsRings, stageUpdate, vale_modTable]
  · rw [stageUpdate, vale_modTable]
    exact tget_tset_same _ _ _
  · rw [Option.map_some, hx]

/-- R190, R193: UNLOCK leaves the entry unlocked, under COMMIT with the staged content, and frees its lock. -/
theorem tcRunUnlock_releases {n : Nat} {l : Lock} (hlock : e.lock = some n) (hl : tget (s.vale v).table.locks n = some l)
    (hticket : tcTicket (s.vale v).table p c (some e) = .ok) : ∃ a cpl,
    tcRunUnlock v c s = some (a, cpl) ∧ KeepsRings s a v ∧ cpl.status = .ok ∧ tget (a.vale v).table.locks n = none ∧
      (partAt a v (hIdx c.part)).bind (fun x => tget x.slots q) = some (unlockedEntry (s.vale v).table p c e l) := by
  have hrun : tcRunUnlock v c s = some (releaseLock s v (hIdx c.part) p q (unlockedEntry (s.vale v).table p c e l) n,
      tcContent (releaseLock s v (hIdx c.part) p q (unlockedEntry (s.vale v).table p c e l) n) v (hIdx c.part) q {}) := by
    rw [tcRunUnlock, tcOnEntry_found hp hq he]
    simp only [hticket, hlock, Option.bind_some, hl, Option.getD_some]
    rfl
  refine ⟨_, _, hrun, ?_, tcContent_status .., ?_, ?_⟩
  · simp [KeepsRings, releaseLock, table_setPart]
  · rw [releaseLock, vale_modTable]
    exact tget_terase_same _ _
  · simp [partAt, releaseLock, table_setPart]

end Locks

/-- The holder's ticket lets a command go on (R190). -/
theorem tcTicket_holder {x : TableState} {p : Partition} {c : TcCmd} {e : Entry} {n : Nat} {l : Lock} (hlock : e.lock = some n)
    (hl : tget x.locks n = some l) (hticket : l.ticket = c.ticket)
    (hlive : x.expired.contains (c.ticket, c.part.toNat, tcIdent p c) = false) : tcTicket x p c (some e) = .ok := by
  unfold tcTicket
  rw [if_neg (by rw [hlive]; exact Bool.false_ne_true)]
  simp only [hlock, hl, hticket, if_true]

/-! ### INSERT, WALK and FLUSH (R183, R190, R192) -/

/-- The inserter's outcome for an INSERT (R183). -/
def tcInserted (x : TableState) (p : Partition) (c : TcCmd) : Inserted :=
  insertExact x p (tcEntry x.now p c 0).key (fun _ => tcEntry x.now p c 0)

/-- An insertion into an exact partition that succeeds leaves the inserter's partition; memory 1 counts no learn slots. -/
theorem tcInsertExact_placed (s : State) (v : Vale) (i : Nat) {p : Partition} {c : TcCmd} (hmem : p.memory = 1)
    (hok : (tcInserted (s.vale v).table p c).status = .ok) :
    ∃ cpl, tcInsertExact s v i p c = (setPart s v i (tcInserted (s.vale v).table p c).part, cpl) := by
  unfold tcInserted at hok ⊢
  refine ⟨_, Prod.ext ?_ rfl⟩
  rw [tcInsertExact]
  simp [hok, hmem]

section Partition
variable {s : State} {v : Vale} {c : TcCmd} {p : Partition} (hp : partAt s v (hIdx c.part) = some p)
include hp

theorem tcRunInsert_exact (hmem : p.memory = 1 ∨ p.memory = 3) (space : Bool) :
    tcRunInsert v space c s = some (tcInsertExact s v (hIdx c.part) p c) := by
  simp only [tcRunInsert, hp, if_pos hmem]

/-- A direct or range entry whose index is free is placed there (R189). -/
theorem tcRunInsert_index (hmem : p.memory = 5 ∨ p.memory = 6) (hkind : p.kind = 4 ∨ p.kind = 5)
    (hlive : posDead (s.vale v).table p c.index = false) (hfree : tget p.slots c.index = none) (space : Bool) :
    tcRunInsert v space c s = some (
      let a := setPart s v (hIdx c.part) { p with slots := tset p.slots c.index (tcEntry (s.vale v).table.now p c 0) }
      (a, tcContent a v (hIdx c.part) c.index {})) := by
  have hexact : ¬ (p.memory = 1 ∨ p.memory = 3) := by omega
  have hmasked : p.memory ≠ 4 ∧ p.kind ≠ 2 ∧ p.kind ≠ 3 := by omega
  obtain ⟨hmem4, hkind2, hkind3⟩ := hmasked
  have habsent : tcFind (s.vale v).table p c = none := by
    rw [tcFind, if_neg hexact, if_neg hkind2, if_neg hkind3, hfree, Option.map_none]
  simp only [tcRunInsert, hp, if_neg hexact, if_neg hkind3, tcInsertOther, habsent, if_neg hmem4, hlive, Bool.false_eq_true, if_false]

theorem tcRunWalk_reached {space : Bool}
    (hreach : tcReach s space c.buffer (96 * max (min c.count (walkTotal p - c.index)) 1) = true) :
    tcRunWalk v space c s = some (tcWriteMem s space c.buffer
      ((List.range (min c.count (walkTotal p - c.index))).flatMap (fun k => walkRecord p (c.index + k))),
      { location := c.index + min c.count (walkTotal p - c.index) }) := by
  simp [tcRunWalk, hp, hreach]

end Partition

/-- What FLUSH may do to a partition: no entry is new or changed, and locked ones stay (R190). -/
def FlushKeeps (p q : Partition) : Prop :=
  (∀ k e, tget q.slots k = some e → tget p.slots k = some e) ∧
  (∀ k e, tget p.slots k = some e → e.lock ≠ none → tget q.slots k = some e)

theorem flushKeeps_refl (p : Partition) : FlushKeeps p p := ⟨fun _ _ h => h, fun _ _ h _ => h⟩

theorem FlushKeeps.trans {p q r : Partition} (hpq : FlushKeeps p q) (hqr : FlushKeeps q r) : FlushKeeps p r :=
  ⟨fun k e h => hpq.1 k e (hqr.1 k e h), fun k e h hl => hqr.2 k e (hpq.2 k e h hl) hl⟩

/-- An unlocked entry may go. -/
theorem flushKeeps_terase {p : Partition} {pos : Nat} {e : Entry} (he : tget p.slots pos = some e) (hlock : e.lock = none) :
    FlushKeeps p { p with slots := terase p.slots pos } := by
  have hother {k : Nat} (hk : k ≠ pos) : tget (terase p.slots pos) k = tget p.slots k := tget_terase_other _ _ _ hk
  refine ⟨fun k x h => ?_, fun k x h hl => ?_⟩
  · have hk : k ≠ pos := by
      rintro rfl
      simp at h
    exact (hother hk).symm.trans h
  · have hk : k ≠ pos := by
      rintro rfl
      cases he.symm.trans h
      exact hl hlock
    exact (hother hk).trans h

theorem flushEntry_keeps {s : State} {v : Vale} {i : Nat} {p : Partition} (hp : partAt s v i = some p) (pos : Nat) :
    (∃ q, partAt (flushEntry s v i pos) v i = some q ∧ FlushKeeps p q) ∧ KeepsRings s (flushEntry s v i pos) v := by
  unfold flushEntry
  rw [hp, Option.bind_some]
  split
  case h_1 e he =>
    split
    · exact ⟨⟨p, hp, flushKeeps_refl p⟩, rfl⟩
    case isFalse hlock =>
      exact ⟨⟨_, partAt_deleteEntry hp he, flushKeeps_terase he (by simpa using hlock)⟩, by rw [KeepsRings, table_deleteEntry hp he]⟩
  case h_2 => exact ⟨⟨p, hp, flushKeeps_refl p⟩, rfl⟩

theorem foldl_flushEntry_keeps {v : Vale} {i : Nat} (l : List (Nat × Entry)) {s : State} {p : Partition} (hp : partAt s v i = some p) :
    (∃ q, partAt (l.foldl (fun a x => flushEntry a v i x.1) s) v i = some q ∧ FlushKeeps p q) ∧
      KeepsRings s (l.foldl (fun a x => flushEntry a v i x.1) s) v := by
  induction l generalizing s p with
  | nil => exact ⟨⟨p, hp, flushKeeps_refl p⟩, rfl⟩
  | cons x l ih =>
    obtain ⟨⟨q, hq, hkeeps⟩, hrings⟩ := flushEntry_keeps hp x.1
    obtain ⟨⟨q', hq', hkeeps'⟩, hrings'⟩ := ih hq
    exact ⟨⟨q', hq', hkeeps.trans hkeeps'⟩, hrings'.trans hrings⟩

/-- R190: FLUSH, and the number of locked entries that it answers. -/
theorem tcRunFlush_skips {s : State} {v : Vale} {c : TcCmd} {p : Partition} (hp : partAt s v (hIdx c.part) = some p) : ∃ a cpl,
    tcRunFlush v c s = some (a, cpl) ∧ KeepsRings s a v ∧ cpl.status = .ok ∧
      cpl.location = (p.slots.filter (fun e => !e.2.static && (bitOf c.flags 2 || decide (e.2.slot = c.index)) && e.2.lock.isSome)).length ∧
      ∃ q, partAt a v (hIdx c.part) = some q ∧ FlushKeeps p q := by
  obtain ⟨hpart, hrings⟩ := foldl_flushEntry_keeps
    (p.slots.filter (fun e => !e.2.static && (bitOf c.flags 2 || decide (e.2.slot = c.index)))) hp
  refine ⟨_, _, by rw [tcRunFlush, hp], hrings, rfl, ?_, hpart⟩
  simp only [List.filter_filter, Bool.and_comm]

theorem tableCommands : Claims.TableCommands := by
  intro v r s c s1 p hp
  have habsent {op : Nat} (hq : tcFind (s1.vale v).table p c = none) (hat : TcAt s v r op c s1) (hop : op ≠ 6) :=
    tcOnEntry_absent hp hq (fun h6 => hop (hat.op_eq.symm.trans h6))
  refine ⟨fun hat hmem hkind hlive hfree => ?index, fun hat hmem => ?exact, fun q e hq he => ⟨?delete, ?read, ?lock, ?update, ?unlock⟩,
    fun hq => ⟨?delete0, ?read0, ?lock0, ?update0⟩, fun hat hreach => ?walk, fun hat => ?flush⟩
  case index => exact congrArg _ (tcRow_done hat (tcRunInsert_index hp hmem hkind hlive hfree _))
  case exact => exact congrArg _ (tcRow_done hat (tcRunInsert_exact hp hmem _))
  case delete => exact fun hat hticket => congrArg _ (tcRow_done hat (tcRunDelete_found hp hq he hticket))
  case read => exact fun hat => congrArg _ (tcRow_done hat (tcRunRead_found hp hq he))
  case lock =>
    intro n hat hfree hn
    obtain ⟨a, cpl, hrun, -, hfacts⟩ := tcRunLock_takes hp hq he hfree hn
    exact ⟨a, cpl, congrArg _ (tcRow_done hat hrun), hfacts⟩
  case update =>
    intro n l hat hlock hl hticket hlive
    obtain ⟨a, cpl, hrun, -, hfacts⟩ := tcRunUpdate_stages hp hq he hlock hl (tcTicket_holder hlock hl hticket hlive)
    exact ⟨a, cpl, congrArg _ (tcRow_done hat hrun), hfacts⟩
  case unlock =>
    intro n l hat hlock hl hticket hlive
    obtain ⟨a, cpl, hrun, -, hok, hlocks, hentry⟩ := tcRunUnlock_releases hp hq he hlock hl (tcTicket_holder hlock hl hticket hlive)
    exact ⟨a, cpl, _, congrArg _ (tcRow_done hat hrun), hok, hlocks, hentry, unlockedEntry_lock .., unlockedEntry_result ..⟩
  case delete0 => exact fun hat => congrArg _ (tcRow_done hat (habsent hq hat (by decide) _))
  case read0 => exact fun hat => congrArg _ (tcRow_done hat (habsent hq hat (by decide) _))
  case lock0 => exact fun hat => congrArg _ (tcRow_done hat (habsent hq hat (by decide) _))
  case update0 => exact fun hat => congrArg _ (tcRow_done hat (habsent hq hat (by decide) _))
  case walk => exact congrArg _ (tcRow_done hat (tcRunWalk_reached hp hreach))
  case flush =>
    obtain ⟨a, cpl, hrun, -, hok, hlocation, -⟩ := tcRunFlush_skips hp
    exact ⟨a, cpl, congrArg _ (tcRow_done hat hrun), hok, hlocation⟩

/-! ### The last command of a ring (R188, R191) -/

/-- The ring with HEAD one command on, the phase inverted after the last slot. -/
def stepRing (g : TcRing) : TcRing :=
  { g with head := (g.head + 1) % tcSize g, phase := if (g.head + 1) % tcSize g = 0 then !g.phase else g.phase }

/-- A completion that reaches its slot steps the ring on, and changes nothing else of the Vale's tables. -/
theorem table_tcComplete {s : State} {v : Vale} {r : Nat} {g : TcRing} (hg : tcRingOf s v r = g)
    (hreach : tcReach s g.space (tcCplBase g + 32 * g.head) 32 = true) (tag : Nat) (cpl : TcCpl) :
    ((tcComplete s v r tag cpl).vale v).table =
      { (s.vale v).table with rings := tset (s.vale v).table.rings r (stepRing g) } := by
  simp [tcComplete, hg, hreach, table_setTcRing, stepRing, hostWrite]

section Last
variable {s s1 a : State} {v : Vale} {r : Fin 8} {op : Nat} {c : TcCmd} {cpl : TcCpl}

/-- The ring of a command stands through its fetch and through an effect that keeps the rings. -/
theorem tcRingOf_of_keepsRings (hat : TcAt s v r op c s1) (hkeeps : KeepsRings s1 a v) : tcRingOf a v r = tcRingOf s v r :=
  tcRingOf_congr (hkeeps.trans (by rw [vale_tcFetch hat.1])) r

/-- After the last command of a ring its completion is written, and no command is left to fetch. -/
theorem tcDone_last (hg : tcRingOf a v r = tcRingOf s v r) (hlast : TcLast s a v r) :
    TcDone s v r c a cpl = tcComplete a v r c.tag cpl := by
  obtain ⟨htail, hreach⟩ := hlast
  refine tcSkip_of_tcFetch_none (tcFetch_none (.inr ?_)) _
  rw [tcRingOf, table_tcComplete hg hreach, tgetD_tset_same]
  exact htail.symm

/-- The last command of a ring: HEAD steps past it, and the Vale's tables are those of its effect. -/
theorem completes_last {i : Instr} {P : State → Prop} (hat : TcAt s v r op c s1) (hexec : exec i s = .next (TcDone s v r c a cpl))
    (hkeeps : KeepsRings s1 a v) (hlast : TcLast s a v r)
    (hP : ∀ t, (∀ j, partAt t v j = partAt a v j) → (t.vale v).table.locks = (a.vale v).table.locks → P t) :
    Completes i s (fun t => TcStepped s t v r ∧ P t) := by
  have hg := tcRingOf_of_keepsRings hat hkeeps
  have htable := table_tcComplete hg hlast.2 c.tag cpl
  rw [tcDone_last hg hlast] at hexec
  refine ⟨_, hexec, ?_, hP _ (fun j => partAt_congr (by rw [htable]) j) (by rw [htable])⟩
  rw [TcStepped, tcRingOf, htable, tgetD_tset_same]
  rfl

end Last

theorem tableCommandsComplete : Claims.TableCommandsComplete := by
  intro v r s c s1 p hp n
  have hsame : KeepsRings s1 s1 v := rfl
  refine ⟨fun hat hmem hok hlast => ?insert, fun q e hq he => ⟨fun hat hticket hlast => ?delete, fun hat hlast => ?read,
    fun k hat hfree hk hlast => ?lock, fun k l hat hlock hl hticket hlive hlast => ?update,
    fun k l hat hlock hl hticket hlive hlast => ?unlock⟩, fun hat hreach hlast => ?walk, fun hat hlast => ?flush⟩
  case insert =>
    obtain ⟨cpl, hinsert⟩ := tcInsertExact_placed s1 v (hIdx c.part) hmem hok
    refine completes_last hat (congrArg _ (tcRow_done hat ((tcRunInsert_exact hp (.inl hmem) _).trans (congrArg _ hinsert))))
      (by rw [KeepsRings, table_setPart]) hlast (fun t hparts _ => ⟨?_, tget_insertExact hok⟩)
    exact (hparts _).trans (partAt_setPart_same _ _ _ _)
  case delete =>
    refine completes_last hat (congrArg _ (tcRow_done hat (tcRunDelete_found hp hq he hticket)))
      (by rw [KeepsRings, table_deleteEntry hp he]) hlast (fun t hparts _ => ?_)
    exact (hparts _).trans (partAt_deleteEntry hp he)
  case read =>
    exact completes_last hat (congrArg _ (tcRow_done hat (tcRunRead_found hp hq he))) hsame hlast
      (fun t hparts _ => (hparts _).trans hp)
  case lock =>
    obtain ⟨a, cpl, hrun, hkeeps, -, -, -, -, ⟨l, hl, -, hpos, -⟩, hpart⟩ := tcRunLock_takes hp hq he hfree hk
    refine completes_last hat (congrArg _ (tcRow_done hat hrun)) hkeeps (hlast a cpl hrun)
      (fun t hparts hlocks => ⟨(hparts _).trans hpart, ?_⟩)
    rw [hlocks, hl, Option.map_some, hpos]
  case update =>
    obtain ⟨a, cpl, hrun, hkeeps, -, -, hpart, m, hm, -, hstaged⟩ :=
      tcRunUpdate_stages hp hq he hlock hl (tcTicket_holder hlock hl hticket hlive)
    refine completes_last hat (congrArg _ (tcRow_done hat hrun)) hkeeps (hlast a cpl hrun)
      (fun t hparts hlocks => ⟨(hparts _).trans hpart, ?_⟩)
    rw [hlocks, hm, Option.bind_some, hstaged]
  case unlock =>
    obtain ⟨a, cpl, hrun, hkeeps, -, hfree, hentry⟩ :=
      tcRunUnlock_releases hp hq he hlock hl (tcTicket_holder hlock hl hticket hlive)
    refine completes_last hat (congrArg _ (tcRow_done hat hrun)) hkeeps (hlast a cpl hrun)
      (fun t hparts hlocks => ⟨by rw [hlocks, hfree], ?_⟩)
    rw [hparts, hentry, Option.map_some, unlockedEntry_lock]
  case walk =>
    have hrun := tcRunWalk_reached hp hreach
    refine completes_last hat (congrArg _ (tcRow_done hat hrun)) (by rw [KeepsRings, vale_tcWriteMem]) (hlast _ _ hrun)
      (fun t hparts _ => ?_)
    exact (hparts _).trans ((partAt_congr (by rw [vale_tcWriteMem]) _).trans hp)
  case flush =>
    obtain ⟨a, cpl, hrun, hkeeps, -, -, q, hq, hflush⟩ := tcRunFlush_skips hp
    exact completes_last hat (congrArg _ (tcRow_done hat hrun)) hkeeps (hlast a cpl hrun)
      (fun t hparts _ => ⟨q, (hparts _).trans hq, hflush⟩)

/-- Settles O26: what ring writes and each table command do to the ring, its completion and the identified entry. -/
theorem tableRingCommands : Obligations.TableRingCommands :=
  ⟨tableRings, tableCommands, tableCommandsComplete, failedTableCommands⟩

end Sys2Proof.Machine
end

section
/-! Proofs of the statement about the objects of the traffic manager: queues, shapers and the size of the Floodplain
(R209-R211, R217-R220, R224). -/

namespace Sys2Proof.Machine

/-! ### Creating and ending an object (R18, R19, R23) -/

/-- A kind that is not short has an index to take. -/
theorem allocIndex_of_not_short {s : State} {kind : Nat} {quota : Bool} (h : (!quota || !hasFree s kind) = false) :
    ∃ i s1, allocIndex s kind = some (i, s1) := by
  rw [Bool.or_eq_false_iff, Bool.not_eq_false', Bool.not_eq_false'] at h
  obtain ⟨⟨i, s1⟩, halloc⟩ := Option.isSome_iff_exists.mp h.2
  exact ⟨i, s1, halloc⟩

/-- The state in which an index of a kind has its owner, and the owner's usage has risen (R19, R23). -/
def objOwned (s : State) (kind i : Nat) (o : Handle) : State := addUsage (setOwner s kind i o) o kind

theorem objOwned_keeps (s : State) (kind i : Nat) (o : Handle) (v : Vale) : (objOwned s kind i o).vale v = s.vale v ∧
    (objOwned s kind i o).dict.gens = s.dict.gens ∧ (objOwned s kind i o).mem = s.mem := by
  unfold objOwned addUsage
  split <;> cases v <;> exact ⟨rfl, rfl, rfl⟩

@[simp] theorem numD_subUsage (s : State) (o : Handle) (kind k d : Nat) : numD (subUsage s o kind) k d = numD s k d := by
  unfold subUsage
  split <;> rfl

/-- The end of an object leaves the values of the dictionary. -/
@[simp] theorem numD_endObj (s : State) (kind i k d : Nat) : numD (endObj s kind i) k d = numD s k d := by
  unfold endObj
  dsimp only
  split
  · exact (numD_of_dict (modTen_dict _ _ _) k d).trans (numD_subUsage s _ kind k d)
  · exact numD_subUsage s _ kind k d

/-- The state in which a value of the dictionary has its default again, as the record of an object that has ended. -/
def eraseNum (s : State) (k : Nat) : State := { s with dict := { s.dict with nums := terase s.dict.nums k } }

@[simp] theorem vale_eraseNum (s : State) (k : Nat) (v : Vale) : (eraseNum s k).vale v = s.vale v := by cases v <;> rfl

@[simp] theorem eraseNum_mem (s : State) (k : Nat) : (eraseNum s k).mem = s.mem := rfl

@[simp] theorem numD_eraseNum_same (s : State) (k d : Nat) : numD (eraseNum s k) k d = d := tgetD_terase_same _ _ _

/-! ### The traffic manager of a Vale -/

@[simp] theorem vale_modTm (s : State) (v : Vale) (f : TmState → TmState) :
    (s.modTm v f).vale v = { s.vale v with tm := f (s.vale v).tm } :=
  vale_modVale _ _ _

theorem tmQueue_congr {s t : State} {v : Vale} (h : (t.vale v).tm.queues = (s.vale v).tm.queues) (q : Nat) :
    tmQueue t v q = tmQueue s v q := by
  rw [tmQueue, tmQueue, h]

@[simp] theorem tmQueue_respond (s : State) (st : Status) (r : Nat) (bs : List Byte) (v : Vale) (q : Nat) :
    tmQueue (respond s st r bs) v q = tmQueue s v q :=
  tmQueue_congr (by rw [vale_respond]) q

theorem tmQueue_setTmQueue_other (s : State) (v : Vale) {q j : Nat} (h : j ≠ q) (x : TmQueue) :
    tmQueue (setTmQueue s v q x) v j = tmQueue s v j := by
  rw [tmQueue, setTmQueue, vale_modTm, tgetD_tset_other _ _ _ _ _ h, ← tmQueue]

theorem tmQueue_setDeficit (v : Vale) (s : State) (e : Nat) (d : Int) (q : Nat) : tmQueue (setDeficit v s e d) v q = tmQueue s v q := by
  obtain ⟨-, hqueues, -⟩ := setDeficit_keeps v s e d
  exact tmQueue_congr hqueues q

@[simp] theorem setDeficit_mem (v : Vale) (s : State) (e : Nat) (d : Int) : (setDeficit v s e d).mem = s.mem := modTm_mem _ _ _

@[simp] theorem setTmQueue_mem (s : State) (v : Vale) (q : Nat) (x : TmQueue) : (setTmQueue s v q x).mem = s.mem := modTm_mem _ _ _

@[simp] theorem settleAll_mem (s : State) (v : Vale) : (settleAll s v).mem = s.mem := by
  unfold settleAll
  refine foldl_mem (fun a p => ?_) _ _
  split <;> simp

@[simp] theorem untarget_mem (s : State) (v : Vale) (e : Nat) : (untarget s v e).mem = s.mem := by
  unfold untarget
  dsimp only
  rw [foldl_mem, modTm_mem]
  intro a p
  split <;> simp

@[simp] theorem flushQueue_mem (s : State) (v : Vale) (q : Nat) : (flushQueue s v q).mem = s.mem := by
  simp [flushQueue]

@[simp] theorem unwatch_mem (s : State) (v : Vale) (q : Nat) : (unwatch s v q).mem = s.mem := rfl

/-! ### Queues (R209-R211) -/

theorem serves_queueCreate (who : Who) (v : Vale) (r : Rec 32) : Serves (.queueCreate who v r) (queueCreateOp who v r) :=
  serves_of_runOp (fun _ => rfl)

theorem serves_queueConfWrite (who : Who) (v : Vale) (q : Fin 32768) (r : Rec 32) :
    Serves (.queueConfWrite who v q r) (queueConfOp who v q r) :=
  serves_of_runOp (fun _ => rfl)

theorem serves_queueDestroy (who : Who) (v : Vale) (h : Handle) : Serves (.queueDestroy who v h) (queueDestroyOp who v h) :=
  serves_of_runOp (fun _ => rfl)

/-- A create that passes its checks has an index to take. -/
theorem allocIndex_of_queueCreate_ok {who : Who} {v : Vale} {r : Rec 32} {s : State} (hok : (queueCreateOp who v r).status s = .ok) :
    ∃ i s1, allocIndex s (queueKind v) = some (i, s1) :=
  allocIndex_of_not_short (not_applies_of_ok hok (st := .noResource) (by decide)
    (List.mem_append_right _ (.tail _ (.tail _ (.head _)))))

/-- The state in which index `i` is a new queue of record `c`: owned, empty, its deficit 0 (R209, R214). -/
def queuePlaced (s : State) (v : Vale) (i c : Nat) : State :=
  setDeficit v (setTmQueue (setNum (objOwned s (queueKind v) i (qOwner c)) (queueKey v i) c) v i {}) (elemId 5 i) 0

theorem queuePlaced_dict (s : State) (v : Vale) (i c : Nat) :
    (queuePlaced s v i c).dict = (setNum (objOwned s (queueKind v) i (qOwner c)) (queueKey v i) c).dict := by
  rw [queuePlaced, setDeficit, modTm_dict, setTmQueue, modTm_dict]

theorem queueConf_queuePlaced (s : State) (v : Vale) (i c : Nat) : queueConf (queuePlaced s v i c) v i = c :=
  (queueConf_of_dict (queuePlaced_dict s v i c) v i).trans (numD_setNum_same _ _ _ _)

theorem handleOf_queuePlaced (s : State) (v : Vale) (i c kind j : Nat) : handleOf (queuePlaced s v i c) kind j = handleOf s kind j := by
  refine handleOf_of_gens ?_ _ _
  rw [queuePlaced_dict]
  exact (objOwned_keeps s (queueKind v) i (qOwner c) v).2.1

theorem tmQueue_queuePlaced (s : State) (v : Vale) (i c : Nat) : tmQueue (queuePlaced s v i c) v i = {} ∧
    ∀ j, j ≠ i → tmQueue (queuePlaced s v i c) v j = tmQueue s v j := by
  refine ⟨(tmQueue_setDeficit ..).trans (tmQueue_setTmQueue ..), fun j hj => (tmQueue_setDeficit ..).trans ?_⟩
  rw [tmQueue_setTmQueue_other _ _ hj]
  exact tmQueue_congr (by rw [vale_setNum, (objOwned_keeps ..).1]) j

theorem queuePlaced_mem (s : State) (v : Vale) (i c : Nat) : (queuePlaced s v i c).mem = s.mem := by
  rw [queuePlaced, setDeficit_mem, setTmQueue_mem, setNum_mem, (objOwned_keeps s _ i _ v).2.2]

theorem queueCreateOp_effect {v : Vale} {s s1 : State} {i : Nat} (halloc : allocIndex s (queueKind v) = some (i, s1)) (who : Who)
    (r : Rec 32) : (queueCreateOp who v r).effect s =
      (queuePlaced s1 v i (queueIn r.toNat), beBytes 4 (handleOf s1 (queueKind v) i).toNat) := by
  simp only [queueCreateOp, halloc]
  exact Prod.ext rfl (congrArg (fun h : Handle => beBytes 4 h.toNat) (handleOf_queuePlaced s1 v i _ _ _))

/-- R209: the new queue has its record and is empty, and its handle is answered. -/
theorem completes_queueCreate {who : Who} {v : Vale} {r : Rec 32} {s : State} (hs : glenServes s = true)
    (hok : (queueCreateOp who v r).status s = .ok) : Completes (.queueCreate who v r) s (fun t =>
    ∃ i, (allocIndex s (queueKind v)).map (·.1) = some i ∧ queueConf t v i = queueIn r.toNat ∧ tmQueue t v i = {} ∧
      (∀ j, j ≠ i → tmQueue t v j = tmQueue s v j) ∧ t.resp.status = .ok ∧
      t.resp.payload = beBytes 4 (handleOf s (queueKind v) i).toNat ∧ t.mem = s.mem) := by
  obtain ⟨i, s1, halloc⟩ := allocIndex_of_queueCreate_ok hok
  obtain ⟨hvale1, hgens1, hmem1⟩ := allocIndex_keeps halloc v
  obtain ⟨hempty, hothers⟩ := tmQueue_queuePlaced s1 v i (queueIn r.toNat)
  refine (serves_queueCreate who v r).completes hs hok ⟨i, by rw [halloc]; rfl, ?_⟩
  rw [queueCreateOp_effect halloc]
  refine ⟨queueConf_queuePlaced _ _ _ _, (tmQueue_respond ..).trans hempty, fun j hj => ?_, rfl, ?_, ?_⟩
  · exact (tmQueue_respond ..).trans ((hothers j hj).trans (tmQueue_congr (by rw [hvale1]) j))
  · rw [respond_resp, handleOf_of_gens hgens1]
  · rw [respond_mem, queuePlaced_mem, hmem1]

/-- The last steps of a queue's end: its packets, its deficit and its record go, and then its owner and index. -/
theorem endQueue_eq (s : State) (v : Vale) (q : Nat) : endQueue s v q =
    endObj (eraseNum ((settleAll (untarget (unwatch (flushQueue s v q) v q) v (elemId 5 q)) v).modTm v (fun t =>
      { t with queues := terase t.queues q, deficits := terase t.deficits (elemId 5 q) })) (queueKey v q)) (queueKind v) q :=
  rfl

/-- R211: a queue that ends has its record all zero and holds no packet. -/
theorem endQueue_gone (s : State) (v : Vale) (q : Nat) :
    queueConf (endQueue s v q) v q = 0 ∧ tmQueue (endQueue s v q) v q = {} := by
  rw [endQueue_eq]
  constructor
  · rw [queueConf, numD_endObj, numD_eraseNum_same]
  · rw [tmQueue, vale_endObj, vale_eraseNum, vale_modTm, tgetD_terase_same]

@[simp] theorem endQueue_mem (s : State) (v : Vale) (q : Nat) : (endQueue s v q).mem = s.mem := by
  rw [endQueue_eq, endObj_mem, eraseNum_mem, modTm_mem, settleAll_mem, untarget_mem, unwatch_mem, flushQueue_mem]

theorem completes_queueDestroy {who : Who} {v : Vale} {h : Handle} {s : State} (hs : glenServes s = true)
    (hok : (queueDestroyOp who v h).status s = .ok) : Completes (.queueDestroy who v h) s (fun t =>
      queueConf t v (hIdx h) = 0 ∧ tmQueue t v (hIdx h) = {} ∧ t.resp.status = .ok ∧ t.mem = s.mem) := by
  obtain ⟨hrecord, hempty⟩ := endQueue_gone (bumpGen s (queueKind v) (hIdx h)) v (hIdx h)
  refine (serves_queueDestroy who v h).completes hs hok ⟨hrecord, ?_, rfl, endQueue_mem _ _ _⟩
  exact (tmQueue_respond ..).trans hempty

/-- R210: a write that passes its checks keeps the owner, the class node and the destination. -/
theorem queueConf_checks {who : Who} {v : Vale} {q : Fin 32768} {r : Rec 32} {s : State}
    (hok : (queueConfOp who v q r).status s = .ok) : qOwner (queueIn r.toNat) = qOwner (queueConf s v q) ∧
      qClass (queueIn r.toNat) = qClass (queueConf s v q) ∧ qDest (queueIn r.toNat) = qDest (queueConf s v q) := by
  have hrange := not_applies_of_ok hok (st := .range) (by decide)
    (List.mem_append_right _ (List.mem_cons_self ..))
  simp only [Bool.or_eq_false_iff, decide_eq_false_iff_not, ne_eq, Decidable.not_not] at hrange
  obtain ⟨⟨⟨-, howner⟩, hclass⟩, hdest⟩ := hrange
  exact ⟨howner, hclass, hdest⟩

theorem completes_queueConfWrite {who : Who} {v : Vale} {q : Fin 32768} {r : Rec 32} {s : State} (hs : glenServes s = true)
    (hok : (queueConfOp who v q r).status s = .ok) : Completes (.queueConfWrite who v q r) s (fun t =>
    queueConf t v q = queueIn r.toNat ∧ qOwner (queueConf t v q) = qOwner (queueConf s v q) ∧
      qClass (queueConf t v q) = qClass (queueConf s v q) ∧ qDest (queueConf t v q) = qDest (queueConf s v q) ∧
      t.mem = s.mem ∧ t.east = s.east ∧ t.west = s.west) := by
  obtain ⟨howner, hclass, hdest⟩ := queueConf_checks hok
  have hrecord : queueConf (setNum s (queueKey v q) (queueIn r.toNat)) v q = queueIn r.toNat := numD_setNum_same _ _ _ _
  exact (serves_queueConfWrite who v q r).completes hs hok ⟨hrecord, (congrArg qOwner hrecord).trans howner,
    (congrArg qClass hrecord).trans hclass, (congrArg qDest hrecord).trans hdest, rfl, rfl, rfl⟩

/-! ### Shapers (R217-R220) -/

theorem serves_shaperCreate (who : Who) (v : Vale) (r : Rec 20) : Serves (.shaperCreate who v r) (shaperCreateOp who v r) :=
  serves_of_runOp (fun _ => rfl)

theorem serves_shaperWrite (who : Who) (v : Vale) (i : Fin 36864) (r : Rec 16) :
    Serves (.shaperWrite who v i r) (shaperWriteOp who v i r) :=
  serves_of_runOp (fun _ => rfl)

theorem serves_shaperDestroy (who : Who) (v : Vale) (h : Handle) : Serves (.shaperDestroy who v h) (shaperDestroyOp who v h) :=
  serves_of_runOp (fun _ => rfl)

theorem allocIndex_of_shaperCreate_ok {who : Who} {v : Vale} {r : Rec 20} {s : State}
    (hok : (shaperCreateOp who v r).status s = .ok) : ∃ i s1, allocIndex s (shaperKind v) = some (i, s1) :=
  allocIndex_of_not_short (not_applies_of_ok hok (st := .noResource) (by decide)
    (List.mem_append_right _ (.tail _ (.tail _ (.head _)))))

/-- The state in which index `i` is a new shaper of record `c`, owned by `o`, that loads its record at the next tick (R217; log
entry 31). -/
def shaperPlaced (s : State) (v : Vale) (i c : Nat) (o : Handle) : State :=
  (setNum (objOwned s (shaperKind v) i o) (shaperKey v i) c).modTm v (fun t => { t with shapers := tset t.shapers i { load := true } })

theorem shaperCreateOp_effect {v : Vale} {s s1 : State} {i : Nat} (halloc : allocIndex s (shaperKind v) = some (i, s1)) (who : Who)
    (r : Rec 20) : (shaperCreateOp who v r).effect s =
      (shaperPlaced s1 v i (shaperIn (r.toNat % 256 ^ 16)) (BitVec.ofNat 32 (recField 20 0 4 r.toNat)),
        beBytes 4 (handleOf s1 (shaperKind v) i).toNat) := by
  simp only [shaperCreateOp, halloc]
  refine Prod.ext rfl (congrArg (fun h : Handle => beBytes 4 h.toNat) (handleOf_of_gens ?_ _ _))
  rw [modTm_dict]
  exact (objOwned_keeps s1 (shaperKind v) i _ v).2.1

theorem vale_shaperPlaced (s : State) (v : Vale) (i c : Nat) (o : Handle) : (shaperPlaced s v i c o).vale v =
    { s.vale v with tm := { (s.vale v).tm with shapers := tset (s.vale v).tm.shapers i { load := true } } } := by
  rw [shaperPlaced, vale_modTm, vale_setNum, (objOwned_keeps ..).1]

/-- R217: the new shaper has its record, loads it at the next tick, and its handle is answered. -/
theorem completes_shaperCreate {who : Who} {v : Vale} {r : Rec 20} {s : State} (hs : glenServes s = true)
    (hok : (shaperCreateOp who v r).status s = .ok) : Completes (.shaperCreate who v r) s (fun t =>
    ∃ i, (allocIndex s (shaperKind v)).map (·.1) = some i ∧ numD t (shaperKey v i) 0 = shaperIn (r.toNat % 256 ^ 16) ∧
      tget (t.vale v).tm.shapers i = some { load := true } ∧ t.resp.status = .ok ∧
      t.resp.payload = beBytes 4 (handleOf s (shaperKind v) i).toNat ∧ (t.vale v).path = (s.vale v).path ∧ t.mem = s.mem) := by
  obtain ⟨i, s1, halloc⟩ := allocIndex_of_shaperCreate_ok hok
  obtain ⟨hvale1, hgens1, hmem1⟩ := allocIndex_keeps halloc v
  refine (serves_shaperCreate who v r).completes hs hok ⟨i, by rw [halloc]; rfl, ?_⟩
  rw [shaperCreateOp_effect halloc, vale_respond, vale_shaperPlaced, hvale1]
  refine ⟨?_, tget_tset_same _ _ _, rfl, ?_, rfl, ?_⟩
  · exact (numD_of_dict (modTm_dict _ _ _) _ _).trans (numD_setNum_same _ _ _ _)
  · rw [respond_resp, handleOf_of_gens hgens1]
  · rw [respond_mem, shaperPlaced, modTm_mem, setNum_mem, (objOwned_keeps s1 _ i _ v).2.2, hmem1]

theorem completes_shaperWrite {who : Who} {v : Vale} {i : Fin 36864} {r : Rec 16} {s : State} (hs : glenServes s = true)
    (hok : (shaperWriteOp who v i r).status s = .ok) : Completes (.shaperWrite who v i r) s (fun t =>
    numD t (shaperKey v i) 0 = shaperIn r.toNat ∧ (∃ x, tget (t.vale v).tm.shapers i = some x ∧ x.load = true) ∧
      (t.vale v).path = (s.vale v).path ∧ t.mem = s.mem) := by
  refine (serves_shaperWrite who v i r).completes hs hok ?_
  simp only [shaperWriteOp, numD_respond, vale_respond, respond_mem, vale_modTm, vale_setNum, modTm_mem, setNum_mem]
  exact ⟨(numD_of_dict (modTm_dict _ _ _) _ _).trans (numD_setNum_same _ _ _ _), ⟨_, tget_tset_same _ _ _, rfl⟩, trivial, trivial⟩

theorem freeShaper_eq (s : State) (v : Vale) (i : Nat) : freeShaper s v i =
    endObj (eraseNum (s.modTm v (fun t => { t with shapers := terase t.shapers i })) (shaperKey v i)) (shaperKind v) i :=
  rfl

/-- A shaper that is freed leaves the rest of its Vale. -/
theorem vale_freeShaper (s : State) (v : Vale) (i : Nat) : (freeShaper s v i).vale v =
    { s.vale v with tm := { (s.vale v).tm with shapers := terase (s.vale v).tm.shapers i } } := by
  rw [freeShaper_eq, vale_endObj, vale_eraseNum, vale_modTm]

/-- R217: the record of a shaper that is freed is all zero. -/
theorem numD_freeShaper (s : State) (v : Vale) (i : Nat) : numD (freeShaper s v i) (shaperKey v i) 0 = 0 := by
  rw [freeShaper_eq, numD_endObj, numD_eraseNum_same]

@[simp] theorem freeShaper_mem (s : State) (v : Vale) (i : Nat) : (freeShaper s v i).mem = s.mem := by
  rw [freeShaper_eq, endObj_mem, eraseNum_mem, modTm_mem]

theorem completes_shaperDestroy {who : Who} {v : Vale} {h : Handle} {s : State} (hs : glenServes s = true)
    (hok : (shaperDestroyOp who v h).status s = .ok) : Completes (.shaperDestroy who v h) s (fun t =>
    numD t (shaperKey v (hIdx h)) 0 = 0 ∧ tget (t.vale v).tm.shapers (hIdx h) = none ∧ t.resp.status = .ok ∧
      (t.vale v).path = (s.vale v).path ∧ t.mem = s.mem) := by
  refine (serves_shaperDestroy who v h).completes hs hok ⟨numD_freeShaper _ _ _, ?_⟩
  simp only [shaperDestroyOp, respond_resp, vale_respond, respond_mem, vale_freeShaper, vale_bumpGen, freeShaper_mem, bumpGen_mem]
  exact ⟨tget_terase_same _ _, trivial, trivial, trivial⟩

/-- R220: at the tick after a write the record is in force, with a full or an empty bucket. -/
theorem shaperTick_load (r : Nat) {x : Shaper} (h : x.load = true) :
    shaperTick r x = { act := r, tokens := if shResetFull r then (shBurst r * 65536 : Nat) else 0 } :=
  if_pos h

/-- R219: any other tick adds the rate's tokens, up to the burst, and keeps the record in force. -/
theorem shaperTick_fill (r : Nat) {x : Shaper} (h : x.load = false) : shaperTick r x =
    { x with tokens := min (x.tokens + (tickInc (shRate x.act) : Nat)) (shBurst x.act * 65536 : Nat) } :=
  if_neg (by simp [h])

/-! ### The size of the Floodplain (R224) -/

theorem serves_floodSizeWrite (who : Who) (v : Vale) (x : U8) : Serves (.floodSizeWrite who v x) (floodSizeOp who v x) :=
  serves_of_runOp (fun _ => rfl)

/-- A size that passes its checks is at most 16. -/
theorem floodSize_le_of_ok {who : Who} {v : Vale} {x : U8} {s : State} (hok : (floodSizeOp who v x).status s = .ok) : x.toNat ≤ 16 :=
  Nat.not_lt.mp (of_decide_eq_false (not_applies_of_ok hok (st := .range) (by decide)
    (List.mem_append_right _ (List.mem_cons_self ..))))

/-- A value that waits for its commit to flash changes the list of those that wait alone (R43). -/
theorem persist_eq (s : State) (k : Nat) : ∃ ks, persist s k = { s with dict := { s.dict with pending := ks } } := by
  unfold persist
  split
  · exact ⟨_, rfl⟩
  · exact ⟨_, rfl⟩

theorem completes_floodSizeWrite {who : Who} {v : Vale} {x : U8} {s : State} (hs : glenServes s = true)
    (hok : (floodSizeOp who v x).status s = .ok) : Completes (.floodSizeWrite who v x) s (fun t =>
      numD t (vkey v 0x4001 1) 0 = x.toNat ∧ t.mem = s.mem ∧ t.east = s.east ∧ t.west = s.west) := by
  obtain ⟨ks, hpersist⟩ := persist_eq (setNum s (vkey v 0x4001 1) x.toNat) (vkey v 0x4001 1)
  refine (serves_floodSizeWrite who v x).completes hs hok ?_
  simp only [floodSizeOp, hpersist]
  exact ⟨numD_setNum_same _ _ _ _, rfl, rfl, rfl⟩

/-- Settles O27: each write is served, and its clause is read off its operation's effect; the ticks of a shaper by its load flag. -/
theorem queueAndShaperObjects : Obligations.QueueAndShaperObjects := by
  refine ⟨serves_queueCreate, fun _ _ _ _ => completes_queueCreate, fun _ _ _ _ => completes_queueDestroy,
    fun _ _ _ _ => completes_shaperCreate, fun _ _ _ _ => completes_shaperDestroy, serves_queueConfWrite, serves_queueDestroy,
    serves_shaperCreate, serves_shaperWrite, serves_shaperDestroy, serves_floodSizeWrite,
    fun _ _ _ _ _ => completes_queueConfWrite, fun _ _ _ _ _ => completes_shaperWrite, fun r _ => shaperTick_load r,
    fun r x hload => ?fill, fun _ _ _ _ hs hok => ⟨floodSize_le_of_ok hok, completes_floodSizeWrite hs hok⟩⟩
  case fill =>
    rw [shaperTick_fill r hload]
    exact ⟨rfl, rfl⟩

end Sys2Proof.Machine
end

section
/-! Proofs of the statement about device time (R229, R230, R464). -/

namespace Sys2Proof.Machine

/-! ### A step of device time (R230, R240) -/

@[simp] theorem modVale_time (s : State) (v : Vale) (f : ValeState → ValeState) : (s.modVale v f).time = s.time := by
  cases v <;> rfl

@[simp] theorem modVale_err (s : State) (v : Vale) (f : ValeState → ValeState) : (s.modVale v f).err = s.err := by
  cases v <;> rfl

/-- The gates that follow a step of device time are of the Vales alone. -/
theorem regate_keeps {β : Type} {π : State → β} (h : ∀ s v f, π (s.modTm v f) = π s) (s : State) : π (regate s) = π s :=
  foldl_keeps π (fun a v => h a v _) _ _

theorem stepTime_time (s : State) (ns : Int) (held : Bool) : (stepTime s ns held).time = { s.time with
    sec := (ns % ((2 ^ 48 * 1000000000 : Nat) : Int)).toNat / 1000000000
    ns := (ns % ((2 ^ 48 * 1000000000 : Nat) : Int)).toNat % 1000000000, held := held } :=
  regate_keeps (π := State.time) (fun a v _ => modVale_time a v _) _

theorem stepTime_keeps (s : State) (ns : Int) (held : Bool) : (stepTime s ns held).time.held = held ∧
    (stepTime s ns held).time.ticks = s.time.ticks ∧ (stepTime s ns held).mem = s.mem ∧ (stepTime s ns held).dict = s.dict := by
  rw [stepTime_time]
  exact ⟨rfl, rfl, regate_keeps modTm_mem _, regate_keeps modTm_dict _⟩

/-- Below 2^48 seconds device time is stepped to that very number of nanoseconds. -/
theorem stepTime_within (s : State) {n : Nat} (hn : n < 2 ^ 48 * 1000000000) (held : Bool) :
    (stepTime s n held).time.sec = n / 1000000000 ∧ (stepTime s n held).time.ns = n % 1000000000 := by
  have hwrap : ((n : Int) % ((2 ^ 48 * 1000000000 : Nat) : Int)).toNat = n := by omega
  rw [stepTime_time, hwrap]
  exact ⟨rfl, rfl⟩

theorem stepTime_seconds (s : State) {sec ns : Nat} (hsec : sec < 2 ^ 48) (hns : ns < 1000000000) (held : Bool) :
    (stepTime s ((sec * 1000000000 + ns : Nat) : Int) held).time.sec = sec ∧
      (stepTime s ((sec * 1000000000 + ns : Nat) : Int) held).time.ns = ns := by
  have hlimit : sec * 1000000000 + ns < 2 ^ 48 * 1000000000 := by omega
  obtain ⟨hset, hnsSet⟩ := stepTime_within s hlimit held
  rw [hset, hnsSet]
  omega

/-! ### TIME_SET and TIME_STEP (R230, R247) -/

theorem serves_timeSet (who : Who) (r : Rec 12) : Serves (.timeSet who r) (timeSetOp who r) := serves_of_runOp (fun _ => rfl)

theorem serves_timeStep (who : Who) (r : Rec 8) : Serves (.timeStep who r) (timeStepOp who r) := serves_of_runOp (fun _ => rfl)

/-- The answer of a served command leaves the time, the memory and the dictionary of its effect. -/
theorem Serves.completes_time {c : Instr} {op : DictOp} (hserves : Serves c op) {s : State} (hs : glenServes s = true)
    (hok : op.status s = .ok) {P : State → Prop} (hP : ∀ t, t.time = (op.effect s).1.time → t.mem = (op.effect s).1.mem →
      t.dict = (op.effect s).1.dict → P t) : Completes c s P :=
  hserves.completes hs hok (hP _ rfl rfl rfl)

/-- A time that passes its checks is below 2^48 seconds, its nanoseconds below a second. -/
theorem timeSet_range {who : Who} {r : Rec 12} {s : State} (hok : (timeSetOp who r).status s = .ok) :
    recField 12 0 8 r.toNat < 2 ^ 48 ∧ recField 12 8 4 r.toNat < 1000000000 := by
  have hrange := not_applies_of_ok hok (st := .range) (by decide) (List.mem_append_right _ (List.mem_singleton_self _))
  rw [Bool.or_eq_false_iff, decide_eq_false_iff_not, decide_eq_false_iff_not] at hrange
  omega

theorem timeSetOp_effect (who : Who) (r : Rec 12) (s : State) : ((timeSetOp who r).effect s).1 =
    stepTime s ((recField 12 0 8 r.toNat * 1000000000 + recField 12 8 4 r.toNat : Nat) : Int) false :=
  rfl

theorem timeStepOp_effect (who : Who) (r : Rec 8) (s : State) : ((timeStepOp who r).effect s).1 =
    stepTime s ((nowNs s : Int) + (stepParts r).1 * 1000000000 + (stepParts r).2) s.time.held :=
  rfl

theorem completes_timeSet {who : Who} {r : Rec 12} {s : State} (hs : glenServes s = true) (hok : (timeSetOp who r).status s = .ok) :
    Completes (.timeSet who r) s (fun t => t.time.sec = recField 12 0 8 r.toNat ∧ t.time.ns = recField 12 8 4 r.toNat ∧
      t.time.held = false ∧ t.time.ticks = s.time.ticks ∧ t.mem = s.mem ∧ t.dict = s.dict) := by
  obtain ⟨hsec, hns⟩ := timeSet_range hok
  obtain ⟨hset, hnsSet⟩ := stepTime_seconds s hsec hns false
  refine (serves_timeSet who r).completes_time hs hok fun t htime hmem hdict => ?_
  rw [htime, hmem, hdict, timeSetOp_effect]
  exact ⟨hset, hnsSet, stepTime_keeps _ _ _⟩

/-- R230: TIME_STEP moves device time by the signed seconds and nanoseconds of its record. -/
theorem completes_timeStep {who : Who} {r : Rec 8} {s : State} (hs : glenServes s = true) (hok : (timeStepOp who r).status s = .ok)
    (hlow : 0 ≤ (nowNs s : Int) + (stepParts r).1 * 1000000000 + (stepParts r).2)
    (hhigh : (nowNs s : Int) + (stepParts r).1 * 1000000000 + (stepParts r).2 < 2 ^ 48 * 1000000000) :
    Completes (.timeStep who r) s (fun t =>
      (t.time.sec * 1000000000 + t.time.ns : Int) = nowNs s + (stepParts r).1 * 1000000000 + (stepParts r).2 ∧
      t.time.ticks = s.time.ticks ∧ t.time.held = s.time.held ∧ t.mem = s.mem ∧ t.dict = s.dict) := by
  obtain ⟨n, hn⟩ := Int.eq_ofNat_of_zero_le hlow
  obtain ⟨hheld, hticks, hkept⟩ := stepTime_keeps s n s.time.held
  refine (serves_timeStep who r).completes_time hs hok fun t htime hmem hdict => ?_
  rw [htime, hmem, hdict, timeStepOp_effect]
  rw [hn] at hhigh ⊢
  obtain ⟨hsec, hns⟩ := stepTime_within s (n := n) (by omega) s.time.held
  refine ⟨?_, hticks, hheld, hkept⟩
  rw [hsec, hns]
  omega

/-! ### The tick (R229, R230, R464) -/

/-- What the parts of a tick before device time leave: time, memory, the errors and the rate of device time. -/
structure TickKeeps (s t : State) : Prop where
  time : t.time = s.time
  mem : t.mem = s.mem
  err : t.err = s.err
  rate : timeRate t = timeRate s

theorem TickKeeps.trans {s t u : State} (hst : TickKeeps s t) (htu : TickKeeps t u) : TickKeeps s u :=
  ⟨htu.time.trans hst.time, htu.mem.trans hst.mem, htu.err.trans hst.err, htu.rate.trans hst.rate⟩

theorem timeRate_of_dict {s t : State} (h : t.dict = s.dict) : timeRate t = timeRate s := by
  rw [timeRate, timeRate, numD_of_dict h]

theorem tickKeeps_valeTick (s : State) (v : Vale) : TickKeeps s (valeTick s v) :=
  ⟨modVale_time _ _ _, modVale_mem _ _ _, modVale_err _ _ _, timeRate_of_dict (modVale_dict _ _ _)⟩

/-- The counter of waits for a Narrows token is not the rate of device time. -/
theorem tickKeeps_narrowsTick (s : State) (v : Vale) : TickKeeps s (narrowsTick s v) := by
  unfold narrowsTick
  split
  · exact ⟨rfl, rfl, rfl, rfl⟩
  · have hkey : okey 0x7800 4 ≠ vkey v 0x3014 2 := by cases v <;> decide
    exact ⟨rfl, rfl, rfl, by rw [timeRate, timeRate, bump, numD_setNum_other _ _ _ _ _ hkey]⟩

theorem tickKeeps_hostTick (s : State) : TickKeeps s (hostTick s) := ⟨rfl, rfl, rfl, timeRate_of_dict rfl⟩

theorem tickKeeps_qeTick (s : State) : TickKeeps s (qeTick s) := ⟨rfl, rfl, rfl, timeRate_of_dict rfl⟩

theorem tickKeeps_glenTick (s : State) : TickKeeps s (glenTick s) := ⟨rfl, rfl, rfl, timeRate_of_dict rfl⟩

/-- The token buckets of the Vales, the host link, the queue engine and Glen, which a tick fills before it moves device time. -/
def tickBuckets (s : State) : State :=
  glenTick (qeTick (hostTick (narrowsTick (narrowsTick (valeTick (valeTick s .east) .west) .east) .west)))

theorem tickKeeps_tickBuckets (s : State) : TickKeeps s (tickBuckets s) := by
  have hvales := (tickKeeps_valeTick s .east).trans (tickKeeps_valeTick _ .west)
  have hnarrows := (hvales.trans (tickKeeps_narrowsTick _ .east)).trans (tickKeeps_narrowsTick _ .west)
  exact ((hnarrows.trans (tickKeeps_hostTick _)).trans (tickKeeps_qeTick _)).trans (tickKeeps_glenTick _)

/-- The real-time clock is of the clocks alone. -/
theorem rtcTick_keeps (s : State) : (rtcTick s).time = s.time ∧ (rtcTick s).mem = s.mem ∧ (rtcTick s).err = s.err := by
  unfold rtcTick
  split <;> exact ⟨rfl, rfl, rfl⟩

theorem advance_ticks (t : DevTime) (rate : Int) : (advance t rate).ticks = t.ticks + 1 := by
  unfold advance
  split <;> rfl

/-- R229: without a rate, 8 ns are added to a time of well-formed parts, and what is below a nanosecond stays. -/
theorem advance_eight_ns {t : DevTime} (hheld : t.held = false) (hacc : t.acc < 1000000000000) (hns : t.ns < 1000000000)
    (hfrac : t.frac < 16) (hsec : t.sec < 2 ^ 48 - 1) : (advance t 0).frac = t.frac ∧ (advance t 0).acc = t.acc ∧
      (advance t 0).sec * 1000000000 + (advance t 0).ns = t.sec * 1000000000 + t.ns + 8 := by
  have hstep : ((t.acc : Int) + 128 * 1000000000000 + 128 * 0).toNat = t.acc + 128 * 1000000000000 := by omega
  simp only [advance, hheld, Bool.false_eq_true, if_false, hstep]
  omega

theorem completes_tick {s : State} (hawake : ladderDone s < 3) : Completes .tick s (fun t =>
    t.time = advance s.time (timeRate s) ∧ t.mem = s.mem ∧ t.err = s.err) := by
  obtain ⟨htime, hmem, herr, hrate⟩ := tickKeeps_tickBuckets s
  refine ⟨_, congrArg Host.Outcome.next (if_neg (Nat.not_le.mpr hawake)), ?_⟩
  obtain ⟨hrtcTime, hrtcMem, hrtcErr⟩ := rtcTick_keeps { tickBuckets s with
    time := advance (tickBuckets s).time (timeRate (tickBuckets s))
    saddle := { (tickBuckets s).saddle with
      slots := tmap (tickBuckets s).saddle.slots (fun _ x => slotTick (8 * (tickBuckets s).time.ticks) x)
      regions := tmap (tickBuckets s).saddle.regions (fun _ x => regionTick x) } }
  exact ⟨hrtcTime.trans (by rw [htime, hrate]), hrtcMem.trans hmem, hrtcErr.trans herr⟩

/-- Settles O28: a tick by what its parts leave, TIME_SET and TIME_STEP by the step of device time that they make. -/
theorem deviceTime : Obligations.DeviceTime := by
  refine ⟨fun s hawake => ?tick, fun s hasleep => ?asleep, fun who r => ⟨serves_timeSet who r, fun _ => completes_timeSet⟩,
    fun who r => ⟨serves_timeStep who r, fun _ => completes_timeStep⟩⟩
  case tick =>
    obtain ⟨t, hexec, htime, hmem, herr⟩ := completes_tick hawake
    refine ⟨t, hexec, ?_, hmem, herr, fun hheld hrate hacc hns hfrac hsec => ?_⟩
    · rw [htime, advance_ticks]
    · rw [htime, hrate]
      exact advance_eight_ns hheld hacc hns hfrac hsec
  case asleep => exact congrArg Host.Outcome.next (if_pos hasleep)

end Sys2Proof.Machine
end

section
/-! Proofs of the statements about policing, time gates and the replication engine (R232, R234, R235, R237, R242). -/

namespace Sys2Proof.Machine

/-! ### Marking (R232) -/

section Marking
variable {x : Policer} {b inn : Nat}

/-- Single rate, colour-blind. -/
theorem colourOf_single (hmode : poMode x.act = 1) (hblind : bitOf (poFlags x.act) 0 = false) : colourOf x b inn =
    if b ≤ x.tc then (0, { x with tc := x.tc - b }) else if b ≤ x.te then (1, { x with te := x.te - b }) else (2, x) := by
  simp [colourOf, hmode, hblind]

/-- Two rate, colour-blind. -/
theorem colourOf_two (hmode : poMode x.act = 2) (hblind : bitOf (poFlags x.act) 0 = false) : colourOf x b inn =
    if x.te < b then (2, x) else if x.tc < b then (1, { x with te := x.te - b })
    else (0, { x with te := x.te - b, tc := x.tc - b }) := by
  simp [colourOf, hmode, hblind]

/-- A colour-aware policer leaves a red packet red, and takes nothing for it. -/
theorem colourOf_aware_red (haware : bitOf (poFlags x.act) 0 = true) : colourOf x b 2 = (2, x) := by
  by_cases hmode : poMode x.act = 1 <;> simp [colourOf, hmode, haware]

/-- A colour-aware policer makes no yellow packet green. -/
theorem colourOf_aware_yellow (haware : bitOf (poFlags x.act) 0 = true) : (colourOf x b 1).1 ≠ 0 := by
  by_cases hmode : poMode x.act = 1
  · by_cases hroom : b ≤ x.te <;> simp [colourOf, hmode, haware, hroom]
  · by_cases hroom : x.te < b <;> simp [colourOf, hmode, haware, hroom]

end Marking

theorem policerColours : Claims.PolicerColours := by
  intro x b inn
  refine ⟨fun hmode hblind => ?single, fun hmode hblind => ?two, fun haware hred => ?red, fun haware hyellow => ?yellow⟩
  case single =>
    rw [colourOf_single hmode hblind]
    exact ⟨fun hc => if_pos hc, fun hc he => (if_neg (Nat.not_le.mpr hc)).trans (if_pos he),
      fun hc he => (if_neg (Nat.not_le.mpr hc)).trans (if_neg (Nat.not_le.mpr he))⟩
  case two =>
    rw [colourOf_two hmode hblind]
    exact ⟨fun he => if_pos he, fun he hc => (if_neg (Nat.not_lt.mpr he)).trans (if_pos hc),
      fun he hc => (if_neg (Nat.not_lt.mpr he)).trans (if_neg (Nat.not_lt.mpr hc))⟩
  case red =>
    rw [hred]
    exact colourOf_aware_red haware
  case yellow =>
    rw [hyellow]
    exact colourOf_aware_yellow haware

/-! ### The packet that has left the match stages first (R232, R234) -/

/-- What becomes of a policed packet: its place is the replication engine's input with a group, and else the way to its queue. -/
theorem afterPolice_eq (s : State) (v : Vale) (i : Nat) (p : Packet) :
    afterPolice s v i p = moveTo s v i (if recBits p 10 0 32 ≠ 0 then .policed else towardQueue v (recHandle p 8)) :=
  (apply_ite (moveTo s v i) _ _ _).symm

/-- A policed packet keeps its bytes and its record. -/
theorem afterPolice_moves {s : State} {v : Vale} {i : Nat} {p : Packet} (hp : pktAt s v i = some p) (q : Packet) :
    (∃ x, pktAt (afterPolice s v i q) v i = some x ∧
      x.loc = (if recBits q 10 0 32 ≠ 0 then .policed else towardQueue v (recHandle q 8)) ∧ x.bytes = p.bytes ∧ x.words = p.words) ∧
    (afterPolice s v i q).mem = s.mem ∧ (afterPolice s v i q).dict = s.dict := by
  rw [afterPolice_eq]
  obtain ⟨n, hmoved⟩ := pktAt_moveTo hp (if recBits q 10 0 32 ≠ 0 then .policed else towardQueue v (recHandle q 8))
  exact ⟨⟨_, hmoved, rfl, rfl, rfl⟩, moveTo_mem _ _ _ _, moveTo_dict _ _ _ _⟩

section Police
variable {v : Vale} {s : State} {i : Nat} {p : Packet}

/-- The policer that a record names. -/
def policerOf (s : State) (v : Vale) (p : Packet) : Policer := tgetD (s.vale v).tm.polices (hIdx (recHandle p 9)) {}

/-- The token units of a packet at its policer: 1/65,536 of a byte, one byte at the least (R232). -/
def policedUnits (x : Policer) (p : Packet) : Nat :=
  (max (((p.bytes.length + 4 : Nat) : Int) + poOverhead x.act) 1).toNat * 65536

/-- The colour of a packet at its policer, and the policer's counts after it. -/
def policedColour (s : State) (v : Vale) (p : Packet) : Nat × Policer :=
  colourOf (policerOf s v p) (policedUnits (policerOf s v p) p) (recBits p 9 32 2)

/-- The state in which a packet has been marked and counted (R232, R234). -/
def policed (s : State) (v : Vale) (p : Packet) : State :=
  policerCount (s.modTm v (fun t => { t with polices := tset t.polices (hIdx (recHandle p 9)) (policedColour s v p).2 })) v
    (hIdx (recHandle p 9)) (policedColour s v p).1 (p.bytes.length + 4)

@[simp] theorem vale_policerCount (s : State) (v : Vale) (k colour bytes : Nat) (w : Vale) :
    (policerCount s v k colour bytes).vale w = s.vale w :=
  vale_setNum _ _ _ _

theorem policed_keeps (s : State) (v : Vale) (p : Packet) :
    tget ((policed s v p).vale v).tm.polices (hIdx (recHandle p 9)) = some (policedColour s v p).2 ∧
    (policed s v p).mem = s.mem ∧ ((policed s v p).vale v).path = (s.vale v).path := by
  rw [policed, vale_policerCount, vale_modTm]
  exact ⟨tget_tset_same _ _ _, modTm_mem _ _ _, rfl⟩

theorem pktAt_policed (s : State) (v : Vale) (p : Packet) (i : Nat) : pktAt (policed s v p) v i = pktAt s v i := by
  rw [pktAt, (policed_keeps s v p).2.2, ← pktAt]

/-- What POLICE does with the packet that has left the match stages first, when its bytes are all there. -/
theorem exec_police (hstop : s.err.failStop = false) (hpath : (s.vale v).path.stopped = false)
    (hhead : oldestAt s v .exited = some i) (hp : pktAt s v i = some p) (hwhole : recHandle p 9 = 0 ∨ p.tail = true) :
    exec (.police v) s = .next (
      if recHandle p 9 = 0 then afterPolice s v i p
      else if !(handleFits (recHandle p 9) (policerKind v) && objLive s (recHandle p 9)) then
        dropPkt (count s (vkey v 0x3070 2)) v i 0x0E
      else if (policedColour s v p).1 = 2 ∧ bitOf (poFlags (policerOf s v p).act) 1 then dropPkt (policed s v p) v i 0x09
      else afterPolice (policed s v p) v i p) := by
  show execPolice v s = _
  simp only [execPolice, hstop, hpath, hhead, hp, Bool.or_self, Bool.false_eq_true, if_false]
  by_cases hnone : recHandle p 9 = 0
  · rw [if_pos hnone, if_pos hnone]
  · have htail : p.tail = true := hwhole.resolve_left hnone
    rw [if_neg hnone, if_neg hnone, htail]
    rfl

/-- R234: a packet without a policer goes on as it is. -/
theorem exec_police_none (hstop : s.err.failStop = false) (hpath : (s.vale v).path.stopped = false)
    (hhead : oldestAt s v .exited = some i) (hp : pktAt s v i = some p) (hnone : recHandle p 9 = 0) :
    exec (.police v) s = .next (afterPolice s v i p) :=
  (exec_police hstop hpath hhead hp (.inl hnone)).trans (by rw [if_pos hnone])

end Police

theorem policeStep : Claims.PoliceStep := by
  intro v s i p hstop hpath hhead hp
  refine ⟨fun hnone => ?none, fun hsome hlive htail => ?some⟩
  case none =>
    have hexec := exec_police_none hstop hpath hhead hp hnone
    obtain ⟨hmoved, hmem, hdict⟩ := afterPolice_moves hp p
    exact ⟨hexec, _, hexec, hmoved, hmem, hdict⟩
  case some =>
    have hexec := exec_police hstop hpath hhead hp (.inr htail)
    rw [if_neg hsome, hlive, Bool.not_true, if_neg Bool.false_ne_true] at hexec
    obtain ⟨hcounts, hmem, hkept⟩ := policed_keeps s v p
    refine ⟨policedColour s v p, policed s v p, rfl, hcounts, hmem, hkept, fun hred hdrops => ?dropped, fun hpasses => ?passed⟩
    case dropped =>
      rw [if_pos ⟨hred, hdrops⟩] at hexec
      exact ⟨hexec, _, hexec, pktAt_dropPkt _ _ _ _, (dropPkt_mem _ _ _ _).trans hmem⟩
    case passed =>
      have hgoes : ¬ ((policedColour s v p).1 = 2 ∧ bitOf (poFlags (policerOf s v p).act) 1 = true) := by
        rintro ⟨hred, hdrops⟩
        exact hpasses.elim (absurd hred) fun hno => Bool.false_ne_true (hno.symm.trans hdrops)
      rw [if_neg hgoes] at hexec
      obtain ⟨hmoved, hmoves, -⟩ := afterPolice_moves ((pktAt_policed s v p i).trans hp) p
      exact ⟨hexec, _, hexec, hmoved, hmoves.trans hmem⟩

/-- Settles O32: marking by mode and colour awareness, and POLICE by the packet's policer and its colour. -/
theorem policing : Obligations.Policing := ⟨policerColours, policeStep⟩

/-! ### Time gates (R235, R237) -/

/-- The state in which a port's gates have changed. -/
def setGate (s : State) (v : Vale) (n : Nat) (g : Gate) : State := s.modTm v (fun t => { t with gates := tset t.gates n g })

@[simp] theorem gateOf_setGate_same (s : State) (v : Vale) (n : Nat) (g : Gate) : gateOf (setGate s v n g) v n = g := by
  rw [gateOf, setGate, vale_modTm, tgetD_tset_same]

theorem gateOf_setGate_other (s : State) (v : Vale) {n j : Nat} (h : j ≠ n) (g : Gate) :
    gateOf (setGate s v n g) v j = gateOf s v j := by
  rw [gateOf, setGate, vale_modTm, tgetD_tset_other _ _ _ _ _ h, ← gateOf]

theorem exec_gateListChange {v : Vale} {n : Fin 8} {s : State} {t : Nat} {l : GateList} (hnext : (gateOf s v n).next = some (t, l))
    (hdue : t ≤ nowNs s) :
    exec (.gateListChange v n) s = .next (setGate s v n { act := l, pos := (gatePos s l).1, next := none }) := by
  show execGateListChange v n s = _
  simp only [execGateListChange, hnext, if_neg (Nat.not_lt.mpr hdue), setGate]

theorem exec_gateEntryEnd {v : Vale} {n : Fin 8} {s : State} (hon : (gateOf s v n).act.enable = true) :
    exec (.gateEntryEnd v n) s = .next (setGate s v n { gateOf s v n with pos := (gatePos s (gateOf s v n).act).1 }) :=
  congrArg Host.Outcome.next (if_pos hon)

theorem gateLists : Claims.GateLists := by
  refine ⟨fun v n s t l hnext hdue => ⟨_, exec_gateListChange hnext hdue, ?change⟩, fun v n s hon => ⟨_, exec_gateEntryEnd hon, ?entry⟩⟩
  case change =>
    have hnew := gateOf_setGate_same s v n { act := l, pos := (gatePos s l).1, next := none }
    exact ⟨congrArg Gate.act hnew, congrArg Gate.next hnew, congrArg Gate.pos hnew, fun j hj => gateOf_setGate_other s v hj _,
      modTm_mem _ _ _, modTm_dict _ _ _⟩
  case entry =>
    have hnew := gateOf_setGate_same s v n { gateOf s v n with pos := (gatePos s (gateOf s v n).act).1 }
    exact ⟨congrArg Gate.pos hnew, (congrArg Gate.act hnew :), (congrArg Gate.next hnew :), modTm_mem _ _ _, modTm_dict _ _ _⟩

/-! ### Copies (R172, R242) -/

@[simp] theorem modPkt_mem (s : State) (v : Vale) (i : Nat) (f : Packet → Packet) : (modPkt s v i f).mem = s.mem := by
  unfold modPkt
  split <;> simp

@[simp] theorem shareCells_mem (s : State) (v : Vale) (i k : Nat) : (shareCells s v i k).1.mem = s.mem := by
  unfold shareCells
  split
  · rfl
  · split <;> simp

@[simp] theorem addCopy_mem (s : State) (v : Vale) (p : Packet) (l : Loc) : (addCopy s v p l).mem = s.mem := modPath_mem _ _ _

@[simp] theorem mirrorCopy_mem (s : State) (v : Vale) (i : Nat) : (mirrorCopy s v i).mem = s.mem := by
  unfold mirrorCopy
  split
  · rfl
  · split <;> simp

@[simp] theorem makeCopy_mem (s : State) (v : Vale) (p : Packet) (share : Nat) (g h : Handle) (template : Nat) :
    (makeCopy s v p share g h template).mem = s.mem :=
  addCopy_mem _ _ _ _

@[simp] theorem setGroup_mem (s : State) (v : Vale) (g : Nat) (x : ReplGroup) : (setGroup s v g x).mem = s.mem := modTm_mem _ _ _

/-- A member's turn counts or copies. -/
@[simp] theorem memberTurn_mem (v : Vale) (p : Packet) (share : Nat) (g : Handle) (bad : List Nat) (s : State) (im : Nat × Nat) :
    (memberTurn v p share g bad s im).mem = s.mem := by
  unfold memberTurn
  split
  · rfl
  · split <;> simp

/-! ### The replication engine (R242) -/

/-- A packet that is dropped or removed is gone, and memory is what it was before. -/
theorem dropped_or_removed {c : Prop} [Decidable c] {s a b : State} (ha : a.mem = s.mem) (hb : b.mem = s.mem) (v : Vale)
    (i reason : Nat) : pktAt (if c then dropPkt a v i reason else removePkt b v i) v i = none ∧
      (if c then dropPkt a v i reason else removePkt b v i).mem = s.mem := by
  split
  · exact ⟨pktAt_dropPkt _ _ _ _, (dropPkt_mem _ _ _ _).trans ha⟩
  · exact ⟨pktAt_removePkt _ _ _, (removePkt_mem _ _ _).trans hb⟩

/-- With copies or without, the packet itself is gone. -/
theorem replicateOne_gone (s : State) (v : Vale) (i : Nat) (p : Packet) (g : Handle) :
    pktAt (replicateOne s v i p g) v i = none ∧ (replicateOne s v i p g).mem = s.mem := by
  refine dropped_or_removed ?uncopied ?copied v i 0x0E
  case uncopied => simp
  case copied => simp

/-- What REPLICATE does with the head of the engine's input queue, when no packet waits to enter the queue. -/
theorem exec_replicate {v : Vale} {s : State} {i : Nat} {p : Packet} (hstop : s.err.failStop = false)
    (hpath : (s.vale v).path.stopped = false) (hnone : countAt s v .policed = 0) (hhead : oldestAt s v .repl = some i)
    (hp : pktAt s v i = some p) (hwhole : p.tail = true ∨ p.discarded = true) : exec (.replicate v) s = .next (
      if !(handleFits (recHandle p 10) (groupKind v) && objLive s (recHandle p 10)) then dropPkt s v i 0x0E
      else replicateOne s v i p (recHandle p 10)) := by
  have hpart : (!p.tail && !p.discarded) = false := by rcases hwhole with h | h <;> simp [h]
  show execReplicate v s = _
  simp only [execReplicate, hstop, hpath, hnone, admitRepl, hhead, hp, hpart, Bool.or_self, Bool.false_eq_true, if_false]

theorem replicationStep : Claims.ReplicationStep := by
  refine ⟨fun v s i p hstop hpath hnone hhead hp hwhole => ?head, fun v s i p _ => (replicateOne_gone s v i p _).1,
    fun v s i k hold hfull => ?full⟩
  case head =>
    have hexec := exec_replicate hstop hpath hnone hhead hp hwhole
    refine ⟨fun hstale => ?_, fun hlive => ?_, _, hexec, ?_⟩
    · rw [hexec, hstale]
      rfl
    · rw [hexec, hlive]
      rfl
    · split
      · exact ⟨pktAt_dropPkt _ _ _ _, dropPkt_mem _ _ _ _⟩
      · exact replicateOne_gone s v i p _
  case full =>
    rw [admitRepl, hold]
    exact if_pos hfull

/-- Settles O33: the gates by what a change and an entry's end set, the engine by the head of its queue. -/
theorem gatesAndReplication : Obligations.GatesAndReplication := ⟨gateLists, replicationStep⟩

end Sys2Proof.Machine
end

section
/-! Proofs of the statements about the objects of policers, gates and replication groups, and about telemetry
(R231, R237, R241, R244, R245, R248, R291, R295). -/

namespace Sys2Proof.Machine

/-! ### Policers (R231, R232) -/

theorem serves_policerCreate (who : Who) (v : Vale) (r : Rec 28) : Serves (.policerCreate who v r) (policerCreateOp who v r) :=
  serves_of_runOp (fun _ => rfl)

theorem serves_policerWrite (who : Who) (v : Vale) (p : Fin 16384) (r : Rec 24) :
    Serves (.policerWrite who v p r) (policerWriteOp who v p r) :=
  serves_of_runOp (fun _ => rfl)

theorem serves_policerDestroy (who : Who) (v : Vale) (h : Handle) : Serves (.policerDestroy who v h) (policerDestroyOp who v h) :=
  serves_of_runOp (fun _ => rfl)

theorem allocIndex_of_policerCreate_ok {who : Who} {v : Vale} {r : Rec 28} {s : State}
    (hok : (policerCreateOp who v r).status s = .ok) : ∃ i s1, allocIndex s (policerKind v) = some (i, s1) :=
  allocIndex_of_not_short (not_applies_of_ok hok (st := .noResource) (by decide)
    (List.mem_append_right _ (.tail _ (.head _))))

/-- The state in which index `i` is a new policer of record `c`, owned by `o`, whose counts are full at the next tick (R231, R232). -/
def policerPlaced (s : State) (v : Vale) (i c : Nat) (o : Handle) : State :=
  (setNum (objOwned s (policerKind v) i o) (policerKey v i) c).modTm v (fun t =>
    { t with polices := tset t.polices i { act := c, load := true } })

theorem policerCreateOp_effect {v : Vale} {s s1 : State} {i : Nat} (halloc : allocIndex s (policerKind v) = some (i, s1)) (who : Who)
    (r : Rec 28) : (policerCreateOp who v r).effect s =
      (policerPlaced s1 v i (policerIn (r.toNat % 256 ^ 24)) (BitVec.ofNat 32 (recField 28 0 4 r.toNat)),
        beBytes 4 (handleOf s1 (policerKind v) i).toNat) := by
  simp only [policerCreateOp, halloc]
  refine Prod.ext rfl (congrArg (fun h : Handle => beBytes 4 h.toNat) (handleOf_of_gens ?_ _ _))
  rw [modTm_dict]
  exact (objOwned_keeps s1 (policerKind v) i _ v).2.1

theorem vale_policerPlaced (s : State) (v : Vale) (i c : Nat) (o : Handle) : (policerPlaced s v i c o).vale v =
    { s.vale v with tm := { (s.vale v).tm with polices := tset (s.vale v).tm.polices i { act := c, load := true } } } := by
  rw [policerPlaced, vale_modTm, vale_setNum, (objOwned_keeps ..).1]

theorem completes_policerCreate {who : Who} {v : Vale} {r : Rec 28} {s : State} (hs : glenServes s = true)
    (hok : (policerCreateOp who v r).status s = .ok) : Completes (.policerCreate who v r) s (fun t =>
    ∃ i, (allocIndex s (policerKind v)).map (·.1) = some i ∧ numD t (policerKey v i) 0 = policerIn (r.toNat % 256 ^ 24) ∧
      tget (t.vale v).tm.polices i = some { act := policerIn (r.toNat % 256 ^ 24), load := true } ∧ t.resp.status = .ok ∧
      t.resp.payload = beBytes 4 (handleOf s (policerKind v) i).toNat ∧ (t.vale v).path = (s.vale v).path ∧ t.mem = s.mem) := by
  obtain ⟨i, s1, halloc⟩ := allocIndex_of_policerCreate_ok hok
  obtain ⟨hvale1, hgens1, hmem1⟩ := allocIndex_keeps halloc v
  refine (serves_policerCreate who v r).completes hs hok ⟨i, by rw [halloc]; rfl, ?_⟩
  rw [policerCreateOp_effect halloc, vale_respond, vale_policerPlaced, hvale1]
  refine ⟨?_, tget_tset_same _ _ _, rfl, ?_, rfl, ?_⟩
  · exact (numD_of_dict (modTm_dict _ _ _) _ _).trans (numD_setNum_same _ _ _ _)
  · rw [respond_resp, handleOf_of_gens hgens1]
  · rw [respond_mem, policerPlaced, modTm_mem, setNum_mem, (objOwned_keeps s1 _ i _ v).2.2, hmem1]

theorem completes_policerWrite {who : Who} {v : Vale} {p : Fin 16384} {r : Rec 24} {s : State} (hs : glenServes s = true)
    (hok : (policerWriteOp who v p r).status s = .ok) : Completes (.policerWrite who v p r) s (fun t =>
    numD t (policerKey v p) 0 = policerIn r.toNat ∧ (∃ x, tget (t.vale v).tm.polices p = some x ∧ x.load = true) ∧ t.mem = s.mem) := by
  refine (serves_policerWrite who v p r).completes hs hok ?_
  simp only [policerWriteOp, numD_respond, vale_respond, respond_mem, vale_modTm, modTm_mem, setNum_mem]
  exact ⟨(numD_of_dict (modTm_dict _ _ _) _ _).trans (numD_setNum_same _ _ _ _), ⟨_, tget_tset_same _ _ _, rfl⟩, trivial⟩

/-- A policer that is freed loses its counts, its record and its statistics, and then its owner and index. -/
theorem freePolicer_eq (s : State) (v : Vale) (i : Nat) : freePolicer s v i =
    endObj (eraseNum (eraseNum (s.modTm v (fun t => { t with polices := terase t.polices i })) (policerKey v i)) (policerStatKey v i))
      (policerKind v) i :=
  rfl

/-- The record of a policer is not its statistics. -/
theorem policerKey_ne_policerStatKey (v : Vale) (i : Nat) : policerKey v i ≠ policerStatKey v i :=
  vkey_ne (by omega) v (by omega) (by omega)

theorem numD_eraseNum_other (s : State) {k j : Nat} (h : k ≠ j) (d : Nat) : numD (eraseNum s j) k d = numD s k d :=
  tgetD_terase_other _ _ _ _ h

theorem completes_policerDestroy {who : Who} {v : Vale} {h : Handle} {s : State} (hs : glenServes s = true)
    (hok : (policerDestroyOp who v h).status s = .ok) : Completes (.policerDestroy who v h) s (fun t =>
    numD t (policerKey v (hIdx h)) 0 = 0 ∧ tget (t.vale v).tm.polices (hIdx h) = none ∧ t.resp.status = .ok ∧
      (t.vale v).path = (s.vale v).path ∧ t.mem = s.mem) := by
  refine (serves_policerDestroy who v h).completes hs hok ?_
  simp only [policerDestroyOp, freePolicer_eq, numD_respond, vale_respond, respond_resp, respond_mem, numD_endObj, vale_endObj,
    endObj_mem, vale_eraseNum, eraseNum_mem, vale_modTm, modTm_mem, vale_bumpGen, bumpGen_mem]
  exact ⟨(numD_eraseNum_other _ (policerKey_ne_policerStatKey _ _) _).trans (numD_eraseNum_same _ _ _), tget_terase_same _ _,
    trivial, trivial, trivial⟩

/-- R232: at the tick after a write the record is in force and both counts are full. -/
theorem policerTick_load (r : Nat) {x : Policer} (h : x.load = true) :
    policerTick r x = { act := r, tc := poCbs r * 65536, te := poEbs r * 65536 } :=
  if_pos h

/-! ### Gates (R237) -/

theorem serves_gateApply (who : Who) (v : Vale) (n : U8) : Serves (.gateApply who v n) (gateApplyOp who v n) :=
  serves_of_runOp (fun _ => rfl)

theorem gateOf_congr {s t : State} {v : Vale} (h : t.vale v = s.vale v) (n : Nat) : gateOf t v n = gateOf s v n := by
  rw [gateOf, gateOf, h]

@[simp] theorem gateOf_respond (s : State) (st : Status) (r : Nat) (bs : List Byte) (v : Vale) (n : Nat) :
    gateOf (respond s st r bs) v n = gateOf s v n :=
  gateOf_congr (vale_respond ..) n

/-- R237: the pending list waits for the start of its first cycle from 10 µs on. -/
theorem gateApplyOp_effect (who : Who) (v : Vale) (n : U8) (s : State) : (gateApplyOp who v n).effect s =
    (setGate s v n.toNat { gateOf s v n.toNat with
      next := some (cycleFrom (pendingList s v n.toNat) (nowNs s + 10000), pendingList s v n.toNat) }, []) := by
  cases v <;> rfl

theorem completes_gateApply {who : Who} {v : Vale} {n : U8} {s : State} (hs : glenServes s = true)
    (hok : (gateApplyOp who v n).status s = .ok) : Completes (.gateApply who v n) s (fun t =>
    (gateOf t v n.toNat).next = some (cycleFrom (pendingList s v n.toNat) (nowNs s + 10000), pendingList s v n.toNat) ∧
      (gateOf t v n.toNat).act = (gateOf s v n.toNat).act ∧ (∀ j, j ≠ n.toNat → gateOf t v j = gateOf s v j) ∧ t.resp.status = .ok ∧
      (t.vale v).path = (s.vale v).path ∧ t.mem = s.mem) := by
  refine (serves_gateApply who v n).completes hs hok ?_
  simp only [gateApplyOp_effect, gateOf_respond, gateOf_setGate_same, vale_respond, respond_mem, respond_resp]
  refine ⟨trivial, trivial, fun j hj => gateOf_setGate_other s v hj _, trivial, ?_, modTm_mem _ _ _⟩
  rw [setGate, vale_modTm]

/-! ### Replication groups (R241, R248) -/

theorem serves_replCreate (who : Who) (v : Vale) (o : Handle) : Serves (.replCreate who v o) (replCreateOp who v o) :=
  serves_of_runOp (fun _ => rfl)

theorem serves_replDestroy (who : Who) (v : Vale) (h : Handle) : Serves (.replDestroy who v h) (replDestroyOp who v h) :=
  serves_of_runOp (fun _ => rfl)

theorem serves_replWrite (who : Who) (v : Vale) (bs : List Byte) : Serves (.replWrite who v bs) (replWriteOp who v bs) :=
  serves_of_runOp (fun _ => rfl)

theorem serves_replApply (who : Who) (v : Vale) (r : Rec 6) : Serves (.replApply who v r) (replApplyOp who v r) :=
  serves_of_runOp (fun _ => rfl)

theorem serves_replQuery (who : Who) (v : Vale) (r : Rec 6) : Serves (.replQuery who v r) (replQueryOp who v r) :=
  serves_of_runOp (fun _ => rfl)

theorem groupOf_congr {s t : State} {v : Vale} (h : t.vale v = s.vale v) (g : Nat) : groupOf t v g = groupOf s v g := by
  rw [groupOf, groupOf, h]

@[simp] theorem groupOf_respond (s : State) (st : Status) (r : Nat) (bs : List Byte) (v : Vale) (g : Nat) :
    groupOf (respond s st r bs) v g = groupOf s v g :=
  groupOf_congr (vale_respond ..) g

@[simp] theorem groupOf_setGroup_same (s : State) (v : Vale) (g : Nat) (x : ReplGroup) : groupOf (setGroup s v g x) v g = x := by
  rw [groupOf, setGroup, vale_modTm, tgetD_tset_same]

theorem groupOf_setGroup_other (s : State) (v : Vale) {g j : Nat} (h : j ≠ g) (x : ReplGroup) :
    groupOf (setGroup s v g x) v j = groupOf s v j := by
  rw [groupOf, setGroup, vale_modTm, tgetD_tset_other _ _ _ _ _ h, ← groupOf]

@[simp] theorem path_setGroup (s : State) (v : Vale) (g : Nat) (x : ReplGroup) :
    ((setGroup s v g x).vale v).path = (s.vale v).path := by
  rw [setGroup, vale_modTm]

theorem allocIndex_of_replCreate_ok {who : Who} {v : Vale} {o : Handle} {s : State} (hok : (replCreateOp who v o).status s = .ok) :
    ∃ i s1, allocIndex s (groupKind v) = some (i, s1) :=
  allocIndex_of_not_short (not_applies_of_ok hok (st := .noResource) (by decide)
    (List.mem_append_right _ (List.mem_singleton_self _)))

theorem replCreateOp_effect {v : Vale} {s s1 : State} {i : Nat} (halloc : allocIndex s (groupKind v) = some (i, s1)) (who : Who)
    (o : Handle) : (replCreateOp who v o).effect s =
      (setGroup (objOwned s1 (groupKind v) i o) v i {}, beBytes 4 (handleOf s1 (groupKind v) i).toNat) := by
  simp only [replCreateOp, halloc]
  refine Prod.ext rfl (congrArg (fun h : Handle => beBytes 4 h.toNat) (handleOf_of_gens ?_ _ _))
  rw [setGroup, modTm_dict]
  exact (objOwned_keeps s1 (groupKind v) i o v).2.1

theorem completes_replCreate {who : Who} {v : Vale} {o : Handle} {s : State} (hs : glenServes s = true)
    (hok : (replCreateOp who v o).status s = .ok) : Completes (.replCreate who v o) s (fun t =>
    ∃ i, (allocIndex s (groupKind v)).map (·.1) = some i ∧ groupOf t v i = {} ∧ (∀ j, j ≠ i → groupOf t v j = groupOf s v j) ∧
      t.resp.status = .ok ∧ t.resp.payload = beBytes 4 (handleOf s (groupKind v) i).toNat ∧ (t.vale v).path = (s.vale v).path ∧
      t.mem = s.mem) := by
  obtain ⟨i, s1, halloc⟩ := allocIndex_of_replCreate_ok hok
  obtain ⟨hvale1, hgens1, hmem1⟩ := allocIndex_keeps halloc v
  obtain ⟨hvale, -, hmem⟩ := objOwned_keeps s1 (groupKind v) i o v
  refine (serves_replCreate who v o).completes hs hok ⟨i, by rw [halloc]; rfl, ?_⟩
  simp only [replCreateOp_effect halloc, groupOf_respond, groupOf_setGroup_same, respond_resp, vale_respond, path_setGroup,
    respond_mem, setGroup_mem, hvale, hvale1, hmem, hmem1]
  refine ⟨trivial, fun j hj => ?_, trivial, by rw [handleOf_of_gens hgens1], trivial, trivial⟩
  exact (groupOf_setGroup_other _ v hj _).trans (groupOf_congr (hvale.trans hvale1) j)

theorem completes_replDestroy {who : Who} {v : Vale} {h : Handle} {s : State} (hs : glenServes s = true)
    (hok : (replDestroyOp who v h).status s = .ok) : Completes (.replDestroy who v h) s (fun t =>
    tget (t.vale v).tm.groups (hIdx h) = none ∧ (∀ j, j ≠ hIdx h → groupOf t v j = groupOf s v j) ∧ t.resp.status = .ok ∧
      (t.vale v).path = (s.vale v).path ∧ t.mem = s.mem) := by
  refine (serves_replDestroy who v h).completes hs hok ?_
  simp only [replDestroyOp, freeGroup, groupOf, vale_respond, respond_resp, respond_mem, vale_endObj, endObj_mem, vale_modTm, modTm_mem,
    vale_bumpGen, bumpGen_mem]
  exact ⟨tget_terase_same _ _, fun j hj => tgetD_terase_other _ _ _ _ hj, trivial, trivial, trivial⟩

/-- Values set one after another from a number on are all listed at their places. -/
theorem tget_foldl_tset {α : Type} (f : Nat → α) (first n : Nat) (t : Tab α) {k : Nat} (hk : k < n) :
    tget ((List.range n).foldl (fun a i => tset a (first + i) (f i)) t) (first + k) = some (f k) := by
  induction n with
  | zero => omega
  | succ n ih =>
    rw [List.range_succ, List.foldl_append, List.foldl_cons, List.foldl_nil]
    by_cases hlast : k = n
    · rw [hlast, tget_tset_same]
    · rw [tget_tset_other _ _ _ _ (by omega), ih (by omega)]

@[simp] theorem length_writtenMembers (bs : List Byte) (n : Nat) : (writtenMembers bs n).length = n := by
  simp [writtenMembers]

/-- R241: a write lists its members from its first position on, and the active list stays. -/
theorem completes_replWrite {who : Who} {v : Vale} {bs : List Byte} {s : State} (hs : glenServes s = true)
    (hok : (replWriteOp who v bs).status s = .ok) : Completes (.replWrite who v bs) s (fun t =>
    let g := hIdx (BitVec.ofNat 32 (beNat (sliceD bs 0 4 0)))
    (∀ k, k < beNat (sliceD bs 6 2 0) → tget (groupOf t v g).pend (beNat (sliceD bs 4 2 0) + k) =
      some ((writtenMembers bs (beNat (sliceD bs 6 2 0))).getD k 0)) ∧
    (groupOf t v g).active = (groupOf s v g).active ∧ t.resp.status = .ok ∧ (t.vale v).path = (s.vale v).path ∧ t.mem = s.mem) := by
  refine (serves_replWrite who v bs).completes hs hok ?_
  simp only [replWriteOp, groupOf_respond, groupOf_setGroup_same, length_writtenMembers, respond_resp, vale_respond, path_setGroup,
    respond_mem, setGroup_mem]
  exact ⟨fun k hk => tget_foldl_tset (fun i => (writtenMembers bs (beNat (sliceD bs 6 2 0))).getD i 0) _ _ _ hk, trivial, trivial,
    trivial, trivial⟩

theorem completes_replApply {who : Who} {v : Vale} {r : Rec 6} {s : State} (hs : glenServes s = true)
    (hok : (replApplyOp who v r).status s = .ok) : Completes (.replApply who v r) s (fun t =>
    (groupOf t v (hIdx (BitVec.ofNat 32 (recField 6 0 4 r.toNat)))).active =
      pendMembers (groupOf s v (hIdx (BitVec.ofNat 32 (recField 6 0 4 r.toNat)))) (recField 6 4 2 r.toNat) ∧
    (t.vale v).path = (s.vale v).path ∧ t.mem = s.mem) := by
  refine (serves_replApply who v r).completes hs hok ?_
  simp only [replApplyOp, groupOf_respond, groupOf_setGroup_same, vale_respond, path_setGroup, respond_mem, setGroup_mem]
  exact ⟨trivial, trivial, trivial⟩

/-- R248: the query is the session's own. -/
theorem completes_replQuery {who : Who} {v : Vale} {r : Rec 6} {s : State} {x : Session} (hs : glenServes s = true)
    (hok : (replQueryOp who v r).status s = .ok) (hx : tget s.idien.sessions who.sess = some x) :
    Completes (.replQuery who v r) s (fun t => ∃ y, tget t.idien.sessions who.sess = some y ∧
      tget y.replQuery (valeNum v) = some (beBytes 6 r.toNat) ∧ t.resp.status = .ok ∧ t.mem = s.mem ∧ t.dict = s.dict ∧
      t.east = s.east ∧ t.west = s.west) := by
  refine (serves_replQuery who v r).completes hs hok
    ⟨{ x with replQuery := tset x.replQuery (valeNum v) (beBytes 6 r.toNat) }, ?_, tget_tset_same _ _ _, rfl, rfl, rfl, rfl, rfl⟩
  simp only [replQueryOp, respond_idien, tget_tmap, hx, Option.map_some, if_true]

/-! ### The telemetry log (R244) -/

theorem serves_telemLogRead (who : Who) (v : Vale) : Serves (.telemLogRead who v) (telemLogOp who v) :=
  serves_of_runOp (fun _ => rfl)

theorem completes_telemLogRead {who : Who} {v : Vale} {s : State} (hs : glenServes s = true) (hok : (telemLogOp who v).status s = .ok) :
    Completes (.telemLogRead who v) s (fun t =>
      t.resp.payload = ((s.vale v).tm.log.reverse).flatten ∧ (t.vale v).tm.log = [] ∧ t.mem = s.mem ∧ t.dict = s.dict) := by
  refine (serves_telemLogRead who v).completes hs hok ⟨rfl, ?_, modTm_mem _ _ _, modTm_dict _ _ _⟩
  rw [vale_respond, telemLogOp, vale_modTm]

theorem policerGroupObjects : Claims.PolicerGroupObjects :=
  ⟨serves_policerCreate, serves_policerWrite, serves_policerDestroy, serves_gateApply, serves_replCreate, serves_replDestroy,
    serves_replWrite, serves_replApply, serves_replQuery, serves_telemLogRead,
    fun _ _ _ _ => completes_policerCreate, fun _ _ _ _ => completes_policerDestroy, fun _ _ _ _ => completes_gateApply,
    fun _ _ _ _ => completes_replCreate, fun _ _ _ _ => completes_replDestroy, fun _ _ _ _ => completes_replWrite,
    fun _ _ _ _ _ => completes_replQuery, fun _ _ _ _ _ => completes_policerWrite, fun r _ => policerTick_load r,
    fun _ _ _ _ => completes_replApply, fun _ _ _ => completes_telemLogRead⟩

/-! ### Control of the telemetry ring (R245, R291, R295) -/

section Control
variable {x : TelemRing} {lim : Nat} {w : U32}

/-- What a control word makes of a ring, with `lim` vectors in PF0's table. -/
def telemControl (lim : Nat) (x : TelemRing) (w : U32) : TelemRing :=
  let space := if x.en then x.space else bitOf w.toNat 30
  let log2 := if x.en then x.log2 else bitsOf w.toNat 16 4
  let bad := space && decide (lim ≤ bitsOf w.toNat 0 11)
  let y : TelemRing := { x with
    space := space, log2 := log2, intEn := bitOf w.toNat 29, vector := if bad then x.vector else bitsOf w.toNat 0 11 }
  let ok := !bad && decide (6 ≤ log2) && decide (log2 ≤ 15) && (space || decide (x.baseHi.toNat < 0x10000))
  if x.en then { y with en := bitOf w.toNat 31 }
  else if bitOf w.toNat 31 && ok then { y with en := true, prod := 0, cons := 0, phase := true } else y

/-- R245: EN starts a ring of a legal size, with the base or the vector of its space. -/
theorem telemControl_starts (hoff : x.en = false) (hon : bitOf w.toNat 31 = true) (hlow : 6 ≤ bitsOf w.toNat 16 4)
    (hhigh : bitsOf w.toNat 16 4 ≤ 15) (hbase : bitOf w.toNat 30 = false → x.baseHi.toNat < 0x10000)
    (hvec : bitOf w.toNat 30 = true → bitsOf w.toNat 0 11 < lim) : telemControl lim x w = { x with
      en := true, prod := 0, cons := 0, phase := true, space := bitOf w.toNat 30, log2 := bitsOf w.toNat 16 4
      intEn := bitOf w.toNat 29, vector := bitsOf w.toNat 0 11 } := by
  have hgood : (bitOf w.toNat 30 && decide (lim ≤ bitsOf w.toNat 0 11)) = false := by
    rw [Bool.and_eq_false_imp]
    exact fun hspace => decide_eq_false (Nat.not_le.mpr (hvec hspace))
  have hplaced : (bitOf w.toNat 30 || decide (x.baseHi.toNat < 0x10000)) = true := by
    cases hspace : bitOf w.toNat 30
    · exact decide_eq_true (hbase hspace)
    · rfl
  simp [telemControl, hoff, hon, hlow, hhigh, hgood, hplaced]

/-- R245: SPACE and the size stand while the ring runs. -/
theorem telemControl_enabled (hon : x.en = true) : (telemControl lim x w).space = x.space ∧ (telemControl lim x w).log2 = x.log2 ∧
    (telemControl lim x w).prod = x.prod ∧ (telemControl lim x w).en = bitOf w.toNat 31 := by
  simp [telemControl, hon]

/-- R291, log entry 85: a vector beyond PF0's table enables nothing, and is not taken. -/
theorem telemControl_vector_bad (hoff : x.en = false) (hspace : bitOf w.toNat 30 = true) (hvec : lim ≤ bitsOf w.toNat 0 11) :
    (telemControl lim x w).en = false ∧ (telemControl lim x w).vector = x.vector := by
  simp [telemControl, hoff, hspace, hvec]

end Control

/-- A control word that is not discarded changes the ring alone. -/
theorem exec_telemRingEnable {s : State} {host : Bool} (hserves : host = true → fnServes s 0 = true) (v : Vale) (w : U32) :
    exec (.telemRingEnable v ⟨w, host⟩) s = .next (s.modTm v (fun t =>
      { t with ring := telemControl (msixSize s 0) (s.vale v).tm.ring w })) :=
  congrArg Host.Outcome.next (if_neg fun h => h.2 (hserves h.1))

theorem completes_telemRingEnable {s : State} {host : Bool} (hserves : host = true → fnServes s 0 = true) (v : Vale) (w : U32)
    {P : State → Prop} (hP : ∀ t, (t.vale v).tm.ring = telemControl (msixSize s 0) (s.vale v).tm.ring w → t.mem = s.mem →
      t.dict = s.dict → P t) : Completes (.telemRingEnable v ⟨w, host⟩) s P :=
  ⟨_, exec_telemRingEnable hserves v w, hP _ (by rw [vale_modTm]) (modTm_mem _ _ _) (modTm_dict _ _ _)⟩

/-! ### Samples (R244) -/

@[simp] theorem vale_hostWrite (s : State) (f addr : Nat) (bs : List Byte) (v : Vale) : (hostWrite s f addr bs).vale v = s.vale v :=
  vale_hostIssue _ _ _ _ _ _ _ _

/-- A delivered sample does not change when a queue is sampled next. -/
@[simp] theorem watchAt_telemPush (s : State) (v : Vale) (e : List Byte) :
    ((telemPush s v e).vale v).tm.watchAt = (s.vale v).tm.watchAt := by
  unfold telemPush
  dsimp only
  split
  · rw [vale_modTm]
  · split
    · rw [vale_raise, vale_modTm]
    · split <;> split <;> simp

@[simp] theorem watchAt_deliverSample (s : State) (v : Vale) (e : List Byte) :
    ((deliverSample s v e).vale v).tm.watchAt = (s.vale v).tm.watchAt := by
  have hidien : ∀ x : Idien, ({ s with idien := x } : State).vale v = s.vale v := fun _ => by cases v <;> rfl
  unfold deliverSample
  split
  · exact watchAt_telemPush s v e
  · dsimp only
    split
    · rw [vale_count]
    · rw [vale_modTm, hidien]

/-- R244: where sample points of a watched queue have passed, its high-water mark restarts, and the last of them is the one that the
next interval runs from. -/
theorem completes_telemSample {v : Vale} {w : Fin 4096} {s : State} {h n : Nat}
    (hwatch : recField 8 0 4 (numD s (watchKey v w) 0) = h) (hne : h ≠ 0) (hlt : h < 2 ^ 32)
    (hpoints : (s.time.ticks - tgetD (s.vale v).tm.watchAt w 0) / max 1 (watchTicks (numD s (watchKey v w) 0)) = n) (hdue : n ≠ 0)
    (hstop : s.err.failStop = false) :
    Completes (.telemSample v w) s (fun t => (tmQueue t v (hIdx (BitVec.ofNat 32 h))).high = 0 ∧
      tget (t.vale v).tm.watchAt w = some (tgetD (s.vale v).tm.watchAt w 0 + n * watchTicks (numD s (watchKey v w) 0))) := by
  have hnamed : BitVec.ofNat 32 h ≠ 0 := by
    intro hzero
    have hnat := congrArg BitVec.toNat hzero
    rw [BitVec.toNat_ofNat, Nat.mod_eq_of_lt hlt] at hnat
    exact hne hnat
  have htaken : ¬ (BitVec.ofNat 32 h = 0 ∨ n = 0 ∨ s.err.failStop = true) :=
    not_or.mpr ⟨hnamed, not_or.mpr ⟨hdue, ne_true_of_eq_false hstop⟩⟩
  have hexec : exec (.telemSample v w) s = execTelemSample v w s := rfl
  rw [Completes, hexec, execTelemSample]
  simp only [hwatch, hpoints, if_neg htaken]
  refine ⟨_, rfl, by rw [tmQueue_setTmQueue], ?_⟩
  rw [setTmQueue, vale_modTm]
  simp only [watchAt_deliverSample, bump, vale_setNum, vale_modTm, tget_tset_same]

theorem telemetry : Claims.Telemetry := by
  refine ⟨fun v w host s hserves hoff hon hlow hhigh hbase hvec => ?starts, fun v w host s hserves hon => ?runs,
    fun v w host s hserves hoff hspace hvec => ?vector, fun v w s hshut => congrArg Host.Outcome.next (if_pos ⟨rfl, by simp [hshut]⟩),
    fun _ _ _ _ _ => completes_telemSample⟩
  case starts =>
    refine completes_telemRingEnable hserves v w fun t hring hmem hdict => ⟨hring.trans ?_, hmem, hdict⟩
    exact telemControl_starts hoff hon hlow hhigh hbase hvec
  case runs =>
    refine completes_telemRingEnable hserves v w fun t hring _ _ => ?_
    rw [hring]
    exact telemControl_enabled hon
  case vector =>
    refine completes_telemRingEnable hserves v w fun t hring _ _ => ?_
    rw [hring]
    exact telemControl_vector_bad hoff hspace hvec

/-- Settles O31: each object by its operation's effect, the ring by what a control word makes of it, a sample by what it delivers. -/
theorem policersGroupsTelemetry : Obligations.PolicersGroupsTelemetry := ⟨policerGroupObjects, telemetry⟩

end Sys2Proof.Machine
end

section
/-! Proofs of the statements about SLOT_MODE and about a slot's power (R252, R257). -/

namespace Sys2Proof.Machine

/-! ### SLOT_MODE (R252) -/

theorem serves_slotModeWrite (who : Who) (q : Fin 4) (m : U8) : Serves (.slotModeWrite who q m) (slotModeOp who q m) :=
  serves_of_runOp (fun _ => rfl)

section SlotMode

variable {who : Who} {q : Fin 4} {m : U8} {s : State} (hstop : s.err.failStop = false) (hrole : who.role = .operator) (hm : m.toNat ≤ 2)
include hstop hrole hm

/-- For the operator and a mode in range the slot's state decides alone. -/
theorem slotModeOp_status : (slotModeOp who q m).status s = if (slotOf s q).st = .off then .ok else .notReady := by
  refine (firstStatus_baseChecks_append (isO_of_operator hrole) hstop _).trans ?_
  rw [decide_eq_false (Nat.not_lt.mpr hm)]
  by_cases hoff : (slotOf s q).st = .off
  · rw [if_pos hoff, decide_eq_false (not_not_intro hoff)]
    rfl
  · rw [if_neg hoff, decide_eq_true hoff]
    rfl

theorem exec_slotModeWrite_notReady (hs : glenServes s = true) (hst : (slotOf s q).st ≠ .off) :
    exec (.slotModeWrite who q m) s = .next { s with resp := { status := .notReady } } := by
  have hstatus : (slotModeOp who q m).status s = .notReady := by rw [slotModeOp_status hstop hrole hm, if_neg hst]
  exact congrArg Host.Outcome.next (runOp_fail_plain hs hstatus (by decide) (by decide) rfl)

theorem completes_slotModeWrite_off (hs : glenServes s = true) (hst : (slotOf s q).st = .off) :
    Completes (.slotModeWrite who q m) s (fun t => numD t (okey 0x6800 q) 0 = m.toNat ∧
      (∀ j, j ≠ okey 0x6800 q.val → numD t j 0 = numD s j 0) ∧ t.resp = { status := .ok } ∧ t.saddle = s.saddle ∧ t.mem = s.mem) := by
  have hok : (slotModeOp who q m).status s = .ok := by rw [slotModeOp_status hstop hrole hm, if_pos hst]
  obtain ⟨ks, hpersist⟩ := persist_eq (setNum s (okey 0x6800 q) m.toNat) (okey 0x6800 q)
  refine (serves_slotModeWrite who q m).completes hs hok ?_
  simp only [slotModeOp, hpersist]
  exact ⟨numD_setNum_same _ _ _ _, fun j hj => numD_setNum_other s _ j _ 0 hj, rfl, rfl, rfl⟩

end SlotMode

/-- Settles O36: outside Off the operation fails with NOT_READY and records nothing, in Off it sets the one value. -/
theorem slotModeOnlyInOff : Obligations.SlotModeOnlyInOff :=
  fun _ _ _ _ hs hstop hrole hm =>
    ⟨exec_slotModeWrite_notReady hstop hrole hm hs, completes_slotModeWrite_off hstop hrole hm hs⟩

/-! ### SLOT_POWER (R257) -/

theorem serves_slotPower (who : Who) (q : Fin 4) (x : U8) (present : Bool) :
    Serves (.slotPower who q x present) (slotPowerOp who q x present) :=
  serves_of_runOp (fun _ => rfl)

/-- Slot 0 has a region whose aperture packet, in East, came from a source index far above every port, and holds no Basin cell for
its first byte while none is free. No intake builds such a packet, but the statement speaks of every state. -/
def packetWithoutCell : State := { State.reset with
  boot := { State.reset.boot with glenUp := true }
  saddle := { regions := [(0, { conf := 0, apPkt := some 0 })] }
  east := { path := { packets := [(0, { srcIndex := 0x37FC00, bytes := [0], tail := false })], basinFree := 0 } } }

/-- The isolation of the region ends the packet; the frame found no cell, and the drop count of its source is the key of
SLOT_POWER. -/
theorem numD_slotPower_packetWithoutCell (who : Who) :
    numD ((slotPowerOp who 0 0 true).effect packetWithoutCell).1 (okey 0x6801 0) 0 = 1 :=
  rfl

/-- Refutes O34: in `packetWithoutCell` SLOT_POWER 0 is accepted, but SLOT_POWER reads 1 afterwards (`SaddleObjects`, SLOT_POWER 0). -/
theorem not_saddleSlots : ¬ Obligations.SaddleSlots := by
  rintro ⟨⟨-, -, -, -, -, -, -, -, -, -, hpower, -⟩, -⟩
  obtain ⟨t, hexec, -, -, -, -, -, hzero, -⟩ :=
    hpower { role := .operator, bound := 0, sess := 0 } 0 packetWithoutCell rfl (by decide)
  rw [serves_slotPower _ 0 0 true packetWithoutCell rfl (by decide)] at hexec
  cases hexec
  rw [numD_respond, Fin.val_zero, numD_slotPower_packetWithoutCell] at hzero
  cases hzero

end Sys2Proof.Machine
end

section
/-! SUPPORT. Saddle ports and regions: read after write, what the packet path, fail-stop and an answer leave of the regions, and what
stands of a region that is closed. -/

namespace Sys2Proof.Machine

/-! ### Read after write -/

@[simp] theorem regionOf_setRegion_same (s : State) (r : Nat) (x : SRegion) : regionOf (setRegion s r x) r = some x :=
  tget_tset_same _ _ _

theorem regionOf_setRegion_other (s : State) {r j : Nat} (h : j ≠ r) (x : SRegion) : regionOf (setRegion s r x) j = regionOf s j :=
  tget_tset_other _ _ _ _ h

theorem regionOf_congr {s t : State} (h : t.saddle.regions = s.saddle.regions) (r : Nat) : regionOf t r = regionOf s r := by
  rw [regionOf, regionOf, h]

theorem slotOf_setRegion (s : State) (r : Nat) (x : SRegion) (q : Nat) : slotOf (setRegion s r x) q = slotOf s q := rfl

/-- A change of a bound region sets it. -/
theorem modRegion_eq {s : State} {r : Nat} {x : SRegion} (h : regionOf s r = some x) (f : SRegion → SRegion) :
    modRegion s r f = setRegion s r (f x) := by
  simp [modRegion, h]

/-- No region is bound by a change. -/
theorem modRegion_none {s : State} {r : Nat} (h : regionOf s r = none) (f : SRegion → SRegion) : modRegion s r f = s := by
  simp [modRegion, h]

@[simp] theorem sportOf_setSport_same (s : State) (p : Nat) (x : SPort) : sportOf (setSport s p x) p = x := tgetD_tset_same _ _ _ _

/-- An entry that leaves a tenancy's error queue changes the tenancies alone. -/
theorem tenErrLeave_eq (s : State) (o : Handle) (unit resource : Nat) :
    tenErrLeave s o unit resource = { s with tens := (tenErrLeave s o unit resource).tens } := by
  unfold tenErrLeave modTen
  repeat' split
  all_goals rfl

@[simp] theorem tenErrLeave_regions (s : State) (o : Handle) (unit resource : Nat) :
    (tenErrLeave s o unit resource).saddle.regions = s.saddle.regions := by
  rw [tenErrLeave_eq]

@[simp] theorem modTen_regions (s : State) (i : Nat) (f : Tenancy → Tenancy) : (modTen s i f).saddle.regions = s.saddle.regions := by
  unfold modTen
  split <;> rfl

theorem subUsage_regions (s : State) (o : Handle) (kind : Nat) : (subUsage s o kind).saddle.regions = s.saddle.regions := by
  unfold subUsage
  split <;> rfl

@[simp] theorem endObj_regions (s : State) (kind i : Nat) : (endObj s kind i).saddle.regions = s.saddle.regions := by
  unfold endObj
  dsimp only
  split
  · exact (modTen_regions _ _ _).trans (subUsage_regions _ _ _)
  · exact subUsage_regions _ _ _

/-- The answer of a write gives its status and leaves the regions and memory. -/
theorem answerWrite_keeps (s : State) (q : Option Req) (st : Status) : (answerWrite s q st).resp.status = st ∧
    (answerWrite s q st).saddle = s.saddle ∧ (answerWrite s q st).mem = s.mem := by
  cases q with
  | none => exact ⟨rfl, rfl, rfl⟩
  | some r => rw [answerWrite, answerReq_eq]; exact ⟨rfl, rfl, rfl⟩

/-! ### What the packet path and fail-stop leave of the Saddle

A frame that is cut off can wake a supervisor whose fault ends in fail-stop, which clamps the slots and resets the ports (R479). -/

/-- The regions, and the shell versions of the slots. -/
def regionsAndShells (s : State) : Tab SRegion × (Nat → Nat) := (s.saddle.regions, fun q => (slotOf s q).version)

@[simp] theorem regionsAndShells_ite (c : Prop) [Decidable c] (s t : State) :
    regionsAndShells (if c then s else t) = if c then regionsAndShells s else regionsAndShells t :=
  apply_ite regionsAndShells c s t

@[simp] theorem regionsAndShells_foldl {α : Type} {f : State → α → State}
    (h : ∀ s a, regionsAndShells (f s a) = regionsAndShells s) (l : List α) (s : State) :
    regionsAndShells (l.foldl f s) = regionsAndShells s :=
  foldl_keeps regionsAndShells h l s

@[simp] theorem regionsAndShells_modVale (s : State) (v : Vale) (f : ValeState → ValeState) :
    regionsAndShells (s.modVale v f) = regionsAndShells s := by
  cases v <;> rfl

@[simp] theorem regionsAndShells_modPath (s : State) (v : Vale) (f : Path → Path) :
    regionsAndShells (s.modPath v f) = regionsAndShells s :=
  regionsAndShells_modVale _ _ _

@[simp] theorem regionsAndShells_modCol (s : State) (v : Vale) (f : ColState → ColState) :
    regionsAndShells (s.modCol v f) = regionsAndShells s :=
  regionsAndShells_modVale _ _ _

@[simp] theorem regionsAndShells_count (s : State) (k : Nat) : regionsAndShells (count s k) = regionsAndShells s := rfl
@[simp] theorem regionsAndShells_raise (s : State) (m : EvtMsg) : regionsAndShells (raise s m) = regionsAndShells s := rfl

@[simp] theorem regionsAndShells_modSport (s : State) (p : Nat) (f : SPort → SPort) :
    regionsAndShells (modSport s p f) = regionsAndShells s := rfl

@[simp] theorem regionsAndShells_setPkt (s : State) (v : Vale) (i : Nat) (p : Packet) :
    regionsAndShells (setPkt s v i p) = regionsAndShells s :=
  regionsAndShells_modPath _ _ _

@[simp] theorem regionsAndShells_removePkt (s : State) (v : Vale) (i : Nat) :
    regionsAndShells (removePkt s v i) = regionsAndShells s := by
  unfold removePkt
  split <;> simp

@[simp] theorem regionsAndShells_dropPkt (s : State) (v : Vale) (i reason : Nat) :
    regionsAndShells (dropPkt s v i reason) = regionsAndShells s := by
  unfold dropPkt countStale countQueueDrop
  dsimp only
  repeat' split
  all_goals simp

@[simp] theorem regionsAndShells_dropDown (s : State) (v : Vale) (f : Nat → Packet → Bool) :
    regionsAndShells (dropDown s v f) = regionsAndShells s := by
  refine regionsAndShells_foldl (fun a q => ?_) _ _
  rw [dropCopy, regionsAndShells_dropPkt, countCopyDrop]
  simp

/-! Cores and threads. -/

@[simp] theorem regionsAndShells_modCore (s : State) (v : Vale) (n : Nat) (f : Core → Core) :
    regionsAndShells (modCore s v n f) = regionsAndShells s :=
  regionsAndShells_modCol _ _ _

@[simp] theorem regionsAndShells_setThr (s : State) (th : Thr) (x : Thread) :
    regionsAndShells (setThr s th x) = regionsAndShells s :=
  regionsAndShells_modCore _ _ _ _

@[simp] theorem regionsAndShells_freeFamily (s : State) (v : Vale) (n i : Nat) :
    regionsAndShells (freeFamily s v n i) = regionsAndShells s :=
  regionsAndShells_modCore _ _ _ _

@[simp] theorem regionsAndShells_endFamily (s : State) (v : Vale) (n i reason : Nat) :
    regionsAndShells (endFamily s v n i reason) = regionsAndShells s := by
  simp [endFamily]

@[simp] theorem regionsAndShells_pushNote (s : State) (v : Vale) (n : Nat) (ws : List Word36) :
    regionsAndShells (pushNote s v n ws) = regionsAndShells s := by
  simp [pushNote, setCore]

@[simp] theorem regionsAndShells_poolShortEvent (s : State) (v : Vale) :
    regionsAndShells (poolShortEvent s v) = regionsAndShells s := by
  simp [poolShortEvent]

@[simp] theorem regionsAndShells_startSubst (s : State) (v : Vale) (slot : Nat) :
    regionsAndShells (startSubst s v slot) = regionsAndShells s := by
  unfold startSubst groupOn
  split
  · rfl
  · rw [regionsAndShells_modCore, regionsAndShells_ite]
    exact ite_self _

@[simp] theorem regionsAndShells_endFamilies (s : State) (v : Vale) (n : Nat) :
    regionsAndShells (endFamilies s v n) = regionsAndShells s := by
  refine regionsAndShells_foldl (fun a t => ?_) _ _
  split <;> simp

@[simp] theorem regionsAndShells_leaveRing (s : State) (v : Vale) (n : Nat) (st : CoreSt) :
    regionsAndShells (leaveRing s v n st) = regionsAndShells s := by
  unfold leaveRing
  dsimp only
  split <;> simp

@[simp] theorem regionsAndShells_queueTest (s : State) (v : Vale) (n : Nat) :
    regionsAndShells (queueTest s v n) = regionsAndShells s := by
  simp [queueTest]

/-! Fail-stop and the errors of a core. -/

@[simp] theorem regionsAndShells_drawFree (s : State) (b : Nat) : regionsAndShells (drawFree s b).2 = regionsAndShells s := rfl

@[simp] theorem regionsAndShells_setFn (s : State) (f : Nat) (x : HostFn) : regionsAndShells (setFn s f x) = regionsAndShells s := rfl

@[simp] theorem regionsAndShells_pushMsg (s : State) (m : HMsg) : regionsAndShells (pushMsg s m) = regionsAndShells s := rfl

@[simp] theorem regionsAndShells_sendErr (s : State) (f severity : Nat) :
    regionsAndShells (sendErr s f severity) = regionsAndShells s := by
  simp [sendErr]

@[simp] theorem regionsAndShells_aerCor (s : State) (f bit : Nat) : regionsAndShells (aerCor s f bit) = regionsAndShells s := by
  simp [aerCor, modFn]

@[simp] theorem regionsAndShells_aerUnc (s : State) (f bit : Nat) : regionsAndShells (aerUnc s f bit) = regionsAndShells s := by
  simp [aerUnc]

theorem tgetD_tmap {α : Type} (t : Tab α) (f : Nat → α → α) (k : Nat) (d : α) :
    tgetD (tmap t f) k d = ((tget t k).map (f k)).getD d := by
  rw [tgetD, tget_tmap]
  cases tget t k <;> rfl

theorem version_failStopUnits (s : State) (q : Nat) : (slotOf (failStopUnits s) q).version = (slotOf s q).version := by
  have hslot : slotOf (failStopUnits s) q = ((tget s.saddle.slots q).map (fun x => { x with clampN := false })).getD {} :=
    tgetD_tmap s.saddle.slots (fun _ x => { x with clampN := false }) q {}
  rw [hslot, slotOf, tgetD]
  cases tget s.saddle.slots q <;> rfl

@[simp] theorem regionsAndShells_failStopUnits (s : State) : regionsAndShells (failStopUnits s) = regionsAndShells s :=
  Prod.ext rfl (funext (version_failStopUnits s))

@[simp] theorem regionsAndShells_failStopVale (s : State) (v : Vale) : regionsAndShells (failStopVale s v) = regionsAndShells s :=
  regionsAndShells_foldl (fun _ _ => regionsAndShells_dropPkt _ _ _ _) _ _

@[simp] theorem regionsAndShells_enterFailStop (r : ErrRec) (s : State) :
    regionsAndShells (enterFailStop r s) = regionsAndShells s := by
  unfold enterFailStop
  split
  · rfl
  · calc regionsAndShells (failStopAer (failStopUnits (failStopVale (failStopVale (aonChip r s) .east) .west)))
        = regionsAndShells (failStopUnits (failStopVale (failStopVale (aonChip r s) .east) .west)) :=
          regionsAndShells_foldl (fun _ _ => regionsAndShells_aerUnc _ _ _) _ _
      _ = regionsAndShells (aonChip r s) := by simp
      _ = regionsAndShells s := rfl

theorem regionsAndShells_arrive {act : ErrKind → Nat → ErrRec → State → State}
    (hact : ∀ k l r s, regionsAndShells (act k l r s) = regionsAndShells s) (d : ErrDesc) (level : Nat) (s : State) :
    regionsAndShells (arrive act d level s) = regionsAndShells s :=
  arriveAt_keeps (fun _ _ => rfl) (fun _ _ _ => rfl) (fun _ _ _ => rfl) hact _ _ _ _ _ _ _

@[simp] theorem regionsAndShells_coreAct (v : Vale) (n : Nat) (k : ErrKind) (l : Nat) (r : ErrRec) (s : State) :
    regionsAndShells (coreAct v n k l r s) = regionsAndShells s := by
  have hregion : ∀ k l r s, regionsAndShells (coreRegionAct v k l r s) = regionsAndShells s := by simp [coreRegionAct]
  unfold coreAct
  split
  · simp
  · dsimp only
    split <;> split <;> simp [regionsAndShells_arrive hregion]

@[simp] theorem regionsAndShells_colFault (s : State) (th : Thr) (f : FaultCode) (detail : Nat) :
    regionsAndShells (colFault s th f detail) = regionsAndShells s := by
  unfold colFault coreBlockError
  dsimp only
  split
  · simp
  · rw [regionsAndShells_arrive (regionsAndShells_coreAct _ _), regionsAndShells_count]

/-! Frames and their tails. -/

@[simp] theorem regionsAndShells_wakeThread (s : State) (th : Thr) : regionsAndShells (wakeThread s th) = regionsAndShells s := by
  simp [wakeThread, modThr]

@[simp] theorem regionsAndShells_wakeHeader (s : State) (v : Vale) (i : Nat) :
    regionsAndShells (wakeHeader s v i) = regionsAndShells s := by
  unfold wakeHeader
  split
  · rfl
  · exact regionsAndShells_foldl (fun a t => by simp) _ _

@[simp] theorem regionsAndShells_dropHeld (s : State) (v : Vale) (i reason : Nat) :
    regionsAndShells (dropHeld s v i reason) = regionsAndShells s := by
  unfold dropHeld
  split <;> simp

@[simp] theorem regionsAndShells_appendBytes (s : State) (v : Vale) (i : Nat) (bs : List Byte) :
    regionsAndShells (appendBytes s v i bs) = regionsAndShells s := by
  unfold appendBytes
  split
  · rfl
  · simp

@[simp] theorem regionsAndShells_frameTail (s : State) (v : Vale) (i : Nat) (rest : List Byte) (ok : Bool) :
    regionsAndShells (frameTail s v i rest ok) = regionsAndShells s := by
  unfold frameTail
  dsimp only
  split
  · simp
  · repeat' split
    all_goals simp

/-! ### A closed region (R274) -/

/-- A region after step 3 of R274: its partial packet and its gate are empty, and it is clamped. -/
def closedRegion (x : SRegion) : SRegion :=
  { apFresh x with queue := [], st := .isolated, iso := none, opening := false, isoReq := true, enable := false }

theorem regions_of_regionsAndShells {s t : State} (h : regionsAndShells t = regionsAndShells s) :
    t.saddle.regions = s.saddle.regions :=
  congrArg Prod.fst h

/-- The partial packet of a region is given up with the region's note of it; what its frame does leaves the Saddle. -/
theorem regionsAndShells_dropPartial {s : State} {r : Nat} {x : SRegion} (hx : regionOf s r = some x) :
    regionsAndShells (dropPartial s r false) =
      regionsAndShells (setRegion s r (apFresh x)) := by
  unfold dropPartial
  simp only [hx, apFresh]
  repeat' split
  all_goals simp_all

@[simp] theorem regionsAndShells_dropToRegion (s : State) (r : Nat) : regionsAndShells (dropToRegion s r) = regionsAndShells s := by
  simp [dropToRegion]

theorem regionsAndShells_discardGate {s : State} {r : Nat} {x : SRegion} (hx : regionOf s r = some x) :
    regionsAndShells (discardGate s r) = regionsAndShells (setRegion s r { x with queue := [] }) := by
  unfold discardGate
  simp only [hx]
  exact regionsAndShells_foldl (fun a _ => regionsAndShells_modSport a _ _) _ _

/-- Before it is clamped a closing region has given up its partial packet and its gate. -/
theorem regionsAndShells_beforeClamp {s : State} {r : Nat} {x : SRegion} (hx : regionOf s r = some x) :
    regionOf (discardGate (dropToRegion (dropPartial s r false) r) r) r =
      some { apFresh x with queue := [] } ∧
    (regionsAndShells (discardGate (dropToRegion (dropPartial s r false) r) r)).2 = (regionsAndShells s).2 := by
  have hdropped := (regionsAndShells_dropToRegion (dropPartial s r false) r).trans (regionsAndShells_dropPartial hx)
  have hpartial := (regionOf_congr (regions_of_regionsAndShells hdropped) r).trans (regionOf_setRegion_same _ _ _)
  have hgate := regionsAndShells_discardGate hpartial
  have hshells : (regionsAndShells (dropToRegion (dropPartial s r false) r)).2 = (regionsAndShells s).2 :=
    (congrArg Prod.snd hdropped :)
  exact ⟨(regionOf_congr (regions_of_regionsAndShells hgate) r).trans (regionOf_setRegion_same _ _ _),
    (congrArg Prod.snd hgate).trans hshells⟩

theorem regionOf_closeRegion {s : State} {r : Nat} {x : SRegion} (hx : regionOf s r = some x) :
    regionOf (closeRegion s r) r = some (closedRegion x) := by
  rw [closeRegion, modRegion_eq (regionsAndShells_beforeClamp hx).1, regionOf_setRegion_same]
  rfl

theorem regionOf_closeRegion_none {s : State} {r : Nat} (hx : regionOf s r = none) : regionOf (closeRegion s r) r = none := by
  have hpartial : dropPartial s r false = s := by simp [dropPartial, hx]
  have hdropped : regionOf (dropToRegion s r) r = none :=
    (regionOf_congr (regions_of_regionsAndShells (regionsAndShells_dropToRegion s r)) r).trans hx
  have hgate : discardGate (dropToRegion s r) r = dropToRegion s r := by simp [discardGate, hdropped]
  rw [closeRegion, hpartial, hgate, modRegion_none hdropped, hdropped]

/-- The slots keep their shells where a region is closed. -/
theorem version_closeRegion {s : State} {r : Nat} {x : SRegion} (hx : regionOf s r = some x) (q : Nat) :
    (slotOf (closeRegion s r) q).version = (slotOf s q).version := by
  rw [closeRegion, modRegion_eq (regionsAndShells_beforeClamp hx).1, slotOf_setRegion]
  exact congrFun (regionsAndShells_beforeClamp hx).2 q

end Sys2Proof.Machine
end

section
/-! Proofs of the statement about the sequences of a Saddle region (R265, R273-R275). -/

namespace Sys2Proof.Machine

/-! ### What the sequences change -/

/-- A destroyed region is free. -/
theorem regionOf_freeRegion (s : State) (r : Nat) : regionOf (freeRegion s r) r = none := by
  unfold freeRegion
  split
  case h_1 hx => exact hx
  case h_2 => exact (regionOf_congr ((endObj_regions _ _ _).trans (tenErrLeave_regions _ _ _ _)) r).trans (tget_terase_same _ _)

/-- A shell of version 2.1 or above is asked for the reset. -/
theorem askReset_asks {s : State} {r : Nat} {x : SRegion} (hx : regionOf s r = some x)
    (hver : 0x0201 ≤ (slotOf s (rgSlot x.conf)).version) :
    askReset s r = setRegion s r { x with resetting := true, rgReset := true } := by
  simp [askReset, hx, hver]

/-- Every reset that is released starts the release of R273. -/
theorem startRelease_eq {s : State} {r : Nat} {x : SRegion} (hx : regionOf s r = some x) : startRelease s r =
    setRegion s r { x with opening := true, isoReq := false, enable := true, iso := none, resetting := false, rgReset := false } :=
  modRegion_eq hx _

/-- A write that waits is answered, where there is one; the Saddle and memory stay. -/
theorem answerIf_keeps (b : Bool) (s : State) (q : Option Req) (st : Status) :
    let t := if b then answerWrite s q st else s
    (b = true → t.resp.status = st) ∧ t.saddle = s.saddle ∧ t.mem = s.mem := by
  cases b with
  | false => exact ⟨nofun, rfl, rfl⟩
  | true => exact ⟨fun _ => (answerWrite_keeps s q st).1, (answerWrite_keeps s q st).2⟩

/-- An error that finds its handler free below chip level is acted on at once, in a state with the same Saddle. -/
theorem arrive_free {d : ErrDesc} {level : Nat} {s : State} (hlevel : level ≠ 4)
    (hfree : (handlerAt s (handlerKey level d.region d.block)).active = none) (act : ErrKind → Nat → ErrRec → State → State) :
    ∃ u r, u.saddle = s.saddle ∧ arrive act d level s = act d.kind level r u := by
  simp only [arrive, arriveAt, hfree, hlevel, if_false]
  refine ⟨_, _, ?_, rfl⟩
  split <;> rfl

/-- What the errors of R278 on a region are. -/
def isoErrDesc (r : Fin 64) (x : SRegion) (cause : Nat) : ErrDesc :=
  { kind := .saddleFaultLimit r, region := 4, block := rgPort x.conf, resource := r.val, tenancy := rgOwner x.conf,
    cause := cause, code := fun l => if l = 4 then 6 else if l = 3 then 3 else 1 }

theorem isoErr_eq (s : State) (name : String) (r : Fin 64) (x : SRegion) (cause : Nat) :
    isoErr s name r x cause = ownedError (isoErrAct name r x) (isoErrDesc r x cause) s := rfl

/-- An error of an operator's region whose block handler is free raises its event and leaves the Saddle. -/
theorem saddle_isoErr {s : State} {x : SRegion} (howner : rgOwner x.conf = 0)
    (hfree : (handlerAt s (handlerKey 2 4 (rgPort x.conf))).active = none) (name : String) (r : Fin 64) (cause : Nat) :
    (isoErr s name r x cause).saddle = s.saddle := by
  have hqueue : ownQueue s (rgOwner x.conf) = false := by simp [ownQueue, modeOf, howner]
  obtain ⟨u, e, hu, harrive⟩ := arrive_free (d := isoErrDesc r x cause) (level := 2) (by decide) hfree (isoErrAct name r x)
  have hown : isoErr s name r x cause = arrive (isoErrAct name r x) (isoErrDesc r x cause) 2 s := by
    rw [isoErr_eq, ownedError]
    exact if_neg (by simp [isoErrDesc, hqueue])
  rw [hown, harrive]
  exact hu

section Sequences

variable {r : Fin 64} {s : State} {x : SRegion} (hx : regionOf s r = some x)
include hx

/-! ### Release (R273) -/

theorem exec_isoAckFall (hopening : x.opening = true) (hready : (slotOf s (rgSlot x.conf)).st = .ready)
    (hstop : s.err.failStop = false) : exec (.isoAckFall r) s = .next (tenErrLeave (setRegion s r { x with
      st := .open_, opening := false, iso := none, credit := if rgPkt s x then (x.taken + 8) % 65536 else x.credit })
      (rgOwner x.conf) (rgUnit x) r) := by
  change execIsoAckFall r s = _
  simp [execIsoAckFall, hx, hopening, hready, hstop]

theorem completes_isoAckFall (hopening : x.opening = true) (hready : (slotOf s (rgSlot x.conf)).st = .ready)
    (hstop : s.err.failStop = false) : Completes (.isoAckFall r) s (fun t => regionOf t r = some { x with
      st := .open_, opening := false, iso := none, credit := if rgPkt s x then (x.taken + 8) % 65536 else x.credit } ∧
      (∀ j, j ≠ r.val → regionOf t j = regionOf s j) ∧ t.saddle.slots = s.saddle.slots ∧ t.dict = s.dict ∧ t.mem = s.mem) := by
  refine ⟨_, exec_isoAckFall hx hopening hready hstop, ?_⟩
  rw [tenErrLeave_eq]
  exact ⟨regionOf_setRegion_same _ _ _, fun j hj => regionOf_setRegion_other s hj _, rfl, rfl, rfl⟩

/-! ### Isolation (R274) -/

section Isolation

variable {why : IsoWhy} (hiso : x.iso = some why) (hstop : s.err.failStop = false)
include hiso hstop

theorem exec_isoAckSet : exec (.isoAckSet r) s = .next (afterIso (closeRegion s r) r why) := by
  change execIsoAckSet r s = _
  simp [execIsoAckSet, hx, hiso, hstop]

theorem exec_isoAckTimeout : exec (.isoAckTimeout r) s =
    .next (afterIso (isoErr (closeRegion s r) "SADDLE_ISO_TIMEOUT" r x 3) r why) := by
  change execIsoAckTimeout r s = _
  simp [execIsoAckTimeout, hx, hiso, hstop]

theorem completes_isoAckSet_halt (hwhy : why = .halt) : Completes (.isoAckSet r) s (fun t =>
    ∃ y, regionOf t r = some y ∧ y.st = .isolated ∧ y.iso = none ∧ y.isoReq = true) := by
  subst hwhy
  exact ⟨_, exec_isoAckSet hx hiso hstop, _, regionOf_closeRegion hx, rfl, rfl, rfl⟩

theorem completes_isolation_destroy (hwhy : why = .destroy) : Completes (.isoAckSet r) s (fun t => regionOf t r = none) ∧
    Completes (.isoAckTimeout r) s (fun t => regionOf t r = none) := by
  subst hwhy
  exact ⟨⟨_, exec_isoAckSet hx hiso hstop, regionOf_freeRegion _ _⟩, ⟨_, exec_isoAckTimeout hx hiso hstop, regionOf_freeRegion _ _⟩⟩

theorem completes_isoAckSet_reset (hwhy : why = .reset) (hver : 0x0201 ≤ (slotOf s (rgSlot x.conf)).version) :
    Completes (.isoAckSet r) s (fun t =>
      ∃ y, regionOf t r = some y ∧ y.st = .isolated ∧ y.resetting = true ∧ y.rgReset = true) := by
  subst hwhy
  have hclosed : 0x0201 ≤ (slotOf (closeRegion s r) (rgSlot (closedRegion x).conf)).version := by
    rw [version_closeRegion hx]
    exact hver
  refine ⟨_, exec_isoAckSet hx hiso hstop, { closedRegion x with resetting := true, rgReset := true }, ?_, rfl, rfl, rfl⟩
  rw [afterIso, askReset_asks (regionOf_closeRegion hx) hclosed, regionOf_setRegion_same]

theorem completes_isoAckTimeout_halt (hwhy : why = .halt) (howner : rgOwner x.conf = 0)
    (hfree : (handlerAt (closeRegion s r) (handlerKey 2 4 (rgPort x.conf))).active = none) :
    Completes (.isoAckTimeout r) s (fun t => ∃ y, regionOf t r = some y ∧ y.st = .isolated ∧ y.isoReq = true) := by
  subst hwhy
  refine ⟨_, exec_isoAckTimeout hx hiso hstop, closedRegion x, ?_, rfl, rfl⟩
  exact (regionOf_congr (congrArg Saddle.regions (saddle_isoErr howner hfree _ _ _)) r).trans (regionOf_closeRegion hx)

end Isolation

/-! ### Reset (R275) -/

theorem completes_resetDone (hresetting : x.resetting = true) : Completes (.resetDone r) s (fun t => regionOf t r = some { x with
    byWrite := false, byReq := none, opening := true, isoReq := false, enable := true, iso := none, resetting := false, rgReset := false } ∧
    (x.byWrite = true → t.resp.status = .ok) ∧ (∀ j, j ≠ r.val → regionOf t j = regionOf s j) ∧ t.mem = s.mem) := by
  have hexec : exec (.resetDone r) s = .next (if x.byWrite then
      answerWrite (startRelease (setRegion s r { x with byWrite := false, byReq := none }) r) x.byReq .ok
      else startRelease (setRegion s r { x with byWrite := false, byReq := none }) r) := by
    change execResetDone r s = _
    simp [execResetDone, hx, hresetting]
  rw [startRelease_eq (regionOf_setRegion_same _ _ _)] at hexec
  refine ⟨_, hexec, ?_⟩
  obtain ⟨hresp, hsaddle, hmem⟩ := answerIf_keeps x.byWrite _ x.byReq .ok
  refine ⟨(regionOf_congr (congrArg Saddle.regions hsaddle) r).trans (regionOf_setRegion_same _ _ _), hresp, fun j hj => ?_, hmem⟩
  rw [regionOf_congr (congrArg Saddle.regions hsaddle), regionOf_setRegion_other _ hj, regionOf_setRegion_other _ hj]

theorem completes_resetDoneTimeout (hresetting : x.resetting = true) : Completes (.resetDoneTimeout r) s (fun t =>
    regionOf t r = some { x with resetting := false, byWrite := false, byReq := none } ∧
    (x.byWrite = true → t.resp.status = .timeout) ∧ (∀ j, j ≠ r.val → regionOf t j = regionOf s j) ∧ t.mem = s.mem) := by
  have hexec : exec (.resetDoneTimeout r) s = .next (resetFails s r x .timeout) := by
    change execResetDoneTimeout r s = _
    simp [execResetDoneTimeout, hx, hresetting]
  refine ⟨_, hexec, ?_⟩
  obtain ⟨hresp, hsaddle, hmem⟩ := answerIf_keeps x.byWrite _ x.byReq .timeout
  refine ⟨(regionOf_congr (congrArg Saddle.regions hsaddle) r).trans (regionOf_setRegion_same _ _ _), hresp, fun j hj => ?_, hmem⟩
  exact (regionOf_congr (congrArg Saddle.regions hsaddle) j).trans (regionOf_setRegion_other _ hj _)

end Sequences

/-- The clamps of a region that is closed. -/
theorem closeRegion_clamps {s : State} {r : Nat} {y : SRegion} (hy : regionOf (closeRegion s r) r = some y) :
    y.st = .isolated ∧ y.iso = none ∧ y.isoReq = true ∧ y.enable = false := by
  cases hx : regionOf s r with
  | none => rw [regionOf_closeRegion_none hx] at hy; cases hy
  | some x =>
    rw [regionOf_closeRegion hx] at hy
    cases hy
    exact ⟨rfl, rfl, rfl, rfl⟩

theorem regionSequences : Claims.RegionSequences := by
  refine ⟨fun r s x hx hopening hready hstop => completes_isoAckFall hx hopening hready hstop, ?isolation,
    fun s r y hy => closeRegion_clamps hy, fun s r => regionOf_freeRegion s r, ?reset,
    fun r s x hx hresetting => ⟨completes_resetDone hx hresetting, completes_resetDoneTimeout hx hresetting⟩⟩
  case isolation =>
    intro r s x why hx hiso hstop
    exact ⟨exec_isoAckSet hx hiso hstop, exec_isoAckTimeout hx hiso hstop, completes_isoAckSet_halt hx hiso hstop,
      completes_isolation_destroy hx hiso hstop, completes_isoAckSet_reset hx hiso hstop, completes_isoAckTimeout_halt hx hiso hstop⟩
  case reset =>
    intro s r x hx hver
    exact ⟨_, by rw [afterIso, askReset_asks hx hver, regionOf_setRegion_same], rfl⟩

end Sys2Proof.Machine
end

section
/-! Proofs of the statement about the requests of logic attached to a Saddle port (R251, R266-R270). -/

namespace Sys2Proof.Machine

/-! ### Charge (R270) and window (R267) -/

/-- A region after a charge of `n` bytes. -/
def chargedRegion (x : SRegion) (n : Nat) : SRegion :=
  if rgRate x.conf = 0 then x else { x with tokens := x.tokens - (max (n + 32) 1 * 65536 : Nat) }

theorem rgCharge_eq {s : State} {r : Nat} {x : SRegion} (hx : regionOf s r = some x) (n : Nat) :
    rgCharge s r n = setRegion s r (chargedRegion x n) :=
  modRegion_eq hx _

/-- A charge takes tokens alone. -/
theorem chargedRegion_eq (x : SRegion) (n : Nat) : chargedRegion x n = { x with tokens := (chargedRegion x n).tokens } := by
  unfold chargedRegion
  split <;> rfl

@[simp] theorem chargedRegion_conf (x : SRegion) (n : Nat) : (chargedRegion x n).conf = x.conf := by rw [chargedRegion_eq]

@[simp] theorem chargedRegion_queue (x : SRegion) (n : Nat) : (chargedRegion x n).queue = x.queue := by rw [chargedRegion_eq]

/-- The window of a request depends on the dictionary, the windows to be checked and the region's record. -/
theorem sgWindow_congr {s t : State} {x y : SRegion} (hdict : t.dict = s.dict) (hbad : t.saddle.badWindows = s.saddle.badWindows)
    (hconf : y.conf = x.conf) (r : Nat) (q : SgReq) : sgWindow t r y q = sgWindow s r x q := by
  simp only [sgWindow, hconf, hbad, numD_of_dict hdict]

theorem sgWindow_beyond {q : SgReq} (h : 2 ^ 42 ≤ q.addr.toNat) (s : State) (r : Nat) (x : SRegion) : sgWindow s r x q = .inl 2 :=
  if_pos (Nat.ne_of_gt (Nat.div_pos h (by decide)))

/-- A request below 2^42 through a window that is not enabled. -/
theorem sgWindow_disabled {s : State} {x : SRegion} {q : SgReq} (h : q.addr.toNat < 2 ^ 42)
    (hoff : bitOf (wdFlags (numD s (windowKey (rgOwner x.conf) (q.addr.toNat / 2 ^ 36)) 0)) 0 = false) (r : Nat) :
    sgWindow s r x q = .inl 3 := by
  have hwindow : q.addr.toNat / 2 ^ 36 % 64 = q.addr.toNat / 2 ^ 36 := Nat.mod_eq_of_lt (by omega)
  simp only [sgWindow, hwindow, hoff]
  rw [if_neg (not_not_intro (Nat.div_eq_of_lt h)), if_pos (.inr (.inl (by decide)))]

/-- The service window of a packet region is no translated one. -/
theorem top_ne_service {s : State} {r : Nat} {x : SRegion} {q : SgReq} {w : Nat × Nat} (h : sgWindow s r x q = .inr w) :
    q.addr.toNat / 2 ^ 36 ≠ 63 := by
  intro htop
  simp only [sgWindow, htop, Nat.mod_eq_of_lt (show 63 < 64 by decide), true_or, if_true] at h
  split at h <;> cases h

/-! ### Translation (R268, R269) -/

theorem WriteOpen.congr {s t : State} {n e : Nat} {q : SgReq} {bs : List Byte} (hctl : t.ctl = s.ctl) (h : WriteOpen s n e q bs) :
    WriteOpen t n e q bs := by
  simpa only [WriteOpen, inDdrHbm, inDdr, ddrCapacity, ddrWorking, hctl] using h

theorem sgTranslate_invalid {e : Nat} (h : bitOf e 0 = false) (s : State) (p : Nat) (r : Fin 64) (n : Nat) (q : SgReq) :
    sgTranslate s p r n e q = sgFault s p r q 5 := by
  simp [sgTranslate, h]

section Write

variable {n e : Nat} {q : SgReq} {bs : List Byte} (hkind : q.kind = .write bs)
include hkind

theorem sgTranslate_protected (hvalid : bitOf e 0 = true) (hro : bitOf (wdFlags n) 1 = false ∨ bitOf e 1 = false) (s : State) (p : Nat)
    (r : Fin 64) : sgTranslate s p r n e q = sgFault s p r q 6 := by
  rcases hro with h | h <;> simp [sgTranslate, hkind, hvalid, h]

theorem sgTranslate_writeOpen {s : State} (h : WriteOpen s n e q bs) (p : Nat) (r : Fin 64) :
    sgTranslate s p r n e q = writeInt s (e / 4096 * 4096 + q.addr.toNat % 4096) bs := by
  obtain ⟨hvalid, hwindow, hentry, hinternal, haddr, hfits⟩ := h
  have haddr' := Nat.not_le.mpr haddr
  simp [sgTranslate, sgInternal, sgBytes, hkind, hvalid, hwindow, hentry, hinternal, hfits]
  omega

end Write

/-- A request whose page entry is cached, behind no request that waits for its entry, is charged and translated. -/
theorem sgProceed_cached {s : State} {p : Nat} {r : Fin 64} {q : SgReq} {x : SRegion} {n a e : Nat} (hx : regionOf s r = some x)
    (hwindow : sgWindow s r x q = .inr (n, a)) (hcached : cachedPage (sportOf s p) a = some e) (hwaits : (sportOf s p).waits = []) :
    sgProceed s p r q = sgTranslate
      (setSport (setRegion s r (chargedRegion x (sgBytes q))) p (cachePage (sportOf s p) a e)) p r n e q := by
  have hwindow' : sgWindow (setRegion s r (chargedRegion x (sgBytes q))) r (chargedRegion x (sgBytes q)) q = .inr (n, a) :=
    (sgWindow_congr rfl rfl (chargedRegion_conf _ _) _ _).trans hwindow
  have hport : sportOf (setRegion s r (chargedRegion x (sgBytes q))) p = sportOf s p := rfl
  unfold sgProceed
  simp only [rgCharge_eq hx, regionOf_setRegion_same, top_ne_service hwindow, false_and, if_false, hwindow', hport, hcached, hwaits,
    List.any_nil]

/-- A write through a cached page entry reaches memory, and takes tokens and the entry's place in the cache alone beside it. -/
theorem sgProceed_write {s : State} {p : Nat} {r : Fin 64} {q : SgReq} {x : SRegion} {n a e : Nat} {bs : List Byte}
    (hx : regionOf s r = some x) (hwindow : sgWindow s r x q = .inr (n, a)) (hcached : cachedPage (sportOf s p) a = some e)
    (hwaits : (sportOf s p).waits = []) (hkind : q.kind = .write bs) (hopen : WriteOpen s n e q bs) :
    sgProceed s p r q = writeInt
      (setSport (setRegion s r (chargedRegion x (sgBytes q))) p (cachePage (sportOf s p) a e))
      (e / 4096 * 4096 + q.addr.toNat % 4096) bs := by
  rw [sgProceed_cached hx hwindow hcached hwaits]
  refine sgTranslate_writeOpen hkind ?_ p r
  exact hopen.congr rfl

/-! ### Faults (R269) -/

/-- A request that is turned down changes its port alone. -/
theorem sgReject_eq (s : State) (p : Nat) (q : SgReq) :
    sgReject s p q = { s with saddle := { s.saddle with ports := (sgReject s p q).saddle.ports } } := by
  unfold sgReject
  dsimp only
  split <;> rfl

/-- Bytes read after a number has been read stand below it. -/
theorem foldl_bytes (bs : List Byte) (n : Nat) :
    bs.foldl (fun n b => n * 256 + b.toNat) n = n * 256 ^ bs.length + beNat bs := by
  induction bs generalizing n with
  | nil => simp [beNat]
  | cons b bs ih =>
    have htail : beNat (b :: bs) = b.toNat * 256 ^ bs.length + beNat bs := by
      rw [beNat, List.foldl_cons, ih, Nat.zero_mul, Nat.zero_add]
    rw [List.foldl_cons, ih, htail, List.length_cons, Nat.pow_succ, Nat.add_mul, Nat.mul_assoc, Nat.mul_comm 256, Nat.add_assoc]

theorem beNat_cons (b : Byte) (bs : List Byte) : beNat (b :: bs) = b.toNat * 256 ^ bs.length + beNat bs := by
  rw [beNat, List.foldl_cons, foldl_bytes, Nat.zero_mul, Nat.zero_add]

theorem beNat_append (as bs : List Byte) : beNat (as ++ bs) = beNat as * 256 ^ bs.length + beNat bs := by
  rw [beNat, List.foldl_append, foldl_bytes bs, ← beNat]

theorem beNat_lt (bs : List Byte) : beNat bs < 256 ^ bs.length := by
  induction bs with
  | nil => exact Nat.one_pos
  | cons b bs ih =>
    calc beNat (b :: bs) < b.toNat * 256 ^ bs.length + 256 ^ bs.length := by rw [beNat_cons]; exact Nat.add_lt_add_left ih _
      _ = (b.toNat + 1) * 256 ^ bs.length := (Nat.succ_mul _ _).symm
      _ ≤ 256 * 256 ^ bs.length := Nat.mul_le_mul_right _ b.isLt
      _ = 256 ^ (b :: bs).length := by rw [List.length_cons, Nat.pow_succ, Nat.mul_comm]

/-- The first of sixteen bytes. -/
theorem beNat_div_first {code : Nat} {bs : List Byte} (hlen : bs.length = 15) : beNat (beBytes 1 code ++ bs) / 2 ^ 120 = code % 256 := by
  have hrest := beNat_lt bs
  have hcode : beNat (beBytes 1 code) = code % 256 := by simp [beNat, beBytes]
  rw [hlen] at hrest
  rw [beNat_append, hcode, hlen]
  omega

/-- The first fault of a region without a fault limit is counted, and its record begins with its code. -/
theorem sgFault_first {s : State} {r : Fin 64} {x : SRegion} (hx : regionOf s r = some x) (hlimit : rgLimit x.conf = 0)
    (hfirst : x.first = 0) (p : Nat) (q : SgReq) (code : Nat) : ∃ y, regionOf (sgFault s p r q code) r = some y ∧
      y.faults = (x.faults + 1) % 2 ^ 64 ∧ y.st = x.st ∧ y.first / 2 ^ 120 = code % 256 := by
  have hrejected : regionOf (sgReject s p q) r = some x := by rw [sgReject_eq]; exact hx
  unfold sgFault faultCount
  simp only [hrejected, hlimit, hfirst, if_true]
  rw [if_neg (fun h => h.1 rfl)]
  split <;> split <;>
  · refine ⟨_, regionOf_setRegion_same _ _ _, rfl, rfl, ?_⟩
    simp only [List.append_assoc]
    exact beNat_div_first (by simp)

/-! ### SADDLE_REQUEST -/

section Request

variable {p : Fin 8} {q : SgReq} {s : State} (hstop : s.err.failStop = false) (hlink : (sportOf s p).link = true)
  (hpstate : (sportOf s p).pstate = 0) (hstall : portStalled s p = false)
include hstop hlink hpstate hstall

theorem exec_saddleRequest_long (hlen : 512 < sgDataLen q) : exec (.saddleRequest p q) s = .next (malformedTlp s p) := by
  change execSaddleRequest p q s = _
  simp [execSaddleRequest, hstop, hlink, hpstate, hstall, hlen]

section Short

variable (heven : p.val % 2 = 0) (hlen : sgDataLen q ≤ 512)
include heven hlen

theorem exec_saddleRequest_unattributed (hr : sgRegion s p q = none) :
    exec (.saddleRequest p q) s = .next (count (sgReject s p q) (okey 0x6825 1)) := by
  change execSaddleRequest p q s = _
  simp [execSaddleRequest, hstop, hlink, hpstate, hstall, Nat.not_lt.mpr hlen, heven, hr]

theorem completes_saddleRequest_unattributed (hr : sgRegion s p q = none) : Completes (.saddleRequest p q) s (fun t =>
    numD t (okey 0x6825 1) 0 = (numD s (okey 0x6825 1) 0 + 1) % 2 ^ 64 ∧ t.saddle.regions = s.saddle.regions ∧ t.mem = s.mem) := by
  refine ⟨_, exec_saddleRequest_unattributed hstop hlink hpstate hstall heven hlen hr, ?_⟩
  have hdict : (sgReject s p q).dict = s.dict := by rw [sgReject_eq]
  refine ⟨?_, ?_, ?_⟩
  · rw [numD_count_same, numD_of_dict hdict]
  · exact congrArg (·.saddle.regions) (sgReject_eq s p q)
  · exact congrArg (·.mem) (sgReject_eq s p q)

variable {r : Fin 64} {x : SRegion} (hr : sgRegion s p q = some r) (hx : regionOf s r = some x)
include hr hx

theorem exec_saddleRequest_closed (hst : x.st ≠ .open_) : exec (.saddleRequest p q) s = .next (sgFault s p r q 1) := by
  change execSaddleRequest p q s = _
  simp [execSaddleRequest, hstop, hlink, hpstate, hstall, Nat.not_lt.mpr hlen, heven, hr, hx, hst]

variable (hst : x.st = .open_)
include hst

theorem exec_saddleRequest_unsupported {b : Bool} (hkind : q.kind = .unsupported b) :
    exec (.saddleRequest p q) s = .next (sgFault s p r q 9) := by
  change execSaddleRequest p q s = _
  simp [execSaddleRequest, hstop, hlink, hpstate, hstall, Nat.not_lt.mpr hlen, heven, hr, hx, hst, hkind]

/-- R270: a read or write waits behind others, for tokens, and while its function is held or its read waits; else it goes on. -/
theorem exec_saddleRequest_open (hkind : ∀ b, q.kind ≠ .unsupported b) : exec (.saddleRequest p q) s =
    .next (if x.queue ≠ [] ∨ ¬ rgMay x ∨ sgHeld s r x q then setRegion s r { x with queue := x.queue ++ [q] } else sgProceed s p r q) := by
  change execSaddleRequest p q s = _
  cases hk : q.kind with
  | unsupported b => exact absurd hk (hkind b)
  | _ => simp [execSaddleRequest, hstop, hlink, hpstate, hstall, Nat.not_lt.mpr hlen, heven, hr, hx, hst, hk]

theorem exec_saddleRequest_waits (hkind : ∀ b, q.kind ≠ .unsupported b)
    (hwait : x.queue ≠ [] ∨ rgMay x = false ∨ sgHeld s r x q = true) :
    exec (.saddleRequest p q) s = .next (setRegion s r { x with queue := x.queue ++ [q] }) := by
  rw [exec_saddleRequest_open hstop hlink hpstate hstall heven hlen hr hx hst hkind, if_pos (by simpa using hwait)]

theorem exec_saddleRequest_proceeds (hkind : ∀ b, q.kind ≠ .unsupported b) (hqueue : x.queue = []) (hmay : rgMay x = true)
    (hheld : sgHeld s r x q = false) : exec (.saddleRequest p q) s = .next (sgProceed s p r q) := by
  rw [exec_saddleRequest_open hstop hlink hpstate hstall heven hlen hr hx hst hkind, if_neg (by simp [hqueue, hmay, hheld])]

theorem completes_saddleRequest_write {n a e : Nat} {bs : List Byte} (hkind : q.kind = .write bs) (hqueue : x.queue = [])
    (hmay : rgMay x = true) (hheld : sgHeld s r x q = false) (hwindow : sgWindow s r x q = .inr (n, a))
    (hcached : cachedPage (sportOf s p) a = some e) (hwaits : (sportOf s p).waits = []) (hopen : WriteOpen s n e q bs) :
    Completes (.saddleRequest p q) s (fun t =>
      t.mem = (writeInt s (e / 4096 * 4096 + q.addr.toNat % 4096) bs).mem ∧ t.dict = s.dict) := by
  have hread : ∀ b, q.kind ≠ .unsupported b := by simp [hkind]
  refine ⟨_, exec_saddleRequest_proceeds hstop hlink hpstate hstall heven hlen hr hx hst hread hqueue hmay hheld, ?_⟩
  rw [sgProceed_write hx hwindow hcached hwaits hkind hopen]
  exact ⟨rfl, rfl⟩

end Short

end Request

/-! ### GATE_QUEUE_RELEASE (R270) -/

theorem regionOf_setSport (s : State) (p : Nat) (x : SPort) (r : Nat) : regionOf (setSport s p x) r = regionOf s r := rfl

theorem regionOf_writeInt (s : State) (a : Nat) (bs : List Byte) (r : Nat) : regionOf (writeInt s a bs) r = regionOf s r := rfl

section Release

variable {r : Fin 64} {x : SRegion} {q : SgReq} {rest : List SgReq} {s : State} (hx : regionOf s r = some x) (hqueue : x.queue = q :: rest)
  (hstop : s.err.failStop = false) (hst : x.st = .open_) (hmay : rgMay x = true) (hheld : sgHeld s r x q = false)
include hx hqueue hstop hst hmay hheld

theorem exec_gateQueueRelease : exec (.gateQueueRelease r) s =
    .next (sgProceed (setRegion s r { x with queue := rest }) (rgPort x.conf) r q) := by
  change execGateQueueRelease r s = _
  simp [execGateQueueRelease, hx, hqueue, hstop, hst, hmay, hheld]

theorem completes_gateQueueRelease_write {n a e : Nat} {bs : List Byte} (hkind : q.kind = .write bs)
    (hwindow : sgWindow s r x q = .inr (n, a)) (hcached : cachedPage (sportOf s (rgPort x.conf)) a = some e)
    (hwaits : (sportOf s (rgPort x.conf)).waits = []) (hopen : WriteOpen s n e q bs) : Completes (.gateQueueRelease r) s (fun t =>
      t.mem = (writeInt s (e / 4096 * 4096 + q.addr.toNat % 4096) bs).mem ∧ (regionOf t r).map (·.queue) = some rest ∧
      t.dict = s.dict) := by
  refine ⟨_, exec_gateQueueRelease hx hqueue hstop hst hmay hheld, ?_⟩
  have hwindow' : sgWindow (setRegion s r { x with queue := rest }) r { x with queue := rest } q = .inr (n, a) :=
    (sgWindow_congr rfl rfl rfl _ _).trans hwindow
  rw [sgProceed_write (regionOf_setRegion_same s r _) hwindow' hcached hwaits hkind (hopen.congr rfl)]
  refine ⟨rfl, ?_, rfl⟩
  rw [regionOf_writeInt, regionOf_setSport, regionOf_setRegion_same, Option.map_some, chargedRegion_queue]

end Release

/-! ### PAGE_ENTRY_FETCH (R268) -/

theorem sportOf_modSport_same (s : State) (p : Nat) (f : SPort → SPort) : sportOf (modSport s p f) p = f (sportOf s p) :=
  sportOf_setSport_same _ _ _

theorem sportOf_writeInt (s : State) (a : Nat) (bs : List Byte) (p : Nat) : sportOf (writeInt s a bs) p = sportOf s p := rfl

section Fetch

variable {p : Fin 8} {r : Fin 64} {w : SgWait} {rest : List SgWait} {x : SRegion} {n a : Nat} {s : State}
  (hwaits : (sportOf s p).waits = w :: rest) (hregion : w.region = r.val) (hx : regionOf s r = some x) (hstop : s.err.failStop = false)
  (hheld : sgHeld s r x w.req = false) (hwindow : sgWindow s r x w.req = .inr (n, a)) (hcached : cachedPage (sportOf s p) a = none)
include hwaits hregion hx hstop hheld hwindow hcached

/-- The oldest waiting request goes on with its entry, unless the entry's word is poisoned. -/
theorem exec_pageEntryFetch : exec (.pageEntryFetch p) s =
    .next (if poisoned s a 8 then sgFault (modSport s p (fun y => { y with waits := rest })) p r w.req 8
      else sgTranslate (modSport (modSport s p (fun y => { y with waits := rest })) p (fun y => cachePage y a (beNat (readInt s a 8))))
        p r n (beNat (readInt s a 8)) w.req) := by
  have hmod : w.region % 64 = r.val := by rw [hregion]; exact Nat.mod_eq_of_lt r.isLt
  have hwindow' : sgWindow (modSport s p (fun y => { y with waits := rest })) r x w.req = .inr (n, a) :=
    (sgWindow_congr rfl rfl rfl _ _).trans hwindow
  have hcached' : cachedPage (sportOf (modSport s p (fun y => { y with waits := rest })) p) a = none := by
    rw [sportOf_modSport_same]
    exact hcached
  have hpoisoned : poisoned (modSport s p (fun y => { y with waits := rest })) a 8 = poisoned s a 8 := rfl
  have hread : readInt (modSport s p (fun y => { y with waits := rest })) a 8 = readInt s a 8 := rfl
  change execPageEntryFetch p s = _
  simp [execPageEntryFetch, hwaits, hmod, hx, hstop, hheld, hwindow', hcached', hpoisoned, hread]

theorem exec_pageEntryFetch_poisoned (h : poisoned s a 8 = true) :
    exec (.pageEntryFetch p) s = .next (sgFault (modSport s p (fun y => { y with waits := rest })) p r w.req 8) := by
  rw [exec_pageEntryFetch hwaits hregion hx hstop hheld hwindow hcached, if_pos h]

theorem exec_pageEntryFetch_clean (h : poisoned s a 8 = false) : exec (.pageEntryFetch p) s = .next (sgTranslate
    (modSport (modSport s p (fun y => { y with waits := rest })) p (fun y => cachePage y a (beNat (readInt s a 8)))) p r n
    (beNat (readInt s a 8)) w.req) := by
  rw [exec_pageEntryFetch hwaits hregion hx hstop hheld hwindow hcached, if_neg (by simp [h])]

theorem completes_pageEntryFetch_write {bs : List Byte} (h : poisoned s a 8 = false) (hkind : w.req.kind = .write bs)
    (hopen : WriteOpen s n (beNat (readInt s a 8)) w.req bs) : Completes (.pageEntryFetch p) s (fun t =>
      (sportOf t p).waits = rest ∧ t.dict = s.dict ∧
      t.mem = (writeInt s (beNat (readInt s a 8) / 4096 * 4096 + w.req.addr.toNat % 4096) bs).mem) := by
  refine ⟨_, (exec_pageEntryFetch_clean hwaits hregion hx hstop hheld hwindow hcached h).trans
    (congrArg Host.Outcome.next (sgTranslate_writeOpen hkind ?_ _ _)), ?_, rfl, rfl⟩
  · exact hopen.congr rfl
  rw [sportOf_writeInt, sportOf_modSport_same, sportOf_modSport_same]
  rfl

end Fetch

theorem saddleRequests : Claims.SaddleRequests := by
  refine ⟨?request, ?release, ?fetch, fun s r x q => ⟨fun h => sgWindow_beyond h s r x, fun h hoff => sgWindow_disabled h hoff r⟩,
    fun s p r n e q => ⟨fun h => sgTranslate_invalid h s p r n q, ?translated, fun bs hkind hvalid hro =>
      sgTranslate_protected hkind hvalid hro s p r⟩, fun s p r q code x hx hlimit hfirst => sgFault_first hx hlimit hfirst p q code⟩
  case request =>
    intro p q s hstop heven hlink hpstate hstall
    refine ⟨exec_saddleRequest_long hstop hlink hpstate hstall, fun hlen =>
      ⟨exec_saddleRequest_unattributed hstop hlink hpstate hstall heven hlen, fun r x hr hx => ⟨?_, ?_, ?_, ?_⟩,
        completes_saddleRequest_unattributed hstop hlink hpstate hstall heven hlen, ?_⟩⟩
    · exact exec_saddleRequest_closed hstop hlink hpstate hstall heven hlen hr hx
    · exact fun b hst => exec_saddleRequest_unsupported hstop hlink hpstate hstall heven hlen hr hx hst
    · exact exec_saddleRequest_waits hstop hlink hpstate hstall heven hlen hr hx
    · exact exec_saddleRequest_proceeds hstop hlink hpstate hstall heven hlen hr hx
    · exact fun r x n a e bs hr hx hst hkind hqueue hmay hheld hwindow hcached hwaits hopen =>
        completes_saddleRequest_write hstop hlink hpstate hstall heven hlen hr hx hst hkind hqueue hmay hheld hwindow hcached hwaits hopen
  case release =>
    intro r x q rest s hx hqueue hstop hst hmay hheld
    exact ⟨exec_gateQueueRelease hx hqueue hstop hst hmay hheld, fun n a e bs hkind hwindow hcached hwaits hopen =>
      completes_gateQueueRelease_write hx hqueue hstop hst hmay hheld hkind hwindow hcached hwaits hopen⟩
  case fetch =>
    intro p r w rest x n a s hwaits hregion hx hstop hheld hwindow hcached
    exact ⟨exec_pageEntryFetch_poisoned hwaits hregion hx hstop hheld hwindow hcached,
      exec_pageEntryFetch_clean hwaits hregion hx hstop hheld hwindow hcached,
      fun bs h hkind hopen => completes_pageEntryFetch_write hwaits hregion hx hstop hheld hwindow hcached h hkind hopen⟩
  case translated =>
    exact fun bs hkind hvalid hwindow hentry hinternal haddr hfits =>
      sgTranslate_writeOpen hkind ⟨hvalid, hwindow, hentry, hinternal, haddr, hfits⟩ p r

end Sys2Proof.Machine
end

section
/-! Proofs of the statement about packets toward and from attached logic (R271-R273). -/

namespace Sys2Proof.Machine

/-! ### Receive slots (R272) -/

theorem pktAt_setRegion (s : State) (r : Nat) (x : SRegion) (v : Vale) (i : Nat) : pktAt (setRegion s r x) v i = pktAt s v i := by
  cases v <;> rfl

theorem regionOf_removePkt (s : State) (v : Vale) (i j : Nat) : regionOf (removePkt s v i) j = regionOf s j :=
  regionOf_congr (regions_of_regionsAndShells (regionsAndShells_removePkt s v i)) j

section Receive

variable {r : Fin 64} {x : SRegion} {v : Vale} {i : Nat} {p : Packet} {s : State} (hx : regionOf s r = some x)
  (htoward : towardRegion s r = some (v, i)) (hp : pktAt s v i = some p) (hopen : regionOpen x = true)
  (hpstate : (sportOf s (rgPort x.conf)).pstate = 0) (hfree : rxHeld x < rxSlots s x)
include hx htoward hp hopen hpstate hfree

/-- A packet with a free slot before it is dropped when the slot is too short, and fills it otherwise. -/
theorem exec_saddleRxWrite : exec (.saddleRxWrite r) s =
    .next (if rxSlotBytes s x < p.out.length + 32 then dropPkt (count s (okey 0x6825 2)) v i 0x0C
      else setRegion (removePkt s v i) r
        { x with rxProd := (x.rxProd + 1) % 65536, rx := keep 8 ((rxPlace s x, rxHeader p ++ p.out) :: x.rx) }) := by
  change execSaddleRxWrite r s = _
  simp [execSaddleRxWrite, hx, htoward, hp, hopen, hpstate, Nat.not_le.mpr hfree]

theorem exec_saddleRxWrite_long (hlong : rxSlotBytes s x < p.out.length + 32) :
    exec (.saddleRxWrite r) s = .next (dropPkt (count s (okey 0x6825 2)) v i 0x0C) := by
  rw [exec_saddleRxWrite hx htoward hp hopen hpstate hfree, if_pos hlong]

theorem completes_saddleRxWrite_fits (hfits : p.out.length + 32 ≤ rxSlotBytes s x) : Completes (.saddleRxWrite r) s (fun t =>
    pktAt t v i = none ∧ t.mem = s.mem ∧
    regionOf t r = some { x with rxProd := (x.rxProd + 1) % 65536, rx := keep 8 ((rxPlace s x, rxHeader p ++ p.out) :: x.rx) } ∧
    (∀ j, j ≠ r.val → regionOf t j = regionOf s j)) := by
  refine ⟨_, (exec_saddleRxWrite hx htoward hp hopen hpstate hfree).trans (congrArg Host.Outcome.next (if_neg (Nat.not_lt.mpr hfits))),
    ?_, removePkt_mem s v i, regionOf_setRegion_same _ _ _, fun j hj => ?_⟩
  · exact (pktAt_setRegion _ _ _ _ _).trans (pktAt_removePkt s v i)
  · exact (regionOf_setRegion_other _ hj _).trans (regionOf_removePkt s v i j)

end Receive

/-! ### The aperture (R273) -/

theorem aperture_violates {x : SRegion} {off : Nat} (h : off / 16384 ≠ apNumber x % 8 ∨ off % 16384 ≠ x.apOff ∨ x.credit = apNumber x)
    (s : State) (r : Nat) (bs : List Byte) : aperture s r x off bs = apViolation s r :=
  if_pos h

/-- A write at the place where a packet is to begin: in the slot of its number, at offset 0, below the credit. -/
structure ApertureFresh (x : SRegion) (off : Nat) : Prop where
  slot : off / 16384 = apNumber x % 8
  place : off % 16384 = x.apOff
  credit : x.credit ≠ apNumber x
  len : x.apLen = 0
  buf : x.apBuf = []
  pkt : x.apPkt = none

/-- A charge leaves the aperture as it was. -/
theorem ApertureFresh.charged {x : SRegion} {off : Nat} (h : ApertureFresh x off) (n : Nat) : ApertureFresh (chargedRegion x n) off := by
  rw [chargedRegion_eq]
  exact ⟨h.slot, h.place, h.credit, h.len, h.buf, h.pkt⟩

namespace ApertureFresh

variable {x : SRegion} {off : Nat} {bs : List Byte} (h : ApertureFresh x off)
include h

/-- Bytes of a header alone are kept. -/
theorem aperture_header (hlen : bs.length < 16) (s : State) (r : Nat) :
    aperture s r x off bs = setRegion s r { x with apOff := bs.length, apBuf := bs } := by
  simp [aperture, h.slot, h.place, h.credit, h.len, h.buf, hlen]

/-- A write that holds a whole packet puts it behind those that wait for intake. -/
theorem aperture_whole (hlen : bs.length = 16 + beNat (bs.take 2)) (hmin : 14 ≤ beNat (bs.take 2)) (hmax : beNat (bs.take 2) ≤ 15996)
    (s : State) (r : Nat) : aperture s r x off bs =
      setRegion s r { apFresh x with apWait := x.apWait ++ [bs.drop 16] } := by
  have hheader : ¬ bs.length < 16 := by omega
  have hbounds : ¬ (beNat (bs.take 2) < 14 ∨ 15996 < beNat (bs.take 2)) := by omega
  have hrest : bs.length - 16 = beNat (bs.take 2) := by omega
  simp [aperture, apBytes, h.slot, h.place, h.credit, h.len, h.buf, h.pkt, hheader, hbounds, hrest, apFresh]

end ApertureFresh

section Write

variable {r : Fin 64} {x : SRegion} {off : Nat} {bs : List Byte} {s : State} (hx : regionOf s r = some x)
  (hstop : s.err.failStop = false) (hlink : (sportOf s (rgPort x.conf)).link = true)
  (hpstate : (sportOf s (rgPort x.conf)).pstate = 0) (hstall : portStalled s (rgPort x.conf) = false)
  (hlen : bs.length ≤ 512) (hinside : off + bs.length ≤ 131072) (hne : bs ≠ []) (hst : x.st = .open_)
  (hpkt : rgPkt s x = true) (hmay : rgMay x = true) (hqueue : x.queue = [])
include hx hstop hlink hpstate hstall hlen hinside hne hst hpkt hmay hqueue

theorem exec_apertureWrite : exec (.apertureWrite r off bs) s =
    .next (aperture (rgCharge s r bs.length) r (chargedRegion x bs.length) off bs) := by
  change execApertureWrite r off bs s = _
  simp [execApertureWrite, hx, hstop, hlink, hpstate, hstall, Nat.not_lt.mpr hlen, Nat.not_lt.mpr hinside, hne, hst, hpkt, hmay, hqueue,
    rgCharge_eq hx]

variable (hfresh : ApertureFresh x off)
include hfresh

theorem completes_apertureWrite_header (hheader : bs.length < 16) : Completes (.apertureWrite r off bs) s (fun t =>
    ∃ z, regionOf t r = some z ∧ z.apOff = bs.length ∧ z.apBuf = bs ∧ z.apWait = x.apWait ∧ z.credit = x.credit ∧
      t.dict = s.dict ∧ t.mem = s.mem) := by
  have hexec := exec_apertureWrite hx hstop hlink hpstate hstall hlen hinside hne hst hpkt hmay hqueue
  rw [(hfresh.charged _).aperture_header hheader, rgCharge_eq hx] at hexec
  refine ⟨_, hexec, _, regionOf_setRegion_same _ _ _, rfl, rfl, ?_, ?_, rfl, rfl⟩ <;> rw [chargedRegion_eq]

theorem completes_apertureWrite_whole (hwhole : bs.length = 16 + beNat (bs.take 2)) (hmin : 14 ≤ beNat (bs.take 2)) :
    Completes (.apertureWrite r off bs) s (fun t => ∃ z, regionOf t r = some z ∧ z.apOff = 0 ∧ z.apLen = 0 ∧
      z.apWait = x.apWait ++ [bs.drop 16] ∧ z.credit = x.credit ∧ t.dict = s.dict ∧ t.mem = s.mem) := by
  have hexec := exec_apertureWrite hx hstop hlink hpstate hstall hlen hinside hne hst hpkt hmay hqueue
  rw [(hfresh.charged _).aperture_whole hwhole hmin (by omega), rgCharge_eq hx] at hexec
  refine ⟨_, hexec, _, regionOf_setRegion_same _ _ _, rfl, rfl, ?_, ?_, rfl, rfl⟩ <;> rw [chargedRegion_eq]
  rfl

end Write

/-! ### RX_CONS (R271) -/

theorem exec_rxConsWrite {r : Fin 64} {y : SRegion} {s : State} (hy : regionOf s r = some y) (hst : y.st = .open_)
    (hpkt : rgPkt s y = true) (hmay : rgMay y = true) (hqueue : y.queue = []) (hlink : (sportOf s (rgPort y.conf)).link = true)
    (hpstate : (sportOf s (rgPort y.conf)).pstate = 0) (hstall : portStalled s (rgPort y.conf) = false) (v : U16) :
    exec (.rxConsWrite r v) s = .next (rgCharge (setRegion s r { y with rxCons := v.toNat }) r 4) := by
  change execRxConsWrite r v s = _
  simp [execRxConsWrite, hy, hst, hpkt, hmay, hqueue, hlink, hpstate, hstall]

theorem regionPackets : Claims.RegionPackets := by
  refine ⟨?receive, ?write, fun s r x off bs h => aperture_violates h s r bs, ?cons⟩
  case receive =>
    intro r x v i p s hx htoward hp hopen hpstate hfree
    exact ⟨exec_saddleRxWrite_long hx htoward hp hopen hpstate hfree, completes_saddleRxWrite_fits hx htoward hp hopen hpstate hfree⟩
  case write =>
    intro r x off bs s hx hstop hlink hpstate hstall hlen hinside hne hst hpkt hmay hqueue
    refine ⟨⟨_, chargedRegion x bs.length, ?_, rfl,
      exec_apertureWrite hx hstop hlink hpstate hstall hlen hinside hne hst hpkt hmay hqueue⟩,
      fun hslot hplace hcredit hapLen hbuf happkt => ?_⟩
    · rw [rgCharge_eq hx, regionOf_setRegion_same]
    · have hfresh : ApertureFresh x off := ⟨hslot, hplace, hcredit, hapLen, hbuf, happkt⟩
      exact ⟨completes_apertureWrite_header hx hstop hlink hpstate hstall hlen hinside hne hst hpkt hmay hqueue hfresh,
        completes_apertureWrite_whole hx hstop hlink hpstate hstall hlen hinside hne hst hpkt hmay hqueue hfresh⟩
  case cons =>
    intro r v y s hy hst hpkt hmay hqueue hlink hpstate hstall
    refine ⟨_, exec_rxConsWrite hy hst hpkt hmay hqueue hlink hpstate hstall v, ?_⟩
    rw [rgCharge_eq (regionOf_setRegion_same s r _), chargedRegion_eq]
    exact ⟨_, regionOf_setRegion_same _ _ _, rfl, rfl, rfl, rfl, fun j hj =>
      (regionOf_setRegion_other _ hj _).trans (regionOf_setRegion_other _ hj _), rfl, rfl⟩

/-- Settles O35: the sequences of a region (R265, R274, R275), the requests of attached logic (R251, R266-R270), and the packets
toward and from it (R271-R273), each by the equations of its operations on the states it speaks of. -/
theorem saddleRegions : Obligations.SaddleRegions := ⟨regionSequences, saddleRequests, regionPackets⟩

end Sys2Proof.Machine
end

section
/-! Proofs of the statement about the host's windows and its traffic (R288-R290, R300-R304, R366). -/

namespace Sys2Proof.Machine

/-! ### WIN_ENTRY, WIN_FIRST_MISS and QE_LAST_FAULT (R288, R290, R304, R329) -/

theorem serves_winEntryWrite (who : Who) (i : Fin 4096) (r : Rec 24) : Serves (.winEntryWrite who i r) (winEntryOp who i r) :=
  serves_of_runOp (fun _ => rfl)

theorem serves_winFirstMissRead (who : Who) : Serves (.winFirstMissRead who) (winFirstMissOp who) :=
  serves_of_runOp (fun _ => rfl)

theorem serves_qeLastFaultRead (who : Who) : Serves (.qeLastFaultRead who) (qeLastFaultOp who) :=
  serves_of_runOp (fun _ => rfl)

theorem completes_winEntryWrite {who : Who} {i : Fin 4096} {r : Rec 24} {s : State} (hs : glenServes s = true)
    (hok : (winEntryOp who i r).status s = .ok) : Completes (.winEntryWrite who i r) s (fun t =>
      numD t (winKey i) 0 = winIn r.toNat ∧ (∀ j, j ≠ winKey i → numD t j 0 = numD s j 0) ∧ i.val ∉ t.host.badWin ∧
      t.mem = s.mem) := by
  obtain ⟨ks, hpersist⟩ := persist_eq (setNum s (winKey i) (winIn r.toNat)) (winKey i)
  refine (serves_winEntryWrite who i r).completes hs hok ?_
  simp only [winEntryOp, hpersist]
  refine ⟨numD_setNum_same _ _ _ _, fun j hj => numD_setNum_other s _ j _ 0 hj, fun hmem => ?_, rfl⟩
  exact of_decide_eq_true (List.mem_filter.mp hmem).2 rfl

/-- A read that returns a record of 12 bytes and clears it. -/
theorem completes_of_serves_readClear {c : Instr} {op : DictOp} (hserves : Serves c op) {s : State} (hs : glenServes s = true)
    (hok : op.status s = .ok) {k : Nat} (heff : op.effect s = (eraseNum s k, beBytes 12 (numD s k 0))) : Completes c s (fun t =>
      t.resp.payload = beBytes 12 (numD s k 0) ∧ numD t k 0 = 0 ∧ (∀ j, j ≠ k → numD t j 0 = numD s j 0) ∧ t.mem = s.mem) := by
  refine hserves.completes hs hok ?_
  rw [heff]
  exact ⟨rfl, numD_eraseNum_same s k 0, fun j hj => numD_eraseNum_other s hj 0, rfl⟩

/-! ### Host requests to BAR2 (R289) -/

/-- A read's miss returns all-ones and is counted; the first one is recorded in another value. -/
theorem winMiss_read (s : State) (f o n : Nat) : (winMiss s f o (some n)).host.bar = some (List.replicate n 0xFF#8) ∧
    numD (winMiss s f o (some n)) (okey 0x5030 1) 0 = (numD s (okey 0x5030 1) 0 + 1) % 2 ^ 64 ∧
    (winMiss s f o (some n)).mem = s.mem := by
  unfold winMiss
  dsimp only
  split
  · exact ⟨rfl, numD_count_same s _ 0, rfl⟩
  · exact ⟨rfl, (numD_setNum_other _ _ _ _ 0 (by decide)).trans (numD_count_same s _ 0), rfl⟩

/-- A read of DDR5 or HBM returns the bytes of memory, whether they are poisoned or not. -/
theorem barInternal_read {s : State} {a n : Nat} (hin : inDdrHbm s a n = true) :
    (barInternal s a none n).host.bar = some (readInt s a n) ∧ (barInternal s a none n).mem = s.mem ∧
    (barInternal s a none n).saddle = s.saddle := by
  simp only [barInternal, if_pos hin]
  split <;> exact ⟨rfl, rfl, rfl⟩

section Bar2Write

variable {f : Fin 1028} {off : Nat} {bs : List Byte} {s : State} (hlink : s.host.link ≠ 0) (hfn : fnExists s f = true)
  (hsize : off + bs.length ≤ bar2Size s f) (hbs : bs ≠ []) (hserves : fnServes s f = true) (n : Nat)
include hlink hfn hsize hbs hserves

/-- A write that no window covers, or one without the write flag covers, is a miss. -/
theorem exec_bar2Request_write_miss (hmiss : ∀ r, winFor s f off bs.length = some r → bitOf (winFlags r) 2 = false) :
    exec (.bar2Request f off (some bs) n) s = .next (winMiss s f off none) := by
  change execBar2Request f off (some bs) n s = _
  cases hwin : winFor s f off bs.length with
  | none => simp [execBar2Request, hlink, hfn, Nat.not_lt.mpr hsize, hbs, hserves, hwin]
  | some r => simp [execBar2Request, hlink, hfn, Nat.not_lt.mpr hsize, hbs, hserves, hwin, hmiss r hwin]

theorem exec_bar2Request_write_internal {r : Nat} (hwin : winFor s f off bs.length = some r) (hflag : bitOf (winFlags r) 2 = true)
    (hsaddle : winSaddle r = false) (hin : inDdrHbm s (winTarget r + (off - winBase r)) bs.length = true) :
    exec (.bar2Request f off (some bs) n) s = .next (writeInt s (winTarget r + (off - winBase r)) bs) := by
  change execBar2Request f off (some bs) n s = _
  simp [execBar2Request, barInternal, hlink, hfn, Nat.not_lt.mpr hsize, hbs, hserves, hwin, hflag, hsaddle, hin]

end Bar2Write

section Bar2Read

variable {f : Fin 1028} {off n : Nat} {s : State} (hlink : s.host.link ≠ 0) (hfn : fnExists s f = true)
  (hsize : off + n ≤ bar2Size s f) (hn : n ≠ 0)
include hlink hfn hsize hn

theorem exec_bar2Request_read_unserved (hserves : fnServes s f = false) :
    exec (.bar2Request f off none n) s = .next (barData s (List.replicate n 0xFF#8)) := by
  change execBar2Request f off none n s = _
  simp [execBar2Request, hlink, hfn, Nat.not_lt.mpr hsize, hn, hserves]

theorem completes_bar2Request_read_none (hserves : fnServes s f = true) (hwin : winFor s f off n = none) :
    Completes (.bar2Request f off none n) s (fun t => t.host.bar = some (List.replicate n 0xFF#8) ∧
      numD t (okey 0x5030 1) 0 = (numD s (okey 0x5030 1) 0 + 1) % 2 ^ 64 ∧ t.mem = s.mem) := by
  refine ⟨winMiss s f off (some n), ?_, winMiss_read s f off n⟩
  change execBar2Request f off none n s = _
  simp [execBar2Request, hlink, hfn, Nat.not_lt.mpr hsize, hn, hserves, hwin]

theorem completes_bar2Request_read_internal {r : Nat} (hserves : fnServes s f = true) (hwin : winFor s f off n = some r)
    (hflag : bitOf (winFlags r) 1 = true) (hsaddle : winSaddle r = false)
    (hin : inDdrHbm s (winTarget r + (off - winBase r)) n = true) : Completes (.bar2Request f off none n) s (fun t =>
      t.host.bar = some (readInt s (winTarget r + (off - winBase r)) n) ∧ t.mem = s.mem ∧ t.saddle = s.saddle) := by
  refine ⟨barInternal s (winTarget r + (off - winBase r)) none n, ?_, barInternal_read hin⟩
  change execBar2Request f off none n s = _
  simp [execBar2Request, hlink, hfn, Nat.not_lt.mpr hsize, hn, hserves, hwin, hflag, hsaddle]

end Bar2Read

theorem hostWindows : Claims.HostWindows := by
  refine ⟨serves_winEntryWrite, fun _ _ _ _ => completes_winEntryWrite,
    fun who _ hs hok => completes_of_serves_readClear (serves_winFirstMissRead who) hs hok rfl,
    fun who _ hs hok => completes_of_serves_readClear (serves_qeLastFaultRead who) hs hok rfl, ?write, ?read⟩
  case write =>
    intro f off bs n s hlink hfn hsize hbs hserves
    have hmiss := exec_bar2Request_write_miss hlink hfn hsize hbs hserves n
    refine ⟨fun hnone => hmiss fun r hwin => absurd (hnone.symm.trans hwin) nofun, fun r hwin => ⟨fun hflag => hmiss ?_,
      exec_bar2Request_write_internal hlink hfn hsize hbs hserves n hwin⟩⟩
    intro u hu
    rwa [Option.some.inj (hu.symm.trans hwin)]
  case read =>
    intro f off n s hlink hfn hsize hn
    exact ⟨exec_bar2Request_read_unserved hlink hfn hsize hn, completes_bar2Request_read_none hlink hfn hsize hn,
      fun r => completes_bar2Request_read_internal hlink hfn hsize hn⟩

/-! ### What the dirty-page log and waiting answers leave alone (R282, R362) -/

/-- The state beside the memory and the dirty-page logs, the only parts that a mark of a page changes. -/
def besidePages (s : State) : State := { s with mem := [], mig := [] }

theorem besidePages_dplPage (s : State) (t addr : Nat) : besidePages (dplPage s t addr) = besidePages s := by
  unfold dplPage
  dsimp only
  split
  · rfl
  · split <;> rfl

theorem besidePages_dplUncovered (s : State) (t : Nat) (pages : List Nat) :
    besidePages (dplUncovered s t pages) = besidePages s := by
  unfold dplUncovered
  dsimp only
  split <;> rfl

/-- A mark of a write's pages changes the memory and the dirty-page logs alone. -/
theorem dplMark_eq (s : State) (t addr n : Nat) :
    dplMark s t addr n = { s with mem := (dplMark s t addr n).mem, mig := (dplMark s t addr n).mig } := by
  have hbeside : besidePages (dplMark s t addr n) = besidePages s :=
    (besidePages_dplUncovered _ t _).trans (foldl_keeps besidePages (fun b p => besidePages_dplPage b t p) _ s)
  exact congrArg (fun x : State => { x with mem := (dplMark s t addr n).mem, mig := (dplMark s t addr n).mig }) hbeside

/-- The memories, the dictionary and the tenancies, which no answer changes. -/
def memoriesAndOwners (s : State) : List Host.Cell × List Host.Cell × Dict × Tab Tenancy := (s.mem, s.hmem, s.dict, s.tens)

theorem memoriesAndOwners_answerWrite (s : State) (q : Option Req) (st : Status) :
    memoriesAndOwners (answerWrite s q st) = memoriesAndOwners s := by
  cases q with
  | none => rfl
  | some r => rw [answerWrite, answerReq_eq]; rfl

theorem memoriesAndOwners_settleGate (s : State) : memoriesAndOwners (settleGate s) = memoriesAndOwners s := by
  unfold settleGate
  exact foldl_keeps memoriesAndOwners (fun b (w : GateWait) => memoriesAndOwners_answerWrite b w.req .ok) _ _

@[simp] theorem settleGate_mem (s : State) : (settleGate s).mem = s.mem := congrArg (·.1) (memoriesAndOwners_settleGate s)
@[simp] theorem settleGate_hmem (s : State) : (settleGate s).hmem = s.hmem := congrArg (·.2.1) (memoriesAndOwners_settleGate s)
@[simp] theorem settleGate_dict (s : State) : (settleGate s).dict = s.dict := congrArg (·.2.2.1) (memoriesAndOwners_settleGate s)
@[simp] theorem settleGate_tens (s : State) : (settleGate s).tens = s.tens := congrArg (·.2.2.2) (memoriesAndOwners_settleGate s)

theorem settleGate_of_nil {s : State} (h : s.saddle.gateWaits = []) : (settleGate s).host = s.host := by
  rw [settleGate, h]
  rfl

/-! ### A granted request (R300, R301, R362) -/

/-- The state in which a granted write has left the waiting requests and its pages are recorded. -/
def writeTaken (s : State) (r : HReq) : State :=
  let s1 : State := { s with host := { s.host with reqs := s.host.reqs.erase r } }
  if fnOwner s r.fn ≠ 0 ∧ r.log then dplMark s1 (hIdx (fnOwner s r.fn)) r.addr r.len else s1

theorem writeTaken_eq (s : State) (r : HReq) : writeTaken s r = { s with
    host := { s.host with reqs := s.host.reqs.erase r }
    mem := (writeTaken s r).mem
    mig := (writeTaken s r).mig } := by
  unfold writeTaken
  dsimp only
  split
  · exact dplMark_eq _ _ _ _
  · rfl

theorem writeTaken_mem {s : State} {r : HReq} (h : fnOwner s r.fn = 0 ∨ r.log = false) : (writeTaken s r).mem = s.mem := by
  have hunlogged : ¬ (fnOwner s r.fn ≠ 0 ∧ r.log = true) := by
    rintro ⟨howner, hlog⟩
    exact h.elim howner (fun hoff => Bool.false_ne_true (hoff.symm.trans hlog))
  rw [writeTaken, if_neg hunlogged]

theorem grantReq_fromHost (s : State) {r : HReq} (h : r.dir = .fromHost) : grantReq s r =
    { s with host := { s.host with reqs := s.host.reqs.map (fun x => if x = r then { x with granted := true } else x) } } := by
  unfold grantReq
  rw [h]

theorem grantReq_toHost (s : State) {r : HReq} (h : r.dir = .toHost) :
    grantReq s r = settleGate { writeTaken s r with hmem := memWriteN (writeTaken s r).hmem r.addr r.data } := by
  unfold grantReq
  rw [h]
  rfl

theorem grantReq_toHost_hmem (s : State) {r : HReq} (h : r.dir = .toHost) :
    (grantReq s r).hmem = memWriteN s.hmem r.addr r.data := by
  rw [grantReq_toHost s h, settleGate_hmem, writeTaken_eq]

theorem grantReq_toHost_mem {s : State} {r : HReq} (h : r.dir = .toHost) (hlog : fnOwner s r.fn = 0 ∨ r.log = false) :
    (grantReq s r).mem = s.mem := by
  rw [grantReq_toHost s h, settleGate_mem]
  exact writeTaken_mem hlog

theorem grantReq_toHost_reqs {s : State} {r : HReq} (h : r.dir = .toHost) (hwaits : s.saddle.gateWaits = []) :
    (grantReq s r).host.reqs = s.host.reqs.erase r := by
  rw [grantReq_toHost s h, settleGate_of_nil (by rw [writeTaken_eq]; exact hwaits), writeTaken_eq]

/-! ### The clients of the arbiters (R300, R301) -/

theorem fnOwner_of_dict {s t : State} (h : t.dict = s.dict) (f : Nat) : fnOwner t f = fnOwner s f := by
  rw [fnOwner, fnOwner, ownerOf, ownerOf, h]

/-- A function's client follows from the owners and the modes of the tenancies. -/
theorem clientOf_congr {s t : State} (hdict : t.dict = s.dict) (htens : t.tens = s.tens) (f : Nat) : clientOf t f = clientOf s f := by
  have hmode : modeOf t (fnOwner s f) = modeOf s (fnOwner s f) := by rw [modeOf, modeOf, tenAt_congr htens]
  rw [clientOf, clientOf, fnOwner_of_dict hdict, hmode]

theorem clientOf_grantReq (s : State) (r : HReq) (f : Nat) : clientOf (grantReq s r) f = clientOf s f := by
  cases h : r.dir with
  | fromHost => rw [grantReq_fromHost s h]; rfl
  | toHost =>
    rw [grantReq_toHost s h, writeTaken_eq]
    exact clientOf_congr (settleGate_dict _) (settleGate_tens _) f

theorem hostMay_iff {s : State} {d : LinkDir} {r : HReq} :
    hostMay s d r = true ↔ r.dir = d ∧ r.granted = false ∧ fnMay s d r.fn = true := by
  simp [hostMay, and_assoc]

/-- The client's next request waits in the list, its direction's arbiter may grant it, and its function is the client's. -/
theorem mem_of_nextOfClient {s : State} {d : LinkDir} {c : Nat} {r : HReq} (h : nextOfClient s d c = some r) :
    r ∈ s.host.reqs ∧ hostMay s d r = true ∧ clientOf s r.fn = c := by
  have hmine : r ∈ s.host.reqs.filter (fun r => hostMay s d r && decide (clientOf s r.fn = c)) := by
    unfold nextOfClient at h
    dsimp only at h
    split at h
    · exact List.mem_of_mem_head? h
    · split at h
      · exact List.mem_of_find?_eq_some h
      · cases h
  obtain ⟨hlisted, hown⟩ := List.mem_filter.mp hmine
  obtain ⟨hmay, hclient⟩ := Bool.and_eq_true_iff.mp hown
  exact ⟨hlisted, hmay, of_decide_eq_true hclient⟩

theorem nextOfClient_spec {s : State} {d : LinkDir} {c : Nat} {r : HReq} (h : nextOfClient s d c = some r) :
    r ∈ s.host.reqs ∧ r.dir = d ∧ r.granted = false ∧ fnHeld s r.fn = false ∧ (fnOf s r.fn).busMaster = true ∧
      (d = .fromHost → readsOut s < 768) ∧ clientOf s r.fn = c := by
  obtain ⟨hlisted, hmay, hclient⟩ := mem_of_nextOfClient h
  obtain ⟨hdir, hgranted, hfn⟩ := hostMay_iff.mp hmay
  simp only [fnMay, Bool.and_eq_true, Bool.or_eq_true, Bool.not_eq_true', decide_eq_true_eq, and_assoc] at hfn
  obtain ⟨-, hmaster, -, -, hheld, hreads, -⟩ := hfn
  refine ⟨hlisted, hdir, hgranted, hheld, hmaster, fun hd => hreads.resolve_left ?_, hclient⟩
  rw [hd]
  decide

/-! ### HOST_ARB_GRANT (R300, R301) -/

theorem arbPick_eq {s t : State} {d : LinkDir} {also : Option Nat} {c : Nat} (h : arbPick s d also = some (c, t)) :
    ∃ defs cur, t = { s with host := { s.host with arbDef := defs, arbCur := cur } } := by
  unfold arbPick at h
  dsimp only at h
  split at h
  · cases h
  · cases h
    exact ⟨_, _, rfl⟩

/-- What the end of a visit leaves: the memories, the waiting requests and the functions served last. -/
theorem arbEnd_arbSettle_keeps (s : State) (d : LinkDir) (c : Nat) :
    (arbEnd (arbSettle s d c) d c).mem = s.mem ∧ (arbEnd (arbSettle s d c) d c).hmem = s.hmem ∧
    (arbEnd (arbSettle s d c) d c).host.reqs = s.host.reqs ∧ (arbEnd (arbSettle s d c) d c).host.arbFn = s.host.arbFn := by
  unfold arbEnd arbSettle
  dsimp only
  split <;> split <;> exact ⟨rfl, rfl, rfl, rfl⟩

theorem hostCharge_arbFn (s : State) (d : LinkDir) (f n : Nat) :
    tget (hostCharge s d f n).host.arbFn (dirNum d * 1024 + clientOf s f) = some f :=
  tget_tset_same _ _ _

section Grant

variable {s s1 : State} {d : LinkDir} {c : Nat} {r : HReq} (hstop : s.err.failStop = false)
  (hpick : arbPick s d none = some (c, s1)) (hnext : nextOfClient s d c = some r)
include hstop hpick hnext

theorem exec_hostArbGrant :
    exec (.hostArbGrant d) s = .next (arbEnd (arbSettle (hostCharge (grantReq s1 r) d r.fn r.len) d c) d c) := by
  change execHostArbGrant d s = _
  simp [execHostArbGrant, hstop, hpick, hnext]

/-- The granted state is that of `grantReq` beside the arbiter's own values, which name the function as the client's last. -/
theorem completes_hostArbGrant : Completes (.hostArbGrant d) s (fun t => t.mem = (grantReq s1 r).mem ∧
    t.hmem = (grantReq s1 r).hmem ∧ t.host.reqs = (grantReq s1 r).host.reqs ∧
    tget t.host.arbFn (dirNum d * 1024 + c) = some r.fn) := by
  obtain ⟨hmem, hhmem, hreqs, harb⟩ := arbEnd_arbSettle_keeps (hostCharge (grantReq s1 r) d r.fn r.len) d c
  refine ⟨_, exec_hostArbGrant hstop hpick hnext, hmem, hhmem, hreqs, ?_⟩
  obtain ⟨-, -, hclient⟩ := mem_of_nextOfClient hnext
  obtain ⟨defs, cur, rfl⟩ := arbPick_eq hpick
  have hc : clientOf (grantReq { s with host := { s.host with arbDef := defs, arbCur := cur } } r) r.fn = c :=
    (clientOf_grantReq _ r r.fn).trans hclient
  have hlast := hostCharge_arbFn (grantReq { s with host := { s.host with arbDef := defs, arbCur := cur } } r) d r.fn r.len
  rw [hc] at hlast
  rw [harb]
  exact hlast

theorem completes_hostArbGrant_toHost (hd : d = .toHost) : Completes (.hostArbGrant d) s (fun t =>
    t.hmem = memWriteN s.hmem r.addr r.data ∧ (fnOwner s r.fn = 0 ∨ r.log = false → t.mem = s.mem) ∧
    tget t.host.arbFn (dirNum d * 1024 + c) = some r.fn) := by
  obtain ⟨t, hexec, hmem, hhmem, -, harb⟩ := completes_hostArbGrant hstop hpick hnext
  obtain ⟨-, hdir, -⟩ := nextOfClient_spec hnext
  obtain ⟨defs, cur, rfl⟩ := arbPick_eq hpick
  exact ⟨t, hexec, hhmem.trans (grantReq_toHost_hmem _ (hdir.trans hd)),
    fun hlog => hmem.trans (grantReq_toHost_mem (hdir.trans hd) hlog), harb⟩

theorem completes_hostArbGrant_fromHost (hd : d = .fromHost) : Completes (.hostArbGrant d) s (fun t =>
    t.hmem = s.hmem ∧ t.mem = s.mem ∧
    t.host.reqs = s.host.reqs.map (fun x => if x = r then { x with granted := true } else x)) := by
  obtain ⟨t, hexec, hmem, hhmem, hreqs, -⟩ := completes_hostArbGrant hstop hpick hnext
  obtain ⟨-, hdir, -⟩ := nextOfClient_spec hnext
  obtain ⟨defs, cur, rfl⟩ := arbPick_eq hpick
  rw [grantReq_fromHost _ (hdir.trans hd)] at hmem hhmem hreqs
  exact ⟨t, hexec, hhmem, hmem, hreqs⟩

end Grant

/-- Without a further function the arbiter chooses among the clients of the waiting requests alone. -/
theorem arbPick_none {s : State} {d : LinkDir} {c : Nat} {ds : List (Nat × Int)} {z : Bool}
    (h : drrPick ((List.range 258).filter (fun c => s.host.reqs.any (fun r => hostMay s d r && decide (clientOf s r.fn = c))))
      (fun c => hostWeight s c * 256) (fun c => tgetD s.host.arbDef (dirNum d * 1024 + c) 0) (tget s.host.arbCur (dirNum d)) =
        some (c, ds, z)) :
    arbPick s d none = some (c, { s with host := { s.host with
      arbDef := ds.foldl (fun t p => tset t (dirNum d * 1024 + p.1) p.2) s.host.arbDef
      arbCur := tset s.host.arbCur (dirNum d) (c, true) } }) := by
  simp only [arbPick, Option.any_none, Bool.or_false, h]

/-! ### Errors on the host link (R302) -/

@[simp] theorem fnOf_setFn_same (s : State) (f : Nat) (x : HostFn) : fnOf (setFn s f x) f = x := tgetD_tset_same _ _ _ _

@[simp] theorem fnOf_modFn_same (s : State) (f : Nat) (g : HostFn → HostFn) : fnOf (modFn s f g) f = g (fnOf s f) :=
  fnOf_setFn_same _ _ _

/-- A message that reports an error leaves the function, the dictionary and memory. -/
theorem sendErr_keeps (s : State) (f severity g : Nat) : fnOf (sendErr s f severity) g = fnOf s g ∧
    (sendErr s f severity).dict = s.dict ∧ (sendErr s f severity).mem = s.mem := by
  unfold sendErr
  split <;> exact ⟨rfl, rfl, rfl⟩

/-- A correctable condition enters the correctable status alone. -/
theorem aerCor_keeps (s : State) (f bit : Nat) : (fnOf (aerCor s f bit) f).unc = (fnOf s f).unc ∧
    (aerCor s f bit).dict = s.dict ∧ (aerCor s f bit).mem = s.mem := by
  unfold aerCor
  dsimp only
  split
  · rw [fnOf_modFn_same]
    exact ⟨rfl, rfl, rfl⟩
  · obtain ⟨hfn, hdict, hmem⟩ := sendErr_keeps (modFn s f (fun x => { x with cor := x.cor ||| 2 ^ bit })) f 0 f
    rw [hfn, fnOf_modFn_same]
    exact ⟨rfl, hdict, hmem⟩

/-- The state in which an uncorrectable condition is logged, before its message. -/
def uncLogged (s : State) (f bit : Nat) : State :=
  let d := drawFree s (2 ^ 128)
  let g := drawFree d.2 (2 ^ 128)
  if (fnOf s f).unc = 0 then
    setFn g.2 f { fnOf s f with first := bit, unc := 2 ^ bit, hdr := d.1, tlpPrefix := g.1 }
  else aerCor (setFn s f { fnOf s f with unc := (fnOf s f).unc ||| 2 ^ bit }) f 15

theorem aerUnc_eq (s : State) (f bit : Nat) : aerUnc s f bit = if bitOf (fnOf s f).uncMask bit then uncLogged s f bit
    else sendErr (uncLogged s f bit) f (if bitOf (fnOf s f).sev bit then 2 else 1) := rfl

theorem uncLogged_spec (s : State) (f bit : Nat) : bitOf (fnOf (uncLogged s f bit) f).unc bit = true ∧
    (uncLogged s f bit).dict = s.dict ∧ (uncLogged s f bit).mem = s.mem ∧
    ((fnOf s f).unc = 0 → (fnOf (uncLogged s f bit) f).first = bit) := by
  unfold uncLogged
  by_cases hzero : (fnOf s f).unc = 0
  · simp only [if_pos hzero, fnOf_setFn_same]
    exact ⟨Nat.testBit_two_pow_self, rfl, rfl, fun _ => trivial⟩
  · simp only [if_neg hzero]
    obtain ⟨hunc, hdict, hmem⟩ := aerCor_keeps (setFn s f { fnOf s f with unc := (fnOf s f).unc ||| 2 ^ bit }) f 15
    refine ⟨?_, hdict, hmem, fun h => absurd h hzero⟩
    rw [hunc, fnOf_setFn_same, bitOf, Nat.testBit_or, Nat.testBit_two_pow_self, Bool.or_true]

/-- An uncorrectable condition sets its status bit, and is the first one of a function without any. -/
theorem aerUnc_spec (s : State) (f bit : Nat) : bitOf (fnOf (aerUnc s f bit) f).unc bit = true ∧
    (aerUnc s f bit).dict = s.dict ∧ (aerUnc s f bit).mem = s.mem ∧
    ((fnOf s f).unc = 0 → (fnOf (aerUnc s f bit) f).first = bit) := by
  rw [aerUnc_eq]
  split
  · exact uncLogged_spec s f bit
  · obtain ⟨hfn, hdict, hmem⟩ := sendErr_keeps (uncLogged s f bit) f (if bitOf (fnOf s f).sev bit then 2 else 1) f
    rw [hfn, hdict, hmem]
    exact uncLogged_spec s f bit

theorem exec_hostTlpError_link {s : State} (hlink : s.host.link ≠ 0) :
    exec (.hostTlpError .unexpectedCompletion) s = .next (aerUnc s 0 16) ∧
    exec (.hostTlpError .surpriseDown) s = .next (linkDown (aerUnc s 0 5) false) :=
  ⟨congrArg Host.Outcome.next (if_neg hlink), congrArg Host.Outcome.next (if_neg hlink)⟩

/-- The conditions of a function that exists, each by its bit of the uncorrectable status. -/
theorem exec_hostTlpError_fn {s : State} {f : Nat} (hlink : s.host.link ≠ 0) (hfn : fnExists s f = true) :
    exec (.hostTlpError (.poisonedWrite f)) s = .next (aerUnc s f 12) ∧
    exec (.hostTlpError (.unsupported (some f))) s = .next (aerUnc s f 20) ∧
    exec (.hostTlpError (.completionTimeout f)) s = .next (aerUnc s f 14) := by
  refine ⟨congrArg Host.Outcome.next ((if_neg hlink).trans ?_), congrArg Host.Outcome.next ((if_neg hlink).trans ?_),
    congrArg Host.Outcome.next ((if_neg hlink).trans ?_)⟩
  · exact if_pos hfn
  · simp only [if_pos hfn]
  · exact if_pos hfn

theorem hostTraffic : Claims.HostTraffic := by
  refine ⟨?grant, fun _ _ _ _ _ => arbPick_none, fun _ _ _ _ => nextOfClient_spec,
    fun s _ hdir => ⟨grantReq_toHost_hmem s hdir, grantReq_toHost_reqs hdir⟩, ?read, ?errors, fun _ => exec_hostTlpError_link⟩
  case grant =>
    intro s d c s1 r hstop hpick hnext
    exact ⟨exec_hostArbGrant hstop hpick hnext, completes_hostArbGrant_toHost hstop hpick hnext,
      completes_hostArbGrant_fromHost hstop hpick hnext⟩
  case read =>
    intro s r hdir
    rw [grantReq_fromHost s hdir]
    exact ⟨rfl, rfl⟩
  case errors =>
    intro s f hlink hfn
    obtain ⟨hpoisoned, hunsupported, htimeout⟩ := exec_hostTlpError_fn hlink hfn
    exact ⟨hpoisoned, hunsupported, htimeout, _, htimeout, aerUnc_spec s f 14⟩

/-- Settles O38: the windows by the cases of BAR2_REQUEST, the traffic by what a grant and a logged error leave. -/
theorem hostAccesses : Obligations.HostAccesses := ⟨hostWindows, hostTraffic⟩

end Sys2Proof.Machine
end


section
/-! The frame of a state: what a command changes only by a write of memory -/

namespace Sys2Proof.Machine

/-- The part of a state that no command changes but by a write of memory: the waiting commands, both memories, the number of
HBM stacks. -/
structure Frame where
  pending : List Instr
  mem : List Host.Cell
  hmem : List Host.Cell
  carves : Nat

def frame (s : State) : Frame := ⟨s.pending, s.mem, s.hmem, s.ctl.hbm.length⟩

/-- An update of the other fields. -/
@[simp] theorem frame_update (s : State) (free resp time dict idien tens mig mbox mbPend epoch east west err saddle host qe nv)
    (ctl : CtlState) (vault boot clk) (hctl : ctl.hbm.length = s.ctl.hbm.length) :
    frame ⟨s.pending, free, resp, time, dict, idien, tens, mig, mbox, mbPend, epoch, east, west, err, saddle, host, qe, nv, ctl,
      vault, boot, clk, s.mem, s.hmem⟩ = frame s := by
  simp [frame, hctl]

/-- Reads of a state's frame, as reads of `frame`: an update of an updated state has the frame of the state it starts from. -/
theorem frame_fields : (∀ s : State, s.pending = (frame s).pending) ∧ (∀ s : State, s.mem = (frame s).mem) ∧
    (∀ s : State, s.hmem = (frame s).hmem) ∧ (∀ s : State, s.ctl.hbm.length = (frame s).carves) :=
  ⟨fun _ => rfl, fun _ => rfl, fun _ => rfl, fun _ => rfl⟩

theorem frame_mk (pending free resp time dict idien tens mig mbox mbPend epoch east west err saddle host qe nv ctl vault boot clk
    mem hmem) :
    frame ⟨pending, free, resp, time, dict, idien, tens, mig, mbox, mbPend, epoch, east, west, err, saddle, host, qe, nv, ctl,
      vault, boot, clk, mem, hmem⟩ = ⟨pending, mem, hmem, ctl.hbm.length⟩ := rfl

@[simp] theorem frame_ite (c : Prop) [Decidable c] (s t : State) : frame (if c then s else t) = if c then frame s else frame t :=
  apply_ite frame c s t

theorem frame_foldl {α : Type} {f : State → α → State} (hf : ∀ s a, frame (f s a) = frame s) (l : List α) (s : State) :
    frame (l.foldl f s) = frame s :=
  foldl_keeps frame hf l s

@[simp] theorem frame_setVale (s : State) (v : Vale) (x : ValeState) : frame (s.setVale v x) = frame s := by cases v <;> rfl
@[simp] theorem frame_modVale (s : State) (v : Vale) (f : ValeState → ValeState) :
    frame (s.modVale v f) = frame s := frame_setVale s v _
@[simp] theorem frame_modPath (s : State) (v : Vale) (f : Path → Path) : frame (s.modPath v f) = frame s := frame_modVale s v _
@[simp] theorem frame_modCol (s : State) (v : Vale) (f : ColState → ColState) :
    frame (s.modCol v f) = frame s := frame_modVale s v _
@[simp] theorem frame_modTm (s : State) (v : Vale) (f : TmState → TmState) : frame (s.modTm v f) = frame s := frame_modVale s v _
@[simp] theorem frame_modTable (s : State) (v : Vale) (f : TableState → TableState) :
    frame (s.modTable v f) = frame s := frame_modVale s v _
@[simp] theorem frame_drawFree (s : State) (b : Nat) : frame (drawFree s b).2 = frame s := rfl
@[simp] theorem frame_drawTrng (s : State) (b : Nat) : frame (drawTrng s b).2 = frame s := rfl
/-- An answer of a command of which every next state has the frame of `s`. -/
def OutFrame (s : State) (o : Out) : Prop := ∀ t, o = .next t → frame t = frame s

@[simp] theorem outFrame_next (s t : State) : OutFrame s (.next t) ↔ frame t = frame s := by
  simp [OutFrame]

@[simp] theorem outFrame_refused (s : State) (r : Refusal) : OutFrame s (.refused r) := by
  simp [OutFrame]

/-- A dictionary operation of which neither the effect nor what a failure records changes the frame. -/
structure OpFrame (op : DictOp) : Prop where
  effect : ∀ s, frame (op.effect s).1 = frame s
  onFail : ∀ s st, frame (op.onFail s st) = frame s

theorem frame_allocIndex {s : State} {k : Nat} {r : Nat × State} (h : allocIndex s k = some r) : frame r.2 = frame s := by
  unfold allocIndex at h
  dsimp only at h
  repeat' split at h
  all_goals cases h
  all_goals rfl

end Sys2Proof.Machine

end

section
/-! The frame: functions and commands of the model's parts Ops, ClkBase, ErrBase, ColBase, FailStop, CondLines, ColCore,
Operands, TableBase, MemMap, EpochBase, HostBase -/

namespace Sys2Proof.Machine

@[simp] theorem frame_setNum (s : State) (k x : Nat) : frame (setNum s k x) = frame s := by simp [setNum]
@[simp] theorem frame_setOct (s : State) (k : Nat) (x : List Byte) : frame (setOct s k x) = frame s := by simp [setOct]
@[simp] theorem frame_bump (s : State) (k w n : Nat) : frame (bump s k w n) = frame s := rfl
@[simp] theorem frame_count (s : State) (k : Nat) : frame (count s k) = frame s := by simp [count]
@[simp] theorem frame_bumpGen (s : State) (kind idx : Nat) : frame (bumpGen s kind idx) = frame s := by simp [bumpGen]
@[simp] theorem frame_freeIndex (s : State) (kind idx : Nat) : frame (freeIndex s kind idx) = frame s := rfl
@[simp] theorem frame_setOwner (s : State) (kind idx : Nat) (h : Handle) : frame (setOwner s kind idx h) = frame s := rfl
@[simp] theorem frame_clearOwner (s : State) (kind idx : Nat) : frame (clearOwner s kind idx) = frame s := rfl
@[simp] theorem frame_setTen (s : State) (i : Nat) (t : Tenancy) : frame (setTen s i t) = frame s := rfl

@[simp] theorem frame_modTen (s : State) (i : Nat) (f : Tenancy → Tenancy) : frame (modTen s i f) = frame s := by
  unfold modTen
  split <;> simp

@[simp] theorem frame_setUsage (s : State) (t kind n : Nat) : frame (setUsage s t kind n) = frame s := rfl

@[simp] theorem frame_addUsage (s : State) (owner : Handle) (kind : Nat) : frame (addUsage s owner kind) = frame s := by
  simp [addUsage]

@[simp] theorem frame_subUsage (s : State) (owner : Handle) (kind : Nat) : frame (subUsage s owner kind) = frame s := by
  simp [subUsage]

@[simp] theorem frame_endObj (s : State) (kind i : Nat) : frame (endObj s kind i) = frame s := by
  unfold endObj
  dsimp only
  split <;> simp

@[simp] theorem frame_respond (s : State) (st : Status) (retry : Nat) (payload : List Byte) :
    frame (respond s st retry payload) = frame s := rfl

@[simp] theorem frame_runOp {op : DictOp} (h : OpFrame op) (s : State) : frame (runOp op s) = frame s := by
  unfold runOp
  (repeat' split) <;> simp [h.effect, h.onFail]

@[simp] theorem frame_raise (s : State) (m : EvtMsg) : frame (raise s m) = frame s := by simp [raise]
@[simp] theorem frame_persist (s : State) (k : Nat) : frame (persist s k) = frame s := by simp [persist]

@[simp] theorem frame_setSrc (s : State) (c : ClkSource) (x : ClkSt) : frame (setSrc s c x) = frame s := rfl
@[simp] theorem frame_setPll (s : State) (p : Pll) (x : PllSt) : frame (setPll s p x) = frame s := rfl
@[simp] theorem frame_setDom (s : State) (d : Nat) (x : DomSt) : frame (setDom s d x) = frame s := by simp [setDom]

@[simp] theorem frame_setHandler (s : State) (k : Nat) (h : Handler) : frame (setHandler s k h) = frame s := by simp [setHandler]
@[simp] theorem frame_setStat (s : State) (l : Nat) (x : LevelStat) : frame (setStat s l x) = frame s := by simp [setStat]

@[simp] theorem frame_aonRecord (s : State) (unit cause level rtc : Nat) :
    frame (aonRecord s unit cause level rtc) = frame s := rfl

@[simp] theorem frame_logErr (s : State) (r : ErrRec) : frame (logErr s r) = frame s := rfl

@[simp] theorem frame_arriveAt {act : ErrKind → Nat → ErrRec → State → State} (hact : ∀ k l r s, frame (act k l r s) = frame s)
    (d : ErrDesc) (first fuel level flags parent : Nat) (s : State) :
    frame (arriveAt act d first fuel level flags parent s) = frame s := by
  induction fuel generalizing level flags parent s with
  | zero => rfl
  | succ fuel ih =>
    unfold arriveAt
    dsimp only
    split
    · simp [hact]
    · (repeat' split) <;> simp [hact, ih]

@[simp] theorem frame_testError (s : State) (d : ErrDesc) (level unit : Nat) : frame (testError s d level unit) = frame s := rfl

@[simp] theorem frame_testVerdict (s : State) (unit : Nat) (pass : Bool) : frame (testVerdict s unit pass).2 = frame s := by
  simp [testVerdict]

@[simp] theorem frame_arriveRegion {act : ErrKind → Nat → ErrRec → State → State} (hact : ∀ k l r s, frame (act k l r s) = frame s)
    (d : ErrDesc) (s : State) : frame (arriveRegion act d s) = frame s := by
  simp [arriveRegion, hact]

@[simp] theorem frame_arrive {act : ErrKind → Nat → ErrRec → State → State} (hact : ∀ k l r s, frame (act k l r s) = frame s)
    (d : ErrDesc) (level : Nat) (s : State) : frame (arrive act d level s) = frame s := by
  simp [arrive, hact]

@[simp] theorem frame_tenErrLeave (s : State) (owner : Handle) (unit resource : Nat) :
    frame (tenErrLeave s owner unit resource) = frame s := by simp [tenErrLeave]

@[simp] theorem frame_setPkt (s : State) (v : Vale) (i : Nat) (p : Packet) : frame (setPkt s v i p) = frame s := by simp [setPkt]

@[simp] theorem frame_modPkt (s : State) (v : Vale) (i : Nat) (f : Packet → Packet) : frame (modPkt s v i f) = frame s := by
  unfold modPkt
  split <;> simp

@[simp] theorem frame_moveTo (s : State) (v : Vale) (i : Nat) (l : Loc) : frame (moveTo s v i l) = frame s := by simp [moveTo]

@[simp] theorem frame_removePkt (s : State) (v : Vale) (i : Nat) : frame (removePkt s v i) = frame s := by
  unfold removePkt
  split <;> simp

@[simp] theorem frame_countQueueDrop (s : State) (v : Vale) (p : Packet) : frame (countQueueDrop s v p) = frame s := by
  unfold countQueueDrop
  split <;> simp

@[simp] theorem frame_countStale (s : State) (v : Vale) (p : Packet) (reason : Nat) :
    frame (countStale s v p reason) = frame s := by simp [countStale]

@[simp] theorem frame_dropPkt (s : State) (v : Vale) (i reason : Nat) : frame (dropPkt s v i reason) = frame s := by
  unfold dropPkt
  split <;> simp

@[simp] theorem frame_countCopyDrop (s : State) (h : Handle) : frame (countCopyDrop s h) = frame s := by simp [countCopyDrop]

@[simp] theorem frame_dropCopy (s : State) (v : Vale) (i reason : Nat) : frame (dropCopy s v i reason) = frame s := by
  simp [dropCopy]

@[simp] theorem frame_dropDown (s : State) (v : Vale) (f : Nat → Packet → Bool) : frame (dropDown s v f) = frame s := by
  simp [dropDown, frame_foldl]

@[simp] theorem frame_dropWhere (s : State) (v : Vale) (f : Nat → Packet → Bool) (reason : Nat) :
    frame (dropWhere s v f reason) = frame s := by simp [dropWhere, frame_foldl]

@[simp] theorem frame_setCore (s : State) (v : Vale) (n : Nat) (c : Core) : frame (setCore s v n c) = frame s := by simp [setCore]

@[simp] theorem frame_modCore (s : State) (v : Vale) (n : Nat) (f : Core → Core) : frame (modCore s v n f) = frame s := by
  simp [modCore]

@[simp] theorem frame_setThr (s : State) (th : Thr) (x : Thread) : frame (setThr s th x) = frame s := by simp [setThr]
@[simp] theorem frame_modThr (s : State) (th : Thr) (f : Thread → Thread) : frame (modThr s th f) = frame s := by simp [modThr]

@[simp] theorem frame_pushNote (s : State) (v : Vale) (n : Nat) (ws : List Word36) : frame (pushNote s v n ws) = frame s := by
  simp [pushNote]

@[simp] theorem frame_freeFamily (s : State) (v : Vale) (n i : Nat) : frame (freeFamily s v n i) = frame s := by simp [freeFamily]

@[simp] theorem frame_endFamily (s : State) (v : Vale) (n i reason : Nat) : frame (endFamily s v n i reason) = frame s := by
  simp [endFamily]

@[simp] theorem frame_poolShortEvent (s : State) (v : Vale) : frame (poolShortEvent s v) = frame s := by simp [poolShortEvent]

@[simp] theorem frame_afterShare (old s : State) (v : Vale) : frame (afterShare old s v) = frame s := by
  unfold afterShare
  split <;> simp

@[simp] theorem frame_setFn (s : State) (f : Nat) (x : HostFn) : frame (setFn s f x) = frame s := rfl
@[simp] theorem frame_modFn (s : State) (f : Nat) (g : HostFn → HostFn) : frame (modFn s f g) = frame s := rfl
@[simp] theorem frame_pushMsg (s : State) (m : HMsg) : frame (pushMsg s m) = frame s := rfl
@[simp] theorem frame_sendErr (s : State) (f severity : Nat) : frame (sendErr s f severity) = frame s := by simp [sendErr]
@[simp] theorem frame_aerCor (s : State) (f bit : Nat) : frame (aerCor s f bit) = frame s := by simp [aerCor]
@[simp] theorem frame_aerUnc (s : State) (f bit : Nat) : frame (aerUnc s f bit) = frame s := by simp [aerUnc]
@[simp] theorem frame_failStopVale (s : State) (v : Vale) : frame (failStopVale s v) = frame s := by simp [failStopVale]
@[simp] theorem frame_failStopUnits (s : State) : frame (failStopUnits s) = frame s := rfl
@[simp] theorem frame_failStopAer (s : State) : frame (failStopAer s) = frame s := by simp [failStopAer, frame_foldl]
@[simp] theorem frame_aonChip (r : ErrRec) (s : State) : frame (aonChip r s) = frame s := rfl
@[simp] theorem frame_enterFailStop (r : ErrRec) (s : State) : frame (enterFailStop r s) = frame s := by simp [enterFailStop]

@[simp] theorem frame_sampleLines (s : State) (v : Vale) : frame (sampleLines s v) = frame s := by simp [sampleLines]

@[simp] theorem frame_groupOn (s : State) (v : Vale) (n : Nat) : frame (groupOn s v n) = frame s := by simp [groupOn]

@[simp] theorem frame_startSubst (s : State) (v : Vale) (slot : Nat) : frame (startSubst s v slot) = frame s := by
  unfold startSubst
  split <;> simp

@[simp] theorem frame_endFamilies (s : State) (v : Vale) (n : Nat) : frame (endFamilies s v n) = frame s := by
  unfold endFamilies
  refine frame_foldl (fun a t => ?_) _ _
  split <;> simp

@[simp] theorem frame_queueTest (s : State) (v : Vale) (n : Nat) : frame (queueTest s v n) = frame s := by simp [queueTest]

@[simp] theorem frame_nextTest (s : State) (v : Vale) : frame (nextTest s v) = frame s := by
  unfold nextTest
  (repeat' split) <;> simp

@[simp] theorem frame_leaveRing (s : State) (v : Vale) (n : Nat) (st : CoreSt) : frame (leaveRing s v n st) = frame s := by
  unfold leaveRing
  dsimp only
  (repeat' split) <;> simp

@[simp] theorem frame_coreRegionAct (v : Vale) (k : ErrKind) (l : Nat) (r : ErrRec) (s : State) :
    frame (coreRegionAct v k l r s) = frame s := by
  unfold coreRegionAct
  (repeat' split) <;> simp

@[simp] theorem frame_coreAct (v : Vale) (n : Nat) (k : ErrKind) (l : Nat) (r : ErrRec) (s : State) :
    frame (coreAct v n k l r s) = frame s := by simp [coreAct]

@[simp] theorem frame_coreBlockError (s : State) (v : Vale) (n : Nat) (k : ErrKind) (cause detail : Nat) :
    frame (coreBlockError s v n k cause detail) = frame s := by simp [coreBlockError]

@[simp] theorem frame_colFault (s : State) (th : Thr) (f : FaultCode) (detail : Nat) :
    frame (colFault s th f detail) = frame s := by
  unfold colFault
  dsimp only
  (repeat' split) <;> simp

@[simp] theorem frame_issue {s body : State} (th : Thr) (i : Instr) (faults : List (FaultCode × Bool))
    (detail : FaultCode → Nat) (hbody : frame body = frame s) :
    frame (issue s th i faults detail body) = frame s := by
  unfold issue
  (repeat' split) <;> simp [hbody]

@[simp] theorem frame_issueReg (s : State) (th : Thr) (i : Instr) (faults : List (FaultCode × Bool)) (f : Thread → Thread) :
    frame (issueReg s th i faults f) = frame s := by simp [issueReg]

@[simp] theorem frame_applyStore (s : State) (th : Thr) (e : StoreEnt) : frame (applyStore s th e) = frame s := by
  unfold applyStore
  (repeat' split) <;> simp

@[simp] theorem frame_drainOne (s : State) (th : Thr) : frame (drainOne s th) = frame s := by
  unfold drainOne
  split <;> simp

@[simp] theorem frame_drainN (th : Thr) (n : Nat) (s : State) : frame (drainN th n s) = frame s := by
  induction n generalizing s with
  | zero => rfl
  | succ n ih => simp [drainN, ih]

@[simp] theorem frame_drainAll (s : State) (th : Thr) : frame (drainAll s th) = frame s := by simp [drainAll]
@[simp] theorem frame_pushStore (s : State) (th : Thr) (e : StoreEnt) : frame (pushStore s th e) = frame s := by simp [pushStore]

@[simp] theorem frame_loadWord (th : Thr) (toRec : Bool) (addr first count fuel : Nat) (s : State) :
    frame (loadWord th toRec addr first count fuel s).2 = frame s := by
  induction fuel generalizing s with
  | zero => rfl
  | succ fuel ih =>
    unfold loadWord
    (repeat' split) <;> simp [ih]

@[simp] theorem frame_storeRec (s : State) (th : Thr) (i : Nat) (w : Word36) : frame (storeRec s th i w) = frame s := by
  simp [storeRec]

@[simp] theorem frame_setPart (s : State) (v : Vale) (i : Nat) (p : Partition) : frame (setPart s v i p) = frame s := by
  simp [setPart]

@[simp] theorem frame_addLearn (s : State) (v : Vale) (slot : Nat) : frame (addLearn s v slot) = frame s := by simp [addLearn]
@[simp] theorem frame_subLearn (s : State) (v : Vale) (slot : Nat) : frame (subLearn s v slot) = frame s := by simp [subLearn]

@[simp] theorem frame_notify (s : State) (v : Vale) (kind slot : Nat) (h : Handle) (arg key keyWidth : Nat) :
    frame (notify s v kind slot h arg key keyWidth) = frame s := by simp [notify]

@[simp] theorem frame_deleteEntry (s : State) (v : Vale) (i pos : Nat) : frame (deleteEntry s v i pos) = frame s := by
  unfold deleteEntry
  (repeat' split) <;> simp

@[simp] theorem frame_setCarve (s : State) (stack : Nat) (c : Carve) : frame (setCarve s stack c) = frame s := by simp [setCarve]

@[simp] theorem frame_stage (s : State) (k x : Nat) : frame (stage s k x) = frame s := rfl

@[simp] theorem frame_updateIntx (s : State) (f : Nat) : frame (updateIntx s f) = frame s := by simp [updateIntx]
@[simp] theorem frame_holdVector (s : State) (f vec : Nat) : frame (holdVector s f vec) = frame s := rfl
@[simp] theorem frame_raiseVector (s : State) (f vec : Nat) : frame (raiseVector s f vec) = frame s := by simp [raiseVector]
@[simp] theorem frame_setMig (s : State) (t : Nat) (m : Mig) : frame (setMig s t m) = frame s := rfl

@[simp] theorem frame_dplUncovered (s : State) (t : Nat) (pages : List Nat) : frame (dplUncovered s t pages) = frame s := by
  simp [dplUncovered]

@[simp] theorem frame_hostIssue (s : State) (f addr : Nat) (bs : List Byte) (log : Bool) (win : Nat) (payload : Bool) :
    frame (hostIssue s f addr bs log win payload) = frame s := by simp [hostIssue]

@[simp] theorem frame_hostWrite (s : State) (f addr : Nat) (bs : List Byte) : frame (hostWrite s f addr bs) = frame s := by
  simp [hostWrite]

@[simp] theorem frame_hostData (s : State) (f addr : Nat) (bs : List Byte) : frame (hostData s f addr bs) = frame s := by
  simp [hostData]

@[simp] theorem frame_hostReadReq (s : State) (f addr n : Nat) : frame (hostReadReq s f addr n) = frame s := rfl
@[simp] theorem frame_hostCharge (s : State) (d : LinkDir) (f n : Nat) : frame (hostCharge s d f n) = frame s := rfl

theorem frame_arbPick {s : State} {d : LinkDir} {also : Option Nat} {r : Nat × State} (h : arbPick s d also = some r) :
    frame r.2 = frame s := by
  revert h
  unfold arbPick
  dsimp only
  split <;> simp <;> rintro rfl <;> simp

@[simp] theorem frame_arbSettle (s : State) (d : LinkDir) (c : Nat) : frame (arbSettle s d c) = frame s := by simp [arbSettle]
@[simp] theorem frame_arbEnd (s : State) (d : LinkDir) (c : Nat) : frame (arbEnd s d c) = frame s := by simp [arbEnd]

theorem frame_readTurn {s t : State} {f : Nat} (h : readTurn s f = some t) : frame t = frame s := by
  unfold readTurn at h
  (repeat' split at h) <;> cases h
  next h => exact frame_arbPick h

@[simp] theorem frame_readTurn_getD (s : State) (f : Nat) : frame ((readTurn s f).getD s) = frame s := by
  cases ht : readTurn s f with
  | none => rfl
  | some t => exact frame_readTurn ht

@[simp] theorem frame_hostRead (s : State) (f addr n : Nat) : frame (hostRead s f addr n).2 = frame s := by
  simp [hostRead]

@[simp] theorem frame_takeRead (s : State) (f addr : Nat) : frame (takeRead s f addr) = frame s := by
  unfold takeRead
  split <;> simp

end Sys2Proof.Machine

end

section
/-! The frame: functions and commands of the model's parts IdienBase, ColMem, ColFlow, ColFamily, ColSup, ColEvents, Path,
Stage, SteppeBase -/

namespace Sys2Proof.Machine

@[simp] theorem frame_setSession (s : State) (n : Nat) (x : Session) : frame (setSession s n x) = frame s := rfl
@[simp] theorem frame_mbFill (s : State) (bs : List Byte) : frame (mbFill s bs) = frame s := by simp [mbFill]
@[simp] theorem frame_mbRespond (s : State) (bs : List Byte) : frame (mbRespond s bs) = frame s := by simp [mbRespond]

@[simp] theorem frame_sendResp (s : State) (src : ReqSource) (m : RespMsg) : frame (sendResp s src m) = frame s := by
  unfold sendResp
  (repeat' split) <;> simp

@[simp] theorem frame_answerReq (s : State) (r : Req) (a : Resp) : frame (answerReq s r a) = frame s := by
  unfold answerReq
  dsimp only
  (repeat' split) <;> simp

@[simp] theorem frame_answerWrite (s : State) (q : Option Req) (st : Status) : frame (answerWrite s q st) = frame s := by
  unfold answerWrite
  split <;> simp

@[simp] theorem frame_holdWrite (s : State) (ks : List Nat) (q : Option Req) : frame (holdWrite s ks q) = frame s := rfl
@[simp] theorem frame_settleGate (s : State) : frame (settleGate s) = frame s := by simp [settleGate, frame_foldl]

@[simp] theorem frame_runGated {op : DictOp} (h : OpFrame op) (ks : List Nat) (s : State) : frame (runGated op ks s) = frame s := by
  unfold runGated
  split <;> simp [h, h.effect]

@[simp] theorem outFrame_execLdh (th : Thr) (a b c : BitVec 4) (d : BitVec 18) (s : State) :
    OutFrame s (execLdh th a b c d s) := by simp [execLdh]

@[simp] theorem outFrame_execPrb (th : Thr) (a b c : BitVec 4) (d : BitVec 18) (s : State) :
    OutFrame s (execPrb th a b c d s) := by simp [execPrb]

@[simp] theorem outFrame_execLdr (th : Thr) (a b : BitVec 4) (d : BitVec 18) (s : State) : OutFrame s (execLdr th a b d s) := by
  simp [execLdr]

@[simp] theorem outFrame_execStr (th : Thr) (a b : BitVec 4) (d : BitVec 18) (s : State) : OutFrame s (execStr th a b d s) := by
  simp [execStr]

@[simp] theorem outFrame_execRbs (th : Thr) (d : BitVec 18) (s : State) : OutFrame s (execRbs th d s) := by simp [execRbs]
@[simp] theorem outFrame_execRbc (th : Thr) (d : BitVec 18) (s : State) : OutFrame s (execRbc th d s) := by simp [execRbc]

@[simp] theorem outFrame_execLdd (th : Thr) (a b c : BitVec 4) (d : BitVec 18) (s : State) :
    OutFrame s (execLdd th a b c d s) := by simp [execLdd]

@[simp] theorem outFrame_execStd (th : Thr) (a b c : BitVec 4) (d : BitVec 18) (s : State) :
    OutFrame s (execStd th a b c d s) := by simp [execStd]

@[simp] theorem outFrame_execXadd (th : Thr) (a b c : BitVec 4) (d : BitVec 18) (s : State) :
    OutFrame s (execXadd th a b c d s) := by simp [execXadd]

@[simp] theorem outFrame_execFence (th : Thr) (s : State) : OutFrame s (execFence th s) := by simp [execFence]

@[simp] theorem outFrame_execBr (th : Thr) (a : BitVec 4) (d : BitVec 18) (s : State) : OutFrame s (execBr th a d s) := by
  simp [execBr]

@[simp] theorem outFrame_execCbeq (th : Thr) (b c : BitVec 4) (d : BitVec 18) (s : State) :
    OutFrame s (execCbeq th b c d s) := by simp [execCbeq]

@[simp] theorem outFrame_execCbne (th : Thr) (b c : BitVec 4) (d : BitVec 18) (s : State) :
    OutFrame s (execCbne th b c d s) := by simp [execCbne]

@[simp] theorem outFrame_execCall (th : Thr) (a : BitVec 4) (d : BitVec 18) (s : State) : OutFrame s (execCall th a d s) := by
  simp [execCall]

@[simp] theorem outFrame_execJr (th : Thr) (b : BitVec 4) (s : State) : OutFrame s (execJr th b s) := by simp [execJr]

@[simp] theorem outFrame_execJtab (th : Thr) (b c : BitVec 4) (d : BitVec 18) (s : State) :
    OutFrame s (execJtab th b c d s) := by simp [execJtab]

@[simp] theorem outFrame_execNop (th : Thr) (s : State) : OutFrame s (execNop th s) := by simp [execNop]

@[simp] theorem outFrame_execIllegal (th : Thr) (w : Word36) (s : State) : OutFrame s (execIllegal th w s) := by
  simp [execIllegal]

@[simp] theorem frame_releaseTen (s : State) (v : Vale) (i : Nat) : frame (releaseTen s v i) = frame s := by
  unfold releaseTen
  split <;> simp

@[simp] theorem frame_doRelease (s : State) (th : Thr) (drop : Bool) : frame (doRelease s th drop) = frame s := by
  unfold doRelease
  dsimp only
  (repeat' split) <;> simp

@[simp] theorem frame_childEnded (s : State) (th : Thr) (parent : Nat) : frame (childEnded s th parent) = frame s := by
  unfold childEnded
  dsimp only
  (repeat' split) <;> simp

@[simp] theorem frame_doFork (s : State) (th : Thr) (a : BitVec 4) (first n : Nat) (d : BitVec 18) :
    frame (doFork s th a first n d) = frame s := by
  unfold doFork
  dsimp only
  (repeat' split) <;> simp

@[simp] theorem outFrame_execFork (th : Thr) (a b c : BitVec 4) (d : BitVec 18) (s : State) :
    OutFrame s (execFork th a b c d s) := by simp [execFork]

@[simp] theorem outFrame_execJoin (th : Thr) (s : State) : OutFrame s (execJoin th s) := by simp [execJoin]

@[simp] theorem outFrame_execRelease (th : Thr) (d : BitVec 18) (s : State) : OutFrame s (execRelease th d s) := by
  simp [execRelease]

@[simp] theorem outFrame_execEnd (th : Thr) (s : State) : OutFrame s (execEnd th s) := by
  unfold execEnd
  split <;> simp

@[simp] theorem outFrame_execTlk (th : Thr) (a b c : BitVec 4) (d : BitVec 18) (s : State) :
    OutFrame s (execTlk th a b c d s) := by simp [execTlk]

@[simp] theorem frame_tlkExt (s : State) (v : Vale) (part key : Nat) : frame (tlkExt s v part key) = frame s := by
  unfold tlkExt
  split <;> simp

@[simp] theorem outFrame_execTableResultReturn (th : Thr) (s : State) : OutFrame s (execTableResultReturn th s) := by
  unfold execTableResultReturn
  dsimp only
  (repeat' split) <;> simp

@[simp] theorem outFrame_execTblWaitLimit (th : Thr) (s : State) : OutFrame s (execTblWaitLimit th s) := by
  simp [execTblWaitLimit]

@[simp] theorem outFrame_execHdrWaitLimit (th : Thr) (s : State) : OutFrame s (execHdrWaitLimit th s) := by
  simp [execHdrWaitLimit]

@[simp] theorem outFrame_execStoreDrain (th : Thr) (s : State) : OutFrame s (execStoreDrain th s) := by simp [execStoreDrain]

@[simp] theorem outFrame_execMfc (th : Thr) (a : BitVec 4) (d : BitVec 18) (s : State) : OutFrame s (execMfc th a d s) := by
  simp [execMfc]

@[simp] theorem outFrame_execMtc (th : Thr) (b : BitVec 4) (d : BitVec 18) (s : State) : OutFrame s (execMtc th b d s) := by
  unfold execMtc
  dsimp only
  (repeat' split) <;> simp

@[simp] theorem outFrame_execWait (th : Thr) (s : State) : OutFrame s (execWait th s) := by simp [execWait]

@[simp] theorem outFrame_execNpop (th : Thr) (a : BitVec 4) (s : State) : OutFrame s (execNpop th a s) := by
  unfold execNpop
  split <;> simp

@[simp] theorem outFrame_execLdim (th : Thr) (a b : BitVec 4) (d : BitVec 18) (s : State) :
    OutFrame s (execLdim th a b d s) := by simp [execLdim]

@[simp] theorem frame_doSynci (s : State) (th : Thr) : frame (doSynci s th) = frame s := by simp [doSynci]

@[simp] theorem outFrame_execStim (th : Thr) (a b : BitVec 4) (d : BitVec 18) (s : State) :
    OutFrame s (execStim th a b d s) := by simp [execStim]

@[simp] theorem outFrame_execSynci (th : Thr) (s : State) : OutFrame s (execSynci th s) := by simp [execSynci]

@[simp] theorem frame_overrun (s : State) (v : Vale) (n : Nat) (ovr source : Nat) :
    frame (overrun s v n ovr source) = frame s := by simp [overrun]

@[simp] theorem outFrame_execTimerExpiry (v : Vale) (core : Fin 100) (i : Fin 4) (s : State) :
    OutFrame s (execTimerExpiry v core i s) := by simp [execTimerExpiry]

@[simp] theorem outFrame_execEdgeDetect (v : Vale) (core : Fin 100) (i : Fin 8) (rising : Bool) (s : State) :
    OutFrame s (execEdgeDetect v core i rising s) := by simp [execEdgeDetect]

@[simp] theorem outFrame_execHandlerStart (v : Vale) (core : Fin 100) (s : State) : OutFrame s (execHandlerStart v core s) := by
  unfold execHandlerStart
  dsimp only
  (repeat' split) <;> simp

@[simp] theorem outFrame_execSupervisorHandlerLimit (v : Vale) (core : Fin 100) (s : State) :
    OutFrame s (execSupervisorHandlerLimit v core s) := by simp [execSupervisorHandlerLimit]

@[simp] theorem opFrame_colTestOp (who : Who) (v : Vale) (n : U8) : OpFrame (colTestOp who v n) := by
  refine ⟨fun s => ?_, fun _ _ => rfl⟩
  unfold colTestOp
  dsimp only
  (repeat' split) <;> simp

@[simp] theorem outFrame_execColTest (who : Who) (v : Vale) (n : U8) (s : State) : OutFrame s (execColTest who v n s) := by
  simp [execColTest]

@[simp] theorem frame_toTesting (s : State) (v : Vale) (n : Nat) : frame (toTesting s v n) = frame s := by simp [toTesting]

@[simp] theorem outFrame_execColTestDrained (v : Vale) (s : State) : OutFrame s (execColTestDrained v s) := by
  simp [execColTestDrained]

@[simp] theorem outFrame_execColTestDrainTimeout (v : Vale) (s : State) : OutFrame s (execColTestDrainTimeout v s) := by
  unfold execColTestDrainTimeout
  simp only [outFrame_next]
  split
  · rw [frame_toTesting]
    refine frame_foldl (fun a t => ?_) _ _
    split <;> simp
  · rfl

@[simp] theorem outFrame_execColTestDone (v : Vale) (pass : Bool) (s : State) : OutFrame s (execColTestDone v pass s) := by
  unfold execColTestDone
  dsimp only
  (repeat' split) <;> simp

@[simp] theorem outFrame_execSubstitutionComplete (v : Vale) (core : Fin 100) (s : State) :
    OutFrame s (execSubstitutionComplete v core s) := by
  unfold execSubstitutionComplete
  dsimp only
  (repeat' split) <;> simp

@[simp] theorem opFrame_condQueueOp (who : Who) (v : Vale) (i : Fin 32) (r : Rec 12) : OpFrame (condQueueOp who v i r) :=
  ⟨fun s => by simp [condQueueOp], fun _ _ => rfl⟩

@[simp] theorem outFrame_execCondQueueWrite (who : Who) (v : Vale) (i : Fin 32) (r : Rec 12) (s : State) :
    OutFrame s (execCondQueueWrite who v i r s) := by simp [execCondQueueWrite]

@[simp] theorem frame_mapCores (s : State) (v : Vale) (f : Core → Core) : frame (mapCores s v f) = frame s := by simp [mapCores]

@[simp] theorem opFrame_colProgramOp (who : Who) (v : Vale) (r : Rec 12) : OpFrame (colProgramOp who v r) := by
  refine ⟨fun s => ?_, fun s st => ?_⟩ <;> unfold colProgramOp <;> dsimp only
  · split <;> simp
  · (repeat' split) <;> simp

@[simp] theorem outFrame_execColProgram (who : Who) (v : Vale) (r : Rec 12) (s : State) :
    OutFrame s (execColProgram who v r s) := by simp [execColProgram]

@[simp] theorem outFrame_execColProgLoaded (v : Vale) (s : State) : OutFrame s (execColProgLoaded v s) := by
  simp [execColProgLoaded]

@[simp] theorem outFrame_execLinkUp (v : Vale) (k : Fin 8) (s : State) : OutFrame s (execLinkUp v k s) := by simp [execLinkUp]

@[simp] theorem outFrame_execLinkDown (v : Vale) (k : Fin 8) (s : State) : OutFrame s (execLinkDown v k s) := by
  simp [execLinkDown]

@[simp] theorem frame_admitPkt (s : State) (v : Vale) (p : Packet) : frame (admitPkt s v p) = frame s := by simp [admitPkt]
@[simp] theorem frame_basinDrop (s : State) (v : Vale) (k : Nat) : frame (basinDrop s v k) = frame s := rfl
@[simp] theorem frame_wakeThread (s : State) (th : Thr) : frame (wakeThread s th) = frame s := by simp [wakeThread]

@[simp] theorem frame_wakeHeader (s : State) (v : Vale) (i : Nat) : frame (wakeHeader s v i) = frame s := by
  unfold wakeHeader
  split
  · rfl
  · refine frame_foldl (fun a t => ?_) _ _
    dsimp only
    split <;> simp

@[simp] theorem frame_dropHeld (s : State) (v : Vale) (i reason : Nat) : frame (dropHeld s v i reason) = frame s := by
  unfold dropHeld
  split <;> simp

@[simp] theorem frame_valeOut (s : State) (v : Vale) : frame (valeOut s v) = frame s := by simp [valeOut, frame_foldl]

@[simp] theorem frame_dropPartialFrames (s : State) (v : Vale) : frame (dropPartialFrames s v) = frame s := by
  simp [dropPartialFrames, frame_foldl]

@[simp] theorem frame_appendBytes (s : State) (v : Vale) (i : Nat) (bs : List Byte) :
    frame (appendBytes s v i bs) = frame s := by
  unfold appendBytes
  split <;> simp

@[simp] theorem frame_dropLong (s : State) (v : Vale) (i : Nat) : frame (dropLong s v i) = frame s := by simp [dropLong]

@[simp] theorem frame_frameTail (s : State) (v : Vale) (i : Nat) (rest : List Byte) (ok : Bool) :
    frame (frameTail s v i rest ok) = frame s := by
  unfold frameTail
  dsimp only
  (repeat' split) <;> simp

@[simp] theorem frame_tailLost (s : State) (v : Vale) (i : Nat) : frame (tailLost s v i) = frame s := by
  unfold tailLost
  split <;> simp

@[simp] theorem outFrame_execTailTimeout (v : Vale) (pkt : Nat) (s : State) : OutFrame s (execTailTimeout v pkt s) := by
  simp [execTailTimeout]

@[simp] theorem outFrame_execHeaderBytesArrive (v : Vale) (pkt : Nat) (bytes : List Byte) (s : State) :
    OutFrame s (execHeaderBytesArrive v pkt bytes s) := by simp [execHeaderBytesArrive]

@[simp] theorem frame_startPacket (s : State) (v : Vale) (i n t : Nat) (bank : Bool) (p : Pool) :
    frame (startPacket s v i n t bank p) = frame s := by
  unfold startPacket
  (repeat' split) <;> simp

@[simp] theorem outFrame_execDistribute (v : Vale) (p : Pool) (s : State) : OutFrame s (execDistribute v p s) := by
  unfold execDistribute
  dsimp only
  (repeat' split) <;> simp

@[simp] theorem outFrame_execWatchdog (v : Vale) (pkt : Nat) (s : State) : OutFrame s (execWatchdog v pkt s) := by
  unfold execWatchdog
  dsimp only
  (repeat' split) <;> simp

@[simp] theorem frame_freeReleasing (s : State) (v : Vale) (i : Nat) : frame (freeReleasing s v i) = frame s := by
  unfold freeReleasing
  split <;> simp

@[simp] theorem frame_forwardRec (s0 : State) (v : Vale) (i : Nat) : frame (forwardRec s0 v i) = frame s0 := by
  unfold forwardRec
  dsimp only
  (repeat' split) <;> simp

@[simp] theorem frame_forwardOne (s : State) (v : Vale) : frame (forwardOne s v) = frame s := by
  unfold forwardOne
  split <;> simp

@[simp] theorem outFrame_execReleaseBufferEntry (th : Thr) (s : State) : OutFrame s (execReleaseBufferEntry th s) := by
  unfold execReleaseBufferEntry
  (repeat' split) <;> simp

@[simp] theorem outFrame_execNarrowsForward (v : Vale) (s : State) : OutFrame s (execNarrowsForward v s) := by
  simp [execNarrowsForward]

@[simp] theorem frame_exitChecks (s : State) (v : Vale) (i : Nat) : frame (exitChecks s v i) = frame s := by
  unfold exitChecks
  split <;> simp

@[simp] theorem frame_passStage (s : State) (v : Vale) (k i : Nat) : frame (passStage s v k i) = frame s := by simp [passStage]

@[simp] theorem frame_applyAction (s : State) (v : Vale) (k i : Nat) (d : StageDef) (hit : Option (BitVec 64)) :
    frame (applyAction s v k i d hit) = frame s := by
  unfold applyAction
  dsimp only
  (repeat' split) <;> simp

@[simp] theorem frame_learnExcess (s : State) (v : Vale) (slot : Nat) : frame (learnExcess s v slot).1 = frame s := by
  simp [learnExcess]

@[simp] theorem frame_learnHit (s : State) (v : Vale) (pi : Nat) (p : Partition) (q : Nat) (e : Entry) (value : BitVec 32)
    (slot : Nat) :
    frame (learnHit s v pi p q e value slot).1 = frame s := by
  unfold learnHit
  dsimp only
  (repeat' split) <;> simp

@[simp] theorem frame_learnMiss (s : State) (v : Vale) (pi key : Nat) (value : BitVec 32) (slot : Nat) :
    frame (learnMiss s v pi key value slot).1 = frame s := by
  unfold learnMiss
  (repeat' split) <;> simp

@[simp] theorem frame_learnStep (s : State) (v : Vale) (pi : Nat) (p : Partition) (key : Nat) (hit : Option Nat) (pk : Packet) :
    frame (learnStep s v pi p key hit pk).1 = frame s := by
  unfold learnStep
  dsimp only
  (repeat' split) <;> simp

@[simp] theorem frame_lookupStage (s : State) (v : Vale) (k i : Nat) (d : StageDef) (pk : Packet) :
    frame (lookupStage s v k i d pk) = frame s := by
  unfold lookupStage
  dsimp only
  (repeat' split) <;> simp

@[simp] theorem outFrame_execStageExecute (v : Vale) (k : Fin 12) (s : State) : OutFrame s (execStageExecute v k s) := by
  unfold execStageExecute
  (repeat' split) <;> simp

@[simp] theorem outFrame_execExtLookupReturn (v : Vale) (k : Fin 12) (s : State) : OutFrame s (execExtLookupReturn v k s) := by
  unfold execExtLookupReturn
  dsimp only
  (repeat' split) <;> simp

@[simp] theorem outFrame_execStageLookupTimeout (v : Vale) (k : Fin 12) (s : State) :
    OutFrame s (execStageLookupTimeout v k s) := by
  unfold execStageLookupTimeout
  split <;> simp

@[simp] theorem opFrame_stageDefOp (who : Who) (v : Vale) (k : Fin 12) (r : Rec 20) : OpFrame (stageDefOp who v k r) :=
  ⟨fun _ => rfl, fun _ _ => rfl⟩

@[simp] theorem outFrame_execStageDefWrite (who : Who) (v : Vale) (k : Fin 12) (r : Rec 20) (s : State) :
    OutFrame s (execStageDefWrite who v k r s) := by simp [execStageDefWrite]

@[simp] theorem opFrame_partMapOp (who : Who) (v : Vale) (k : Fin 12) (n : Fin 256) (h : Handle) :
    OpFrame (partMapOp who v k n h) := ⟨fun _ => rfl, fun _ _ => rfl⟩

@[simp] theorem outFrame_execPartMapWrite (who : Who) (v : Vale) (k : Fin 12) (n : Fin 256) (h : Handle) (s : State) :
    OutFrame s (execPartMapWrite who v k n h s) := by simp [execPartMapWrite]

@[simp] theorem frame_pendIrq (s : State) (r : Nat × Nat × Nat) : frame (pendIrq s r) = frame s := rfl
@[simp] theorem frame_steppeIrq (s : State) (i : Nat) : frame (steppeIrq s i) = frame s := by simp [steppeIrq]

@[simp] theorem frame_ringVector (s : State) (space : Bool) (vec : Nat) : frame (ringVector s space vec) = frame s := by
  simp [ringVector]

@[simp] theorem frame_setSring (s : State) (r : Nat) (x : SRing) : frame (setSring s r x) = frame s := rfl
@[simp] theorem frame_sringDrop (s : State) (r : Nat) : frame (sringDrop s r) = frame s := rfl

end Sys2Proof.Machine

end

section
/-! The frame: functions and commands of the model's parts SaddleBase, FlrBase, QeBase, NvBase, NvCore -/

namespace Sys2Proof.Machine

@[simp] theorem frame_setSlot (s : State) (q : Nat) (x : Slot) : frame (setSlot s q x) = frame s := rfl
@[simp] theorem frame_modSlot (s : State) (q : Nat) (f : Slot → Slot) : frame (modSlot s q f) = frame s := rfl
@[simp] theorem frame_setSport (s : State) (p : Nat) (x : SPort) : frame (setSport s p x) = frame s := rfl
@[simp] theorem frame_modSport (s : State) (p : Nat) (f : SPort → SPort) : frame (modSport s p f) = frame s := by simp [modSport]
@[simp] theorem frame_setRegion (s : State) (r : Nat) (x : SRegion) : frame (setRegion s r x) = frame s := by simp [setRegion]

@[simp] theorem frame_modRegion (s : State) (r : Nat) (f : SRegion → SRegion) : frame (modRegion s r f) = frame s := by
  unfold modRegion
  split <;> simp

@[simp] theorem frame_dropPartial (s : State) (r : Nat) (atReset : Bool) : frame (dropPartial s r atReset) = frame s := by
  unfold dropPartial
  (repeat' split) <;> simp

@[simp] theorem frame_dropToRegion (s : State) (r : Nat) : frame (dropToRegion s r) = frame s := by simp [dropToRegion]
@[simp] theorem frame_rootAer (s : State) (p bit : Nat) : frame (rootAer s p bit) = frame s := rfl
@[simp] theorem frame_pushCpl (s : State) (p : Nat) (c : SgCpl) : frame (pushCpl s p c) = frame s := by simp [pushCpl]

@[simp] theorem frame_discardGate (s : State) (r : Nat) : frame (discardGate s r) = frame s := by
  unfold discardGate
  split
  · rfl
  · simp [frame_foldl]

@[simp] theorem frame_closeRegion (s : State) (r : Nat) : frame (closeRegion s r) = frame s := by simp [closeRegion]
@[simp] theorem frame_startRelease (s : State) (r : Nat) : frame (startRelease s r) = frame s := by simp [startRelease]

@[simp] theorem frame_resetFails (s : State) (r : Nat) (x : SRegion) (st : Status) : frame (resetFails s r x st) = frame s := by
  simp [resetFails]

@[simp] theorem frame_abortReset (s : State) (r : Nat) (st : Status) : frame (abortReset s r st) = frame s := by
  unfold abortReset
  split <;> simp

@[simp] theorem frame_endReset (s : State) (r : Nat) (why : IsoWhy) : frame (endReset s r why) = frame s := by
  unfold endReset
  split <;> simp

@[simp] theorem frame_freeRegion (s : State) (r : Nat) : frame (freeRegion s r) = frame s := by
  unfold freeRegion
  split
  · rfl
  · simp [frame_foldl]

@[simp] theorem frame_askReset (s : State) (r : Nat) : frame (askReset s r) = frame s := by
  unfold askReset
  split <;> simp

@[simp] theorem frame_afterIso (s : State) (r : Nat) (why : IsoWhy) : frame (afterIso s r why) = frame s := by
  unfold afterIso
  split <;> simp

@[simp] theorem frame_startIsolation (s : State) (r : Nat) (why : IsoWhy) : frame (startIsolation s r why) = frame s := by
  unfold startIsolation
  split <;> simp

@[simp] theorem frame_isolateFor (s : State) (r : Nat) (why : IsoWhy) : frame (isolateFor s r why) = frame s := by
  unfold isolateFor
  split <;> simp

@[simp] theorem frame_forceIsolate (s : State) (r : Nat) : frame (forceIsolate s r) = frame s := by
  unfold forceIsolate
  (repeat' split) <;> simp

@[simp] theorem frame_setMb (s : State) (n : Nat) (m : Mailbox) : frame (setMb s n m) = frame s := rfl
@[simp] theorem frame_mbPendSet (s : State) (n : Nat) : frame (mbPendSet s n) = frame s := by simp [mbPendSet]

@[simp] theorem frame_mbResetStart (s : State) (n : Nat) (byTenant : Bool) : frame (mbResetStart s n byTenant) = frame s := by
  simp [mbResetStart]

@[simp] theorem frame_resetPf0 (s : State) : frame (resetPf0 s) = frame s := rfl
@[simp] theorem frame_startFlrOne (s : State) (f : Nat) : frame (startFlrOne s f) = frame s := by simp [startFlrOne, frame_foldl]
@[simp] theorem frame_flrTree (s : State) (f : Nat) : frame (flrTree s f) = frame s := by simp [flrTree, frame_foldl]
@[simp] theorem frame_startFlr (s : State) (f : Nat) : frame (startFlr s f) = frame s := by simp [startFlr]
@[simp] theorem frame_resetAllFns (s : State) : frame (resetAllFns s) = frame s := by simp [resetAllFns]

@[simp] theorem frame_setCtx (s : State) (i : Nat) (q : QCtx) : frame (setCtx s i q) = frame s := rfl

@[simp] theorem frame_modCtx (s : State) (i : Nat) (f : QCtx → QCtx) : frame (modCtx s i f) = frame s := by
  unfold modCtx
  split <;> simp

@[simp] theorem frame_qeRaise (s : State) (i : Nat) (q : QCtx) : frame (qeRaise s i q) = frame s := by simp [qeRaise]

@[simp] theorem frame_writeCpl (s : State) (i : Nat) (c : Cpl) : frame (writeCpl s i c) = frame s := by
  unfold writeCpl
  split <;> simp

@[simp] theorem frame_clearOwn (s : State) (i pos : Nat) (flags : Byte) : frame (clearOwn s i pos flags) = frame s := by
  unfold clearOwn
  split <;> simp

@[simp] theorem frame_haltQueues (s : State) (f : Nat) : frame (haltQueues s f) = frame s := rfl

@[simp] theorem frame_haltFn (s : State) (f reason : Nat) (errSeq : Nat) : frame (haltFn s f reason errSeq) = frame s := by
  simp [haltFn]

@[simp] theorem frame_haltTenancy (s : State) (h : Handle) (errSeq : Nat) : frame (haltTenancy s h errSeq) = frame s := by
  simp [haltTenancy, frame_foldl]

@[simp] theorem frame_tenErr (s : State) (h : Handle) (d : ErrDesc) (origin : Nat) : frame (tenErr s h d origin) = frame s := by
  unfold tenErr
  dsimp only
  (repeat' split) <;> simp

@[simp] theorem frame_ownedError {act : ErrKind → Nat → ErrRec → State → State} (hact : ∀ k l r s, frame (act k l r s) = frame s)
    (d : ErrDesc) (s : State) : frame (ownedError act d s) = frame s := by
  unfold ownedError
  split <;> simp [hact]

@[simp] theorem frame_qeLastFault (s : State) (i : Nat) (q : QCtx) (pos cause detail : Nat) :
    frame (qeLastFault s i q pos cause detail) = frame s := rfl

@[simp] theorem frame_qeRegionAct (r : ErrRec) (s : State) : frame (qeRegionAct r s) = frame s := by simp [qeRegionAct]

@[simp] theorem frame_qeFaultAct (i f reason : Nat) (k : ErrKind) (l : Nat) (r : ErrRec) (s : State) :
    frame (qeFaultAct i f reason k l r s) = frame s := by
  unfold qeFaultAct
  (repeat' split) <;> simp

@[simp] theorem frame_queueFault (s : State) (i : Nat) (q : QCtx) (reason pos cause detail : Nat) :
    frame (queueFault s i q reason pos cause detail) = frame s := by simp [queueFault]

@[simp] theorem frame_malformed (s : State) (i pos tag item : Nat) : frame (malformed s i pos tag item) = frame s := by
  unfold malformed
  split <;> simp

@[simp] theorem frame_setNv (s : State) (c : Nat) (x : NvCtrl) : frame (setNv s c x) = frame s := rfl

@[simp] theorem frame_modNv (s : State) (c : Nat) (f : NvCtrl → NvCtrl) : frame (modNv s c f) = frame s := by
  unfold modNv
  split <;> simp

@[simp] theorem frame_setNvQ (s : State) (i : Nat) (q : NvQ) : frame (setNvQ s i q) = frame s := rfl

@[simp] theorem frame_modNvQ (s : State) (i : Nat) (f : NvQ → NvQ) : frame (modNvQ s i f) = frame s := by
  unfold modNvQ
  split <;> simp

@[simp] theorem frame_freeContext (s : State) (i : Nat) (bump : Bool) : frame (freeContext s i bump) = frame s := by
  simp [freeContext]

@[simp] theorem frame_dropNvQ (s : State) (i : Nat) (bump : Bool) : frame (dropNvQ s i bump) = frame s := by
  unfold dropNvQ
  split <;> simp

@[simp] theorem frame_nvReset (s : State) (c : Nat) (regs : Bool) : frame (nvReset s c regs) = frame s := by
  unfold nvReset
  split
  · rfl
  · simp [frame_fields, frame_mk, frame_foldl]

theorem frame_qePick {s : State} {r : Nat × Nat × State} (h : qePick s = some r) : frame r.2.2 = frame s := by
  revert h
  unfold qePick
  dsimp only
  (repeat' split) <;> simp <;> rintro rfl <;> simp

@[simp] theorem frame_endCliVisit (s : State) (c : Nat) : frame (endCliVisit s c) = frame s := by simp [endCliVisit]

@[simp] theorem frame_qeSettle (s0 : State) (c k : Nat) (empty : Bool) : frame (qeSettle s0 c k empty) = frame s0 := by
  simp [qeSettle]

@[simp] theorem frame_nvSignal (s : State) (c i : Nat) : frame (nvSignal s c i) = frame s := by
  unfold nvSignal
  split <;> simp

theorem frame_nvPost {s t : State} {c sqi cid status dw0 nsid : Nat} (h : nvPost s c sqi cid status dw0 nsid = some t) :
    frame t = frame s := by
  revert h
  unfold nvPost
  (repeat' split) <;> simp <;> rintro rfl <;> simp

theorem frame_nvPost_getD {s u : State} (c sqi cid status dw0 nsid : Nat) (h : frame u = frame s) :
    frame ((nvPost u c sqi cid status dw0 nsid).getD s) = frame s := by
  cases ht : nvPost u c sqi cid status dw0 nsid with
  | none => rfl
  | some t => exact (frame_nvPost ht).trans h

@[simp] theorem frame_nvAens (fuel c : Nat) (s : State) : frame (nvAens fuel c s) = frame s := by
  induction fuel generalizing s with
  | zero => rfl
  | succ fuel ih =>
    unfold nvAens
    (repeat' split) <;> simp [ih]
    next h => exact frame_nvPost h

@[simp] theorem frame_nvEvent (s : State) (c info page : Nat) : frame (nvEvent s c info page) = frame s := by simp [nvEvent]
@[simp] theorem frame_storRegionAct (r : ErrRec) (s : State) : frame (storRegionAct r s) = frame s := rfl

@[simp] theorem frame_storAct (name : String) (i : Nat) (h : Handle) (k : ErrKind) (l : Nat) (r : ErrRec) (s : State) :
    frame (storAct name i h k l r s) = frame s := by
  unfold storAct
  (repeat' split) <;> simp

@[simp] theorem frame_nvFatal (s : State) (c : Nat) (cause : Nat) : frame (nvFatal s c cause) = frame s := by
  unfold nvFatal
  split <;> simp

@[simp] theorem frame_nvFreeze (s : State) (c i cause status door addr : Nat) :
    frame (nvFreeze s c i cause status door addr) = frame s := by
  unfold nvFreeze
  split <;> simp

@[simp] theorem frame_prpList (s : State) (f fuel a n : Nat) : frame (prpList s f fuel a n).2 = frame s := by
  induction fuel generalizing s a n with
  | zero => rfl
  | succ fuel ih =>
    unfold prpList
    dsimp only
    (repeat' split) <;> simp [ih]

@[simp] theorem frame_prpSpans (s : State) (f : Nat) (b : List Byte) (n : Nat) : frame (prpSpans s f b n).2 = frame s := by
  unfold prpSpans
  dsimp only
  (repeat' split) <;> simp

@[simp] theorem frame_withRead {s : State} {run : State → State} (f : Nat) (reads : Bool) (hrun : ∀ t, frame t = frame s → frame
    (run t) = frame s) :
    frame (withRead s f reads run) = frame s := by
  unfold withRead
  split
  · split
    · next h => exact hrun _ (frame_readTurn h)
    · rfl
  · exact hrun s rfl

@[simp] theorem frame_spanWrite (s : State) (f : Nat) (l : List (Nat × Nat)) (bs : List Byte) :
    frame (spanWrite s f l bs) = frame s := by
  induction l generalizing s bs with
  | nil => rfl
  | cons x l ih => simp [spanWrite, ih]

@[simp] theorem frame_spanRead (s : State) (f : Nat) (l : List (Nat × Nat)) : frame (spanRead s f l).2 = frame s := by
  induction l generalizing s with
  | nil => rfl
  | cons x l ih => simp [spanRead, ih]

@[simp] theorem frame_nvAnswer (s : State) (c : Nat) (b data : List Byte) : frame (nvAnswer s c b data) = frame s := by
  simp [nvAnswer]

@[simp] theorem frame_tryDelete (s : State) (c i : Nat) : frame (tryDelete s c i) = frame s := by
  unfold tryDelete
  (repeat' split) <;> simp
  next h => exact frame_nvPost h

@[simp] theorem frame_nvFinish (s : State) (tag status dw0 : Nat) : frame (nvFinish s tag status dw0) = frame s := by
  unfold nvFinish
  (repeat' split) <;> simp
  next h => exact frame_nvPost h

@[simp] theorem frame_nvRetry (s : State) (c : Nat) : frame (nvRetry s c) = frame s := by
  unfold nvRetry
  simp only [frame_nvAens, frame_foldl, frame_tryDelete, implies_true]
  refine frame_foldl (fun a m => ?_) _ _
  split <;> simp

end Sys2Proof.Machine

end

section
/-! The frame: functions and commands of the model's parts Nvme, Qe -/

namespace Sys2Proof.Machine

@[simp] theorem outFrame_execCcEnSet (c : Fin 256) (cc : U32) (s : State) : OutFrame s (execCcEnSet c cc s) := by
  unfold execCcEnSet
  split <;> simp

@[simp] theorem outFrame_execCcEnClear (c : Fin 256) (s : State) : OutFrame s (execCcEnClear c s) := by
  unfold execCcEnClear
  split <;> simp

@[simp] theorem frame_nvRegister (s : State) (c off : Nat) (w : U32) : frame (nvRegister s c off w) = frame s := by
  unfold nvRegister
  split <;> simp

@[simp] theorem frame_nvBadDb (s : State) (c : Nat) : frame (nvBadDb s c) = frame s := by simp [nvBadDb]

@[simp] theorem outFrame_execNvmeSqDoorbell (f : Fin 1028) (y : Nat) (x : U16) (s : State) :
    OutFrame s (execNvmeSqDoorbell f y x s) := by
  unfold execNvmeSqDoorbell
  dsimp only
  (repeat' split) <;> simp

@[simp] theorem outFrame_execNvmeCqDoorbell (f : Fin 1028) (y : Nat) (x : U16) (s : State) :
    OutFrame s (execNvmeCqDoorbell f y x s) := by
  unfold execNvmeCqDoorbell
  dsimp only
  (repeat' split) <;> simp

@[simp] theorem frame_ioChecks (s : State) (c : Nat) (b : List Byte) : frame (ioChecks s c b).2.2 = frame s := by
  unfold ioChecks
  dsimp only
  (repeat' split) <;> simp

@[simp] theorem frame_ioFetched (s : State) (c i : Nat) (b : List Byte) : frame (ioFetched s c i b) = frame s := by
  unfold ioFetched
  dsimp only
  (repeat' split) <;> simp

@[simp] theorem outFrame_execNvmeCommandFetch (c : Fin 256) (sq : Nat) (s : State) : OutFrame s (execNvmeCommandFetch c sq s) := by
  unfold execNvmeCommandFetch
  simp only [outFrame_next]
  split
  · rfl
  · split
    · split <;> simp
    · split
      · rfl
      · next cl k s1 hpick =>
        have hs1 : frame s1 = frame s := frame_qePick hpick
        split
        · rfl
        · (repeat' split) <;> simp [hs1, frame_nvPost_getD]

@[simp] theorem frame_adminRow {s : State} {run : NvCtrl → Nat → List Byte → State × Option (Nat × Nat)} (c op : Nat)
    (hrun : ∀ x i b, frame (run x i b).1 = frame s) :
    frame (adminRow s c op run) = frame s := by
  unfold adminRow
  split
  · split
    · rfl
    · split
      · rfl
      · split
        · split
          · rfl
          · next h => simp [frame_nvPost h]
        · dsimp only
          split
          · simp [hrun]
          · exact frame_nvPost_getD _ _ _ _ _ _ (by simp [hrun])
  · rfl

theorem frame_nvNewQ {s t : State} {x : NvCtrl} {q : NvQ} (h : nvNewQ s x q = some t) : frame t = frame s := by
  unfold nvNewQ at h
  (repeat' split at h) <;> cases h
  next h => simp [frame_allocIndex h]

@[simp] theorem frame_nvNewQ_getD (s : State) (x : NvCtrl) (q : NvQ) : frame ((nvNewQ s x q).getD s) = frame s := by
  cases ht : nvNewQ s x q with
  | none => rfl
  | some t => exact frame_nvNewQ ht

@[simp] theorem outFrame_execCreateIoCq (c : Fin 256) (s : State) : OutFrame s (execCreateIoCq c s) := by
  unfold execCreateIoCq
  simp only [outFrame_next]
  refine frame_adminRow c _ (fun x i b => ?_)
  (repeat' split) <;> simp
  next h => exact frame_nvNewQ h

@[simp] theorem outFrame_execCreateIoSq (c : Fin 256) (s : State) : OutFrame s (execCreateIoSq c s) := by
  unfold execCreateIoSq
  simp only [outFrame_next]
  refine frame_adminRow c _ (fun x i b => ?_)
  (repeat' split) <;> simp
  next h => exact frame_nvNewQ h

@[simp] theorem outFrame_execDeleteIoSq (c : Fin 256) (s : State) : OutFrame s (execDeleteIoSq c s) := by
  unfold execDeleteIoSq
  simp only [outFrame_next]
  refine frame_adminRow c _ (fun x i b => ?_)
  (repeat' split) <;> simp

@[simp] theorem outFrame_execDeleteIoCq (c : Fin 256) (s : State) : OutFrame s (execDeleteIoCq c s) := by
  unfold execDeleteIoCq
  simp only [outFrame_next]
  refine frame_adminRow c _ (fun x i b => ?_)
  (repeat' split) <;> simp

@[simp] theorem outFrame_execGetLogPage (c : Fin 256) (s : State) : OutFrame s (execGetLogPage c s) := by
  unfold execGetLogPage
  simp only [outFrame_next]
  refine frame_adminRow c _ (fun x i b => ?_)
  (repeat' split) <;> simp

@[simp] theorem outFrame_execIdentify (c : Fin 256) (s : State) : OutFrame s (execIdentify c s) := by
  unfold execIdentify
  simp only [outFrame_next]
  refine frame_adminRow c _ (fun x i b => ?_)
  (repeat' split) <;> simp only [frame_nvAnswer]

@[simp] theorem frame_abortHead (s : State) (c i cid : Nat) (e : List Byte) : frame (abortHead s c i cid e) = frame s := by
  simp [abortHead]

@[simp] theorem outFrame_execAbort (c : Fin 256) (s : State) : OutFrame s (execAbort c s) := by
  unfold execAbort
  simp only [outFrame_next]
  refine frame_adminRow c _ (fun x i b => ?_)
  (repeat' split) <;> simp

@[simp] theorem outFrame_execSetFeatures (c : Fin 256) (s : State) : OutFrame s (execSetFeatures c s) := by
  unfold execSetFeatures
  simp only [outFrame_next]
  refine frame_withRead _ _ (fun t ht => (frame_adminRow c _ (fun x i b => ?_)).trans ht)
  (repeat' split) <;> simp

@[simp] theorem outFrame_execGetFeatures (c : Fin 256) (s : State) : OutFrame s (execGetFeatures c s) := by
  unfold execGetFeatures
  simp only [outFrame_next]
  refine frame_adminRow c _ (fun x i b => ?_)
  (repeat' split) <;> simp

@[simp] theorem outFrame_execAsynchronousEventRequest (c : Fin 256) (s : State) :
    OutFrame s (execAsynchronousEventRequest c s) := by
  unfold execAsynchronousEventRequest
  simp only [outFrame_next]
  refine frame_adminRow c _ (fun x i b => ?_)
  (repeat' split) <;> simp

@[simp] theorem frame_rekeySlot (s : State) (slot : Nat) (mat : List Byte) : frame (rekeySlot s slot mat) = frame s := by
  unfold rekeySlot
  split <;> simp

@[simp] theorem outFrame_execFormatNvm (c : Fin 256) (s : State) : OutFrame s (execFormatNvm c s) := by
  unfold execFormatNvm
  simp only [outFrame_next]
  refine frame_adminRow c _ (fun x i b => ?_)
  (repeat' split) <;> simp

@[simp] theorem frame_ioRow {s : State} {run : NvCmd → Nat → State} (c tag op : Nat) (hrun : ∀ m r, frame (run m r) = frame s) :
    frame (ioRow s c tag op run) = frame s := by
  unfold ioRow
  (repeat' split) <;> simp [hrun]

@[simp] theorem frame_setCmd (s : State) (tag : Nat) (m : NvCmd) : frame (setCmd s tag m) = frame s := by simp [setCmd]

@[simp] theorem outFrame_execNvmeFlush (c : Fin 256) (tag : Nat) (s : State) : OutFrame s (execNvmeFlush c tag s) := by
  simp [execNvmeFlush]

@[simp] theorem outFrame_execNvmeRead (c : Fin 256) (tag : Nat) (prpOk : Bool) (s : State) :
    OutFrame s (execNvmeRead c tag prpOk s) := by
  simp only [execNvmeRead, outFrame_next]
  refine frame_ioRow c tag _ (fun m r => ?_)
  split
  · simp
  · split
    · rfl
    · refine frame_withRead _ _ (fun t ht => ?_)
      cases volKeyMat s r with
      | none => exact frame_nvFinish s tag _ _
      | some _ =>
        cases allocBuf (prpSpans t (nvFn s c) m.bytes ((ioRange m.bytes).2 * lbaSize r)).2 ((ioRange m.bytes).2 * lbaSize r) with
        | none => rfl
        | some _ => simp [ht]

@[simp] theorem frame_takeResponse (s : State) (k : Nat) : frame (takeResponse s k) = frame s := rfl

@[simp] theorem frame_nvAnswered (s : State) (tag : Nat) (m : NvCmd) (st : Nat) : frame (nvAnswered s tag m st) = frame s := by
  unfold nvAnswered
  dsimp only
  (repeat' split) <;> simp

@[simp] theorem outFrame_execRlockWaitLimit (tag : Nat) (s : State) : OutFrame s (execRlockWaitLimit tag s) := by
  unfold execRlockWaitLimit
  split <;> simp

@[simp] theorem outFrame_execNvmeBackendTimeout (tag : Nat) (s : State) : OutFrame s (execNvmeBackendTimeout tag s) := by
  unfold execNvmeBackendTimeout
  split <;> simp

@[simp] theorem outFrame_execNvmeCqFullLimit (c : Fin 256) (cq : Nat) (s : State) : OutFrame s (execNvmeCqFullLimit c cq s) := by
  unfold execNvmeCqFullLimit
  split <;> simp

@[simp] theorem outFrame_execNvmeSqReadFailed (c : Fin 256) (sq : Nat) (timeout : Bool) (s : State) :
    OutFrame s (execNvmeSqReadFailed c sq timeout s) := by
  unfold execNvmeSqReadFailed
  split <;> simp

@[simp] theorem outFrame_execAutonomousPowerStateTransition (c : Fin 256) (ps : Fin 4) (s : State) :
    OutFrame s (execAutonomousPowerStateTransition c ps s) := by
  unfold execAutonomousPowerStateTransition
  split <;> simp

@[simp] theorem outFrame_execPowerStateTransitionDone (c : Fin 256) (s : State) :
    OutFrame s (execPowerStateTransitionDone c s) := by
  unfold execPowerStateTransitionDone
  (repeat' split) <;> simp

@[simp] theorem opFrame_nvmeCtrlCreateOp (who : Who) (r : Rec 8) : OpFrame (nvmeCtrlCreateOp who r) := by
  refine ⟨fun s => ?_, fun _ _ => rfl⟩
  unfold nvmeCtrlCreateOp
  dsimp only
  split
  · rfl
  · next h => simp [frame_allocIndex h]

@[simp] theorem outFrame_execNvmeCtrlCreate (who : Who) (r : Rec 8) (s : State) : OutFrame s (execNvmeCtrlCreate who r s) := by
  simp [execNvmeCtrlCreate]

@[simp] theorem frame_freeCtrl (s : State) (c : Nat) (h : Handle) (bump : Bool) : frame (freeCtrl s c h bump) = frame s := by
  unfold freeCtrl
  split
  · rfl
  · simp [frame_fields, frame_mk, frame_foldl]

@[simp] theorem opFrame_nvmeCtrlDestroyOp (who : Who) (h : Handle) : OpFrame (nvmeCtrlDestroyOp who h) :=
  ⟨fun s => by simp [nvmeCtrlDestroyOp], fun _ _ => rfl⟩

@[simp] theorem outFrame_execNvmeCtrlDestroy (who : Who) (h : Handle) (s : State) :
    OutFrame s (execNvmeCtrlDestroy who h s) := by simp [execNvmeCtrlDestroy]

@[simp] theorem opFrame_nvmeVolOp (who : Who) (v : Fin 4096) (r : Rec 48) : OpFrame (nvmeVolOp who v r) :=
  ⟨fun s => by simp [nvmeVolOp], fun _ _ => rfl⟩

@[simp] theorem outFrame_execNvmeVolWrite (who : Who) (v : Fin 4096) (r : Rec 48) (s : State) :
    OutFrame s (execNvmeVolWrite who v r s) := by simp [execNvmeVolWrite]

@[simp] theorem outFrame_execSsdEnumerated (p : Fin 8) (nsid : U32) (lbads : U8) (lbas : U64) (mqes : U16) (granted : Nat) (s
 : State) :
    OutFrame s (execSsdEnumerated p nsid lbads lbas mqes granted s) := by simp [execSsdEnumerated]

@[simp] theorem frame_ssdLost (s : State) (p : Nat) : frame (ssdLost s p) = frame s := by simp [ssdLost, frame_foldl]

@[simp] theorem frame_setBlk (s : State) (f : Nat) (b : QeBlk) : frame (setBlk s f b) = frame s := rfl

@[simp] theorem frame_qeDone (s : State) (f : Nat) (st : Status) (g : QeBlk → QeBlk) : frame (qeDone s f st g) = frame s := by
  simp [qeDone]

@[simp] theorem frame_qeCmd {s : State} {run : QeBlk → State} (f op : Nat) (hrun : ∀ b, frame (run b) = frame s) :
    frame (qeCmd s f op run) = frame s := by
  unfold qeCmd
  dsimp only
  split <;> simp [hrun]

@[simp] theorem frame_qeCmdByte (s : State) (f off : Nat) (x : Byte) : frame (qeCmdByte s f off x) = frame s := by
  simp [qeCmdByte]

@[simp] theorem frame_qeControl (s : State) (f : Nat) (w : U32) : frame (qeControl s f w) = frame s := by simp [qeControl]

@[simp] theorem outFrame_execQeCreate (f : Fin 1028) (s : State) : OutFrame s (execQeCreate f s) := by
  unfold execQeCreate
  simp only [outFrame_next]
  refine frame_qeCmd f 1 (fun b => ?_)
  split
  · simp
  · split
    · next h _ _ => simp [frame_allocIndex h]
    · rfl

@[simp] theorem frame_onCtx {s : State} {run : Nat → QCtx → State} (f : Nat) (b : QeBlk) (checks : QCtx → List (Status × Bool))
    (hrun : ∀ i q, frame (run i q) = frame s) :
    frame (onCtx s f b checks run) = frame s := by
  unfold onCtx
  (repeat' split) <;> simp [hrun]

@[simp] theorem outFrame_execQeArm (f : Fin 1028) (s : State) : OutFrame s (execQeArm f s) := by simp [execQeArm]
@[simp] theorem frame_dropCtx (s : State) (i : Nat) (bump : Bool) : frame (dropCtx s i bump) = frame s := by simp [dropCtx]
@[simp] theorem outFrame_execQeDestroy (f : Fin 1028) (s : State) : OutFrame s (execQeDestroy f s) := by simp [execQeDestroy]
@[simp] theorem outFrame_execQeQuery (f : Fin 1028) (s : State) : OutFrame s (execQeQuery f s) := by simp [execQeQuery]

@[simp] theorem frame_askFetch (s : State) (i : Nat) : frame (askFetch s i) = frame s := by
  unfold askFetch
  (repeat' split) <;> simp

@[simp] theorem outFrame_execQeInvalidate (f : Fin 1028) (s : State) : OutFrame s (execQeInvalidate f s) := by
  simp [execQeInvalidate]

@[simp] theorem frame_badDoorbell (s : State) : frame (badDoorbell s) = frame s := rfl

@[simp] theorem outFrame_execSqDb (f : Fin 1028) (lq : Nat) (x : U16) (s : State) : OutFrame s (execSqDb f lq x s) := by
  unfold execSqDb
  (repeat' split) <;> simp

@[simp] theorem outFrame_execCqDb (f : Fin 1028) (lq : Nat) (x : U16) (s : State) : OutFrame s (execCqDb f lq x s) := by
  unfold execCqDb
  (repeat' split) <;> simp

@[simp] theorem frame_cacheDescs (s : State) (i : Nat) (l : List (Nat × List Byte)) : frame (cacheDescs s i l) = frame s := by
  induction l generalizing s with
  | nil => rfl
  | cons x l ih =>
    unfold cacheDescs
    dsimp only
    (repeat' split) <;> simp [ih]

theorem frame_ringReadBack {s : State} {i : Nat} {q : QCtx} {r : List Nat × State} (h : ringReadBack s i q = some r) :
    frame r.2 = frame s := by
  revert h
  unfold ringReadBack
  dsimp only
  (repeat' split) <;> simp <;> rintro rfl <;> simp

@[simp] theorem outFrame_execDescriptorFetch (c : Fin 65536) (s : State) : OutFrame s (execDescriptorFetch c s) := by
  unfold execDescriptorFetch
  simp only [outFrame_next]
  (repeat' split) <;> simp
  next h => simp [frame_ringReadBack h]

@[simp] theorem frame_startSegs (s : State) (q : QCtx) (d : List Byte) : frame (startSegs s q d).2 = frame s := by
  unfold startSegs
  dsimp only
  split <;> simp

@[simp] theorem frame_readSegs (s : State) (f : Nat) (l : List (Nat × Nat)) : frame (readSegs s f l).2 = frame s := by
  induction l generalizing s with
  | nil => rfl
  | cons x l ih => simp [readSegs, ih]

@[simp] theorem frame_writeSegs (s : State) (f : Nat) (l : List (Nat × Nat)) (bs : List Byte) :
    frame (writeSegs s f l bs) = frame s := by
  induction l generalizing s bs with
  | nil => rfl
  | cons x l ih => simp [writeSegs, ih]

@[simp] theorem frame_presentTx (s : State) (i : Nat) (q : QCtx) (x : Started) : frame (presentTx s i q x) = frame s := by
  simp [presentTx]

@[simp] theorem frame_startDesc (s : State) (i : Nat) : frame (startDesc s i) = frame s := by
  unfold startDesc
  (repeat' split) <;> simp

theorem frame_startGranted {s t : State} {k : Nat} (h : startGranted s k = some t) : frame t = frame s := by
  unfold startGranted at h
  (repeat' split at h)
  · cases h
  · obtain ⟨u, hu, rfl⟩ := Option.map_eq_some_iff.mp h
    simp [frame_readTurn hu]
  · cases h
    simp

@[simp] theorem outFrame_execDescriptorStart  (s : State) : OutFrame s (execDescriptorStart s) := by
  unfold execDescriptorStart
  simp only [outFrame_next]
  split
  · rfl
  · split
    · rfl
    · next hpick =>
      split
      · rfl
      · split
        · rfl
        · next hstart => simp [frame_startGranted hstart, frame_qePick hpick]

theorem frame_endDesc {s t : State} {i : Nat} {x : Started} {c : Cpl} (h : endDesc s i x c = some t) : frame t = frame s := by
  unfold endDesc at h
  split at h
  · exact nomatch h
  · obtain ⟨-, ht⟩ := Option.ite_none_left_eq_some.mp h
    rw [← Option.some.inj ht]
    simp

@[simp] theorem frame_endDesc_getD {s u : State} (i : Nat) (x : Started) (c : Cpl) (h : frame u = frame s) :
    frame ((endDesc u i x c).getD s) = frame s := by
  cases ht : endDesc u i x c with
  | none => rfl
  | some t => exact (frame_endDesc ht).trans h

@[simp] theorem outFrame_execTxFrameTaken (c : Fin 65536) (s : State) : OutFrame s (execTxFrameTaken c s) := by
  unfold execTxFrameTaken
  simp only [outFrame_next]
  split
  · rfl
  · split
    · rfl
    · split
      · rfl
      · split
        · rfl
        · split
          · rfl
          · next h => exact (frame_endDesc h).trans (frame_frameTail ..)

@[simp] theorem frame_rxInto (s : State) (v : Vale) (i pk : Nat) (p : Packet) (q : QCtx) (d : Nat × List Byte) :
    frame (rxInto s v i pk p q d) = frame s := by
  unfold rxInto
  dsimp only
  (repeat' split) <;> simp
  next h => simp [frame_endDesc h]

@[simp] theorem outFrame_execRxDeliver (ctx : Fin 65536) (s : State) : OutFrame s (execRxDeliver ctx s) := by
  unfold execRxDeliver
  (repeat' split) <;> simp

@[simp] theorem outFrame_execCoalTimerExpiry (ctx : Fin 65536) (s : State) : OutFrame s (execCoalTimerExpiry ctx s) := by
  unfold execCoalTimerExpiry
  (repeat' split) <;> simp

theorem frame_ringReadAt {s t : State} {i : Nat} {q : QCtx} {pos : Nat} (h : ringReadAt s i q pos = some t) :
    frame t = frame s := by
  revert h
  unfold ringReadAt
  (repeat' split) <;> simp <;> rintro rfl <;> simp

@[simp] theorem frame_readFails (s : State) (i pos tag cause : Nat) (st : Status) :
    frame (readFails s i pos tag cause st) = frame s := by
  unfold readFails
  split <;> simp

@[simp] theorem frame_loseTail (s : State) (q : QCtx) (x : Started) : frame (loseTail s q x) = frame s := by
  unfold loseTail
  split <;> simp

@[simp] theorem frame_descReadFails (s : State) (i : Nat) (q : QCtx) (pos cause : Nat) (st : Status) :
    frame (descReadFails s i q pos cause st) = frame s := by
  unfold descReadFails
  split
  · next h => simp [frame_ringReadAt h]
  · split
    · rfl
    · dsimp only
      split <;> simp

@[simp] theorem outFrame_execQeReadTimeout (ctx : Fin 65536) (descRead : Bool) (pos : U16) (s : State) :
    OutFrame s (execQeReadTimeout ctx descRead pos s) := by
  unfold execQeReadTimeout
  (repeat' split) <;> simp

@[simp] theorem outFrame_execQeReadError (ctx : Fin 65536) (r : FailedRead) (s : State) :
    OutFrame s (execQeReadError ctx r s) := by
  unfold execQeReadError
  (repeat' split) <;> simp

@[simp] theorem frame_qeEmptied (s : State) (i : Nat) : frame (qeEmptied s i) = frame s := rfl

@[simp] theorem frame_idleCtx (s : State) (i : Nat) : frame (idleCtx s i) = frame s := by
  unfold idleCtx
  split
  · rfl
  · simp [frame_foldl]

end Sys2Proof.Machine

end

section
/-! The frame: functions and commands of the model's parts Host, Crypto, TmBase, Telem, Tm -/

namespace Sys2Proof.Machine

@[simp] theorem outFrame_execPciePerstRise (s : State) : OutFrame s (execPciePerstRise s) := by simp [execPciePerstRise]
@[simp] theorem outFrame_execHostConfigLoaded (s : State) : OutFrame s (execHostConfigLoaded s) := by simp [execHostConfigLoaded]
@[simp] theorem outFrame_execHostLinkUp (s : State) : OutFrame s (execHostLinkUp s) := by simp [execHostLinkUp]
@[simp] theorem frame_linkDown (s : State) (sticky : Bool) : frame (linkDown s sticky) = frame s := by simp [linkDown]

@[simp] theorem outFrame_execHostLinkDown (c : LinkDownCause) (s : State) : OutFrame s (execHostLinkDown c s) := by
  unfold execHostLinkDown
  split <;> simp

@[simp] theorem frame_clearWindows (s : State) (f : Nat) : frame (clearWindows s f) = frame s := by
  simp [clearWindows, frame_foldl]

@[simp] theorem opFrame_vfAssignOp (who : Who) (r : Rec 8) : OpFrame (vfAssignOp who r) :=
  ⟨fun s => by simp [vfAssignOp], fun _ _ => rfl⟩

@[simp] theorem outFrame_execVfAssign (who : Who) (r : Rec 8) (s : State) : OutFrame s (execVfAssign who r s) := by
  simp [execVfAssign]

@[simp] theorem frame_dropFnCtxs (s : State) (f : Nat) : frame (dropFnCtxs s f) = frame s := by simp [dropFnCtxs, frame_foldl]
@[simp] theorem frame_unassignVf (s : State) (g : Nat) : frame (unassignVf s g) = frame s := by simp [unassignVf]
@[simp] theorem frame_releaseFn (s : State) (f : Nat) : frame (releaseFn s f) = frame s := by simp [releaseFn]

@[simp] theorem opFrame_vfReleaseOp (who : Who) (h : Handle) : OpFrame (vfReleaseOp who h) :=
  ⟨fun s => by simp [vfReleaseOp, frame_foldl], fun _ _ => rfl⟩

@[simp] theorem outFrame_execVfRelease (who : Who) (h : Handle) (s : State) : OutFrame s (execVfRelease who h s) := by
  simp [execVfRelease]

@[simp] theorem opFrame_vfResetOp (who : Who) (h : Handle) : OpFrame (vfResetOp who h) :=
  ⟨fun s => by simp [vfResetOp], fun _ _ => rfl⟩

@[simp] theorem outFrame_execVfReset (who : Who) (h : Handle) (s : State) : OutFrame s (execVfReset who h s) := by
  simp [execVfReset]

@[simp] theorem outFrame_execInitiateFlr (f : Fin 1028) (s : State) : OutFrame s (execInitiateFlr f s) := by
  simp [execInitiateFlr]

@[simp] theorem frame_silence (s : State) (f : Nat) : frame (silence s f) = frame s := by simp [silence, frame_fields, frame_mk]

@[simp] theorem outFrame_execFunctionSilenced (f : Fin 1028) (s : State) : OutFrame s (execFunctionSilenced f s) := by
  simp [execFunctionSilenced]

@[simp] theorem outFrame_execFlrQueueReset (f : Fin 1028) (s : State) : OutFrame s (execFlrQueueReset f s) := by
  unfold execFlrQueueReset
  dsimp only
  (repeat' split) <;> simp [frame_foldl]

@[simp] theorem outFrame_execFlrComplete (f : Fin 1028) (s : State) : OutFrame s (execFlrComplete f s) := by
  simp [execFlrComplete]

@[simp] theorem outFrame_execVfEnableChange (pf : Fin 4) (en : Bool) (num : Nat) (s : State) :
    OutFrame s (execVfEnableChange pf en num s) := by
  unfold execVfEnableChange
  dsimp only
  (repeat' split) <;> simp [frame_foldl]

@[simp] theorem outFrame_execConfigWrite (f : Fin 1028) (fld : ConfigField) (x : Bool) (s : State) :
    OutFrame s (execConfigWrite f fld x s) := by simp [execConfigWrite]

@[simp] theorem outFrame_execMsixSend (f : Fin 1028) (vec : Nat) (s : State) : OutFrame s (execMsixSend f vec s) := by
  simp [execMsixSend]

@[simp] theorem outFrame_execIntxAck (f : Fin 4) (vec : BitVec 11) (s : State) : OutFrame s (execIntxAck f vec s) := by
  simp [execIntxAck]

@[simp] theorem frame_msixWord (s : State) (f vec word : Nat) (w : U32) : frame (msixWord s f vec word w) = frame s := by
  simp [msixWord]

@[simp] theorem frame_msixLost (s : State) (f vec : Nat) : frame (msixLost s f vec) = frame s := by simp [msixLost]

@[simp] theorem opFrame_winEntryOp (who : Who) (i : Fin 4096) (r : Rec 24) : OpFrame (winEntryOp who i r) :=
  ⟨fun s => by simp [winEntryOp], fun _ _ => rfl⟩

@[simp] theorem outFrame_execWinEntryWrite (who : Who) (i : Fin 4096) (r : Rec 24) (s : State) :
    OutFrame s (execWinEntryWrite who i r s) := by simp [execWinEntryWrite]

@[simp] theorem frame_barData (s : State) (bs : List Byte) : frame (barData s bs) = frame s := rfl

@[simp] theorem frame_winMiss (s : State) (f o : Nat) (read : Option Nat) : frame (winMiss s f o read) = frame s := by
  unfold winMiss
  dsimp only
  (repeat' split) <;> simp

@[simp] theorem opFrame_winFirstMissOp (who : Who) : OpFrame (winFirstMissOp who) := ⟨fun _ => rfl, fun _ _ => rfl⟩

@[simp] theorem outFrame_execWinFirstMissRead (who : Who) (s : State) : OutFrame s (execWinFirstMissRead who s) := by
  simp [execWinFirstMissRead]

@[simp] theorem opFrame_qeLastFaultOp (who : Who) : OpFrame (qeLastFaultOp who) := ⟨fun _ => rfl, fun _ _ => rfl⟩

@[simp] theorem outFrame_execQeLastFaultRead (who : Who) (s : State) : OutFrame s (execQeLastFaultRead who s) := by
  simp [execQeLastFaultRead]

@[simp] theorem outFrame_execHostTlpError (e : TlpError) (s : State) : OutFrame s (execHostTlpError e s) := by
  unfold execHostTlpError
  (repeat' split) <;> simp

@[simp] theorem frame_setSaPn (s : State) (a pn : Nat) : frame (setSaPn s a pn) = frame s := rfl
@[simp] theorem frame_saCount (s : State) (a off n : Nat) : frame (saCount s a off n) = frame s := rfl
@[simp] theorem frame_saUse (s : State) (a : Nat) (x : Sa) (bytes : Nat) : frame (saUse s a x bytes) = frame s := by simp [saUse]
@[simp] theorem frame_acceptPn (s : State) (a : Nat) (x : Sa) (n : Nat) : frame (acceptPn s a x n) = frame s := rfl

@[simp] theorem frame_espOpen (s : State) (a : Nat) (f : List Byte) : frame (espOpen s a f).2 = frame s := by
  unfold espOpen
  dsimp only
  (repeat' split) <;> simp

@[simp] theorem frame_setTmQueue (s : State) (v : Vale) (q : Nat) (x : TmQueue) : frame (setTmQueue s v q x) = frame s := by
  simp [setTmQueue]

@[simp] theorem frame_chargeShaper (f : Nat) (v : Vale) (s : State) (e : Nat) : frame (chargeShaper f v s e) = frame s := by
  unfold chargeShaper
  split <;> simp

@[simp] theorem frame_setDeficit (v : Vale) (s : State) (e : Nat) (d : Int) : frame (setDeficit v s e d) = frame s := by
  simp [setDeficit]

@[simp] theorem frame_settle (s : State) (v : Vale) (n q : Nat) : frame (settle s v n q) = frame s := by
  simp [settle, frame_foldl]

@[simp] theorem frame_settleAll (s : State) (v : Vale) : frame (settleAll s v) = frame s := by simp [settleAll, frame_foldl]
@[simp] theorem frame_dropDeficits (s : State) (v : Vale) : frame (dropDeficits s v) = frame s := by simp [dropDeficits]

@[simp] theorem frame_chargeStep (v : Vale) (f : Nat) (s : State) (st : Nat × Nat × List (Nat × Int) × Bool) :
    frame (chargeStep v f s st) = frame s := by simp [chargeStep, frame_foldl]

@[simp] theorem frame_endVisits (s : State) (v : Vale) (n : Nat) (c : Choice) : frame (endVisits s v n c) = frame s := by
  simp [endVisits]

@[simp] theorem frame_chargeDequeue (s : State) (v : Vale) (n : Nat) (c : Choice) (f : Nat) :
    frame (chargeDequeue s v n c f) = frame s := by simp [chargeDequeue, frame_foldl]

@[simp] theorem outFrame_execTelemRingEnable (v : Vale) (w : RingWrite 32) (s : State) :
    OutFrame s (execTelemRingEnable v w s) := by simp [execTelemRingEnable]

@[simp] theorem opFrame_telemLogOp (who : Who) (v : Vale) : OpFrame (telemLogOp who v) :=
  ⟨fun s => by simp [telemLogOp], fun _ _ => rfl⟩

@[simp] theorem outFrame_execTelemLogRead (who : Who) (v : Vale) (s : State) : OutFrame s (execTelemLogRead who v s) := by
  simp [execTelemLogRead]

@[simp] theorem opFrame_queueCreateOp (who : Who) (v : Vale) (r : Rec 32) : OpFrame (queueCreateOp who v r) := by
  refine ⟨fun s => ?_, fun _ _ => rfl⟩
  unfold queueCreateOp
  dsimp only
  split
  · rfl
  · next h => simp [frame_allocIndex h]

@[simp] theorem outFrame_execQueueCreate (who : Who) (v : Vale) (r : Rec 32) (s : State) :
    OutFrame s (execQueueCreate who v r s) := by simp [execQueueCreate]

@[simp] theorem opFrame_queueConfOp (who : Who) (v : Vale) (q : Fin 32768) (r : Rec 32) : OpFrame (queueConfOp who v q r) :=
  ⟨fun _ => rfl, fun _ _ => rfl⟩

@[simp] theorem outFrame_execQueueConfWrite (who : Who) (v : Vale) (q : Fin 32768) (r : Rec 32) (s : State) :
    OutFrame s (execQueueConfWrite who v q r s) := by simp [execQueueConfWrite]

@[simp] theorem frame_untarget (s : State) (v : Vale) (e : Nat) : frame (untarget s v e) = frame s := by
  simp [untarget, frame_foldl]

@[simp] theorem frame_unwatch (s : State) (v : Vale) (q : Nat) : frame (unwatch s v q) = frame s := rfl

@[simp] theorem frame_flushQueue (s : State) (v : Vale) (q : Nat) : frame (flushQueue s v q) = frame s := by
  simp [flushQueue, frame_foldl]

@[simp] theorem frame_endQueue (s : State) (v : Vale) (q : Nat) : frame (endQueue s v q) = frame s := by
  simp [endQueue, frame_fields, frame_mk]

@[simp] theorem opFrame_queueDestroyOp (who : Who) (v : Vale) (h : Handle) : OpFrame (queueDestroyOp who v h) :=
  ⟨fun s => by simp [queueDestroyOp], fun _ _ => rfl⟩

@[simp] theorem outFrame_execQueueDestroy (who : Who) (v : Vale) (h : Handle) (s : State) :
    OutFrame s (execQueueDestroy who v h s) := by simp [execQueueDestroy]

@[simp] theorem opFrame_shaperCreateOp (who : Who) (v : Vale) (r : Rec 20) : OpFrame (shaperCreateOp who v r) := by
  refine ⟨fun s => ?_, fun _ _ => rfl⟩
  unfold shaperCreateOp
  dsimp only
  split
  · rfl
  · next h => simp [frame_allocIndex h]

@[simp] theorem outFrame_execShaperCreate (who : Who) (v : Vale) (r : Rec 20) (s : State) :
    OutFrame s (execShaperCreate who v r s) := by simp [execShaperCreate]

@[simp] theorem opFrame_shaperWriteOp (who : Who) (v : Vale) (i : Fin 36864) (r : Rec 16) :
    OpFrame (shaperWriteOp who v i r) := ⟨fun s => by simp [shaperWriteOp], fun _ _ => rfl⟩

@[simp] theorem outFrame_execShaperWrite (who : Who) (v : Vale) (i : Fin 36864) (r : Rec 16) (s : State) :
    OutFrame s (execShaperWrite who v i r s) := by simp [execShaperWrite]

@[simp] theorem frame_freeShaper (s : State) (v : Vale) (i : Nat) : frame (freeShaper s v i) = frame s := by
  simp [freeShaper, frame_fields, frame_mk]

@[simp] theorem opFrame_shaperDestroyOp (who : Who) (v : Vale) (h : Handle) : OpFrame (shaperDestroyOp who v h) :=
  ⟨fun s => by simp [shaperDestroyOp], fun _ _ => rfl⟩

@[simp] theorem outFrame_execShaperDestroy (who : Who) (v : Vale) (h : Handle) (s : State) :
    OutFrame s (execShaperDestroy who v h s) := by simp [execShaperDestroy]

@[simp] theorem frame_shareCells (s : State) (v : Vale) (i k : Nat) : frame (shareCells s v i k).1 = frame s := by
  unfold shareCells
  (repeat' split) <;> simp

@[simp] theorem frame_addCopy (s : State) (v : Vale) (p : Packet) (l : Loc) : frame (addCopy s v p l) = frame s := by
  simp [addCopy]

@[simp] theorem frame_mirrorCopy (s : State) (v : Vale) (i : Nat) : frame (mirrorCopy s v i) = frame s := by
  unfold mirrorCopy
  split <;> simp

@[simp] theorem frame_refuse (s : State) (v : Vale) (i q reason : Nat) : frame (refuse s v i q reason) = frame s := by
  simp [refuse]

@[simp] theorem frame_linkBasin (s : State) (v : Vale) (i q : Nat) : frame (linkBasin s v i q) = frame s := by simp [linkBasin]
@[simp] theorem frame_linkFlood (s : State) (v : Vale) (i q : Nat) : frame (linkFlood s v i q) = frame s := by simp [linkFlood]

@[simp] theorem frame_takeIn (s : State) (v : Vale) (i q : Nat) (cells : Nat) : frame (takeIn s v i q cells) = frame s := by
  simp [takeIn]

@[simp] theorem frame_enqueueAt (s : State) (v : Vale) (i q n : Nat) (p : Packet) : frame (enqueueAt s v i q n p) = frame s := by
  unfold enqueueAt
  dsimp only
  (repeat' split) <;> simp

@[simp] theorem outFrame_execEnqueue (v : Vale) (s : State) : OutFrame s (execEnqueue v s) := by
  unfold execEnqueue
  (repeat' split) <;> simp

@[simp] theorem frame_admitCrossing (fuel : Nat) (v : Vale) (s : State) : frame (admitCrossing fuel v s) = frame s := by
  induction fuel generalizing s with
  | zero => rfl
  | succ fuel ih =>
    unfold admitCrossing
    dsimp only
    (repeat' split) <;> simp [ih]

@[simp] theorem outFrame_execCrossingTransfer (v : Vale) (s : State) : OutFrame s (execCrossingTransfer v s) := by
  unfold execCrossingTransfer
  dsimp only
  (repeat' split) <;> simp

@[simp] theorem frame_protect (s : State) (p : Packet) (f : List Byte) : frame (protect s p f).2 = frame s := by
  unfold protect
  dsimp only
  (repeat' split) <;> simp

@[simp] theorem frame_handOver (s : State) (v : Vale) (i : Nat) (p : Packet) (l : Loc) : frame (handOver s v i p l) = frame s := by
  unfold handOver
  have hprotect := frame_protect s p p.out
  split <;> simp_all

@[simp] theorem frame_startRecirc (s : State) (v : Vale) (i : Nat) (p : Packet) (g : List Byte) :
    frame (startRecirc s v i p g) = frame s := by simp [startRecirc]

@[simp] theorem frame_emitRecirc (s : State) (v : Vale) (i : Nat) (p : Packet) : frame (emitRecirc s v i p) = frame s := by
  unfold emitRecirc
  have hesp := frame_espOpen s (recBits p 12 0 16) p.out
  (repeat' split) <;> simp_all

@[simp] theorem frame_dropOversize (s : State) (v : Vale) (n : Nat) : frame (dropOversize s v n) = frame s := by
  unfold dropOversize
  dsimp only
  split
  · rfl
  · refine frame_foldl (fun a c => ?_) _ _
    (repeat' split) <;> simp

@[simp] theorem frame_takeGrant (s : State) (v : Vale) (n : Nat) : frame (takeGrant s v n) = frame s := by simp [takeGrant]

@[simp] theorem outFrame_execSpillWriteComplete (v : Vale) (pkt : Nat) (s : State) :
    OutFrame s (execSpillWriteComplete v pkt s) := by
  unfold execSpillWriteComplete
  (repeat' split) <;> simp

@[simp] theorem outFrame_execRefill (v : Vale) (q : Fin 32768) (s : State) : OutFrame s (execRefill v q s) := by
  unfold execRefill
  dsimp only
  (repeat' split) <;> simp

@[simp] theorem opFrame_floodSizeOp (who : Who) (v : Vale) (x : U8) : OpFrame (floodSizeOp who v x) :=
  ⟨fun s => by simp [floodSizeOp], fun _ _ => rfl⟩

@[simp] theorem outFrame_execFloodSizeWrite (who : Who) (v : Vale) (x : U8) (s : State) :
    OutFrame s (execFloodSizeWrite who v x s) := by simp [execFloodSizeWrite]

end Sys2Proof.Machine

end

section
/-! The frame: functions and commands of the model's parts Pgr, Saddle -/

namespace Sys2Proof.Machine

@[simp] theorem frame_regate (s : State) : frame (regate s) = frame s := rfl
@[simp] theorem frame_stepTime (s : State) (ns : Int) (held : Bool) : frame (stepTime s ns held) = frame s := rfl

@[simp] theorem opFrame_timeSetOp (who : Who) (r : Rec 12) : OpFrame (timeSetOp who r) := by
  exact ⟨fun s => frame_stepTime s _ false, fun _ _ => rfl⟩

@[simp] theorem outFrame_execTimeSet (who : Who) (r : Rec 12) (s : State) : OutFrame s (execTimeSet who r s) := by
  simp [execTimeSet]

@[simp] theorem opFrame_timeStepOp (who : Who) (r : Rec 8) : OpFrame (timeStepOp who r) := ⟨fun _ => rfl, fun _ _ => rfl⟩

@[simp] theorem outFrame_execTimeStep (who : Who) (r : Rec 8) (s : State) : OutFrame s (execTimeStep who r s) := by
  simp [execTimeStep]

@[simp] theorem opFrame_policerCreateOp (who : Who) (v : Vale) (r : Rec 28) : OpFrame (policerCreateOp who v r) := by
  refine ⟨fun s => ?_, fun _ _ => rfl⟩
  unfold policerCreateOp
  dsimp only
  split
  · rfl
  · next h => simp [frame_allocIndex h]

@[simp] theorem outFrame_execPolicerCreate (who : Who) (v : Vale) (r : Rec 28) (s : State) :
    OutFrame s (execPolicerCreate who v r s) := by simp [execPolicerCreate]

@[simp] theorem opFrame_policerWriteOp (who : Who) (v : Vale) (p : Fin 16384) (r : Rec 24) :
    OpFrame (policerWriteOp who v p r) := ⟨fun s => by simp [policerWriteOp], fun _ _ => rfl⟩

@[simp] theorem outFrame_execPolicerWrite (who : Who) (v : Vale) (p : Fin 16384) (r : Rec 24) (s : State) :
    OutFrame s (execPolicerWrite who v p r s) := by simp [execPolicerWrite]

@[simp] theorem frame_freePolicer (s : State) (v : Vale) (i : Nat) : frame (freePolicer s v i) = frame s := by
  simp [freePolicer, frame_fields, frame_mk]

@[simp] theorem opFrame_policerDestroyOp (who : Who) (v : Vale) (h : Handle) : OpFrame (policerDestroyOp who v h) :=
  ⟨fun s => by simp [policerDestroyOp], fun _ _ => rfl⟩

@[simp] theorem outFrame_execPolicerDestroy (who : Who) (v : Vale) (h : Handle) (s : State) :
    OutFrame s (execPolicerDestroy who v h s) := by simp [execPolicerDestroy]

@[simp] theorem frame_policerCount (s : State) (v : Vale) (p colour bytes : Nat) :
    frame (policerCount s v p colour bytes) = frame s := rfl

@[simp] theorem frame_afterPolice (s : State) (v : Vale) (i : Nat) (p : Packet) : frame (afterPolice s v i p) = frame s := by
  simp [afterPolice]

@[simp] theorem outFrame_execPolice (v : Vale) (s : State) : OutFrame s (execPolice v s) := by
  unfold execPolice
  (repeat' split) <;> simp

@[simp] theorem opFrame_gateApplyOp (who : Who) (v : Vale) (n : U8) : OpFrame (gateApplyOp who v n) :=
  ⟨fun s => by simp [gateApplyOp], fun _ _ => rfl⟩

@[simp] theorem outFrame_execGateApply (who : Who) (v : Vale) (n : U8) (s : State) : OutFrame s (execGateApply who v n s) := by
  simp [execGateApply]

@[simp] theorem outFrame_execGateListChange (v : Vale) (n : Fin 8) (s : State) : OutFrame s (execGateListChange v n s) := by
  unfold execGateListChange
  split <;> simp

@[simp] theorem outFrame_execGateEntryEnd (v : Vale) (n : Fin 8) (s : State) : OutFrame s (execGateEntryEnd v n s) := by
  simp [execGateEntryEnd]

@[simp] theorem frame_setGroup (s : State) (v : Vale) (g : Nat) (x : ReplGroup) : frame (setGroup s v g x) = frame s := by
  simp [setGroup]

@[simp] theorem opFrame_replCreateOp (who : Who) (v : Vale) (o : Handle) : OpFrame (replCreateOp who v o) := by
  refine ⟨fun s => ?_, fun _ _ => rfl⟩
  unfold replCreateOp
  dsimp only
  split
  · rfl
  · next h => simp [frame_allocIndex h]

@[simp] theorem outFrame_execReplCreate (who : Who) (v : Vale) (owner : Handle) (s : State) :
    OutFrame s (execReplCreate who v owner s) := by simp [execReplCreate]

@[simp] theorem frame_freeGroup (s : State) (v : Vale) (i : Nat) : frame (freeGroup s v i) = frame s := by simp [freeGroup]

@[simp] theorem opFrame_replDestroyOp (who : Who) (v : Vale) (h : Handle) : OpFrame (replDestroyOp who v h) :=
  ⟨fun s => by simp [replDestroyOp], fun _ _ => rfl⟩

@[simp] theorem outFrame_execReplDestroy (who : Who) (v : Vale) (h : Handle) (s : State) :
    OutFrame s (execReplDestroy who v h s) := by simp [execReplDestroy]

@[simp] theorem opFrame_replWriteOp (who : Who) (v : Vale) (bs : List Byte) : OpFrame (replWriteOp who v bs) :=
  ⟨fun s => by simp [replWriteOp], fun _ _ => rfl⟩

@[simp] theorem outFrame_execReplWrite (who : Who) (v : Vale) (bytes : List Byte) (s : State) :
    OutFrame s (execReplWrite who v bytes s) := by simp [execReplWrite]

@[simp] theorem opFrame_replApplyOp (who : Who) (v : Vale) (r : Rec 6) : OpFrame (replApplyOp who v r) :=
  ⟨fun s => by simp [replApplyOp], fun _ _ => rfl⟩

@[simp] theorem outFrame_execReplApply (who : Who) (v : Vale) (r : Rec 6) (s : State) :
    OutFrame s (execReplApply who v r s) := by simp [execReplApply]

@[simp] theorem opFrame_replQueryOp (who : Who) (v : Vale) (r : Rec 6) : OpFrame (replQueryOp who v r) :=
  ⟨fun _ => rfl, fun _ _ => rfl⟩

@[simp] theorem outFrame_execReplQuery (who : Who) (v : Vale) (r : Rec 6) (s : State) :
    OutFrame s (execReplQuery who v r s) := by simp [execReplQuery]

@[simp] theorem frame_admitRepl (fuel : Nat) (v : Vale) (s : State) : frame (admitRepl fuel v s) = frame s := by
  induction fuel generalizing s with
  | zero => rfl
  | succ fuel ih =>
    unfold admitRepl
    (repeat' split) <;> simp [ih]

@[simp] theorem frame_makeCopy (s : State) (v : Vale) (p : Packet) (share : Nat) (g h : Handle) (template : Nat) :
    frame (makeCopy s v p share g h template) = frame s := by simp [makeCopy]

@[simp] theorem frame_memberTurn (v : Vale) (p : Packet) (share : Nat) (g : Handle) (bad : List Nat) (s : State) (im : Nat ×
    Nat) :
    frame (memberTurn v p share g bad s im) = frame s := by simp [memberTurn]

@[simp] theorem frame_replicateOne (s : State) (v : Vale) (i : Nat) (p : Packet) (g : Handle) :
    frame (replicateOne s v i p g) = frame s := by simp [replicateOne, frame_foldl]

@[simp] theorem outFrame_execReplicate (v : Vale) (s : State) : OutFrame s (execReplicate v s) := by
  unfold execReplicate
  dsimp only
  (repeat' split) <;> simp

@[simp] theorem opFrame_slotModeOp (who : Who) (q : Fin 4) (m : U8) : OpFrame (slotModeOp who q m) :=
  ⟨fun s => by simp [slotModeOp], fun _ _ => rfl⟩

@[simp] theorem outFrame_execSlotModeWrite (who : Who) (q : Fin 4) (m : U8) (s : State) :
    OutFrame s (execSlotModeWrite who q m s) := by simp [execSlotModeWrite]

@[simp] theorem frame_portsDown (s : State) (q : Nat) : frame (portsDown s q) = frame s := by simp [portsDown]
@[simp] theorem frame_isolateAll (s : State) (q : Nat) : frame (isolateAll s q) = frame s := by simp [isolateAll, frame_foldl]
@[simp] theorem frame_powerUp (s : State) (q : Nat) : frame (powerUp s q) = frame s := by simp [powerUp]

@[simp] theorem opFrame_slotPowerOp (who : Who) (q : Fin 4) (on : U8) (present : Bool) :
    OpFrame (slotPowerOp who q on present) := by
  refine ⟨fun s => ?_, fun _ _ => rfl⟩
  unfold slotPowerOp
  dsimp only
  (repeat' split) <;> simp

@[simp] theorem outFrame_execSlotPower (who : Who) (q : Fin 4) (on : U8) (present : Bool) (s : State) :
    OutFrame s (execSlotPower who q on present s) := by simp [execSlotPower]

@[simp] theorem outFrame_execSlotPgoodRise (q : Fin 4) (s : State) : OutFrame s (execSlotPgoodRise q s) := by
  simp [execSlotPgoodRise]

@[simp] theorem outFrame_execSlotPgoodTimeout (q : Fin 4) (s : State) : OutFrame s (execSlotPgoodTimeout q s) := by
  simp [execSlotPgoodTimeout]

@[simp] theorem frame_slotFailAct (q : Nat) (k : ErrKind) (l : Nat) (r : ErrRec) (s : State) :
    frame (slotFailAct q k l r s) = frame s := by
  unfold slotFailAct
  (repeat' split) <;> simp

@[simp] theorem frame_slotFails (s : State) (q : Fin 4) (cause : Nat) : frame (slotFails s q cause) = frame s := by
  simp [slotFails]

@[simp] theorem outFrame_execSlotPgoodFall (q : Fin 4) (s : State) : OutFrame s (execSlotPgoodFall q s) := by
  simp [execSlotPgoodFall]

@[simp] theorem opFrame_slotLoadOp (who : Who) (r : Rec 24) : OpFrame (slotLoadOp who r) := ⟨fun _ => rfl, fun _ _ => rfl⟩

@[simp] theorem outFrame_execSlotLoad (who : Who) (r : Rec 24) (s : State) : OutFrame s (execSlotLoad who r s) := by
  simp [execSlotLoad]

@[simp] theorem frame_loadEvent (s : State) (q : Nat) (st : Status) : frame (loadEvent s q st) = frame s := rfl

@[simp] theorem outFrame_execManifestVerified (q : Fin 4) (s : State) : OutFrame s (execManifestVerified q s) := by
  unfold execManifestVerified
  dsimp only
  (repeat' split) <;> simp

@[simp] theorem frame_loadFails (s : State) (q : Nat) (st : Status) : frame (loadFails s q st) = frame s := rfl
@[simp] theorem outFrame_execCfgInitRise (q : Fin 4) (s : State) : OutFrame s (execCfgInitRise q s) := by simp [execCfgInitRise]

@[simp] theorem outFrame_execCfgInitTimeout (q : Fin 4) (s : State) : OutFrame s (execCfgInitTimeout q s) := by
  simp [execCfgInitTimeout]

@[simp] theorem outFrame_execCfgInitFall (q : Fin 4) (s : State) : OutFrame s (execCfgInitFall q s) := by simp [execCfgInitFall]
@[simp] theorem outFrame_execCfgDone (q : Fin 4) (s : State) : OutFrame s (execCfgDone q s) := by simp [execCfgDone]

@[simp] theorem outFrame_execCfgDoneTimeout (q : Fin 4) (s : State) : OutFrame s (execCfgDoneTimeout q s) := by
  simp [execCfgDoneTimeout]

@[simp] theorem outFrame_execSaddleLinkUp (p : Fin 8) (speed width : U8) (s : State) :
    OutFrame s (execSaddleLinkUp p speed width s) := by simp [execSaddleLinkUp]

@[simp] theorem outFrame_execSaddleLinkTimeout (p : Fin 8) (s : State) : OutFrame s (execSaddleLinkTimeout p s) := by
  simp [execSaddleLinkTimeout]

@[simp] theorem outFrame_execShReady (p : Fin 8) (o : ShellOffer) (s : State) : OutFrame s (execShReady p o s) := by
  unfold execShReady
  dsimp only
  (repeat' split) <;> simp [frame_foldl]

@[simp] theorem outFrame_execShReadyTimeout (p : Fin 8) (s : State) : OutFrame s (execShReadyTimeout p s) := by
  simp [execShReadyTimeout]

@[simp] theorem opFrame_slotUnloadOp (who : Who) (q : U8) : OpFrame (slotUnloadOp who q) := ⟨fun _ => rfl, fun _ _ => rfl⟩

@[simp] theorem outFrame_execSlotUnload (who : Who) (q : U8) (s : State) : OutFrame s (execSlotUnload who q s) := by
  simp [execSlotUnload]

@[simp] theorem opFrame_regionCreateOp (who : Who) (r : Rec 24) : OpFrame (regionCreateOp who r) := by
  refine ⟨fun s => ?_, fun _ _ => rfl⟩
  unfold regionCreateOp
  dsimp only
  split
  · rfl
  · next h => simp [frame_allocIndex h]

@[simp] theorem outFrame_execRegionCreate (who : Who) (r : Rec 24) (s : State) : OutFrame s (execRegionCreate who r s) := by
  simp [execRegionCreate]

@[simp] theorem outFrame_execIsoAckFall (r : Fin 64) (s : State) : OutFrame s (execIsoAckFall r s) := by
  unfold execIsoAckFall
  split <;> simp

@[simp] theorem outFrame_execIsoAckSet (r : Fin 64) (s : State) : OutFrame s (execIsoAckSet r s) := by
  unfold execIsoAckSet
  (repeat' split) <;> simp

@[simp] theorem frame_isoErrAct (name : String) (i : Nat) (x : SRegion) (k : ErrKind) (l : Nat) (r : ErrRec) (s : State) :
    frame (isoErrAct name i x k l r s) = frame s := by
  unfold isoErrAct
  (repeat' split) <;> simp

@[simp] theorem frame_isoErr (s : State) (name : String) (r : Fin 64) (x : SRegion) (cause : Nat) :
    frame (isoErr s name r x cause) = frame s := by simp [isoErr]

@[simp] theorem outFrame_execIsoAckTimeout (r : Fin 64) (s : State) : OutFrame s (execIsoAckTimeout r s) := by
  unfold execIsoAckTimeout
  (repeat' split) <;> simp

@[simp] theorem opFrame_regionDestroyOp (who : Who) (h : Handle) : OpFrame (regionDestroyOp who h) :=
  ⟨fun s => by simp [regionDestroyOp], fun _ _ => rfl⟩

@[simp] theorem outFrame_execRegionDestroy (who : Who) (h : Handle) (s : State) : OutFrame s (execRegionDestroy who h s) := by
  simp [execRegionDestroy]

@[simp] theorem outFrame_execRegionReset (who : Who) (h : Handle) (s : State) : OutFrame s (execRegionReset who h s) := by
  unfold execRegionReset
  (repeat' split) <;> simp

@[simp] theorem outFrame_execResetDone (r : Fin 64) (s : State) : OutFrame s (execResetDone r s) := by
  unfold execResetDone
  split <;> simp

@[simp] theorem outFrame_execResetDoneTimeout (r : Fin 64) (s : State) : OutFrame s (execResetDoneTimeout r s) := by
  unfold execResetDoneTimeout
  split <;> simp

@[simp] theorem frame_recoverRegion (s : State) (r : Nat) : frame (recoverRegion s r) = frame s := by simp [recoverRegion]

@[simp] theorem frame_portReset (s : State) (p : Fin 8) : frame (portReset s p) = frame s := by
  unfold portReset
  dsimp only
  (repeat' split) <;> simp
  all_goals
    refine (frame_foldl (fun a r => ?_) _ _).trans ?_
    · split <;> simp
    · simp [frame_foldl]

@[simp] theorem opFrame_saddlePortResetOp (who : Who) (p : Fin 8) : OpFrame (saddlePortResetOp who p) :=
  ⟨fun s => by simp [saddlePortResetOp], fun _ _ => rfl⟩

@[simp] theorem outFrame_execSaddlePortReset (who : Who) (p : Fin 8) (s : State) : OutFrame s (execSaddlePortReset who p s) := by
  simp [execSaddlePortReset]

@[simp] theorem frame_portErrAct (p : Fin 8) (k : ErrKind) (l : Nat) (r : ErrRec) (s : State) :
    frame (portErrAct p k l r s) = frame s := by simp [portErrAct]

@[simp] theorem frame_portError (s : State) (p : Fin 8) (cause : Nat) : frame (portError s p cause) = frame s := by
  simp [portError]

@[simp] theorem outFrame_execSaddleCplTimeout (p : Fin 8) (s : State) : OutFrame s (execSaddleCplTimeout p s) := by
  simp [execSaddleCplTimeout]

@[simp] theorem frame_malformedTlp (s : State) (p : Fin 8) : frame (malformedTlp s p) = frame s := by simp [malformedTlp]

@[simp] theorem outFrame_execSaddleLinkDown (p : Fin 8) (s : State) : OutFrame s (execSaddleLinkDown p s) := by
  simp [execSaddleLinkDown]

@[simp] theorem opFrame_windowOp (who : Who) (owner : Handle) (w : Fin 63) (r : Rec 32) : OpFrame (windowOp who owner w r) :=
  ⟨fun _ => rfl, fun _ _ => rfl⟩

@[simp] theorem outFrame_execWindowWrite (who : Who) (owner : Handle) (w : Fin 63) (r : Rec 32) (s : State) :
    OutFrame s (execWindowWrite who owner w r s) := by simp [execWindowWrite]

@[simp] theorem frame_dropPages (s : State) (a b : Nat) : frame (dropPages s a b) = frame s := rfl
@[simp] theorem opFrame_sgInvalidateOp (who : Who) (r : Rec 16) : OpFrame (sgInvalidateOp who r) := ⟨fun _ => rfl, fun _ _ => rfl⟩

@[simp] theorem outFrame_execSgInvalidate (who : Who) (r : Rec 16) (s : State) : OutFrame s (execSgInvalidate who r s) := by
  simp [execSgInvalidate]

@[simp] theorem frame_sgReject (s : State) (p : Nat) (q : SgReq) : frame (sgReject s p q) = frame s := by simp [sgReject]

@[simp] theorem frame_faultCount (s : State) (r : Fin 64) (code typ pasid addr : Nat) :
    frame (faultCount s r code typ pasid addr) = frame s := by
  unfold faultCount
  split <;> simp

@[simp] theorem frame_sgFault (s : State) (p : Nat) (r : Fin 64) (q : SgReq) (code : Nat) :
    frame (sgFault s p r q code) = frame s := by simp [sgFault]

@[simp] theorem frame_rgCharge (s : State) (r n : Nat) : frame (rgCharge s r n) = frame s := by simp [rgCharge]

@[simp] theorem outFrame_execSaddleRxWrite (r : Fin 64) (s : State) : OutFrame s (execSaddleRxWrite r s) := by
  unfold execSaddleRxWrite
  split <;> simp

@[simp] theorem frame_apViolation (s : State) (r : Nat) : frame (apViolation s r) = frame s := by simp [apViolation]
@[simp] theorem frame_apTaken (s : State) (r : Nat) : frame (apTaken s r) = frame s := by simp [apTaken]

@[simp] theorem frame_apBytes (s : State) (r : Nat) (x : SRegion) (bs : List Byte) : frame (apBytes s r x bs) = frame s := by
  unfold apBytes
  split <;> simp

@[simp] theorem frame_aperture (s : State) (r : Nat) (x : SRegion) (off : Nat) (bs : List Byte) :
    frame (aperture s r x off bs) = frame s := by simp [aperture]

@[simp] theorem outFrame_execApertureWrite (r : Fin 64) (off : Nat) (bytes : List Byte) (s : State) :
    OutFrame s (execApertureWrite r off bytes s) := by
  unfold execApertureWrite
  split <;> simp

@[simp] theorem outFrame_execRxConsWrite (r : Fin 64) (x : U16) (s : State) : OutFrame s (execRxConsWrite r x s) := by
  unfold execRxConsWrite
  split <;> simp

@[simp] theorem frame_sgHost (s : State) (p k f n addr : Nat) (q : SgReq) : frame (sgHost s p k f n addr q) = frame s := by
  unfold sgHost
  (repeat' split) <;> simp

@[simp] theorem frame_sgService (s : State) (p : Nat) (r : Fin 64) (x : SRegion) (q : SgReq) :
    frame (sgService s p r x q) = frame s := by
  unfold sgService
  split <;> simp

@[simp] theorem outFrame_execSaddleL1Entry (p : Fin 8) (s : State) : OutFrame s (execSaddleL1Entry p s) := by
  simp [execSaddleL1Entry]

@[simp] theorem outFrame_execSaddleL1Exit (p : Fin 8) (s : State) : OutFrame s (execSaddleL1Exit p s) := by
  simp [execSaddleL1Exit]

@[simp] theorem opFrame_regionFaultOp (who : Who) (r : Fin 64) : OpFrame (regionFaultOp who r) := by
  refine ⟨fun s => ?_, fun _ _ => rfl⟩
  unfold regionFaultOp
  dsimp only
  (repeat' split) <;> simp

@[simp] theorem outFrame_execRegionFaultRead (who : Who) (r : Fin 64) (s : State) :
    OutFrame s (execRegionFaultRead who r s) := by simp [execRegionFaultRead]

end Sys2Proof.Machine

end

section
/-! The frame: functions and commands of the model's parts Table, Tenancy, Migration -/

namespace Sys2Proof.Machine

@[simp] theorem frame_newPartition (s : State) (v : Vale) (r : Nat) : frame (newPartition s v r).2 = frame s := by
  simp [newPartition]

@[simp] theorem opFrame_partitionCreateOp (who : Who) (v : Vale) (r : Rec 24) : OpFrame (partitionCreateOp who v r) := by
  refine ⟨fun s => ?_, fun _ _ => rfl⟩
  unfold partitionCreateOp
  dsimp only
  split
  · rfl
  · next h => simp [frame_allocIndex h]

@[simp] theorem outFrame_execPartitionCreate (who : Who) (v : Vale) (r : Rec 24) (s : State) :
    OutFrame s (execPartitionCreate who v r s) := by simp [execPartitionCreate]

@[simp] theorem frame_uncountPart (s : State) (v : Vale) (p : Partition) : frame (uncountPart s v p) = frame s := by
  simp [uncountPart, frame_foldl]

@[simp] theorem frame_freePartition (s : State) (v : Vale) (i : Nat) : frame (freePartition s v i) = frame s := by
  unfold freePartition
  split <;> simp

@[simp] theorem opFrame_partitionDestroyOp (who : Who) (v : Vale) (h : Handle) : OpFrame (partitionDestroyOp who v h) :=
  ⟨fun s => by simp [partitionDestroyOp], fun _ _ => rfl⟩

@[simp] theorem outFrame_execPartitionDestroy (who : Who) (v : Vale) (h : Handle) (s : State) :
    OutFrame s (execPartitionDestroy who v h s) := by simp [execPartitionDestroy]

@[simp] theorem frame_setTcRing (s : State) (v : Vale) (r : Nat) (x : TcRing) : frame (setTcRing s v r x) = frame s := by
  simp [setTcRing]

@[simp] theorem outFrame_execTcRingEnable (v : Vale) (r : Fin 8) (w : RingWrite 32) (s : State) :
    OutFrame s (execTcRingEnable v r w s) := by simp [execTcRingEnable]

theorem frame_tcReadMem {s : State} {space : Bool} {a n : Nat} {r : List Byte × State} (h : tcReadMem s space a n = some r) :
    frame r.2 = frame s := by
  revert h
  unfold tcReadMem
  (repeat' split) <;> simp <;> rintro rfl <;> simp

@[simp] theorem frame_tcHalt (s : State) (v : Vale) (r reason : Nat) : frame (tcHalt s v r reason) = frame s := by simp [tcHalt]

@[simp] theorem frame_tcDoorbellAt (s : State) (v : Vale) (r x : Nat) : frame (tcDoorbellAt s v r x) = frame s := by
  simp [tcDoorbellAt]

@[simp] theorem frame_tcInsertExact (s : State) (v : Vale) (i : Nat) (p : Partition) (c : TcCmd) :
    frame (tcInsertExact s v i p c).1 = frame s := by
  unfold tcInsertExact
  dsimp only
  (repeat' split) <;> simp

@[simp] theorem frame_tcPlace (s : State) (v : Vale) (i : Nat) (p : Partition) (e : Entry) (existed : Bool) :
    frame (tcPlace s v i p e existed).1 = frame s := by
  unfold tcPlace
  split <;> simp

@[simp] theorem frame_tcInsertOther (s : State) (v : Vale) (i : Nat) (p : Partition) (c : TcCmd) (mask : Nat) :
    frame (tcInsertOther s v i p c mask).1 = frame s := by
  unfold tcInsertOther
  dsimp only
  (repeat' split) <;> simp

@[simp] theorem frame_flushEntry (s : State) (v : Vale) (i pos : Nat) : frame (flushEntry s v i pos) = frame s := by
  unfold flushEntry
  split <;> simp

theorem frame_tcTurn {s t : State} {space : Bool} (h : tcTurn s space = some t) : frame t = frame s := by
  unfold tcTurn at h
  (repeat' split at h)
  · cases h
    rfl
  · cases h
  · exact frame_readTurn h

theorem frame_tcFetch {s : State} {v : Vale} {r : Nat} {x : TcCmd × State} (h : tcFetch s v r = some (some x)) :
    frame x.2 = frame s := by
  unfold tcFetch at h
  dsimp only at h
  (repeat' split at h) <;> cases h
  next hturn _ _ _ hread => exact (frame_tcReadMem hread).trans (frame_tcTurn hturn)

@[simp] theorem outFrame_execTableLockExpired (v : Vale) (l : Fin 4096) (s : State) :
    OutFrame s (execTableLockExpired v l s) := by
  unfold execTableLockExpired
  dsimp only
  (repeat' split) <;> simp

@[simp] theorem outFrame_execLearnInsert (v : Vale) (s : State) : OutFrame s (execLearnInsert v s) := by
  unfold execLearnInsert
  dsimp only
  (repeat' split) <;> simp

@[simp] theorem opFrame_learnLogOp (who : Who) (v : Vale) : OpFrame (learnLogOp who v) :=
  ⟨fun s => by simp [learnLogOp], fun _ _ => rfl⟩

@[simp] theorem outFrame_execLearnLogRead (who : Who) (v : Vale) (s : State) : OutFrame s (execLearnLogRead who v s) := by
  simp [execLearnLogRead]

@[simp] theorem outFrame_execAgeTick (v : Vale) (s : State) : OutFrame s (execAgeTick v s) := by simp [execAgeTick]

@[simp] theorem outFrame_execAgerVisit (v : Vale) (p : Fin 1024) (pos : Nat) (s : State) :
    OutFrame s (execAgerVisit v p pos s) := by
  unfold execAgerVisit
  (repeat' split) <;> simp

@[simp] theorem outFrame_execTcamScrub (v : Vale) (p : Fin 1024) (pos : Nat) (differs : Bool) (s : State) :
    OutFrame s (execTcamScrub v p pos differs s) := by
  unfold execTcamScrub
  split <;> simp

@[simp] theorem frame_rescueEntry (v : Vale) (i : Nat) (s : State) (qe : Nat × Entry) :
    frame (rescueEntry v i s qe) = frame s := by
  unfold rescueEntry
  dsimp only
  (repeat' split) <;> simp

@[simp] theorem frame_killBank (s : State) (v : Vale) (m b level errSeq : Nat) :
    frame (killBank s v m b level errSeq) = frame s := by simp [killBank, frame_foldl]

@[simp] theorem opFrame_tableTestOp (who : Who) (v : Vale) (x : U16) : OpFrame (tableTestOp who v x) :=
  ⟨fun s => by simp [tableTestOp], fun _ _ => rfl⟩

@[simp] theorem outFrame_execTableBankTest (who : Who) (v : Vale) (x : U16) (s : State) :
    OutFrame s (execTableBankTest who v x s) := by simp [execTableBankTest]

@[simp] theorem outFrame_execTableMigrationDone (v : Vale) (s : State) : OutFrame s (execTableMigrationDone v s) := by
  simp [execTableMigrationDone]

@[simp] theorem outFrame_execTableTestDone (v : Vale) (pass : Bool) (s : State) : OutFrame s (execTableTestDone v pass s) := by
  simp [execTableTestDone]

@[simp] theorem opFrame_tenancyCreateOp (who : Who) (r : Rec 8) : OpFrame (tenancyCreateOp who r) := by
  refine ⟨fun s => ?_, fun _ _ => rfl⟩
  unfold tenancyCreateOp
  dsimp only
  split
  · rfl
  · next h => simp [frame_allocIndex h]

@[simp] theorem outFrame_execTenancyCreate (who : Who) (r : Rec 8) (s : State) : OutFrame s (execTenancyCreate who r s) := by
  simp [execTenancyCreate]

@[simp] theorem opFrame_tenQuotaOp (who : Who) (h : Handle) (kind : U8) (x : U32) : OpFrame (tenQuotaOp who h kind x) :=
  ⟨fun _ => rfl, fun _ _ => rfl⟩

@[simp] theorem outFrame_execTenQuotaWrite (who : Who) (h : Handle) (kind : U8) (v : U32) (s : State) :
    OutFrame s (execTenQuotaWrite who h kind v s) := by simp [execTenQuotaWrite]

@[simp] theorem opFrame_tenShareOp (who : Who) (h : Handle) (v : Vale) (x : U16) : OpFrame (tenShareOp who h v x) :=
  ⟨fun s => by simp [tenShareOp], fun _ _ => rfl⟩

@[simp] theorem outFrame_execTenShareWrite (who : Who) (h : Handle) (v : Vale) (x : U16) (s : State) :
    OutFrame s (execTenShareWrite who h v x s) := by simp [execTenShareWrite]

@[simp] theorem frame_clearPorts (s : State) (h : Handle) : frame (clearPorts s h) = frame s := by
  unfold clearPorts
  refine frame_foldl (fun a v => frame_foldl (fun b k => ?_) _ _) _ _
  dsimp only
  split <;> simp

@[simp] theorem frame_unnameQueues (s : State) (h : Handle) : frame (unnameQueues s h) = frame s := rfl

@[simp] theorem opFrame_tenancyDestroyOp (who : Who) (h : Handle) : OpFrame (tenancyDestroyOp who h) := by
  refine ⟨fun s => ?_, fun _ _ => rfl⟩
  unfold tenancyDestroyOp
  simp [frame_fields, frame_mk, frame_foldl]

@[simp] theorem outFrame_execTenancyDestroy (who : Who) (h : Handle) (s : State) : OutFrame s (execTenancyDestroy who h s) := by
  simp [execTenancyDestroy]

@[simp] theorem frame_teardown {s : State} {run : Handle → State} (i : Fin 256) (step : Nat) (ok : Handle → Bool)
    (hrun : ∀ h, frame (run h) = frame s) :
    frame (teardown s i step ok run) = frame s := by
  unfold teardown
  (repeat' split) <;> simp [hrun]

@[simp] theorem frame_tearRegion (silent : List (Fin 64)) (s0 : State) (r : Nat) :
    frame (tearRegion silent s0 r) = frame s0 := by
  unfold tearRegion
  dsimp only
  (repeat' split) <;> simp

@[simp] theorem outFrame_execTeardownIsolate (i : Fin 256) (silent : List (Fin 64)) (s : State) :
    OutFrame s (execTeardownIsolate i silent s) := by
  unfold execTeardownIsolate
  simp [frame_foldl]

@[simp] theorem frame_dropStamped (s : State) (v : Vale) (h : Handle) : frame (dropStamped s v h) = frame s := by
  simp [dropStamped]

@[simp] theorem frame_removeTenNode (v : Vale) (h : Handle) (s : State) (i : Nat) : frame (removeTenNode v h s i) = frame s := by
  simp [removeTenNode, frame_foldl]

@[simp] theorem frame_flushVale (h : Handle) (s : State) (v : Vale) : frame (flushVale h s v) = frame s := by
  simp [flushVale, frame_foldl]

@[simp] theorem frame_flushTenancy (s : State) (h : Handle) : frame (flushTenancy s h) = frame s := by
  rw [flushTenancy, frame_flushVale, frame_flushVale]

@[simp] theorem outFrame_execTeardownFlush (i : Fin 256) (s : State) : OutFrame s (execTeardownFlush i s) := by
  simp [execTeardownFlush]

@[simp] theorem outFrame_execTeardownDrainTimeout (i : Fin 256) (s : State) : OutFrame s (execTeardownDrainTimeout i s) := by
  simp [execTeardownDrainTimeout]

@[simp] theorem frame_clearMaps (s : State) (v : Vale) (i : Nat) : frame (clearMaps s v i) = frame s := rfl

@[simp] theorem frame_purgeVale (h : Handle) (s : State) (v : Vale) : frame (purgeVale h s v) = frame s := by
  simp [purgeVale, frame_foldl]

@[simp] theorem outFrame_execTeardownPurge (i : Fin 256) (s : State) : OutFrame s (execTeardownPurge i s) := by
  simp [execTeardownPurge]

@[simp] theorem frame_clearVolumes (s : State) (h : Handle) : frame (clearVolumes s h) = frame s := by
  simp [clearVolumes, frame_foldl]

@[simp] theorem frame_clearSlots (s : State) (h : Handle) : frame (clearSlots s h) = frame s := rfl
@[simp] theorem frame_clearTenRel (s : State) (i : Nat) : frame (clearTenRel s i) = frame s := rfl

@[simp] theorem frame_releaseFns (s : State) (h : Handle) : frame (releaseFns s h) = frame s := by
  exact frame_foldl (fun a f => frame_releaseFn a f) _ _

@[simp] theorem frame_releaseObjs (s : State) (h : Handle) : frame (releaseObjs s h) = frame s := by
  simp [releaseObjs, frame_foldl]

@[simp] theorem frame_freeHeld (s : State) (i : Nat) : frame (freeHeld s i) = frame s := by
  unfold freeHeld
  split
  · exact frame_foldl (fun a p => by simp) _ _
  · rfl

@[simp] theorem outFrame_execTeardownRelease (i : Fin 256) (s : State) : OutFrame s (execTeardownRelease i s) := by
  unfold execTeardownRelease
  split <;> simp

@[simp] theorem opFrame_tenResetOp (who : Who) (h : Handle) (x : U8) : OpFrame (tenResetOp who h x) := by
  refine ⟨fun s => ?_, fun _ _ => rfl⟩
  unfold tenResetOp
  dsimp only
  split
  · rfl
  · split <;> simp [frame_foldl]

@[simp] theorem outFrame_execTenReset (who : Who) (h : Handle) (v : U8) (s : State) : OutFrame s (execTenReset who h v s) := by
  simp [execTenReset]

@[simp] theorem outFrame_execTenResetComplete (i : Fin 256) (s : State) : OutFrame s (execTenResetComplete i s) := by
  unfold execTenResetComplete
  split <;> simp

@[simp] theorem opFrame_dplRangeOp (who : Who) (h : Handle) (k : Fin 8) (r : Rec 24) : OpFrame (dplRangeOp who h k r) :=
  ⟨fun _ => rfl, fun _ _ => rfl⟩

@[simp] theorem outFrame_execDplRangeWrite (who : Who) (ten : Handle) (k : Fin 8) (r : Rec 24) (s : State) :
    OutFrame s (execDplRangeWrite who ten k r s) := by simp [execDplRangeWrite]

@[simp] theorem opFrame_dplCtrlOp (who : Who) (h : Handle) (x : U8) : OpFrame (dplCtrlOp who h x) :=
  ⟨fun _ => rfl, fun _ _ => rfl⟩

@[simp] theorem outFrame_execDplCtrl (who : Who) (ten : Handle) (x : U8) (s : State) : OutFrame s (execDplCtrl who ten x s) := by
  simp [execDplCtrl]

@[simp] theorem frame_setHold (s : State) (i n : Nat) : frame (setHold s i n) = frame s := rfl

@[simp] theorem opFrame_migHoldOp (who : Who) (h : Handle) (x : U8) : OpFrame (migHoldOp who h x) :=
  ⟨fun s => by simp [migHoldOp], fun _ _ => rfl⟩

@[simp] theorem outFrame_execMigHold (who : Who) (ten : Handle) (x : U8) (s : State) : OutFrame s (execMigHold who ten x s) := by
  simp [execMigHold]

@[simp] theorem outFrame_execMigHoldDrained (i : Fin 256) (s : State) : OutFrame s (execMigHoldDrained i s) := by
  simp [execMigHoldDrained]

@[simp] theorem outFrame_execMigHoldExpired (i : Fin 256) (s : State) : OutFrame s (execMigHoldExpired i s) := by
  simp [execMigHoldExpired]

@[simp] theorem outFrame_execMbOfferWrite (n : Fin 256) (side : MbSide) (w : U32) (s : State) :
    OutFrame s (execMbOfferWrite n side w s) := by simp [execMbOfferWrite]

@[simp] theorem frame_mbRaise (s : State) (n : Nat) : frame (mbRaise s n) = frame s := by
  unfold mbRaise
  split <;> simp

@[simp] theorem frame_mbViolation (s : State) (n : Nat) : frame (mbViolation s n) = frame s := rfl

@[simp] theorem outFrame_execMbCountWrite (n : Fin 256) (side : MbSide) (producer : Bool) (x : U16) (s : State) :
    OutFrame s (execMbCountWrite n side producer x s) := by
  unfold execMbCountWrite
  (repeat' split) <;> simp

@[simp] theorem outFrame_execMbSlotWrite (n : Fin 256) (side : MbSide) (slot : Fin 16) (off : Fin 64) (b : Byte) (s : State) :
    OutFrame s (execMbSlotWrite n side slot off b s) := by
  unfold execMbSlotWrite
  (repeat' split) <;> simp

@[simp] theorem opFrame_mbResetOp (who : Who) (h : Handle) : OpFrame (mbResetOp who h) := ⟨fun _ => rfl, fun _ _ => rfl⟩

@[simp] theorem outFrame_execMbReset (who : Who) (ten : Handle) (s : State) : OutFrame s (execMbReset who ten s) := by
  simp [execMbReset]

@[simp] theorem opFrame_mbFunctionOp (who : Who) (ten h : Handle) : OpFrame (mbFunctionOp who ten h) :=
  ⟨fun _ => rfl, fun _ _ => rfl⟩

@[simp] theorem outFrame_execMbFunctionWrite (who : Who) (ten : Handle) (h : Handle) (s : State) :
    OutFrame s (execMbFunctionWrite who ten h s) := by simp [execMbFunctionWrite]

@[simp] theorem outFrame_execMbResetComplete (n : Fin 256) (s : State) : OutFrame s (execMbResetComplete n s) := by
  simp [execMbResetComplete]

end Sys2Proof.Machine

end

section
/-! The frame: functions and commands of the model's parts Steppe, VaultBase, Reset, BootBase, Boot, Intake, Tick -/

namespace Sys2Proof.Machine

@[simp] theorem frame_setHart (s : State) (h : Nat) (x : Hart) : frame (setHart s h x) = frame s := by simp [setHart]

@[simp] theorem outFrame_execHartRunWrite (h : Fin 24) (run : Bool) (s : State) : OutFrame s (execHartRunWrite h run s) := by
  simp [execHartRunWrite]

@[simp] theorem frame_startQuadTest (s : State) (q : Nat) : frame (startQuadTest s q) = frame s := rfl
@[simp] theorem opFrame_quadTestOp (who : Who) (q : U8) : OpFrame (quadTestOp who q) := ⟨fun _ => rfl, fun _ _ => rfl⟩

@[simp] theorem outFrame_execQuadTest (who : Who) (q : U8) (s : State) : OutFrame s (execQuadTest who q s) := by
  simp [execQuadTest]

@[simp] theorem frame_retireQuad (s : State) (q level errSeq : Nat) : frame (retireQuad s q level errSeq) = frame s := by
  unfold retireQuad
  simp [frame_fields, frame_mk, frame_foldl]

@[simp] theorem frame_nextQuadTest (s : State) : frame (nextQuadTest s) = frame s := by
  unfold nextQuadTest
  split <;> simp

@[simp] theorem outFrame_execQuadTestDone (pass : Bool) (s : State) : OutFrame s (execQuadTestDone pass s) := by
  unfold execQuadTestDone
  split <;> simp

@[simp] theorem frame_sringControl (s : State) (r : Nat) (w : U32) : frame (sringControl s r w) = frame s := by
  simp [sringControl]

@[simp] theorem outFrame_execSteppeRingEnable (r : Fin 1216) (w : U32) (s : State) :
    OutFrame s (execSteppeRingEnable r w s) := by simp [execSteppeRingEnable]

@[simp] theorem outFrame_execSteppeRingCountWrite (r : Fin 1216) (x : U16) (s : State) :
    OutFrame s (execSteppeRingCountWrite r x s) := by simp [execSteppeRingCountWrite]

@[simp] theorem frame_periphStop (s : State) (k : Nat) : frame (periphStop s k) = frame s := by simp [periphStop]
@[simp] theorem frame_periphReset (s : State) (k : Nat) : frame (periphReset s k) = frame s := by simp [periphReset]

@[simp] theorem opFrame_periphEnOp (who : Who) (x : U16) : OpFrame (periphEnOp who x) :=
  ⟨fun s => by simp [periphEnOp, frame_foldl], fun _ _ => rfl⟩

@[simp] theorem outFrame_execPeriphEnWrite (who : Who) (x : U16) (s : State) : OutFrame s (execPeriphEnWrite who x s) := by
  simp [execPeriphEnWrite]

@[simp] theorem frame_setSpit (s : State) (x : Spit) : frame (setSpit s x) = frame s := rfl
@[simp] theorem frame_spitCount (s : State) (off : Nat) (n : Nat) : frame (spitCount s off n) = frame s := rfl
@[simp] theorem frame_spitPartial (s : State) : frame (spitPartial s) = frame s := rfl
@[simp] theorem frame_spitEdge (s : State) : frame (spitEdge s) = frame s := rfl
@[simp] theorem frame_spitBad (s : State) : frame (spitBad s) = frame s := rfl
@[simp] theorem outFrame_execSpitCommand (w : U32) (s : State) : OutFrame s (execSpitCommand w s) := by simp [execSpitCommand]

@[simp] theorem frame_spitStore (s : State) (a : Nat) (ws : List U32) : frame (spitStore s a ws) = frame s := by
  induction ws generalizing s a with
  | nil => rfl
  | cons w ws ih => simp [spitStore, ih]

@[simp] theorem outFrame_execSpitCsRise (words : List U32) (inWord : Bool) (extraEdges : Bool) (s : State) :
    OutFrame s (execSpitCsRise words inWord extraEdges s) := by simp [execSpitCsRise]

@[simp] theorem outFrame_execSpiEdgeGap (s : State) : OutFrame s (execSpiEdgeGap s) := by simp [execSpiEdgeGap]
@[simp] theorem outFrame_execSpitSnapshot (s : State) : OutFrame s (execSpitSnapshot s) := by simp [execSpitSnapshot]

@[simp] theorem outFrame_execDdrTraining (trained : List Bool) (gib : Nat) (s : State) :
    OutFrame s (execDdrTraining trained gib s) := by
  unfold execDdrTraining
  dsimp only
  (repeat' split) <;> simp [frame_foldl]

@[simp] theorem outFrame_execZqCalibration (c : Fin 4) (s : State) : OutFrame s (execZqCalibration c s) := by
  exact (outFrame_next s s).mpr rfl

@[simp] theorem frame_carveHbm (s : State) : frame (carveHbm s) = frame s := by simp [carveHbm]
@[simp] theorem frame_trainStack (s : State) (k : Nat) (ok : Bool) : frame (trainStack s k ok) = frame s := by simp [trainStack]

@[simp] theorem outFrame_execHbmTraining (ok0 ok1 : Bool) (s : State) : OutFrame s (execHbmTraining ok0 ok1 s) := by
  simp [execHbmTraining]

@[simp] theorem outFrame_execPatrolScrub (k : Fin 2) (w : Nat) (ok : Bool) (s : State) : OutFrame s (execPatrolScrub k w ok s) := by
  unfold execPatrolScrub
  simp

@[simp] theorem frame_programLc (s : State) (k : Nat) : frame (programLc s k) = frame s := rfl

@[simp] theorem frame_drawKey (s : State) (kind : Nat) : frame (drawKey s kind).2 = frame s := by
  simp [drawKey]

@[simp] theorem frame_setSlots (s : State) (t : Tab KeySlot) : frame (setSlots s t) = frame s := rfl
@[simp] theorem frame_putKey (s : State) (i : Nat) (k : KeySlot) : frame (putKey s i k) = frame s := rfl
@[simp] theorem frame_failLostVolumes (s : State) : frame (failLostVolumes s) = frame s := by simp [failLostVolumes, frame_foldl]
@[simp] theorem frame_eraseKeys (s : State) : frame (eraseKeys s) = frame s := by simp [eraseKeys]

@[simp] theorem frame_startErasure (s : State) (after : AfterErase) : frame (startErasure s after) = frame s := by
  simp [startErasure]

@[simp] theorem frame_newKeyReg (s : State) : frame (newKeyReg s) = frame s := rfl
@[simp] theorem frame_eraseStore (s : State) : frame (eraseStore s) = frame s := rfl

@[simp] theorem frame_keystoreLost (s : State) (level errSeq : Nat) : frame (keystoreLost s level errSeq) = frame s := by
  simp [keystoreLost]

@[simp] theorem frame_vaultAct (k : ErrKind) (l : Nat) (r : ErrRec) (s : State) : frame (vaultAct k l r s) = frame s := by
  unfold vaultAct
  (repeat' split) <;> simp

@[simp] theorem frame_vaultError (s : State) (k : ErrKind) : frame (vaultError s k) = frame s := by
  unfold vaultError
  split <;> simp

@[simp] theorem frame_resetWith (s : State) (cause : Nat) : frame (resetWith s cause) = frame s := by
  simp [resetWith, bootCtl, frame]

@[simp] theorem frame_chipReset (s : State) (cause : Nat) : frame (chipReset s cause) = frame s := by simp [chipReset]
@[simp] theorem frame_loseAon (s : State) : frame (loseAon s) = frame s := rfl

@[simp] theorem frame_setSlotImage (s : State) (k : Nat) (bs : List Byte) : frame (setSlotImage s k bs) = frame s := rfl
@[simp] theorem frame_jAppend (s : State) (r : JRec) : frame (jAppend s r) = frame s := by simp [jAppend]
@[simp] theorem frame_setBoot (s : State) (b : Boot) : frame (setBoot s b) = frame s := rfl
@[simp] theorem frame_openStore (s : State) : frame (openStore s) = frame s := by simp [openStore]
@[simp] theorem frame_romStart (s : State) : frame (romStart s) = frame s := by simp [romStart]
@[simp] theorem frame_slotOutcome (s : State) (k : Nat) (st : Status) : frame (slotOutcome s k st) = frame s := rfl
@[simp] theorem frame_slotFailed (s : State) (k : Nat) (st : Status) : frame (slotFailed s k st) = frame s := rfl
@[simp] theorem frame_bootStops (s : State) : frame (bootStops s) = frame s := rfl

@[simp] theorem frame_digestExclude (s : State) : frame (digestExclude s) = frame s := by
  unfold digestExclude
  simp [frame_fields, frame_mk]

@[simp] theorem frame_provision (s : State) (b : List Byte) : frame (provision s b) = frame s := by simp [provision]
@[simp] theorem frame_powerStored (s : State) : frame (powerStored s) = frame s := by simp [powerStored, frame_foldl]
@[simp] theorem frame_releaseGlen (s : State) : frame (releaseGlen s) = frame s := by simp [releaseGlen]

@[simp] theorem frame_bootSlot (s : State) (k : Nat) : frame (bootSlot s k) = frame s := by
  unfold bootSlot
  dsimp only
  (repeat' split) <;> simp

@[simp] theorem frame_tryCands (ks : List Nat) (s : State) : frame (tryCands ks s) = frame s := by
  induction ks generalizing s with
  | nil =>
    unfold tryCands
    exact frame_bootStops s
  | cons k ks ih =>
    unfold tryCands
    dsimp only
    split
    · exact frame_bootSlot s k
    · rw [ih, frame_slotFailed, frame_setBoot]

@[simp] theorem frame_romReady (s : State) : frame (romReady s) = frame s := by simp [romReady]

@[simp] theorem outFrame_execRomBoot (s : State) : OutFrame s (execRomBoot s) := by simp [execRomBoot]

@[simp] theorem outFrame_execFlashReadTimeout (s : State) : OutFrame s (execFlashReadTimeout s) := by
  unfold execFlashReadTimeout
  dsimp only
  (repeat' split) <;> simp

@[simp] theorem frame_coldComponent (s : State) (v : Vale) (bs : List Byte) : frame (coldComponent s v bs) = frame s := by
  unfold coldComponent
  split <;> simp

@[simp] theorem outFrame_execSteppeRelease (s : State) : OutFrame s (execSteppeRelease s) := by
  unfold execSteppeRelease
  dsimp only
  (repeat' split) <;> simp [frame_foldl]

@[simp] theorem frame_startVale (s : State) (v : Vale) (i : Image) : frame (startVale s v i) = frame s := by simp [startVale]

@[simp] theorem outFrame_execColRelease (v : Vale) (s : State) : OutFrame s (execColRelease v s) := by
  unfold execColRelease
  split <;> simp

@[simp] theorem outFrame_execFlashRelease (s : State) : OutFrame s (execFlashRelease s) := by simp [execFlashRelease]
@[simp] theorem opFrame_imgInstallOp (who : Who) (r : Rec 16) : OpFrame (imgInstallOp who r) := ⟨fun _ => rfl, fun _ _ => rfl⟩

@[simp] theorem outFrame_execImgInstall (who : Who) (r : Rec 16) (s : State) : OutFrame s (execImgInstall who r s) := by
  simp [execImgInstall]

@[simp] theorem frame_installEnd (s : State) (st : Status) : frame (installEnd s st) = frame s := rfl
@[simp] theorem outFrame_execInstallCheckDone (s : State) : OutFrame s (execInstallCheckDone s) := by simp [execInstallCheckDone]

@[simp] theorem outFrame_execInstallWriteDone (ok : Bool) (s : State) : OutFrame s (execInstallWriteDone ok s) := by
  simp [execInstallWriteDone]

@[simp] theorem outFrame_execInstallVerifyDone (s : State) : OutFrame s (execInstallVerifyDone s) := by
  simp [execInstallVerifyDone]

@[simp] theorem opFrame_imgMarkOp (who : Who) (slot st : Nat) : OpFrame (imgMarkOp who slot st) :=
  ⟨fun s => by simp [imgMarkOp], fun _ _ => rfl⟩

@[simp] theorem outFrame_execImgMark (who : Who) (slot st : U8) (s : State) : OutFrame s (execImgMark who slot st s) := by
  simp [execImgMark]

@[simp] theorem opFrame_rollbackCommitOp (who : Who) (x : Nat) : OpFrame (rollbackCommitOp who x) :=
  ⟨fun _ => rfl, fun _ _ => rfl⟩

@[simp] theorem outFrame_execRollbackCommit (who : Who) (x : U8) (s : State) : OutFrame s (execRollbackCommit who x s) := by
  simp [execRollbackCommit]

@[simp] theorem outFrame_execRollbackFuseStep (s : State) : OutFrame s (execRollbackFuseStep s) := by simp [execRollbackFuseStep]
@[simp] theorem opFrame_imgKeyRevokeOp (who : Who) (x : Nat) : OpFrame (imgKeyRevokeOp who x) := ⟨fun _ => rfl, fun _ _ => rfl⟩

@[simp] theorem outFrame_execImgKeyRevoke (who : Who) (x : U8) (s : State) : OutFrame s (execImgKeyRevoke who x s) := by
  simp [execImgKeyRevoke]

@[simp] theorem outFrame_execGoldRequest (s : State) : OutFrame s (execGoldRequest s) := by simp [execGoldRequest]

@[simp] theorem opFrame_portModeOp (who : Who) (v : Vale) (m : U8) : OpFrame (portModeOp who v m) :=
  ⟨fun s => by simp [portModeOp], fun _ _ => rfl⟩

@[simp] theorem outFrame_execPortModeWrite (who : Who) (v : Vale) (m : U8) (s : State) :
    OutFrame s (execPortModeWrite who v m s) := by simp [execPortModeWrite]

@[simp] theorem frame_holdInMac (s : State) (v : Vale) (p : Packet) : frame (holdInMac s v p) = frame s := by simp [holdInMac]
@[simp] theorem frame_throttled (s : State) (v : Vale) : frame (throttled s v) = frame s := rfl

@[simp] theorem outFrame_execWireFrameStart (v : Vale) (k : Fin 8) (bytes : List Byte) (s : State) :
    OutFrame s (execWireFrameStart v k bytes s) := by simp [execWireFrameStart]

@[simp] theorem frame_macAccept (s : State) (a pn bytes : Nat) : frame (macAccept s a pn bytes) = frame s := rfl

@[simp] theorem frame_macAdmit (s : State) (v : Vale) (p : Packet) (bytes : List Byte) (valid : Bool) :
    frame (macAdmit s v p bytes valid) = frame s := by
  unfold macAdmit
  split <;> simp

@[simp] theorem frame_macTail (s : State) (v : Vale) (i : Nat) (rest : List Byte) (ok : Bool) :
    frame (macTail s v i rest ok) = frame s := by
  unfold macTail
  dsimp only
  (repeat' split) <;> simp

@[simp] theorem outFrame_execFrameTail (v : Vale) (pkt : Nat) (rest : List Byte) (ok : Bool) (s : State) :
    OutFrame s (execFrameTail v pkt rest ok s) := by simp [execFrameTail]

@[simp] theorem frame_injNext (s : State) (r : Nat) (x : SRing) : frame (injNext s r x) = frame s := by simp [injNext]

@[simp] theorem outFrame_execInjectionTake (q : Fin 64) (s : State) : OutFrame s (execInjectionTake q s) := by
  simp [execInjectionTake]

@[simp] theorem frame_nwCharge (s : State) (v : Vale) (left : Tab Nat) (n : Nat) : frame (nwCharge s v left n) = frame s := by
  simp [nwCharge]

theorem frame_nwStart {s : State} {v : Vale} {src : NwSource} {r : Nat × Nat × State} (h : nwStart s v src = some r) :
    frame r.2.2 = frame s := by
  revert h
  unfold nwStart
  dsimp only
  (repeat' split) <;> simp <;> rintro rfl <;> simp

@[simp] theorem outFrame_execIntakeGrant (v : Vale) (src : NwSource) (s : State) : OutFrame s (execIntakeGrant v src s) := by
  unfold execIntakeGrant
  simp only [outFrame_next]
  (repeat' split) <;> simp
  next h _ _ _ => simp [frame_nwStart h]

@[simp] theorem frame_valeTick (s : State) (v : Vale) : frame (valeTick s v) = frame s := by simp [valeTick]
@[simp] theorem frame_narrowsTick (s : State) (v : Vale) : frame (narrowsTick s v) = frame s := by simp [narrowsTick]
@[simp] theorem frame_hostTick (s : State) : frame (hostTick s) = frame s := rfl
@[simp] theorem frame_qeTick (s : State) : frame (qeTick s) = frame s := rfl
@[simp] theorem frame_glenTick (s : State) : frame (glenTick s) = frame s := rfl
@[simp] theorem frame_rtcTick (s : State) : frame (rtcTick s) = frame s := by simp [rtcTick]
@[simp] theorem outFrame_execTick (s : State) : OutFrame s (execTick s) := by simp [execTick]

end Sys2Proof.Machine

end

section
/-! The frame: functions and commands of the model's parts Clocks, ColArith, Epoch -/

namespace Sys2Proof.Machine

@[simp] theorem frame_clkEvent (s : State) (name : String) (resource : Nat) : frame (clkEvent s name resource) = frame s := rfl
@[simp] theorem frame_returnCells (s : State) (c : ClkSource) : frame (returnCells s c) = frame s := rfl
@[simp] theorem frame_freeCells20 (s : State) : frame (freeCells20 s) = frame s := by simp [freeCells20, frame_foldl]

@[simp] theorem frame_sourceReady (s : State) (c : ClkSource) : frame (sourceReady s c) = frame s := by
  unfold sourceReady
  split <;> simp

@[simp] theorem outFrame_execQualifyWindow (c : ClkSource) (pass : Bool) (s : State) :
    OutFrame s (execQualifyWindow c pass s) := by simp [execQualifyWindow]

@[simp] theorem outFrame_execQualifyLimit (c : ClkSource) (s : State) : OutFrame s (execQualifyLimit c s) := by
  simp [execQualifyLimit]

@[simp] theorem opFrame_clkRequalifyOp (who : Who) (x : Nat) : OpFrame (clkRequalifyOp who x) :=
  ⟨fun s => by simp [clkRequalifyOp], fun _ _ => rfl⟩

@[simp] theorem outFrame_execClkRequalify (who : Who) (x : U8) (s : State) : OutFrame s (execClkRequalify who x s) := by
  simp [execClkRequalify]

@[simp] theorem opFrame_clkSourceOp (who : Who) (d : Fin 45) (x : Nat) : OpFrame (clkSourceOp who d x) :=
  ⟨fun _ => rfl, fun _ _ => rfl⟩

@[simp] theorem outFrame_execClkSourceWrite (who : Who) (d : Fin 45) (x : U8) (s : State) :
    OutFrame s (execClkSourceWrite who d x s) := by simp [execClkSourceWrite]

@[simp] theorem frame_timeAct  (k : ErrKind) (l : Nat) (r : ErrRec) (s : State) :
    frame (timeAct  k l r s) = frame s := by
  unfold timeAct
  (repeat' split) <;> simp

@[simp] theorem frame_timeError (s : State) : frame (timeError s) = frame s := by simp [timeError]
@[simp] theorem frame_quadPortsDown (s : State) (q : Nat) : frame (quadPortsDown s q) = frame s := by simp [quadPortsDown]

@[simp] theorem frame_resetAllPorts (s : State) : frame (resetAllPorts s) = frame s := by
  unfold resetAllPorts
  refine frame_foldl (fun a p => ?_) _ _
  split <;> simp

@[simp] theorem frame_lossOfLock (s : State) (p : Pll) : frame (lossOfLock s p) = frame s := by
  unfold lossOfLock
  split <;> simp

@[simp] theorem outFrame_execPllLossOfLock (p : Pll) (s : State) : OutFrame s (execPllLossOfLock p s) := by
  simp [execPllLossOfLock]

@[simp] theorem outFrame_execPllRelock (p : Pll) (s : State) : OutFrame s (execPllRelock p s) := by simp [execPllRelock]

@[simp] theorem frame_pllAct (p : Pll) (k : ErrKind) (l : Nat) (r : ErrRec) (s : State) :
    frame (pllAct p k l r s) = frame s := by
  unfold pllAct
  split
  · simp
  · cases p <;> simp

@[simp] theorem outFrame_execPllRestart (p : Pll) (s : State) : OutFrame s (execPllRestart p s) := by simp [execPllRestart]

@[simp] theorem frame_clkFatal (s : State) (k : ErrKind) (resource : Nat) : frame (clkFatal s k resource) = frame s := by
  simp [clkFatal]

@[simp] theorem outFrame_execMemoryPllTimeout (p : Pll) (s : State) : OutFrame s (execMemoryPllTimeout p s) := by
  simp [execMemoryPllTimeout]

@[simp] theorem opFrame_steppeFreqOp (who : Who) (q : Fin 6) (x : Nat) : OpFrame (steppeFreqOp who q x) :=
  ⟨fun s => by simp [steppeFreqOp], fun _ _ => rfl⟩

@[simp] theorem outFrame_execSteppeFreqWrite (who : Who) (q : Fin 6) (x : U16) (s : State) :
    OutFrame s (execSteppeFreqWrite who q x s) := by simp [execSteppeFreqWrite]

@[simp] theorem outFrame_execClkMonTrip (c : ClkCell) (s : State) : OutFrame s (execClkMonTrip c s) := by
  unfold execClkMonTrip
  (repeat' split) <;> simp

@[simp] theorem outFrame_execDroopTrip (k : Fin 48) (s : State) : OutFrame s (execDroopTrip k s) := by simp [execDroopTrip]
@[simp] theorem outFrame_execDroopHold (k : Fin 48) (s : State) : OutFrame s (execDroopHold k s) := by simp [execDroopHold]
@[simp] theorem frame_updateLimit (s : State) : frame (updateLimit s) = frame s := by simp [updateLimit]

@[simp] theorem frame_powerAct (name : String) (k : ErrKind) (l : Nat) (r : ErrRec) (s : State) :
    frame (powerAct name k l r s) = frame s := by
  unfold powerAct
  (repeat' split) <;> simp

@[simp] theorem frame_powerErr (s : State) (name : String) : frame (powerErr s name) = frame s := by simp [powerErr]
@[simp] theorem outFrame_execAvsPoll (r : AvsReading) (s : State) : OutFrame s (execAvsPoll r s) := by simp [execAvsPoll]
@[simp] theorem frame_phaseLost (s : State) : frame (phaseLost s) = frame s := by simp [phaseLost]

@[simp] theorem outFrame_execPmbusPoll (n : Nat) (a b phaseFault : Bool) (s : State) :
    OutFrame s (execPmbusPoll n a b phaseFault s) := by
  unfold execPmbusPoll
  split <;> simp

@[simp] theorem outFrame_execVrAlert (s : State) : OutFrame s (execVrAlert s) := by simp [execVrAlert]

@[simp] theorem opFrame_powerCapClearOp (who : Who) (alertHigh : Bool) : OpFrame (powerCapClearOp who alertHigh) :=
  ⟨fun s => by simp [powerCapClearOp], fun _ _ => rfl⟩

@[simp] theorem outFrame_execPowerCapClear (who : Who) (alertHigh : Bool) (s : State) :
    OutFrame s (execPowerCapClear who alertHigh s) := by simp [execPowerCapClear]

@[simp] theorem frame_thermTrip (s : State) : frame (thermTrip s) = frame s := by simp [thermTrip]

@[simp] theorem outFrame_execThermalSample (t : Int) (s : State) : OutFrame s (execThermalSample t s) := by
  simp [execThermalSample]

@[simp] theorem outFrame_execThermtrip (s : State) : OutFrame s (execThermtrip s) := by simp [execThermtrip]

@[simp] theorem opFrame_powerDomainOp (who : Who) (d : Fin 45) (x : Nat) : OpFrame (powerDomainOp who d x) := by
  refine ⟨fun s => ?_, fun _ _ => rfl⟩
  unfold powerDomainOp
  dsimp only
  (repeat' split) <;> simp

@[simp] theorem outFrame_execPowerDomainWrite (who : Who) (d : Fin 45) (x : U8) (s : State) :
    OutFrame s (execPowerDomainWrite who d x s) := by simp [execPowerDomainWrite]

@[simp] theorem frame_domChanged (s : State) (d old new : Nat) : frame (domChanged s d old new) = frame s := by
  unfold domChanged
  split
  · simp [frame_foldl]
  · split
    · split
      · refine frame_foldl (fun a n => ?_) _ _
        split <;> simp
      · rfl
    · rfl

@[simp] theorem outFrame_execDomainChangeDone (d : Fin 45) (s : State) : OutFrame s (execDomainChangeDone d s) := by
  unfold execDomainChangeDone
  dsimp only
  (repeat' split) <;> simp

@[simp] theorem outFrame_execAdd (th : Thr) (a b c : BitVec 4) (s : State) : OutFrame s (execAdd th a b c s) := by simp [execAdd]
@[simp] theorem outFrame_execSub (th : Thr) (a b c : BitVec 4) (s : State) : OutFrame s (execSub th a b c s) := by simp [execSub]
@[simp] theorem outFrame_execAnd (th : Thr) (a b c : BitVec 4) (s : State) : OutFrame s (execAnd th a b c s) := by simp [execAnd]
@[simp] theorem outFrame_execOr (th : Thr) (a b c : BitVec 4) (s : State) : OutFrame s (execOr th a b c s) := by simp [execOr]
@[simp] theorem outFrame_execXor (th : Thr) (a b c : BitVec 4) (s : State) : OutFrame s (execXor th a b c s) := by simp [execXor]
@[simp] theorem outFrame_execShl (th : Thr) (a b c : BitVec 4) (s : State) : OutFrame s (execShl th a b c s) := by simp [execShl]
@[simp] theorem outFrame_execShr (th : Thr) (a b c : BitVec 4) (s : State) : OutFrame s (execShr th a b c s) := by simp [execShr]
@[simp] theorem outFrame_execSar (th : Thr) (a b c : BitVec 4) (s : State) : OutFrame s (execSar th a b c s) := by simp [execSar]

@[simp] theorem outFrame_execMinu (th : Thr) (a b c : BitVec 4) (s : State) : OutFrame s (execMinu th a b c s) := by
  simp [execMinu]

@[simp] theorem outFrame_execMaxu (th : Thr) (a b c : BitVec 4) (s : State) : OutFrame s (execMaxu th a b c s) := by
  simp [execMaxu]

@[simp] theorem outFrame_execCmp (th : Thr) (b c : BitVec 4) (s : State) : OutFrame s (execCmp th b c s) := by simp [execCmp]
@[simp] theorem outFrame_execTst (th : Thr) (b c : BitVec 4) (s : State) : OutFrame s (execTst th b c s) := by simp [execTst]
@[simp] theorem outFrame_execMul (th : Thr) (a b c : BitVec 4) (s : State) : OutFrame s (execMul th a b c s) := by simp [execMul]
@[simp] theorem outFrame_execMov (th : Thr) (a b : BitVec 4) (s : State) : OutFrame s (execMov th a b s) := by simp [execMov]
@[simp] theorem outFrame_execPack (th : Thr) (a b : BitVec 4) (s : State) : OutFrame s (execPack th a b s) := by simp [execPack]
@[simp] theorem outFrame_execUnpk (th : Thr) (a b : BitVec 4) (s : State) : OutFrame s (execUnpk th a b s) := by simp [execUnpk]
@[simp] theorem outFrame_execCrc (th : Thr) (a b c : BitVec 4) (s : State) : OutFrame s (execCrc th a b c s) := by simp [execCrc]

@[simp] theorem outFrame_execAddi (th : Thr) (a b : BitVec 4) (d : BitVec 18) (s : State) :
    OutFrame s (execAddi th a b d s) := by simp [execAddi]

@[simp] theorem outFrame_execAndi (th : Thr) (a b : BitVec 4) (d : BitVec 18) (s : State) :
    OutFrame s (execAndi th a b d s) := by simp [execAndi]

@[simp] theorem outFrame_execOri (th : Thr) (a b : BitVec 4) (d : BitVec 18) (s : State) : OutFrame s (execOri th a b d s) := by
  simp [execOri]

@[simp] theorem outFrame_execXori (th : Thr) (a b : BitVec 4) (d : BitVec 18) (s : State) :
    OutFrame s (execXori th a b d s) := by simp [execXori]

@[simp] theorem outFrame_execShli (th : Thr) (a b : BitVec 4) (d : BitVec 18) (s : State) :
    OutFrame s (execShli th a b d s) := by simp [execShli]

@[simp] theorem outFrame_execShri (th : Thr) (a b : BitVec 4) (d : BitVec 18) (s : State) :
    OutFrame s (execShri th a b d s) := by simp [execShri]

@[simp] theorem outFrame_execSari (th : Thr) (a b : BitVec 4) (d : BitVec 18) (s : State) :
    OutFrame s (execSari th a b d s) := by simp [execSari]

@[simp] theorem outFrame_execCmpi (th : Thr) (b : BitVec 4) (d : BitVec 18) (s : State) : OutFrame s (execCmpi th b d s) := by
  simp [execCmpi]

@[simp] theorem outFrame_execMvi (th : Thr) (a : BitVec 4) (d : BitVec 18) (s : State) : OutFrame s (execMvi th a d s) := by
  simp [execMvi]

@[simp] theorem outFrame_execLui (th : Thr) (a : BitVec 4) (d : BitVec 18) (s : State) : OutFrame s (execLui th a d s) := by
  simp [execLui]

@[simp] theorem outFrame_execExt (th : Thr) (a b : BitVec 4) (d : BitVec 18) (s : State) : OutFrame s (execExt th a b d s) := by
  simp [execExt]

@[simp] theorem outFrame_execIns (th : Thr) (a b : BitVec 4) (d : BitVec 18) (s : State) : OutFrame s (execIns th a b d s) := by
  simp [execIns]

@[simp] theorem outFrame_execTsti (th : Thr) (b : BitVec 4) (d : BitVec 18) (s : State) : OutFrame s (execTsti th b d s) := by
  simp [execTsti]

@[simp] theorem opFrame_stagedOp (who : Who) (x : Staged) (bytes : List Byte) : OpFrame (stagedOp who x bytes) :=
  ⟨fun _ => rfl, fun _ _ => rfl⟩

@[simp] theorem opFrame_noObjectOp (who : Who) : OpFrame (noObjectOp who) := ⟨fun _ => rfl, fun _ _ => rfl⟩

@[simp] theorem opFrame_stagedWriteOp (who : Who) (index sub : Nat) (bytes : List Byte) :
    OpFrame (stagedWriteOp who index sub bytes) := by
  unfold stagedWriteOp
  dsimp only
  (repeat' split) <;> simp

@[simp] theorem outFrame_execStagedWrite (who : Who) (index : U16) (sub : U8) (bytes : List Byte) (s : State) :
    OutFrame s (execStagedWrite who index sub bytes s) := by simp [execStagedWrite]

@[simp] theorem opFrame_epochCommitOp (who : Who) : OpFrame (epochCommitOp who) :=
  ⟨fun s => by simp [epochCommitOp], fun _ _ => rfl⟩

@[simp] theorem outFrame_execEpochCommit (who : Who) (s : State) : OutFrame s (execEpochCommit who s) := by simp [execEpochCommit]

@[simp] theorem frame_discardStaged (s : State) : frame (discardStaged s) = frame s := by
  simp [discardStaged, frame_fields, frame_mk]

@[simp] theorem opFrame_epochDiscardOp (who : Who) : OpFrame (epochDiscardOp who) :=
  ⟨fun s => by simp [epochDiscardOp], fun _ _ => rfl⟩

@[simp] theorem outFrame_execEpochDiscard (who : Who) (s : State) : OutFrame s (execEpochDiscard who s) := by
  simp [execEpochDiscard]

@[simp] theorem frame_switchSups (s : State) (v : Vale) : frame (switchSups s v) = frame s := by simp [switchSups]
@[simp] theorem frame_commitReady (s : State) : frame (commitReady s) = frame s := by simp [commitReady]
@[simp] theorem outFrame_execUnitReady (u : EpochUnit) (s : State) : OutFrame s (execUnitReady u s) := by simp [execUnitReady]

@[simp] theorem frame_dropEpoch (s : State) (v : Vale) (e : Nat) : frame (dropEpoch s v e).1 = frame s := by
  exact frame_foldl (fun a q => by simp) _ _

@[simp] theorem frame_dropEpochs (s : State) (e : Nat) : frame (dropEpochs s e).1 = frame s := by
  simp [dropEpochs, frame_fields, frame_mk]

@[simp] theorem outFrame_execCommitTimeout (s : State) : OutFrame s (execCommitTimeout s) := by simp [execCommitTimeout]

@[simp] theorem frame_exchangeProg (s : State) (v : Vale) : frame (exchangeProg s v) = frame s := by
  unfold exchangeProg
  split <;> simp

@[simp] theorem frame_rewriteBad (s : State) (v : Vale) : frame (rewriteBad s v) = frame s := by simp [rewriteBad]
@[simp] theorem frame_retireEnd (s : State) : frame (retireEnd s) = frame s := by simp [retireEnd]
@[simp] theorem outFrame_execRetireComplete (s : State) : OutFrame s (execRetireComplete s) := by simp [execRetireComplete]
@[simp] theorem outFrame_execRetireTimeout (s : State) : OutFrame s (execRetireTimeout s) := by simp [execRetireTimeout]

@[simp] theorem outFrame_execPortNodeSwitch (v : Vale) (n : Fin 15) (s : State) : OutFrame s (execPortNodeSwitch v n s) := by
  simp [execPortNodeSwitch]

end Sys2Proof.Machine

end

section
/-! The frame: functions and commands of the model's parts Vault, Ladder, ErrRows -/

namespace Sys2Proof.Machine

@[simp] theorem opFrame_lcAdvanceOp (who : Who) (r : Rec 132) : OpFrame (lcAdvanceOp who r) :=
  ⟨fun s => by simp [lcAdvanceOp], fun _ _ => rfl⟩

@[simp] theorem outFrame_execLcAdvance (who : Who) (r : Rec 132) (s : State) : OutFrame s (execLcAdvance who r s) := by
  simp [execLcAdvance]

@[simp] theorem outFrame_execErasureComplete (s : State) : OutFrame s (execErasureComplete s) := by
  unfold execErasureComplete
  (repeat' split) <;> simp

@[simp] theorem opFrame_keyGenerateOp (who : Who) (r : Rec 8) : OpFrame (keyGenerateOp who r) := ⟨fun _ => rfl, fun _ _ => rfl⟩

@[simp] theorem outFrame_execKeyGenerate (who : Who) (r : Rec 8) (s : State) : OutFrame s (execKeyGenerate who r s) := by
  simp [execKeyGenerate]

@[simp] theorem opFrame_keyImportOp (who : Who) (r : Rec 72) : OpFrame (keyImportOp who r) := ⟨fun _ => rfl, fun _ _ => rfl⟩

@[simp] theorem outFrame_execKeyImport (who : Who) (r : Rec 72) (s : State) : OutFrame s (execKeyImport who r s) := by
  simp [execKeyImport]

@[simp] theorem opFrame_keyImportTOp (who : Who) (ten : Handle) (r : Rec 68) : OpFrame (keyImportTOp who ten r) := by
  refine ⟨fun s => ?_, fun _ _ => rfl⟩
  unfold keyImportTOp
  dsimp only
  (repeat' split) <;> simp

@[simp] theorem outFrame_execKeyImportT (who : Who) (ten : Handle) (r : Rec 68) (s : State) :
    OutFrame s (execKeyImportT who ten r s) := by simp [execKeyImportT]

@[simp] theorem opFrame_keyDestroyOp (who : Who) (slot : Nat) : OpFrame (keyDestroyOp who slot) := by
  refine ⟨fun s => ?_, fun _ _ => rfl⟩
  unfold keyDestroyOp
  dsimp only
  (repeat' split) <;> simp

@[simp] theorem outFrame_execKeyDestroy (who : Who) (slot : U16) (s : State) : OutFrame s (execKeyDestroy who slot s) := by
  simp [execKeyDestroy]

@[simp] theorem outFrame_execSealedStoreWrite (s : State) : OutFrame s (execSealedStoreWrite s) := by simp [execSealedStoreWrite]
@[simp] theorem opFrame_debugChallengeOp (who : Who) : OpFrame (debugChallengeOp who) := ⟨fun _ => rfl, fun _ _ => rfl⟩

@[simp] theorem outFrame_execDebugChallenge (who : Who) (s : State) : OutFrame s (execDebugChallenge who s) := by
  simp [execDebugChallenge]

@[simp] theorem opFrame_debugUnlockOp (who : Who) (r : Rec 148) : OpFrame (debugUnlockOp who r) :=
  ⟨fun s => by simp [debugUnlockOp], fun _ _ => rfl⟩

@[simp] theorem outFrame_execDebugUnlock (who : Who) (r : Rec 148) (s : State) : OutFrame s (execDebugUnlock who r s) := by
  simp [execDebugUnlock]

@[simp] theorem frame_tamperEvent (s : State) (i : Nat) : frame (tamperEvent s i) = frame s := by simp [tamperEvent]

@[simp] theorem outFrame_execTamperSample (high0 high1 : Bool) (s : State) : OutFrame s (execTamperSample high0 high1 s) := by
  simp [execTamperSample]

@[simp] theorem opFrame_tamperLockOp (who : Who) (x : U8) : OpFrame (tamperLockOp who x) := ⟨fun _ => rfl, fun _ _ => rfl⟩

@[simp] theorem outFrame_execTamperLockWrite (who : Who) (x : U8) (s : State) : OutFrame s (execTamperLockWrite who x s) := by
  simp [execTamperLockWrite]

@[simp] theorem outFrame_execTrngFailed (s : State) : OutFrame s (execTrngFailed s) := by simp [execTrngFailed]

@[simp] theorem outFrame_execTrngStartupTestDone (s : State) : OutFrame s (execTrngStartupTestDone s) := by
  simp [execTrngStartupTestDone]

@[simp] theorem frame_hashRange (s : State) (alg addr len : Nat) : frame (hashRange s alg addr len).2 = frame s := by
  unfold hashRange
  split <;> simp

@[simp] theorem opFrame_vaultHashOp (who : Who) (alg addr len : Nat) : OpFrame (vaultHashOp who alg addr len) :=
  ⟨fun s => by simp [vaultHashOp], fun _ _ => rfl⟩

@[simp] theorem outFrame_execVaultHash (who : Who) (alg : U8) (addr : U64) (len : U32) (s : State) :
    OutFrame s (execVaultHash who alg addr len s) := by simp [execVaultHash]

@[simp] theorem opFrame_vaultSignOp (who : Who) (alg slot : Nat) (msg : List Byte) : OpFrame (vaultSignOp who alg slot msg) :=
  ⟨fun _ => rfl, fun _ _ => rfl⟩

@[simp] theorem outFrame_execVaultSign (who : Who) (alg : U8) (slot : U16) (msg : List Byte) (s : State) :
    OutFrame s (execVaultSign who alg slot msg s) := by simp [execVaultSign]

@[simp] theorem opFrame_vaultVerifyOp (who : Who) (alg : Nat) (ops : List Byte) : OpFrame (vaultVerifyOp who alg ops) :=
  ⟨fun _ => rfl, fun _ _ => rfl⟩

@[simp] theorem outFrame_execVaultVerify (who : Who) (alg : U8) (operands : List Byte) (s : State) :
    OutFrame s (execVaultVerify who alg operands s) := by simp [execVaultVerify]

@[simp] theorem opFrame_vaultEcdhOp (who : Who) (alg slot : Nat) (peer : List Byte) :
    OpFrame (vaultEcdhOp who alg slot peer) := ⟨fun _ => rfl, fun _ _ => rfl⟩

@[simp] theorem outFrame_execVaultEcdh (who : Who) (alg : U8) (slot : U16) (peer : List Byte) (s : State) :
    OutFrame s (execVaultEcdh who alg slot peer s) := by simp [execVaultEcdh]

@[simp] theorem opFrame_vaultRandomOp (who : Who) (len : Nat) : OpFrame (vaultRandomOp who len) := ⟨fun _ => rfl, fun _ _ => rfl⟩

@[simp] theorem outFrame_execVaultRandom (who : Who) (len : U32) (s : State) : OutFrame s (execVaultRandom who len s) := by
  simp [execVaultRandom]

@[simp] theorem opFrame_saWriteOp (who : Who) (a : Fin 16384) (r : Rec 64) : OpFrame (saWriteOp who a r) :=
  ⟨fun _ => rfl, fun _ _ => rfl⟩

@[simp] theorem outFrame_execSaWrite (who : Who) (a : Fin 16384) (r : Rec 64) (s : State) :
    OutFrame s (execSaWrite who a r s) := by simp [execSaWrite]

@[simp] theorem frame_setLadder (s : State) (x : Ladder) : frame (setLadder s x) = frame s := rfl
@[simp] theorem opFrame_ladderRequestOp (who : Who) (x : Nat) : OpFrame (ladderRequestOp who x) := ⟨fun _ => rfl, fun _ _ => rfl⟩

@[simp] theorem outFrame_execLadderRequest (who : Who) (x : U8) (s : State) : OutFrame s (execLadderRequest who x s) := by
  simp [execLadderRequest]

@[simp] theorem frame_hostL1 (s : State) (l1 : Bool) : frame (hostL1 s l1) = frame s := by simp [hostL1]
@[simp] theorem frame_deepSources (s : State) (st : Nat) : frame (deepSources s st) = frame s := rfl
@[simp] theorem frame_ladderEntered (s : State) (n : Nat) : frame (ladderEntered s n) = frame s := by simp [ladderEntered]

@[simp] theorem frame_startReverse (s : State) (n : Nat) (result : Status) : frame (startReverse s n result) = frame s := by
  simp [startReverse]

@[simp] theorem outFrame_execLadderStepDone (s : State) : OutFrame s (execLadderStepDone s) := by simp [execLadderStepDone]
@[simp] theorem outFrame_execLadderStepLimit (s : State) : OutFrame s (execLadderStepLimit s) := by simp [execLadderStepLimit]
@[simp] theorem frame_resumeTime (s : State) : frame (resumeTime s) = frame s := rfl

@[simp] theorem outFrame_execLadderReversalDone (s : State) : OutFrame s (execLadderReversalDone s) := by
  simp [execLadderReversalDone]

@[simp] theorem frame_recordWake (s : State) (code mask st step : Nat) (abandoned : Bool) :
    frame (recordWake s code mask st step abandoned) = frame s := rfl

@[simp] theorem frame_rtcElapsed (s : State) : frame (rtcElapsed s) = frame s := rfl

@[simp] theorem frame_wakeBy (s : State) (codes : List Nat) : frame (wakeBy s codes) = frame s := by
  unfold wakeBy
  dsimp only
  (repeat' split) <;> simp

@[simp] theorem outFrame_execWake (w : WakeCall) (s : State) : OutFrame s (execWake w s) := by simp [execWake]
@[simp] theorem outFrame_execRtcAlarm (s : State) : OutFrame s (execRtcAlarm s) := by simp [execRtcAlarm]
@[simp] theorem outFrame_execBoardPwrEnRaise (s : State) : OutFrame s (execBoardPwrEnRaise s) := by simp [execBoardPwrEnRaise]
@[simp] theorem outFrame_execPowerUp (s : State) : OutFrame s (execPowerUp s) := by simp [execPowerUp]
@[simp] theorem outFrame_execVaonLoss (s : State) : OutFrame s (execVaonLoss s) := by simp [execVaonLoss]

@[simp] theorem outFrame_execRstN (high : Bool) (straps : Straps) (s : State) : OutFrame s (execRstN high straps s) := by
  simp [execRstN]

@[simp] theorem frame_valeLost (s : State) (v : Vale) (r : ErrRec) : frame (valeLost s v r) = frame s := by simp [valeLost]

@[simp] theorem frame_blockReset (s : State) (v : Vale) (code : Nat) : frame (blockReset s v code) = frame s := by
  simp [blockReset, frame_foldl]

@[simp] theorem frame_setStopped (s : State) (v : Vale) (x : Bool) : frame (setStopped s v x) = frame s := by simp [setStopped]

@[simp] theorem frame_valeReset (s : State) (v : Vale) : frame (valeReset s v) = frame s := by
  unfold valeReset
  dsimp only
  split <;> simp [frame_foldl]

@[simp] theorem frame_markBad (s : State) (v : Vale) (k : Nat) : frame (markBad s v k) = frame s := by simp [markBad]

@[simp] theorem frame_stageReload (s : State) (v : Vale) (r : ErrRec) : frame (stageReload s v r) = frame s := by
  simp [stageReload]

@[simp] theorem frame_rowLost (s : State) (v : Vale) (i pos : Nat) (dbe : Bool) (hit : Option Nat) (r : ErrRec) :
    frame (rowLost s v i pos dbe hit r) = frame s := by
  unfold rowLost
  (repeat' split) <;> simp

@[simp] theorem frame_rowRemap (s : State) (v : Vale) (i pos : Nat) (dbe : Bool) (hit : Option Nat) (r : ErrRec) :
    frame (rowRemap s v i pos dbe hit r) = frame s := by
  unfold rowRemap
  split <;> simp

@[simp] theorem frame_bankReplace (s : State) (v : Vale) (m b : Nat) (r : ErrRec) : frame (bankReplace s v m b r) = frame s := by
  simp [bankReplace]

@[simp] theorem frame_engineReset (s : State) (v : Vale) (r : ErrRec) : frame (engineReset s v r) = frame s := by
  simp [engineReset, frame_foldl]

@[simp] theorem frame_tcamRebuild (s : State) (v : Vale) (r : ErrRec) : frame (tcamRebuild s v r) = frame s := by
  simp [tcamRebuild]

@[simp] theorem frame_tmRebuild (s : State) (v : Vale) (r : ErrRec) : frame (tmRebuild s v r) = frame s := by simp [tmRebuild]

@[simp] theorem frame_queueLost (s : State) (v : Vale) (q : Nat) (r : ErrRec) : frame (queueLost s v q r) = frame s := by
  simp [queueLost]

@[simp] theorem frame_shaperLost (s : State) (v : Vale) (i : Nat) (r : ErrRec) : frame (shaperLost s v i r) = frame s := by
  simp [shaperLost]

@[simp] theorem frame_floodLost (s : State) (v : Vale) (q : Nat) (r : ErrRec) : frame (floodLost s v q r) = frame s := by
  simp [floodLost]

@[simp] theorem frame_policerLost (s : State) (v : Vale) (p : Nat) (r : ErrRec) : frame (policerLost s v p r) = frame s := by
  simp [policerLost]

@[simp] theorem frame_gateLost (s : State) (v : Vale) (n : Nat) (r : ErrRec) : frame (gateLost s v n r) = frame s := by
  simp [gateLost]

@[simp] theorem frame_memberLost (s : State) (v : Vale) (g m : Nat) (r : ErrRec) : frame (memberLost s v g m r) = frame s := by
  simp [memberLost]

@[simp] theorem frame_cacheLineLost (s : State) (p : Nat) : frame (cacheLineLost s p) = frame s := rfl

@[simp] theorem frame_poisonedRequest (s : State) (r : Fin 64) (addr : U64) : frame (poisonedRequest s r addr) = frame s := by
  unfold poisonedRequest
  split <;> simp

@[simp] theorem frame_windowLost (s : State) (owner : Handle) (w : Nat) (r : ErrRec) :
    frame (windowLost s owner w r) = frame s := rfl

@[simp] theorem frame_hostWindowLost (s : State) (i : Nat) (r : ErrRec) : frame (hostWindowLost s i r) = frame s := rfl

@[simp] theorem frame_hostRegionReset (s : State) (r : ErrRec) : frame (hostRegionReset s r) = frame s := by
  simp [hostRegionReset]

@[simp] theorem frame_hostCorrected (s : State) (k : Nat) : frame (hostCorrected s k) = frame s := by simp [hostCorrected]

@[simp] theorem frame_cachedLost (s : State) (i : Nat) : frame (cachedLost s i) = frame s := by
  unfold cachedLost
  split <;> simp

@[simp] theorem frame_startedLost (s : State) (i pos : Nat) : frame (startedLost s i pos) = frame s := by
  unfold startedLost
  (repeat' split) <;> simp

@[simp] theorem frame_contextLost (s : State) (i : Nat) (r : ErrRec) : frame (contextLost s i r) = frame s := by
  unfold contextLost
  split <;> simp

@[simp] theorem frame_dplLost (s : State) (r : ErrRec) : frame (dplLost s r) = frame s := rfl
@[simp] theorem frame_poisonWords (s : State) (a n : Nat) : frame (poisonWords s a n) = frame s := rfl

@[simp] theorem frame_rowRepaired (s : State) (hbm : Bool) (a : Nat) (r : ErrRec) : frame (rowRepaired s hbm a r) = frame s := by
  simp [rowRepaired]

@[simp] theorem frame_extLost (v : Vale) (s : State) (ip : Nat × Partition) : frame (extLost v s ip) = frame s := by
  simp [extLost, frame_foldl]

@[simp] theorem frame_retireSet (s : State) (stack k : Nat) (r : ErrRec) : frame (retireSet s stack k r) = frame s := by
  simp [retireSet, frame_foldl]

@[simp] theorem frame_stopHarts (s : State) (hs : List Nat) : frame (stopHarts s hs) = frame s := by simp [stopHarts, frame_foldl]
@[simp] theorem frame_quadFaults (s : State) (q : Nat) (r : ErrRec) : frame (quadFaults s q r) = frame s := by simp [quadFaults]
@[simp] theorem frame_glenStops (s : State) : frame (glenStops s) = frame s := rfl
@[simp] theorem frame_glenBack (s : State) (r : ErrRec) : frame (glenBack s r) = frame s := rfl

@[simp] theorem frame_noClock (s : State) (d : Nat) : frame (noClock s d) = frame s := by
  unfold noClock
  split <;> simp

@[simp] theorem frame_regionReset (s : State) (reg : Nat) (r : ErrRec) : frame (regionReset s reg r) = frame s := by
  simp [regionReset]

@[simp] theorem frame_txInverted (s : State) (v : Vale) (i : Nat) : frame (txInverted s v i) = frame s := by simp [txInverted]
@[simp] theorem frame_haltBy (s : State) (f : Nat) (r : ErrRec) : frame (haltBy s f r) = frame s := by simp [haltBy]
@[simp] theorem frame_pageBad (s : State) (a : Nat) (r : ErrRec) : frame (pageBad s a r) = frame s := rfl
@[simp] theorem frame_memBlock (s : State) (a : Nat) (r : ErrRec) : frame (memBlock s a r) = frame s := by simp [memBlock]

@[simp] theorem frame_blockAct (k : ErrKind) (r : ErrRec) (s : State) : frame (blockAct k r s) = frame s := by
  cases k <;> dsimp only [blockAct] <;> (repeat' split) <;> simp

@[simp] theorem frame_regionAct (k : ErrKind) (r : ErrRec) (s : State) : frame (regionAct k r s) = frame s := by
  cases k <;> dsimp only [regionAct] <;> (repeat' split) <;> simp

@[simp] theorem frame_chipAct (k : ErrKind) (r : ErrRec) (s : State) : frame (chipAct k r s) = frame s := by
  unfold chipAct
  split <;> simp

end Sys2Proof.Machine

end

section
/-! The frame: functions and commands of the model's parts Errors, Regs, ObjRead, ObjWrite, Idien, Spdm -/

namespace Sys2Proof.Machine

theorem frame_corrected {s t : State} {k : ErrKind} (h : corrected s k = some t) : frame t = frame s := by
  revert h
  unfold corrected
  (repeat' split) <;> simp <;> rintro rfl <;> simp

@[simp] theorem frame_bankReplaced (s : State) (v : Vale) (k : Nat) : frame (bankReplaced s v k) = frame s := by
  simp [bankReplaced]

@[simp] theorem frame_finishAct (k : ErrKind) (l : Nat) (r : ErrRec) (s : State) : frame (finishAct k l r s) = frame s := by
  unfold finishAct
  (repeat' split) <;> simp

@[simp] theorem outFrame_execChipReset (who : Who) (x : U8) (s : State) : OutFrame s (execChipReset who x s) := by
  unfold execChipReset
  (repeat' split) <;> simp

@[simp] theorem outFrame_execFailstopResetDelay (s : State) : OutFrame s (execFailstopResetDelay s) := by
  simp [execFailstopResetDelay]

@[simp] theorem frame_setSess (s : State) (w : Who) (x : Session) : frame (setSess s w x) = frame s := by
  unfold setSess
  split <;> simp

@[simp] theorem opFrame_eventLogOp (who : Who) : OpFrame (eventLogOp who) := ⟨fun s => by simp [eventLogOp], fun _ _ => rfl⟩

@[simp] theorem outFrame_execEventLogRead (who : Who) (s : State) : OutFrame s (execEventLogRead who s) := by
  simp [execEventLogRead]

@[simp] theorem opFrame_errorLogOp (who : Who) : OpFrame (errorLogOp who) := by
  refine ⟨fun s => ?_, fun _ _ => rfl⟩
  unfold errorLogOp
  dsimp only
  (repeat' split) <;> simp

@[simp] theorem outFrame_execErrorLogRead (who : Who) (s : State) : OutFrame s (execErrorLogRead who s) := by
  simp [execErrorLogRead]

@[simp] theorem opFrame_laneTestOp (who : Who) (n : Nat) : OpFrame (laneTestOp who n) := by
  refine ⟨fun s => ?_, fun _ _ => rfl⟩
  simp [laneTestOp, frame_fields, frame_mk]

@[simp] theorem outFrame_execLaneTest (who : Who) (x : U8) (s : State) : OutFrame s (execLaneTest who x s) := by
  simp [execLaneTest]

@[simp] theorem outFrame_execLaneTestDone (pass : Bool) (s : State) : OutFrame s (execLaneTestDone pass s) := by
  unfold execLaneTestDone
  split <;> simp

@[simp] theorem opFrame_saddleTestOp (who : Who) (n : Nat) : OpFrame (saddleTestOp who n) := ⟨fun _ => rfl, fun _ _ => rfl⟩

@[simp] theorem outFrame_execSaddlePortTest (who : Who) (x : U8) (s : State) : OutFrame s (execSaddlePortTest who x s) := by
  simp [execSaddlePortTest]

@[simp] theorem outFrame_execSaddlePortTestDone (pass : Bool) (s : State) : OutFrame s (execSaddlePortTestDone pass s) := by
  unfold execSaddlePortTestDone
  split <;> simp

@[simp] theorem frame_telemRegister (s : State) (v : Vale) (off : Nat) (w : U32) : frame (telemRegister s v off w) = frame s := by
  unfold telemRegister execTelemRingEnable
  dsimp only
  (repeat' split) <;> simp

@[simp] theorem frame_mbRegister (s : State) (n : Nat) (side : MbSide) (off : Nat) (w : U32) :
    frame (mbRegister s n side off w) = frame s := by
  unfold mbRegister
  (repeat' split) <;> simp

@[simp] theorem frame_mbPendClear (s : State) (k : Nat) (w : U32) : frame (mbPendClear s k w) = frame s := rfl

@[simp] theorem frame_sringRegister (s : State) (r off : Nat) (w : U32) : frame (sringRegister s r off w) = frame s := by
  simp [sringRegister]

@[simp] theorem frame_hartPcWrite (s : State) (h : Nat) (hi : Bool) (w : U32) : frame (hartPcWrite s h hi w) = frame s := rfl
@[simp] theorem frame_mbIntrEnWrite (s : State) (w : U32) : frame (mbIntrEnWrite s w) = frame s := by simp [mbIntrEnWrite]

@[simp] theorem frame_regRead (s : State) (a : Nat) : frame (regRead s a).2 = frame s := by
  unfold regRead
  split <;> simp

@[simp] theorem frame_imsicWrite (s : State) (h : Fin 24) (file off : Nat) (w : U32) :
    frame (imsicWrite s h file off w) = frame s := by simp [imsicWrite]

theorem frame_outState {s : State} {o : Out} (h : OutFrame s o) : frame (outState s o) = frame s := by
  cases o with
  | next t => exact h t rfl
  | fault _ => rfl
  | refused _ => rfl

@[simp] theorem frame_regReadBytes (s : State) (a n : Nat) : frame (regReadBytes s a n).2 = frame s := by
  unfold regReadBytes
  exact foldl_keeps (fun r : List Byte × State => frame r.2) (fun r i => by simp) _ _

@[simp] theorem frame_answerBytes (s : State) (n : Nat) : frame (answerBytes s n).2 = frame s := by
  unfold answerBytes
  exact foldl_keeps (fun r : List Byte × State => frame r.2) (fun r i => by simp) _ _

@[simp] theorem opFrame_crossPeakOp (who : Who) (v : Vale) : OpFrame (crossPeakOp who v) :=
  ⟨fun s => by simp [crossPeakOp], fun _ _ => rfl⟩

@[simp] theorem outFrame_execCrossFifoPeakRead (who : Who) (v : Vale) (s : State) :
    OutFrame s (execCrossFifoPeakRead who v s) := by simp [execCrossFifoPeakRead]

@[simp] theorem opFrame_relPeakOp (who : Who) (v : Vale) : OpFrame (relPeakOp who v) :=
  ⟨fun s => by simp [relPeakOp], fun _ _ => rfl⟩

@[simp] theorem outFrame_execRelbufPeakRead (who : Who) (v : Vale) (s : State) : OutFrame s (execRelbufPeakRead who v s) := by
  simp [execRelbufPeakRead]

@[simp] theorem frame_pinValue (s : State) (o : ObjRef) (bs : List Byte) : frame (pinValue s o bs).2 = frame s := by
  unfold pinValue
  split <;> simp

theorem opFrame_of_readEffect {who : Who} {o : ObjRef} {op : DictOp} (h : readEffect who o = some op) : OpFrame op := by
  unfold readEffect at h
  dsimp only at h
  (repeat' split at h) <;> cases h <;> simp

@[simp] theorem opFrame_readOp (who : Who) (ten : Nat) (o : ObjRef) : OpFrame (readOp who ten o) := by
  unfold readOp
  dsimp only
  split
  · next h =>
    have hop := opFrame_of_readEffect h
    exact ⟨hop.effect, hop.onFail⟩
  · exact ⟨fun s => frame_pinValue s o _, fun _ _ => rfl⟩

@[simp] theorem opFrame_rangeOp : OpFrame rangeOp := ⟨fun _ => rfl, fun _ _ => rfl⟩

@[simp] theorem opFrame_rangeUnless (op : DictOp) : OpFrame (rangeUnless op) :=
  ⟨fun _ => rfl, fun _ _ => rfl⟩

@[simp] theorem opFrame_onlyOne (bs : List Byte) {op : DictOp} (h : OpFrame op) : OpFrame (onlyOne bs op) := by
  unfold onlyOne
  split
  · exact h
  · simp

@[simp] theorem frame_storeNum (o : ObjRef) (ten n : Nat) (s : State) : frame (storeNum o ten n s) = frame s := by simp [storeNum]

@[simp] theorem frame_storeOct (o : ObjRef) (ten : Nat) (bs : List Byte) (s : State) :
    frame (storeOct o ten bs s) = frame s := by simp [storeOct]

@[simp] theorem opFrame_valueOp (o : ObjRef) (ten n : Nat) (checks : State → List (Status × Bool)) {after : State → State}
    (hafter : ∀ s, frame (after s) = frame s) : OpFrame (valueOp o ten n checks after) :=
  ⟨fun s => (hafter _).trans (frame_storeNum o ten n s), fun _ _ => rfl⟩

@[simp] theorem opFrame_octetsOp (o : ObjRef) (ten : Nat) (lens : List Nat) (bs : List Byte) :
    OpFrame (octetsOp o ten lens bs) := ⟨fun s => by simp [octetsOp], fun _ _ => rfl⟩

@[simp] theorem opFrame_sessionOp (who : Who) (f : Session → Session) : OpFrame (sessionOp who f) :=
  ⟨fun s => frame_setSess s who _, fun _ _ => rfl⟩

@[simp] theorem frame_watchSet (v : Vale) (w : Nat) (s : State) : frame (watchSet v w s) = frame s := by simp [watchSet]
@[simp] theorem frame_loadHost (ten : Nat) (s : State) : frame (loadHost ten s) = frame s := by simp [loadHost]
@[simp] theorem frame_loadQe (ten : Nat) (s : State) : frame (loadQe ten s) = frame s := by simp [loadQe]

@[simp] theorem opFrame_tickOp (o : ObjRef) (ten n : Nat) (checks : State → List (Status × Bool)) {before : State → State}
    (hbefore : ∀ s, frame (before s) = frame s) : OpFrame (tickOp o ten n checks before) :=
  ⟨fun s => (frame_storeNum o ten n _).trans (hbefore s), fun _ _ => rfl⟩

@[simp] theorem opFrame_gatedOp (o : ObjRef) {op : DictOp} (h : OpFrame op) : OpFrame (gatedOp o op) := by
  refine ⟨fun s => ?_, h.onFail⟩
  unfold gatedOp
  dsimp only
  split
  · rfl
  · exact h.effect s

@[simp] theorem opFrame_chipResetOp : OpFrame chipResetOp := ⟨fun s => by simp [chipResetOp], fun _ _ => rfl⟩

@[simp] theorem opFrame_slotPowerAnyOp (who : Who) (q : Fin 4) (on : U8) : OpFrame (slotPowerAnyOp who q on) := by
  refine ⟨fun s => ?_, fun _ _ => rfl⟩
  exact ((opFrame_slotPowerOp who q on _).effect _).trans (frame_drawFree s 2)

@[simp] theorem opFrame_regionResetOp (who : Who) (h : Handle) : OpFrame (regionResetOp who h) :=
  ⟨fun s => by simp [regionResetOp], fun _ _ => rfl⟩

@[simp] theorem opFrame_vaultCmdOp (who : Who) (bs : List Byte) : OpFrame (vaultCmdOp who bs) := by
  unfold vaultCmdOp
  dsimp only
  (repeat' split) <;> simp

@[simp] theorem frame_setQueue (s : State) (q : GlenQueue) (l : List Req) : frame (setQueue s q l) = frame s := by
  unfold setQueue
  split <;> simp

@[simp] theorem frame_takeReq (s : State) (q : GlenQueue) : frame (takeReq s q) = frame s := by
  simp [takeReq, frame_fields, frame_mk]

@[simp] theorem frame_refuseBusy (s : State) (r : Req) : frame (refuseBusy s r) = frame s := by
  unfold refuseBusy
  split <;> simp

@[simp] theorem frame_enqueueReq (s : State) (r : Req) : frame (enqueueReq s r) = frame s := by
  unfold enqueueReq
  (repeat' split) <;> simp

@[simp] theorem outFrame_execRequestEnqueue (src : ReqSource) (m : IdienMsg) (s : State) :
    OutFrame s (execRequestEnqueue src m s) := by simp [execRequestEnqueue]

@[simp] theorem frame_answerOp {op : DictOp} (h : OpFrame op) (s : State) (r : Req) : frame (answerOp s r op) = frame s := by
  unfold answerOp
  dsimp only
  split <;> simp [h.effect, h.onFail]

theorem opFrame_of_readItem {s : State} {who : Who} {ten idx sub : Nat} {it : DictOp × Bool}
    (h : readItem s who ten idx sub = some it) : OpFrame it.1 := by
  unfold readItem at h
  split at h
  · obtain ⟨p, -, rfl⟩ := Option.map_eq_some_iff.mp h
    exact ⟨fun _ => rfl, fun _ _ => rfl⟩
  · obtain ⟨o, -, rfl⟩ := Option.map_eq_some_iff.mp h
    simp

theorem frame_takeValues {its : List (DictOp × Bool)} (h : ∀ it ∈ its, OpFrame it.1) (many : Bool) (s : State) :
    frame (takeValues many s its).1 = frame s := by
  induction its generalizing s with
  | nil => rfl
  | cons it its ih =>
    simp only [takeValues]
    rw [ih (fun x hx => h x (List.mem_cons_of_mem _ hx)), (h it List.mem_cons_self).effect]

@[simp] theorem opFrame_readMsgOp (s0 : State) (r : Req) : OpFrame (readMsgOp s0 r) := by
  refine ⟨fun s => ?_, fun _ _ => rfl⟩
  refine frame_takeValues (fun it hit => ?_) _ s
  obtain ⟨x, hx, rfl⟩ := List.mem_filterMap.mp hit
  obtain ⟨k, -, hk⟩ := List.mem_map.mp hx
  exact opFrame_of_readItem hk

@[simp] theorem opFrame_describeMsgOp (s0 : State) (r : Req) : OpFrame (describeMsgOp s0 r) := ⟨fun _ => rfl, fun _ _ => rfl⟩
@[simp] theorem opFrame_listMsgOp (s0 : State) (r : Req) : OpFrame (listMsgOp s0 r) := ⟨fun _ => rfl, fun _ _ => rfl⟩

@[simp] theorem opFrame_getVersionOp (r : Req) : OpFrame (getVersionOp r) := by
  refine ⟨fun s => ?_, fun _ _ => rfl⟩
  unfold getVersionOp
  dsimp only
  (repeat' split) <;> simp

@[simp] theorem frame_takenState (s : State) (q : GlenQueue) : frame (takenState s q) = frame s := by simp [takenState]

@[simp] theorem frame_serve (q : GlenQueue) (ops : Nat → Bool) {f : State → Req → State} (hf : ∀ s r, frame (f s r) = frame s)
    (s : State) : frame (serve q ops f s) = frame s := by
  unfold serve
  (repeat' split) <;> simp [hf]

@[simp] theorem outFrame_serveOrRefuse (q : GlenQueue) (ops : Nat → Bool) {f : State → Req → State}
    (hf : ∀ s r, frame (f s r) = frame s) (s : State) : OutFrame s (serveOrRefuse q ops f s) := by
  unfold serveOrRefuse
  split <;> simp [hf]

@[simp] theorem outFrame_execGetVersion (q : GlenQueue) (s : State) : OutFrame s (execGetVersion q s) := by
  unfold execGetVersion
  simp

@[simp] theorem opFrame_unknownOp (r : Req) : OpFrame (unknownOp r) := ⟨fun _ => rfl, fun _ _ => rfl⟩

@[simp] theorem outFrame_execRead (q : GlenQueue) (s : State) : OutFrame s (execRead q s) := by
  unfold execRead
  split <;> simp

@[simp] theorem outFrame_execDescribe (q : GlenQueue) (s : State) : OutFrame s (execDescribe q s) := by
  unfold execDescribe
  simp

@[simp] theorem outFrame_execList (q : GlenQueue) (s : State) : OutFrame s (execList q s) := by
  unfold execList
  simp

@[simp] theorem opFrame_timeoutOf {op : DictOp} (h : OpFrame op) : OpFrame (timeoutOf op) := ⟨h.effect, h.onFail⟩

@[simp] theorem outFrame_execPersistCommit (s : State) : OutFrame s (execPersistCommit s) := by
  unfold execPersistCommit
  split <;> simp

@[simp] theorem frame_setConn (s : State) (c : Nat) (x : Conn) : frame (setConn s c x) = frame s := rfl
@[simp] theorem frame_spdmRefuse (s : State) (c : Nat) (st : Status) : frame (spdmRefuse s c st) = frame s := by simp [spdmRefuse]

@[simp] theorem frame_spdmAnswer (s : State) (c : Nat) (code : Nat) (content : List Byte) (f : Conn → Conn) :
    frame (spdmAnswer s c code content f) = frame s := by simp [spdmAnswer]

@[simp] theorem frame_spdmStep {s : State} {f : State → State} (due : Bool) (c : Nat) (hf : ∀ t, frame (f t) = frame t) :
    frame (spdmStep s due c f) = frame s := by
  unfold spdmStep
  (repeat' split) <;> simp [hf]

@[simp] theorem outFrame_execSpdmGetVersion (conn : Nat) (s : State) : OutFrame s (execSpdmGetVersion conn s) := by
  simp [execSpdmGetVersion]

@[simp] theorem outFrame_execGetCapabilities (conn : Nat) (s : State) : OutFrame s (execGetCapabilities conn s) := by
  simp [execGetCapabilities]

@[simp] theorem outFrame_execNegotiateAlgorithms (conn : Nat) (p384 sha384 ecdhe gcm : Bool) (s : State) :
    OutFrame s (execNegotiateAlgorithms conn p384 sha384 ecdhe gcm s) := by simp [execNegotiateAlgorithms]

@[simp] theorem frame_spdmRandom {s : State} {f : State → State} (c : Nat) (hf : ∀ t, frame (f t) = frame t) :
    frame (spdmRandom s c f) = frame s := by
  unfold spdmRandom
  split <;> simp [hf]

@[simp] theorem outFrame_execGetDigests (conn : Nat) (s : State) : OutFrame s (execGetDigests conn s) := by simp [execGetDigests]

@[simp] theorem outFrame_execGetCertificate (conn : Nat) (slot : U8) (offset len : U16) (s : State) :
    OutFrame s (execGetCertificate conn slot offset len s) := by simp [execGetCertificate]

@[simp] theorem frame_spdmSigned (s : State) (slot : Nat) (asked content : List Byte) :
    frame (spdmSigned s slot asked content).2 = frame s := by
  simp [spdmSigned]

@[simp] theorem outFrame_execChallenge (conn : Nat) (slot : U8) (nonce : List Byte) (s : State) :
    OutFrame s (execChallenge conn slot nonce s) := by simp [execChallenge]

@[simp] theorem outFrame_execGetMeasurements (conn : Nat) (index : U8) (signed : Bool) (s : State) :
    OutFrame s (execGetMeasurements conn index signed s) := by
  unfold execGetMeasurements
  split <;> simp

@[simp] theorem frame_keyExchangeAct (s : State) (c : Nat) (t : Transport) (root : List Byte) (mutualAuth : Bool) :
    frame (keyExchangeAct s c t root mutualAuth) = frame s := by
  unfold keyExchangeAct
  split <;> simp

@[simp] theorem outFrame_execKeyExchange (conn : Nat) (t : Transport) (root : List Byte) (mutualAuth : Bool) (s : State) :
    OutFrame s (execKeyExchange conn t root mutualAuth s) := by simp [execKeyExchange]

@[simp] theorem frame_openSession (s : State) (c : Nat) (ok : Bool) : frame (openSession s c ok) = frame s := by
  unfold openSession
  split <;> simp

@[simp] theorem outFrame_execFinish (conn : Nat) (ok : Bool) (s : State) : OutFrame s (execFinish conn ok s) := by
  simp [execFinish]

@[simp] theorem frame_inSession {s : State} {f : Session → State} (sid : Nat) (hf : ∀ x, frame (f x) = frame s) :
    frame (inSession s sid f) = frame s := by
  unfold inSession
  (repeat' split) <;> simp [hf]

@[simp] theorem frame_setSpdm (s : State) (code : Nat) : frame (setSpdm s code) = frame s := by simp [setSpdm]
@[simp] theorem outFrame_execHeartbeat (sid : Nat) (s : State) : OutFrame s (execHeartbeat sid s) := by simp [execHeartbeat]
@[simp] theorem outFrame_execKeyUpdate (sid : Nat) (s : State) : OutFrame s (execKeyUpdate sid s) := by simp [execKeyUpdate]
@[simp] theorem frame_endOne (s : State) (sid : Nat) : frame (endOne s sid) = frame s := by simp [endOne]
@[simp] theorem outFrame_execEndSession (sid : Nat) (s : State) : OutFrame s (execEndSession sid s) := by simp [execEndSession]

@[simp] theorem outFrame_execSessionIdleTimeout (sid : Nat) (s : State) : OutFrame s (execSessionIdleTimeout sid s) := by
  simp [execSessionIdleTimeout]

@[simp] theorem outFrame_execMgmtDatagram (d : Datagram) (valid : Bool) (s : State) :
    OutFrame s (execMgmtDatagram d valid s) := by
  unfold execMgmtDatagram
  (repeat' split) <;> simp

@[simp] theorem outFrame_execSetEndpointId (eid : U8) (s : State) : OutFrame s (execSetEndpointId eid s) := by
  simp [execSetEndpointId]

@[simp] theorem outFrame_execGetVendorDefinedMessageSupport (s : State) : OutFrame s (execGetVendorDefinedMessageSupport s) := by
  simp [execGetVendorDefinedMessageSupport]

@[simp] theorem frame_setPf0 (s : State) (m : Pf0Mb) : frame (setPf0 s m) = frame s := rfl
@[simp] theorem frame_mbGoAct (s : State) : frame (mbGoAct s) = frame s := by simp [mbGoAct]
@[simp] theorem outFrame_execMbGo (s : State) : OutFrame s (execMbGo s) := by simp [execMbGo]

@[simp] theorem frame_mbDoneAct (s : State) : frame (mbDoneAct s) = frame s := by
  unfold mbDoneAct
  dsimp only
  (repeat' split) <;> simp

@[simp] theorem outFrame_execMbDoneClear (s : State) : OutFrame s (execMbDoneClear s) := by simp [execMbDoneClear]
@[simp] theorem frame_mbByteAct (s : State) (off : Nat) (b : Byte) : frame (mbByteAct s off b) = frame s := by simp [mbByteAct]

@[simp] theorem outFrame_execMbBufferWrite (off : Nat) (b : Byte) (s : State) : OutFrame s (execMbBufferWrite off b s) := by
  simp [execMbBufferWrite]

@[simp] theorem frame_mbMessage (s : State) (src : ReqSource) (bs : List Byte) : frame (mbMessage s src bs) = frame s := by
  simp [mbMessage]

@[simp] theorem frame_mbTakeAct (s : State) : frame (mbTakeAct s) = frame s := by
  unfold mbTakeAct
  dsimp only
  (repeat' split) <;> simp

@[simp] theorem outFrame_execMbRequestTaken (s : State) : OutFrame s (execMbRequestTaken s) := by simp [execMbRequestTaken]

end Sys2Proof.Machine

end

section
/-! What every step keeps: the commands that write memory -/

namespace Sys2Proof.Machine

theorem frame_eta (a : Frame) : (⟨a.pending, a.mem, a.hmem, a.carves⟩ : Frame) = a := rfl

/-- What every step keeps, said of frames: the waiting commands, the number of HBM stacks, the canonical form of both memories. -/
structure Keeps (a b : Frame) : Prop where
  pending : b.pending = a.pending
  carves : b.carves = a.carves
  mem : memWf 0 a.mem = true → memWf 0 b.mem = true
  hmem : memWf 0 a.hmem = true → memWf 0 b.hmem = true

@[simp] theorem Keeps.refl (a : Frame) : Keeps a a := ⟨rfl, rfl, id, id⟩

theorem Keeps.trans {a b c : Frame} (h : Keeps a b) (k : Keeps b c) : Keeps a c :=
  ⟨k.pending.trans h.pending, k.carves.trans h.carves, fun hm => k.mem (h.mem hm), fun hm => k.hmem (h.hmem hm)⟩

/-- Every next state of an answer keeps what a step keeps. -/
def OutKeeps (s : State) (o : Out) : Prop := ∀ t, o = .next t → Keeps (frame s) (frame t)

@[simp] theorem outKeeps_next (s t : State) : OutKeeps s (.next t) ↔ Keeps (frame s) (frame t) := by
  simp [OutKeeps]

@[simp] theorem outKeeps_refused (s : State) (r : Refusal) : OutKeeps s (.refused r) := by
  simp [OutKeeps]

theorem OutFrame.keeps {s : State} {o : Out} (h : OutFrame s o) : OutKeeps s o := by
  intro t ht
  rw [h t ht]
  exact .refl _

/-- A dictionary operation of which the effect and what a failure records keep what a step keeps. -/
structure OpKeeps (op : DictOp) : Prop where
  effect : ∀ s, Keeps (frame s) (frame (op.effect s).1)
  onFail : ∀ s st, Keeps (frame s) (frame (op.onFail s st))

theorem OpFrame.keeps {op : DictOp} (h : OpFrame op) : OpKeeps op :=
  ⟨fun s => by simp [h.effect], fun s st => by simp [h.onFail]⟩

variable {F : Frame} {s : State}

/-! ### The three writes of memory -/

@[simp] theorem keeps_writeInt (a : Nat) (bs : List Byte) (h : Keeps F (frame s)) : Keeps F (frame (writeInt s a bs)) :=
  h.trans ⟨rfl, rfl, fun hm => memWf_memWriteN hm a bs, id⟩

@[simp] theorem keeps_dplSet (bitmap n : Nat) (h : Keeps F (frame s)) : Keeps F (frame (dplSet s bitmap n)) :=
  h.trans ⟨rfl, rfl, fun hm => memWf_memWrite hm _ _, id⟩

@[simp] theorem keeps_hostMemory (a : Nat) (bs : List Byte) (h : Keeps F (frame s)) :
    Keeps F (frame { s with hmem := memWriteN s.hmem a bs }) :=
  h.trans ⟨rfl, rfl, id, fun hm => memWf_memWriteN hm a bs⟩

/-! ### The dirty-page log and requests toward the host -/

theorem keeps_foldl {α : Type} {f : State → α → State} (hf : ∀ s a, Keeps F (frame s) → Keeps F (frame (f s a))) (l : List α)
    {s : State} (h : Keeps F (frame s)) : Keeps F (frame (l.foldl f s)) := by
  induction l generalizing s with
  | nil => exact h
  | cons a l ih => exact ih (hf s a h)

@[simp] theorem keeps_dplPage (t addr : Nat) (h : Keeps F (frame s)) : Keeps F (frame (dplPage s t addr)) := by
  unfold dplPage
  dsimp only
  (repeat' split) <;> simp [h]

@[simp] theorem keeps_dplMark (t addr n : Nat) (h : Keeps F (frame s)) : Keeps F (frame (dplMark s t addr n)) := by
  unfold dplMark
  rw [frame_dplUncovered]
  exact keeps_foldl (fun a p ha => keeps_dplPage _ _ ha) _ h

@[simp] theorem keeps_grantReq (r : HReq) (h : Keeps F (frame s)) : Keeps F (frame (grantReq s r)) := by
  unfold grantReq
  split
  · simp [h]
  · dsimp only
    rw [frame_settleGate]
    apply keeps_hostMemory
    split <;> simp [h]

theorem outKeeps_execHostArbGrant (d : LinkDir) (s : State) : OutKeeps s (execHostArbGrant d s) := by
  unfold execHostArbGrant
  simp only [outKeeps_next]
  split
  · simp
  · split
    · simp
    · next h =>
      split
      · simp
      · simp [frame_arbPick h]

/-! ### Errors -/

@[simp] theorem keeps_arriveAt {act : ErrKind → Nat → ErrRec → State → State}
    (hact : ∀ k l r s, Keeps F (frame s) → Keeps F (frame (act k l r s))) (d : ErrDesc) (first fuel level flags parent : Nat)
    {s : State} (h : Keeps F (frame s)) : Keeps F (frame (arriveAt act d first fuel level flags parent s)) := by
  induction fuel generalizing level flags parent s with
  | zero => exact h
  | succ fuel ih =>
    unfold arriveAt
    dsimp only
    split
    · apply hact
      (repeat' split) <;> simp [h]
    · (repeat' split) <;> simp [h, hact, ih]

section
variable {act : ErrKind → Nat → ErrRec → State → State} (hact : ∀ k l r s, Keeps F (frame s) → Keeps F (frame (act k l r s)))
  (d : ErrDesc) (h : Keeps F (frame s))
include hact h

theorem keeps_arrive (level : Nat) : Keeps F (frame (arrive act d level s)) := keeps_arriveAt hact d _ _ _ _ _ h

theorem keeps_arriveRegion : Keeps F (frame (arriveRegion act d s)) := keeps_arriveAt hact d _ _ _ _ _ (by simp [h])

theorem keeps_ownedError : Keeps F (frame (ownedError act d s)) := by
  unfold ownedError
  split
  · apply hact
    simp [h]
  · exact keeps_arrive hact d h 2

end

@[simp] theorem keeps_dplWordLost (t k word : Nat) (r : ErrRec) (h : Keeps F (frame s)) :
    Keeps F (frame (dplWordLost s t k word r)) := by
  unfold dplWordLost
  (repeat' split) <;> simp [h]

@[simp] theorem keeps_cellAct (k : ErrKind) (r : ErrRec) (h : Keeps F (frame s)) : Keeps F (frame (cellAct k r s)) := by
  cases k <;> dsimp only [cellAct] <;> (repeat' split) <;> simp [h]

@[simp] theorem keeps_errAct (k : ErrKind) (l : Nat) (r : ErrRec) (s : State) (h : Keeps F (frame s)) :
    Keeps F (frame (errAct k l r s)) := by
  unfold errAct
  (repeat' split) <;> simp [h]

@[simp] theorem keeps_nextError (k l : Nat) (h : Keeps F (frame s)) : Keeps F (frame (nextError k l s)) := by
  unfold nextError
  dsimp only
  split <;> simp [h]

theorem outKeeps_execErrorActionComplete (x : HandlerId) (s : State) : OutKeeps s (execErrorActionComplete x s) := by
  unfold execErrorActionComplete
  simp only [outKeeps_next]
  (repeat' split) <;> simp

@[simp] theorem keeps_errorArrives (k : ErrKind) (h : Keeps F (frame s)) : Keeps F (frame (errorArrives s k)) := by
  have hact : ∀ k l r t, Keeps F (frame t) → Keeps F (frame (errAct k l r t)) := fun k l r t => keeps_errAct k l r t
  unfold errorArrives
  split
  · exact h
  · split
    · simp [h]
    · split
      · exact keeps_arrive hact _ h _
      · exact keeps_arriveRegion hact _ h
      · split
        · exact keeps_arrive hact _ h _
        · exact keeps_ownedError hact _ h

@[simp] theorem keeps_afterCorrected (k : ErrKind) (h : Keeps F (frame s)) : Keeps F (frame (afterCorrected k s)) := by
  unfold afterCorrected
  split
  · split
    · dsimp only
      (repeat' split) <;> simp [h]
    · exact h
  · exact h

theorem outKeeps_execErrorArrival (e : ErrArrival) (s : State) : OutKeeps s (execErrorArrival e s) := by
  unfold execErrorArrival
  simp only [outKeeps_next]
  split
  · simp
  · split
    · split <;> simp
    · split <;> simp
    · split
      · next h => split <;> simp [frame_corrected h]
      · simp

theorem outKeeps_execGlenWatchdog (s : State) : OutKeeps s (execGlenWatchdog s) := by
  unfold execGlenWatchdog
  simp only [outKeeps_next]
  split <;> simp

theorem outKeeps_execComponentLoad (kind : Fin 6) (s : State) : OutKeeps s (execComponentLoad kind s) := by
  unfold execComponentLoad
  simp only [outKeeps_next]
  (repeat' split) <;> simp

/-! ### NVMe data -/

theorem keeps_ioRow {c tag op : Nat} {run : NvCmd → Nat → State} (hrun : ∀ m r, Keeps (frame s) (frame (run m r))) :
    Keeps (frame s) (frame (ioRow s c tag op run)) := by
  unfold ioRow
  split
  · exact .refl _
  · split
    · exact .refl _
    · exact hrun _ _

@[simp] theorem keeps_bufferWrite (tag : Nat) (m : NvCmd) (r : Nat) (data : List Byte) (n : Nat) (h : Keeps F (frame s)) :
    Keeps F (frame (bufferWrite s tag m r data n)) := by
  unfold bufferWrite
  cases volKeyMat s r with
  | none => simp [h]
  | some _ =>
    cases allocBuf s (n * lbaSize r) with
    | none => exact h
    | some _ => simp [h]

theorem outKeeps_execWriteZeroes (c : Fin 256) (tag : Nat) (s : State) : OutKeeps s (execWriteZeroes c tag s) :=
  (outKeeps_next _ _).mpr (keeps_ioRow fun m r => by simp)

theorem outKeeps_execDatasetManagement (c : Fin 256) (tag : Nat) (prpOk : Bool) (s : State) :
    OutKeeps s (execDatasetManagement c tag prpOk s) := by
  refine (outKeeps_next _ _).mpr (keeps_ioRow fun m r => ?_)
  (repeat' split) <;> simp

theorem outKeeps_execNvmeWrite (c : Fin 256) (tag : Nat) (prpOk : Bool) (s : State) :
    OutKeeps s (execNvmeWrite c tag prpOk s) := by
  refine (outKeeps_next _ _).mpr (keeps_ioRow fun m r => ?_)
  unfold withRead
  (repeat' split) <;> simp
  next h => simp [frame_readTurn h]

@[simp] theorem keeps_postRing (tag : Nat) (m : NvCmd) (r digest : Nat) (l : List (Nat × Nat)) (h : Keeps F (frame s)) :
    Keeps F (frame (postRing tag m r digest s l)) := by
  induction l generalizing s with
  | nil => exact h
  | cons x l ih =>
    unfold postRing
    apply ih
    simp [frame_fields, frame_mk, frame_eta, h]

theorem outKeeps_execNvmeBackendStart (tag : Nat) (s : State) : OutKeeps s (execNvmeBackendStart tag s) := by
  unfold execNvmeBackendStart
  simp only [outKeeps_next]
  (repeat' split) <;> simp

theorem outKeeps_execBackendResponse (tag : Nat) (status : U16) (data : List Byte) (s : State) :
    OutKeeps s (execBackendResponse tag status data s) := by
  unfold execBackendResponse
  simp only [outKeeps_next]
  (repeat' split) <;> simp

/-! ### The queue engine, BAR2 and Saddle requests -/

theorem keeps_endDesc_getD {u : State} (i : Nat) (x : Started) (c : Cpl) (h : Keeps (frame s) (frame u)) :
    Keeps (frame s) (frame ((endDesc u i x c).getD s)) := by
  cases ht : endDesc u i x c with
  | none => exact .refl _
  | some t => simpa [frame_endDesc ht] using h

theorem outKeeps_execControlCopyDone (c : Fin 65536) (pos : U16) (s : State) : OutKeeps s (execControlCopyDone c pos s) := by
  unfold execControlCopyDone
  simp only [outKeeps_next]
  split
  · simp
  · split
    · simp
    · split
      · simp
      · (repeat' split) <;> exact keeps_endDesc_getD _ _ _ (by simp)

/-! ### Table command rings -/

/-- What an opcode of a table command ring does keeps what a step keeps. -/
def TcRunKeeps (run : TcRun) : Prop := ∀ s t c, run s = some (t, c) → Keeps (frame s) (frame t)

@[simp] theorem keeps_tcComplete (v : Vale) (r tag : Nat) (c : TcCpl) (h : Keeps F (frame s)) :
    Keeps F (frame (tcComplete s v r tag c)) := by
  unfold tcComplete
  dsimp only
  (repeat' split) <;> simp [h]

@[simp] theorem keeps_tcOne (v : Vale) (r : Nat) (c : TcCmd) {run : TcRun} (hrun : TcRunKeeps run) (h : Keeps F (frame s)) :
    Keeps F (frame (tcOne s v r c run)) := by
  unfold tcOne
  split
  · split
    · simp [h]
    · next hr => exact keeps_tcComplete _ _ _ _ (h.trans (hrun _ _ _ hr))
  · simp [h]

@[simp] theorem keeps_tcSkip (fuel : Nat) (v : Vale) (r : Nat) (h : Keeps F (frame s)) :
    Keeps F (frame (tcSkip fuel v r s)) := by
  have hskip : TcRunKeeps (fun a => some (a, {})) := by
    rintro s t c ⟨⟩
    exact .refl _
  induction fuel generalizing s with
  | zero => exact h
  | succ fuel ih =>
    unfold tcSkip
    split
    · next hf =>
      split
      · exact h
      · exact ih (keeps_tcOne v r _ hskip (by simpa [frame_tcFetch hf] using h))
    · exact h

theorem keeps_tcRow (v : Vale) (r op : Nat) {run : Bool → TcCmd → TcRun} (hrun : ∀ sp c, TcRunKeeps (run sp c)) (s : State) :
    Keeps (frame s) (frame (tcRow v r op run s)) := by
  unfold tcRow
  split
  · simp
  · simp
  · next hf =>
    split
    · exact keeps_tcSkip _ v r (keeps_tcOne v r _ (hrun _ _) (by simp [frame_tcFetch hf]))
    · simp

theorem tcRunKeeps_onEntry (v : Vale) (c : TcCmd) {f : Nat → Partition → Nat → Entry → State → State × TcCpl}
    (hf : ∀ i p q e s, frame (f i p q e s).1 = frame s) : TcRunKeeps (tcOnEntry v c f) := by
  intro s t x h
  unfold tcOnEntry at h
  split at h
  · cases h
    exact .refl _
  · split at h
    · cases h
      exact .refl _
    · have ht := congrArg Prod.fst (Option.some.inj h)
      rw [← show _ = t from ht, hf]
      exact .refl _

theorem tcRunKeeps_flush (v : Vale) (c : TcCmd) : TcRunKeeps (tcRunFlush v c) := by
  intro s t x h
  unfold tcRunFlush at h
  split at h <;> cases h
  · exact .refl _
  · simp [frame_foldl]

@[simp] theorem keeps_tcWriteMem (space : Bool) (a : Nat) (bs : List Byte) (h : Keeps F (frame s)) :
    Keeps F (frame (tcWriteMem s space a bs)) := by
  unfold tcWriteMem
  split <;> simp [h]

theorem tcRunKeeps_walk (v : Vale) (space : Bool) (c : TcCmd) : TcRunKeeps (tcRunWalk v space c) := by
  intro s t x h
  unfold tcRunWalk at h
  dsimp only at h
  (repeat' split at h) <;> cases h <;> simp

theorem Keeps.of_eq {a b : Frame} (h : b = a) : Keeps a b := h ▸ .refl _

theorem frame_of_tcResult {s t : State} {x : TcCpl} {r : State × TcCpl} (h : some r = some (t, x)) (hr : frame r.1 = frame s) :
    frame t = frame s := by
  cases h
  exact hr

/-- An insert: into an exact partition, or into another one, of which kind 3 reads its mask from the host or from memory. -/
theorem tcRunKeeps_insert (v : Vale) (space : Bool) (c : TcCmd) : TcRunKeeps (tcRunInsert v space c) := by
  intro s t x h
  unfold tcRunInsert at h
  refine .of_eq ?_
  split at h
  · exact frame_of_tcResult h rfl
  · split at h
    · exact frame_of_tcResult h (frame_tcInsertExact ..)
    · split at h
      · split at h
        · cases h
        · next hread =>
          split at h
          · exact frame_of_tcResult h (frame_tcReadMem hread)
          · exact frame_of_tcResult h ((frame_tcInsertOther ..).trans (frame_tcReadMem hread))
      · exact frame_of_tcResult h (frame_tcInsertOther ..)

theorem outKeeps_execTcDoorbell (v : Vale) (r : Fin 8) (x : RingWrite 12) (s : State) : OutKeeps s (execTcDoorbell v r x s) := by
  unfold execTcDoorbell
  simp only [outKeeps_next]
  split <;> simp

theorem outKeeps_execTcFlush (v : Vale) (r : Fin 8) (s : State) : OutKeeps s (execTcFlush v r s) :=
  (outKeeps_next _ _).mpr (keeps_tcRow v r 8 (fun _ c => tcRunKeeps_flush v c) s)

theorem outKeeps_execTcWalk (v : Vale) (r : Fin 8) (s : State) : OutKeeps s (execTcWalk v r s) :=
  (outKeeps_next _ _).mpr (keeps_tcRow v r 7 (fun sp c => tcRunKeeps_walk v sp c) s)

theorem outKeeps_execTcInsert (v : Vale) (r : Fin 8) (s : State) : OutKeeps s (execTcInsert v r s) :=
  (outKeeps_next _ _).mpr (keeps_tcRow v r 1 (fun sp c => tcRunKeeps_insert v sp c) s)

theorem tcRunKeeps_unlock (v : Vale) (c : TcCmd) : TcRunKeeps (tcRunUnlock v c) :=
  tcRunKeeps_onEntry v c fun i p q e s => by dsimp only; split <;> simp

theorem tcRunKeeps_update (v : Vale) (c : TcCmd) : TcRunKeeps (tcRunUpdate v c) :=
  tcRunKeeps_onEntry v c fun i p q e s => by split <;> simp

theorem tcRunKeeps_lock (v : Vale) (c : TcCmd) : TcRunKeeps (tcRunLock v c) :=
  tcRunKeeps_onEntry v c fun i p q e s => by dsimp only; (repeat' split) <;> simp

theorem tcRunKeeps_read (v : Vale) (c : TcCmd) : TcRunKeeps (tcRunRead v c) :=
  tcRunKeeps_onEntry v c fun i p q e s => rfl

theorem tcRunKeeps_delete (v : Vale) (c : TcCmd) : TcRunKeeps (tcRunDelete v c) :=
  tcRunKeeps_onEntry v c fun i p q e s => by split <;> simp

theorem outKeeps_execTcUnlock (v : Vale) (r : Fin 8) (s : State) : OutKeeps s (execTcUnlock v r s) :=
  (outKeeps_next _ _).mpr (keeps_tcRow v r 6 (fun _ c => tcRunKeeps_unlock v c) s)

theorem outKeeps_execTcUpdate (v : Vale) (r : Fin 8) (s : State) : OutKeeps s (execTcUpdate v r s) :=
  (outKeeps_next _ _).mpr (keeps_tcRow v r 5 (fun _ c => tcRunKeeps_update v c) s)

theorem outKeeps_execTcLock (v : Vale) (r : Fin 8) (s : State) : OutKeeps s (execTcLock v r s) :=
  (outKeeps_next _ _).mpr (keeps_tcRow v r 4 (fun _ c => tcRunKeeps_lock v c) s)

theorem outKeeps_execTcRead (v : Vale) (r : Fin 8) (s : State) : OutKeeps s (execTcRead v r s) :=
  (outKeeps_next _ _).mpr (keeps_tcRow v r 3 (fun _ c => tcRunKeeps_read v c) s)

theorem outKeeps_execTcDelete (v : Vale) (r : Fin 8) (s : State) : OutKeeps s (execTcDelete v r s) :=
  (outKeeps_next _ _).mpr (keeps_tcRow v r 2 (fun _ c => tcRunKeeps_delete v c) s)

/-! ### BAR2 and Saddle requests -/

theorem OutFrame.keeps_outState {s : State} {o : Out} (h : OutFrame s o) (hs : Keeps F (frame s)) :
    Keeps F (frame (outState s o)) := by
  rwa [frame_outState h]

@[simp] theorem keeps_regWrite (a : Nat) (w : U32) (h : Keeps F (frame s)) : Keeps F (frame (regWrite s a w)) := by
  unfold regWrite
  (repeat' split) <;> simp [h, frame_outState]

@[simp] theorem keeps_regBytes (a : Nat) (bs : List Byte) (h : Keeps F (frame s)) : Keeps F (frame (regBytes s a bs)) := by
  unfold regBytes
  refine keeps_foldl (fun t i ht => ?_) _ h
  (repeat' split) <;> simp [ht, frame_outState]

@[simp] theorem keeps_barInternal (a : Nat) (data : Option (List Byte)) (len : Nat) (h : Keeps F (frame s)) :
    Keeps F (frame (barInternal s a data len)) := by
  unfold barInternal
  (repeat' split) <;> simp [h]

theorem outKeeps_execBar2Request (f : Fin 1028) (off : Nat) (data : Option (List Byte)) (len : Nat) (s : State) :
    OutKeeps s (execBar2Request f off data len s) := by
  unfold execBar2Request
  simp only [outKeeps_next]
  (repeat' split) <;> simp

@[simp] theorem keeps_sgInternal (p addr : Nat) (q : SgReq) (h : Keeps F (frame s)) : Keeps F (frame (sgInternal s p addr q)) := by
  unfold sgInternal
  split <;> simp [h]

@[simp] theorem keeps_sgTranslate (p : Nat) (r : Fin 64) (n e : Nat) (q : SgReq) (h : Keeps F (frame s)) :
    Keeps F (frame (sgTranslate s p r n e q)) := by
  unfold sgTranslate
  dsimp only
  (repeat' split) <;> simp [h]

@[simp] theorem keeps_sgProceed (p : Nat) (r : Fin 64) (q : SgReq) (h : Keeps F (frame s)) :
    Keeps F (frame (sgProceed s p r q)) := by
  unfold sgProceed
  dsimp only
  (repeat' split) <;> simp [h]

theorem outKeeps_execGateQueueRelease (r : Fin 64) (s : State) : OutKeeps s (execGateQueueRelease r s) := by
  unfold execGateQueueRelease
  simp only [outKeeps_next]
  (repeat' split) <;> simp

theorem outKeeps_execPageEntryFetch (p : Fin 8) (s : State) : OutKeeps s (execPageEntryFetch p s) := by
  unfold execPageEntryFetch
  simp only [outKeeps_next]
  (repeat' split) <;> simp

@[simp] theorem keeps_ssdRequest (p : Nat) (q : SgReq) (h : Keeps F (frame s)) : Keeps F (frame (ssdRequest s p q)) := by
  unfold ssdRequest
  (repeat' split) <;> simp [h]

theorem outKeeps_execSaddleRequest (p : Fin 8) (q : SgReq) (s : State) : OutKeeps s (execSaddleRequest p q s) := by
  unfold execSaddleRequest
  simp only [outKeeps_next]
  (repeat' split) <;> simp

/-! ### Telemetry and egress -/

@[simp] theorem keeps_telemPush (v : Vale) (entry : List Byte) (h : Keeps F (frame s)) : Keeps F (frame (telemPush s v entry)) := by
  unfold telemPush
  dsimp only
  (repeat' split) <;> simp [h]

@[simp] theorem keeps_deliverSample (v : Vale) (e : List Byte) (h : Keeps F (frame s)) : Keeps F (frame (deliverSample s v e)) := by
  unfold deliverSample
  dsimp only
  (repeat' split) <;> simp [h]

theorem outKeeps_execTelemSample (v : Vale) (w : Fin 4096) (s : State) : OutKeeps s (execTelemSample v w s) := by
  unfold execTelemSample
  simp only [outKeeps_next]
  split <;> simp

@[simp] theorem keeps_sringPush (r : Nat) (entry : List Byte) (h : Keeps F (frame s)) : Keeps F (frame (sringPush s r entry)) := by
  unfold sringPush
  dsimp only
  split <;> simp [h]

@[simp] theorem keeps_emitSteppe (v : Vale) (r i : Nat) (p : Packet) (h : Keeps F (frame s)) :
    Keeps F (frame (emitSteppe s v r i p)) := by
  unfold emitSteppe
  have hprotect := frame_protect s p p.out
  split
  · next s1 heq =>
    rw [heq] at hprotect
    simp [hprotect, h]
  · next g s1 heq =>
    rw [heq] at hprotect
    dsimp only
    split <;> simp [hprotect, h]

@[simp] theorem keeps_telemTimestamp (v : Vale) (port : Nat) (p : Packet) (h : Keeps F (frame s)) :
    Keeps F (frame (telemTimestamp s v port p)) := by
  unfold telemTimestamp
  dsimp only
  split <;> simp [h]

@[simp] theorem keeps_ptpEgress (v : Vale) (n : Nat) (p : Packet) (f : List Byte) (h : Keeps F (frame s)) :
    Keeps F (frame (ptpEgress s v n p f).2) := by
  unfold ptpEgress
  dsimp only
  (repeat' split) <;> simp [h]

@[simp] theorem keeps_emitNetwork (v : Vale) (n i : Nat) (p : Packet) (h : Keeps F (frame s)) :
    Keeps F (frame (emitNetwork s v n i p)) := by
  unfold emitNetwork
  dsimp only
  split
  · simp [h]
  · have hprotect := frame_protect (ptpEgress s v n p (p.out ++ List.replicate (60 - p.out.length) 0)).2 p
      (ptpEgress s v n p (p.out ++ List.replicate (60 - p.out.length) 0)).1
    split
    · next s1 heq =>
      rw [heq] at hprotect
      simp [hprotect, h]
    · next g s1 heq =>
      rw [heq] at hprotect
      simp [hprotect, h]

@[simp] theorem keeps_egress (v : Vale) (n q i : Nat) (p : Packet) (h : Keeps F (frame s)) :
    Keeps F (frame (egress s v n q i p)) := by
  unfold egress
  (repeat' split) <;> simp [h] <;> (repeat' split) <;> simp [h]

theorem outKeeps_execDequeue (v : Vale) (n : Fin 15) (s : State) : OutKeeps s (execDequeue v n s) := by
  unfold execDequeue
  simp only [outKeeps_next]
  (repeat' split) <;> simp

theorem outKeeps_execPuntDeliver (v : Vale) (s : State) : OutKeeps s (execPuntDeliver v s) := by
  unfold execPuntDeliver
  simp only [outKeeps_next]
  (repeat' split) <;> simp

/-! ### Dictionary writes -/

theorem opKeeps_dplHarvestOp (who : Who) (h : Handle) (r : Rec 32) : OpKeeps (dplHarvestOp who h r) := by
  refine ⟨fun s => ?_, fun s _ => .refl _⟩
  unfold dplHarvestOp
  dsimp only
  split <;> simp

@[simp] theorem keeps_runOp {op : DictOp} (hop : OpKeeps op) (s : State) : Keeps (frame s) (frame (runOp op s)) := by
  unfold runOp
  (repeat' split) <;> simp [hop.effect, hop.onFail]

theorem keeps_runGated {op : DictOp} (hop : OpKeeps op) (ks : List Nat) (s : State) :
    Keeps (frame s) (frame (runGated op ks s)) := by
  unfold runGated
  split <;> simp [hop, hop.effect]

theorem keeps_answerOp {op : DictOp} (hop : OpKeeps op) (s : State) (r : Req) : Keeps (frame s) (frame (answerOp s r op)) := by
  unfold answerOp
  dsimp only
  split <;> simp [hop.effect, hop.onFail]

theorem outKeeps_execDplHarvest (who : Who) (ten : Handle) (r : Rec 32) (s : State) : OutKeeps s (execDplHarvest who ten r s) :=
  (outKeeps_next _ _).mpr (keeps_runOp (opKeeps_dplHarvestOp who ten r) s)

/-- Every operation that a selection by object can give satisfies `P`. -/
def Selects (P : DictOp → Prop) (o : Option DictOp) : Prop := ∀ op, o = some op → P op

@[simp] theorem selects_none (P : DictOp → Prop) : Selects P none := fun _ h => nomatch h

@[simp] theorem selects_some (P : DictOp → Prop) (op : DictOp) : Selects P (some op) ↔ P op := by
  simp [Selects]

@[simp] theorem selects_ite (P : DictOp → Prop) (c : Prop) [Decidable c] (a b : Option DictOp) :
    Selects P (if c then a else b) ↔ (c → Selects P a) ∧ (¬ c → Selects P b) := by
  split <;> simp [*]

@[simp] theorem opFrame_ite (c : Prop) [Decidable c] (a b : DictOp) :
    OpFrame (if c then a else b) ↔ (c → OpFrame a) ∧ (¬ c → OpFrame b) := by
  split <;> simp [*]

@[simp] theorem opKeeps_ite (c : Prop) [Decidable c] (a b : DictOp) :
    OpKeeps (if c then a else b) ↔ (c → OpKeeps a) ∧ (¬ c → OpKeeps b) := by
  split <;> simp [*]

theorem selects_commandHost (who : Who) (h : Handle) (o : ObjRef) (bs : List Byte) : Selects OpKeeps (commandHost who h o bs) := by
  simp [commandHost, OpFrame.keeps, opKeeps_dplHarvestOp]

theorem selects_commandVale (who : Who) (o : ObjRef) (bs : List Byte) : Selects OpFrame (commandVale who o bs) := by
  simp [commandVale]

/-- An operation chosen by the state is one whose every choice leaves the frame alone. -/
theorem opFrame_chosen {op : State → DictOp} (h : ∀ s, OpFrame (op s)) (status : State → Status) :
    OpFrame { status := status, effect := fun s => (op s).effect s } :=
  ⟨fun s => (h s).effect s, fun _ _ => rfl⟩

theorem selects_commandSystem (who : Who) (h : Handle) (o : ObjRef) (bs : List Byte) :
    Selects OpFrame (commandSystem who h o bs) := by
  simp [commandSystem, opFrame_chosen]

theorem selects_valueWriteLow (who : Who) (o : ObjRef) (ten : Nat) (bs : List Byte) :
    Selects OpFrame (valueWriteLow who o ten bs) := by
  simp [valueWriteLow]

theorem selects_valueWriteHigh (o : ObjRef) (ten : Nat) (bs : List Byte) : Selects OpFrame (valueWriteHigh o ten bs) := by
  simp [valueWriteHigh]

theorem opKeeps_writeBody (who : Who) (h : Handle) (o : ObjRef) (bs : List Byte) : OpKeeps (writeBody who h o bs) := by
  unfold writeBody
  dsimp only
  split
  · next hop => exact (selects_commandSystem _ _ _ _ _ hop).keeps
  · split
    · next hop => exact (selects_commandVale _ _ _ _ hop).keeps
    · split
      · next hop => exact selects_commandHost _ _ _ _ _ hop
      · split
        · next hop => exact (selects_valueWriteLow _ _ _ _ _ hop).keeps
        · split
          · next hop => exact (selects_valueWriteHigh _ _ _ _ hop).keeps
          · exact (opFrame_valueOp _ _ _ _ (fun _ => rfl)).keeps

theorem opKeeps_writeOp (who : Who) (h : Handle) (o : ObjRef) (bs : List Byte) : OpKeeps (writeOp who h o bs) := by
  have hbody := opKeeps_writeBody who h o bs
  unfold writeOp
  dsimp only
  split
  · exact ⟨fun s => .refl _, fun s _ => .refl _⟩
  · exact ⟨hbody.effect, hbody.onFail⟩

theorem opKeeps_dictWriteOp (who : Who) (h : Handle) (idx sub : Nat) (bs : List Byte) : OpKeeps (dictWriteOp who h idx sub bs) := by
  unfold dictWriteOp
  split
  · exact ⟨fun s => .refl _, fun s _ => .refl _⟩
  · have hop := opKeeps_writeOp who h
    exact ⟨(hop _ bs).effect, (hop _ bs).onFail⟩

theorem outKeeps_execRegisterWrite (t : RegTarget) (s : State) : OutKeeps s (execRegisterWrite t s) := by
  cases t <;> unfold execRegisterWrite
  case dict who h idx sub bs =>
    dsimp only
    (repeat' split) <;> simp [keeps_runGated, opKeeps_dictWriteOp]
  all_goals
    simp only [outKeeps_next]
    (repeat' split) <;> simp

theorem opKeeps_of_mem_writeOps {s : State} {r : Req} {op : DictOp} (h : op ∈ writeOps s r) : OpKeeps op := by
  unfold writeOps at h
  dsimp only at h
  have hmem : ∀ l : List DictOp, op ∈ (if r.msg.index.toNat = 0x2440 then l.reverse else l) → op ∈ l := by
    intro l hl
    split at hl
    · exact List.mem_reverse.mp hl
    · exact hl
  have h := hmem _ h
  split at h
  · obtain ⟨p, -, rfl⟩ := List.mem_map.mp h
    exact opKeeps_writeOp _ _ _ _
  · cases h

theorem keeps_runOps {ops : List DictOp} (hops : ∀ op ∈ ops, OpKeeps op) {s : State} {r : State × List Byte}
    (h : runOps s ops = .ok r) : Keeps (frame s) (frame r.1) := by
  induction ops generalizing s r with
  | nil =>
    cases h
    exact .refl _
  | cons op ops ih =>
    unfold runOps at h
    split at h
    · dsimp only at h
      split at h <;> cases h
      next rest hrest =>
        have hfirst := (hops op List.mem_cons_self).effect s
        exact hfirst.trans (ih (r := rest) (fun x hx => hops x (List.mem_cons_of_mem _ hx)) hrest)
    · cases h

theorem opKeeps_writeMsgOp (s0 : State) (r : Req) : OpKeeps (writeMsgOp s0 r) := by
  refine ⟨fun s => ?_, fun s st => ?_⟩ <;> unfold writeMsgOp <;> dsimp only
  · split
    · next h => exact keeps_runOps (fun op hop => opKeeps_of_mem_writeOps hop) h
    · exact .refl _
  · split
    · exact .refl _
    · split
      · next h => exact (opKeeps_of_mem_writeOps (List.mem_of_find?_eq_some h)).onFail s st
      · exact .refl _

theorem outKeeps_serveOrRefuse (q : GlenQueue) (ops : Nat → Bool) {f : State → Req → State}
    (hf : ∀ s r, Keeps (frame s) (frame (f s r))) (s : State) : OutKeeps s (serveOrRefuse q ops f s) := by
  unfold serveOrRefuse serve
  (repeat' split) <;> simp
  simpa using hf (takenState s q) _

theorem keeps_timeoutReq (s : State) (r : Req) : Keeps (frame s) (frame (timeoutReq s r)) := by
  refine keeps_answerOp ?_ s r
  split
  · exact ⟨(opKeeps_writeMsgOp s r).effect, (opKeeps_writeMsgOp s r).onFail⟩
  · exact (opFrame_timeoutOf (opFrame_readMsgOp s r)).keeps

theorem keeps_writeReq (s : State) (r : Req) : Keeps (frame s) (frame (writeReq s r)) := by
  unfold writeReq
  dsimp only
  (repeat' split) <;> simp [keeps_answerOp, opKeeps_writeMsgOp, (opKeeps_writeMsgOp s r).effect]

theorem outKeeps_execUnitAnswerTimeout (q : GlenQueue) (s : State) : OutKeeps s (execUnitAnswerTimeout q s) :=
  outKeeps_serveOrRefuse q _ keeps_timeoutReq s

theorem outKeeps_execWrite (q : GlenQueue) (s : State) : OutKeeps s (execWrite q s) :=
  outKeeps_serveOrRefuse q _ keeps_writeReq s

end Sys2Proof.Machine

end

section
/-! What every step keeps, over all commands -/

namespace Sys2Proof.Machine

/-- Every command keeps what a step keeps. -/
theorem outKeeps_exec (c : Instr) (s : State) : OutKeeps s (exec c s) := by
  cases c with
  | tenancyCreate who r => exact (outFrame_execTenancyCreate who r s).keeps
  | tenancyDestroy who h => exact (outFrame_execTenancyDestroy who h s).keeps
  | teardownIsolate n silent => exact (outFrame_execTeardownIsolate n silent s).keeps
  | teardownFlush n => exact (outFrame_execTeardownFlush n s).keeps
  | teardownPurge n => exact (outFrame_execTeardownPurge n s).keeps
  | teardownRelease n => exact (outFrame_execTeardownRelease n s).keeps
  | tenReset who h v => exact (outFrame_execTenReset who h v s).keeps
  | tenResetComplete n => exact (outFrame_execTenResetComplete n s).keeps
  | tenQuotaWrite who h kind v => exact (outFrame_execTenQuotaWrite who h kind v s).keeps
  | tenShareWrite who h v x => exact (outFrame_execTenShareWrite who h v x s).keeps
  | stagedWrite who index sub bytes => exact (outFrame_execStagedWrite who index sub bytes s).keeps
  | epochCommit who => exact (outFrame_execEpochCommit who s).keeps
  | epochDiscard who => exact (outFrame_execEpochDiscard who s).keeps
  | unitReady u => exact (outFrame_execUnitReady u s).keeps
  | commitTimeout => exact (outFrame_execCommitTimeout s).keeps
  | retireComplete => exact (outFrame_execRetireComplete s).keeps
  | retireTimeout => exact (outFrame_execRetireTimeout s).keeps
  | portNodeSwitch v n => exact (outFrame_execPortNodeSwitch v n s).keeps
  | requestEnqueue src m => exact (outFrame_execRequestEnqueue src m s).keeps
  | getVersion q => exact (outFrame_execGetVersion q s).keeps
  | read q => exact (outFrame_execRead q s).keeps
  | write q => exact outKeeps_execWrite q s
  | describe q => exact (outFrame_execDescribe q s).keeps
  | list q => exact (outFrame_execList q s).keeps
  | unitAnswerTimeout q => exact outKeeps_execUnitAnswerTimeout q s
  | persistCommit => exact (outFrame_execPersistCommit s).keeps
  | spdmGetVersion conn => exact (outFrame_execSpdmGetVersion conn s).keeps
  | getCapabilities conn => exact (outFrame_execGetCapabilities conn s).keeps
  | negotiateAlgorithms conn p384 sha384 ecdhe gcm => exact (outFrame_execNegotiateAlgorithms conn p384 sha384 ecdhe gcm s).keeps
  | getDigests conn => exact (outFrame_execGetDigests conn s).keeps
  | getCertificate conn slot offset len => exact (outFrame_execGetCertificate conn slot offset len s).keeps
  | challenge conn slot nonce => exact (outFrame_execChallenge conn slot nonce s).keeps
  | getMeasurements conn index signed => exact (outFrame_execGetMeasurements conn index signed s).keeps
  | keyExchange conn t root mutualAuth => exact (outFrame_execKeyExchange conn t root mutualAuth s).keeps
  | finish conn ok => exact (outFrame_execFinish conn ok s).keeps
  | heartbeat sid => exact (outFrame_execHeartbeat sid s).keeps
  | keyUpdate sid => exact (outFrame_execKeyUpdate sid s).keeps
  | endSession sid => exact (outFrame_execEndSession sid s).keeps
  | sessionIdleTimeout sid => exact (outFrame_execSessionIdleTimeout sid s).keeps
  | mgmtDatagram d valid => exact (outFrame_execMgmtDatagram d valid s).keeps
  | setEndpointId eid => exact (outFrame_execSetEndpointId eid s).keeps
  | getVendorDefinedMessageSupport => exact (outFrame_execGetVendorDefinedMessageSupport s).keeps
  | mbGo => exact (outFrame_execMbGo s).keeps
  | mbRequestTaken => exact (outFrame_execMbRequestTaken s).keeps
  | mbBufferWrite off b => exact (outFrame_execMbBufferWrite off b s).keeps
  | mbDoneClear => exact (outFrame_execMbDoneClear s).keeps
  | portModeWrite who v m => exact (outFrame_execPortModeWrite who v m s).keeps
  | linkUp v k => exact (outFrame_execLinkUp v k s).keeps
  | linkDown v k => exact (outFrame_execLinkDown v k s).keeps
  | wireFrameStart v k bytes => exact (outFrame_execWireFrameStart v k bytes s).keeps
  | intakeGrant v src => exact (outFrame_execIntakeGrant v src s).keeps
  | frameTail v pkt rest ok => exact (outFrame_execFrameTail v pkt rest ok s).keeps
  | tailTimeout v pkt => exact (outFrame_execTailTimeout v pkt s).keeps
  | distribute v p => exact (outFrame_execDistribute v p s).keeps
  | headerBytesArrive v pkt bytes => exact (outFrame_execHeaderBytesArrive v pkt bytes s).keeps
  | hdrWaitLimit th => exact (outFrame_execHdrWaitLimit th s).keeps
  | tableResultReturn th => exact (outFrame_execTableResultReturn th s).keeps
  | tblWaitLimit th => exact (outFrame_execTblWaitLimit th s).keeps
  | watchdog v pkt => exact (outFrame_execWatchdog v pkt s).keeps
  | storeDrain th => exact (outFrame_execStoreDrain th s).keeps
  | releaseBufferEntry th => exact (outFrame_execReleaseBufferEntry th s).keeps
  | narrowsForward v => exact (outFrame_execNarrowsForward v s).keeps
  | add th a b c => exact (outFrame_execAdd th a b c s).keeps
  | sub th a b c => exact (outFrame_execSub th a b c s).keeps
  | and_ th a b c => exact (outFrame_execAnd th a b c s).keeps
  | or_ th a b c => exact (outFrame_execOr th a b c s).keeps
  | xor th a b c => exact (outFrame_execXor th a b c s).keeps
  | shl th a b c => exact (outFrame_execShl th a b c s).keeps
  | shr th a b c => exact (outFrame_execShr th a b c s).keeps
  | sar th a b c => exact (outFrame_execSar th a b c s).keeps
  | minu th a b c => exact (outFrame_execMinu th a b c s).keeps
  | maxu th a b c => exact (outFrame_execMaxu th a b c s).keeps
  | cmp th b c => exact (outFrame_execCmp th b c s).keeps
  | tst th b c => exact (outFrame_execTst th b c s).keeps
  | mul th a b c => exact (outFrame_execMul th a b c s).keeps
  | mov th a b => exact (outFrame_execMov th a b s).keeps
  | pack th a b => exact (outFrame_execPack th a b s).keeps
  | unpk th a b => exact (outFrame_execUnpk th a b s).keeps
  | crc th a b c => exact (outFrame_execCrc th a b c s).keeps
  | addi th a b d => exact (outFrame_execAddi th a b d s).keeps
  | andi th a b d => exact (outFrame_execAndi th a b d s).keeps
  | ori th a b d => exact (outFrame_execOri th a b d s).keeps
  | xori th a b d => exact (outFrame_execXori th a b d s).keeps
  | shli th a b d => exact (outFrame_execShli th a b d s).keeps
  | shri th a b d => exact (outFrame_execShri th a b d s).keeps
  | sari th a b d => exact (outFrame_execSari th a b d s).keeps
  | cmpi th b d => exact (outFrame_execCmpi th b d s).keeps
  | mvi th a d => exact (outFrame_execMvi th a d s).keeps
  | lui th a d => exact (outFrame_execLui th a d s).keeps
  | ext th a b d => exact (outFrame_execExt th a b d s).keeps
  | ins th a b d => exact (outFrame_execIns th a b d s).keeps
  | tsti th b d => exact (outFrame_execTsti th b d s).keeps
  | ldh th a b c d => exact (outFrame_execLdh th a b c d s).keeps
  | prb th a b c d => exact (outFrame_execPrb th a b c d s).keeps
  | ldr th a b d => exact (outFrame_execLdr th a b d s).keeps
  | str th a b d => exact (outFrame_execStr th a b d s).keeps
  | rbs th d => exact (outFrame_execRbs th d s).keeps
  | rbc th d => exact (outFrame_execRbc th d s).keeps
  | ldd th a b c d => exact (outFrame_execLdd th a b c d s).keeps
  | std th a b c d => exact (outFrame_execStd th a b c d s).keeps
  | xadd th a b c d => exact (outFrame_execXadd th a b c d s).keeps
  | fence th => exact (outFrame_execFence th s).keeps
  | br th a d => exact (outFrame_execBr th a d s).keeps
  | cbeq th b c d => exact (outFrame_execCbeq th b c d s).keeps
  | cbne th b c d => exact (outFrame_execCbne th b c d s).keeps
  | call th a d => exact (outFrame_execCall th a d s).keeps
  | jr th b => exact (outFrame_execJr th b s).keeps
  | jtab th b c d => exact (outFrame_execJtab th b c d s).keeps
  | nop th => exact (outFrame_execNop th s).keeps
  | fork th a b c d => exact (outFrame_execFork th a b c d s).keeps
  | join th => exact (outFrame_execJoin th s).keeps
  | release th d => exact (outFrame_execRelease th d s).keeps
  | end_ th => exact (outFrame_execEnd th s).keeps
  | tlk th a b c d => exact (outFrame_execTlk th a b c d s).keeps
  | mfc th a d => exact (outFrame_execMfc th a d s).keeps
  | mtc th b d => exact (outFrame_execMtc th b d s).keeps
  | wait th => exact (outFrame_execWait th s).keeps
  | npop th a => exact (outFrame_execNpop th a s).keeps
  | ldim th a b d => exact (outFrame_execLdim th a b d s).keeps
  | stim th a b d => exact (outFrame_execStim th a b d s).keeps
  | synci th => exact (outFrame_execSynci th s).keeps
  | illegal th w => exact (outFrame_execIllegal th w s).keeps
  | timerExpiry v core n => exact (outFrame_execTimerExpiry v core n s).keeps
  | edgeDetect v core n rising => exact (outFrame_execEdgeDetect v core n rising s).keeps
  | handlerStart v core => exact (outFrame_execHandlerStart v core s).keeps
  | supervisorHandlerLimit v core => exact (outFrame_execSupervisorHandlerLimit v core s).keeps
  | colTest who v n => exact (outFrame_execColTest who v n s).keeps
  | colTestDrained v => exact (outFrame_execColTestDrained v s).keeps
  | colTestDrainTimeout v => exact (outFrame_execColTestDrainTimeout v s).keeps
  | colTestDone v pass => exact (outFrame_execColTestDone v pass s).keeps
  | substitutionComplete v core => exact (outFrame_execSubstitutionComplete v core s).keeps
  | condQueueWrite who v n r => exact (outFrame_execCondQueueWrite who v n r s).keeps
  | colProgram who v r => exact (outFrame_execColProgram who v r s).keeps
  | colProgLoaded v => exact (outFrame_execColProgLoaded v s).keeps
  | stageExecute v k => exact (outFrame_execStageExecute v k s).keeps
  | extLookupReturn v k => exact (outFrame_execExtLookupReturn v k s).keeps
  | stageLookupTimeout v k => exact (outFrame_execStageLookupTimeout v k s).keeps
  | puntDeliver v => exact outKeeps_execPuntDeliver v s
  | stageDefWrite who v k r => exact (outFrame_execStageDefWrite who v k r s).keeps
  | partMapWrite who v k n h => exact (outFrame_execPartMapWrite who v k n h s).keeps
  | partitionCreate who v r => exact (outFrame_execPartitionCreate who v r s).keeps
  | partitionDestroy who v h => exact (outFrame_execPartitionDestroy who v h s).keeps
  | tcRingEnable v r w => exact (outFrame_execTcRingEnable v r w s).keeps
  | tcDoorbell v r x => exact outKeeps_execTcDoorbell v r x s
  | tcInsert v r => exact outKeeps_execTcInsert v r s
  | tcDelete v r => exact outKeeps_execTcDelete v r s
  | tcRead v r => exact outKeeps_execTcRead v r s
  | tcLock v r => exact outKeeps_execTcLock v r s
  | tcUpdate v r => exact outKeeps_execTcUpdate v r s
  | tcUnlock v r => exact outKeeps_execTcUnlock v r s
  | tcWalk v r => exact outKeeps_execTcWalk v r s
  | tcFlush v r => exact outKeeps_execTcFlush v r s
  | tableLockExpired v l => exact (outFrame_execTableLockExpired v l s).keeps
  | learnInsert v => exact (outFrame_execLearnInsert v s).keeps
  | learnLogRead who v => exact (outFrame_execLearnLogRead who v s).keeps
  | ageTick v => exact (outFrame_execAgeTick v s).keeps
  | agerVisit v p pos => exact (outFrame_execAgerVisit v p pos s).keeps
  | tcamScrub v p pos differs => exact (outFrame_execTcamScrub v p pos differs s).keeps
  | tableBankTest who v x => exact (outFrame_execTableBankTest who v x s).keeps
  | tableMigrationDone v => exact (outFrame_execTableMigrationDone v s).keeps
  | tableTestDone v pass => exact (outFrame_execTableTestDone v pass s).keeps
  | queueCreate who v r => exact (outFrame_execQueueCreate who v r s).keeps
  | queueConfWrite who v q r => exact (outFrame_execQueueConfWrite who v q r s).keeps
  | queueDestroy who v h => exact (outFrame_execQueueDestroy who v h s).keeps
  | shaperCreate who v r => exact (outFrame_execShaperCreate who v r s).keeps
  | shaperWrite who v n r => exact (outFrame_execShaperWrite who v n r s).keeps
  | shaperDestroy who v h => exact (outFrame_execShaperDestroy who v h s).keeps
  | enqueue v => exact (outFrame_execEnqueue v s).keeps
  | crossingTransfer v => exact (outFrame_execCrossingTransfer v s).keeps
  | dequeue v n => exact outKeeps_execDequeue v n s
  | spillWriteComplete v pkt => exact (outFrame_execSpillWriteComplete v pkt s).keeps
  | refill v q => exact (outFrame_execRefill v q s).keeps
  | floodSizeWrite who v x => exact (outFrame_execFloodSizeWrite who v x s).keeps
  | tick => exact (outFrame_execTick s).keeps
  | timeSet who r => exact (outFrame_execTimeSet who r s).keeps
  | timeStep who r => exact (outFrame_execTimeStep who r s).keeps
  | policerCreate who v r => exact (outFrame_execPolicerCreate who v r s).keeps
  | policerWrite who v p r => exact (outFrame_execPolicerWrite who v p r s).keeps
  | policerDestroy who v h => exact (outFrame_execPolicerDestroy who v h s).keeps
  | police v => exact (outFrame_execPolice v s).keeps
  | gateApply who v n => exact (outFrame_execGateApply who v n s).keeps
  | gateListChange v n => exact (outFrame_execGateListChange v n s).keeps
  | gateEntryEnd v n => exact (outFrame_execGateEntryEnd v n s).keeps
  | replCreate who v owner => exact (outFrame_execReplCreate who v owner s).keeps
  | replDestroy who v h => exact (outFrame_execReplDestroy who v h s).keeps
  | replWrite who v bytes => exact (outFrame_execReplWrite who v bytes s).keeps
  | replApply who v r => exact (outFrame_execReplApply who v r s).keeps
  | replQuery who v r => exact (outFrame_execReplQuery who v r s).keeps
  | replicate v => exact (outFrame_execReplicate v s).keeps
  | telemSample v w => exact outKeeps_execTelemSample v w s
  | telemRingEnable v w => exact (outFrame_execTelemRingEnable v w s).keeps
  | telemLogRead who v => exact (outFrame_execTelemLogRead who v s).keeps
  | slotModeWrite who q m => exact (outFrame_execSlotModeWrite who q m s).keeps
  | slotPower who q on present => exact (outFrame_execSlotPower who q on present s).keeps
  | slotPgoodRise q => exact (outFrame_execSlotPgoodRise q s).keeps
  | slotPgoodTimeout q => exact (outFrame_execSlotPgoodTimeout q s).keeps
  | slotPgoodFall q => exact (outFrame_execSlotPgoodFall q s).keeps
  | slotLoad who r => exact (outFrame_execSlotLoad who r s).keeps
  | manifestVerified q => exact (outFrame_execManifestVerified q s).keeps
  | cfgInitRise q => exact (outFrame_execCfgInitRise q s).keeps
  | cfgInitTimeout q => exact (outFrame_execCfgInitTimeout q s).keeps
  | cfgInitFall q => exact (outFrame_execCfgInitFall q s).keeps
  | cfgDone q => exact (outFrame_execCfgDone q s).keeps
  | cfgDoneTimeout q => exact (outFrame_execCfgDoneTimeout q s).keeps
  | saddleLinkUp p speed width => exact (outFrame_execSaddleLinkUp p speed width s).keeps
  | saddleLinkTimeout p => exact (outFrame_execSaddleLinkTimeout p s).keeps
  | shReady p o => exact (outFrame_execShReady p o s).keeps
  | shReadyTimeout p => exact (outFrame_execShReadyTimeout p s).keeps
  | slotUnload who q => exact (outFrame_execSlotUnload who q s).keeps
  | regionCreate who r => exact (outFrame_execRegionCreate who r s).keeps
  | isoAckFall r => exact (outFrame_execIsoAckFall r s).keeps
  | regionDestroy who h => exact (outFrame_execRegionDestroy who h s).keeps
  | isoAckSet r => exact (outFrame_execIsoAckSet r s).keeps
  | isoAckTimeout r => exact (outFrame_execIsoAckTimeout r s).keeps
  | regionReset who h => exact (outFrame_execRegionReset who h s).keeps
  | resetDone r => exact (outFrame_execResetDone r s).keeps
  | resetDoneTimeout r => exact (outFrame_execResetDoneTimeout r s).keeps
  | saddleRequest p q => exact outKeeps_execSaddleRequest p q s
  | pageEntryFetch p => exact outKeeps_execPageEntryFetch p s
  | gateQueueRelease r => exact outKeeps_execGateQueueRelease r s
  | windowWrite who owner w r => exact (outFrame_execWindowWrite who owner w r s).keeps
  | sgInvalidate who r => exact (outFrame_execSgInvalidate who r s).keeps
  | saddleRxWrite r => exact (outFrame_execSaddleRxWrite r s).keeps
  | apertureWrite r off bytes => exact (outFrame_execApertureWrite r off bytes s).keeps
  | rxConsWrite r x => exact (outFrame_execRxConsWrite r x s).keeps
  | saddlePortReset who p => exact (outFrame_execSaddlePortReset who p s).keeps
  | saddleCplTimeout p => exact (outFrame_execSaddleCplTimeout p s).keeps
  | saddleL1Entry p => exact (outFrame_execSaddleL1Entry p s).keeps
  | saddleL1Exit p => exact (outFrame_execSaddleL1Exit p s).keeps
  | regionFaultRead who r => exact (outFrame_execRegionFaultRead who r s).keeps
  | pciePerstRise => exact (outFrame_execPciePerstRise s).keeps
  | hostConfigLoaded => exact (outFrame_execHostConfigLoaded s).keeps
  | vfAssign who r => exact (outFrame_execVfAssign who r s).keeps
  | vfRelease who h => exact (outFrame_execVfRelease who h s).keeps
  | vfReset who h => exact (outFrame_execVfReset who h s).keeps
  | initiateFlr f => exact (outFrame_execInitiateFlr f s).keeps
  | functionSilenced f => exact (outFrame_execFunctionSilenced f s).keeps
  | flrQueueReset f => exact (outFrame_execFlrQueueReset f s).keeps
  | flrComplete f => exact (outFrame_execFlrComplete f s).keeps
  | hostLinkDown c => exact (outFrame_execHostLinkDown c s).keeps
  | vfEnableChange pf en num => exact (outFrame_execVfEnableChange pf en num s).keeps
  | configWrite f fld x => exact (outFrame_execConfigWrite f fld x s).keeps
  | bar2Request f off data len => exact outKeeps_execBar2Request f off data len s
  | winEntryWrite who n r => exact (outFrame_execWinEntryWrite who n r s).keeps
  | msixSend f vec => exact (outFrame_execMsixSend f vec s).keeps
  | intxAck f vec => exact (outFrame_execIntxAck f vec s).keeps
  | hostArbGrant d => exact outKeeps_execHostArbGrant d s
  | hostTlpError e => exact (outFrame_execHostTlpError e s).keeps
  | qeCreate f => exact (outFrame_execQeCreate f s).keeps
  | qeArm f => exact (outFrame_execQeArm f s).keeps
  | qeDestroy f => exact (outFrame_execQeDestroy f s).keeps
  | qeInvalidate f => exact (outFrame_execQeInvalidate f s).keeps
  | qeQuery f => exact (outFrame_execQeQuery f s).keeps
  | sqDb f lq x => exact (outFrame_execSqDb f lq x s).keeps
  | cqDb f lq x => exact (outFrame_execCqDb f lq x s).keeps
  | descriptorFetch ctx => exact (outFrame_execDescriptorFetch ctx s).keeps
  | descriptorStart => exact (outFrame_execDescriptorStart s).keeps
  | txFrameTaken ctx => exact (outFrame_execTxFrameTaken ctx s).keeps
  | rxDeliver ctx => exact (outFrame_execRxDeliver ctx s).keeps
  | controlCopyDone ctx pos => exact outKeeps_execControlCopyDone ctx pos s
  | coalTimerExpiry ctx => exact (outFrame_execCoalTimerExpiry ctx s).keeps
  | qeReadTimeout ctx descRead pos => exact (outFrame_execQeReadTimeout ctx descRead pos s).keeps
  | qeReadError ctx x => exact (outFrame_execQeReadError ctx x s).keeps
  | ccEnSet c cc => exact (outFrame_execCcEnSet c cc s).keeps
  | ccEnClear c => exact (outFrame_execCcEnClear c s).keeps
  | nvmeSqDoorbell f y x => exact (outFrame_execNvmeSqDoorbell f y x s).keeps
  | nvmeCqDoorbell f y x => exact (outFrame_execNvmeCqDoorbell f y x s).keeps
  | nvmeCommandFetch c sq => exact (outFrame_execNvmeCommandFetch c sq s).keeps
  | deleteIoSq c => exact (outFrame_execDeleteIoSq c s).keeps
  | createIoSq c => exact (outFrame_execCreateIoSq c s).keeps
  | getLogPage c => exact (outFrame_execGetLogPage c s).keeps
  | deleteIoCq c => exact (outFrame_execDeleteIoCq c s).keeps
  | createIoCq c => exact (outFrame_execCreateIoCq c s).keeps
  | identify c => exact (outFrame_execIdentify c s).keeps
  | abort c => exact (outFrame_execAbort c s).keeps
  | setFeatures c => exact (outFrame_execSetFeatures c s).keeps
  | getFeatures c => exact (outFrame_execGetFeatures c s).keeps
  | asynchronousEventRequest c => exact (outFrame_execAsynchronousEventRequest c s).keeps
  | formatNvm c => exact (outFrame_execFormatNvm c s).keeps
  | nvmeFlush c tag => exact (outFrame_execNvmeFlush c tag s).keeps
  | nvmeWrite c tag prpOk => exact outKeeps_execNvmeWrite c tag prpOk s
  | nvmeRead c tag prpOk => exact (outFrame_execNvmeRead c tag prpOk s).keeps
  | writeZeroes c tag => exact outKeeps_execWriteZeroes c tag s
  | datasetManagement c tag prpOk => exact outKeeps_execDatasetManagement c tag prpOk s
  | nvmeBackendStart tag => exact outKeeps_execNvmeBackendStart tag s
  | backendResponse tag status data => exact outKeeps_execBackendResponse tag status data s
  | rlockWaitLimit tag => exact (outFrame_execRlockWaitLimit tag s).keeps
  | nvmeBackendTimeout tag => exact (outFrame_execNvmeBackendTimeout tag s).keeps
  | nvmeCqFullLimit c cq => exact (outFrame_execNvmeCqFullLimit c cq s).keeps
  | nvmeSqReadFailed c sq timeout => exact (outFrame_execNvmeSqReadFailed c sq timeout s).keeps
  | autonomousPowerStateTransition c ps => exact (outFrame_execAutonomousPowerStateTransition c ps s).keeps
  | nvmeCtrlCreate who r => exact (outFrame_execNvmeCtrlCreate who r s).keeps
  | nvmeCtrlDestroy who h => exact (outFrame_execNvmeCtrlDestroy who h s).keeps
  | nvmeVolWrite who v r => exact (outFrame_execNvmeVolWrite who v r s).keeps
  | dplRangeWrite who ten k r => exact (outFrame_execDplRangeWrite who ten k r s).keeps
  | dplCtrl who ten x => exact (outFrame_execDplCtrl who ten x s).keeps
  | dplHarvest who ten r => exact outKeeps_execDplHarvest who ten r s
  | migHold who ten x => exact (outFrame_execMigHold who ten x s).keeps
  | migHoldDrained n => exact (outFrame_execMigHoldDrained n s).keeps
  | migHoldExpired n => exact (outFrame_execMigHoldExpired n s).keeps
  | mbOfferWrite n side w => exact (outFrame_execMbOfferWrite n side w s).keeps
  | mbCountWrite n side producer x => exact (outFrame_execMbCountWrite n side producer x s).keeps
  | mbSlotWrite n side slot off b => exact (outFrame_execMbSlotWrite n side slot off b s).keeps
  | mbReset who ten => exact (outFrame_execMbReset who ten s).keeps
  | mbFunctionWrite who ten h => exact (outFrame_execMbFunctionWrite who ten h s).keeps
  | mbResetComplete n => exact (outFrame_execMbResetComplete n s).keeps
  | hartRunWrite h run => exact (outFrame_execHartRunWrite h run s).keeps
  | quadTest who q => exact (outFrame_execQuadTest who q s).keeps
  | quadTestDone pass => exact (outFrame_execQuadTestDone pass s).keeps
  | steppeRingEnable r w => exact (outFrame_execSteppeRingEnable r w s).keeps
  | steppeRingCountWrite r x => exact (outFrame_execSteppeRingCountWrite r x s).keeps
  | injectionTake q => exact (outFrame_execInjectionTake q s).keeps
  | spitCommand w => exact (outFrame_execSpitCommand w s).keeps
  | spitCsRise words inWord extraEdges => exact (outFrame_execSpitCsRise words inWord extraEdges s).keeps
  | spiEdgeGap => exact (outFrame_execSpiEdgeGap s).keeps
  | spitSnapshot => exact (outFrame_execSpitSnapshot s).keeps
  | periphEnWrite who x => exact (outFrame_execPeriphEnWrite who x s).keeps
  | glenWatchdog => exact outKeeps_execGlenWatchdog s
  | ddrTraining trained gib => exact (outFrame_execDdrTraining trained gib s).keeps
  | zqCalibration ch => exact (outFrame_execZqCalibration ch s).keeps
  | hbmTraining ok0 ok1 => exact (outFrame_execHbmTraining ok0 ok1 s).keeps
  | patrolScrub stack word corrected => exact (outFrame_execPatrolScrub stack word corrected s).keeps
  | lcAdvance who r => exact (outFrame_execLcAdvance who r s).keeps
  | keyGenerate who r => exact (outFrame_execKeyGenerate who r s).keeps
  | keyImport who r => exact (outFrame_execKeyImport who r s).keeps
  | keyImportT who ten r => exact (outFrame_execKeyImportT who ten r s).keeps
  | keyDestroy who slot => exact (outFrame_execKeyDestroy who slot s).keeps
  | sealedStoreWrite => exact (outFrame_execSealedStoreWrite s).keeps
  | debugChallenge who => exact (outFrame_execDebugChallenge who s).keeps
  | debugUnlock who r => exact (outFrame_execDebugUnlock who r s).keeps
  | tamperSample high0 high1 => exact (outFrame_execTamperSample high0 high1 s).keeps
  | tamperLockWrite who x => exact (outFrame_execTamperLockWrite who x s).keeps
  | trngFailed => exact (outFrame_execTrngFailed s).keeps
  | vaultHash who alg addr len => exact (outFrame_execVaultHash who alg addr len s).keeps
  | vaultSign who alg slot msg => exact (outFrame_execVaultSign who alg slot msg s).keeps
  | vaultVerify who alg operands => exact (outFrame_execVaultVerify who alg operands s).keeps
  | vaultEcdh who alg slot peer => exact (outFrame_execVaultEcdh who alg slot peer s).keeps
  | vaultRandom who len => exact (outFrame_execVaultRandom who len s).keeps
  | saWrite who a r => exact (outFrame_execSaWrite who a r s).keeps
  | romBoot => exact (outFrame_execRomBoot s).keeps
  | flashReadTimeout => exact (outFrame_execFlashReadTimeout s).keeps
  | componentLoad kind => exact outKeeps_execComponentLoad kind s
  | steppeRelease => exact (outFrame_execSteppeRelease s).keeps
  | colRelease v => exact (outFrame_execColRelease v s).keeps
  | flashRelease => exact (outFrame_execFlashRelease s).keeps
  | imgInstall who r => exact (outFrame_execImgInstall who r s).keeps
  | installCheckDone => exact (outFrame_execInstallCheckDone s).keeps
  | installWriteDone ok => exact (outFrame_execInstallWriteDone ok s).keeps
  | installVerifyDone => exact (outFrame_execInstallVerifyDone s).keeps
  | imgMark who slot st => exact (outFrame_execImgMark who slot st s).keeps
  | rollbackCommit who x => exact (outFrame_execRollbackCommit who x s).keeps
  | rollbackFuseStep => exact (outFrame_execRollbackFuseStep s).keeps
  | imgKeyRevoke who x => exact (outFrame_execImgKeyRevoke who x s).keeps
  | goldRequest => exact (outFrame_execGoldRequest s).keeps
  | qualifyWindow c pass => exact (outFrame_execQualifyWindow c pass s).keeps
  | qualifyLimit c => exact (outFrame_execQualifyLimit c s).keeps
  | clkRequalify who x => exact (outFrame_execClkRequalify who x s).keeps
  | clkSourceWrite who d x => exact (outFrame_execClkSourceWrite who d x s).keeps
  | pllLossOfLock p => exact (outFrame_execPllLossOfLock p s).keeps
  | pllRelock p => exact (outFrame_execPllRelock p s).keeps
  | pllRestart p => exact (outFrame_execPllRestart p s).keeps
  | memoryPllTimeout p => exact (outFrame_execMemoryPllTimeout p s).keeps
  | steppeFreqWrite who q x => exact (outFrame_execSteppeFreqWrite who q x s).keeps
  | clkMonTrip c => exact (outFrame_execClkMonTrip c s).keeps
  | droopTrip k => exact (outFrame_execDroopTrip k s).keeps
  | droopHold k => exact (outFrame_execDroopHold k s).keeps
  | avsPoll r => exact (outFrame_execAvsPoll r s).keeps
  | pmbusPoll rail answered inRange phaseFault => exact (outFrame_execPmbusPoll rail answered inRange phaseFault s).keeps
  | vrAlert => exact (outFrame_execVrAlert s).keeps
  | powerCapClear who alertHigh => exact (outFrame_execPowerCapClear who alertHigh s).keeps
  | thermalSample t => exact (outFrame_execThermalSample t s).keeps
  | thermtrip => exact (outFrame_execThermtrip s).keeps
  | powerDomainWrite who d x => exact (outFrame_execPowerDomainWrite who d x s).keeps
  | domainChangeDone d => exact (outFrame_execDomainChangeDone d s).keeps
  | ladderRequest who x => exact (outFrame_execLadderRequest who x s).keeps
  | ladderStepDone => exact (outFrame_execLadderStepDone s).keeps
  | ladderStepLimit => exact (outFrame_execLadderStepLimit s).keeps
  | wake w => exact (outFrame_execWake w s).keeps
  | rtcAlarm => exact (outFrame_execRtcAlarm s).keeps
  | boardPwrEnRaise => exact (outFrame_execBoardPwrEnRaise s).keeps
  | errorArrival e => exact outKeeps_execErrorArrival e s
  | errorActionComplete h => exact outKeeps_execErrorActionComplete h s
  | chipReset who x => exact (outFrame_execChipReset who x s).keeps
  | failstopResetDelay => exact (outFrame_execFailstopResetDelay s).keeps
  | rstN high straps => exact (outFrame_execRstN high straps s).keeps
  | eventLogRead who => exact (outFrame_execEventLogRead who s).keeps
  | errorLogRead who => exact (outFrame_execErrorLogRead who s).keeps
  | laneTest who x => exact (outFrame_execLaneTest who x s).keeps
  | laneTestDone pass => exact (outFrame_execLaneTestDone pass s).keeps
  | saddlePortTest who x => exact (outFrame_execSaddlePortTest who x s).keeps
  | saddlePortTestDone pass => exact (outFrame_execSaddlePortTestDone pass s).keeps
  | powerUp => exact (outFrame_execPowerUp s).keeps
  | vaonLoss => exact (outFrame_execVaonLoss s).keeps
  | winFirstMissRead who => exact (outFrame_execWinFirstMissRead who s).keeps
  | qeLastFaultRead who => exact (outFrame_execQeLastFaultRead who s).keeps
  | crossFifoPeakRead who v => exact (outFrame_execCrossFifoPeakRead who v s).keeps
  | relbufPeakRead who v => exact (outFrame_execRelbufPeakRead who v s).keeps
  | registerWrite t => exact outKeeps_execRegisterWrite t s
  | hostLinkUp => exact (outFrame_execHostLinkUp s).keeps
  | saddleLinkDown p => exact (outFrame_execSaddleLinkDown p s).keeps
  | teardownDrainTimeout n => exact (outFrame_execTeardownDrainTimeout n s).keeps
  | powerStateTransitionDone c => exact (outFrame_execPowerStateTransitionDone c s).keeps
  | erasureComplete => exact (outFrame_execErasureComplete s).keeps
  | trngStartupTestDone => exact (outFrame_execTrngStartupTestDone s).keeps
  | ladderReversalDone => exact (outFrame_execLadderReversalDone s).keeps
  | ssdEnumerated p nsid lbads lbas mqes granted => exact (outFrame_execSsdEnumerated p nsid lbads lbas mqes granted s).keeps

end Sys2Proof.Machine

end

section
/-! The queue and the memory over a step -/

namespace Sys2Proof.Machine

theorem step_idle {s : State} (h : s.pending = []) : step s = .next s := by
  simp [step, h]

/-- Settles O1: the two cases of the queue, as `step` reads them. -/
theorem frontCommandRuns : Obligations.FrontCommandRuns :=
  ⟨fun s c rest h => step_cons s c rest h, fun _ h => step_idle h⟩

/-- A step keeps what a command keeps, but for the command it takes from the queue. -/
theorem keeps_step {s t : State} (h : step s = .next t) : Keeps { frame s with pending := s.pending.tail } (frame t) := by
  cases hp : s.pending with
  | nil =>
    obtain rfl : s = t := Host.Outcome.next.inj ((step_idle hp).symm.trans h)
    rw [List.tail_nil, ← hp]
    exact .refl _
  | cons c rest => exact outKeeps_exec c { s with pending := rest } t ((step_cons s c rest hp).symm.trans h)

/-- Settles O56: every command keeps the waiting commands (`outKeeps_exec`). -/
theorem queueFirstInFirstOut : Obligations.QueueFirstInFirstOut := by
  refine ⟨fun c s t h => (outKeeps_exec c s t h).pending, fun s t c rest hp h => ?_⟩
  rw [show t.pending = s.pending.tail from (keeps_step h).pending, hp, List.tail_cons]

/-- Settles O55: a step keeps the number of HBM stacks and the canonical form of both memories (`keeps_step`). -/
theorem stepKeepsMemory : Obligations.StepKeepsMemory := by
  rintro s t ⟨hmem, hhmem, hhbm⟩ h
  have hk := keeps_step h
  exact ⟨hk.mem hmem, hk.hmem hhmem, hk.carves.trans hhbm⟩

end Sys2Proof.Machine

end

section
/-! Memory: reads after writes, and the canonical form -/

namespace Sys2Proof.Machine

/-- A read of one byte more, by its first byte. -/
theorem memReadN_succ (m : List Host.Cell) (a n : Nat) : memReadN m a (n + 1) = memRead m a :: memReadN m (a + 1) n := by
  simp only [memReadN, List.range_succ_eq_map, List.map_cons, List.map_map, Nat.add_zero, List.cons.injEq, true_and]
  exact List.map_congr_left fun i _ => congrArg (memRead m) (by simp only [Nat.succ_eq_add_one]; omega)

theorem memReadN_memWriteN (m : List Host.Cell) (a : Nat) (bs : List Byte) : memReadN (memWriteN m a bs) a bs.length = bs := by
  induction bs generalizing m a with
  | nil => rfl
  | cons b bs ih =>
    rw [List.length_cons, memReadN_succ, memWriteN, ih, memRead_memWriteN_other _ _ _ _ (.inl (by omega)), memRead_memWrite_same]

/-- Below the bound of its canonical form a memory lists nothing. -/
theorem memRead_below {lo : Nat} {m : List Host.Cell} (h : memWf lo m = true) {a : Nat} (ha : a < lo) : memRead m a = memDefault := by
  induction m generalizing lo with
  | nil => rfl
  | cons p t ih =>
    obtain ⟨k, b⟩ := p
    simp only [memWf, Bool.and_eq_true, decide_eq_true_eq] at h
    obtain ⟨⟨hlo, -⟩, ht⟩ := h
    rw [memRead, tgetD, tget, if_neg (by omega)]
    exact ih ht (by omega)

theorem memRead_cons_same (k : Nat) (b : Byte) (t : List Host.Cell) : memRead ((k, b) :: t) k = b := by
  simp [memRead, tgetD, tget]

theorem memRead_cons_other {k a : Nat} (b : Byte) (t : List Host.Cell) (h : k ≠ a) : memRead ((k, b) :: t) a = memRead t a := by
  simp [memRead, tgetD, tget, h]

/-- A canonical list that reads as nothing lists nothing: its first cell would read as something. -/
theorem eq_nil_of_memRead {lo : Nat} {m : List Host.Cell} (h : memWf lo m = true) (hr : ∀ a, memRead m a = memDefault) : m = [] := by
  cases m with
  | nil => rfl
  | cons p t =>
    obtain ⟨k, b⟩ := p
    simp only [memWf, Bool.and_eq_true, decide_eq_true_eq] at h
    exact absurd ((memRead_cons_same k b t).symm.trans (hr k)) h.1.2

/-- The first cell of one canonical list is not below the first of another that reads the same. -/
theorem first_le_of_memRead {lo k j : Nat} {b c : Byte} {t u : List Host.Cell} (h : memWf lo ((k, b) :: t) = true)
    (h' : memWf lo ((j, c) :: u) = true) (hr : ∀ a, memRead ((k, b) :: t) a = memRead ((j, c) :: u) a) : j ≤ k := by
  simp only [memWf, Bool.and_eq_true, decide_eq_true_eq] at h h'
  by_contra hlt
  have hk : memRead ((j, c) :: u) k = memDefault := by
    rw [memRead_cons_other c u (by omega)]
    exact memRead_below h'.2 (by omega)
  exact h.1.2 ((memRead_cons_same k b t).symm.trans ((hr k).trans hk))

/-- The canonical form is unique: the first cells are equal, and the rests read the same. -/
theorem memWf_ext {lo : Nat} {m n : List Host.Cell} (hm : memWf lo m = true) (hn : memWf lo n = true)
    (hr : ∀ a, memRead m a = memRead n a) : m = n := by
  induction m generalizing lo n with
  | nil => exact (eq_nil_of_memRead hn fun a => (hr a).symm).symm
  | cons p t ih =>
    cases n with
    | nil => exact eq_nil_of_memRead hm hr
    | cons q u =>
      obtain ⟨k, b⟩ := p
      obtain ⟨j, c⟩ := q
      obtain rfl : k = j := Nat.le_antisymm (first_le_of_memRead hn hm fun a => (hr a).symm) (first_le_of_memRead hm hn hr)
      have hb : b = c := by simpa only [memRead_cons_same] using hr k
      simp only [memWf, Bool.and_eq_true, decide_eq_true_eq] at hm hn
      have htail : ∀ a, memRead t a = memRead u a := by
        intro a
        by_cases ha : k = a
        · rw [memRead_below hm.2 (by omega), memRead_below hn.2 (by omega)]
        · simpa only [memRead_cons_other _ _ ha] using hr a
      rw [hb, ih hm.2 hn.2 htail]

/-- Settles O59: the write by induction on its bytes, equal contents by the uniqueness of the canonical form (`memWf_ext`). -/
theorem memoryReadsBack : Obligations.MemoryReadsBack :=
  ⟨memReadN_memWriteN, fun m a bs c => memRead_memWriteN_other m a c bs, fun _ a bs h => memWf_memWriteN h a bs,
    fun _ _ hm hn hr => memWf_ext hm hn hr⟩

end Sys2Proof.Machine

end

section
/-! Checks that pass, as an operation lists them -/

namespace Sys2Proof.Machine

/-- Two lists of checks pass together when each passes. -/
theorem firstStatus_append_iff (cs ds : List (Status × Bool)) :
    firstStatus (cs ++ ds) = .ok ↔ firstStatus cs = .ok ∧ firstStatus ds = .ok := by
  simp only [firstStatus_ok_iff, List.any_append, Bool.or_eq_false_iff, forall_and]

theorem firstStatus_cons_iff {st : Status} (hst : st ≠ .ok) (b : Bool) (cs : List (Status × Bool)) :
    firstStatus ((st, b) :: cs) = .ok ↔ b = false ∧ firstStatus cs = .ok := by
  have hone : firstStatus [(st, b)] = .ok ↔ b = false := by
    rw [firstStatus_ok_iff_none_applies (by simpa using hst)]
    simp
  rw [← hone]
  exact firstStatus_append_iff [(st, b)] cs

@[simp] theorem firstStatus_nil : firstStatus [] = .ok := rfl

end Sys2Proof.Machine

end

section
/-! Control cores: harts, quads and the rings of the Steppe cluster (R378-R383) -/

namespace Sys2Proof.Machine

theorem hartOf_setHart_other (s : State) (h : Nat) (x : Hart) {j : Nat} (hj : j ≠ h) : hartOf (setHart s h x) j = hartOf s j := by
  simp [hartOf, setHart, tgetD_tset_other _ _ _ _ _ hj]

/-- A command that writes one hart's record completes, changes that record, and nothing outside the Steppe cluster. -/
theorem completes_setHart {c : Instr} {s : State} {h : Nat} {x : Hart} (hexec : exec c s = .next (setHart s h x)) :
    Completes c s (fun t => OnlyCtl s t ∧ hartOf t h = x ∧ ∀ j, j ≠ h → hartOf t j = hartOf s j) :=
  ⟨_, hexec, onlyCtl_setHart s h x, hartOf_setHart_same s h x, fun _ hj => hartOf_setHart_other s h x hj⟩

theorem exec_hartRunWrite_stop {h : Fin 24} {s : State} (hstop : s.err.failStop = false) (hquad : quadClosed s (h / 4) = false) :
    exec (.hartRunWrite h false) s = .next (setHart s h { hartOf s h with run := false, stopped := true }) := by
  show execHartRunWrite h false s = _
  simp [execHartRunWrite, hstop, hquad]

theorem exec_hartRunWrite_start {h : Fin 24} {s : State} (hstop : s.err.failStop = false) (hquad : quadClosed s (h / 4) = false)
    (hst : (hartOf s h).stopped = true) : exec (.hartRunWrite h true) s =
      .next (setHart s h { hartOf s h with run := true, stopped := false, pc := restartPc (hartOf s h) }) := by
  show execHartRunWrite h true s = _
  simp [execHartRunWrite, hstop, hquad, hst]

theorem serves_quadTest (who : Who) (q : U8) : Serves (.quadTest who q) (quadTestOp who q) :=
  fun s hs hok => congrArg Host.Outcome.next (runOp_ok _ s hs hok)

/-- The checks of a quad test that passes: no quad beyond the six, none retired, its harts stopped, no other test. -/
theorem quadTestOp_ok {who : Who} {q : U8} {s : State} (h : (quadTestOp who q).status s = .ok) :
    q.toNat < 6 ∧ quadRetired s q.toNat = false ∧ quadStopped s q.toNat = true ∧ s.ctl.quadTest = none := by
  simp [quadTestOp, firstStatus_append_iff, firstStatus_cons_iff] at h
  obtain ⟨-, ⟨hlast, hretired⟩, hstopped, hidle⟩ := h
  exact ⟨by omega, hretired, hstopped, hidle⟩

/-- The stop of a hart, as a retired quad stops its harts. -/
def stopHart (s : State) (h : Nat) : State := setHart s h { hartOf s h with run := false, stopped := true }

def HartStopped (s : State) (h : Nat) : Prop := (hartOf s h).run = false ∧ (hartOf s h).stopped = true

theorem hartStopped_stopHart {s : State} {h j : Nat} (hj : j = h ∨ HartStopped s j) : HartStopped (stopHart s h) j := by
  by_cases he : j = h
  · subst he
    simp [HartStopped, stopHart]
  · rw [HartStopped, stopHart, hartOf_setHart_other _ _ _ he]
    exact hj.resolve_left he

theorem hartStopped_foldl (hs : List Nat) {s : State} {j : Nat} (hj : j ∈ hs ∨ HartStopped s j) :
    HartStopped (hs.foldl stopHart s) j := by
  induction hs generalizing s with
  | nil => exact hj.resolve_left List.not_mem_nil
  | cons h hs ih =>
    refine ih ?_
    rw [List.mem_cons, or_assoc, or_left_comm] at hj
    exact hj.imp_right hartStopped_stopHart

/-- A retired quad is marked in SQ_RETIRED, and its harts are stopped. -/
theorem retireQuad_spec (s : State) (q level errSeq : Nat) :
    bitOf (numD (retireQuad s q level errSeq) (okey 0x7000 5) 0) q = true ∧
    (∀ i, i < 4 → HartStopped (retireQuad s q level errSeq) (4 * q + i)) ∧
    (retireQuad s q level errSeq).ctl.quadQueue = s.ctl.quadQueue.filter (fun k => decide (k ≠ q)) ∧
    (retireQuad s q level errSeq).ctl.quadTest = s.ctl.quadTest := by
  have hfold : (quadHarts q).foldl (fun a h => setHart a h { hartOf a h with run := false, stopped := true }) s =
      (quadHarts q).foldl stopHart s := rfl
  simp only [retireQuad, hfold]
  refine ⟨?_, fun i hi => ?_, ?_, ?_⟩
  · simp only [numD, raise, setDom, setNum, tgetD_tset_same]
    rw [bitOf, Nat.testBit_or, Nat.testBit_two_pow_self, Bool.or_true]
  · simp only [HartStopped, hartOf, raise, setDom, setNum]
    exact hartStopped_foldl _ (.inl (by simpa [quadHarts] using hi))
  · simp only [raise, setDom, setNum]
    rw [foldl_keeps (f := stopHart) (fun u : State => u.ctl.quadQueue) (fun _ _ => rfl)]
  · simp only [raise, setDom, setNum]
    exact foldl_keeps (f := stopHart) (fun u : State => u.ctl.quadTest) (fun _ _ => rfl) _ s

theorem nextQuadTest_idle {s : State} (h : s.ctl.quadQueue = []) : nextQuadTest s = s := by
  simp [nextQuadTest, h]

section
variable {s : State} {q : Nat} (htest : s.ctl.quadTest = some q) (hstop : s.err.failStop = false) (hqueue : s.ctl.quadQueue = [])

/-- A quad's test has ended: its verdict is drawn and its number is free. -/
def quadTestEnded (s : State) (q : Nat) : State :=
  { (testVerdict s (unitId 2 6 q 0xFFF) true).2 with ctl := { s.ctl with quadTest := none } }

include htest hstop hqueue

theorem exec_quadTestDone_pass (hpass : s.err.testFails.contains (unitId 2 6 q 0xFFF) = false) :
    exec (.quadTestDone true) s = .next (setNum (quadTestEnded s q) (okey 0x7000 4) 0) := by
  have hok : (testVerdict s (unitId 2 6 q 0xFFF) true).1 = true := by rw [testVerdict, hpass]; rfl
  show execQuadTestDone true s = _
  simp only [execQuadTestDone, htest, hstop, hok, if_true, Bool.false_eq_true, if_false]
  exact congrArg Host.Outcome.next (nextQuadTest_idle hqueue)

theorem exec_quadTestDone_fail : exec (.quadTestDone false) s =
    .next (retireQuad (setNum (quadTestEnded s q) (okey 0x7000 4) (statusCode .halted)) q 0 0) := by
  have hfail : (testVerdict s (unitId 2 6 q 0xFFF) false).1 = false := rfl
  show execQuadTestDone false s = _
  simp only [execQuadTestDone, htest, hstop, hfail, Bool.false_eq_true, if_false]
  refine congrArg Host.Outcome.next (nextQuadTest_idle ?_)
  obtain ⟨-, -, hq, -⟩ := retireQuad_spec (setNum (quadTestEnded s q) (okey 0x7000 4) (statusCode .halted)) q 0 0
  exact hq.trans (congrArg (List.filter _) hqueue)

end

theorem mem_of_frame {s t : State} (h : frame t = frame s) : t.mem = s.mem := congrArg Frame.mem h

theorem hartsAndQuads : Claims.HartsAndQuads := by
  refine ⟨?run, serves_quadTest, ?start, fun _ _ _ => quadTestOp_ok, ?done⟩
  case run =>
    intro h s hstop hquad
    exact ⟨completes_setHart (exec_hartRunWrite_stop hstop hquad),
      fun hst => completes_setHart (exec_hartRunWrite_start hstop hquad hst)⟩
  case start =>
    intro who q s hs hok
    exact ⟨_, serves_quadTest who q s hs hok, rfl, rfl, rfl, rfl⟩
  case done =>
    intro q s htest hstop hqueue hpass
    refine ⟨⟨_, exec_quadTestDone_pass htest hstop hqueue hpass, rfl, numD_setNum_same _ _ _ _, rfl, rfl⟩,
      ⟨_, exec_quadTestDone_fail htest hstop hqueue, ?_⟩⟩
    obtain ⟨hbit, hharts, -, htest'⟩ := retireQuad_spec (setNum (quadTestEnded s q) (okey 0x7000 4) (statusCode .halted)) q 0 0
    exact ⟨htest', hbit, hharts, mem_of_frame (frame_retireQuad ..)⟩
/-! ### The rings of the Steppe cluster (R382, R383) -/

@[simp] theorem sringOf_setSring_same (s : State) (r : Nat) (x : SRing) : sringOf (setSring s r x) r = x := by
  simp [sringOf, setSring]

theorem sringOf_setSring_other (s : State) (r : Nat) (x : SRing) {j : Nat} (hj : j ≠ r) :
    sringOf (setSring s r x) j = sringOf s j := by
  simp [sringOf, setSring, tgetD_tset_other _ _ _ _ _ hj]

/-- A command that writes one ring's record completes, changes that record, and nothing outside the Steppe cluster. -/
theorem completes_setSring {c : Instr} {s : State} {r : Nat} {x : SRing} {P : SRing → Prop} (hexec : exec c s = .next (setSring s r x))
    (hx : P x) : Completes c s (fun t => OnlyCtl s t ∧ P (sringOf t r) ∧ ∀ j, j ≠ r → sringOf t j = sringOf s j) := by
  refine ⟨_, hexec, ⟨rfl, rfl, rfl, rfl, rfl, rfl, rfl, rfl, rfl, rfl⟩, ?_, fun _ hj => sringOf_setSring_other s r x hj⟩
  rwa [sringOf_setSring_same]

/-- The size and the interrupt of a control word, as a ring takes them that is not enabled. -/
def sized (x : SRing) (w : U32) : SRing :=
  { x with log2 := bitsOf w.toNat 16 4, size := bitsOf w.toNat 12 3, irq := w.toNat % 2048 }

section
variable {r : Fin 1216} {w : U32} {s : State} (hvalid : sringValid r = true) (hstop : s.err.failStop = false)
  (hen : bitOf w.toNat 31 = true)
include hvalid hstop hen

/-- A control word that enables a ring, by the ring's own enable and by whether the ring fits. -/
theorem exec_steppeRingEnable : exec (.steppeRingEnable r w) s = .next (
    if (sringOf s r).en then
      setSring s r { sringOf s r with en := true, irq := w.toNat % 2048, presented := (sringOf s r).presented }
    else if sringFits s (sized (sringOf s r) w) then
      setSring s r { sized (sringOf s r) w with en := true, prod := 0, cons := 0, presented := false }
    else setSring s r (sized (sringOf s r) w)) := by
  show execSteppeRingEnable r w s = _
  simp only [execSteppeRingEnable, sringControl, hvalid, hstop, hen, Bool.not_true, Bool.or_false, Bool.false_eq_true,
    if_true, if_false, Bool.true_and, Bool.and_true]
  rfl

theorem exec_steppeRingEnable_enabled (h : (sringOf s r).en = true) : exec (.steppeRingEnable r w) s =
    .next (setSring s r { sringOf s r with irq := w.toNat % 2048 }) := by
  rw [exec_steppeRingEnable hvalid hstop hen, if_pos h, ← h]

theorem exec_steppeRingEnable_fits (h : (sringOf s r).en = false) (hfits : sringFits s (sized (sringOf s r) w) = true) :
    exec (.steppeRingEnable r w) s =
      .next (setSring s r { sized (sringOf s r) w with en := true, prod := 0, cons := 0, presented := false }) := by
  rw [exec_steppeRingEnable hvalid hstop hen, if_neg (Bool.eq_false_iff.mp h), if_pos hfits]

theorem exec_steppeRingEnable_unfit (h : (sringOf s r).en = false) (hfits : sringFits s (sized (sringOf s r) w) = false) :
    exec (.steppeRingEnable r w) s = .next (setSring s r (sized (sringOf s r) w)) := by
  rw [exec_steppeRingEnable hvalid hstop hen, if_neg (Bool.eq_false_iff.mp h), if_neg (Bool.eq_false_iff.mp hfits)]

end

section
variable {r : Fin 1216} {x : U16} {s : State} (hvalid : sringValid r = true) (hstop : s.err.failStop = false)
include hvalid hstop

theorem exec_steppeRingCountWrite_taken (h : sringAccepts r (sringOf s r) x.toNat = true) :
    exec (.steppeRingCountWrite r x) s = .next (setSring s r
      (if 1152 ≤ r.val then { sringOf s r with prod := x.toNat } else { sringOf s r with cons := x.toNat })) := by
  show execSteppeRingCountWrite r x s = _
  simp only [execSteppeRingCountWrite, hvalid, hstop, h, sringInjects, Bool.not_true, Bool.or_self, Bool.false_eq_true, if_true,
    if_false, decide_eq_true_eq]

theorem exec_steppeRingCountWrite_dropped (h : sringAccepts r (sringOf s r) x.toNat = false) :
    exec (.steppeRingCountWrite r x) s = .next (sringDrop s r) := by
  show execSteppeRingCountWrite r x s = _
  simp only [execSteppeRingCountWrite, hvalid, hstop, h, Bool.not_true, Bool.or_self, Bool.false_eq_true, if_false]

end

theorem steppeRings : Claims.SteppeRings := by
  refine ⟨fun r w s hvalid hstop hen => ⟨fun h => ?_, fun h hfits => ?_, fun h hfits => ?_⟩,
    fun r x s hvalid hstop => ⟨fun h => ?_, exec_steppeRingCountWrite_dropped hvalid hstop⟩⟩
  · exact completes_setSring (P := (· = _)) (exec_steppeRingEnable_enabled hvalid hstop hen h) rfl
  · obtain ⟨t, hexec, honly, ⟨hon, hprod, hcons, hlog, hsize⟩, hother⟩ :=
      completes_setSring (P := fun y => y.en = true ∧ y.prod = 0 ∧ y.cons = 0 ∧ y.log2 = bitsOf w.toNat 16 4 ∧
        y.size = bitsOf w.toNat 12 3) (exec_steppeRingEnable_fits hvalid hstop hen h hfits) ⟨rfl, rfl, rfl, rfl, rfl⟩
    exact ⟨t, hexec, honly, hon, hprod, hcons, hlog, hsize, hother⟩
  · exact completes_setSring (P := fun y => y.en = false) (exec_steppeRingEnable_unfit hvalid hstop hen h hfits) h
  · exact completes_setSring (P := (· = _)) (exec_steppeRingCountWrite_taken hvalid hstop h) rfl

/-- Settles O43: the harts and quads by their records, the rings by the cases of the control word and of the count. -/
theorem controlCores : Obligations.ControlCores := ⟨hartsAndQuads, steppeRings⟩

end Sys2Proof.Machine

end

section
/-! Glen's peripherals, memory training and the patrol scrub (R388-R398) -/

namespace Sys2Proof.Machine

/-! ### Glen's peripherals and the SPI target (R394-R398) -/

theorem serves_periphEnWrite (who : Who) (x : U16) : Serves (.periphEnWrite who x) (periphEnOp who x) :=
  fun s hs hok => congrArg Host.Outcome.next (runOp_ok _ s hs hok)

@[simp] theorem periphReset_host (s : State) (k : Nat) : (periphReset s k).host = s.host := by
  unfold periphReset
  (repeat' split) <;> rfl

@[simp] theorem periphStop_host (s : State) (k : Nat) : (periphStop s k).host = s.host := by
  unfold periphStop
  split <;> rfl

@[simp] theorem persist_host (s : State) (k : Nat) : (persist s k).host = s.host := by
  unfold persist
  split <;> rfl

@[simp] theorem numD_persist (s : State) (k i d : Nat) : numD (persist s k) i d = numD s i d := by
  unfold persist
  split <;> rfl

/-- A write of PERIPH_EN resets or stops the blocks that change, and stores the six bits. -/
theorem periphEnOp_effect (who : Who) (x : U16) (s : State) :
    numD ((periphEnOp who x).effect s).1 (okey 0x7050 1) 0 = x.toNat % 64 ∧ ((periphEnOp who x).effect s).1.host = s.host := by
  simp only [periphEnOp, numD_persist, numD_setNum_same, persist_host, setNum_host, true_and]
  refine foldl_keeps (fun u : State => u.host) (fun u k => ?_) _ s
  (repeat' split) <;> simp

theorem numD_spitCount (s : State) (off n : Nat) : numD (spitCount s off n) (okey 0x7052 3) 0 = numD s (okey 0x7052 3) 0 :=
  numD_setNum_other _ _ _ _ _ (by decide)

theorem onlyCtl_setSpit (s : State) (x : Spit) : OnlyCtl s (setSpit s x) := ⟨rfl, rfl, rfl, rfl, rfl, rfl, rfl, rfl, rfl, rfl⟩

section
variable {w : U32} {s : State} (hidle : s.ctl.spit.active = false) (hon : periphOn s 3 = true)
include hidle hon

theorem exec_spitCommand_refused (h : spitRefused w.toNat = true) : exec (.spitCommand w) s =
    .next (setSpit (spitBad s) { s.ctl.spit with active := true, ignore := true, gap := false, out := [] }) := by
  show execSpitCommand w s = _
  simp [execSpitCommand, hidle, hon, h]

theorem exec_spitCommand_read (h : spitRefused w.toNat = false) (hop : bitsOf w.toNat 30 2 = 1) : exec (.spitCommand w) s =
    .next (setSpit s { s.ctl.spit with
      active := true, ignore := false, gap := false, op := 1, count := bitsOf w.toNat 18 10, addr := bitsOf w.toNat 2 10
      out := 0 :: (List.range (bitsOf w.toNat 18 10)).map (fun i => spitWord s (bitsOf w.toNat 2 10 + i)) }) := by
  show execSpitCommand w s = _
  simp [execSpitCommand, hidle, hon, h, hop]

theorem exec_spitCommand_write (h : spitRefused w.toNat = false) (hop : bitsOf w.toNat 30 2 = 2) : exec (.spitCommand w) s =
    .next (setSpit s { s.ctl.spit with
      active := true, ignore := false, gap := false, op := 2, count := bitsOf w.toNat 18 10, addr := bitsOf w.toNat 2 10
      out := [] }) := by
  show execSpitCommand w s = _
  simp [execSpitCommand, hidle, hon, h, hop]

end

/-- The SPI target with no transaction under way. -/
def spitIdle (s : State) : State := setSpit s { s.ctl.spit with active := false, ignore := false, gap := false, out := [] }

section
variable {ws : List U32} {s : State} (hon : periphOn s 3 = true) (hact : s.ctl.spit.active = true)
  (hign : s.ctl.spit.ignore = false) (hgap : s.ctl.spit.gap = false)
include hon hact hign hgap

theorem exec_spitCsRise_whole (hop : s.ctl.spit.op = 2) (hlen : s.ctl.spit.count ≤ ws.length) :
    exec (.spitCsRise ws false false) s = .next (spitStore (spitIdle s) s.ctl.spit.addr (ws.take s.ctl.spit.count)) := by
  show execSpitCsRise ws false false s = _
  simp [execSpitCsRise, spitIdle, hon, hact, hign, hgap, hop, hlen]

theorem exec_spitCsRise_short (h : s.ctl.spit.op ≠ 2 ∨ ws.length < s.ctl.spit.count) :
    exec (.spitCsRise ws false false) s = .next (spitIdle s) := by
  have hwhole : ¬(s.ctl.spit.op = 2 ∧ s.ctl.spit.count ≤ ws.length) := by omega
  show execSpitCsRise ws false false s = _
  simp [execSpitCsRise, spitIdle, hon, hact, hign, hgap, hwhole]

end

theorem scratchWord_spitStore (s : State) {a : Nat} (w : U32) (hlo : 1020 ≤ a) (hhi : a < 1024) :
    scratchWord (spitStore s a [w]) (a - 1020) = w.toNat := by
  simp only [spitStore, if_pos (And.intro hlo hhi), scratchWord, numD_setNum_same, recField_recSet]
  exact Nat.mod_eq_of_lt w.isLt

theorem numD_spitStore_outside (s : State) {a : Nat} (w : U32) (h : a < 1020 ∨ 1024 ≤ a) :
    numD (spitStore s a [w]) (okey 0x7052 3) 0 = numD s (okey 0x7052 3) 0 := by
  rw [spitStore, if_neg (by omega)]
  exact numD_spitCount s 12 1

theorem exec_spiEdgeGap {s : State} (hon : periphOn s 3 = true) (hign : s.ctl.spit.ignore = false)
    (hgap : s.ctl.spit.gap = false) :
    exec .spiEdgeGap s = .next (setSpit (spitEdge s) { s.ctl.spit with active := true, gap := true }) := by
  show execSpiEdgeGap s = _
  simp [execSpiEdgeGap, hon, hign, hgap]

theorem exec_spitSnapshot {s : State} (hglen : s.boot.glenUp = true) (hon : periphOn s 3 = true) : exec .spitSnapshot s =
    .next (setSpit s { s.ctl.spit with snap := snapshotWords s, snaps := (s.ctl.spit.snaps + 1) % 2 ^ 32 }) := by
  show execSpitSnapshot s = _
  simp only [execSpitSnapshot, hglen, hon, and_self, if_true]

theorem peripherals : Claims.Peripherals := by
  refine ⟨serves_periphEnWrite, ?enable, ?command, ?rise, fun s a w => scratchWord_spitStore s w,
    fun s a w => numD_spitStore_outside s w, ?gap, ?snapshot⟩
  case enable =>
    intro who x s hs hok
    obtain ⟨hnum, hhost⟩ := periphEnOp_effect who x s
    exact ⟨_, serves_periphEnWrite who x s hs hok, hnum, mem_of_frame ((opFrame_periphEnOp who x).effect s), hhost⟩
  case command =>
    intro w s hidle hon
    exact ⟨fun h => ⟨_, exec_spitCommand_refused hidle hon h, rfl, rfl, rfl, numD_spitCount s 8 1, rfl⟩,
      fun h hop => ⟨_, exec_spitCommand_read hidle hon h hop, onlyCtl_setSpit _ _, rfl, rfl⟩,
      fun h hop => ⟨_, exec_spitCommand_write hidle hon h hop, onlyCtl_setSpit _ _, rfl, rfl, rfl, rfl⟩⟩
  case rise =>
    intro ws s hon hact hign hgap
    exact ⟨exec_spitCsRise_whole hon hact hign hgap,
      fun h => ⟨_, exec_spitCsRise_short hon hact hign hgap h, onlyCtl_setSpit _ _, rfl⟩⟩
  case gap =>
    intro s hon hign hgap
    exact ⟨_, exec_spiEdgeGap hon hign hgap, rfl, rfl, numD_spitCount s 4 1, rfl⟩
  case snapshot =>
    intro s hglen hon
    exact ⟨_, exec_spitSnapshot hglen hon, onlyCtl_setSpit _ _, rfl, rfl⟩

/-! ### Memory training and the patrol scrub (R388-R390) -/

/-- The event of a DDR channel that fails its training. -/
def ddrChannelFailed (s : State) (c : Nat) : State :=
  raise s { cls := 9, name := "DDR_CHANNEL_FAILED", unit := unitId 2 5 c 0xFFF, resource := c }

/-- The failed DDR channels' events, raised one by one. -/
def ddrFailed (s : State) (st : List Nat) : State :=
  ((List.range 4).filter (fun c => decide (st.getD c 0 = 2))).foldl ddrChannelFailed s

theorem ddrFailed_keeps (s : State) (st : List Nat) : (ddrFailed s st).ctl = s.ctl ∧ (ddrFailed s st).boot = s.boot ∧
    (ddrFailed s st).dict = s.dict ∧ (ddrFailed s st).mem = s.mem := by
  have h := foldl_keeps (f := ddrChannelFailed) (fun u : State => (u.ctl, u.boot, u.dict, u.mem)) (fun _ _ => rfl)
    ((List.range 4).filter (fun c => decide (st.getD c 0 = 2))) s
  simpa only [Prod.mk.injEq, ddrFailed] using h

/-- The state after the training of the DDR channels, before boot stops for want of one. -/
def ddrTrained (tr : List Bool) (gib : Nat) (s : State) : State :=
  let st := ddrStates (ddrUsed (tr.filter (fun b => b)).length) tr
  ddrFailed { s with ctl := { s.ctl with ddr := st, ddrGib := gib } } st

theorem exec_ddrTraining {tr : List Bool} {gib : Nat} {s : State} (hstage : s.boot.stage = 4) (hdone : ddrDone s = false)
    (hlen : tr.length = 4) (hgib : gib = 16 ∨ gib = 32 ∨ gib = 64) (hstop : s.err.failStop = false) :
    exec (.ddrTraining tr gib) s = .next (if (tr.filter (fun b => b)).length = 0 then
      { ddrTrained tr gib s with boot := { (ddrTrained tr gib s).boot with stage := 0xE3 } } else ddrTrained tr gib s) := by
  have hbad : ¬(s.boot.stage ≠ 4 ∨ ddrDone s = true ∨ tr.length ≠ 4 ∨ (gib ≠ 16 ∧ gib ≠ 32 ∧ gib ≠ 64) ∨ s.err.failStop = true) := by
    simp only [hstage, hdone, hlen, hstop]
    simp
    omega
  show execDdrTraining tr gib s = _
  simp only [execDdrTraining, if_neg hbad]
  rfl

theorem completes_ddrTraining {tr : List Bool} {gib : Nat} {s : State} (hstage : s.boot.stage = 4) (hdone : ddrDone s = false)
    (hlen : tr.length = 4) (hgib : gib = 16 ∨ gib = 32 ∨ gib = 64) (hstop : s.err.failStop = false) :
    Completes (.ddrTraining tr gib) s (fun t => t.ctl.ddr = ddrStates (ddrUsed (tr.filter (fun b => b)).length) tr ∧
      t.ctl.ddrGib = gib ∧ ((∀ b ∈ tr, b = false) → t.boot.stage = 0xE3) ∧ ((∃ b ∈ tr, b = true) → t.boot = s.boot) ∧
      t.dict = s.dict ∧ t.mem = s.mem) := by
  have hnone : (tr.filter (fun b => b)).length = 0 ↔ ∀ b ∈ tr, b = false := by simp [List.filter_eq_nil_iff]
  obtain ⟨hctl, hboot, hdict, hmem⟩ : (ddrTrained tr gib s).ctl = _ ∧ _ := ddrFailed_keeps _ _
  refine ⟨_, exec_ddrTraining hstage hdone hlen hgib hstop, ?_⟩
  split
  · next h =>
    refine ⟨congrArg CtlState.ddr hctl, congrArg CtlState.ddrGib hctl, fun _ => rfl, fun ⟨b, hb, htrue⟩ => ?_, hdict, hmem⟩
    exact absurd (hnone.mp h b hb) (by simp [htrue])
  · next h =>
    exact ⟨congrArg CtlState.ddr hctl, congrArg CtlState.ddrGib hctl, fun hall => absurd (hnone.mpr hall) h, fun _ => hboot, hdict,
      hmem⟩

/-- The carve of a stack after its training. -/
def trainedCarve (c : Carve) (ok : Bool) : Carve := if ok then { c with trained := true } else { c with failed := true }

theorem trainStack_spec (s : State) (k : Nat) (ok : Bool) :
    (trainStack s k ok).ctl.hbm = s.ctl.hbm.set k (trainedCarve (carveOf s k) ok) ∧ (trainStack s k ok).dict = s.dict ∧
      (trainStack s k ok).mem = s.mem := by
  cases ok <;> exact ⟨rfl, rfl, rfl⟩

theorem completes_hbmTraining {a b : Bool} {s : State} (hlen : s.ctl.hbm.length = 2) (hstage : 4 ≤ s.boot.stage)
    (htrained : (carveOf s 0).trained = false) (hfailed : (carveOf s 0).failed = false) (hstop : s.err.failStop = false) :
    Completes (.hbmTraining a b) s (fun t => (carveOf t 0).trained = a ∧ (carveOf t 1).trained = (b || (carveOf s 1).trained) ∧
      (carveOf t 0).failed = !a ∧ t.dict = s.dict ∧ t.mem = s.mem) := by
  obtain ⟨hfirst, hdict, hmem⟩ := trainStack_spec s 0 a
  obtain ⟨hboth, hdict', hmem'⟩ := trainStack_spec (trainStack s 0 a) 1 b
  have hone : carveOf (trainStack s 0 a) 1 = carveOf s 1 := by simp [carveOf, hfirst]
  have hzero : carveOf (trainStack (trainStack s 0 a) 1 b) 0 = trainedCarve (carveOf s 0) a := by
    simp [carveOf, hboth, hfirst, hlen]
  have hlast : carveOf (trainStack (trainStack s 0 a) 1 b) 1 = trainedCarve (carveOf s 1) b := by
    rw [carveOf, hboth, hone, hfirst]
    simp [hlen]
  have hexec : exec (.hbmTraining a b) s = .next (trainStack (trainStack s 0 a) 1 b) := by
    show execHbmTraining a b s = _
    simp [execHbmTraining, htrained, hfailed, hstop, Nat.not_lt.mpr hstage]
  refine ⟨_, hexec, ?_, ?_, ?_, hdict'.trans hdict, hmem'.trans hmem⟩
  · rw [hzero]
    cases a <;> simp [trainedCarve, htrained]
  · rw [hlast]
    cases b <;> simp [trainedCarve]
  · rw [hzero]
    cases a <;> simp [trainedCarve, hfailed]

theorem exec_patrolScrub {k : Fin 2} {s : State} (w : Nat) (htrained : (carveOf s k).trained = true)
    (hstop : s.err.failStop = false) :
    exec (.patrolScrub k w true) s = .next (count s (okey 0x7040 1)) ∧ exec (.patrolScrub k w false) s = .next s := by
  constructor
  · show execPatrolScrub k w true s = _
    simp [execPatrolScrub, htrained, hstop]
  · show execPatrolScrub k w false s = _
    simp [execPatrolScrub, htrained, hstop]

theorem memoryTraining : Claims.MemoryTraining :=
  ⟨fun _ _ _ hstage hdone hlen hgib hstop => completes_ddrTraining hstage hdone hlen hgib hstop, by decide, by decide, by decide,
    fun _ _ => rfl, fun _ _ _ hlen hstage htrained hfailed hstop => completes_hbmTraining hlen hstage htrained hfailed hstop,
    fun _ w _ htrained hstop => exec_patrolScrub w htrained hstop⟩

/-- Settles O44: the SPI target by the cases of its commands, the training by the events it raises and the carves it sets. -/
theorem peripheralsAndMemory : Obligations.PeripheralsAndMemory := ⟨peripherals, memoryTraining⟩

end Sys2Proof.Machine

end

section
/-! The vault's state through the ends of NVMe commands -/

namespace Sys2Proof.Machine

@[simp] theorem modTen_vault (s : State) (i : Nat) (f : Tenancy → Tenancy) : (modTen s i f).vault = s.vault := by
  unfold modTen
  split <;> simp

@[simp] theorem subUsage_vault (s : State) (owner : Handle) (kind : Nat) : (subUsage s owner kind).vault = s.vault := by
  unfold subUsage
  split <;> simp

@[simp] theorem endObj_vault (s : State) (kind i : Nat) : (endObj s kind i).vault = s.vault := by
  unfold endObj
  dsimp only
  (repeat' split) <;> simp

@[simp] theorem tenErrLeave_vault (s : State) (owner : Handle) (unit resource : Nat) :
    (tenErrLeave s owner unit resource).vault = s.vault := by
  unfold tenErrLeave
  split <;> simp

@[simp] theorem modFn_vault (s : State) (f : Nat) (g : HostFn → HostFn) : (modFn s f g).vault = s.vault := rfl

@[simp] theorem pushMsg_vault (s : State) (m : HMsg) : (pushMsg s m).vault = s.vault := rfl

@[simp] theorem updateIntx_vault (s : State) (f : Nat) : (updateIntx s f).vault = s.vault := by
  unfold updateIntx
  dsimp only
  (repeat' split) <;> simp

@[simp] theorem holdVector_vault (s : State) (f vec : Nat) : (holdVector s f vec).vault = s.vault := rfl

@[simp] theorem raiseVector_vault (s : State) (f vec : Nat) : (raiseVector s f vec).vault = s.vault := by
  unfold raiseVector
  split <;> simp

@[simp] theorem hostIssue_vault (s : State) (f addr : Nat) (bs : List Byte) (log : Bool) (win : Nat) (payload : Bool) :
    (hostIssue s f addr bs log win payload).vault = s.vault := by
  unfold hostIssue
  split <;> simp

@[simp] theorem hostWrite_vault (s : State) (f addr : Nat) (bs : List Byte) : (hostWrite s f addr bs).vault = s.vault := by
  simp [hostWrite]

@[simp] theorem setNv_vault (s : State) (c : Nat) (x : NvCtrl) : (setNv s c x).vault = s.vault := rfl

@[simp] theorem modNv_vault (s : State) (c : Nat) (f : NvCtrl → NvCtrl) : (modNv s c f).vault = s.vault := by
  unfold modNv
  split <;> simp

@[simp] theorem setNvQ_vault (s : State) (i : Nat) (q : NvQ) : (setNvQ s i q).vault = s.vault := rfl

@[simp] theorem freeContext_vault (s : State) (i : Nat) (bump : Bool) : (freeContext s i bump).vault = s.vault := by
  unfold freeContext
  split <;> simp

@[simp] theorem dropNvQ_vault (s : State) (i : Nat) (bump : Bool) : (dropNvQ s i bump).vault = s.vault := by
  unfold dropNvQ
  split <;> simp

@[simp] theorem nvSignal_vault (s : State) (c i : Nat) : (nvSignal s c i).vault = s.vault := by
  unfold nvSignal
  dsimp only
  (repeat' split) <;> simp

theorem nvPost_vault {s t : State} {c sqi cid status dw0 nsid : Nat} (h : nvPost s c sqi cid status dw0 nsid = some t) :
    t.vault = s.vault := by
  unfold nvPost at h
  repeat' split at h
  all_goals cases h
  all_goals simp

@[simp] theorem tryDelete_vault (s : State) (c q : Nat) : (tryDelete s c q).vault = s.vault := by
  unfold tryDelete
  split
  case h_2 => rfl
  case h_1 =>
    split
    case h_1 => rfl
    case h_2 =>
      split
      · rfl
      · split
        case h_1 => rfl
        case h_2 hpost => rw [dropNvQ_vault, nvPost_vault hpost]

@[simp] theorem nvFinish_vault (s : State) (tag status dw0 : Nat) : (nvFinish s tag status dw0).vault = s.vault := by
  unfold nvFinish
  split
  · rfl
  · split
    case h_1 => rfl
    case h_2 hpost => simp [nvPost_vault hpost]

theorem failLostVolumes_vault (s : State) : (failLostVolumes s).vault = s.vault := by
  rw [failLostVolumes]
  exact foldl_keeps (f := fun (u : State) (m : Nat × NvCmd) => nvFinish u m.1 nvInternal 0) (fun u : State => u.vault)
    (fun u m => nvFinish_vault u m.1 nvInternal 0) _ s

end Sys2Proof.Machine

end

section
/-! Key commands, drawn material and the life cycle (R402-R408) -/

namespace Sys2Proof.Machine

/-! ### Drawn material (R405) -/

theorem beNat_beBytes (n v : Nat) : beNat (beBytes n v) = v % 256 ^ n := by
  induction n generalizing v with
  | zero => simp [beBytes, beNat, Nat.mod_one]
  | succ n ih =>
    have hlast : beNat [BitVec.ofNat 8 v] = v % 256 := by simp [beNat]
    rw [beBytes, beNat_append, ih, hlast, List.length_singleton, Nat.pow_one, Nat.pow_succ', Nat.mod_mul]
    omega

/-- The bytes of a number, as those of its upper part and those of its lower one. -/
theorem beBytes_add (a b v : Nat) : beBytes (a + b) v = beBytes a (v / 256 ^ b) ++ beBytes b v := by
  induction b generalizing v with
  | zero => simp [beBytes]
  | succ b ih =>
    rw [Nat.add_succ, beBytes, ih, beBytes, Nat.div_div_eq_div_mul, ← Nat.pow_succ', List.append_assoc]

/-- Two halves are the same bytes only when they are the same number. -/
theorem halves_eq {n v : Nat} (h : beBytes n (v / 256 ^ n) = beBytes n v) : v / 256 ^ n % 256 ^ n = v % 256 ^ n := by
  simpa only [beNat_beBytes] using congrArg beNat h

/-- A number of equal halves has unequal ones once its last bit is turned over. -/
theorem halves_xor_one {v n : Nat} (h : v / 2 ^ (n + 1) = v % 2 ^ (n + 1)) : (v ^^^ 1) / 2 ^ (n + 1) ≠ (v ^^^ 1) % 2 ^ (n + 1) := by
  rw [Nat.xor_div_two_pow, Nat.xor_mod_two_pow, ← h, Nat.div_eq_of_lt (Nat.one_lt_two_pow (Nat.succ_ne_zero n)),
    Nat.mod_eq_of_lt (Nat.one_lt_two_pow (Nat.succ_ne_zero n)), Nat.xor_zero]
  intro hsame
  exact Nat.one_ne_zero (Nat.xor_right_injective (hsame.symm.trans (Nat.xor_zero _).symm))

/-- The number a key of a kind is drawn as: a scalar within its group, or a pair of unequal halves. -/
def drawnNumber (kind d : Nat) : Nat :=
  if kind = 3 ∨ kind = 4 then d % (groupOrder kind - 1) + 1
  else if kind = 2 ∧ d / 2 ^ 256 = d % 2 ^ 256 then d ^^^ 1 else d

theorem drawKey_mat (s : State) (kind : Nat) :
    (drawKey s kind).1 = beBytes (matBytes kind) (drawnNumber kind (drawTrng s (8 * matBytes kind)).1) := rfl

theorem drawnNumber_scalar {kind : Nat} (h : kind = 3 ∨ kind = 4) (d : Nat) :
    0 < drawnNumber kind d ∧ drawnNumber kind d < groupOrder kind := by
  have horder : 1 < groupOrder kind := by obtain rfl | rfl := h <;> decide
  rw [drawnNumber, if_pos h]
  have := Nat.mod_lt d (Nat.sub_pos_of_lt horder)
  omega

theorem drawnNumber_pair (d : Nat) : drawnNumber 2 d / 2 ^ 256 ≠ drawnNumber 2 d % 2 ^ 256 := by
  have h2 : ¬((2 : Nat) = 3 ∨ (2 : Nat) = 4) := by decide
  rw [drawnNumber, if_neg h2]
  split
  · next h => exact halves_xor_one h.2
  · next h => exact fun hsame => h ⟨rfl, hsame⟩

theorem drawnNumber_lt {d : Nat} (h : d < 2 ^ 512) : drawnNumber 2 d < 2 ^ 512 := by
  have h2 : ¬((2 : Nat) = 3 ∨ (2 : Nat) = 4) := by decide
  rw [drawnNumber, if_neg h2]
  split
  · exact Nat.xor_lt_two_pow h (Nat.one_lt_two_pow (by decide))
  · exact h

theorem pow256 (n : Nat) : 256 ^ n = 2 ^ (8 * n) := by
  rw [Nat.pow_mul]

/-- A drawn XTS pair has unequal halves. -/
theorem drawnPair_halves (s : State) : ((drawKey s 2).1.take 32) ≠ (((drawKey s 2).1.drop 32).take 32) := by
  have hlt : (drawTrng s (8 * matBytes 2)).1 < 2 ^ 512 := Nat.mod_lt _ (Nat.two_pow_pos 512)
  have hx := drawnNumber_lt hlt
  have hne := drawnNumber_pair (drawTrng s (8 * matBytes 2)).1
  rw [drawKey_mat]
  generalize drawnNumber 2 (drawTrng s (8 * matBytes 2)).1 = x at hx hne
  have hlen : ∀ v, (beBytes 32 v).length = 32 := length_beBytes 32
  have hsplit : beBytes (matBytes 2) x = beBytes 32 (x / 256 ^ 32) ++ beBytes 32 x := beBytes_add 32 32 x
  rw [hsplit, List.take_left' (hlen _), List.drop_left' (hlen _), List.take_of_length_le (Nat.le_of_eq (hlen _))]
  intro hsame
  have hhalf := halves_eq hsame
  rw [pow256 32, Nat.mod_eq_of_lt (Nat.div_lt_of_lt_mul (by rw [← Nat.pow_add]; exact hx))] at hhalf
  exact hne hhalf

/-- A drawn scalar is neither 0 nor the group's order or more. -/
theorem drawnScalar_fits (s : State) {kind : Nat} (h : kind = 3 ∨ kind = 4) :
    0 < beNat (drawKey s kind).1 ∧ beNat (drawKey s kind).1 < groupOrder kind := by
  have hfits := drawnNumber_scalar h (drawTrng s (8 * matBytes kind)).1
  have horder : groupOrder kind ≤ 256 ^ matBytes kind := by obtain rfl | rfl := h <;> decide
  rw [drawKey_mat, beNat_beBytes, Nat.mod_eq_of_lt (Nat.lt_of_lt_of_le hfits.2 horder)]
  exact hfits

theorem drawnKeysFit : Claims.DrawnKeysFit := by
  intro s kind _
  refine ⟨?_, length_beBytes _ _⟩
  have hpair : kind = 2 → ((drawKey s kind).1.take 32) ≠ (((drawKey s kind).1.drop 32).take 32) := by
    rintro rfl
    exact drawnPair_halves s
  have hscalar := fun h => drawnScalar_fits s (kind := kind) h
  simp only [keyMatBad, Bool.or_eq_false_iff, Bool.and_eq_false_iff, decide_eq_false_iff_not]
  by_cases h2 : kind = 2
  · exact ⟨.inr (hpair h2), .inl ⟨by omega, by omega⟩⟩
  · refine ⟨.inl h2, ?_⟩
    by_cases h34 : kind = 3 ∨ kind = 4
    · have := hscalar h34
      exact .inr ⟨by omega, by omega⟩
    · exact .inl (not_or.mp h34)
/-! ### Key commands (R405, R406) -/

theorem onlyVault_respond {s t : State} (h : OnlyVault s t) (st : Status) (r : Nat) (p : List Byte) : OnlyVault s (respond t st r p) := h

/-- A key put into a slot changes that slot, and drops the engines' copy of it. -/
theorem onlyKey_putKey {s u : State} (hvault : u.vault = s.vault) (hrest : OnlyVault s u) (i : Nat) (k : KeySlot) :
    OnlyKey s (putKey u i k) i ∧ tget (putKey u i k).vault.slots i = some k ∧
      (putKey u i k).vault.sealedDirty = (s.vault.sealedDirty || bitOf k.flags 0) := by
  refine ⟨⟨hrest, fun j hj => ?_, ?_, ?_⟩, tget_tset_same _ _ _, ?_⟩
  · rw [putKey, hvault]
    exact tget_tset_other _ _ _ _ hj
  · simp [putKey]
  · simp only [putKey, hvault, and_self]
  · rw [putKey, hvault]

theorem onlyVault_refl (s : State) : OnlyVault s s := ⟨rfl, rfl, rfl, rfl, rfl, rfl, rfl, rfl, rfl, rfl, rfl, rfl, rfl⟩

/-- A tenant's import of material goes into a slot that the tenant owns. -/
theorem keyImportTOp_owner {who : Who} {h : Handle} {r : Rec 68} {s : State} {k : KeySlot} (hk : tget s.vault.slots (ktSlot r.toNat) = some k)
    (hok : (keyImportTOp who h r).status s = .ok) : k.owner = h := by
  simp [keyImportTOp, firstStatus_append_iff, firstStatus_cons_iff, hk] at hok
  exact hok.2.2.2.1

section
variable {s : State} (hs : glenServes s = true)
include hs

theorem completes_keyGenerate {who : Who} {r : Rec 8} (hok : (keyGenerateOp who r).status s = .ok) :
    Completes (.keyGenerate who r) s (fun t => OnlyKey s t (kgSlot r.toNat) ∧
      (∃ mat, tget t.vault.slots (kgSlot r.toNat) = some
        { kind := kgKind r.toNat, flags := kgFlags r.toNat, owner := kgOwner r.toNat, mat := mat } ∧
        mat.length = matBytes (kgKind r.toNat)) ∧
      t.vault.sealedDirty = (s.vault.sealedDirty || bitOf (kgFlags r.toNat) 0) ∧ t.resp.payload = []) := by
  obtain ⟨honly, hslot, hdirty⟩ := onlyKey_putKey (s := s) (u := (drawKey s (kgKind r.toNat)).2) rfl (onlyVault_refl s)
    (kgSlot r.toNat) (keyOf r.toNat (drawKey s (kgKind r.toNat)).1)
  exact ⟨_, congrArg Host.Outcome.next (runOp_ok _ s hs hok), honly, ⟨_, hslot, length_beBytes _ _⟩, hdirty, rfl⟩

theorem completes_keyImport {who : Who} {r : Rec 72} (hok : (keyImportOp who r).status s = .ok) :
    Completes (.keyImport who r) s (fun t => OnlyKey s t (kgSlot (r.toNat / 256 ^ 64)) ∧
      tget t.vault.slots (kgSlot (r.toNat / 256 ^ 64)) = some
        { kind := kgKind (r.toNat / 256 ^ 64), flags := kgFlags (r.toNat / 256 ^ 64), owner := kgOwner (r.toNat / 256 ^ 64),
          mat := (beBytes 64 (r.toNat % 256 ^ 64)).take (matBytes (kgKind (r.toNat / 256 ^ 64))) } ∧ t.free = s.free) := by
  obtain ⟨honly, hslot, -⟩ := onlyKey_putKey (s := s) (u := s) rfl (onlyVault_refl s) (kgSlot (r.toNat / 256 ^ 64))
    (keyOf (r.toNat / 256 ^ 64) (importMat r.toNat (kgKind (r.toNat / 256 ^ 64))))
  exact ⟨_, congrArg Host.Outcome.next (runOp_ok _ s hs hok), honly, hslot, rfl⟩

theorem completes_keyImportT {who : Who} {h : Handle} {r : Rec 68} {k : KeySlot} (hok : (keyImportTOp who h r).status s = .ok)
    (hk : tget s.vault.slots (ktSlot r.toNat) = some k) :
    Completes (.keyImportT who h r) s (fun t => OnlyKey s t (ktSlot r.toNat) ∧ tget t.vault.slots (ktSlot r.toNat) = some
      { k with mat := (beBytes 64 (r.toNat % 256 ^ 64)).take (matBytes k.kind), lost := false } ∧ t.free = s.free) := by
  obtain ⟨honly, hslot, -⟩ := onlyKey_putKey (s := s) (u := s) rfl (onlyVault_refl s) (ktSlot r.toNat)
    { k with mat := importMat r.toNat k.kind, lost := false }
  have heffect : (keyImportTOp who h r).effect s =
      (putKey s (ktSlot r.toNat) { k with mat := importMat r.toNat k.kind, lost := false }, []) := by
    simp only [keyImportTOp, hk]
  refine ⟨_, congrArg Host.Outcome.next (runOp_ok _ s hs hok), ?_⟩
  rw [heffect]
  exact ⟨honly, hslot, rfl⟩

/-- A destroyed key leaves its slot empty; an empty slot stays as it is. -/
theorem completes_keyDestroy {who : Who} {x : U16} (hok : (keyDestroyOp who x.toNat).status s = .ok) :
    Completes (.keyDestroy who x) s (fun t => tget t.vault.slots x.toNat = none ∧
      (tget s.vault.slots x.toNat ≠ none → OnlyKey s t x.toNat)) := by
  refine ⟨_, congrArg Host.Outcome.next (runOp_ok _ s hs hok), ?_⟩
  simp only [keyDestroyOp]
  split
  · next hnone => exact ⟨hnone, fun h => absurd hnone h⟩
  · refine ⟨tget_terase_same _ _, fun _ => ⟨onlyVault_refl s, fun j hj => tget_terase_other _ _ _ hj, ?_, rfl, rfl, rfl, rfl, rfl⟩⟩
    simp

end

theorem keyDestroyOp_unnamed {who : Who} {i : Nat} {s : State} (hok : (keyDestroyOp who i).status s = .ok) : keyNamed s i = false := by
  simp [keyDestroyOp, firstStatus_append_iff, firstStatus_cons_iff] at hok
  exact hok.2.2.2.1

theorem completes_sealedStoreWrite {s : State} (hup : s.vault.up = true) (hdirty : s.vault.sealedDirty = true)
    (herasing : s.vault.erasing = none) (hon : keyStoreOn s = true) (hstop : s.err.failStop = false) :
    Completes .sealedStoreWrite s (fun t => OnlyVault s t ∧ t.vault.slots = s.vault.slots ∧ t.vault.sealedDirty = false ∧
      t.vault.sealed = some ((match s.vault.sealed with | some x => x.1 + 1 | none => 1), persistentSlots s)) := by
  have hexec : exec .sealedStoreWrite s = .next { s with vault := { s.vault with
      sealed := some ((match s.vault.sealed with | some x => x.1 + 1 | none => 1), persistentSlots s), sealedDirty := false } } :=
    congrArg Host.Outcome.next (if_pos ⟨hup, hdirty, by rw [herasing]; rfl, hon, Bool.eq_false_iff.mp hstop⟩)
  exact ⟨_, hexec, onlyVault_refl s, rfl, rfl, rfl⟩

theorem keyCommands : Claims.KeyCommands :=
  ⟨fun _ _ s hs hok => congrArg Host.Outcome.next (runOp_ok _ s hs hok),
    fun _ _ s hs hok => congrArg Host.Outcome.next (runOp_ok _ s hs hok),
    fun _ _ _ s hs hok => congrArg Host.Outcome.next (runOp_ok _ s hs hok),
    fun _ _ s hs hok => congrArg Host.Outcome.next (runOp_ok _ s hs hok),
    fun _ _ _ hs hok => completes_keyGenerate hs hok, fun _ _ _ hs hok => completes_keyImport hs hok,
    fun _ _ _ _ _ hs hok hk => ⟨keyImportTOp_owner hk hok, completes_keyImportT hs hok hk⟩,
    fun _ _ _ hs hok => ⟨keyDestroyOp_unnamed hok, completes_keyDestroy hs hok⟩,
    fun _ hup hdirty herasing hon hstop => completes_sealedStoreWrite hup hdirty herasing hon hstop⟩
/-! ### The life cycle (R402, R403, R408) -/

theorem lcAllowed_iff (a b : Nat) : lcAllowed a b = true ↔ (a = 1 ∧ b = 2) ∨ (a = 2 ∧ b = 3) ∨ (a < 4 ∧ b = 4) := by
  simp only [lcAllowed, Bool.or_eq_true, Bool.and_eq_true, decide_eq_true_eq]
  omega

theorem lcWord_programLc_same {s : State} {k : Nat} (hk : k < s.vault.lc.length) : lcWord (programLc s k) k = true := by
  simp [lcWord, programLc, hk]

theorem lcWord_programLc_other (s : State) {k j : Nat} (hj : j ≠ k) : lcWord (programLc s k) j = lcWord s j := by
  simp [lcWord, programLc, List.getElem?_set_ne hj.symm]

/-- The life cycle is at least past every word that is programmed. -/
theorem lcState_ge {s : State} {k : Nat} (hk : k < 4) (h : lcWord s k = true) : k + 1 ≤ lcState s := by
  unfold lcState
  obtain rfl | rfl | rfl | rfl : k = 0 ∨ k = 1 ∨ k = 2 ∨ k = 3 := by omega
  all_goals simp only [h, if_true]
  all_goals (repeat' split) <;> omega

/-- A life-cycle word programmed stands behind every state but the first. -/
theorem lcWord_lcState {s : State} (h : lcState s ≠ 0) : lcState s ≤ 4 ∧ lcWord s (lcState s - 1) = true := by
  unfold lcState at h ⊢
  repeat' split
  all_goals simp_all

/-- The life cycle never moves back while programmed words stay so. -/
theorem lcState_mono {s t : State} (h : ∀ j, lcWord s j = true → lcWord t j = true) : lcState s ≤ lcState t := by
  by_cases hzero : lcState s = 0
  · omega
  · obtain ⟨hle, hword⟩ := lcWord_lcState hzero
    have := lcState_ge (k := lcState s - 1) (by omega) (h _ hword)
    omega

theorem programLc_spec {s : State} {k : Nat} (hlen : s.vault.lc.length = 4) (hk : k < 4) :
    lcWord (programLc s k) k = true ∧ (∀ j, j ≠ k → lcWord (programLc s k) j = lcWord s j) ∧
      k + 1 ≤ lcState (programLc s k) ∧ lcState s ≤ lcState (programLc s k) := by
  have hsame : lcWord (programLc s k) k = true := lcWord_programLc_same (by omega)
  refine ⟨hsame, fun j hj => lcWord_programLc_other s hj, lcState_ge hk hsame, lcState_mono fun j hj => ?_⟩
  by_cases he : j = k
  · rw [he, hsame]
  · rw [lcWord_programLc_other s he, hj]

/-- The first steps of an erasure: no key register, no key of the store readable, the other steps under way. -/
theorem erasing_startErasure (s : State) (a : AfterErase) : Erasing s (startErasure s a) a := by
  have hvault := failLostVolumes_vault
  refine ⟨?_, ?_, rfl, ?_, ?_, fun i => ?_, mem_of_frame (frame_startErasure s a)⟩
  all_goals simp only [startErasure, eraseKeys, hvault, tget_tmap]

theorem lcAdvanceOp_allowed {who : Who} {r : Rec 132} {s : State} (hok : (lcAdvanceOp who r).status s = .ok) :
    lcAllowed (lcState s) (laTarget r.toNat) = true := by
  simp [lcAdvanceOp, firstStatus_append_iff, firstStatus_cons_iff] at hok
  exact hok.2.1

theorem lifeCycle : Claims.LifeCycle := by
  refine ⟨fun _ _ s hs hok => congrArg Host.Outcome.next (runOp_ok _ s hs hok), lcAllowed_iff, fun _ _ => programLc_spec, ?advance, ?erased⟩
  case erased =>
    intro s a ha
    show ∃ t, execErasureComplete s = .next t ∧ _
    simp only [execErasureComplete, ha]
    cases a <;> exact ⟨_, rfl, onlyVault_refl s, rfl, rfl, rfl, rfl, rfl, rfl, rfl, rfl⟩
  intro who r s hs hok
  have hrun : exec (.lcAdvance who r) s = .next (respond (if laTarget r.toNat = 2 then programLc s 1
      else startErasure s (.lcWord (laTarget r.toNat - 1))) .ok 0 []) := congrArg Host.Outcome.next (runOp_ok _ s hs hok)
  refine ⟨lcAdvanceOp_allowed hok, fun h => ?_, fun h => ?_⟩
  · rw [hrun, if_pos h]
  · rw [if_neg h] at hrun
    exact ⟨_, hrun, erasing_startErasure s _⟩

/-- Settles O45: the key slots by what a put key changes, the drawn material by its number, the life cycle by its words. -/
theorem keysAndLifeCycle : Obligations.KeysAndLifeCycle := ⟨keyCommands, drawnKeysFit, lifeCycle⟩

end Sys2Proof.Machine

end

section
/-! Debug, tamper inputs, the vault engine and security associations (R409-R420) -/

namespace Sys2Proof.Machine

/-! ### Debug, tamper inputs and the random source (R409-R412) -/

theorem debugUnlockOp_fits {who : Who} {r : Rec 148} {s : State} (hok : (debugUnlockOp who r).status s = .ok) :
    unlockFits s (beBytes 148 r.toNat) = true := by
  simp [debugUnlockOp, firstStatus_append_iff, firstStatus_cons_iff] at hok
  exact hok.2.1.2

theorem exec_debugUnlock {who : Who} {r : Rec 148} {s : State} (hs : glenServes s = true)
    (hok : (debugUnlockOp who r).status s = .ok) : exec (.debugUnlock who r) s = .next (respond (
      if s.vault.lcBoot = 2 then startErasure s (.openPorts (recField 148 48 1 r.toNat % 8))
      else { s with vault := { s.vault with scope := s.vault.scope ||| (recField 148 48 1 r.toNat % 8) } }) .ok 0 []) :=
  congrArg Host.Outcome.next (runOp_ok _ s hs hok)

theorem startErasure_scope (s : State) (a : AfterErase) : (startErasure s a).vault.scope = s.vault.scope := by
  simp only [startErasure, eraseKeys, failLostVolumes_vault]

theorem tamperLockOp_unlocked {who : Who} {x : U8} {s : State} (hok : (tamperLockOp who x).status s = .ok) :
    tamperLocked s = false := by
  simp [tamperLockOp, firstStatus_append_iff, firstStatus_cons_iff] at hok
  exact hok.2.2

theorem exec_tamperSample {a b : Bool} {s : State} (hvaon : s.clk.vaon = true) (h0 : tamperRun s.vault.tamper0 (tamperActive s 0 a) ≠ 2)
    (h1 : tamperRun s.vault.tamper1 (tamperActive s 1 b) ≠ 2) : exec (.tamperSample a b) s = .next { s with vault := { s.vault with
      tamper0 := tamperRun s.vault.tamper0 (tamperActive s 0 a), tamper1 := tamperRun s.vault.tamper1 (tamperActive s 1 b) } } := by
  show execTamperSample a b s = _
  simp only [execTamperSample, hvaon, if_true, if_neg h0, if_neg h1]

/-- Every key of an erased store is marked lost and without material. -/
theorem Erasing.slots_lost {s t : State} {a : AfterErase} (h : Erasing s t a) {i : Nat} {k : KeySlot}
    (hk : tget t.vault.slots i = some k) : k.lost = true ∧ k.mat = [] := by
  obtain ⟨-, -, -, -, -, hslots, -⟩ := h
  rw [hslots, Option.map_eq_some_iff] at hk
  obtain ⟨k', -, rfl⟩ := hk
  exact ⟨rfl, rfl⟩

theorem startErasure_tamperLog (s : State) (a : AfterErase) : (startErasure s a).vault.tamperLog = s.vault.tamperLog := by
  simp only [startErasure, eraseKeys, failLostVolumes_vault]

/-- A tamper event as it is logged, and told to Glen where Glen runs. -/
def tamperLogged (s : State) (i : Nat) : State :=
  let s1 : State := { s with vault := { s.vault with tamperLog := keep 4 ((i, s.clk.rtc) :: s.vault.tamperLog) } }
  if s1.boot.glenUp then raise s1 { cls := 10, name := "TAMPER", unit := unitId 2 8 2 0xFFF, resource := i } else s1

theorem tamperLogged_vault (s : State) (i : Nat) :
    (tamperLogged s i).vault = { s.vault with tamperLog := keep 4 ((i, s.clk.rtc) :: s.vault.tamperLog) } := by
  unfold tamperLogged
  dsimp only
  split <;> rfl

/-- A tamper event whose input has the action of an erasure, with the vault up and no erasure under way. -/
theorem tamperEvent_eq {s : State} {i : Nat} (hup : s.vault.up = true) (herasing : s.vault.erasing = none)
    (haction : tamperAction s i = 1) : tamperEvent s i = startErasure (tamperLogged s i) .nothing := by
  have hvault := tamperLogged_vault s i
  have hup' : (tamperLogged s i).vault.up = true := (congrArg Vault.up hvault).trans hup
  have herasing' : (tamperLogged s i).vault.erasing = none := (congrArg Vault.erasing hvault).trans herasing
  have hevent : tamperEvent s i = if tamperAction s i = 1 then
      if (tamperLogged s i).vault.up then
        startErasure (tamperLogged s i) (match (tamperLogged s i).vault.erasing with | some a => a | none => .nothing)
      else { eraseKeys (tamperLogged s i) with vault := { (eraseKeys (tamperLogged s i)).vault with tamperErase := true } }
      else tamperLogged s i := rfl
  simp only [hevent, if_pos haction, hup', herasing', if_true]

theorem tamperEvent_erases {s : State} {i : Nat} (hup : s.vault.up = true) (herasing : s.vault.erasing = none)
    (haction : tamperAction s i = 1) : (tamperEvent s i).vault.keyReg = 0 ∧ (tamperEvent s i).vault.erasing = some .nothing ∧
      (tamperEvent s i).vault.tamperLog = keep 4 ((i, s.clk.rtc) :: s.vault.tamperLog) ∧
      (∀ j k, tget (tamperEvent s i).vault.slots j = some k → k.lost = true ∧ k.mat = []) := by
  have herase := erasing_startErasure (tamperLogged s i) .nothing
  obtain ⟨hreg, -, hafter, -⟩ := id herase
  rw [tamperEvent_eq hup herasing haction]
  exact ⟨hreg, hafter, by rw [startErasure_tamperLog, tamperLogged_vault], fun j k => herase.slots_lost⟩

theorem exec_tamperSample_event {a b : Bool} {s : State} (hvaon : s.clk.vaon = true) (ha : tamperActive s 0 a = true)
    (hb : tamperActive s 1 b = false) (hfirst : s.vault.tamper0 = 1) : exec (.tamperSample a b) s =
      .next (tamperEvent { s with vault := { s.vault with tamper0 := 2, tamper1 := 0 } } 0) := by
  show execTamperSample a b s = _
  simp [execTamperSample, hvaon, ha, hb, hfirst, tamperRun]

theorem completes_trngFailed {s : State} (htrng : s.vault.trng ≠ 2) (hup : s.vault.up = true) (hstop : s.err.failStop = false)
    (hfew : (s.vault.trngFails.filter (fun u => decide (s.time.sec < u + 3600))).length < 2) :
    Completes .trngFailed s (fun t => t.vault.trng = 0 ∧
      t.vault.trngFails = s.time.sec :: s.vault.trngFails.filter (fun u => decide (s.time.sec < u + 3600)) ∧
      t.vault.slots = s.vault.slots ∧ t.mem = s.mem ∧ t.dict = s.dict) := by
  have hthird : ¬3 ≤ (s.time.sec :: s.vault.trngFails.filter (fun u => decide (s.time.sec < u + 3600))).length := by
    rw [List.length_cons]
    omega
  have hserves : ¬(s.vault.trng = 2 ∨ ¬s.vault.up = true ∨ s.err.failStop = true) := by simp [htrng, hup, hstop]
  show ∃ t, execTrngFailed s = .next t ∧ _
  simp only [execTrngFailed, if_neg hserves, if_neg hthird]
  exact ⟨_, rfl, rfl, rfl, rfl, rfl, rfl⟩

theorem exec_trngStartupTestDone {s : State} (h : s.vault.trng = 0) :
    exec .trngStartupTestDone s = .next { s with vault := { s.vault with trng := 1 } } := by
  show execTrngStartupTestDone s = _
  simp only [execTrngStartupTestDone, h, if_true]

theorem debugAndTamper : Claims.DebugAndTamper := by
  refine ⟨fun _ s hs hok => congrArg Host.Outcome.next (runOp_ok _ s hs hok),
    fun _ _ s hs hok => congrArg Host.Outcome.next (runOp_ok _ s hs hok),
    fun _ _ s hs hok => congrArg Host.Outcome.next (runOp_ok _ s hs hok), ?challenge, ?unlock, ?lock, ?sample, ?event,
    fun _ htrng hup hstop hfew => completes_trngFailed htrng hup hstop hfew,
    fun s h => ⟨_, exec_trngStartupTestDone h, onlyVault_refl s, rfl⟩⟩
  case challenge =>
    intro who s hs hok
    exact ⟨_, congrArg Host.Outcome.next (runOp_ok _ s hs hok), onlyVault_refl s, length_beBytes _ _, rfl, rfl⟩
  case unlock =>
    intro who r s hs hok
    have hrun := exec_debugUnlock hs hok
    refine ⟨debugUnlockOp_fits hok, fun h => ?_, fun h => ?_⟩
    · rw [if_pos h] at hrun
      exact ⟨_, hrun, erasing_startErasure s _, startErasure_scope s _⟩
    · rw [if_neg h] at hrun
      exact ⟨_, hrun, onlyVault_refl s, rfl, rfl⟩
  case lock =>
    intro who x s hs hok
    refine ⟨tamperLockOp_unlocked hok, congrArg Host.Outcome.next (runOp_ok _ s hs hok), ?_⟩
    rintro rfl
    simp [tamperLocked]
  case sample =>
    intro a b s hvaon h0 h1
    exact ⟨_, exec_tamperSample hvaon h0 h1, onlyVault_refl s, rfl⟩
  case event =>
    intro a b s hvaon ha hb hfirst _ hup herasing haction
    obtain ⟨hreg, hafter, hlog, hslots⟩ := tamperEvent_erases
      (s := { s with vault := { s.vault with tamper0 := 2, tamper1 := 0 } }) (i := 0) hup herasing haction
    exact ⟨_, exec_tamperSample_event hvaon ha hb hfirst, hreg, hafter, hlog, hslots, mem_of_frame (frame_tamperEvent _ _)⟩

/-! ### The vault engine (R415, R416) -/

theorem hashRange_sound {s : State} {alg addr len : Nat} (h : poisoned s addr len = false) :
    hashRange s alg addr len = (sliceD (Config.hash alg (readInt s addr len)) 0 (digestBytes alg) 0, s) :=
  if_neg (Bool.eq_false_iff.mp h)

theorem slotMat_of_some {s : State} {slot : Nat} {k : KeySlot} (h : tget s.vault.slots slot = some k) : slotMat s slot = k.mat := by
  simp only [slotMat, h]

/-- The checks of a key slot that an engine may use. -/
theorem slotChecks_ok {s : State} {alg slot : Nat} {k : KeySlot} (hk : tget s.vault.slots slot = some k)
    (h : firstStatus (slotChecks s alg slot) = .ok) : k.lost = false ∧ k.kind = algKind alg ∧ k.owner = 0 := by
  simp [slotChecks, hk, firstStatus_cons_iff] at h
  exact ⟨h.1.2, h.1.1, h.2⟩

theorem vaultSignOp_slot {who : Who} {alg slot : Nat} {msg : List Byte} {s : State}
    (hok : (vaultSignOp who alg slot msg).status s = .ok) : firstStatus (slotChecks s alg slot) = .ok := by
  simp only [vaultSignOp, firstStatus_append_iff] at hok
  exact hok.1.2

theorem vaultEcdhOp_slot {who : Who} {alg slot : Nat} {peer : List Byte} {s : State}
    (hok : (vaultEcdhOp who alg slot peer).status s = .ok) : firstStatus (slotChecks s alg slot) = .ok := by
  simp only [vaultEcdhOp, firstStatus_append_iff] at hok
  exact hok.1.2

/-- The prime of a curve's field. -/
def fieldPrime (alg : Nat) : Nat := if alg = 2 then prime384 else prime256

/-- The checks of a peer's point: its coordinates, then the curve. -/
theorem pointResult_eq (alg x y : Nat) : pointResult alg x y =
    if fieldPrime alg ≤ x ∨ fieldPrime alg ≤ y then 3 else if onCurve alg x y then 0 else 4 := rfl

theorem pointResult_range (alg x y : Nat) : pointResult alg x y = 3 ↔ fieldPrime alg ≤ x ∨ fieldPrime alg ≤ y := by
  rw [pointResult_eq]
  split
  · next h => exact ⟨fun _ => h, fun _ => rfl⟩
  · next h => split <;> simp [h]

theorem onCurve_of_pointResult {alg x y : Nat} (h : pointResult alg x y = 0) : onCurve alg x y = true := by
  rw [pointResult_eq] at h
  split at h
  · cases h
  · split at h
    · next hcurve => exact hcurve
    · cases h

section
variable (ops : List Byte)

/-- The numbers of a P-256 verification: the public point and the two halves of the signature. -/
def p256Field (i : Nat) : Nat := beNat ((ops.drop (i * 32)).take 32)

/-- The checks of a P-256 verification, in their order. -/
theorem verifyResult_p256 : verifyResult 1 ops =
    if p256Field ops 3 = 0 ∨ p256Field ops 4 = 0 then 2
    else if order256 ≤ p256Field ops 3 ∨ order256 ≤ p256Field ops 4 then 3
    else if pointResult 1 (p256Field ops 0) (p256Field ops 1) ≠ 0 then pointResult 1 (p256Field ops 0) (p256Field ops 1)
    else if Config.verify (4 :: ops.take 64) ((ops.drop 64).take 32) (ops.drop 96) then 0 else 1 := rfl

theorem verifyResult_zero_scalar (h : p256Field ops 3 = 0 ∨ p256Field ops 4 = 0) : verifyResult 1 ops = 2 := by
  rw [verifyResult_p256, if_pos h]

theorem verifyResult_passes (h : verifyResult 1 ops = 0) : 0 < p256Field ops 3 ∧ p256Field ops 3 < order256 ∧
    0 < p256Field ops 4 ∧ p256Field ops 4 < order256 ∧ onCurve 1 (p256Field ops 0) (p256Field ops 1) = true := by
  rw [verifyResult_p256] at h
  split at h
  · cases h
  · next hzero =>
    split at h
    · cases h
    · next hrange =>
      split at h
      · next hpoint => exact absurd h hpoint
      · next hpoint =>
        rw [not_or] at hzero hrange
        exact ⟨Nat.pos_of_ne_zero hzero.1, Nat.lt_of_not_le hrange.1, Nat.pos_of_ne_zero hzero.2, Nat.lt_of_not_le hrange.2,
          onCurve_of_pointResult (not_not.mp hpoint)⟩

end

theorem vaultEngine : Claims.VaultEngine := by
  refine ⟨fun _ _ _ _ s hs hok => congrArg Host.Outcome.next (runOp_ok _ s hs hok), ?hash, ?sign,
    fun _ _ _ s hs hok => congrArg Host.Outcome.next (runOp_ok _ s hs hok), ?ecdh, ?random,
    fun alg x y => ⟨pointResult_range alg x y, onCurve_of_pointResult⟩, verifyResult_zero_scalar, verifyResult_passes⟩
  case hash =>
    intro who alg addr len s hs hok hpoison
    have hrun : exec (.vaultHash who alg addr len) s = .next (respond (hashRange s alg.toNat addr.toNat len.toNat).2 .ok 0
        (resultRec 0 (hashRange s alg.toNat addr.toNat len.toNat).1)) := congrArg Host.Outcome.next (runOp_ok _ s hs hok)
    rw [hrun, hashRange_sound hpoison]
  case sign =>
    intro who alg slot msg s k hs hk hok
    obtain ⟨hlost, hkind, howner⟩ := slotChecks_ok hk (vaultSignOp_slot hok)
    refine ⟨hlost, hkind, howner, ?_⟩
    rw [← slotMat_of_some hk]
    exact congrArg Host.Outcome.next (runOp_ok _ s hs hok)
  case ecdh =>
    intro who alg slot peer s k hs hk hok
    obtain ⟨hlost, -, -⟩ := slotChecks_ok hk (vaultEcdhOp_slot hok)
    refine ⟨hlost, ?_⟩
    rw [← slotMat_of_some hk]
    exact congrArg Host.Outcome.next (runOp_ok _ s hs hok)
  case random =>
    intro who len s hs hok
    exact ⟨_, congrArg Host.Outcome.next (runOp_ok _ s hs hok), onlyVault_refl s, rfl, rfl, _, length_beBytes _ _, rfl⟩

/-! ### Security associations (R418, R420) -/

/-- A write of an association that passes: its fields fit unless the record is all zero, and its packet number does not fall. -/
theorem saWriteOp_ok {who : Who} {a : Fin 16384} {r : Rec 64} {s : State} (hok : (saWriteOp who a r).status s = .ok) :
    (saIn r.toNat ≠ 0 → saBad s (saOfRec r.toNat) = false) ∧ saLowers (saOf s a) (saOfRec r.toNat) = false := by
  simp only [saWriteOp, firstStatus_append_iff] at hok
  obtain ⟨-, hchecks⟩ := hok
  rw [firstStatus_cons_iff (by decide), Bool.or_eq_false_iff] at hchecks
  obtain ⟨⟨hbad, hlowers⟩, -⟩ := hchecks
  refine ⟨fun hne => ?_, hlowers⟩
  simpa [hne] using hbad

theorem associations : Claims.Associations := by
  refine ⟨fun _ _ _ s hs hok => congrArg Host.Outcome.next (runOp_ok _ s hs hok), fun who a r s hs hok => ?_⟩
  obtain ⟨hbad, hlowers⟩ := saWriteOp_ok hok
  exact ⟨hbad, hlowers, _, congrArg Host.Outcome.next (runOp_ok _ s hs hok), numD_setNum_same _ _ _ _, tget_terase_same _ _,
    fun k hk => numD_setNum_other _ _ _ _ _ hk, fun b hb => tget_terase_other _ _ _ hb, rfl, rfl, rfl⟩

/-- Settles O46: the tamper inputs by their event, the vault engine by its checks in their order, the associations by the two
tables that a write changes. -/
theorem vaultServices : Obligations.VaultServices := ⟨debugAndTamper, vaultEngine, associations⟩

end Sys2Proof.Machine

end

section
/-! The ROM, component loads and releases (R433-R437) -/

namespace Sys2Proof.Machine

@[simp] theorem raise_boot (s : State) (m : EvtMsg) : (raise s m).boot = s.boot := rfl

@[simp] theorem aonRecord_boot (s : State) (unit cause level rtc : Nat) : (aonRecord s unit cause level rtc).boot = s.boot :=
  rfl

@[simp] theorem logErr_boot (s : State) (r : ErrRec) : (logErr s r).boot = s.boot := rfl

@[simp] theorem aonChip_boot (r : ErrRec) (s : State) : (aonChip r s).boot = s.boot := rfl

@[simp] theorem setCarve_boot (s : State) (stack : Nat) (c : Carve) : (setCarve s stack c).boot = s.boot := rfl

@[simp] theorem powerUp_boot (s : State) (q : Nat) : (powerUp s q).boot = s.boot := by
  unfold powerUp
  dsimp only
  (repeat' split) <;> simp
@[simp] theorem raise_vault (s : State) (m : EvtMsg) : (raise s m).vault = s.vault := rfl

@[simp] theorem aonRecord_vault (s : State) (unit cause level rtc : Nat) : (aonRecord s unit cause level rtc).vault = s.vault :=
  rfl

@[simp] theorem logErr_vault (s : State) (r : ErrRec) : (logErr s r).vault = s.vault := rfl

@[simp] theorem aonChip_vault (r : ErrRec) (s : State) : (aonChip r s).vault = s.vault := rfl

@[simp] theorem setCarve_vault (s : State) (stack : Nat) (c : Carve) : (setCarve s stack c).vault = s.vault := rfl

@[simp] theorem powerUp_vault (s : State) (q : Nat) : (powerUp s q).vault = s.vault := by
  unfold powerUp
  dsimp only
  (repeat' split) <;> simp
/-! ### The ROM (R433, R434, R437) -/

/-- The stored SLOT_POWER of one slot, taken at boot. -/
def slotPowered (s : State) (q : Nat) : State := if numD s (okey 0x6801 q) 0 = 1 then powerUp s q else s

theorem slotPowered_boot (s : State) (q : Nat) : (slotPowered s q).boot = s.boot := by
  unfold slotPowered
  split <;> simp

theorem slotPowered_vault (s : State) (q : Nat) : (slotPowered s q).vault = s.vault := by
  unfold slotPowered
  split <;> simp

theorem powerStored_boot (s : State) : (powerStored s).boot = s.boot :=
  foldl_keeps (f := slotPowered) (fun u : State => u.boot) slotPowered_boot (List.range 4) s

theorem powerStored_vault (s : State) : (powerStored s).vault = s.vault :=
  foldl_keeps (f := slotPowered) (fun u : State => u.vault) slotPowered_vault (List.range 4) s

/-- One stack carved at boot, and its event where the carve is reduced. -/
def stackCarved (s : State) (k : Nat) : State :=
  let c := carveFor s k
  let b := setCarve s k { c.1 with repaired := (carveOf s k).repaired }
  if c.2 then raise b { cls := 9, name := "HBM_CARVE_REDUCED", unit := unitId 2 5 (4 + k) 0xFFF, resource := k, detail := c.1.flood }
  else b

theorem stackCarved_boot (s : State) (k : Nat) : (stackCarved s k).boot = s.boot := by
  unfold stackCarved
  dsimp only
  split <;> rfl

theorem stackCarved_vault (s : State) (k : Nat) : (stackCarved s k).vault = s.vault := by
  unfold stackCarved
  dsimp only
  split <;> rfl

theorem carveHbm_boot (s : State) : (carveHbm s).boot = s.boot :=
  foldl_keeps (f := stackCarved) (fun u : State => u.boot) stackCarved_boot [0, 1] s

theorem carveHbm_vault (s : State) : (carveHbm s).vault = s.vault :=
  foldl_keeps (f := stackCarved) (fun u : State => u.vault) stackCarved_vault [0, 1] s

/-- Glen's release: what it writes of the boot state; the vault stays. -/
theorem releaseGlen_spec (s : State) : (releaseGlen s).boot = { s.boot with
      glenUp := true, hostUp := !decide (s.vault.lcBoot = 4), stage := if s.vault.lcBoot = 4 then 3 else 4, loaded := [1]
      tablesInit := true } ∧ (releaseGlen s).vault = s.vault := by
  unfold releaseGlen
  dsimp only
  split
  · next h => simp [carveHbm_boot, carveHbm_vault, setBoot, of_decide_eq_true h]
  · next h => simp [powerStored_boot, powerStored_vault, carveHbm_boot, carveHbm_vault, setBoot, of_decide_eq_false (Bool.eq_false_iff.mpr h)]

/-- The state in which the image of a slot that passes is booted. -/
def candBoots (s : State) (k : Nat) : State :=
  slotOutcome (setBoot s { s.boot with
    running := k, version := imgVersion (slotImage s k), header := sliceD (slotImage s k) 0 864 0xFF, cands := [], stage := 3 }) k .ok

/-- An image that passes outside life-cycle state Blank boots: Glen is released. -/
theorem bootSlot_blown {s : State} {k : Nat} (hlc : s.vault.lcBoot ≠ 0) : bootSlot s k = releaseGlen (candBoots s k) := by
  unfold bootSlot
  dsimp only
  split
  · next h _ =>
    refine absurd ?_ hlc
    exact h
  · rfl

theorem candBoots_running (s : State) (k : Nat) : (candBoots s k).boot.running = k := by
  unfold candBoots slotOutcome
  split <;> rfl

theorem candBoots_vault (s : State) (k : Nat) : (candBoots s k).vault = s.vault := rfl

theorem tryCands_passes {k : Nat} {ks : List Nat} {s : State} (h : imgVerify s (slotImage s k) false = .ok) :
    tryCands (k :: ks) s = bootSlot s k := by
  unfold tryCands
  simp only [h]

/-- The state in which a candidate that fails leaves the rest to be tried. -/
def candFailed (s : State) (k : Nat) (ks : List Nat) (st : Status) : State :=
  slotFailed (setBoot s { s.boot with cands := ks, tries := 0 }) k st

theorem tryCands_fails {k : Nat} {ks : List Nat} {s : State} {st : Status} (h : imgVerify s (slotImage s k) false = st) (hst : st ≠ .ok) :
    tryCands (k :: ks) s = tryCands ks (candFailed s k ks st) := by
  conv => lhs; unfold tryCands
  dsimp only
  split
  · next hok => exact absurd (h.symm.trans hok) hst
  · rw [h]
    rfl

section
variable {s : State} {k : Nat} {ks : List Nat} {st : Status}

theorem slotFailed_boot (s : State) (k : Nat) (st : Status) : (slotFailed s k st).boot = (slotOutcome s k st).boot := rfl

theorem candFailed_boot : (candFailed s k ks st).boot = (slotOutcome (setBoot s { s.boot with cands := ks, tries := 0 }) k st).boot :=
  slotFailed_boot _ k st

theorem candFailed_outcome : (if k = 0 then (candFailed s k ks st).boot.outA else (candFailed s k ks st).boot.outB) = statusCode st := by
  rw [candFailed_boot, slotOutcome]
  split <;> rfl

theorem candFailed_rest : (candFailed s k ks st).boot.cands = ks ∧ (candFailed s k ks st).boot.tries = 0 ∧
    (candFailed s k ks st).boot.stage = s.boot.stage ∧ (candFailed s k ks st).boot.glenUp = s.boot.glenUp ∧
    (candFailed s k ks st).vault = s.vault ∧ (candFailed s k ks st).mem = s.mem := by
  rw [candFailed_boot, slotOutcome]
  split <;> exact ⟨rfl, rfl, rfl, rfl, rfl, rfl⟩

end

theorem bootStops_stage (s : State) : (bootStops s).boot.stage = 0xE1 ∨ (bootStops s).boot.stage = 0xE2 := by
  unfold bootStops
  simp only [setBoot]
  split
  · exact .inr rfl
  · exact .inl rfl

/-- Boot that stops with an outcome beside no answer stops as refused. -/
theorem bootStops_refused {s : State} {n : Nat} (h : n ∈ [s.boot.outA, s.boot.outB]) (hzero : n ≠ 0) (htimeout : n ≠ statusCode .timeout) :
    (bootStops s).boot.stage = 0xE1 := by
  refine if_neg fun ⟨_, hall⟩ => htimeout ?_
  have hin : n ∈ [s.boot.outA, s.boot.outB].filter (fun c => decide (c ≠ 0)) := List.mem_filter.mpr ⟨h, by simpa using hzero⟩
  simpa using List.all_eq_true.mp hall n hin

theorem romReady_at {s : State} (h : s.boot.stage = 2) : romReady s = s := by
  rw [romReady, if_neg (by omega)]

theorem exec_romBoot {s : State} (hruns : romRuns s = true) (hstage : s.boot.stage = 2) :
    exec .romBoot s = .next (tryCands s.boot.cands s) := by
  show execRomBoot s = _
  simp only [execRomBoot, hruns, if_true, romReady_at hstage]

theorem romRuns_glenDown {s : State} (h : romRuns s = true) : s.boot.glenUp = false := by
  simp [romRuns] at h
  exact h.1.1.2

theorem statusCode_ne_zero {st : Status} (h : st ≠ .ok) : statusCode st ≠ 0 := by
  cases st <;> simp_all [statusCode]

theorem statusCode_ne_timeout {st : Status} (h : st ≠ .timeout) : statusCode st ≠ statusCode .timeout := by
  cases st <;> simp_all [statusCode]

theorem completes_romBoot_none {s : State} (hruns : romRuns s = true) (hstage : s.boot.stage = 2) (hcands : s.boot.cands = []) :
    Completes .romBoot s (fun t => OnlyBoot s t ∧ t.boot.glenUp = false ∧ (t.boot.stage = 0xE1 ∨ t.boot.stage = 0xE2)) := by
  refine ⟨_, exec_romBoot hruns hstage, ?_⟩
  rw [hcands]
  unfold tryCands
  exact ⟨rfl, romRuns_glenDown (s := s) hruns, bootStops_stage s⟩

theorem completes_romBoot_passes {s : State} {k : Nat} {ks : List Nat} (hruns : romRuns s = true) (hstage : s.boot.stage = 2)
    (hcands : s.boot.cands = k :: ks) (hlc : s.vault.lcBoot ≠ 0) (hok : imgVerify s (slotImage s k) false = .ok) :
    Completes .romBoot s (fun t => t.boot.glenUp = true ∧ t.boot.running = k ∧ t.boot.hostUp = decide (s.vault.lcBoot ≠ 4) ∧
      t.boot.stage = (if s.vault.lcBoot = 4 then 3 else 4) ∧ t.vault = s.vault ∧ t.mem = s.mem ∧ t.boot.loaded = [1] ∧
      t.boot.tablesInit = true) := by
  refine ⟨_, exec_romBoot hruns hstage, ?_⟩
  rw [hcands, tryCands_passes hok]
  have hmem : (bootSlot s k).mem = s.mem := mem_of_frame (frame_bootSlot s k)
  rw [bootSlot_blown hlc] at hmem ⊢
  obtain ⟨hboot, hvault⟩ := releaseGlen_spec (candBoots s k)
  simp only [hboot, hvault, candBoots_vault, candBoots_running, hmem, decide_not]
  exact ⟨trivial, trivial, rfl, rfl, trivial, trivial, trivial, trivial⟩

theorem completes_romBoot_last {s : State} {k : Nat} {st : Status} (hruns : romRuns s = true) (hstage : s.boot.stage = 2)
    (hcands : s.boot.cands = [k]) (hfails : imgVerify s (slotImage s k) false = st) (hok : st ≠ .ok) (htimeout : st ≠ .timeout) :
    Completes .romBoot s (fun t => t.boot.stage = 0xE1 ∧ t.boot.glenUp = false ∧
      (if k = 0 then t.boot.outA else t.boot.outB) = statusCode st ∧ t.vault = s.vault ∧ t.mem = s.mem) := by
  refine ⟨_, exec_romBoot hruns hstage, ?_⟩
  rw [hcands, tryCands_fails hfails hok]
  unfold tryCands
  have hout := candFailed_outcome (s := s) (k := k) (ks := []) (st := st)
  obtain ⟨-, -, -, hglen, hvault, hmem⟩ := candFailed_rest (s := s) (k := k) (ks := []) (st := st)
  refine ⟨bootStops_refused (n := statusCode st) ?_ (statusCode_ne_zero hok) (statusCode_ne_timeout htimeout),
    hglen.trans (romRuns_glenDown hruns), hout, hvault, hmem⟩
  rw [← hout]
  split <;> simp

section
variable {s : State} {k : Nat} {ks : List Nat} (hruns : romRuns s = true) (hstage : s.boot.stage = 2) (hcands : s.boot.cands = k :: ks)
include hruns hstage hcands

theorem exec_flashReadTimeout_first (htries : s.boot.tries = 0) :
    exec .flashReadTimeout s = .next (setBoot s { s.boot with tries := 1 }) := by
  show execFlashReadTimeout s = _
  simp only [execFlashReadTimeout, hruns, if_true, romReady_at hstage, hcands, htries]

theorem exec_flashReadTimeout_second (htries : s.boot.tries ≠ 0) (hks : ks ≠ []) :
    exec .flashReadTimeout s = .next (candFailed s k ks .timeout) := by
  show execFlashReadTimeout s = _
  simp only [execFlashReadTimeout, hruns, if_true, romReady_at hstage, hcands, if_neg htries, if_neg hks]
  rfl

end

theorem exec_flashRelease {s : State} (h : s.boot.stage = 0xE1 ∨ s.boot.stage = 0xE2) :
    exec .flashRelease s = .next (setBoot s { s.boot with flashFree := true }) :=
  congrArg Host.Outcome.next (if_pos h)

theorem romAndFlash : Claims.RomAndFlash := by
  refine ⟨fun _ => completes_romBoot_none, fun _ _ _ => completes_romBoot_passes, fun _ _ _ hruns hstage hcands _ => completes_romBoot_last hruns hstage hcands,
    fun s k ks hruns hstage hcands => ⟨fun htries => ?_, fun htries hks => ?_⟩, fun s h => ⟨_, exec_flashRelease h, rfl, rfl⟩⟩
  · exact ⟨_, exec_flashReadTimeout_first hruns hstage hcands htries, rfl, rfl⟩
  · obtain ⟨hrest, htries', hstage', -, hvault, hmem⟩ := candFailed_rest (s := s) (k := k) (ks := ks) (st := .timeout)
    exact ⟨_, exec_flashReadTimeout_second hruns hstage hcands htries hks, hrest, htries', hstage'.trans hstage, candFailed_outcome, hmem, hvault⟩

/-! ### Components and releases (R435, R436) -/

section
variable {s : State} {c : Comp} (hdue : loadDue s 2 = true) (hcomp : compOf s.boot.header 2 = some c)
include hdue hcomp

theorem exec_componentLoad_fits (hfits : compFits (runningImage s) c = true) (haddr : inDdr s c.load c.len = true) :
    exec (.componentLoad 2) s = .next (setBoot (writeInt s c.load (compBytes (runningImage s) c))
      { s.boot with loaded := s.boot.loaded ++ [2] }) := by
  have hkind : ((2 : Fin 6).val) = 2 := rfl
  show execComponentLoad 2 s = _
  simp only [execComponentLoad, hkind, hdue, if_true, hcomp, hfits, haddr, not_true_eq_false, if_false]
  rfl

theorem exec_componentLoad_differs (hfits : compFits (runningImage s) c = false) :
    exec (.componentLoad 2) s = .next (digestExclude s) := by
  have hkind : ((2 : Fin 6).val) = 2 := rfl
  show execComponentLoad 2 s = _
  simp only [execComponentLoad, hkind, hdue, if_true, hcomp, hfits, Bool.false_eq_true, not_false_eq_true]

end

/-- A working quad's release: its power domain is on. -/
def quadOn (s : State) (q : Nat) : State := setDom s (3 + q) { st := 2 }

/-- A hart's restart address is the entry of component 2. -/
def hartEntry (e : Nat) (s : State) (h : Nat) : State :=
  setHart s h { hartOf s h with pcLo := BitVec.ofNat 32 e, pcHi := e / 2 ^ 32 % 65536 }

/-- The harts and quads as a release of the Steppe cluster sets them, before a hart runs. -/
def steppeSet (s : State) (e : Nat) : State :=
  (List.range 24).foldl (hartEntry e) (((List.range 6).filter (fun q => !quadRetired s q)).foldl quadOn s)

/-- Hart 0 runs from its restart address, and boot is past the release. -/
def steppeStarted (u : State) : State :=
  let w := setHart u 0 { hartOf u 0 with run := true, stopped := false, pc := restartPc (hartOf u 0) }
  setBoot w { w.boot with steppeUp := true, stage := 5 }

theorem steppeStarted_spec (u : State) : (steppeStarted u).boot.stage = 5 ∧ (steppeStarted u).boot.steppeUp = true ∧
    hartOf (steppeStarted u) 0 = { hartOf u 0 with run := true, stopped := false, pc := restartPc (hartOf u 0) } ∧
    (steppeStarted u).clk = u.clk ∧ (steppeStarted u).mem = u.mem ∧ (steppeStarted u).dict = u.dict :=
  ⟨rfl, rfl, hartOf_setHart_same _ _ _, rfl, rfl, rfl⟩

theorem exec_steppeRelease {s : State} {c : Comp} (hstage : s.boot.stage = 4) (hloaded : s.boot.loaded.contains 2 = true)
    (hstop : s.err.failStop = false) (hcomp : compOf s.boot.header 2 = some c) (hquad : quadRetired s 0 = false) :
    exec .steppeRelease s = .next (steppeStarted (steppeSet s c.entry)) := by
  show execSteppeRelease s = _
  simp only [execSteppeRelease, hstage, hloaded, hstop, hcomp, hquad, Bool.false_eq_true, not_false_eq_true, and_self, if_true,
    if_false]
  rfl

theorem hartOf_hartEntry_keeps (e : Nat) (s : State) (h j : Nat) (hj : (hartOf s j).pcLo = BitVec.ofNat 32 e ∧ (hartOf s j).pcHi = e / 2 ^ 32 % 65536 ∨ j = h) :
    (hartOf (hartEntry e s h) j).pcLo = BitVec.ofNat 32 e ∧ (hartOf (hartEntry e s h) j).pcHi = e / 2 ^ 32 % 65536 := by
  by_cases he : j = h
  · subst he
    simp [hartEntry]
  · rw [hartEntry, hartOf_setHart_other _ _ _ he]
    exact hj.resolve_right he

/-- After the fold over the harts, every hart of the list has the entry as its restart address. -/
theorem hartOf_foldl_hartEntry (e : Nat) (l : List Nat) (s : State) (j : Nat)
    (hj : ((hartOf s j).pcLo = BitVec.ofNat 32 e ∧ (hartOf s j).pcHi = e / 2 ^ 32 % 65536) ∨ j ∈ l) :
    (hartOf (l.foldl (hartEntry e) s) j).pcLo = BitVec.ofNat 32 e ∧ (hartOf (l.foldl (hartEntry e) s) j).pcHi = e / 2 ^ 32 % 65536 := by
  induction l generalizing s with
  | nil => exact hj.resolve_right List.not_mem_nil
  | cons h l ih =>
    refine ih _ ?_
    rw [List.mem_cons, ← or_assoc] at hj
    exact hj.imp_left (hartOf_hartEntry_keeps e s h j)

theorem restartPc_entry {x : Hart} {e : Nat} (he : e < 2 ^ 48) (hlo : x.pcLo = BitVec.ofNat 32 e) (hhi : x.pcHi = e / 2 ^ 32 % 65536) :
    restartPc x = e := by
  rw [restartPc, hlo, hhi, BitVec.toNat_ofNat, Nat.mod_eq_of_lt (by omega : e / 2 ^ 32 < 65536)]
  omega

theorem domOf_foldl_quadOn (l : List Nat) (s : State) (q : Nat) (hq : (domOf s (3 + q)).st = 2 ∨ q ∈ l) :
    (domOf (l.foldl quadOn s) (3 + q)).st = 2 := by
  induction l generalizing s with
  | nil => exact hq.resolve_right List.not_mem_nil
  | cons p l ih =>
    refine ih _ ?_
    by_cases hp : q = p
    · subst hp
      exact .inl (by simp [domOf, quadOn, setDom])
    · refine (hq.imp_left fun h => ?_).imp_right fun h => (List.mem_cons.mp h).resolve_left hp
      rwa [domOf, quadOn, setDom, tgetD_tset_other _ _ _ _ _ (by omega)]

/-- The release leaves the dictionary and memory, and the harts' fold does not touch the power domains. -/
theorem steppeSet_keeps (s : State) (e : Nat) : (steppeSet s e).dict = s.dict ∧ (steppeSet s e).mem = s.mem ∧
    (steppeSet s e).clk = (((List.range 6).filter (fun q => !quadRetired s q)).foldl quadOn s).clk := by
  have hharts := fun u => foldl_keeps (f := hartEntry e) (fun u : State => (u.dict, u.mem, u.clk)) (fun _ _ => rfl) (List.range 24) u
  have hquads := foldl_keeps (f := quadOn) (fun u : State => (u.dict, u.mem)) (fun _ _ => rfl)
    ((List.range 6).filter (fun q => !quadRetired s q)) s
  simp only [Prod.mk.injEq] at hharts hquads
  obtain ⟨hdict, hmem, hclk⟩ := hharts (((List.range 6).filter (fun q => !quadRetired s q)).foldl quadOn s)
  exact ⟨hdict.trans hquads.1, hmem.trans hquads.2, hclk⟩

theorem completes_steppeRelease {s : State} {c : Comp} (hstage : s.boot.stage = 4) (hloaded : s.boot.loaded.contains 2 = true)
    (hstop : s.err.failStop = false) (hcomp : compOf s.boot.header 2 = some c) (hquad : quadRetired s 0 = false) (hentry : c.entry < 2 ^ 48) :
    Completes .steppeRelease s (fun t => t.boot.stage = 5 ∧ t.boot.steppeUp = true ∧ (hartOf t 0).run = true ∧
      (hartOf t 0).stopped = false ∧ (hartOf t 0).pc = c.entry ∧ (domOf t 3).st = 2 ∧ t.mem = s.mem ∧ t.dict = s.dict) := by
  have hexec := exec_steppeRelease hstage hloaded hstop hcomp hquad
  obtain ⟨hdict, hmem, hclk⟩ := steppeSet_keeps s c.entry
  obtain ⟨hlo, hhi⟩ := hartOf_foldl_hartEntry c.entry (List.range 24)
    (((List.range 6).filter (fun q => !quadRetired s q)).foldl quadOn s) 0 (.inr (by decide))
  have hdom := domOf_foldl_quadOn ((List.range 6).filter (fun q => !quadRetired s q)) s 0 (.inr (by simp [hquad]))
  obtain ⟨hstage', hup, hhart, hclk', hmem', hdict'⟩ := steppeStarted_spec (steppeSet s c.entry)
  refine ⟨_, hexec, hstage', hup, ?_, ?_, ?_, ?_, hmem'.trans hmem, hdict'.trans hdict⟩
  · rw [hhart]
  · rw [hhart]
  · rw [hhart]
    exact restartPc_entry hentry hlo hhi
  · rw [domOf] at hdom ⊢
    rw [hclk', hclk]
    exact hdom
@[simp] theorem modVale_boot (s : State) (v : Vale) (f : ValeState → ValeState) : (s.modVale v f).boot = s.boot := by
  cases v <;> rfl

/-- A Vale that starts: it leaves reset, and the other Vale, boot, memory and the dictionary stay. -/
theorem startVale_spec (s : State) (v : Vale) (i : Image) : ((startVale s v i).vale v).col.held = false ∧
    (startVale s v i).vale (otherVale v) = s.vale (otherVale v) ∧ (startVale s v i).boot = s.boot ∧
    (startVale s v i).mem = s.mem ∧ (startVale s v i).dict = s.dict := by
  simp [startVale, mapCores, State.modCol, vale_modVale_other]

theorem bothReleased_iff (s : State) (v : Vale) (h : (s.vale v).col.held = false) :
    bothReleased s = !(s.vale (otherVale v)).col.held := by
  cases v
  · rw [bothReleased, show s.east.col.held = false from h]
    rfl
  · rw [bothReleased, show s.west.col.held = false from h, Bool.not_false, Bool.and_true]
    rfl

theorem exec_colRelease {s : State} {v : Vale} {i : Image} (hactive : (s.vale v).col.active = some i)
    (hheld : (s.vale v).col.held = true) (htables : s.boot.tablesInit = true) (hglen : s.boot.glenUp = true)
    (hstop : s.err.failStop = false) : exec (.colRelease v) s = .next (
      if bothReleased (startVale s v i) ∧ (startVale s v i).boot.stage = 5 then
        setBoot (startVale s v i) { (startVale s v i).boot with stage := 6, msTo6 := (startVale s v i).time.ticks * 8 / 1000000 }
      else startVale s v i) := by
  show execColRelease v s = _
  simp only [execColRelease, hactive, hheld, htables, hglen, hstop, not_true_eq_false, or_self, Bool.false_eq_true, if_false]

theorem completes_colRelease {s : State} {v : Vale} {i : Image} (hactive : (s.vale v).col.active = some i)
    (hheld : (s.vale v).col.held = true) (htables : s.boot.tablesInit = true) (hglen : s.boot.glenUp = true)
    (hstop : s.err.failStop = false) : Completes (.colRelease v) s (fun t => (t.vale v).col.held = false ∧
      t.vale (otherVale v) = s.vale (otherVale v) ∧ t.mem = s.mem ∧ t.dict = s.dict ∧
      (s.boot.stage = 5 ∧ (s.vale (otherVale v)).col.held = false → t.boot.stage = 6) ∧
      (s.boot.stage ≠ 5 ∨ (s.vale (otherVale v)).col.held = true → t.boot = s.boot)) := by
  obtain ⟨hfree, hother, hboot, hmem, hdict⟩ := startVale_spec s v i
  refine ⟨_, exec_colRelease hactive hheld htables hglen hstop, ?_⟩
  rw [bothReleased_iff _ v hfree, hother]
  split
  · next h =>
    obtain ⟨hrel, hfive⟩ := h
    rw [hboot] at hfive
    rw [Bool.not_eq_true'] at hrel
    have hvale : ∀ b w, (setBoot (startVale s v i) b).vale w = (startVale s v i).vale w := fun _ w => by cases w <;> rfl
    refine ⟨?_, ?_, hmem, hdict, fun _ => rfl, fun hor => ?_⟩
    · rw [hvale, hfree]
    · rw [hvale, hother]
    · exact absurd hor (by simp [hfive, hrel])
  · next h =>
    refine ⟨hfree, hother, hmem, hdict, fun hand => absurd ?_ h, fun _ => hboot⟩
    rw [hboot, hand.2]
    exact ⟨rfl, hand.1⟩

theorem loadsAndReleases : Claims.LoadsAndReleases := by
  refine ⟨fun s c hdue hcomp hfits haddr => ?fits, fun s c hdue hcomp hfits => ?differs,
    fun s c hstage hloaded hstop hcomp hquad hentry => completes_steppeRelease hstage hloaded hstop hcomp hquad hentry,
    fun s v i hactive hheld htables hglen hstop => completes_colRelease hactive hheld htables hglen hstop⟩
  case fits => exact ⟨_, exec_componentLoad_fits hdue hcomp hfits haddr, rfl, rfl, rfl, rfl, rfl⟩
  case differs => exact ⟨_, exec_componentLoad_differs hdue hcomp hfits, rfl, rfl, rfl, rfl⟩

/-- Settles O47: the ROM by the outcome of its first candidate, the loads and releases by what each sets. -/
theorem bootAndLoads : Obligations.BootAndLoads := ⟨romAndFlash, loadsAndReleases⟩

end Sys2Proof.Machine

end

section
/-! The journal, installs, marks and fuses (R430-R442) -/

namespace Sys2Proof.Machine

/-! ### The journal (R430, R431) -/

/-- A record put at the end of a sector, which the pointer then names. -/
def jPut (s : State) (k : Nat) (l : List (Option JRec)) : State :=
  { s with boot := { s.boot with
      j0 := if k = 0 then l else s.boot.j0
      j1 := if k = 0 then s.boot.j1 else l
      ptr := some (k, l.length - 1) } }

/-- The sector an append goes to while it has room. -/
def jHome (s : State) : Nat := match jScan s with | some x => x.1 | none => 0

/-- An append puts the record, with the next number, at the end of one sector. -/
theorem jAppend_eq (s : State) (r : JRec) :
    ∃ k l, jAppend s r = jPut s k (l ++ [some { r with jseq := (jNow s).jseq + 1 }]) := by
  have hput : jAppend s r = if (jSector s (jHome s)).length < 128 then
      jPut s (jHome s) (jSector s (jHome s) ++ [some { r with jseq := (jNow s).jseq + 1 }])
      else jPut s (1 - jHome s) [some { r with jseq := (jNow s).jseq + 1 }] := rfl
  rw [hput]
  split
  · exact ⟨_, _, rfl⟩
  · exact ⟨_, [], rfl⟩

theorem jNow_jPut (s : State) (k : Nat) (l : List (Option JRec)) (r : JRec) : jNow (jPut s k (l ++ [some r])) = r := by
  have hsector : jSector (jPut s k (l ++ [some r])) k = l ++ [some r] := by
    simp only [jSector, jPut]
    split <;> rfl
  have hpointer : jPointer (jPut s k (l ++ [some r])) = some r := by
    have hptr : (jPut s k (l ++ [some r])).boot.ptr = some (k, l.length) := by simp [jPut]
    simp only [jPointer, hptr, hsector]
    simp
  simp only [jNow, hpointer]

theorem jNow_jAppend (s : State) (r : JRec) : jNow (jAppend s r) = { r with jseq := (jNow s).jseq + 1 } := by
  obtain ⟨k, l, h⟩ := jAppend_eq s r
  rw [h, jNow_jPut]

/-- An append changes the journal alone. -/
theorem jAppend_keeps (s : State) (r : JRec) : OnlyBoot s (jAppend s r) ∧ (jAppend s r).boot.slotA = s.boot.slotA ∧
    (jAppend s r).boot.slotB = s.boot.slotB ∧ (jAppend s r).boot.inst = s.boot.inst ∧
    (jAppend s r).boot.running = s.boot.running ∧ (jAppend s r).boot.instSlot = s.boot.instSlot := by
  obtain ⟨k, l, h⟩ := jAppend_eq s r
  rw [h]
  exact ⟨rfl, rfl, rfl, rfl, rfl, rfl⟩

theorem OnlyBoot.trans {s t u : State} (h : OnlyBoot s t) (k : OnlyBoot t u) : OnlyBoot s u := by
  rw [OnlyBoot] at h k ⊢
  rw [k, h]

theorem OnlyBoot.keeps {s t : State} (h : OnlyBoot s t) : t.mem = s.mem ∧ t.vault = s.vault ∧ t.dict = s.dict ∧ t.err = s.err := by
  rw [h]
  exact ⟨rfl, rfl, rfl, rfl⟩

/-! ### Installs (R438) -/

theorem imgInstallOp_idle {who : Who} {r : Rec 16} {s : State} (hok : (imgInstallOp who r).status s = .ok) : s.boot.inst = .idle := by
  simp [imgInstallOp, firstStatus_append_iff, firstStatus_cons_iff] at hok
  exact hok.2.2

/-- The end of an install: its result stands, and the newest event tells it. -/
theorem installEnds_installEnd (s : State) (st : Status) : InstallEnds s (installEnd s st) st :=
  ⟨rfl, rfl, rfl, _, _, rfl, rfl, rfl, rfl⟩

theorem slotImage_setSlotImage (s : State) (k : Nat) (bs : List Byte) : slotImage (setSlotImage s k bs) k = bs := by
  unfold slotImage setSlotImage
  split <;> rfl

/-- A write of one slot's image leaves everything else. -/
theorem setSlotImage_keeps (s : State) (k : Nat) (bs : List Byte) : OnlyBoot s (setSlotImage s k bs) ∧
    (k ≠ 0 → (setSlotImage s k bs).boot.slotA = s.boot.slotA) ∧ (k = 0 → (setSlotImage s k bs).boot.slotB = s.boot.slotB) ∧
    (setSlotImage s k bs).boot.running = s.boot.running := by
  unfold setSlotImage
  split
  · next h => exact ⟨rfl, fun hne => absurd h hne, fun _ => rfl, rfl⟩
  · next h => exact ⟨rfl, fun _ => rfl, fun he => absurd he h, rfl⟩

section
variable {s : State} (hglen : s.boot.glenUp = true) (hstop : s.err.failStop = false)
include hglen hstop

section
variable (hinst : s.boot.inst = .checking) (hlen : imgLength (installImage s) ≤ s.boot.instLen)
include hinst hlen

theorem exec_installCheckDone : exec .installCheckDone s = .next (
    if imgVerify s (installImage s) true ≠ .ok then installEnd s (imgVerify s (installImage s) true)
    else if ¬seqRises s (imgSeq (installImage s)) then installEnd s .range
    else
      let s1 := setSlotImage (jAppend s (jSet (jNow s) s.boot.instSlot 1 0)) s.boot.instSlot []
      setBoot s1 { s1.boot with inst := .writing }) := by
  show execInstallCheckDone s = _
  simp only [execInstallCheckDone, hinst, hglen, hstop, Bool.false_eq_true, not_false_eq_true, and_self, if_true,
    if_neg (Nat.not_lt.mpr hlen)]

theorem completes_installCheckDone_fails (h : imgVerify s (installImage s) true ≠ .ok) :
    Completes .installCheckDone s (fun t => InstallEnds s t (imgVerify s (installImage s) true)) := by
  refine ⟨_, exec_installCheckDone hglen hstop hinst hlen, ?_⟩
  rw [if_pos h]
  exact installEnds_installEnd s _

theorem completes_installCheckDone_old (hok : imgVerify s (installImage s) true = .ok)
    (hseq : seqRises s (imgSeq (installImage s)) = false) : Completes .installCheckDone s (fun t => InstallEnds s t .range) := by
  refine ⟨_, exec_installCheckDone hglen hstop hinst hlen, ?_⟩
  rw [if_neg (not_not.mpr hok), if_pos (Bool.eq_false_iff.mp hseq)]
  exact installEnds_installEnd s _

theorem completes_installCheckDone_passes (hok : imgVerify s (installImage s) true = .ok)
    (hseq : seqRises s (imgSeq (installImage s)) = true) : Completes .installCheckDone s (fun t => OnlyBoot s t ∧
      t.boot.inst = .writing ∧ slotImage t s.boot.instSlot = [] ∧ (s.boot.instSlot ≠ 0 → t.boot.slotA = s.boot.slotA) ∧
      (s.boot.instSlot = 0 → t.boot.slotB = s.boot.slotB) ∧ t.boot.running = s.boot.running) := by
  refine ⟨_, exec_installCheckDone hglen hstop hinst hlen, ?_⟩
  rw [if_neg (not_not.mpr hok), if_neg (not_not.mpr hseq)]
  obtain ⟨hjournal, hslotA, hslotB, -, hrunning, -⟩ := jAppend_keeps s (jSet (jNow s) s.boot.instSlot 1 0)
  obtain ⟨hslot, hother, hother', hrunning'⟩ :=
    setSlotImage_keeps (jAppend s (jSet (jNow s) s.boot.instSlot 1 0)) s.boot.instSlot []
  exact ⟨hjournal.trans (hslot.trans rfl), rfl, slotImage_setSlotImage _ _ _, fun h => (hother h).trans hslotA,
    fun h => (hother' h).trans hslotB, hrunning'.trans hrunning⟩

end

theorem completes_installWriteDone (hinst : s.boot.inst = .writing) :
    Completes (.installWriteDone true) s (fun t => OnlyBoot s t ∧ t.boot.inst = .verifying ∧
      slotImage t s.boot.instSlot = installImage s ∧ (s.boot.instSlot ≠ 0 → t.boot.slotA = s.boot.slotA) ∧
      (s.boot.instSlot = 0 → t.boot.slotB = s.boot.slotB)) ∧
    Completes (.installWriteDone false) s (fun t => InstallEnds s t .timeout) := by
  obtain ⟨hslot, hother, hother', -⟩ := setSlotImage_keeps s s.boot.instSlot (installImage s)
  show (∃ t, execInstallWriteDone true s = .next t ∧ _) ∧ (∃ t, execInstallWriteDone false s = .next t ∧ _)
  simp only [execInstallWriteDone, hinst, hglen, hstop, Bool.false_eq_true, not_false_eq_true, and_self, if_true,
    if_false]
  exact ⟨⟨_, rfl, hslot.trans rfl, rfl, slotImage_setSlotImage _ _ _, hother, hother'⟩, ⟨_, rfl, installEnds_installEnd s _⟩⟩

/-- The journal after an install that passes: its slot is Valid, and a Valid other slot is Retired. -/
def installJournal (s : State) : State :=
  let k := s.boot.instSlot
  let s1 := jAppend s (jSet (jNow s) k 2 (imgSeq (slotImage s k)))
  let j := jNow s1
  if jState j (1 - k) = 2 then jAppend s1 (jSet j (1 - k) 4 (jSeqOf j (1 - k))) else s1

omit hglen hstop in
theorem installJournal_keeps : OnlyBoot s (installJournal s) ∧ (installJournal s).boot.slotA = s.boot.slotA ∧
    (installJournal s).boot.slotB = s.boot.slotB := by
  obtain ⟨honly, hslotA, hslotB, -⟩ := jAppend_keeps s (jSet (jNow s) s.boot.instSlot 2 (imgSeq (slotImage s s.boot.instSlot)))
  unfold installJournal
  dsimp only
  split
  · obtain ⟨honly', hslotA', hslotB', -⟩ := jAppend_keeps (jAppend s (jSet (jNow s) s.boot.instSlot 2 (imgSeq (slotImage s s.boot.instSlot)))) _
    exact ⟨honly.trans honly', hslotA'.trans hslotA, hslotB'.trans hslotB⟩
  · exact ⟨honly, hslotA, hslotB⟩

theorem exec_installVerifyDone (hinst : s.boot.inst = .verifying) : exec .installVerifyDone s = .next (
    if imgVerify s (slotImage s s.boot.instSlot) true ≠ .ok then installEnd s (imgVerify s (slotImage s s.boot.instSlot) true)
    else installEnd (installJournal s) .ok) := by
  show execInstallVerifyDone s = _
  simp only [execInstallVerifyDone, hinst, hglen, hstop, Bool.false_eq_true, not_false_eq_true, and_self, if_true]
  rfl

theorem completes_installVerifyDone (hinst : s.boot.inst = .verifying) :
    (imgVerify s (slotImage s s.boot.instSlot) true ≠ .ok → Completes .installVerifyDone s (fun t =>
      InstallEnds s t (imgVerify s (slotImage s s.boot.instSlot) true))) ∧
    (imgVerify s (slotImage s s.boot.instSlot) true = .ok → Completes .installVerifyDone s (fun t => t.boot.inst = .idle ∧
      t.boot.instResult = .ok ∧ t.boot.slotA = s.boot.slotA ∧ t.boot.slotB = s.boot.slotB ∧ t.mem = s.mem ∧ t.vault = s.vault)) := by
  refine ⟨fun h => ⟨_, exec_installVerifyDone hglen hstop hinst, ?_⟩, fun h => ⟨_, exec_installVerifyDone hglen hstop hinst, ?_⟩⟩
  · rw [if_pos h]
    exact installEnds_installEnd s _
  · rw [if_neg (not_not.mpr h)]
    obtain ⟨honly, hslotA, hslotB⟩ := installJournal_keeps (s := s)
    obtain ⟨hmem, hvault, -⟩ := honly.keeps
    obtain ⟨hboot, hmem', hvault', -⟩ := installEnds_installEnd (installJournal s) .ok
    rw [hboot, hmem', hvault']
    exact ⟨rfl, rfl, hslotA, hslotB, hmem, hvault⟩

end

theorem installs : Claims.Installs := by
  refine ⟨fun _ _ s hs hok => congrArg Host.Outcome.next (runOp_ok _ s hs hok), fun who r s hs hok => ⟨imgInstallOp_idle hok, ?_⟩,
    fun s hinst hglen hstop => ⟨completes_installCheckDone_fails hglen hstop hinst, completes_installCheckDone_old hglen hstop hinst,
      completes_installCheckDone_passes hglen hstop hinst⟩,
    fun s hinst hglen hstop => completes_installWriteDone hglen hstop hinst,
    fun s hinst hglen hstop => completes_installVerifyDone hglen hstop hinst⟩
  exact ⟨_, congrArg Host.Outcome.next (runOp_ok _ s hs hok), rfl, rfl, rfl, rfl⟩

/-! ### Marks and fuses (R440-R442, R432) -/

/-- A mark that passes names one of the two slots and one of the states Valid, Golden and Retired. -/
theorem imgMarkOp_ok {who : Who} {k st : U8} {s : State} (hok : (imgMarkOp who k.toNat st.toNat).status s = .ok) :
    k.toNat < 2 ∧ (st = 2 ∨ st = 3 ∨ st = 4) := by
  simp only [imgMarkOp, firstStatus_append_iff] at hok
  obtain ⟨⟨-, hmark⟩, -⟩ := hok
  unfold markChecks at hmark
  dsimp only at hmark
  split at hmark
  · exact absurd ((firstStatus_cons_iff (by decide) _ _).mp hmark).1 (by decide)
  · next hslot =>
    split at hmark
    · next hst => exact ⟨by omega, by bv_omega⟩
    · have hrange := ((firstStatus_cons_iff (by decide) _ _).mp hmark).1
      rw [Bool.or_eq_false_iff, decide_eq_false_iff_not, not_not] at hrange
      obtain ⟨hfour, -⟩ := hrange
      exact ⟨by omega, by bv_omega⟩

theorem completes_imgMark {who : Who} {k st : U8} {s : State} (hs : glenServes s = true)
    (hok : (imgMarkOp who k.toNat st.toNat).status s = .ok) : Completes (.imgMark who k st) s (fun t =>
      t.boot.slotA = s.boot.slotA ∧ t.boot.slotB = s.boot.slotB ∧ t.boot.inst = s.boot.inst ∧ t.mem = s.mem ∧ t.vault = s.vault ∧
      t.dict = s.dict) := by
  obtain ⟨honly, hslotA, hslotB, hinst, -, -⟩ := jAppend_keeps s (jSet (jNow s) k.toNat st.toNat
    (if st.toNat = 4 then jSeqOf (jNow s) k.toNat else imgSeq (slotImage s k.toNat)))
  obtain ⟨hmem, hvault, hdict, -⟩ := honly.keeps
  exact ⟨_, congrArg Host.Outcome.next (runOp_ok _ s hs hok), hslotA, hslotB, hinst, hmem, hvault, hdict⟩

theorem rollbackCommitOp_ok {who : Who} {x : Nat} {s : State} (hok : (rollbackCommitOp who x).status s = .ok) :
    s.vault.rollback ≤ x ∧ x ≤ imgSecVer s.boot.header := by
  simp only [rollbackCommitOp, firstStatus_append_iff] at hok
  have hrange := ((firstStatus_cons_iff (by decide) _ _).mp hok.2).1
  simp only [Bool.or_eq_false_iff, decide_eq_false_iff_not] at hrange
  obtain ⟨⟨⟨-, hlow⟩, hhigh⟩, -⟩ := hrange
  omega

theorem imgKeyRevokeOp_ok {who : Who} {x : Nat} {s : State} (hok : (imgKeyRevokeOp who x).status s = .ok) :
    (s.vault.revoke ||| x) % 4 ≠ 3 := by
  simp only [imgKeyRevokeOp, firstStatus_append_iff] at hok
  have hrange := ((firstStatus_cons_iff (by decide) _ _).mp hok.2).1
  simp only [Bool.or_eq_false_iff, decide_eq_false_iff_not] at hrange
  exact hrange.1.1

theorem exec_rollbackFuseStep {s : State} (hlow : s.vault.rollback < s.vault.rollTo) (hup : s.vault.up = true) :
    exec .rollbackFuseStep s = .next { s with vault := { s.vault with rollback := s.vault.rollback + 1 } } :=
  congrArg Host.Outcome.next (if_pos ⟨hlow, hup⟩)

theorem exec_goldRequest {s : State} (hglen : s.boot.glenUp = true) (hlow : s.boot.goldLow = false) : exec .goldRequest s =
    .next (chipReset (raise s { cls := 11, name := "GOLD_REQUEST", unit := unitId 2 8 0 0xFFF }) 5) :=
  congrArg Host.Outcome.next (if_pos ⟨hglen, Bool.eq_false_iff.mp hlow⟩)

theorem marksAndFuses : Claims.MarksAndFuses := by
  refine ⟨fun _ _ _ s hs hok => congrArg Host.Outcome.next (runOp_ok _ s hs hok),
    fun _ _ s hs hok => congrArg Host.Outcome.next (runOp_ok _ s hs hok),
    fun _ _ s hs hok => congrArg Host.Outcome.next (runOp_ok _ s hs hok), ?mark, jNow_jAppend, ?rollback,
    fun s hlow hup => ⟨_, exec_rollbackFuseStep hlow hup, onlyVault_refl s, rfl⟩, ?revoke,
    fun s hglen hlow => ⟨_, exec_goldRequest hglen hlow, rfl, rfl, rfl, rfl, rfl, rfl, rfl, rfl⟩⟩
  case mark =>
    intro who k st s hs hok
    obtain ⟨hslot, hstate⟩ := imgMarkOp_ok hok
    exact ⟨hslot, hstate, completes_imgMark hs hok⟩
  case rollback =>
    intro who x s hs hok
    obtain ⟨hlow, hhigh⟩ := rollbackCommitOp_ok hok
    exact ⟨hlow, hhigh, _, congrArg Host.Outcome.next (runOp_ok _ s hs hok), rfl, rfl, rfl, rfl⟩
  case revoke =>
    intro who x s hs hok
    exact ⟨imgKeyRevokeOp_ok hok, _, congrArg Host.Outcome.next (runOp_ok _ s hs hok), rfl, rfl, rfl, rfl⟩

/-- Settles O48: an install by the cases of its checks, the marks and fuses by the journal and the vault's words they change. -/
theorem imagesAndFuses : Obligations.ImagesAndFuses := ⟨installs, marksAndFuses⟩

end Sys2Proof.Machine

end

section
/-! Power limiting, heat and power domains (R455-R461) -/

namespace Sys2Proof.Machine

/-! ### Power limiting, the alert and the junction temperature (R455-R459) -/

/-- A change of limiting leaves everything but its own mark and its event. -/
theorem updateLimit_keeps (s : State) : ∃ b, (updateLimit s).clk = { s.clk with limiting := b } ∧ (updateLimit s).mem = s.mem ∧
    (updateLimit s).dict = s.dict ∧ (updateLimit s).err.failStop = s.err.failStop := by
  unfold updateLimit
  dsimp only
  split
  · exact ⟨s.clk.limiting, rfl, rfl, rfl, rfl⟩
  · exact ⟨_, rfl, rfl, rfl, rfl⟩

/-- The readings of a poll that is answered, and the first two of the counts of equal ones. -/
def pollAgain (r : AvsReading) (s : State) : Bool := r.answered && decide (s.clk.power.head? = some r.power)

def pollBad (r : AvsReading) (s : State) : List Bool :=
  keep 10 (farApart (median3 ((keep 10 (r.power :: s.clk.power)).take 3)) r.estimate :: s.clk.bad)

/-- The state after an answered poll in which nothing is wrong, before the limit is looked at. -/
def polled (r : AvsReading) (s : State) : State :=
  let d := drawFree s 55
  { d.2 with clk := { s.clk with
      power := keep 10 (r.power :: s.clk.power), estimate := r.estimate, currents := keep 3 (r.current :: s.clk.currents)
      same := if pollAgain r s then s.clk.same + 1 else 0, sameEst := if pollAgain r s then s.clk.sameEst else r.estimate
      bad := pollBad r s, vddTarget := 873 + d.1, goodPolls := s.clk.goodPolls + 1 } }

theorem exec_avsPoll_sound {r : AvsReading} {s : State} (hglen : s.boot.glenUp = true) (hstop : s.err.failStop = false)
    (htel : s.clk.telBad = false) (hans : r.answered = true)
    (hrange : avsInRange s (median3 (keep 3 (r.current :: s.clk.currents))) = true) (hsame : s.clk.same < 99)
    (hbad : (pollBad r s).all (fun b => b) = false) : exec (.avsPoll r) s = .next (updateLimit (polled r s)) := by
  have hstuck : decide (100 ≤ if pollAgain r s then s.clk.same + 1 else 0) = false := by
    rw [decide_eq_false_iff_not]
    split <;> omega
  rw [pollAgain, hans, Bool.true_and] at hstuck
  rw [pollBad] at hbad
  show execAvsPoll r s = _
  simp only [execAvsPoll, hglen, hstop, hans, htel, hrange, hbad, hstuck, Bool.false_eq_true, not_true_eq_false, or_self, if_false,
    if_true, Bool.not_true, Bool.true_and, Bool.or_self, Bool.and_false, Bool.false_and, false_and, polled, pollAgain, pollBad]

theorem completes_avsPoll_sound {r : AvsReading} {s : State} (hglen : s.boot.glenUp = true) (hstop : s.err.failStop = false)
    (htel : s.clk.telBad = false) (hans : r.answered = true)
    (hrange : avsInRange s (median3 (keep 3 (r.current :: s.clk.currents))) = true) (hsame : s.clk.same < 99)
    (hbad : (pollBad r s).all (fun b => b) = false) : Completes (.avsPoll r) s (fun t =>
      t.clk.power = keep 10 (r.power :: s.clk.power) ∧ t.clk.estimate = r.estimate ∧ t.clk.telBad = false ∧ t.mem = s.mem ∧
      t.dict = s.dict) := by
  obtain ⟨b, hclk, hmem, hdict, -⟩ := updateLimit_keeps (polled r s)
  refine ⟨_, exec_avsPoll_sound hglen hstop htel hans hrange hsame hbad, ?_⟩
  dsimp only
  rw [hclk, hmem, hdict]
  exact ⟨rfl, rfl, htel, rfl, rfl⟩

/-- A power condition whose chip-level handler is idle: it is recorded, and nothing of the clocks changes. -/
theorem powerErr_keeps {s : State} (name : String) (hidle : (handlerAt s (handlerKey 4 0 2)).active = none) :
    (powerErr s name).clk = s.clk ∧ (powerErr s name).mem = s.mem ∧ (powerErr s name).dict = s.dict ∧
      (powerErr s name).err.failStop = s.err.failStop := by
  unfold powerErr arrive arriveAt
  dsimp only
  rw [hidle]
  exact ⟨rfl, rfl, rfl, rfl⟩

/-- A phase that is lost caps power, and stops nothing (R456). -/
theorem phaseLost_spec {s : State} (hidle : (handlerAt s (handlerKey 4 0 2)).active = none) :
    (phaseLost s).clk.phaseCap = true ∧ (phaseLost s).clk.alertLow = s.clk.alertLow ∧
      (phaseLost s).err.failStop = s.err.failStop ∧ (phaseLost s).mem = s.mem ∧ (phaseLost s).dict = s.dict := by
  obtain ⟨hclk, hmem, hdict, hstop⟩ :=
    powerErr_keeps (s := { s with clk := { s.clk with phaseCap := true } }) "VR_PHASE_LOST" hidle
  obtain ⟨b, hclk', hmem', hdict', hstop'⟩ :=
    updateLimit_keeps (powerErr { s with clk := { s.clk with phaseCap := true } } "VR_PHASE_LOST")
  rw [phaseLost, hclk', hmem', hdict', hstop', hclk, hmem, hdict, hstop]
  exact ⟨rfl, rfl, rfl, rfl, rfl⟩

theorem activeLimit_phaseCap {s : State} (h : s.clk.phaseCap = true) : activeLimit s ≤ numD s (okey 0x2110 2) 160 := by
  unfold activeLimit
  dsimp only
  rw [if_pos h]
  split
  · exact Nat.le_trans (Nat.min_le_left _ _) (Nat.min_le_right _ _)
  · exact Nat.min_le_right _ _

theorem exec_pmbusPoll_quiet (n : Nat) (a b : Bool) (s : State) : exec (.pmbusPoll n a b false) s = .next s :=
  congrArg Host.Outcome.next (if_neg fun h => Bool.false_ne_true h.1)

theorem exec_pmbusPoll_fault {s : State} (n : Nat) (a b : Bool) (hglen : s.boot.glenUp = true) (hstop : s.err.failStop = false)
    (hon : periphOn s 2 = true) : exec (.pmbusPoll n a b true) s = .next (phaseLost s) :=
  congrArg Host.Outcome.next (if_pos ⟨rfl, hon, hglen, Bool.eq_false_iff.mp hstop⟩)

theorem exec_vrAlert_down {s : State} (hglen : s.boot.glenUp = false) :
    exec .vrAlert s = .next { s with clk := { s.clk with alertLow := true } } :=
  congrArg Host.Outcome.next (if_neg fun h => Bool.eq_false_iff.mp hglen h.1)

theorem exec_vrAlert_up {s : State} (hglen : s.boot.glenUp = true) (hstop : s.err.failStop = false) :
    exec .vrAlert s = .next (phaseLost { s with clk := { s.clk with alertLow := true } }) :=
  congrArg Host.Outcome.next (if_pos ⟨hglen, Bool.eq_false_iff.mp hstop⟩)

theorem completes_vrAlert {s : State} (hglen : s.boot.glenUp = true) (hstop : s.err.failStop = false)
    (hidle : (handlerAt s (handlerKey 4 0 2)).active = none) : Completes .vrAlert s (fun t => t.clk.alertLow = true ∧
      t.clk.phaseCap = true ∧ t.err.failStop = false ∧ activeLimit t ≤ numD s (okey 0x2110 2) 160 ∧ t.mem = s.mem ∧ t.dict = s.dict) := by
  obtain ⟨hcap, halert, hfail, hmem, hdict⟩ := phaseLost_spec (s := { s with clk := { s.clk with alertLow := true } }) hidle
  refine ⟨_, exec_vrAlert_up hglen hstop, halert, hcap, hfail.trans hstop, ?_, hmem, hdict⟩
  refine Nat.le_trans (activeLimit_phaseCap hcap) (Nat.le_of_eq ?_)
  rw [numD, hdict, numD]

theorem powerCapClearOp_high {who : Who} {x : Bool} {s : State} (hok : (powerCapClearOp who x).status s = .ok) : x = true := by
  simp [powerCapClearOp, firstStatus_append_iff, firstStatus_cons_iff] at hok
  exact hok.2

/-- A sample below the trip point sets the warning and the cut by the two thresholds. -/
def sampled (x : Int) (s : State) : State :=
  { s with clk := { s.clk with
      therm := x, warned := decide (((numD s (okey 0x2500 2) 100 * 8 : Nat) : Int) ≤ x)
      thermCut := if decide (((numD s (okey 0x2500 3) 105 * 8 : Nat) : Int) < x) then min 100 (s.clk.thermCut + 5)
        else s.clk.thermCut - 5 } }

/-- The warning's event of a sample. -/
def thermWarned (x : Int) (s : State) : State :=
  if (sampled x s).clk.warned && !s.clk.warned && s.boot.glenUp then
    raise (sampled x s) { cls := 12, name := "THERM_WARN", unit := unitId 2 0 3 0xFFF, detail := x.toNat }
  else sampled x s

theorem thermWarned_keeps (x : Int) (s : State) : (thermWarned x s).clk = (sampled x s).clk ∧ (thermWarned x s).mem = s.mem ∧
    (thermWarned x s).dict = s.dict := by
  unfold thermWarned
  split <;> exact ⟨rfl, rfl, rfl⟩

theorem exec_thermalSample {x : Int} {s : State} (hrel : released s = true) (hx : x < 920) : exec (.thermalSample x) s = .next (
    if s.boot.glenUp ∧ ¬s.err.failStop then updateLimit (thermWarned x s) else thermWarned x s) :=
  congrArg Host.Outcome.next ((if_neg (not_not.mpr hrel)).trans (if_neg (Int.not_le.mpr hx)))

theorem completes_thermalSample {x : Int} {s : State} (hrel : released s = true) (hx : x < 920) : Completes (.thermalSample x) s (fun t =>
    t.clk.therm = x ∧ t.clk.tripped = s.clk.tripped ∧ t.clk.warned = decide (((numD s (okey 0x2500 2) 100 * 8 : Nat) : Int) ≤ x) ∧
    t.clk.thermCut = (if ((numD s (okey 0x2500 3) 105 * 8 : Nat) : Int) < x then min 100 (s.clk.thermCut + 5) else s.clk.thermCut - 5) ∧
    t.mem = s.mem ∧ t.dict = s.dict) := by
  have hcut : (sampled x s).clk.thermCut =
      if ((numD s (okey 0x2500 3) 105 * 8 : Nat) : Int) < x then min 100 (s.clk.thermCut + 5) else s.clk.thermCut - 5 := by
    simp only [sampled, decide_eq_true_eq]
  obtain ⟨hclk, hmem, hdict⟩ := thermWarned_keeps x s
  obtain ⟨b, hclk', hmem', hdict', -⟩ := updateLimit_keeps (thermWarned x s)
  refine ⟨_, exec_thermalSample hrel hx, ?_⟩
  split
  · rw [hclk', hclk, hmem', hmem, hdict', hdict]
    exact ⟨rfl, rfl, rfl, hcut, rfl, rfl⟩
  · rw [hclk, hmem, hdict]
    exact ⟨rfl, rfl, rfl, hcut, rfl, rfl⟩

theorem exec_thermalSample_trips {x : Int} {s : State} (hrel : released s = true) (hx : 920 ≤ x) :
    exec (.thermalSample x) s = exec .thermtrip { s with clk := { s.clk with therm := x } } :=
  congrArg Host.Outcome.next ((if_neg (not_not.mpr hrel)).trans (if_pos hx))

/-- The chip's reset at a trip, with the trip recorded. -/
def tripReset (s : State) : State :=
  resetWith (aonRecord (aonRecord { s with clk := { s.clk with tripped := true } } (unitId 2 0 3 0xFFF) 6 4 s.clk.rtc)
    0x40FFFFFF 10 4 s.clk.rtc) s.err.resetCause

theorem exec_thermtrip {s : State} (hrel : released s = true) : exec .thermtrip s = .next (tripReset s) := by
  have htripped : s.clk.tripped = false := by
    simp only [released, Bool.and_eq_true, Bool.not_eq_true'] at hrel
    exact hrel.2
  have hnot : ¬(s.clk.tripped = true ∨ ¬released s = true) := by simp [htripped, hrel]
  exact congrArg Host.Outcome.next (if_neg hnot)

theorem completes_thermtrip {s : State} (hrel : released s = true) : Completes .thermtrip s (fun t => t.clk.tripped = true ∧
    released t = false ∧ t.boot.glenUp = false ∧ t.vault.lc = s.vault.lc ∧ t.mem = s.mem) :=
  ⟨_, exec_thermtrip hrel, rfl, Bool.and_false _, rfl, rfl, rfl⟩

theorem powerAndHeat : Claims.PowerAndHeat := by
  refine ⟨fun r s hglen hstop htel hans hrange hsame hbad => completes_avsPoll_sound hglen hstop htel hans hrange hsame hbad,
    exec_pmbusPoll_quiet, ?fault, fun s hglen => ⟨_, exec_vrAlert_down hglen, rfl, rfl⟩,
    fun s hglen hstop hidle => completes_vrAlert hglen hstop hidle,
    fun _ _ s hs hok => congrArg Host.Outcome.next (runOp_ok _ s hs hok), ?clear,
    fun x s hrel hx => completes_thermalSample hrel hx, fun x s hrel hx => exec_thermalSample_trips hrel hx,
    fun s hrel => completes_thermtrip hrel⟩
  case fault =>
    intro n a b s hglen hstop hon hidle
    obtain ⟨hcap, halert, hfail, hmem, hdict⟩ := phaseLost_spec hidle
    exact ⟨_, exec_pmbusPoll_fault n a b hglen hstop hon, hcap, halert, hfail.trans hstop, hmem, hdict⟩
  case clear =>
    intro who x s hs hok
    obtain ⟨b, hclk, hmem, hdict, -⟩ := updateLimit_keeps { s with clk := { s.clk with phaseCap := false, alertLow := false } }
    refine ⟨powerCapClearOp_high hok, _, congrArg Host.Outcome.next (runOp_ok _ s hs hok), ?_, ?_, hmem, hdict⟩
    · exact congrArg ClkState.phaseCap hclk
    · exact congrArg ClkState.alertLow hclk

/-! ### Power domains (R460, R461) -/

theorem domOf_setDom_same (s : State) (d : Nat) (x : DomSt) : domOf (setDom s d x) d = x := by
  simp [domOf, setDom]

theorem domOf_setDom_other (s : State) {d e : Nat} (x : DomSt) (h : e ≠ d) : domOf (setDom s d x) e = domOf s e := by
  simp [domOf, setDom, tgetD_tset_other _ _ _ _ _ h]

theorem powerDomainOp_ok {who : Who} {d : Fin 45} {x : Nat} {s : State} (hok : (powerDomainOp who d x).status s = .ok) :
    x ≤ 2 ∧ domWritable d = true ∧ (domOf s d).target = none := by
  simp only [powerDomainOp, firstStatus_append_iff] at hok
  obtain ⟨-, hchecks⟩ := hok
  obtain ⟨hbad, hrest⟩ := (firstStatus_cons_iff (by decide) _ _).mp hchecks
  obtain ⟨-, hbusy⟩ := (firstStatus_cons_iff (by decide) _ _).mp hrest
  obtain ⟨hidle, -⟩ := (firstStatus_cons_iff (by decide) _ _).mp hbusy
  simp only [domBad, Bool.or_eq_false_iff, decide_eq_false_iff_not, Bool.not_eq_false'] at hbad
  obtain ⟨⟨⟨⟨htwo, hwritable⟩, -⟩, -⟩, -⟩ := hbad
  exact ⟨Nat.not_lt.mp htwo, hwritable, Option.not_isSome_iff_eq_none.mp (Bool.eq_false_iff.mp hidle)⟩

theorem powerDomainOp_effect_same {who : Who} {d : Fin 45} {x : Nat} {s : State} (h : (domOf s d).st = x) :
    (powerDomainOp who d x).effect s = (s, []) := if_pos h

theorem powerDomainOp_effect_change {who : Who} {d : Fin 45} {x : Nat} {s : State} (h : (domOf s d).st ≠ x) (hd : d.val < 41) :
    (powerDomainOp who d x).effect s = (setDom s d { domOf s d with target := some x }, []) := by
  simp only [powerDomainOp, if_neg h, if_neg (Nat.not_le.mpr hd)]

/-- A hart's state is that of a hart just powered. -/
def hartCleared (s : State) (h : Nat) : State := setHart s h {}

theorem hartOf_foldl_hartCleared (l : List Nat) (s : State) {h : Nat} (hh : hartOf s h = {} ∨ h ∈ l) :
    hartOf (l.foldl hartCleared s) h = {} := by
  induction l generalizing s with
  | nil => exact hh.resolve_right List.not_mem_nil
  | cons k l ih =>
    refine ih _ ?_
    by_cases hk : h = k
    · exact .inl (by rw [hk, hartCleared, hartOf_setHart_same])
    · refine (hh.imp_left fun hs => ?_).imp_right fun hm => (List.mem_cons.mp hm).resolve_left hk
      rw [hartCleared, hartOf_setHart_other _ _ _ hk, hs]

/-- A core's state is that of a spare core, unless it is retired. -/
def coreCleared (v : Vale) (s : State) (n : Nat) : State :=
  if (coreAt s v n).st = .retired then s else setCore s v n (spareCore (s.vale v).col)

theorem coreCleared_keeps (v : Vale) (s : State) (n : Nat) : (coreCleared v s n).clk = s.clk ∧ (coreCleared v s n).ctl = s.ctl ∧
    (coreCleared v s n).mem = s.mem ∧ (coreCleared v s n).dict = s.dict := by
  unfold coreCleared
  split
  · exact ⟨rfl, rfl, rfl, rfl⟩
  · cases v <;> exact ⟨rfl, rfl, rfl, rfl⟩

theorem domChanged_eq (s : State) (d old new : Nat) : domChanged s d old new =
    if 3 ≤ d ∧ d ≤ 8 ∧ new = 0 then (quadHarts (d - 3)).foldl hartCleared s
    else if 9 ≤ d ∧ d ≤ 26 ∧ old = 0 then
      match domVale d with
      | some v => (groupCores d).foldl (coreCleared v) s
      | none => s
    else s := rfl

theorem foldl_hartCleared_keeps (l : List Nat) (s : State) : (l.foldl hartCleared s).clk = s.clk ∧
    (l.foldl hartCleared s).mem = s.mem ∧ (l.foldl hartCleared s).dict = s.dict := by
  have h := foldl_keeps (f := hartCleared) (fun u : State => (u.clk, u.mem, u.dict)) (fun _ _ => rfl) l s
  simpa only [Prod.mk.injEq] using h

theorem foldl_coreCleared_keeps (v : Vale) (l : List Nat) (s : State) : (l.foldl (coreCleared v) s).clk = s.clk ∧
    (l.foldl (coreCleared v) s).mem = s.mem ∧ (l.foldl (coreCleared v) s).dict = s.dict ∧
    (l.foldl (coreCleared v) s).ctl = s.ctl := by
  have h := foldl_keeps (f := coreCleared v) (fun u : State => (u.clk, u.mem, u.dict, u.ctl)) (fun u n => by
    obtain ⟨hclk, hctl, hmem, hdict⟩ := coreCleared_keeps v u n
    rw [hclk, hctl, hmem, hdict]) l s
  simpa only [Prod.mk.injEq] using h

/-- What the end of a domain's change does: the harts of a quad that is off start anew, the rest stays. -/
theorem domChanged_spec (s : State) (d old new : Nat) : (domChanged s d old new).clk = s.clk ∧ (domChanged s d old new).mem = s.mem ∧
    (domChanged s d old new).dict = s.dict ∧
    (3 ≤ d → d ≤ 8 → new = 0 → ∀ h, h / 4 = d - 3 → hartOf (domChanged s d old new) h = {}) ∧
    (new ≠ 0 → (domChanged s d old new).ctl = s.ctl) := by
  rw [domChanged_eq]
  split
  · next hquad =>
    obtain ⟨hclk, hmem, hdict⟩ := foldl_hartCleared_keeps (quadHarts (d - 3)) s
    refine ⟨hclk, hmem, hdict, fun _ _ _ h hh => hartOf_foldl_hartCleared _ _ (.inr ?_), fun hne => absurd hquad.2.2 hne⟩
    simp only [quadHarts, List.mem_map, List.mem_range]
    exact ⟨h % 4, Nat.mod_lt _ (by decide), by omega⟩
  · next hquad =>
    have hnever : 3 ≤ d → d ≤ 8 → new = 0 → False := fun h3 h8 hz => hquad ⟨h3, h8, hz⟩
    split
    · split
      · next v _ =>
        obtain ⟨hclk, hmem, hdict, hctl⟩ := foldl_coreCleared_keeps v (groupCores d) s
        exact ⟨hclk, hmem, hdict, fun h3 h8 hz => (hnever h3 h8 hz).elim, fun _ => hctl⟩
      · exact ⟨rfl, rfl, rfl, fun h3 h8 hz => (hnever h3 h8 hz).elim, fun _ => rfl⟩
    · exact ⟨rfl, rfl, rfl, fun h3 h8 hz => (hnever h3 h8 hz).elim, fun _ => rfl⟩

theorem exec_domainChangeDone {d : Fin 45} {x : Nat} {s : State} (h : (domOf s d).target = some x) :
    exec (.domainChangeDone d) s = .next (domChanged (setDom s d { st := x }) d (domOf s d).st x) := by
  show execDomainChangeDone d s = _
  simp only [execDomainChangeDone, h]

theorem domains : Claims.Domains := by
  refine ⟨fun _ _ _ s hs hok => congrArg Host.Outcome.next (runOp_ok _ s hs hok), ?write, ?done⟩
  case write =>
    intro who d x s hs hok
    obtain ⟨htwo, hwritable, hidle⟩ := powerDomainOp_ok hok
    have hrun : exec (.powerDomainWrite who d x) s = .next (respond ((powerDomainOp who d x.toNat).effect s).1 .ok 0
        ((powerDomainOp who d x.toNat).effect s).2) := congrArg Host.Outcome.next (runOp_ok _ s hs hok)
    refine ⟨htwo, hwritable, hidle, fun hsame => ?_, fun hne hd => ?_⟩
    · rw [hrun, powerDomainOp_effect_same hsame]
    · rw [powerDomainOp_effect_change hne hd] at hrun
      exact ⟨_, hrun, domOf_setDom_same s d _, fun e he => domOf_setDom_other s _ he, rfl, rfl, rfl, rfl, rfl⟩
  case done =>
    intro d x s hx
    obtain ⟨hclk, hmem, hdict, hharts, hctl⟩ := domChanged_spec (setDom s d { st := x }) d (domOf s d).st x
    have hdom : ∀ e, domOf (domChanged (setDom s d { st := x }) d (domOf s d).st x) e = domOf (setDom s d { st := x }) e :=
      fun e => by rw [domOf, hclk, domOf]
    refine ⟨_, exec_domainChangeDone hx, ?_, fun e he => ?_, hmem, hdict, hharts, hctl⟩
    · rw [hdom, domOf_setDom_same]
    · rw [hdom, domOf_setDom_other _ _ he]

/-- Settles O50: power by the limit that every change looks at, the domains by what a change does at its end. -/
theorem power : Obligations.Power := ⟨powerAndHeat, domains⟩

end Sys2Proof.Machine

end

section
/-! The ladder, supplies and the reset pin (R463-R467, R481-R496) -/

namespace Sys2Proof.Machine

/-! ### The ladder (R463-R467) -/

theorem ladderRequestOp_ok {who : Who} {x : Nat} {s : State} (hok : (ladderRequestOp who x).status s = .ok) :
    1 ≤ x ∧ x ≤ 4 ∧ s.tens = [] := by
  simp [ladderRequestOp, firstStatus_cons_iff, ladderMay] at hok
  obtain ⟨-, ⟨hlow, hhigh⟩, -, ⟨⟨-, htens⟩, -⟩, -⟩ := hok
  exact ⟨Nat.one_le_iff_ne_zero.mpr hlow, hhigh, htens⟩

theorem hostL1_keeps (s : State) (l1 : Bool) : (hostL1 s l1).clk = s.clk ∧ (hostL1 s l1).mem = s.mem ∧
    (hostL1 s l1).dict = s.dict ∧ (hostL1 s l1).time = s.time := by
  unfold hostL1
  split <;> exact ⟨rfl, rfl, rfl, rfl⟩

theorem srcReady_deepSources (s : State) {st : Nat} (h : st ≠ 2) : srcReady (deepSources s st) .ref25 = false := by
  have hsrc : srcOf (deepSources s st) .ref25 = { st := st } := by
    simp [deepSources, setSrc, srcOf, srcNum, tgetD_tset_other]
  simp [srcReady, hsrc, h]

/-- The end of an entry step before the last of all: memory, the dictionary and the ladder stay, but for the seconds at which
device time stops; the sources of the deep states stop at step 5. -/
theorem ladderEntered_spec (s : State) {n : Nat} (hn : n ≠ 6) : (ladderEntered s n).mem = s.mem ∧ (ladderEntered s n).dict = s.dict ∧
    (ladderEntered s n).clk.ladder = { s.clk.ladder with stopRtc := if n = 3 then s.clk.rtc else s.clk.ladder.stopRtc } ∧
    (n = 5 → srcReady (ladderEntered s n) .ref25 = false) := by
  unfold ladderEntered
  dsimp only
  split
  · next h2 =>
    obtain ⟨hclk, hmem, hdict, -⟩ := hostL1_keeps s true
    subst h2
    exact ⟨hmem, hdict, congrArg ClkState.ladder hclk, fun h => absurd h (by decide)⟩
  · split
    · next h3 =>
      subst h3
      exact ⟨rfl, rfl, rfl, fun h => absurd h (by decide)⟩
    · next h3 =>
      split
      · next h5 =>
        subst h5
        exact ⟨rfl, rfl, rfl, fun _ => srcReady_deepSources s (by decide)⟩
      · next h5 =>
        exact ⟨rfl, rfl, rfl, fun h => absurd h h5⟩

theorem deepSources_keeps (s : State) (n : Nat) : (deepSources s n).clk.ladder = s.clk.ladder ∧
    (deepSources s n).clk.wake = s.clk.wake ∧ (deepSources s n).clk.rtc = s.clk.rtc ∧ (deepSources s n).mem = s.mem ∧
    (deepSources s n).dict = s.dict := ⟨rfl, rfl, rfl, rfl, rfl⟩

/-- A reversal starts: no step is under way, and `n` are to be reversed. -/
theorem startReverse_spec (s : State) (n : Nat) (r : Status) : (startReverse s n r).clk.ladder =
      { s.clk.ladder with step := 0, reversing := n, result := r } ∧ (startReverse s n r).clk.wake = s.clk.wake ∧
    (startReverse s n r).clk.rtc = s.clk.rtc ∧ (startReverse s n r).mem = s.mem ∧ (startReverse s n r).dict = s.dict := by
  rw [startReverse]
  split
  · exact deepSources_keeps _ _
  · exact ⟨rfl, rfl, rfl, rfl, rfl⟩

section
variable {s : State} (hstop : s.err.failStop = false)
include hstop

/-- The end of an entry step, by the wakes that wait and by whether the step is the target's last. -/
theorem exec_ladderStepDone (hlow : 1 ≤ s.clk.ladder.step) (hhigh : s.clk.ladder.step < 6) : exec .ladderStepDone s = .next (
    let s1 := ladderEntered s s.clk.ladder.step
    if s.clk.ladder.wakes ≠ 0 then startReverse s1 s.clk.ladder.step .ok
    else if s.clk.ladder.step = lastStep s.clk.ladder.target then
      setLadder s1 { s1.clk.ladder with st := s.clk.ladder.target, step := 0 }
    else setLadder s1 { s1.clk.ladder with step := s.clk.ladder.step + 1 }) := by
  have hnone : ¬(s.clk.ladder.step = 0 ∨ s.err.failStop = true) := by
    rw [hstop]
    simp
    omega
  show execLadderStepDone s = _
  simp only [execLadderStepDone, if_neg hnone, if_neg (Nat.ne_of_lt hhigh)]

theorem completes_ladderStepDone (hlow : 1 ≤ s.clk.ladder.step) (hhigh : s.clk.ladder.step < 6) (hwakes : s.clk.ladder.wakes = 0) :
    Completes .ladderStepDone s (fun t => t.mem = s.mem ∧ t.dict = s.dict ∧
      (s.clk.ladder.step = lastStep s.clk.ladder.target → t.clk.ladder.st = s.clk.ladder.target ∧ t.clk.ladder.step = 0) ∧
      (s.clk.ladder.step ≠ lastStep s.clk.ladder.target → t.clk.ladder.st = s.clk.ladder.st ∧ t.clk.ladder.step = s.clk.ladder.step + 1) ∧
      (s.clk.ladder.step = 3 → t.clk.ladder.stopRtc = s.clk.rtc) ∧ (s.clk.ladder.step = 5 → srcReady t .ref25 = false)) := by
  obtain ⟨hmem, hdict, hladder, hsrc⟩ := ladderEntered_spec s (Nat.ne_of_lt hhigh)
  refine ⟨_, exec_ladderStepDone hstop hlow hhigh, ?_⟩
  dsimp only
  rw [if_neg (not_not.mpr hwakes), hladder]
  split
  · next hlast => exact ⟨hmem, hdict, fun _ => ⟨rfl, rfl⟩, fun h => absurd hlast h, fun h3 => if_pos h3, hsrc⟩
  · next hlast => exact ⟨hmem, hdict, fun h => absurd h hlast, fun _ => ⟨rfl, rfl⟩, fun h3 => if_pos h3, hsrc⟩

theorem completes_ladderStepDone_wake (hlow : 1 ≤ s.clk.ladder.step) (hhigh : s.clk.ladder.step < 6) (hwakes : s.clk.ladder.wakes ≠ 0) :
    Completes .ladderStepDone s (fun t => t.clk.ladder.step = 0 ∧ t.clk.ladder.reversing = s.clk.ladder.step ∧ t.mem = s.mem ∧
      t.dict = s.dict) := by
  obtain ⟨hmem, hdict, -, -⟩ := ladderEntered_spec s (Nat.ne_of_lt hhigh)
  obtain ⟨hladder, -, -, hmem', hdict'⟩ := startReverse_spec (ladderEntered s s.clk.ladder.step) s.clk.ladder.step .ok
  refine ⟨_, exec_ladderStepDone hstop hlow hhigh, ?_⟩
  dsimp only
  rw [if_pos hwakes, hladder, hmem', hmem, hdict', hdict]
  exact ⟨rfl, rfl, rfl, rfl⟩

theorem exec_ladderStepDone_off (hstep : s.clk.ladder.step = 6) : exec .ladderStepDone s = .next (ladderEntered s 6) := by
  have hnone : ¬(s.clk.ladder.step = 0 ∨ s.err.failStop = true) := by simp [hstop, hstep]
  show execLadderStepDone s = _
  simp only [execLadderStepDone, if_neg hnone, if_pos hstep]

theorem exec_ladderStepLimit (hstep : s.clk.ladder.step ≠ 0) :
    exec .ladderStepLimit s = .next (startReverse s (s.clk.ladder.step - 1) .timeout) := by
  have hnone : ¬(s.clk.ladder.step = 0 ∨ s.err.failStop = true) := by simp [hstop, hstep]
  show execLadderStepLimit s = _
  simp only [execLadderStepLimit, if_neg hnone]

end

/-- The last entry step stores the sealed keys that changed, and takes the chip's supplies away. -/
theorem ladderEntered_off (s : State) : (ladderEntered s 6).clk.ladder.st = 4 ∧ (ladderEntered s 6).clk.ladder.pwrEn = false ∧
    (ladderEntered s 6).boot.glenUp = false ∧ (ladderEntered s 6).vault.lc = s.vault.lc ∧
    (s.vault.sealedDirty = true → (ladderEntered s 6).vault.sealed =
      some ((match s.vault.sealed with | some x => x.1 + 1 | none => 1), persistentSlots s)) ∧
    (s.vault.sealedDirty = false → (ladderEntered s 6).vault.sealed = s.vault.sealed) := by
  have h2 : ¬((6 : Nat) = 2) := by decide
  have h3 : ¬((6 : Nat) = 3) := by decide
  have h5 : ¬((6 : Nat) = 5) := by decide
  simp only [ladderEntered, if_neg h2, if_neg h3, if_neg h5, if_true]
  split
  · next hdirty => exact ⟨rfl, rfl, rfl, rfl, fun _ => rfl, fun h => absurd (hdirty.symm.trans h) (by decide)⟩
  · next hclean => exact ⟨rfl, rfl, rfl, rfl, fun h => absurd h hclean, fun _ => rfl⟩

theorem exec_ladderReversalDone {s : State} (hstep : s.clk.ladder.step = 0) (hlow : 1 ≤ s.clk.ladder.reversing)
    (hhigh : s.clk.ladder.reversing < 3) (hst : s.clk.ladder.st ≠ 4) : exec .ladderReversalDone s =
      .next (setLadder (hostL1 s false) { (hostL1 s false).clk.ladder with
        st := 0, target := 0, reversing := 0, wakes := 0, stopRtc := 0 }) := by
  have hgo : ¬(s.clk.ladder.step ≠ 0 ∨ (s.clk.ladder.reversing = 0 ∧ ¬1 ≤ s.clk.ladder.wakes) ∨ s.clk.ladder.st = 4 ∨
      (5 ≤ s.clk.ladder.reversing ∧ ¬srcReady s .ref25 = true)) := by omega
  show execLadderReversalDone s = _
  simp only [execLadderReversalDone, if_neg hgo, if_neg (Nat.not_le.mpr hhigh)]

theorem completes_ladderReversalDone {s : State} (hstep : s.clk.ladder.step = 0) (hlow : 1 ≤ s.clk.ladder.reversing)
    (hhigh : s.clk.ladder.reversing < 3) (hst : s.clk.ladder.st ≠ 4) : Completes .ladderReversalDone s (fun t => ladderRuns t = true ∧
      t.time = s.time ∧ t.mem = s.mem ∧ t.dict = s.dict ∧ t.host.link = (if s.host.link = 0 then 0 else 1)) := by
  obtain ⟨hclk, hmem, hdict, htime⟩ := hostL1_keeps s false
  refine ⟨_, exec_ladderReversalDone hstep hlow hhigh hst, ?_, htime, hmem, hdict, ?_⟩
  · simp [ladderRuns, setLadder, hclk, hstep]
  · simp only [setLadder, hostL1]
    split
    · next h => exact h
    · rfl

/-! ### Wakes (R464, R466, R467) -/

theorem foldl_min_of_le {c : Nat} {l : List Nat} (h : ∀ x ∈ l, c ≤ x) : l.foldl min c = c := by
  induction l with
  | nil => rfl
  | cons x l ih =>
    rw [List.foldl_cons, Nat.min_eq_left (h x List.mem_cons_self)]
    exact ih fun y hy => h y (List.mem_cons_of_mem _ hy)

/-- Every source wakes from state 1. -/
theorem filter_wakesFrom_one (l : List Nat) : l.filter (wakesFrom 1) = l :=
  List.filter_eq_self.mpr fun _ _ => rfl

theorem filter_wakesFrom_three {l : List Nat} (h : ∀ x ∈ l, 5 ≤ x) : l.filter (wakesFrom 3) = [] := by
  refine List.filter_eq_nil_iff.mpr fun x hx => ?_
  have := h x hx
  simp [wakesFrom]
  omega

theorem wakeDepth_of_idle {s : State} (h : s.clk.ladder.step = 0) : wakeDepth s = s.clk.ladder.st := by
  simp [wakeDepth, h]

/-- Wakes from state 1 start the reversal of its one step. -/
theorem wakeBy_light {s : State} {c : Nat} {cs : List Nat} (hvaon : s.clk.vaon = true) (hstep : s.clk.ladder.step = 0)
    (hst : s.clk.ladder.st = 1) (hrev : s.clk.ladder.reversing = 0) (hmin : ∀ x ∈ cs, c ≤ x) : wakeBy s (c :: cs) =
      startReverse (recordWake s c ((c :: cs).foldl (fun m k => m ||| 2 ^ k) 0) 1 0 false) 1 .ok := by
  have hfit : (c :: cs).filter (wakesFrom (wakeDepth s)) = c :: cs := by
    rw [wakeDepth_of_idle hstep, hst, filter_wakesFrom_one]
  simp [wakeBy, hfit, hvaon, hstep, hst, hrev, foldl_min_of_le hmin, lastStep]

theorem wakeBy_none {s : State} {codes : List Nat} (h : codes.filter (wakesFrom (wakeDepth s)) = []) : wakeBy s codes = s := by
  simp only [wakeBy, h]

theorem completes_wake {w : WakeSource} {os : List WakeSource} {s : State} (hvaon : s.clk.vaon = true) (hstep : s.clk.ladder.step = 0)
    (hst : s.clk.ladder.st = 1) (hrev : s.clk.ladder.reversing = 0) (hmin : ∀ o ∈ os, wakeCode w ≤ wakeCode o) :
    Completes (.wake ⟨w, os⟩) s (fun t => t.clk.ladder.reversing = 1 ∧ t.clk.wake.src = wakeCode w ∧ t.clk.wake.state = 1 ∧
      t.clk.wake.abandoned = false ∧ (os = [] → t.clk.wake.mask = 2 ^ wakeCode w) ∧ t.mem = s.mem ∧ t.dict = s.dict) := by
  have hexec : exec (.wake ⟨w, os⟩) s = .next _ := congrArg Host.Outcome.next
    (wakeBy_light (c := wakeCode w) (cs := os.map wakeCode) hvaon hstep hst hrev (by simpa using hmin))
  obtain ⟨hladder, hwake, -, hmem, hdict⟩ := startReverse_spec (recordWake s (wakeCode w)
    ((wakeCode w :: os.map wakeCode).foldl (fun m k => m ||| 2 ^ k) 0) 1 0 false) 1 .ok
  refine ⟨_, hexec, ?_⟩
  dsimp only
  rw [hladder, hwake, hmem, hdict]
  refine ⟨rfl, rfl, rfl, rfl, ?_, rfl, rfl⟩
  rintro rfl
  exact Nat.zero_or _

theorem exec_wake_deep {w : WakeSource} {os : List WakeSource} {s : State} (hstep : s.clk.ladder.step = 0)
    (hst : s.clk.ladder.st = 3) (hcodes : ∀ o ∈ w :: os, 5 ≤ wakeCode o) : exec (.wake ⟨w, os⟩) s = .next s := by
  refine congrArg Host.Outcome.next (wakeBy_none ?_)
  rw [wakeDepth_of_idle hstep, hst]
  exact filter_wakesFrom_three (by simpa using hcodes)

/-- The alarm's time has come. -/
def rtcAt (s : State) (a : Nat) : State := { s with clk := { s.clk with rtc := a } }

theorem exec_rtcAlarm {s : State} (halarm : numD s (okey 0x2101 5) 0 ≠ 0) (hvaon : s.clk.vaon = true)
    (hrtc : s.clk.rtc ≤ numD s (okey 0x2101 5) 0) (hstep : s.clk.ladder.step = 0) (hst : s.clk.ladder.st = 2)
    (hrev : s.clk.ladder.reversing = 0) : exec .rtcAlarm s =
      .next (startReverse (recordWake (rtcAt s (numD s (okey 0x2101 5) 0)) 2 4 2 0 false) 3 .ok) := by
  have hgo : ¬(numD s (okey 0x2101 5) 0 = 0 ∨ ¬s.clk.vaon = true ∨ numD s (okey 0x2101 5) 0 < s.clk.rtc) := by
    simp [halarm, hvaon, hrtc]
  show execRtcAlarm s = _
  simp only [execRtcAlarm, if_neg hgo, hstep, hst, hrev, true_or, and_self, if_true]
  rfl

theorem completes_rtcAlarm {s : State} (halarm : numD s (okey 0x2101 5) 0 ≠ 0) (hvaon : s.clk.vaon = true)
    (hrtc : s.clk.rtc ≤ numD s (okey 0x2101 5) 0) (hstep : s.clk.ladder.step = 0) (hst : s.clk.ladder.st = 2)
    (hrev : s.clk.ladder.reversing = 0) : Completes .rtcAlarm s (fun t => t.clk.rtc = numD s (okey 0x2101 5) 0 ∧ t.clk.wake.src = 2 ∧
      t.clk.ladder.reversing = 3 ∧ t.mem = s.mem ∧ t.dict = s.dict) := by
  obtain ⟨hladder, hwake, hrtc', hmem, hdict⟩ :=
    startReverse_spec (recordWake (rtcAt s (numD s (okey 0x2101 5) 0)) 2 4 2 0 false) 3 .ok
  refine ⟨_, exec_rtcAlarm halarm hvaon hrtc hstep hst hrev, ?_⟩
  dsimp only
  rw [hladder, hwake, hrtc', hmem, hdict]
  exact ⟨rfl, rfl, rfl, rfl, rfl⟩

/-- The chip after its reset, with the reset pin low. -/
def heldInReset (s : State) (cause : Nat) : State :=
  { chipReset s cause with boot := { (chipReset s cause).boot with rstLow := true } }

theorem released_of_rstLow {s : State} (h : s.boot.rstLow = true) : released s = false := by
  simp [released, h]

theorem released_heldInReset (s : State) (cause : Nat) : released (heldInReset s cause) = false := released_of_rstLow rfl

theorem exec_boardPwrEnRaise {s : State} (hvaon : s.clk.vaon = true) (hst : s.clk.ladder.st = 4) (hoff : s.clk.ladder.pwrEn = false)
    (hwake : s.clk.ladder.pwrWake = true) :
    exec .boardPwrEnRaise s = .next (heldInReset (setLadder s { pwrEn := true }) 7) :=
  congrArg Host.Outcome.next (if_pos ⟨hvaon, hst, Bool.eq_false_iff.mp hoff, hwake⟩)

theorem ladderMoves : Claims.LadderMoves := by
  refine ⟨fun _ _ s hs hok => congrArg Host.Outcome.next (runOp_ok _ s hs hok), ?request,
    fun s hstop hlow hhigh hwakes => completes_ladderStepDone hstop hlow hhigh hwakes,
    fun s hstop hlow hhigh hwakes => completes_ladderStepDone_wake hstop hlow hhigh hwakes, ?off, ?limit,
    fun s hstep hlow hhigh hst => completes_ladderReversalDone hstep hlow hhigh hst,
    fun w os s hvaon hstep hst hrev hmin => completes_wake hvaon hstep hst hrev hmin,
    fun w os s _ hstep hst hcodes => exec_wake_deep hstep hst hcodes,
    fun s halarm hvaon hrtc hstep hst hrev => completes_rtcAlarm halarm hvaon hrtc hstep hst hrev,
    fun s hvaon hst hoff hwake => ⟨_, exec_boardPwrEnRaise hvaon hst hoff hwake, rfl, rfl, rfl, released_heldInReset _ _, rfl, rfl, rfl, rfl⟩⟩
  case request =>
    intro who x s hs hok
    obtain ⟨hlow, hhigh, htens⟩ := ladderRequestOp_ok hok
    refine ⟨hlow, hhigh, htens, _, congrArg Host.Outcome.next (runOp_ok _ s hs hok), rfl, ?_, rfl, rfl⟩
    simp [ladderRuns, ladderRequestOp, setLadder]
  case off =>
    intro s hstop hstep
    obtain ⟨hst, hpwr, hglen, hlc, hdirty, hclean⟩ := ladderEntered_off s
    refine ⟨_, exec_ladderStepDone_off hstop hstep, hst, hpwr, hglen, hlc, ?_⟩
    split
    · next h => exact hdirty h
    · next h => exact hclean (Bool.eq_false_iff.mpr h)
  case limit =>
    intro s hstop hstep
    obtain ⟨hladder, -, -, hmem, hdict⟩ := startReverse_spec s (s.clk.ladder.step - 1) .timeout
    refine ⟨_, exec_ladderStepLimit hstop hstep, ?_⟩
    dsimp only
    rw [hladder, hmem, hdict]
    exact ⟨rfl, rfl, rfl, rfl, rfl⟩

/-! ### Supplies and the reset pin (R481, R492, R493, R496) -/

/-- The always-on region with its supply just valid: the low-power oscillator runs. -/
def aonPowered (s : State) : State :=
  { loseAon s with clk := { (loseAon s).clk with vaon := true, srcs := [(5, { st := 2 })], ladder := { pwrEn := true } } }

theorem exec_powerUp {s : State} (hvaon : s.clk.vaon = false) : exec .powerUp s = .next (heldInReset (aonPowered s) 1) :=
  congrArg Host.Outcome.next (if_neg (Bool.eq_false_iff.mp hvaon))

theorem exec_vaonLoss {s : State} (hvaon : s.clk.vaon = true) : exec .vaonLoss s = .next (resetWith (loseAon s) 1) :=
  congrArg Host.Outcome.next (if_pos hvaon)

section
variable {s : State} (hvaon : s.clk.vaon = true) (hpwr : s.clk.ladder.pwrEn = true)
include hvaon hpwr

theorem exec_rstN_low (p : Straps) (hhigh : s.boot.rstLow = false) : exec (.rstN false p) s = .next (heldInReset s 2) := by
  show execRstN false p s = _
  simp only [execRstN, hvaon, hpwr, hhigh, not_true_eq_false, or_self, Bool.false_eq_true, if_false]
  rfl

theorem exec_rstN_high (p : Straps) (hlow : s.boot.rstLow = true) : exec (.rstN true p) s = .next { s with boot := { s.boot with
    rstLow := false, mgmtSel := p.mgmtSel, testMode := p.testMode, goldLow := p.goldLow } } := by
  show execRstN true p s = _
  simp only [execRstN, hvaon, hpwr, hlow, not_true_eq_false, or_self, if_false, if_true]

end

theorem suppliesAndReset : Claims.SuppliesAndReset := by
  refine ⟨fun s hvaon => ⟨_, exec_powerUp hvaon, rfl, rfl, rfl, released_heldInReset _ _, rfl, rfl, rfl, rfl, rfl, rfl, rfl, rfl⟩,
    fun s hvaon => ⟨_, exec_vaonLoss hvaon, rfl, rfl, rfl, rfl, rfl, rfl, rfl, rfl, rfl, rfl, rfl⟩,
    fun p s hvaon hpwr hhigh => ⟨_, exec_rstN_low hvaon hpwr p hhigh, rfl, released_heldInReset _ _, rfl, rfl, rfl, rfl, rfl, rfl, rfl,
      rfl⟩,
    fun p s hvaon hpwr hlow => ⟨_, exec_rstN_high hvaon hpwr p hlow, rfl, rfl, rfl, rfl, rfl⟩⟩

/-- Settles O51: the ladder by the end of each entry step and by its wakes, the supplies by the chip's reset with the pin low. -/
theorem ladderAndSupplies : Obligations.LadderAndSupplies := ⟨ladderMoves, suppliesAndReset⟩

end Sys2Proof.Machine

end

section
/-! Errors at their handlers: nesting, escalation, and the commands of an error's life (R470-R472, R399) -/

namespace Sys2Proof.Machine

/-! ### Handlers and statistics of the levels -/

@[simp] theorem handlerAt_setHandler (s : State) (k : Nat) (h : Handler) : handlerAt (setHandler s k h) k = h := tgetD_tset_same _ _ _ _

@[simp] theorem handlerAt_setStat (s : State) (l k : Nat) (x : LevelStat) : handlerAt (setStat s l x) k = handlerAt s k := rfl

@[simp] theorem handlerAt_raise (s : State) (m : EvtMsg) (k : Nat) : handlerAt (raise s m) k = handlerAt s k := rfl

@[simp] theorem statAt_setStat (s : State) (l : Nat) (x : LevelStat) : statAt (setStat s l x) l = x := tgetD_tset_same _ _ _ _

@[simp] theorem statAt_setHandler (s : State) (k l : Nat) (h : Handler) : statAt (setHandler s k h) l = statAt s l := rfl

@[simp] theorem statAt_logErr (s : State) (r : ErrRec) (l : Nat) : statAt (logErr s r) l = statAt s l := rfl

/-! ### An error at its handler -/

/-- The state in which the action of an error begins at an idle handler: logged where it is to be, counted, and the handler taken;
the chip handler keeps no active error (log entry 64). -/
def taken (d : ErrDesc) (l : Nat) (s : State) : State :=
  let r := errRecord s d l l 0 0
  let s1 := if decide (2 ≤ l) || d.log1 then logErr s r else s
  let s2 := setStat s1 l { statAt s1 l with handled := (statAt s1 l).handled + 1 }
  if l = 4 then s2
  else setHandler s2 (handlerKey l d.region d.block)
    { handlerAt s (handlerKey l d.region d.block) with active := some { er := r, kind := d.kind } }

/-- The state after an error has queued behind the active one of its handler. -/
def queuedBehind (d : ErrDesc) (l : Nat) (s : State) : State :=
  let k := handlerKey l d.region d.block
  let q := errRecord s d l l 1 0
  let s1 := logErr s q
  let s2 := setStat s1 l { statAt s1 l with
    nested := (statAt s1 l).nested + 1, peak := max (statAt s1 l).peak ((handlerAt s k).queue.length + 1) }
  setHandler s2 k { handlerAt s k with queue := (handlerAt s k).queue ++ [{ er := q, kind := d.kind }] }

/-- The state after an error of a level went on to the next. -/
def escalated (l : Nat) (s : State) : State := setStat s l { statAt s l with escalated := (statAt s l).escalated + 1 }

section
variable (act : ErrKind → Nat → ErrRec → State → State) {d : ErrDesc} {l : Nat} {s : State}

theorem arrive_idle (hidle : (handlerAt s (handlerKey l d.region d.block)).active = none) :
    arrive act d l s = act d.kind l (errRecord s d l l 0 0) (taken d l s) := by
  unfold arrive arriveAt
  dsimp only
  rw [hidle]
  rfl

theorem arrive_queued {a : Pend} (hbusy : (handlerAt s (handlerKey l d.region d.block)).active = some a)
    (hnew : findSame (handlerAt s (handlerKey l d.region d.block)) (errRecord s d l l 0 0) = none)
    (hroom : (handlerAt s (handlerKey l d.region d.block)).queue.length < 4) (hlog : 2 ≤ l) :
    arrive act d l s = queuedBehind d l s := by
  unfold arrive arriveAt
  dsimp only
  rw [hbusy, hnew]
  dsimp only
  rw [if_pos hroom, decide_eq_true hlog, Bool.true_or, if_pos rfl, ← hbusy]
  rfl

/-- An error of a resource that the handler holds, or one more than four, goes on to the next level, and from the chip handler into
its action. -/
theorem arrive_escalates {a : Pend} (hbusy : (handlerAt s (handlerKey l d.region d.block)).active = some a)
    (hfull : (findSame (handlerAt s (handlerKey l d.region d.block)) (errRecord s d l l 0 0)).isSome = true ∨
      4 ≤ (handlerAt s (handlerKey l d.region d.block)).queue.length) :
    ∃ fl par, arrive act d l s = if l = 4 then act d.kind 4 (errRecord s d l l 0 0) (logErr (escalated l s) (errRecord s d l l 0 0))
      else arriveAt act d l 4 (l + 1) fl par (escalated l s) := by
  unfold arrive arriveAt
  dsimp only
  rw [hbusy]
  dsimp only
  cases hsame : findSame (handlerAt s (handlerKey l d.region d.block)) (errRecord s d l l 0 0) with
  | some x => exact ⟨_, _, rfl⟩
  | none =>
    have hlen := hfull.resolve_left (by rw [hsame]; exact Bool.false_ne_true)
    dsimp only
    rw [if_neg (Nat.not_lt.mpr hlen)]
    exact ⟨_, _, rfl⟩

end

theorem taken_logged {d : ErrDesc} {l : Nat} {s : State} (hlog : 2 ≤ l) :
    (taken d l s).err.errors = keep 512 (errRecord s d l l 0 0 :: s.err.errors) ∧ (taken d l s).err.errSeq = s.err.errSeq + 1 := by
  unfold taken
  dsimp only
  rw [decide_eq_true hlog, Bool.true_or, if_pos rfl]
  split <;> exact ⟨rfl, rfl⟩

theorem taken_notLogged {d : ErrDesc} {l : Nat} {s : State} (hlow : l < 2) (hlog : d.log1 = false) :
    (taken d l s).err.errors = s.err.errors := by
  unfold taken
  dsimp only
  rw [decide_eq_false (Nat.not_le.mpr hlow), hlog, Bool.false_or, if_neg Bool.false_ne_true, if_neg (by omega)]
  rfl

theorem taken_handled (d : ErrDesc) (l : Nat) (s : State) : (statAt (taken d l s) l).handled = (statAt s l).handled + 1 := by
  unfold taken
  dsimp only
  split <;> split <;> simp

theorem taken_active {d : ErrDesc} {l : Nat} {s : State} (hidle : (handlerAt s (handlerKey l d.region d.block)).active = none) :
    (handlerAt (taken d l s) (handlerKey l d.region d.block)).active.isSome = decide (l ≠ 4) := by
  unfold taken
  dsimp only
  by_cases h4 : l = 4
  · have hkeep : ∀ u : State, u = s ∨ u = logErr s (errRecord s d l l 0 0) →
        (handlerAt u (handlerKey l d.region d.block)).active = none := by
      rintro u (rfl | rfl) <;> exact hidle
    rw [if_pos h4, handlerAt_setStat, hkeep _ (by split <;> simp), decide_eq_false (not_not.mpr h4)]
    rfl
  · rw [if_neg h4, handlerAt_setHandler, decide_eq_true h4]
    rfl

theorem taken_keeps (d : ErrDesc) (l : Nat) (s : State) :
    (taken d l s).mem = s.mem ∧ (taken d l s).dict = s.dict ∧ (taken d l s).ctl = s.ctl ∧ (taken d l s).boot = s.boot ∧
      (taken d l s).vault = s.vault ∧ (taken d l s).err.failStop = s.err.failStop := by
  unfold taken
  dsimp only
  split <;> split <;> exact ⟨rfl, rfl, rfl, rfl, rfl, rfl⟩

theorem queuedBehind_spec (d : ErrDesc) (l : Nat) (s : State) :
    handlerAt (queuedBehind d l s) (handlerKey l d.region d.block) = { handlerAt s (handlerKey l d.region d.block) with
      queue := (handlerAt s (handlerKey l d.region d.block)).queue ++ [{ er := errRecord s d l l 1 0, kind := d.kind }] } ∧
    (statAt (queuedBehind d l s) l).nested = (statAt s l).nested + 1 ∧ (queuedBehind d l s).mem = s.mem ∧
    (queuedBehind d l s).dict = s.dict := by
  refine ⟨handlerAt_setHandler _ _ _, ?_, rfl, rfl⟩
  rw [queuedBehind, statAt_setHandler, statAt_setStat]
  rfl

theorem handlers : Claims.Handlers := by
  refine ⟨fun act d l s hl hidle => ?_, fun act d l s a hl hbusy hnew hroom => ?_, fun act d l s a hl hbusy hfull => ?_,
    fun act d s a hbusy hfull => ?_⟩
  · obtain ⟨hmem, hdict, -⟩ := taken_keeps d l s
    obtain ⟨herrors, hseq⟩ := taken_logged (d := d) (s := s) hl
    exact ⟨_, arrive_idle act hidle, herrors, hseq, taken_handled d l s, taken_active hidle, hmem, hdict⟩
  · rw [arrive_queued act hbusy hnew hroom hl]
    exact queuedBehind_spec d l s
  · obtain ⟨fl, par, h⟩ := arrive_escalates act hbusy hfull
    exact ⟨fl, par, h.trans (if_neg (Nat.ne_of_lt hl))⟩
  · obtain ⟨_, _, h⟩ := arrive_escalates act hbusy hfull
    refine ⟨_, h.trans (if_pos rfl), ?_⟩
    rw [statAt_logErr, escalated, statAt_setStat]
/-! ### The commands of an error's life (R470) -/

theorem exec_errorArrival_corrected {e : ErrArrival} {s t : State} (hrel : released s = true) (hstop : s.err.failStop = false)
    (hboot : e.kind ≠ .bootDigest) (hglen : e.kind ≠ .glenFault) (hcor : corrected s e.kind = some t) :
    exec (.errorArrival e) s = .next (afterCorrected e.kind t) := by
  show execErrorArrival e s = _
  unfold execErrorArrival
  rw [if_neg (not_not.mpr hrel)]
  split
  case h_1 h => exact absurd h hboot
  case h_2 h => exact absurd h hglen
  case h_3 =>
    rw [hcor]
    exact congrArg Host.Outcome.next (if_neg (by rw [hstop]; exact Bool.false_ne_true))

theorem exec_errorArrival_uncorrected {e : ErrArrival} {s : State} (hrel : released s = true)
    (hboot : e.kind ≠ .bootDigest) (hglen : e.kind ≠ .glenFault) (hcor : corrected s e.kind = none) :
    exec (.errorArrival e) s = .next (errorArrives s e.kind) := by
  show execErrorArrival e s = _
  unfold execErrorArrival
  rw [if_neg (not_not.mpr hrel)]
  split
  case h_1 h => exact absurd h hboot
  case h_2 h => exact absurd h hglen
  case h_3 => rw [hcor]

theorem errorArrives_level {s : State} {k : ErrKind} {d : ErrDesc} {l : Nat} (hinfo : errInfo s k = some (d, .level l))
    (htest : underTest s k = none) : errorArrives s k = arrive errAct d l s := by
  rw [errorArrives, hinfo]
  dsimp only
  rw [htest]

/-! An uncorrectable word of DDR5 reads as poisoned until it is rewritten (R392). -/

/-- What an uncorrectable word of DDR5 is to its channel's handler. -/
def ddrWordErr (s : State) (a : Nat) : ErrDesc := { errOf (.memDbe a false) 5 (ddrChannel s a) 1 with detail := a }

theorem errInfo_ddrWord {s : State} {a : Nat} (hhbm : inHbm a 1 = false) :
    errInfo s (.memDbe a false) = some (ddrWordErr s a, .level 1) := by
  show some (({ errOf (.memDbe a false) 5 (if inHbm a 1 then 4 + hbmStack a else ddrChannel s a) 1 with detail := a } : ErrDesc),
    ErrRoute.level 1) = _
  rw [hhbm]
  rfl

theorem mem_poisonWords (s : State) (a : Nat) : a / 8 * 8 ∈ (poisonWords s a 1).ctl.poison := by
  show a / 8 * 8 ∈ if s.ctl.poison.contains (a / 8 * 8) then s.ctl.poison else s.ctl.poison ++ [a / 8 * 8]
  split
  next h => exact List.contains_iff_mem.mp h
  next => exact List.mem_append_right _ List.mem_cons_self

theorem errAct_cell {s : State} (k : ErrKind) (r : ErrRec) (hstop : s.err.failStop = false) : errAct k 1 r s = cellAct k r s := by
  rw [errAct, if_neg (by rw [hstop]; exact Bool.false_ne_true), if_neg (by decide), if_neg (by decide), if_neg (by decide)]

theorem errAct_block {s : State} (k : ErrKind) (r : ErrRec) (hstop : s.err.failStop = false) : errAct k 2 r s = blockAct k r s := by
  rw [errAct, if_neg (by rw [hstop]; exact Bool.false_ne_true), if_neg (by decide), if_neg (by decide), if_pos rfl]

theorem cellAct_ddrWord {s : State} {a : Nat} (r : ErrRec) (hin : inDdrHbm s a 8 = true) :
    cellAct (.memDbe a false) r s = count (poisonWords s a 1) (okey 0x7040 2) := if_pos hin

theorem inDdrHbm_of_ctl {s t : State} (h : t.ctl = s.ctl) (a n : Nat) : inDdrHbm t a n = inDdrHbm s a n := by
  simp only [inDdrHbm, inDdr, ddrCapacity, ddrWorking, h]

theorem ddrWord_poisoned {s : State} {a : Nat} (hrel : released s = true) (hstop : s.err.failStop = false)
    (hin : inDdrHbm s a 8 = true) (hhbm : inHbm a 1 = false) (hidle : (handlerAt s (handlerKey 1 5 (ddrChannel s a))).active = none) :
    Completes (.errorArrival ⟨.memDbe a false⟩) s (fun t => a / 8 * 8 ∈ t.ctl.poison ∧
      numD t (okey 0x7040 2) 0 = (numD s (okey 0x7040 2) 0 + 1) % 2 ^ 64 ∧ t.mem = s.mem ∧ t.err.errors = s.err.errors) := by
  obtain ⟨hmem, hdict, hctl, -, -, hstop'⟩ := taken_keeps (ddrWordErr s a) 1 s
  have herrors : (taken (ddrWordErr s a) 1 s).err.errors = s.err.errors := taken_notLogged (by decide) rfl
  have hexec := exec_errorArrival_uncorrected (e := ⟨.memDbe a false⟩) hrel nofun nofun rfl
  rw [errorArrives_level (errInfo_ddrWord hhbm) rfl, arrive_idle errAct (d := ddrWordErr s a) hidle, errAct_cell _ _ (hstop'.trans hstop)] at hexec
  refine ⟨_, hexec.trans (congrArg Host.Outcome.next (cellAct_ddrWord _ ((inDdrHbm_of_ctl hctl a 8).trans hin))), ?_⟩
  dsimp only
  rw [count_ctl, count_mem, count_err, numD_count_same]
  exact ⟨mem_poisonWords _ a, congrArg (fun n => (n + 1) % 2 ^ 64) (numD_of_dict hdict _ _), hmem, herrors⟩

/-! Glen stops at an error of its own, and its restart ends every session (R399). -/

/-- What a fault of Glen is to its block's handler. -/
def glenErr : ErrDesc := errOf .glenFault 6 6 7

theorem errInfo_glen {s : State} (hup : s.boot.glenUp = true) : errInfo s .glenFault = some (glenErr, .level 2) := if_pos hup

/-- The handler of an error of Glen, by its number. -/
theorem glenHandler_key :
    (2 : Fin 5).val * 0x100000000 + (BitVec.ofNat 32 (unitId 2 6 6 0xFFF)).toNat = handlerKey 2 6 6 := by decide

theorem glenWatchdog_stops {s : State} (hrel : released s = true) (hstop : s.err.failStop = false) (hup : s.boot.glenUp = true)
    (hidle : (handlerAt s (handlerKey 2 6 6)).active = none) :
    exec .glenWatchdog s = .next (glenStops (taken glenErr 2 s)) := by
  obtain ⟨-, -, -, -, -, hstop'⟩ := taken_keeps glenErr 2 s
  refine congrArg Host.Outcome.next ((if_pos ⟨hrel, ne_true_of_eq_false hstop⟩).trans ?_)
  rw [errorArrives_level (errInfo_glen hup) rfl, arrive_idle errAct (d := glenErr) hidle, errAct_block _ _ (hstop'.trans hstop)]
  rfl

theorem exec_errorActionComplete_last {h : HandlerId} {s : State} {p : Pend} {k : Nat}
    (hk : h.level.val * 0x100000000 + h.unit.toNat = k) (hstop : s.err.failStop = false) (hact : (handlerAt s k).active = some p)
    (hempty : (handlerAt (finishAct p.kind h.level p.er (setHandler s k { handlerAt s k with active := none })) k).queue = []) :
    exec (.errorActionComplete h) s =
      .next (finishAct p.kind h.level p.er (setHandler s k { handlerAt s k with active := none })) := by
  show execErrorActionComplete h s = _
  unfold execErrorActionComplete
  dsimp only
  rw [hk, hact]
  dsimp only
  rw [if_neg (by rw [hstop]; exact Bool.false_ne_true), nextError]
  dsimp only
  rw [hempty]

theorem finishAct_glenFault (r : ErrRec) (s : State) : finishAct .glenFault 2 r s = glenBack s r := rfl

theorem glenAction_ends {s : State} {p : Pend} (hstop : s.err.failStop = false)
    (hact : handlerAt s (handlerKey 2 6 6) = { active := some p, queue := [] }) (hkind : p.kind = .glenFault) :
    Completes (.errorActionComplete ⟨2, BitVec.ofNat 32 (unitId 2 6 6 0xFFF)⟩) s (fun t => t.boot = { s.boot with glenUp := true } ∧
      handlerAt t (handlerKey 2 6 6) = {} ∧ t.mem = s.mem ∧ t.dict = s.dict) := by
  have hfinish : finishAct p.kind (2 : Fin 5) p.er (setHandler s (handlerKey 2 6 6) { handlerAt s (handlerKey 2 6 6) with active := none })
      = glenBack (setHandler s (handlerKey 2 6 6) {}) p.er := by
    rw [hkind, hact]
    exact finishAct_glenFault _ _
  have hfree : handlerAt (glenBack (setHandler s (handlerKey 2 6 6) {}) p.er) (handlerKey 2 6 6) = {} :=
    (handlerAt_raise _ _ _).trans (handlerAt_setHandler _ _ _)
  refine ⟨_, exec_errorActionComplete_last glenHandler_key hstop (by rw [hact]) ?_, ?_⟩
  · rw [hfinish, hfree]
  · dsimp only
    rw [hfinish]
    exact ⟨rfl, hfree, rfl, rfl⟩

theorem errorCommands : Claims.ErrorCommands := by
  refine ⟨fun e s t hrel hstop hboot hglen hcor => exec_errorArrival_corrected hrel hstop hboot hglen hcor,
    fun s => ⟨rfl, fun _ _ _ => rfl, rfl, rfl, rfl⟩, fun e s d l hrel hboot hglen hcor hinfo htest => ?_,
    fun s a hrel hstop hin hhbm hidle => ddrWord_poisoned hrel hstop hin hhbm hidle,
    fun h s p hstop hact hempty => exec_errorActionComplete_last rfl hstop hact hempty,
    fun s p hstop hact hkind => glenAction_ends hstop hact hkind, fun s hrel hstop hup hidle => ?_⟩
  · rw [exec_errorArrival_uncorrected hrel hboot hglen hcor, errorArrives_level hinfo htest]
  · obtain ⟨hmem, hdict, -, -, hvault, -⟩ := taken_keeps glenErr 2 s
    exact ⟨_, glenWatchdog_stops hrel hstop hup hidle, rfl, rfl, rfl, rfl, rfl, (taken_active (d := glenErr) hidle).trans (by decide),
      hmem, hdict, hvault⟩

/-- Settles O52: an error of an idle handler is `taken`, one of a busy handler is `queuedBehind` or `escalated`; the commands of its
life follow from where its action leaves the state. -/
theorem errorHandling : Obligations.ErrorHandling := ⟨handlers, errorCommands⟩

end Sys2Proof.Machine

end

section
/-! Chip reset, the records of the logs, tests in the field (R475-R485) -/

namespace Sys2Proof.Machine

/-! ### Chip reset: what a reset with a cause leaves (R479, R481) -/

/-- What every chip reset leaves: the cause, Glen down, no fail-stop, no tenancy and no session, and what outlives a reset. -/
theorem chipReset_spec (s : State) (cause : Nat) :
    (chipReset s cause).resp = s.resp ∧ (chipReset s cause).pending = s.pending ∧ (chipReset s cause).err.resetCause = cause ∧
      (chipReset s cause).err.failStop = false ∧ (chipReset s cause).boot.glenUp = false ∧ (chipReset s cause).tens = [] ∧
      (chipReset s cause).idien.sessions = [] ∧ (chipReset s cause).vault.lc = s.vault.lc ∧
      (chipReset s cause).vault.sealed = s.vault.sealed ∧ (chipReset s cause).vault.keyReg = s.vault.keyReg ∧
      (chipReset s cause).boot.slotA = s.boot.slotA ∧ (chipReset s cause).boot.slotB = s.boot.slotB ∧
      (chipReset s cause).dict.flashNums = s.dict.flashNums ∧ (chipReset s cause).err.chipErrors = s.err.chipErrors := by
  unfold chipReset
  split <;> exact ⟨rfl, rfl, rfl, rfl, rfl, rfl, rfl, rfl, rfl, rfl, rfl, rfl, rfl, rfl⟩

section
variable {who : Who} {s : State} (hglen : glenServes s = true) (hans : failStopAnswers who s = true) (hwho : isOV who = true)
include hglen hans hwho

theorem exec_chipReset_one : exec (.chipReset who 1) s = .next (chipReset (respond s .ok 0 []) 3) := by
  refine congrArg Host.Outcome.next ((if_pos ⟨hglen, hans⟩).trans ?_)
  rw [hwho]
  rfl

theorem exec_chipReset_other {x : U8} (hx : x ≠ 1) : exec (.chipReset who x) s = .next (respond s .range 0 []) := by
  refine congrArg Host.Outcome.next ((if_pos ⟨hglen, hans⟩).trans ?_)
  rw [hwho, decide_eq_true hx]
  rfl

end

theorem exec_failstopResetDelay {s : State} (hstop : s.err.failStop = true) (hdelay : numD s (okey 0x2440 2) 0 ≠ 0) :
    exec .failstopResetDelay s = .next (chipReset s 4) := congrArg Host.Outcome.next (if_pos ⟨hstop, hdelay⟩)

/-! ### The records of the logs (R475-R477) -/

theorem length_sliceD {α : Type} (l : List α) (k n : Nat) (d : α) : (sliceD l k n d).length = n := by
  simp only [sliceD, List.length_append, List.length_replicate, List.length_take]
  omega

theorem length_evtBytes (e : EvtRec) : (evtBytes e).length = 64 := by
  simp [evtBytes, ascii, length_sliceD]

theorem length_errBytes (r : ErrRec) : (errBytes r).length = 48 := by simp [errBytes]

/-- Records of one length, one after another. -/
theorem length_flatMap_const {α β : Type} {f : α → List β} {n : Nat} (hf : ∀ a, (f a).length = n) (l : List α) :
    (l.flatMap f).length = l.length * n := by
  simp [List.length_flatMap, hf]

theorem length_examine (f : EvtRec → Bool) (n : Nat) (es : List EvtRec) : (examine f n es).1.length ≤ n := by
  fun_induction examine f n es with
  | case1 => exact Nat.zero_le _
  | case2 => exact Nat.zero_le _
  | case3 n e es _ _ ih => exact Nat.succ_le_succ ih
  | case4 n e es _ _ ih => exact ih

theorem setSess_keeps (s : State) (w : Who) (x : Session) :
    (setSess s w x).err = s.err ∧ (setSess s w x).dict = s.dict ∧ (setSess s w x).mem = s.mem := by
  unfold setSess
  split <;> exact ⟨rfl, rfl, rfl⟩

theorem serves_eventLogRead (who : Who) : Serves (.eventLogRead who) (eventLogOp who) :=
  fun s hs hok => congrArg Host.Outcome.next (runOp_ok _ s hs hok)

theorem serves_errorLogRead (who : Who) : Serves (.errorLogRead who) (errorLogOp who) :=
  fun s hs hok => congrArg Host.Outcome.next (runOp_ok _ s hs hok)

theorem length_eventLogOp (who : Who) (s : State) :
    ((eventLogOp who).effect s).2.length % 64 = 0 ∧ ((eventLogOp who).effect s).2.length ≤ 1024 := by
  have hlen := length_examine (seesEvent who) 16 (s.err.events.take (eventsSince s (sessOf s who).evtCursor)).reverse
  show (List.flatMap evtBytes _).length % 64 = 0 ∧ (List.flatMap evtBytes _).length ≤ 1024
  rw [length_flatMap_const length_evtBytes]
  exact ⟨Nat.mul_mod_left _ _, by omega⟩

theorem errorLogOp_keeps (who : Who) (s : State) :
    ((errorLogOp who).effect s).1.err = s.err ∧ ((errorLogOp who).effect s).1.dict = s.dict ∧
      ((errorLogOp who).effect s).1.mem = s.mem := by
  simp only [errorLogOp]
  split
  · exact ⟨rfl, rfl, rfl⟩
  · exact setSess_keeps _ _ _

theorem length_errorLogOp (who : Who) (s : State) :
    ((errorLogOp who).effect s).2.length % 48 = 0 ∧ ((errorLogOp who).effect s).2.length ≤ 1008 := by
  simp only [errorLogOp]
  split
  · exact ⟨rfl, Nat.zero_le _⟩
  · dsimp only
    rw [length_flatMap_const length_errBytes]
    have hlen := List.length_take_le 21 (s.err.errors.reverse.filter (fun r => decide ((sessOf s who).errCursor ≤ r.seq)))
    exact ⟨Nat.mul_mod_left _ _, by omega⟩

theorem resetAndLogs : Claims.ResetAndLogs := by
  refine ⟨fun who s hglen hans hwho => ?_, fun who x s hglen hans hwho hx => exec_chipReset_other hglen hans hwho hx,
    fun s hstop hdelay => ?_, length_evtBytes, length_errBytes, serves_eventLogRead, serves_errorLogRead,
    fun who s hglen hstop => ?_, fun who s hglen hrole => ?_⟩
  · obtain ⟨hresp, hpending, hcause, hstop, hup, htens, hsess, hlc, hsealed, -, hA, hB, hflash, hchip⟩ :=
      chipReset_spec (respond s .ok 0 []) 3
    exact ⟨_, exec_chipReset_one hglen hans hwho, hresp, hcause, hstop, hup, htens, hsess, hlc, hsealed, hA, hB, hflash, hchip, hpending⟩
  · obtain ⟨-, -, hcause, hstop', hup, -, -, hlc, -, hkey, -⟩ := chipReset_spec s 4
    exact ⟨_, exec_failstopResetDelay hstop hdelay, hcause, hstop', hup, hlc, hkey⟩
  · obtain ⟨herr, hdict, hmem⟩ := setSess_keeps s who _
    obtain ⟨hmod, hle⟩ := length_eventLogOp who s
    exact ⟨_, serves_eventLogRead who s hglen ((firstStatus_cons_iff (st := .access) nofun _ _).mpr ⟨hstop, rfl⟩), hmod, hle, herr, hdict, hmem⟩
  · obtain ⟨herr, hdict, hmem⟩ := errorLogOp_keeps who s
    obtain ⟨hmod, hle⟩ := length_errorLogOp who s
    exact ⟨_, serves_errorLogRead who s hglen ((firstStatus_cons_iff (st := .access) nofun _ _).mpr ⟨decide_eq_false hrole, rfl⟩), hmod, hle,
      herr, hdict, hmem⟩
/-! ### Tests in the field (R484, R485) -/

@[simp] theorem slotOf_setSlot_same (s : State) (q : Nat) (x : Slot) : slotOf (setSlot s q x) q = x := tgetD_tset_same _ _ _ _

theorem bitOf_or_two_pow (x n : Nat) : bitOf (x ||| 2 ^ n) n = true := by
  rw [bitOf, Nat.testBit_or, Nat.testBit_two_pow_self, Bool.or_true]

theorem serves_laneTest (who : Who) (x : U8) : Serves (.laneTest who x) (laneTestOp who x.toNat) :=
  fun s hs hok => congrArg Host.Outcome.next (runOp_ok _ s hs hok)

theorem serves_saddlePortTest (who : Who) (x : U8) : Serves (.saddlePortTest who x) (saddleTestOp who x.toNat) :=
  fun s hs hok => congrArg Host.Outcome.next (runOp_ok _ s hs hok)

theorem laneTestOp_accepts {who : Who} {n : Nat} {s : State} (hok : (laneTestOp who n).status s = .ok) :
    n < 16 ∧ s.err.laneTest = none ∧ bitOf (numD s (okey 0x2450 3) 0) n = false := by
  obtain ⟨-, hrest⟩ := (firstStatus_append_iff _ _).mp hok
  obtain ⟨hrange, hrest⟩ := (firstStatus_cons_iff (st := .range) nofun _ _).mp hrest
  obtain ⟨hbusy, -⟩ := (firstStatus_cons_iff (st := .busy) nofun _ _).mp hrest
  simp only [Bool.or_eq_false_iff, decide_eq_false_iff_not, not_lt] at hrange
  obtain ⟨⟨hn, -⟩, hbit⟩ := hrange
  exact ⟨by omega, Option.isSome_eq_false_iff.mp hbusy |> Option.isNone_iff_eq_none.mp, hbit⟩

theorem saddleTestOp_accepts {who : Who} {n : Nat} {s : State} (hok : (saddleTestOp who n).status s = .ok) :
    n < 8 ∧ s.err.portTest = none ∧ saddleRetired s n = false := by
  obtain ⟨-, hrest⟩ := (firstStatus_append_iff _ _).mp hok
  obtain ⟨hrange, hrest⟩ := (firstStatus_cons_iff (st := .range) nofun _ _).mp hrest
  obtain ⟨-, hrest⟩ := (firstStatus_cons_iff (st := .notReady) nofun _ _).mp hrest
  obtain ⟨hbusy, -⟩ := (firstStatus_cons_iff (st := .busy) nofun _ _).mp hrest
  simp only [Bool.or_eq_false_iff, decide_eq_false_iff_not, not_lt] at hrange
  obtain ⟨⟨hn, -⟩, hret⟩ := hrange
  exact ⟨by omega, Option.isSome_eq_false_iff.mp hbusy |> Option.isNone_iff_eq_none.mp, hret⟩

theorem linkUp_laneTestOp (who : Who) (n : Nat) (s : State) :
    (((laneTestOp who n).effect s).1.vale (laneVale n)).path.linkUp =
      (s.vale (laneVale n)).path.linkUp &&& ~~~ (1#8 <<< lanePort s n) := by
  simp only [laneTestOp]
  exact congrArg (fun x : ValeState => x.path.linkUp) (vale_modVale s (laneVale n) _)

theorem laneTestOp_keeps (who : Who) (n : Nat) (s : State) :
    ((laneTestOp who n).effect s).1.dict = s.dict ∧ ((laneTestOp who n).effect s).1.mem = s.mem := by
  simp [laneTestOp]

section
variable {n : Nat} {s : State}

/-- The state in which the verdict of a lane's test is recorded. -/
def laneVerdict (s : State) : State := { s with err := { s.err with laneTest := none } }

/-- A lane that failed its test is retired. -/
def laneRetired (s : State) (n : Nat) : State :=
  raise (setNum (setNum (laneVerdict s) (okey 0x2450 2) (statusCode .halted)) (okey 0x2450 3) (numD s (okey 0x2450 3) 0 ||| 2 ^ n))
    { cls := 0, name := "LANE_RETIRED", unit := unitId 1 (1 + n / 8) (150 + lanePort s n) (n % 8), resource := n }

theorem exec_laneTestDone (htest : s.err.laneTest = some n) (hstop : s.err.failStop = false) (pass : Bool) :
    exec (.laneTestDone pass) s = .next (if pass then setNum (laneVerdict s) (okey 0x2450 2) 0 else laneRetired s n) := by
  show execLaneTestDone pass s = _
  unfold execLaneTestDone
  rw [htest]
  exact congrArg Host.Outcome.next (if_neg (ne_true_of_eq_false hstop))

theorem numD_laneRetired (s : State) (n : Nat) : numD (laneRetired s n) (okey 0x2450 3) 0 = numD s (okey 0x2450 3) 0 ||| 2 ^ n ∧
    numD (laneRetired s n) (okey 0x2450 2) 0 = statusCode .halted :=
  ⟨numD_setNum_same _ _ _ _, (numD_setNum_other _ _ _ _ _ (by decide)).trans (numD_setNum_same _ _ _ _)⟩

/-- The state in which the verdict of a Saddle port's test is recorded: its recorded errors are cleared. -/
def portVerdict (s : State) (n : Nat) : State :=
  { s with err := { s.err with
      testFails := s.err.testFails.filter (fun u => decide (u ≠ unitId 2 4 n 0xFFF)), portTest := none } }

/-- A Saddle port that failed its test is retired, and its slot failed. -/
def portRetired (s : State) (n : Nat) : State :=
  let s2 := setNum (setNum (portVerdict s n) (okey 0x2451 2) (statusCode .halted)) (okey 0x2451 3) (numD s (okey 0x2451 3) 0 ||| 2 ^ n)
  raise (setSlot s2 (n / 2) (slotDown (slotOf s2 (n / 2)) .failed))
    { cls := 0, name := "SADDLE_PORT_RETIRED", unit := unitId 2 4 n 0xFFF, resource := n }

theorem exec_saddlePortTestDone_passes (htest : s.err.portTest = some n) (hstop : s.err.failStop = false)
    (hsound : s.err.testFails.contains (unitId 2 4 n 0xFFF) = false) (hslot : (slotOf s (n / 2)).st ≠ .ready) :
    exec (.saddlePortTestDone true) s = .next (setNum (portVerdict s n) (okey 0x2451 2) 0) := by
  show execSaddlePortTestDone true s = _
  unfold execSaddlePortTestDone testVerdict
  have hpass : (true && !s.err.testFails.contains (unitId 2 4 n 0xFFF)) = true := by rw [hsound]; rfl
  rw [htest]
  exact congrArg Host.Outcome.next ((if_neg (ne_true_of_eq_false hstop)).trans ((if_pos hpass).trans (if_neg hslot)))

theorem exec_saddlePortTestDone_fails (htest : s.err.portTest = some n) (hstop : s.err.failStop = false) :
    exec (.saddlePortTestDone false) s = .next (portRetired s n) := by
  show execSaddlePortTestDone false s = _
  unfold execSaddlePortTestDone testVerdict
  rw [htest]
  exact congrArg Host.Outcome.next (if_neg (ne_true_of_eq_false hstop))

theorem portRetired_spec (s : State) (n : Nat) : (portRetired s n).err.portTest = none ∧
    bitOf (numD (portRetired s n) (okey 0x2451 3) 0) n = true ∧ (slotOf (portRetired s n) (n / 2)).st = .failed ∧
    (portRetired s n).mem = s.mem := by
  have hnum : numD (portRetired s n) (okey 0x2451 3) 0 = numD s (okey 0x2451 3) 0 ||| 2 ^ n := numD_setNum_same _ _ _ _
  have hslot : (slotOf (portRetired s n) (n / 2)).st = .failed := congrArg Slot.st (slotOf_setSlot_same _ _ _)
  exact ⟨rfl, hnum ▸ bitOf_or_two_pow _ _, hslot, rfl⟩

end

theorem fieldTests : Claims.FieldTests := by
  refine ⟨serves_laneTest, serves_saddlePortTest, fun who x s hglen hok => ?lane, fun n s htest hstop => ⟨?_, ?_⟩,
    fun who x s hglen hok => ?port, fun n s htest hstop hsound => ⟨fun hslot => ?_, ?_⟩⟩
  case lane =>
    obtain ⟨hn, hnone, hbit⟩ := laneTestOp_accepts hok
    obtain ⟨hdict, hmem⟩ := laneTestOp_keeps who x.toNat s
    exact ⟨hn, hnone, hbit, _, serves_laneTest who x s hglen hok, rfl, linkUp_laneTestOp who x.toNat s, hdict, hmem⟩
  · exact ⟨_, exec_laneTestDone htest hstop true, rfl, numD_setNum_same _ _ _ _, numD_setNum_other _ _ _ _ _ (by decide), rfl⟩
  · obtain ⟨hret, hstatus⟩ := numD_laneRetired s n
    exact ⟨_, exec_laneTestDone htest hstop false, rfl, (congrArg (bitOf · n) hret).trans (bitOf_or_two_pow _ n), hstatus, rfl⟩
  case port =>
    obtain ⟨hn, hnone, hret⟩ := saddleTestOp_accepts hok
    exact ⟨hn, hnone, hret, _, serves_saddlePortTest who x s hglen hok, rfl, rfl, rfl, rfl, rfl, rfl⟩
  · exact ⟨_, exec_saddlePortTestDone_passes htest hstop hsound hslot, rfl, numD_setNum_same _ _ _ _, rfl, rfl⟩
  · exact ⟨_, exec_saddlePortTestDone_fails htest hstop, portRetired_spec s n⟩

/-- Settles O53: what a chip reset leaves (`chipReset_spec`), the lengths of the logs' records, and the verdicts of the tests in the
field. -/
theorem resetsLogsTests : Obligations.ResetsLogsTests := ⟨resetAndLogs, fieldTests⟩

end Sys2Proof.Machine

end

section
/-! The queue engine: commands of the block and doorbells (R307-R315, R325) -/

namespace Sys2Proof.Machine

/-! ### Contexts and command blocks -/

@[simp] theorem ctxOf_setCtx_same (s : State) (i : Nat) (q : QCtx) : ctxOf (setCtx s i q) i = some q := tget_tset_same _ _ _

theorem ctxOf_setCtx_other (s : State) {i j : Nat} (q : QCtx) (h : j ≠ i) : ctxOf (setCtx s i q) j = ctxOf s j :=
  tget_tset_other _ _ _ _ h

theorem ctxOf_of_qe {s t : State} (h : t.qe = s.qe) (i : Nat) : ctxOf t i = ctxOf s i := by rw [ctxOf, ctxOf, h]

theorem blkOf_of_blks {s t : State} (h : t.qe.blks = s.qe.blks) (f : Nat) : blkOf t f = blkOf s f := by rw [blkOf, blkOf, h]

@[simp] theorem blkOf_setBlk_same (s : State) (f : Nat) (b : QeBlk) : blkOf (setBlk s f b) f = b := tgetD_tset_same _ _ _ _

theorem blkOf_setBlk_other (s : State) {f g : Nat} (b : QeBlk) (h : g ≠ f) : blkOf (setBlk s f b) g = blkOf s g :=
  tgetD_tset_other _ _ _ _ _ h

/-! ### Asking for a ring read (R315) -/

/-- The state `t` differs from `s` in the queue contexts only by the context `i`, which is `q` with some ring read under way. -/
def FetchAsked (s t : State) (i : Nat) (q : QCtx) : Prop :=
  (∃ rr, ctxOf t i = some { q with ringRead := rr }) ∧ (∀ j, j ≠ i → ctxOf t j = ctxOf s j) ∧ t.qe.blks = s.qe.blks ∧
    t.dict = s.dict ∧ t.mem = s.mem ∧ t.hmem = s.hmem

/-- A read of the ring may be asked for: only the context's ring read and the host's requests change. -/
theorem askFetch_spec {s : State} {i : Nat} {q : QCtx} (h : ctxOf s i = some q) : FetchAsked s (askFetch s i) i q := by
  have hnone : FetchAsked s s i q := ⟨⟨q.ringRead, h⟩, fun _ _ => rfl, rfl, rfl, rfl, rfl⟩
  unfold askFetch
  rw [h]
  dsimp only
  split
  · exact hnone
  · split
    · exact hnone
    · exact ⟨⟨_, ctxOf_setCtx_same _ _ _⟩, fun j hj => ctxOf_setCtx_other _ _ hj, rfl, rfl, rfl, rfl⟩

/-- The fetch asked for after a context was set. -/
theorem askFetch_setCtx (s : State) (i : Nat) (q : QCtx) : FetchAsked s (askFetch (setCtx s i q) i) i q := by
  obtain ⟨hctx, hother, hblks, hdict, hmem, hhmem⟩ := askFetch_spec (ctxOf_setCtx_same s i q)
  exact ⟨hctx, fun j hj => (hother j hj).trans (ctxOf_setCtx_other _ _ hj), hblks, hdict, hmem, hhmem⟩

/-! ### Commands of the block (R307-R310) -/

theorem qeCmd_handed {s : State} {f op : Nat} (h : Handed s f op) (run : QeBlk → State) : qeCmd s f op run = run (blkOf s f) := by
  obtain ⟨hgo, hop, hqe, hserves⟩ := h
  refine if_pos ?_
  rw [hgo, decide_eq_true hop, hqe, hserves]
  rfl

@[simp] theorem qeDone_ctx (s : State) (f : Nat) (st : Status) (g : QeBlk → QeBlk) : (qeDone s f st g).qe.ctx = s.qe.ctx := rfl

theorem ctxOf_qeDone (s : State) (f : Nat) (st : Status) (g : QeBlk → QeBlk) (i : Nat) : ctxOf (qeDone s f st g) i = ctxOf s i := rfl

theorem blkOf_qeDone_ok (s : State) (f : Nat) (g : QeBlk → QeBlk) :
    blkOf (qeDone s f .ok g) f = g { blkOf s f with go := false, done := true, status := 0 } := blkOf_setBlk_same _ _ _

theorem blkOf_qeDone_id (s : State) (f : Nat) (st : Status) :
    blkOf (qeDone s f st id) f = { blkOf s f with go := false, done := true, status := statusCode st } := by
  refine (blkOf_setBlk_same _ _ _).trans ?_
  split
  next h => rw [h]; rfl
  next => rfl

theorem blkOf_qeDone_other (s : State) {f g : Nat} (st : Status) (k : QeBlk → QeBlk) (h : g ≠ f) :
    blkOf (qeDone s f st k) g = blkOf s g := blkOf_setBlk_other _ _ h

section
variable {s t : State} {f : Nat} (hblks : t.qe.blks = s.qe.blks) (hmem : t.mem = s.mem) (hhmem : t.hmem = s.hmem)
  (hhost : t.host = s.host)
include hblks hmem hhmem hhost

theorem blockDone_id (st : Status) : BlockDone s (qeDone t f st id) f st := by
  rw [BlockDone, blkOf_qeDone_id]
  exact ⟨rfl, rfl, rfl, fun h hh => (blkOf_qeDone_other t st id hh).trans (blkOf_of_blks hblks h), hmem, hhmem, hhost⟩

/-- A command that also answers ends with OK. -/
theorem blockDone_ok {k : QeBlk → QeBlk} (hk : ∀ b, (k b).go = b.go ∧ (k b).done = b.done ∧ (k b).status = b.status) :
    BlockDone s (qeDone t f .ok k) f .ok := by
  obtain ⟨hgo, hdone, hstatus⟩ := hk { blkOf t f with go := false, done := true, status := 0 }
  rw [BlockDone, blkOf_qeDone_ok]
  exact ⟨hgo, hdone, hstatus, fun h hh => (blkOf_qeDone_other t .ok k hh).trans (blkOf_of_blks hblks h), hmem, hhmem, hhost⟩

end

section
variable {s : State} {f : Nat} {b : QeBlk} {checks : QCtx → List (Status × Bool)} {run : Nat → QCtx → State} {i : Nat} {q : QCtx}

theorem onCtx_none (h : cmdCtx s f b = none) : onCtx s f b checks run = qeDone s f .range id := by rw [onCtx, h]

theorem onCtx_ok (h : cmdCtx s f b = some (i, q)) (hok : firstStatus (checks q) = .ok) : onCtx s f b checks run = run i q := by
  rw [onCtx, h]
  dsimp only
  rw [hok]

theorem onCtx_fails {st : Status} (h : cmdCtx s f b = some (i, q)) (hst : firstStatus (checks q) = st) (hne : st ≠ .ok) :
    onCtx s f b checks run = qeDone s f st id := by
  rw [onCtx, h]
  dsimp only
  rw [hst]
  split
  next => exact absurd rfl hne
  next => rfl

end

theorem ownerOf_qeDone (s : State) (f : Nat) (st : Status) (g : QeBlk → QeBlk) (k i : Nat) :
    ownerOf (qeDone s f st g) k i = ownerOf s k i := rfl

/-! CREATE (R310). -/

theorem exec_qeCreate_version {f : Fin 1028} {s : State} (h : Handed s f 1)
    (hver : negotiate [(cmdField (blkOf s f) 4 1, cmdField (blkOf s f) 5 1), (cmdField (blkOf s f) 6 1, cmdField (blkOf s f) 7 1)]
      qeOffer = none) : exec (.qeCreate f) s = .next (qeDone s f .version id) := by
  refine congrArg Host.Outcome.next ((qeCmd_handed h _).trans ?_)
  dsimp only
  rw [hver]
  exact if_pos nofun

/-- The state in which a queue has been created: its index taken, owned and counted, its context new. -/
def queueCreated (s s1 : State) (f i lq : Nat) (v : Nat × Nat) : State :=
  setCtx (addUsage (setOwner s1 2 i (fnOwner s f)) (fnOwner s f) 2) i (newCtx f lq (blkOf s f) v)

theorem exec_qeCreate_ok {f : Fin 1028} {s s1 : State} {v : Nat × Nat} {i lq : Nat} (h : Handed s f 1)
    (hver : negotiate [(cmdField (blkOf s f) 4 1, cmdField (blkOf s f) 5 1), (cmdField (blkOf s f) 6 1, cmdField (blkOf s f) 7 1)]
      qeOffer = some v)
    (hbad : createBad s f (blkOf s f) = false) (hquota : quotaOk s (fnOwner s f) 2 = true) (hindex : allocIndex s 2 = some (i, s1))
    (hlq : freeLq s f = some lq) : exec (.qeCreate f) s = .next (qeDone (queueCreated s s1 f i lq v) f .ok (fun x =>
      { x with handle := handleOf (queueCreated s s1 f i lq v) 2 i, selMajor := v.1, selMinor := v.2, lq := lq })) := by
  have hfree : hasFree s 2 = true := by rw [hasFree, hindex]; rfl
  refine congrArg Host.Outcome.next ((qeCmd_handed h _).trans ?_)
  dsimp only
  rw [hver, hbad, hquota, hfree, hlq, hindex]
  exact if_neg (not_not.mpr rfl)

theorem allocIndex_keepsQueues {s s1 : State} {kind i : Nat} (h : allocIndex s kind = some (i, s1)) :
    s1.qe = s.qe ∧ s1.mem = s.mem ∧ s1.hmem = s.hmem ∧ s1.host = s.host := by
  obtain ⟨fresh, freed, rfl⟩ := allocIndex_state h
  exact ⟨rfl, rfl, rfl, rfl⟩

theorem addUsage_keeps (s : State) (o : Handle) (kind : Nat) :
    (addUsage s o kind).qe = s.qe ∧ (addUsage s o kind).mem = s.mem ∧ (addUsage s o kind).hmem = s.hmem ∧
      (addUsage s o kind).host = s.host ∧ (addUsage s o kind).dict.owners = s.dict.owners := by
  unfold addUsage
  split <;> exact ⟨rfl, rfl, rfl, rfl, rfl⟩

theorem queueCreated_spec {s s1 : State} {f i lq : Nat} {v : Nat × Nat} (hindex : allocIndex s 2 = some (i, s1)) :
    (∀ j, j ≠ i → ctxOf (queueCreated s s1 f i lq v) j = ctxOf s j) ∧ (queueCreated s s1 f i lq v).qe.blks = s.qe.blks ∧
      ownerOf (queueCreated s s1 f i lq v) 2 i = some (fnOwner s f) ∧ (queueCreated s s1 f i lq v).mem = s.mem ∧
      (queueCreated s s1 f i lq v).hmem = s.hmem ∧ (queueCreated s s1 f i lq v).host = s.host := by
  obtain ⟨hqe, hmem, hhmem, hhost⟩ := allocIndex_keepsQueues hindex
  obtain ⟨hqe', hmem', hhmem', hhost', howners⟩ := addUsage_keeps (setOwner s1 2 i (fnOwner s f)) (fnOwner s f) 2
  refine ⟨fun j hj => (ctxOf_setCtx_other _ _ hj).trans (ctxOf_of_qe (hqe'.trans hqe) j), (congrArg QeState.blks hqe').trans (congrArg QeState.blks hqe), ?_,
    hmem'.trans hmem, hhmem'.trans hhmem, hhost'.trans hhost⟩
  show tget (addUsage (setOwner s1 2 i (fnOwner s f)) (fnOwner s f) 2).dict.owners _ = _
  rw [howners]
  exact tget_tset_same _ _ _

/-! The commands on a queue that the block names (R309, R315). -/

theorem exec_queueCommand_none {f : Fin 1028} {op : Nat} {s : State} (h : Handed s f op) (hlow : 2 ≤ op) (hhigh : op ≤ 5)
    (hnone : cmdCtx s f (blkOf s f) = none) :
    exec (if op = 2 then .qeArm f else if op = 3 then .qeDestroy f else if op = 4 then .qeInvalidate f else .qeQuery f) s =
      .next (qeDone s f .range id) := by
  interval_cases op <;> exact congrArg Host.Outcome.next ((qeCmd_handed h _).trans (onCtx_none hnone))

theorem exec_qeArm_ok {f : Fin 1028} {s : State} {i : Nat} {q : QCtx} (h : Handed s f 2) (hq : Names s f i q) (hst : q.st = .idle)
    (hring : cmdField (blkOf s f) 8 8 % 4096 = 0) (hcpl : cmdField (blkOf s f) 16 8 % 4096 = 0) : exec (.qeArm f) s =
      .next (qeDone (setCtx s i (emptyCtx q .running (cmdField (blkOf s f) 8 8) (cmdField (blkOf s f) 16 8))) f .ok id) := by
  refine congrArg Host.Outcome.next ((qeCmd_handed h _).trans (onCtx_ok hq ?_))
  rw [hring, hcpl, hst]
  rfl

theorem exec_qeDestroy_ok {f : Fin 1028} {s : State} {i : Nat} {q : QCtx} (h : Handed s f 3) (hq : Names s f i q) (hst : q.st = .idle) :
    exec (.qeDestroy f) s = .next (qeDone (dropCtx s i true) f .ok id) := by
  refine congrArg Host.Outcome.next ((qeCmd_handed h _).trans (onCtx_ok hq ?_))
  rw [hst]
  rfl

theorem exec_qeDestroy_notReady {f : Fin 1028} {s : State} {i : Nat} {q : QCtx} (h : Handed s f 3) (hq : Names s f i q)
    (hst : q.st ≠ .idle) : exec (.qeDestroy f) s = .next (qeDone s f .notReady id) := by
  refine congrArg Host.Outcome.next ((qeCmd_handed h _).trans (onCtx_fails hq ?_ nofun))
  rw [decide_eq_true hst]
  rfl

/-- A context without the cached descriptors of the `n` positions from `first` on. -/
def uncached (q : QCtx) (first n : Nat) : QCtx := { q with cache := q.cache.filter (fun d => !decide (cdiff d.1 first < n)) }

theorem mem_uncached {q : QCtx} {first n : Nat} (d : Nat × List Byte) :
    d ∈ (uncached q first n).cache ↔ d ∈ q.cache ∧ n ≤ cdiff d.1 first := by simp [uncached]

theorem exec_qeInvalidate_ok {f : Fin 1028} {s : State} {i : Nat} {q : QCtx} (h : Handed s f 4) (hq : Names s f i q)
    (hlow : 1 ≤ cmdField (blkOf s f) 6 2) (hhigh : cmdField (blkOf s f) 6 2 ≤ ringSize q)
    (hbusy : ∀ x ∈ q.started, cmdField (blkOf s f) 6 2 ≤ cdiff x.pos (cmdField (blkOf s f) 4 2)) : exec (.qeInvalidate f) s =
      .next (qeDone (askFetch (setCtx s i (uncached q (cmdField (blkOf s f) 4 2) (cmdField (blkOf s f) 6 2))) i) f .ok id) := by
  have hany : (q.started.any fun x => decide (cdiff x.pos (cmdField (blkOf s f) 4 2) < cmdField (blkOf s f) 6 2)) = false := by
    simpa [List.any_eq_false] using hbusy
  refine congrArg Host.Outcome.next ((qeCmd_handed h _).trans (onCtx_ok hq ?_))
  rw [hany, decide_eq_false (by omega : ¬cmdField (blkOf s f) 6 2 = 0), decide_eq_false (Nat.not_lt.mpr hhigh)]
  rfl

/-- What QUERY answers. -/
def queryResult (s : State) (i : Nat) (q : QCtx) : List Byte :=
  beBytes 4 (handleOf s 2 i).toNat ++ beBytes 1 (qStCode q.st) ++ beBytes 1 q.major ++ beBytes 1 q.minor ++ [0] ++ ctxCounts q

theorem exec_qeQuery_ok {f : Fin 1028} {s : State} {i : Nat} {q : QCtx} (h : Handed s f 5) (hq : Names s f i q) :
    exec (.qeQuery f) s = .next (qeDone s f .ok (fun x => { x with result := queryResult s i q })) :=
  congrArg Host.Outcome.next ((qeCmd_handed h _).trans (onCtx_ok hq rfl))

theorem endObj_keeps (s : State) (kind i : Nat) :
    (endObj s kind i).qe = s.qe ∧ (endObj s kind i).host = s.host ∧ (endObj s kind i).hmem = s.hmem ∧
      ownerOf (endObj s kind i) kind i = none := by
  have hsub : ∀ (u : State) (o : Handle), (subUsage u o kind).qe = u.qe ∧ (subUsage u o kind).host = u.host ∧
      (subUsage u o kind).hmem = u.hmem := by
    intro u o
    unfold subUsage
    split <;> exact ⟨rfl, rfl, rfl⟩
  have hfree : ∀ u : State, ownerOf (clearOwner u kind i) kind i = none := fun u => tget_terase_same _ _
  obtain ⟨hqe, hhost, hhmem⟩ := hsub s ((ownerOf s kind i).getD 0)
  unfold endObj
  dsimp only
  split
  · unfold modTen
    split <;> exact ⟨hqe, hhost, hhmem, hfree _⟩
  · exact ⟨hqe, hhost, hhmem, hfree _⟩

theorem dropCtx_spec (s : State) (i : Nat) :
    ctxOf (dropCtx s i true) i = none ∧ (∀ j, j ≠ i → ctxOf (dropCtx s i true) j = ctxOf s j) ∧ ownerOf (dropCtx s i true) 2 i = none ∧
      (dropCtx s i true).qe.blks = s.qe.blks ∧ (dropCtx s i true).mem = s.mem ∧ (dropCtx s i true).hmem = s.hmem ∧
      (dropCtx s i true).host = s.host := by
  have hend : ∀ u : State, u.qe = { s.qe with ctx := terase s.qe.ctx i, qDef := terase s.qe.qDef i } → u.host = s.host →
      u.mem = s.mem → u.hmem = s.hmem → ctxOf (endObj u 2 i) i = none ∧ (∀ j, j ≠ i → ctxOf (endObj u 2 i) j = ctxOf s j) ∧
        ownerOf (endObj u 2 i) 2 i = none ∧ (endObj u 2 i).qe.blks = s.qe.blks ∧ (endObj u 2 i).mem = s.mem ∧
        (endObj u 2 i).hmem = s.hmem ∧ (endObj u 2 i).host = s.host := by
    intro u hqe hhost hmem hhmem
    obtain ⟨hqe', hhost', hhmem', howner⟩ := endObj_keeps u 2 i
    rw [ctxOf, hqe', hqe]
    refine ⟨tget_terase_same _ _, fun j hj => ?_, howner, rfl, (endObj_mem u 2 i).trans hmem, hhmem'.trans hhmem, hhost'.trans hhost⟩
    rw [ctxOf, hqe', hqe]
    exact tget_terase_other _ _ _ hj
  unfold dropCtx freeContext
  split
  · exact hend _ rfl rfl rfl rfl
  · exact hend _ rfl rfl rfl rfl

theorem queueCommands : Claims.QueueCommands := by
  refine ⟨fun f s h => ⟨fun hver => ?_, fun v i s1 lq hver hbad hquota hindex hlq => ?_⟩, fun f op s h hlow hhigh hnone => ?_,
    fun f i q s h hq hst hring hcpl => ?_, fun f i q s h hq => ⟨fun hst => ?_, fun hst => ?_⟩,
    fun f i q s h hq hlow hhigh hbusy => ?_, fun f i q s h hq => ?_⟩
  · exact ⟨_, exec_qeCreate_version h hver, blockDone_id rfl rfl rfl rfl _, rfl⟩
  · obtain ⟨hother, hblks, howner, hmem, hhmem, hhost⟩ := queueCreated_spec (f := f) (lq := lq) (v := v) hindex
    refine ⟨_, exec_qeCreate_ok h hver hbad hquota hindex hlq, blockDone_ok hblks hmem hhmem hhost (fun _ => ⟨rfl, rfl, rfl⟩),
      (ctxOf_qeDone _ _ _ _ _).trans (ctxOf_setCtx_same _ _ _), ?_, ?_, ?_, fun j hj => (ctxOf_qeDone _ _ _ _ _).trans (hother j hj),
      (ownerOf_qeDone _ _ _ _ _ _).trans howner⟩ <;> rw [blkOf_qeDone_ok]
  · exact ⟨_, rfl, _, exec_queueCommand_none h hlow hhigh hnone, blockDone_id rfl rfl rfl rfl _, rfl⟩
  · exact ⟨_, exec_qeArm_ok h hq hst hring hcpl, blockDone_id rfl rfl rfl rfl _,
      (ctxOf_qeDone _ _ _ _ _).trans (ctxOf_setCtx_same _ _ _), fun j hj => (ctxOf_qeDone _ _ _ _ _).trans (ctxOf_setCtx_other _ _ hj)⟩
  · obtain ⟨hnone, hother, howner, hblks, hmem, hhmem, hhost⟩ := dropCtx_spec s i
    exact ⟨_, exec_qeDestroy_ok h hq hst, blockDone_id hblks hmem hhmem hhost _, (ctxOf_qeDone _ _ _ _ _).trans hnone,
      fun j hj => (ctxOf_qeDone _ _ _ _ _).trans (hother j hj), (ownerOf_qeDone _ _ _ _ _ _).trans howner⟩
  · exact ⟨_, exec_qeDestroy_notReady h hq hst, blockDone_id rfl rfl rfl rfl _, rfl⟩
  · obtain ⟨⟨rr, hctx⟩, hother, hblks, -, hmem, hhmem⟩ :=
      askFetch_setCtx s i (uncached q (cmdField (blkOf s f) 4 2) (cmdField (blkOf s f) 6 2))
    have hdone := blkOf_qeDone_id (askFetch (setCtx s i (uncached q (cmdField (blkOf s f) 4 2) (cmdField (blkOf s f) 6 2))) i) f .ok
    refine ⟨_, exec_qeInvalidate_ok h hq hlow hhigh hbusy, congrArg QeBlk.go hdone, congrArg QeBlk.done hdone,
      congrArg QeBlk.status hdone, fun g hg => ?_, hmem, hhmem, ⟨_, rr, hctx, mem_uncached⟩, hother⟩
    exact (blkOf_qeDone_other _ .ok id hg).trans (blkOf_of_blks hblks g)
  · refine ⟨_, exec_qeQuery_ok h hq, blockDone_ok rfl rfl rfl rfl (fun _ => ⟨rfl, rfl, rfl⟩), rfl, ?_⟩
    rw [blkOf_qeDone_ok]
    rfl

/-! ### Doorbells (R314, R325) -/

/-- A doorbell of an open function reaches the engine. -/
theorem doorbell_reaches {f lq : Nat} {s : State} (hopen : doorbellOpen s f = true) (hqe : hasQe s f = true) (hlq : lq < lqLimit f) :
    ¬((!doorbellOpen s f || !hasQe s f || decide (lqLimit f ≤ lq)) = true) := by
  rw [hopen, hqe, decide_eq_false (Nat.not_le.mpr hlq)]
  exact Bool.false_ne_true

section
variable {f : Fin 1028} {lq : Nat} {x : U16} {s : State} {i : Nat} {q : QCtx}
  (hopen : doorbellOpen s f = true) (hqe : hasQe s f = true) (hlq : lq < lqLimit f)
include hopen hqe hlq

theorem exec_sqDb_noQueue (hctx : lqCtx s f lq = none) : exec (.sqDb f lq x) s = .next (count s (okey 0x5801 1)) := by
  refine congrArg Host.Outcome.next ((if_neg (doorbell_reaches hopen hqe hlq)).trans ?_)
  rw [hctx]
  rfl

theorem exec_cqDb_noQueue (hctx : lqCtx s f lq = none) : exec (.cqDb f lq x) s = .next (count s (okey 0x5801 1)) := by
  refine congrArg Host.Outcome.next ((if_neg (doorbell_reaches hopen hqe hlq)).trans ?_)
  rw [hctx]
  rfl

variable (hctx : lqCtx s f lq = some (i, q))
include hctx

/-- A submission doorbell that names a queue. -/
theorem exec_sqDb_queue : exec (.sqDb f lq x) s = .next (
    if q.st ≠ .running then badDoorbell s
    else if !fnServes s f then s
    else if x.toNat = q.door then s
    else if cdiff x.toNat q.oldest ≤ ringSize q ∧ cdiff x.toNat q.door < 32768 then askFetch (setCtx s i { q with door := x.toNat }) i
    else malformed s i x.toNat 0xFFFFFF 6) := by
  refine congrArg Host.Outcome.next ((if_neg (doorbell_reaches hopen hqe hlq)).trans ?_)
  rw [hctx]

/-- A completion doorbell that names a queue. -/
theorem exec_cqDb_queue : exec (.cqDb f lq x) s = .next (
    if q.st ≠ .running then badDoorbell s
    else if !fnServes s f then s
    else if cdiff x.toNat q.consumed ≤ cplHeld q then setCtx s i { q with consumed := x.toNat }
    else malformed s i x.toNat 0xFFFFFF 7) := by
  refine congrArg Host.Outcome.next ((if_neg (doorbell_reaches hopen hqe hlq)).trans ?_)
  rw [hctx]

end

theorem queueDoorbells : Claims.QueueDoorbells := by
  refine ⟨fun f lq x s hopen hqe hlq hctx => ⟨exec_sqDb_noQueue hopen hqe hlq hctx, exec_cqDb_noQueue hopen hqe hlq hctx⟩,
    fun f lq x s i q hopen hqe hlq hctx => ?_⟩
  rw [exec_sqDb_queue hopen hqe hlq hctx, exec_cqDb_queue hopen hqe hlq hctx, Completes, Completes, exec_sqDb_queue hopen hqe hlq hctx,
    exec_cqDb_queue hopen hqe hlq hctx]
  have hserves {b : Bool} (h : b = true) : ¬((!b) = true) := by rw [h]; exact Bool.false_ne_true
  refine ⟨fun hst => ⟨by rw [if_pos hst]; rfl, by rw [if_pos hst]; rfl⟩, fun hst hno => ?_, fun hst hs hdoor hring hnear => ?_,
    fun hst hs hdoor hfar => ?_, fun hst hs hheld => ?_, fun hst hs hheld => ?_⟩
  · rw [if_neg (not_not.mpr hst), if_neg (not_not.mpr hst), hno]
    exact ⟨rfl, rfl⟩
  · obtain ⟨hq, hother, -, hdict, hmem, hhmem⟩ := askFetch_setCtx s i { q with door := x.toNat }
    rw [if_neg (not_not.mpr hst), if_neg (hserves hs), if_neg hdoor, if_pos ⟨hring, hnear⟩]
    exact ⟨_, rfl, hq, hother, hdict, hmem, hhmem⟩
  · rw [if_neg (not_not.mpr hst), if_neg (hserves hs), if_neg hdoor, if_neg (by omega)]
  · rw [if_neg (not_not.mpr hst), if_neg (hserves hs), if_pos hheld]
    exact ⟨_, rfl, ctxOf_setCtx_same _ _ _, fun j hj => ctxOf_setCtx_other _ _ hj, rfl, rfl, rfl, rfl⟩
  · rw [if_neg (not_not.mpr hst), if_neg (hserves hs), if_neg (Nat.not_le.mpr hheld)]

end Sys2Proof.Machine

end

section
/-! The queue engine: descriptors, completion entries, failed reads (R313-R327) -/

namespace Sys2Proof.Machine

/-! ### What packets leave alone: the queue engine, tenancies, owners and handlers -/

/-- The queue engine, the tenancies, the owners of resources and the errors. -/
def queueView (s : State) : QeState × Tab Tenancy × Tab Handle × ErrState := (s.qe, s.tens, s.dict.owners, s.err)

@[simp] theorem queueView_modVale (s : State) (v : Vale) (f : ValeState → ValeState) : queueView (s.modVale v f) = queueView s := by
  cases v <;> rfl

@[simp] theorem queueView_modPath (s : State) (v : Vale) (f : Path → Path) : queueView (s.modPath v f) = queueView s :=
  queueView_modVale s v _

@[simp] theorem queueView_setPkt (s : State) (v : Vale) (i : Nat) (p : Packet) : queueView (setPkt s v i p) = queueView s :=
  queueView_modPath s v _

@[simp] theorem queueView_count (s : State) (k : Nat) : queueView (count s k) = queueView s := rfl

@[simp] theorem queueView_removePkt (s : State) (v : Vale) (i : Nat) : queueView (removePkt s v i) = queueView s := by
  unfold removePkt
  split <;> simp

@[simp] theorem queueView_countQueueDrop (s : State) (v : Vale) (p : Packet) : queueView (countQueueDrop s v p) = queueView s := by
  unfold countQueueDrop
  split <;> simp

@[simp] theorem queueView_countStale (s : State) (v : Vale) (p : Packet) (reason : Nat) :
    queueView (countStale s v p reason) = queueView s := by
  unfold countStale
  split <;> simp

@[simp] theorem queueView_dropPkt (s : State) (v : Vale) (i reason : Nat) : queueView (dropPkt s v i reason) = queueView s := by
  unfold dropPkt
  split
  · rfl
  · dsimp only
    split <;> simp

@[simp] theorem queueView_dropCopy (s : State) (v : Vale) (i reason : Nat) : queueView (dropCopy s v i reason) = queueView s := by
  unfold dropCopy countCopyDrop
  split <;> simp

@[simp] theorem queueView_modCore (s : State) (v : Vale) (n : Nat) (f : Core → Core) : queueView (modCore s v n f) = queueView s :=
  queueView_modVale s v _

@[simp] theorem queueView_setCore (s : State) (v : Vale) (n : Nat) (c : Core) : queueView (setCore s v n c) = queueView s :=
  queueView_modVale s v _

@[simp] theorem queueView_modThr (s : State) (th : Thr) (f : Thread → Thread) : queueView (modThr s th f) = queueView s :=
  queueView_modCore s th.v th.core _

@[simp] theorem queueView_pushNote (s : State) (v : Vale) (n : Nat) (ws : List Word36) : queueView (pushNote s v n ws) = queueView s := by
  unfold pushNote
  dsimp only
  split <;> simp

@[simp] theorem queueView_endFamily (s : State) (v : Vale) (n i reason : Nat) : queueView (endFamily s v n i reason) = queueView s := by
  simp [endFamily, freeFamily]

/-- A packet thread that faults ends its family, and is no error of its core. -/
theorem queueView_colFault {s : State} {th : Thr} {i : Nat} (h : (thrAt s th).pkt = some i) (f : FaultCode) (detail : Nat) :
    queueView (colFault s th f detail) = queueView s := by
  unfold colFault
  dsimp only
  rw [h]
  simp

theorem queueView_wakeThread {s : State} {th : Thr} {i : Nat} (h : (thrAt s th).pkt = some i) :
    queueView (wakeThread s th) = queueView s := by
  unfold wakeThread
  dsimp only
  (repeat' split) <;> simp [queueView_colFault h]

@[simp] theorem queueView_wakeHeader (s : State) (v : Vale) (i : Nat) : queueView (wakeHeader s v i) = queueView s := by
  unfold wakeHeader
  split
  · rfl
  · refine foldl_keeps (π := queueView) (fun a t => ?_) _ _
    dsimp only
    split
    next h => exact queueView_wakeThread h
    next => rfl

@[simp] theorem queueView_dropHeld (s : State) (v : Vale) (i reason : Nat) : queueView (dropHeld s v i reason) = queueView s := by
  unfold dropHeld
  split <;> simp [freeFamily]

@[simp] theorem queueView_appendBytes (s : State) (v : Vale) (i : Nat) (bs : List Byte) :
    queueView (appendBytes s v i bs) = queueView s := by
  unfold appendBytes
  dsimp only
  (repeat' split) <;> simp

@[simp] theorem queueView_frameTail (s : State) (v : Vale) (i : Nat) (rest : List Byte) (ok : Bool) :
    queueView (frameTail s v i rest ok) = queueView s := by
  unfold frameTail
  dsimp only
  (repeat' split) <;> simp

@[simp] theorem queueView_tailLost (s : State) (v : Vale) (i : Nat) : queueView (tailLost s v i) = queueView s := by
  unfold tailLost
  (repeat' split) <;> simp

@[simp] theorem queueView_loseTail (s : State) (q : QCtx) (x : Started) : queueView (loseTail s q x) = queueView s := by
  unfold loseTail
  split <;> simp

theorem qe_of_queueView {s t : State} (h : queueView t = queueView s) : t.qe = s.qe := congrArg Prod.fst h

theorem ctxOf_of_queueView {s t : State} (h : queueView t = queueView s) (i : Nat) : ctxOf t i = ctxOf s i :=
  ctxOf_of_qe (qe_of_queueView h) i

theorem mems_of_frame {s t : State} (h : frame t = frame s) : t.mem = s.mem ∧ t.hmem = s.hmem :=
  ⟨congrArg Frame.mem h, congrArg Frame.hmem h⟩
/-! ### Changes of one context -/

/-- Besides the context `i`, the host's requests and vectors, and the scheduler of the queue engine, nothing that a queue's
work is about changes: other contexts, the dictionary, packets, tenancies, errors, memory. -/
structure OnlyCtx (s t : State) (i : Nat) : Prop where
  others : ∀ j, j ≠ i → ctxOf t j = ctxOf s j
  dict : t.dict = s.dict
  vale : ∀ v, t.vale v = s.vale v
  tens : t.tens = s.tens
  err : t.err = s.err
  ctl : t.ctl = s.ctl
  mem : t.mem = s.mem
  hmem : t.hmem = s.hmem

theorem OnlyCtx.refl (s : State) (i : Nat) : OnlyCtx s s i := ⟨fun _ _ => rfl, rfl, fun _ => rfl, rfl, rfl, rfl, rfl, rfl⟩

theorem OnlyCtx.trans {s t u : State} {i : Nat} (h : OnlyCtx s t i) (k : OnlyCtx t u i) : OnlyCtx s u i :=
  ⟨fun j hj => (k.others j hj).trans (h.others j hj), k.dict.trans h.dict, fun v => (k.vale v).trans (h.vale v), k.tens.trans h.tens,
    k.err.trans h.err, k.ctl.trans h.ctl, k.mem.trans h.mem, k.hmem.trans h.hmem⟩

theorem OnlyCtx.pktAt {s t : State} {i : Nat} (h : OnlyCtx s t i) (v : Vale) (j : Nat) : pktAt t v j = Machine.pktAt s v j := by
  rw [Machine.pktAt, Machine.pktAt, h.vale v]

theorem onlyCtx_setCtx (s : State) (i : Nat) (q : QCtx) : OnlyCtx s (setCtx s i q) i :=
  ⟨fun _ hj => ctxOf_setCtx_other _ _ hj, rfl, fun v => by cases v <;> rfl, rfl, rfl, rfl, rfl, rfl⟩

/-- A change of the host interface alone. -/
theorem onlyCtx_host (s : State) (i : Nat) (h : HostSt) : OnlyCtx s { s with host := h } i :=
  ⟨fun _ _ => rfl, rfl, fun v => by cases v <;> rfl, rfl, rfl, rfl, rfl, rfl⟩

theorem hostIssue_eq (s : State) (f addr : Nat) (bs : List Byte) (log : Bool) (win : Nat) (payload : Bool) :
    hostIssue s f addr bs log win payload = { s with host := (hostIssue s f addr bs log win payload).host } := by
  unfold hostIssue
  split <;> rfl

theorem takeRead_eq (s : State) (f addr : Nat) : takeRead s f addr = { s with host := (takeRead s f addr).host } := by
  unfold takeRead
  split <;> rfl

theorem onlyCtx_hostIssue (s : State) (i f addr : Nat) (bs : List Byte) (log : Bool) (win : Nat) (payload : Bool) :
    OnlyCtx s (hostIssue s f addr bs log win payload) i := by
  rw [hostIssue_eq]
  exact onlyCtx_host s i _

theorem onlyCtx_raiseVector (s : State) (i f vec : Nat) : OnlyCtx s (raiseVector s f vec) i := by
  rw [raiseVector_eq]
  exact onlyCtx_host s i _

theorem onlyCtx_takeRead (s : State) (i f addr : Nat) : OnlyCtx s (takeRead s f addr) i := by
  rw [takeRead_eq]
  exact onlyCtx_host s i _

@[simp] theorem ctxOf_hostWrite (s : State) (f addr : Nat) (bs : List Byte) (i : Nat) : ctxOf (hostWrite s f addr bs) i = ctxOf s i := by
  rw [hostWrite, hostIssue_eq]
  rfl

@[simp] theorem ctxOf_raiseVector (s : State) (f vec i : Nat) : ctxOf (raiseVector s f vec) i = ctxOf s i := by
  rw [raiseVector_eq]
  rfl

@[simp] theorem ctxOf_takeRead (s : State) (f addr i : Nat) : ctxOf (takeRead s f addr) i = ctxOf s i := by
  rw [takeRead_eq]
  rfl

theorem onlyCtx_askFetch (s : State) (i : Nat) : OnlyCtx s (askFetch s i) i := by
  unfold askFetch
  split
  · exact .refl s i
  · split
    · exact .refl s i
    · split
      · exact .refl s i
      · exact (onlyCtx_setCtx s i _).trans (onlyCtx_host _ i _)

theorem onlyCtx_writeSegs (s : State) (i f : Nat) (segs : List (Nat × Nat)) (bs : List Byte) : OnlyCtx s (writeSegs s f segs bs) i := by
  induction segs generalizing s bs with
  | nil => exact .refl s i
  | cons x r ih => exact (onlyCtx_hostIssue s i f x.1 _ true 0 true).trans (ih _ _)

theorem ctxOf_writeSegs (s : State) (f : Nat) (segs : List (Nat × Nat)) (bs : List Byte) (i : Nat) :
    ctxOf (writeSegs s f segs bs) i = ctxOf s i := by
  induction segs generalizing s bs with
  | nil => rfl
  | cons x r ih =>
    refine (ih _ _).trans ?_
    rw [hostData, hostIssue_eq]
    rfl

/-! ### Completion entries (R321-R323) -/

theorem qeRaise_spec (s : State) (i : Nat) (q : QCtx) :
    ctxOf (qeRaise s i q) i = some { q with unsig := 0 } ∧ OnlyCtx s (qeRaise s i q) i := by
  unfold qeRaise
  dsimp only
  split
  · exact ⟨ctxOf_setCtx_same _ _ _, onlyCtx_setCtx s i _⟩
  · exact ⟨(ctxOf_raiseVector _ _ _ _).trans (ctxOf_setCtx_same _ _ _), (onlyCtx_setCtx s i _).trans (onlyCtx_raiseVector _ i _ _)⟩

/-- A completion entry advances the counts of its ring. -/
theorem writeCpl_spec {s : State} {i : Nat} {q : QCtx} (c : Cpl) (h : ctxOf s i = some q) :
    (∃ w p u, ctxOf (writeCpl s i c) i = some { q with written := w, phase := p, unsig := u }) ∧ OnlyCtx s (writeCpl s i c) i := by
  unfold writeCpl
  rw [h]
  dsimp only
  have hwrite := onlyCtx_hostIssue s i q.fn (q.cpl + 32 * (q.written % cplSize q)) (cplBytes q.phase c) true 0 false
  split
  · obtain ⟨hctx, honly⟩ := qeRaise_spec (hostWrite s q.fn (q.cpl + 32 * (q.written % cplSize q)) (cplBytes q.phase c)) i { q with
      written := (q.written + 1) % 65536
      phase := if q.written % cplSize q + 1 = cplSize q then !q.phase else q.phase
      unsig := q.unsig + 1 }
    exact ⟨⟨_, _, _, hctx⟩, hwrite.trans honly⟩
  · exact ⟨⟨_, _, _, ctxOf_setCtx_same _ _ _⟩, hwrite.trans (onlyCtx_setCtx _ i _)⟩

theorem clearOwn_spec {s : State} {i : Nat} {q : QCtx} (pos : Nat) (flags : Byte) (h : ctxOf s i = some q) :
    (∃ o l, ctxOf (clearOwn s i pos flags) i = some { q with oldest := o, cleared := l }) ∧ OnlyCtx s (clearOwn s i pos flags) i := by
  unfold clearOwn
  rw [h]
  exact ⟨⟨_, _, ctxOf_setCtx_same _ _ _⟩, (onlyCtx_hostIssue s i _ _ _ true 0 false).trans (onlyCtx_setCtx _ i _)⟩

/-- A context without the started descriptor of a position. -/
def withoutStarted (q : QCtx) (pos : Nat) : QCtx := { q with started := q.started.filter (fun y => decide (y.pos ≠ pos)) }

/-- The context after a started descriptor has ended: the descriptor is gone, and the counts of both rings have moved. -/
def Ended (q q' : QCtx) (pos : Nat) : Prop :=
  ∃ o l w p u, q' = { withoutStarted q pos with oldest := o, cleared := l, written := w, phase := p, unsig := u }

/-- A started descriptor ends where its completion has room. -/
theorem endDesc_spec {s : State} {i : Nat} {q : QCtx} (x : Started) (c : Cpl) (h : ctxOf s i = some q) (hroom : cplRoom q = true) :
    ∃ t q', endDesc s i x c = some t ∧ ctxOf t i = some q' ∧ Ended q q' x.pos ∧ OnlyCtx s t i := by
  obtain ⟨⟨o, l, hown⟩, hclear⟩ := clearOwn_spec x.pos (x.desc.getD 0 0) (ctxOf_setCtx_same s i (withoutStarted q x.pos))
  have hclear' := (onlyCtx_setCtx s i (withoutStarted q x.pos)).trans hclear
  unfold endDesc
  rw [h]
  dsimp only
  rw [hroom, Bool.not_true, Bool.and_false, if_neg Bool.false_ne_true]
  generalize (if x.lost = true then ({ error := true, status := .access, pos := x.pos, tag := dTag x.desc, cause := 4 } : Cpl) else c) = e
  split
  · exact ⟨_, _, rfl, hown, ⟨o, l, q.written, q.phase, q.unsig, rfl⟩, hclear'⟩
  · obtain ⟨⟨w, p, u, hctx⟩, hwrite⟩ := writeCpl_spec e hown
    exact ⟨_, _, rfl, hctx, ⟨o, l, w, p, u, rfl⟩, hclear'.trans hwrite⟩

/-- An error's completion waits for room. -/
theorem endDesc_full {s : State} {i : Nat} {q : QCtx} (x : Started) {c : Cpl} (h : ctxOf s i = some q) (hfull : cplHeld q = cplSize q)
    (herr : c.error = true) : endDesc s i x c = none := by
  have hroom : cplRoom q = false := decide_eq_false (by omega)
  have herr' : (if x.lost = true then { error := true, status := .access, pos := x.pos, tag := dTag x.desc, cause := 4 } else c).error =
      true := by
    split
    · rfl
    · exact herr
  unfold endDesc
  rw [h]
  dsimp only
  rw [herr', hroom]
  rfl

/-! The bytes of an entry, and its slot (R321). -/

theorem length_cplBytes (ph : Bool) {c : Cpl} (h : c.rx.length = 16) : (cplBytes ph c).length = 32 := by simp [cplBytes, h]

theorem cplBytes_flags (ph : Bool) (c : Cpl) :
    bitOf ((cplBytes ph c).getD 0 0).toNat 7 = ph ∧ bitOf ((cplBytes ph c).getD 0 0).toNat 6 = c.error := by
  have hfirst : (cplBytes ph c).getD 0 0 = BitVec.ofNat 8 (bit1 ph * 128 + bit1 c.error * 64) := rfl
  rw [hfirst]
  cases ph <;> cases c.error <;> decide

/-- A successful entry that does not end its ring and is not yet to be signalled is written as a request toward the host. -/
theorem writeCpl_quiet {s : State} {i : Nat} {q : QCtx} {c : Cpl} (h : ctxOf s i = some q)
    (hslot : q.written % cplSize q + 1 ≠ cplSize q) (herr : c.error = false) (hquiet : q.unsig + 1 < q.coalCount) :
    writeCpl s i c = setCtx (hostWrite s q.fn (q.cpl + 32 * (q.written % cplSize q)) (cplBytes q.phase c)) i
      { q with written := (q.written + 1) % 65536, unsig := q.unsig + 1 } := by
  have hno : ¬((c.error || decide (max 1 q.coalCount ≤ q.unsig + 1)) = true) := by
    rw [herr, Bool.false_or, decide_eq_true_iff]
    omega
  unfold writeCpl
  rw [h]
  dsimp only
  rw [if_neg hno, if_neg hslot]

theorem hostWrite_reqs {s : State} {f : Nat} (addr : Nat) {bs : List Byte} (hfn : (fnOf s f).silenced = false) (hbs : bs ≠ []) :
    (hostWrite s f addr bs).host.reqs =
      s.host.reqs ++ [{ fn := f, dir := .toHost, addr := addr, len := bs.length, data := bs }] := by
  unfold hostWrite hostIssue
  rw [hfn, decide_eq_false hbs]
  rfl

theorem completionEntries : Claims.CompletionEntries := by
  refine ⟨fun ph c h => length_cplBytes ph h, cplBytes_flags, fun s i q c h hslot herr hquiet hfn => ⟨_, rfl, ?_⟩⟩
  rw [writeCpl_quiet h hslot herr hquiet]
  exact ⟨ctxOf_setCtx_same _ _ _, hostWrite_reqs _ hfn (List.cons_ne_nil _ _)⟩
/-! ### Descriptors are fetched (R313, R315) -/

theorem inDdrHbm_onlyCtx {s t : State} {i : Nat} (h : OnlyCtx s t i) (a n : Nat) : inDdrHbm t a n = inDdrHbm s a n :=
  inDdrHbm_of_ctl h.ctl a n

theorem descItem_noOwn {s : State} {q : QCtx} {d : List Byte} (h : bitOf (d.getD 0 0).toNat 7 = false) : descItem s q d = 1 := by
  have hown : (d.getD 0 0).getLsbD 7 = false := h
  unfold descItem
  dsimp only
  rw [hown]
  rfl

theorem descItem_wrongOp {s : State} {q : QCtx} {d : List Byte} (h : bitOf (d.getD 0 0).toNat 7 = true) (htype : q.type = 1 ∨ q.type = 2)
    (hop : dField d 1 1 ≠ q.type) : descItem s q d = 2 := by
  have hown : (d.getD 0 0).getLsbD 7 = true := h
  have hthree : q.type ≠ 3 := by omega
  unfold descItem
  dsimp only
  rw [hown, if_neg hthree, decide_eq_false hop]
  rfl

theorem internalBad_of_ctl {s t : State} (h : t.ctl = s.ctl) (q : QCtx) (d : List Byte) (segs : List (Nat × Nat)) :
    internalBad t q d segs = internalBad s q d segs := by
  unfold internalBad
  rw [inDdrHbm_of_ctl h]

/-- The judgement of a descriptor reads of a context only its type and version. -/
theorem descItem_setRead {s t : State} (hctl : t.ctl = s.ctl) (q : QCtx) (rr : Option (Nat × Nat)) (d : List Byte) :
    descItem t { q with ringRead := rr } d = descItem s q d := by
  show descItem t q d = _
  simp only [descItem, internalBad_of_ctl hctl]

theorem exec_descriptorFetch_back {c : Fin 65536} {s s1 : State} {q : QCtx} {ps : List Nat} (hctx : ctxOf s c = some q)
    (hst : q.st = .running) (hread : ringReadBack s c q = some (ps, s1)) : exec (.descriptorFetch c) s = .next (askFetch (cacheDescs s1 c
      (ps.map (fun x => (x, memReadN s.hmem (q.ring + 64 * (x % ringSize q)) 64)))) c) := by
  show execDescriptorFetch c s = _
  unfold execDescriptorFetch
  rw [hctx]
  dsimp only
  rw [if_neg (not_not.mpr hst), hread]

/-- The state in which the ring read of a context has ended. -/
def readEnded (s : State) (i : Nat) (q : QCtx) (p : Nat) : State :=
  setCtx (takeRead s q.fn (q.ring + 64 * (p % ringSize q))) i { q with ringRead := none }

theorem ringReadBack_one {s : State} {i p : Nat} {q : QCtx} {r : HReq} (hread : q.ringRead = some (p, 1))
    (hpend : pendingRead s q.fn (q.ring + 64 * (p % ringSize q)) = some r) (hgrant : r.granted = true) (hp : p < 65536) :
    ringReadBack s i q = some ([p], readEnded s i q p) := by
  unfold ringReadBack
  rw [hread]
  dsimp only
  rw [hpend, if_pos (show Option.any (fun r : HReq => r.granted) (some r) = true from hgrant), show List.range 1 = [0] from rfl, List.map_singleton, Nat.add_zero, Nat.mod_eq_of_lt hp]
  rfl

/-- A context with one descriptor cached, the position after it fetched. -/
def cachedOne (q : QCtx) (p : Nat) (d : List Byte) : QCtx := { q with fetched := (p + 1) % 65536, cache := [(p, d)], ringRead := none }

theorem cacheDescs_one {s : State} {i p : Nat} {q : QCtx} {d : List Byte} (hctx : ctxOf s i = some { q with ringRead := none })
    (hempty : q.cache = []) (hfetched : q.fetched = p)
    (hitem : descItem s { q with ringRead := none } d = 0) : cacheDescs s i [(p, d)] = setCtx s i (cachedOne q p d) := by
  have hno : ¬cdiff p q.startPos < cdiff q.fetched q.startPos := by rw [hfetched]; exact Nat.lt_irrefl _
  unfold cacheDescs
  rw [hctx]
  dsimp only
  rw [hitem, if_neg (not_not.mpr rfl), if_neg hno, hempty]
  rfl

theorem fetch_one {c : Fin 65536} {s : State} {q : QCtx} {p : Nat} {r : HReq} (hctx : ctxOf s c = some q) (hst : q.st = .running)
    (hread : q.ringRead = some (p, 1)) (hpend : pendingRead s q.fn (q.ring + 64 * (p % ringSize q)) = some r) (hgrant : r.granted = true)
    (hempty : q.cache = []) (hp : p < 65536) (hfetched : q.fetched = p)
    (hitem : descItem s q (memReadN s.hmem (q.ring + 64 * (p % ringSize q)) 64) = 0) : Completes (.descriptorFetch c) s (fun t =>
      (∃ rr, ctxOf t c = some { q with
        fetched := (p + 1) % 65536, cache := [(p, memReadN s.hmem (q.ring + 64 * (p % ringSize q)) 64)], ringRead := rr }) ∧
      (∀ j, j ≠ c.val → ctxOf t j = ctxOf s j) ∧ t.dict = s.dict ∧ t.mem = s.mem ∧ t.hmem = s.hmem) := by
  have hended : OnlyCtx s (readEnded s c q p) c := (onlyCtx_takeRead s c _ _).trans (onlyCtx_setCtx _ c _)
  have hcache := cacheDescs_one (ctxOf_setCtx_same (takeRead s q.fn (q.ring + 64 * (p % ringSize q))) c { q with ringRead := none })
    hempty hfetched ((descItem_setRead hended.ctl q none _).trans hitem)
  have hexec := exec_descriptorFetch_back hctx hst (ringReadBack_one hread hpend hgrant hp)
  rw [List.map_singleton, readEnded, hcache] at hexec
  have honly := (hended.trans (onlyCtx_setCtx _ c (cachedOne q p (memReadN s.hmem (q.ring + 64 * (p % ringSize q)) 64)))).trans
    (onlyCtx_askFetch _ c)
  obtain ⟨⟨rr, hq⟩, -⟩ := askFetch_setCtx (readEnded s c q p) c (cachedOne q p (memReadN s.hmem (q.ring + 64 * (p % ringSize q)) 64))
  exact ⟨_, hexec, ⟨rr, hq⟩, honly.others, honly.dict, honly.mem, honly.hmem⟩

/-! ### Descriptors start (R316-R320) -/

theorem startSegs_direct (s : State) (q : QCtx) {d : List Byte} (h : dIndirect d = false) :
    startSegs s q d = (segList (d.drop 16) (segCount q d), s) := by
  unfold startSegs
  rw [h]
  rfl

theorem startItem_sound {s : State} {q : QCtx} {d : List Byte} {segs : List (Nat × Nat)} (hsegs : segsBad q segs = false)
    (hint : internalBad s q d segs = false) : startItem s q d segs = 0 := by
  unfold startItem
  rw [hsegs, hint]
  rfl

theorem qePick_keeps {s s1 : State} {c k : Nat} (h : qePick s = some (c, k, s1)) :
    s1.qe.ctx = s.qe.ctx ∧ s1.dict = s.dict ∧ s1.ctl = s.ctl ∧ s1.mem = s.mem ∧ s1.hmem = s.hmem := by
  unfold qePick at h
  dsimp only at h
  split at h
  · exact nomatch h
  · split at h
    · exact nomatch h
    · cases h
      exact ⟨rfl, rfl, rfl, rfl, rfl⟩

theorem qeSettle_keeps (s : State) (c k : Nat) (empty : Bool) :
    (qeSettle s c k empty).qe.ctx = s.qe.ctx ∧ (qeSettle s c k empty).dict = s.dict ∧ (qeSettle s c k empty).mem = s.mem ∧
      (qeSettle s c k empty).hmem = s.hmem := by
  unfold qeSettle endCliVisit
  dsimp only
  split <;> split <;> exact ⟨rfl, rfl, rfl, rfl⟩

theorem exec_descriptorStart_queue {s s1 s2 : State} {c k : Nat} (hstop : s.err.failStop = false) (hpick : qePick s = some (c, k, s1))
    (hqueue : k < 0x100000) (hstart : startGranted s1 k = some s2) : exec .descriptorStart s =
      .next (qeSettle s2 c k (match ctxOf s2 k with | some q => decide (q.startPos = q.door) | none => true)) := by
  refine congrArg Host.Outcome.next ((if_neg (ne_true_of_eq_false hstop)).trans ?_)
  rw [hpick]
  refine (if_neg (Nat.not_le.mpr hqueue)).trans ?_
  rw [hstart] <;> rfl

/-- A context whose next descriptor has started. -/
def startedNext (q : QCtx) (x : Started) : QCtx := { popDesc q with started := q.started ++ [x] }

/-- A copy to the host starts without a read (R320). -/
theorem startGranted_copyOut {s : State} {k p : Nat} {q : QCtx} {d : List Byte} (hctx : ctxOf s k = some q) (htype : q.type = 3)
    (hfind : q.cache.find? (fun x => decide (x.1 = q.startPos)) = some (p, d)) (hop : dField d 1 1 = 4) (hdirect : dIndirect d = false)
    (hsegs : segsBad q (segList (d.drop 16) (segCount q d)) = false)
    (hint : internalBad s q d (segList (d.drop 16) (segCount q d)) = false) : startGranted s k = some (askFetch (setCtx s k
      (startedNext q { pos := p, desc := d, segs := segList (d.drop 16) (segCount q d), data := [] })) k) := by
  have hreads : ¬(startReads q = true) := by
    unfold startReads
    rw [hfind]
    dsimp only
    rw [hop, hdirect]
    decide
  unfold startGranted
  rw [hctx]
  refine (if_neg hreads).trans (congrArg some ?_)
  unfold startDesc
  rw [hctx]
  dsimp only
  rw [hfind]
  dsimp only
  rw [startSegs_direct s q hdirect]
  dsimp only
  rw [startItem_sound hsegs hint, if_neg (not_not.mpr rfl), if_pos hop, if_neg (by omega)]
  rfl

theorem start_copyOut {s s1 : State} {c k p : Nat} {q : QCtx} {d : List Byte} (hstop : s.err.failStop = false)
    (hpick : qePick s = some (c, k, s1)) (hqueue : k < 0x100000) (hctx : ctxOf s k = some q) (htype : q.type = 3)
    (hfind : q.cache.find? (fun x => decide (x.1 = q.startPos)) = some (p, d)) (hop : dField d 1 1 = 4) (hdirect : dIndirect d = false)
    (hsegs : segsBad q (segList (d.drop 16) (segCount q d)) = false)
    (hint : internalBad s q d (segList (d.drop 16) (segCount q d)) = false) : Completes .descriptorStart s (fun t =>
      (∃ rr, ctxOf t k = some { popDesc q with
        started := q.started ++ [{ pos := p, desc := d, segs := segList (d.drop 16) (segCount q d), data := [] }], ringRead := rr }) ∧
      (∀ j, j ≠ k → ctxOf t j = ctxOf s j) ∧ t.dict = s.dict ∧ t.mem = s.mem ∧ t.hmem = s.hmem) := by
  obtain ⟨hctxs, hdict, hctl, hmem, hhmem⟩ := qePick_keeps hpick
  have hctx1 : ∀ j, ctxOf s1 j = ctxOf s j := fun j => by rw [ctxOf, ctxOf, hctxs]
  have hstart := startGranted_copyOut ((hctx1 k).trans hctx) htype hfind hop hdirect hsegs ((internalBad_of_ctl hctl q d _).trans hint)
  have hexec := exec_descriptorStart_queue hstop hpick hqueue hstart
  obtain ⟨⟨rr, hq⟩, hother, -, hdict', hmem', hhmem'⟩ := askFetch_setCtx s1 k
    (startedNext q { pos := p, desc := d, segs := segList (d.drop 16) (segCount q d), data := [] })
  obtain ⟨hctxs', hdict'', hmem'', hhmem''⟩ := qeSettle_keeps (askFetch (setCtx s1 k
    (startedNext q { pos := p, desc := d, segs := segList (d.drop 16) (segCount q d), data := [] })) k) c k
    (match ctxOf (askFetch (setCtx s1 k
      (startedNext q { pos := p, desc := d, segs := segList (d.drop 16) (segCount q d), data := [] })) k) k with
      | some q => decide (q.startPos = q.door) | none => true)
  have hctx2 := fun j => congrArg (fun l => tget l j) hctxs'
  exact ⟨_, hexec, ⟨rr, (hctx2 k).trans hq⟩, fun j hj => (hctx2 j).trans ((hother j hj).trans (hctx1 j)), hdict''.trans (hdict'.trans hdict),
    hmem''.trans (hmem'.trans hmem), hhmem''.trans (hhmem'.trans hhmem)⟩
/-! ### Transmit frames (R318) -/

/-- A context change in terms of the context before. -/
theorem ended_started {q q' : QCtx} {pos : Nat} (h : Ended q q' pos) :
    q'.started = q.started.filter (fun y => decide (y.pos ≠ pos)) ∧ q'.st = q.st ∧ q'.startPos = q.startPos := by
  obtain ⟨o, l, w, p, u, rfl⟩ := h
  exact ⟨rfl, rfl, rfl⟩

theorem exec_txFrameTaken_ends {c : Fin 65536} {s : State} {q : QCtx} {x : Started} {rest : List Started} {p : Nat}
    (hctx : ctxOf s c = some q) (hstarted : q.started = x :: rest) (hpkt : x.pkt = some p) (htype : q.type = 1) (hst : q.st = .running) :
    exec (.txFrameTaken c) s = .next ((endDesc (frameTail s (ctxVale q) p [] true) c x
      { pos := x.pos, tag := dTag x.desc, len := x.data.length }).getD s) := by
  show execTxFrameTaken c s = _
  unfold execTxFrameTaken
  rw [hctx]
  dsimp only
  rw [hstarted]
  dsimp only
  rw [hpkt]
  dsimp only
  rw [if_neg (by rw [htype, hst]; decide)]
  cases endDesc (frameTail s (ctxVale q) p [] true) c x { pos := x.pos, tag := dTag x.desc, len := x.data.length } <;> rfl

/-- A started descriptor ends in a state that has the same contexts. -/
theorem endDesc_getD {s u : State} {i : Nat} {q : QCtx} (x : Started) (c : Cpl) (hqe : u.qe = s.qe) (hframe : frame u = frame s)
    (hctx : ctxOf s i = some q) (hroom : cplRoom q = true) :
    ∃ q', ctxOf ((endDesc u i x c).getD s) i = some q' ∧ Ended q q' x.pos ∧
      (∀ j, j ≠ i → ctxOf ((endDesc u i x c).getD s) j = ctxOf s j) ∧ ((endDesc u i x c).getD s).mem = s.mem ∧
      ((endDesc u i x c).getD s).hmem = s.hmem := by
  obtain ⟨t, q', hend, hq', hended, honly⟩ := endDesc_spec x c ((ctxOf_of_qe hqe i).trans hctx) hroom
  obtain ⟨hmem, hhmem⟩ := mems_of_frame hframe
  rw [hend]
  exact ⟨q', hq', hended, fun j hj => (honly.others j hj).trans (ctxOf_of_qe hqe j), honly.mem.trans hmem, honly.hmem.trans hhmem⟩

/-! ### Receive delivery (R319) -/

section
variable {c : Fin 65536} {s : State} {v : Vale} {pk : Nat} (hold : rxOldest s c = some (v, pk))
include hold

theorem exec_rxDeliver_noQueue (hctx : ctxOf s c = none) : exec (.rxDeliver c) s = .next (dropCopy s v pk 0x0C) := by
  show execRxDeliver c s = _
  unfold execRxDeliver
  rw [hold]
  dsimp only
  rw [hctx]

variable {q : QCtx} (hctx : ctxOf s c = some q)
include hctx

theorem exec_rxDeliver_dead (hdead : rxAlive s q = false ∨ q.type ≠ 2) : exec (.rxDeliver c) s = .next (dropCopy s v pk 0x0C) := by
  have hdead' : (!rxAlive s q || decide (q.type ≠ 2)) = true := by
    rcases hdead with h | h
    · rw [h]; rfl
    · rw [decide_eq_true h, Bool.or_true]
  show execRxDeliver c s = _
  unfold execRxDeliver
  rw [hold]
  dsimp only
  rw [hctx]
  exact congrArg Host.Outcome.next (if_pos hdead')

theorem exec_rxDeliver_into {p : Packet} {d : Nat × List Byte} (halive : rxAlive s q = true) (htype : q.type = 2)
    (hissues : fnIssues s q.fn = true) (hheld : fnHeld s q.fn = false)
    (hfind : q.cache.find? (fun d => decide (d.1 = q.startPos)) = some d) (hpkt : pktAt s v pk = some p) :
    exec (.rxDeliver c) s = .next (rxInto s v c pk p q d) := by
  have halive' : ¬((!rxAlive s q || decide (q.type ≠ 2)) = true) := by
    rw [halive, decide_eq_false (not_not.mpr htype)]
    exact Bool.false_ne_true
  have hissues' : ¬((!fnIssues s q.fn || fnHeld s q.fn) = true) := by
    rw [hissues, hheld]
    exact Bool.false_ne_true
  show execRxDeliver c s = _
  unfold execRxDeliver
  rw [hold]
  dsimp only
  rw [hctx]
  refine congrArg Host.Outcome.next ((if_neg halive').trans ((if_neg hissues').trans ?_))
  rw [hfind, hpkt]
  rfl

end

theorem pktAt_dropCopy (s : State) (v : Vale) (pk reason : Nat) : pktAt (dropCopy s v pk reason) v pk = none := pktAt_dropPkt _ _ _ _

theorem dropCopy_queues (s : State) (v : Vale) (pk : Nat) : pktAt (dropCopy s v pk 0x0C) v pk = none ∧
    (dropCopy s v pk 0x0C).qe = s.qe ∧ (dropCopy s v pk 0x0C).mem = s.mem ∧ (dropCopy s v pk 0x0C).hmem = s.hmem :=
  ⟨pktAt_dropCopy s v pk 0x0C, qe_of_queueView (queueView_dropCopy _ _ _ _), mems_of_frame (frame_dropCopy _ _ _ _)⟩

/-- A frame that fits its receive descriptor is delivered. -/
theorem rxInto_fits {s : State} {v : Vale} {i pk : Nat} {p : Packet} {q : QCtx} {d : Nat × List Byte} (htype : q.type = 2)
    (hdirect : dIndirect d.2 = false) (hsegs : segsBad q (segList (d.2.drop 16) (segCount q d.2)) = false) (hroom : cplRoom q = true)
    (hfits : p.out.length ≤ totalLen (segList (d.2.drop 16) (segCount q d.2))) :
    ∃ t q', rxInto s v i pk p q d = askFetch (removePkt t v pk) i ∧ ctxOf t i = some q' ∧
      q'.startPos = (q.startPos + 1) % 65536 ∧ OnlyCtx s t i := by
  have hint : internalBad s q d.2 (segList (d.2.drop 16) (segCount q d.2)) = false := by
    rw [internalBad, decide_eq_false (by omega)]
    rfl
  have hset := (onlyCtx_setCtx s i (startedNext q { pos := d.1, desc := d.2, segs := segList (d.2.drop 16) (segCount q d.2) })).trans
    (onlyCtx_writeSegs _ i q.fn (segList (d.2.drop 16) (segCount q d.2)) p.out)
  obtain ⟨t, q', hend, hq', hended, honly⟩ := endDesc_spec
    { pos := d.1, desc := d.2, segs := segList (d.2.drop 16) (segCount q d.2) }
    { pos := d.1, tag := dTag d.2, len := p.out.length, rx := rxFields p }
    ((ctxOf_writeSegs _ q.fn (segList (d.2.drop 16) (segCount q d.2)) p.out i).trans (ctxOf_setCtx_same s i
      (startedNext q { pos := d.1, desc := d.2, segs := segList (d.2.drop 16) (segCount q d.2) }))) hroom
  obtain ⟨-, -, hpos⟩ := ended_started hended
  refine ⟨t, q', ?_, hq', hpos, hset.trans honly⟩
  unfold rxInto
  rw [startSegs_direct s q hdirect]
  dsimp only
  rw [startItem_sound hsegs hint, if_neg (not_not.mpr rfl), if_neg (Nat.not_lt.mpr hfits)]
  unfold startedNext at hend
  rw [hend]

theorem rxDelivered {s : State} {v : Vale} {i pk : Nat} {p : Packet} {q : QCtx} {d : Nat × List Byte} (htype : q.type = 2)
    (hdirect : dIndirect d.2 = false) (hsegs : segsBad q (segList (d.2.drop 16) (segCount q d.2)) = false) (hroom : cplRoom q = true)
    (hfits : p.out.length ≤ totalLen (segList (d.2.drop 16) (segCount q d.2))) :
    pktAt (rxInto s v i pk p q d) v pk = none ∧ (ctxOf (rxInto s v i pk p q d) i).map (·.startPos) = some ((q.startPos + 1) % 65536) ∧
      (∀ j, j ≠ i → ctxOf (rxInto s v i pk p q d) j = ctxOf s j) ∧ (rxInto s v i pk p q d).dict = s.dict ∧
      (rxInto s v i pk p q d).mem = s.mem ∧ (rxInto s v i pk p q d).hmem = s.hmem := by
  obtain ⟨t, q', hinto, hq', hpos, honly⟩ := rxInto_fits (s := s) (v := v) (i := i) (pk := pk) htype hdirect hsegs hroom hfits
  have hremove : ∀ j, ctxOf (removePkt t v pk) j = ctxOf t j := ctxOf_of_queueView (queueView_removePkt t v pk)
  obtain ⟨hmem, hhmem⟩ := mems_of_frame (frame_removePkt t v pk)
  have hask := onlyCtx_askFetch (removePkt t v pk) i
  obtain ⟨⟨rr, hctx⟩, -⟩ := askFetch_spec ((hremove i).trans hq')
  rw [hinto, hctx]
  exact ⟨(hask.pktAt v pk).trans (pktAt_removePkt t v pk), congrArg some hpos,
    fun j hj => (hask.others j hj).trans ((hremove j).trans (honly.others j hj)),
    hask.dict.trans ((removePkt_dict t v pk).trans honly.dict), hask.mem.trans (hmem.trans honly.mem),
    hask.hmem.trans (hhmem.trans honly.hmem)⟩

/-! ### Control copies (R320) -/

section
variable {c : Fin 65536} {pos : U16} {s : State} {q : QCtx} {x : Started} (hctx : ctxOf s c = some q)
  (hfind : q.started.find? (fun x => decide (x.pos = pos.toNat)) = some x) (htype : q.type = 3) (hst : q.st = .running)
  (hissues : fnIssues s q.fn = true)
include hctx hfind htype hst hissues

theorem exec_controlCopyDone_in (hop : dField x.desc 1 1 = 3) : exec (.controlCopyDone c pos) s =
    .next ((endDesc (writeInt s (dField x.desc 8 8) x.data) c x { pos := x.pos, tag := dTag x.desc, len := totalLen x.segs }).getD s) := by
  show execControlCopyDone c pos s = _
  unfold execControlCopyDone
  rw [hctx]
  dsimp only
  rw [hfind]
  dsimp only
  rw [if_neg (by rw [htype, hst, hissues]; decide), if_pos hop]

theorem exec_controlCopyDone_out (hop : dField x.desc 1 1 = 4) (hclean : poisoned s (dField x.desc 8 8) (totalLen x.segs) = false) :
    exec (.controlCopyDone c pos) s = .next ((endDesc (writeSegs s q.fn x.segs (readInt s (dField x.desc 8 8) (totalLen x.segs))) c x
      { pos := x.pos, tag := dTag x.desc, len := totalLen x.segs }).getD s) := by
  show execControlCopyDone c pos s = _
  unfold execControlCopyDone
  rw [hctx]
  dsimp only
  rw [hfind]
  dsimp only
  rw [if_neg (by rw [htype, hst, hissues]; decide), if_neg (by omega), hclean, if_neg Bool.false_ne_true]

theorem controlCopyIn_ends (hroom : cplRoom q = true) (hop : dField x.desc 1 1 = 3) : Completes (.controlCopyDone c pos) s (fun t =>
    t.mem = (writeInt s (dField x.desc 8 8) x.data).mem ∧
      (ctxOf t c).map (·.started) = some (q.started.filter (fun y => decide (y.pos ≠ x.pos))) ∧
      (∀ j, j ≠ c.val → ctxOf t j = ctxOf s j) ∧ t.hmem = s.hmem) := by
  obtain ⟨t, q', hend, hq', hended, honly⟩ := endDesc_spec (s := writeInt s (dField x.desc 8 8) x.data) x
    { pos := x.pos, tag := dTag x.desc, len := totalLen x.segs } hctx hroom
  obtain ⟨hstarted, -⟩ := ended_started hended
  have hexec := exec_controlCopyDone_in hctx hfind htype hst hissues hop
  rw [hend] at hexec
  exact ⟨t, hexec, honly.mem, by rw [hq', Option.map_some, hstarted], honly.others, honly.hmem⟩

end

/-! ### Completion timers (R323) -/

theorem exec_coalTimerExpiry_due {c : Fin 65536} {s : State} {q : QCtx} (hctx : ctxOf s c = some q) (husec : q.coalUsec ≠ 0)
    (hunsig : q.unsig ≠ 0) : exec (.coalTimerExpiry c) s = .next (qeRaise s c q) := by
  show execCoalTimerExpiry c s = _
  unfold execCoalTimerExpiry
  rw [hctx]
  exact congrArg Host.Outcome.next (if_pos ⟨husec, hunsig⟩)

@[simp] theorem pend_updateIntx (s : State) (f : Nat) : (fnOf (updateIntx s f) f).pend = (fnOf s f).pend := by
  unfold updateIntx
  dsimp only
  split
  · rfl
  · split
    · rfl
    · split
      · simp only [pushMsg, setFn, fnOf, tgetD_tset_same]
      · rfl

/-- A raised vector of the function's table is pending. -/
theorem mem_pend_raiseVector {s : State} {f vec : Nat} (h : vec < msixSize s f) : vec ∈ (fnOf (raiseVector s f vec) f).pend := by
  have hhold : ∀ u : State, fnOf (holdVector u f vec) f = fnOf u f := fun _ => rfl
  rw [raiseVector, if_pos h, pend_updateIntx, hhold, fnOf_modFn_same]
  split
  next hin => exact List.contains_iff_mem.mp hin
  next => exact List.mem_append_right _ List.mem_cons_self

theorem qeRaise_pend {s : State} {i : Nat} {q : QCtx} (hvec : q.vector ≠ 0xFFFF) (htable : q.vector < msixSize s q.fn) :
    q.vector ∈ (fnOf (qeRaise s i q) q.fn).pend := by
  unfold qeRaise
  dsimp only
  rw [if_neg hvec]
  exact mem_pend_raiseVector htable
/-! ### Failed reads (R326, R327) -/

section
variable {c : Fin 65536} {pos : U16} {s : State} {q : QCtx} (hctx : ctxOf s c = some q) (hst : q.st = .running)
include hctx hst

theorem exec_qeReadTimeout_ring {s1 : State} (hread : ringReadAt s c q pos.toNat = some s1) :
    exec (.qeReadTimeout c true pos) s = .next (readFails s1 c pos.toNat 0xFFFFFF 2 .timeout) := by
  show execQeReadTimeout c true pos s = _
  unfold execQeReadTimeout
  rw [hctx]
  refine congrArg Host.Outcome.next ((if_neg (not_not.mpr hst)).trans ((if_pos rfl).trans ?_))
  rw [descReadFails, hread]

theorem exec_qeReadError_ring {s1 : State} (hread : ringReadAt s c q pos.toNat = some s1) :
    exec (.qeReadError c ⟨true, pos⟩) s = .next (readFails s1 c pos.toNat 0xFFFFFF 3 .access) := by
  show execQeReadError c ⟨true, pos⟩ s = _
  unfold execQeReadError
  rw [hctx]
  refine congrArg Host.Outcome.next ((if_neg (not_not.mpr hst)).trans ((if_pos rfl).trans ?_))
  rw [descReadFails, hread]

variable {x : Started} (hfind : q.started.find? (fun x => decide (x.pos = pos.toNat)) = some x) (hop : dField x.desc 1 1 ≠ 4)
include hfind hop

theorem exec_qeReadTimeout_data : exec (.qeReadTimeout c false pos) s =
    .next (readFails (loseTail s q x) c x.pos (dTag x.desc) 2 .timeout) := by
  show execQeReadTimeout c false pos s = _
  unfold execQeReadTimeout
  rw [hctx]
  refine congrArg Host.Outcome.next ((if_neg (not_not.mpr hst)).trans ((if_neg Bool.false_ne_true).trans ?_))
  rw [hfind]
  exact if_neg hop

theorem exec_qeReadError_data : exec (.qeReadError c ⟨false, pos⟩) s = .next ((endDesc (loseTail s q x) c x
    { error := true, status := .access, pos := x.pos, tag := dTag x.desc, cause := 3 }).getD s) := by
  show execQeReadError c ⟨false, pos⟩ s = _
  unfold execQeReadError
  rw [hctx]
  refine congrArg Host.Outcome.next ((if_neg (not_not.mpr hst)).trans ((if_neg Bool.false_ne_true).trans ?_))
  rw [hfind]
  exact if_neg hop

end

theorem aerUnc_qe (s : State) (f bit : Nat) : (aerUnc s f bit).qe = s.qe := by
  have hmsg : ∀ (u : State) (severity : Nat), (sendErr u f severity).qe = u.qe := by
    intro u severity
    unfold sendErr
    split <;> rfl
  have hlogged : (uncLogged s f bit).qe = s.qe := by
    unfold uncLogged aerCor
    dsimp only
    (repeat' split) <;> simp [hmsg, modFn, drawFree]
  rw [aerUnc_eq]
  split
  · exact hlogged
  · exact (hmsg _ _).trans hlogged

theorem haltFn_qe (s : State) (f reason errSeq : Nat) : (haltFn s f reason errSeq).qe = s.qe := by
  unfold haltFn
  split
  · rfl
  · exact aerUnc_qe _ f 22

theorem ctxOf_haltQueues (s : State) (f i : Nat) : ctxOf (haltQueues s f) i =
    (ctxOf s i).map (fun q => if q.fn = f ∧ q.st = .running then { q with st := .halted } else q) := by
  simp only [ctxOf, haltQueues, tget_tmap]

/-- The block's action at a fault of a queue halts the queue. -/
theorem qeFaultAct_halts {s : State} {i : Nat} {q : QCtx} (f reason : Nat) (k : ErrKind) (r : ErrRec) (h : ctxOf s i = some q) :
    (ctxOf (qeFaultAct i f reason k 2 r s) i).map (·.st) = some .halted := by
  have hmod : modCtx s i (fun q => { q with st := .halted }) = setCtx s i { q with st := .halted } := by rw [modCtx, h]
  have hqe : (qeFaultAct i f reason k 2 r s).qe = (haltQueues (setCtx s i { q with st := .halted }) f).qe := by
    rw [← hmod]
    exact haltFn_qe _ _ _ _
  rw [ctxOf_of_qe hqe, ctxOf_haltQueues, ctxOf_setCtx_same]
  simp

theorem taken_queues (d : ErrDesc) (l : Nat) (s : State) : (taken d l s).qe = s.qe ∧ (taken d l s).hmem = s.hmem := by
  unfold taken
  dsimp only
  split <;> split <;> exact ⟨rfl, rfl⟩

theorem ownQueue_of_tens {s t : State} (h : t.tens = s.tens) (o : Handle) : ownQueue t o = ownQueue s o := by
  have hmode : modeOf t o = modeOf s o := by
    unfold modeOf tenAt
    rw [h]
  rw [ownQueue, ownQueue, hmode]

theorem fnOwner_of_owners {s t : State} (h : t.dict.owners = s.dict.owners) (f : Nat) : fnOwner t f = fnOwner s f := by
  simp only [fnOwner, ownerOf, h]

/-- A fault of a queue whose owner has no queue of its own goes to the queue engine's handler, which halts the queue where it is idle. -/
theorem queueFault_halts {s : State} {i : Nat} {q q' : QCtx} (reason pos cause detail : Nat) (hctx : ctxOf s i = some q')
    (hown : ownQueue s (fnOwner s q.fn) = false) (hidle : (handlerAt s (handlerKey 2 3 2)).active = none) :
    (ctxOf (queueFault s i q reason pos cause detail) i).map (·.st) = some .halted := by
  have hidle' : (handlerAt (qeLastFault s i q pos cause detail) (handlerKey 2 3 2)).active = none := hidle
  have hown' : ownQueue (qeLastFault s i q pos cause detail) (fnOwner s q.fn) = false := hown
  obtain ⟨hqe, -⟩ := taken_queues (qeErr s i q (if cause = 2 then 3 else 4) pos) 2 (qeLastFault s i q pos cause detail)
  have harrive := arrive_idle (qeFaultAct i q.fn reason) (d := qeErr s i q (if cause = 2 then 3 else 4) pos) (l := 2) hidle'
  rw [queueFault, ownedError, show (qeErr s i q (if cause = 2 then 3 else 4) pos).tenancy = fnOwner s q.fn from rfl, hown',
    if_neg Bool.false_ne_true, harrive]
  exact qeFaultAct_halts _ _ _ _ ((ctxOf_of_qe hqe i).trans hctx)

theorem readFails_halts {s : State} {i : Nat} {q : QCtx} (pos tag cause : Nat) (st : Status) (hctx : ctxOf s i = some q)
    (hown : ownQueue s (fnOwner s q.fn) = false) (hidle : (handlerAt s (handlerKey 2 3 2)).active = none) :
    (ctxOf (readFails s i pos tag cause st) i).map (·.st) = some .halted := by
  unfold readFails
  rw [hctx]
  dsimp only
  split
  · obtain ⟨⟨w, p, u, hq⟩, honly⟩ := writeCpl_spec { error := true, status := st, pos := pos, tag := tag, cause := cause } hctx
    have howner := fnOwner_of_owners (congrArg Dict.owners honly.dict) q.fn
    rw [hq]
    refine queueFault_halts 4 pos cause 0 hq ?_ ((congrArg (fun e => (tgetD e.handlers (handlerKey 2 3 2) {}).active) honly.err).trans hidle)
    dsimp only [Option.getD_some]
    rw [ownQueue_of_tens honly.tens, howner, hown]
  · rw [hctx]
    exact queueFault_halts 4 pos cause 0 hctx hown hidle

theorem readTimeout_halts {c : Fin 65536} {pos : U16} {s : State} {q : QCtx} {x : Started} (hctx : ctxOf s c = some q)
    (hst : q.st = .running) (hfind : q.started.find? (fun x => decide (x.pos = pos.toNat)) = some x) (hop : dField x.desc 1 1 ≠ 4)
    (hown : ownQueue s (fnOwner s q.fn) = false) (hidle : (handlerAt s (handlerKey 2 3 2)).active = none) :
    Completes (.qeReadTimeout c false pos) s (fun t => (ctxOf t c).map (·.st) = some .halted ∧ t.mem = s.mem ∧ t.hmem = s.hmem) := by
  have hview := queueView_loseTail s q x
  have htens : (loseTail s q x).tens = s.tens := congrArg (fun w => w.2.1) hview
  have howners : (loseTail s q x).dict.owners = s.dict.owners := congrArg (fun w => w.2.2.1) hview
  have herr : (loseTail s q x).err = s.err := congrArg (fun w => w.2.2.2) hview
  refine ⟨_, exec_qeReadTimeout_data hctx hst hfind hop, ?_, mems_of_frame ((frame_readFails _ _ _ _ _ _).trans (frame_loseTail _ _ _))⟩
  refine readFails_halts x.pos (dTag x.desc) 2 .timeout ((ctxOf_of_queueView hview c).trans hctx) ?_
    ((congrArg (fun e => (tgetD e.handlers (handlerKey 2 3 2) {}).active) herr).trans hidle)
  rw [ownQueue_of_tens htens, fnOwner_of_owners howners, hown]

theorem readError_ends {c : Fin 65536} {pos : U16} {s : State} {q : QCtx} {x : Started} (hctx : ctxOf s c = some q)
    (hst : q.st = .running) (hfind : q.started.find? (fun x => decide (x.pos = pos.toNat)) = some x) (hop : dField x.desc 1 1 ≠ 4)
    (hroom : cplRoom q = true) : Completes (.qeReadError c ⟨false, pos⟩) s (fun t =>
      (ctxOf t c).map (·.started) = some (q.started.filter (fun y => decide (y.pos ≠ x.pos))) ∧
      (ctxOf t c).map (·.st) = some .running ∧ (∀ j, j ≠ c.val → ctxOf t j = ctxOf s j) ∧ t.mem = s.mem ∧ t.hmem = s.hmem) := by
  obtain ⟨q', hq', hended, hother, hmem, hhmem⟩ := endDesc_getD x
    { error := true, status := .access, pos := x.pos, tag := dTag x.desc, cause := 3 } (qe_of_queueView (queueView_loseTail s q x))
    (frame_loseTail s q x) hctx hroom
  obtain ⟨hstarted, hst', -⟩ := ended_started hended
  refine ⟨_, exec_qeReadError_data hctx hst hfind hop, ?_⟩
  dsimp only
  rw [hq', Option.map_some, Option.map_some, hstarted, hst', hst]
  exact ⟨rfl, rfl, hother, hmem, hhmem⟩

theorem queueDescriptors : Claims.QueueDescriptors := by
  refine ⟨fun c s q ps s1 hctx hst hread => exec_descriptorFetch_back hctx hst hread,
    fun c s q p r hctx hst hread hpend hgrant hempty hp _ hfetched hitem => fetch_one hctx hst hread hpend hgrant hempty hp hfetched hitem,
    fun s c k s1 s2 hstop hpick hqueue hstart => exec_descriptorStart_queue hstop hpick hqueue hstart,
    fun s c k s1 q p d hstop hpick hqueue hctx htype hfind hop hdirect hsegs hint =>
      start_copyOut hstop hpick hqueue hctx htype hfind hop hdirect hsegs hint,
    fun s q d => ⟨descItem_noOwn, descItem_wrongOp⟩, fun c s q x rest p hctx hstarted hpkt htype hst => ?transmit,
    fun c s v pk hold => ⟨fun hctx => ?noQueue, fun q hctx hdead => ?dead,
      fun q d p hctx halive htype hissues hheld hfind hpkt => ?deliver⟩,
    fun c pos s q x hctx hfind htype hst hissues =>
      ⟨fun hop => ⟨exec_controlCopyDone_in hctx hfind htype hst hissues hop,
        fun hroom => controlCopyIn_ends hctx hfind htype hst hissues hroom hop⟩,
       fun hop hclean => exec_controlCopyDone_out hctx hfind htype hst hissues hop hclean⟩,
    fun s i x c q hctx hfull herr => endDesc_full x hctx hfull herr, fun c s q hctx husec hunsig => ?timer,
    fun c pos s q hctx hst => ⟨fun s1 hread => ⟨exec_qeReadTimeout_ring hctx hst hread, exec_qeReadError_ring hctx hst hread⟩,
      fun x hfind hop => ⟨exec_qeReadTimeout_data hctx hst hfind hop, exec_qeReadError_data hctx hst hfind hop,
        fun hroom => readError_ends hctx hst hfind hop hroom, fun _ hown hidle => readTimeout_halts hctx hst hfind hop hown hidle⟩⟩⟩
  case transmit =>
    refine ⟨exec_txFrameTaken_ends hctx hstarted hpkt htype hst, fun hroom => ?_⟩
    obtain ⟨q', hq', hended, hother, hmem, hhmem⟩ := endDesc_getD x { pos := x.pos, tag := dTag x.desc, len := x.data.length }
      (qe_of_queueView (queueView_frameTail s (ctxVale q) p [] true)) (frame_frameTail s (ctxVale q) p [] true) hctx hroom
    obtain ⟨hstarted', -⟩ := ended_started hended
    exact ⟨_, exec_txFrameTaken_ends hctx hstarted hpkt htype hst, (congrArg (Option.map _) hq').trans (congrArg some hstarted'), hother,
      hmem, hhmem⟩
  case noQueue =>
    have hexec := exec_rxDeliver_noQueue hold hctx
    exact ⟨hexec, _, hexec, dropCopy_queues s v pk⟩
  case dead =>
    have hexec := exec_rxDeliver_dead hold hctx hdead
    exact ⟨hexec, _, hexec, dropCopy_queues s v pk⟩
  case deliver =>
    have hexec := exec_rxDeliver_into hold hctx halive htype hissues hheld hfind hpkt
    exact ⟨hexec, fun hdirect hsegs hroom hfits => ⟨_, hexec, rxDelivered htype hdirect hsegs hroom hfits⟩⟩
  case timer =>
    obtain ⟨hq, honly⟩ := qeRaise_spec s c q
    have hexec := exec_coalTimerExpiry_due hctx husec hunsig
    exact ⟨hexec, _, hexec, hq, honly.others, qeRaise_pend, honly.dict, honly.mem, honly.hmem⟩

/-- Settles O39: each command by its equation, and what it leaves from the rules of `askFetch`, `endDesc`, `writeCpl` and `queueFault`,
which change one context. -/
theorem workQueues : Obligations.WorkQueues := ⟨queueCommands, queueDoorbells, queueDescriptors, completionEntries⟩

end Sys2Proof.Machine

end

section
/-! NVMe: what host accesses, completions and ends of commands leave alone (R330, R336-R344) -/

namespace Sys2Proof.Machine

/-! ### Changes of the host interface alone -/

/-- The state `t` is `s` but for the host interface. -/
def OnlyHost (s t : State) : Prop := ∃ h, t = { s with host := h }

theorem OnlyHost.refl (s : State) : OnlyHost s s := ⟨s.host, rfl⟩

theorem OnlyHost.trans {s t u : State} (h : OnlyHost s t) (k : OnlyHost t u) : OnlyHost s u := by
  obtain ⟨_, rfl⟩ := h
  obtain ⟨x, rfl⟩ := k
  exact ⟨x, rfl⟩

theorem onlyHost_hostIssue (s : State) (f addr : Nat) (bs : List Byte) (log : Bool) (win : Nat) (payload : Bool) :
    OnlyHost s (hostIssue s f addr bs log win payload) := ⟨_, hostIssue_eq s f addr bs log win payload⟩

theorem onlyHost_raiseVector (s : State) (f vec : Nat) : OnlyHost s (raiseVector s f vec) := ⟨_, raiseVector_eq s f vec⟩

theorem onlyHost_hostRead (s : State) (f addr n : Nat) : OnlyHost s (hostRead s f addr n).2 := by
  have hsettle : ∀ (u : State) (c : Nat), OnlyHost u (arbSettle u .fromHost c) := by
    intro u c
    unfold arbSettle
    split
    · exact .refl u
    · exact ⟨_, rfl⟩
  have hend : ∀ (u : State) (c : Nat), OnlyHost u (arbEnd u .fromHost c) := by
    intro u c
    unfold arbEnd
    split
    · exact .refl u
    · exact ⟨_, rfl⟩
  have hcharge : OnlyHost s (hostCharge s .fromHost f n) := ⟨_, rfl⟩
  exact (hcharge.trans (hsettle _ _)).trans (hend _ _)

theorem onlyHost_readTurn {s t : State} {f : Nat} (h : readTurn s f = some t) : OnlyHost s t := by
  unfold readTurn at h
  split at h
  · exact nomatch h
  · split at h
    next c u hpick =>
      split at h
      · cases h
        unfold arbPick at hpick
        dsimp only at hpick
        split at hpick
        · exact nomatch hpick
        · cases hpick
          exact ⟨_, rfl⟩
      · exact nomatch h
    next => exact nomatch h

theorem onlyHost_prpList (s : State) (f fuel a n : Nat) : OnlyHost s (prpList s f fuel a n).2 := by
  induction fuel generalizing s a n with
  | zero => exact .refl s
  | succ fuel ih =>
    unfold prpList
    split
    · exact .refl s
    · dsimp only
      split
      · exact (onlyHost_hostRead s f a 8).trans (ih _ _ _)
      · exact (onlyHost_hostRead s f a 8).trans (ih _ _ _)

theorem onlyHost_prpSpans (s : State) (f : Nat) (b : List Byte) (n : Nat) : OnlyHost s (prpSpans s f b n).2 := by
  unfold prpSpans
  dsimp only
  split
  · exact .refl s
  · split
    · exact .refl s
    · exact onlyHost_prpList _ _ _ _ _

theorem onlyHost_spanRead (s : State) (f : Nat) (l : List (Nat × Nat)) : OnlyHost s (spanRead s f l).2 := by
  induction l generalizing s with
  | nil => exact .refl s
  | cons x r ih => exact (onlyHost_hostRead s f x.1 x.2).trans (ih _)

/-! ### Controllers and their queues -/

@[simp] theorem nvCtrl_setNv_same (s : State) (c : Nat) (x : NvCtrl) : nvCtrl (setNv s c x) c = some x := tget_tset_same _ _ _

theorem nvCtrl_setNv_other (s : State) {c d : Nat} (x : NvCtrl) (h : d ≠ c) : nvCtrl (setNv s c x) d = nvCtrl s d :=
  tget_tset_other _ _ _ _ h

/-- What a queue that is found is. -/
theorem nvFind_spec {s : State} {c qid i : Nat} {sq : Bool} {q : NvQ} (h : nvFind s c sq qid = some (i, q)) :
    (i, q) ∈ s.nv.qs ∧ q.ctrl = c ∧ q.sq = sq ∧ q.qid = qid := by
  have hprop := List.find?_some h
  simp only [Bool.and_eq_true, decide_eq_true_eq] at hprop
  obtain ⟨⟨hctrl, hsq⟩, hqid⟩ := hprop
  exact ⟨List.mem_of_find?_eq_some h, hctrl, hsq, hqid⟩

theorem mem_of_tget {α : Type} {t : Tab α} {k : Nat} {v : α} (h : tget t k = some v) : (k, v) ∈ t := by
  induction t with
  | nil => exact nomatch h
  | cons p r ih =>
    by_cases hk : p.1 = k
    · rw [tget, if_pos hk] at h
      cases h
      cases hk
      exact List.mem_cons_self
    · rw [tget, if_neg hk] at h
      exact List.mem_cons_of_mem _ (ih h)

/-! ### Completions (R336) -/

/-- Of commands, queues, dictionary and memory only queue `k` changes. -/
structure OnlyQ (s t : State) (k : Nat) : Prop where
  cmds : t.nv.cmds = s.nv.cmds
  dict : t.dict = s.dict
  mem : t.mem = s.mem
  hmem : t.hmem = s.hmem
  others : ∀ j, j ≠ k → tget t.nv.qs j = tget s.nv.qs j

theorem OnlyQ.refl (s : State) (k : Nat) : OnlyQ s s k := ⟨rfl, rfl, rfl, rfl, fun _ _ => rfl⟩

theorem OnlyQ.trans {s t u : State} {k : Nat} (h : OnlyQ s t k) (g : OnlyQ t u k) : OnlyQ s u k :=
  ⟨g.cmds.trans h.cmds, g.dict.trans h.dict, g.mem.trans h.mem, g.hmem.trans h.hmem, fun j hj => (g.others j hj).trans (h.others j hj)⟩

theorem OnlyHost.onlyQ {s t : State} (h : OnlyHost s t) (k : Nat) : OnlyQ s t k := by
  obtain ⟨_, rfl⟩ := h
  exact ⟨rfl, rfl, rfl, rfl, fun _ _ => rfl⟩

theorem onlyQ_setNvQ (s : State) (k : Nat) (q : NvQ) : OnlyQ s (setNvQ s k q) k :=
  ⟨rfl, rfl, rfl, rfl, fun _ hj => tget_tset_other _ _ _ _ hj⟩

theorem onlyQ_modNv (s : State) (k c : Nat) (f : NvCtrl → NvCtrl) : OnlyQ s (modNv s c f) k := by
  unfold modNv
  split <;> exact ⟨rfl, rfl, rfl, rfl, fun _ _ => rfl⟩

/-- A completion queue that signals raises its vector, its count of unsignalled entries starting anew. -/
theorem nvSignal_cases (s : State) (c i : Nat) : nvSignal s c i = s ∨ ∃ x : NvCtrl, ∃ q : NvQ,
    nvSignal s c i = raiseVector (setNvQ s i { q with unsig := 0 }) x.fn q.vector := by
  unfold nvSignal
  split
  next x q _ _ => exact (ite_eq_or_eq _ _ _).symm.imp_right (fun h => ⟨x, q, h⟩)
  next => exact .inl rfl

theorem onlyQ_nvSignal (s : State) (c i : Nat) : OnlyQ s (nvSignal s c i) i := by
  rcases nvSignal_cases s c i with h | ⟨x, q, h⟩
  · rw [h]
    exact .refl s i
  · rw [h]
    exact (onlyQ_setNvQ s i _).trans ((onlyHost_raiseVector _ _ _).onlyQ i)

/-- A completion is discarded, or posted into its completion queue. -/
theorem nvPost_cases {s t : State} {c i cid st dw0 ns : Nat} (h : nvPost s c i cid st dw0 ns = some t) :
    t = s ∨ ∃ q k cq, tget s.nv.qs i = some q ∧ nvFind s c false q.cq = some (k, cq) ∧ OnlyQ s t k := by
  unfold nvPost at h
  split at h
  next x q _ hq =>
    split at h
    next => exact .inl (Option.some.inj h).symm
    next k cq hfind =>
      split at h
      next => exact .inl (Option.some.inj h).symm
      next =>
        split at h
        next => exact nomatch h
        next =>
          cases h
          refine .inr ⟨q, k, cq, hq, hfind, OnlyQ.trans ?_ (onlyQ_nvSignal _ c k)⟩
          have hset := fun bs y => ((onlyHost_hostIssue s x.fn (cq.base + 16 * cq.tail) bs true 0 false).onlyQ k).trans
            (onlyQ_setNvQ _ k y)
          split
          · exact hset _ _
          · exact (hset _ _).trans (onlyQ_modNv _ k c _)
  next => exact .inl (Option.some.inj h).symm

theorem nvPost_onlyQ {s t : State} {c i cid st dw0 ns k : Nat} {q cq : NvQ} (h : nvPost s c i cid st dw0 ns = some t)
    (hq : tget s.nv.qs i = some q) (hfind : nvFind s c false q.cq = some (k, cq)) : OnlyQ s t k := by
  rcases nvPost_cases h with rfl | ⟨q', k', cq', hq', hfind', honly⟩
  · exact .refl _ k
  · cases hq.symm.trans hq'
    cases hfind.symm.trans hfind'
    exact honly

theorem nvPost_keeps {s t : State} {c i cid st dw0 ns : Nat} (h : nvPost s c i cid st dw0 ns = some t) :
    t.nv.cmds = s.nv.cmds ∧ t.dict = s.dict ∧ t.mem = s.mem ∧ t.hmem = s.hmem := by
  rcases nvPost_cases h with rfl | ⟨_, _, _, _, _, honly⟩
  · exact ⟨rfl, rfl, rfl, rfl⟩
  · exact ⟨honly.cmds, honly.dict, honly.mem, honly.hmem⟩

section
variable {s : State} {c i k : Nat} {q cq : NvQ} (hq : tget s.nv.qs i = some q) (hfind : nvFind s c false q.cq = some (k, cq))
  (cid st dw0 ns : Nat)
include hq hfind

theorem nvPost_frozen (hctrl : (nvCtrl s c).isSome = true) (hfrozen : cq.frozen = true) : nvPost s c i cid st dw0 ns = some s := by
  obtain ⟨x, hx⟩ := Option.isSome_iff_exists.mp hctrl
  unfold nvPost
  rw [hx, hq]
  dsimp only
  rw [hfind]
  exact if_pos hfrozen

theorem nvPost_full (hctrl : (nvCtrl s c).isSome = true) (hlive : cq.frozen = false) (hfull : cq.size ≤ cq.used + 1) :
    nvPost s c i cid st dw0 ns = none := by
  obtain ⟨x, hx⟩ := Option.isSome_iff_exists.mp hctrl
  unfold nvPost
  rw [hx, hq]
  dsimp only
  rw [hfind]
  exact (if_neg (ne_true_of_eq_false hlive)).trans (if_pos hfull)

theorem nvPost_room (hlive : cq.frozen = false) (hroom : cq.used + 1 < cq.size) : (nvPost s c i cid st dw0 ns).isSome = true := by
  unfold nvPost
  cases nvCtrl s c with
  | none => rfl
  | some x =>
    rw [hq]
    dsimp only
    rw [hfind]
    dsimp only
    rw [if_neg (ne_true_of_eq_false hlive), if_neg (Nat.not_le.mpr hroom)]
    rfl

end

/-! ### Commands end (R338-R340, R344) -/

/-- Where no delete waits for a queue, nothing happens to it. -/
theorem tryDelete_none {s : State} {c i : Nat} {q : NvQ} (hq : tget s.nv.qs i = some q) (hdel : q.deleting = none) :
    tryDelete s c i = s := by
  unfold tryDelete
  rw [hq]
  cases nvFind s c true 0 with
  | none => rfl
  | some p =>
    dsimp only
    rw [hdel]

/-- Where its result has room, a command ends. -/
theorem nvFinish_ended {s : State} {tag : Nat} {m : NvCmd} (st dw0 : Nat) (hm : tget s.nv.cmds tag = some m) (hroom : ResultRoom s m) :
    CmdEnded s (nvFinish s tag st dw0) tag ∧ (nvFinish s tag st dw0).dict = s.dict := by
  obtain ⟨q, k, cq, hq, hdel, hfind, hk, hlive, hspace⟩ := hroom
  obtain ⟨t, ht⟩ := Option.isSome_iff_exists.mp (nvPost_room hq hfind m.cid st dw0 (sNsid m.bytes) hlive hspace)
  have honly := nvPost_onlyQ ht hq hfind
  have hstay : tget t.nv.qs m.sq = some q := (honly.others m.sq (Ne.symm hk)).trans hq
  have hend : nvFinish s tag st dw0 = { t with nv := { t.nv with cmds := terase t.nv.cmds tag } } := by
    unfold nvFinish
    rw [hm]
    dsimp only
    rw [ht]
    exact tryDelete_none hstay hdel
  rw [hend]
  refine ⟨⟨tget_terase_same _ _, fun j hj => ?_, honly.mem, honly.hmem⟩, honly.dict⟩
  exact (tget_terase_other _ _ _ hj).trans (congrArg (fun l => tget l j) honly.cmds)

/-- No event is reported where no request, or no event, waits. -/
theorem nvAens_idle {s : State} {c : Nat} {x : NvCtrl} (n : Nat) (hx : nvCtrl s c = some x) (hidle : x.aers = [] ∨ x.evts = []) :
    nvAens n c s = s := by
  cases n with
  | zero => rfl
  | succ n =>
    unfold nvAens
    rw [hx]
    cases nvFind s c true 0 with
    | none => rfl
    | some p =>
      dsimp only
      rcases hidle with h | h
      · rw [h]
      · rw [h]
        cases x.aers <;> rfl

end Sys2Proof.Machine

end

section
/-! NVMe: I/O commands are fetched, made ready, started, and end (R335-R347) -/

namespace Sys2Proof.Machine

/-! ### Fetch of I/O commands (R335, R337, R338) -/

theorem exec_nvmeCommandFetch_waiting {c : Fin 256} {sq i : Nat} {q : NvQ} {b : List Byte} {s : State}
    (hfind : nvFind s c true sq = some (i, q)) (hwait : q.wait = some b) (hlive : q.frozen = false) (hstop : s.err.failStop = false) :
    exec (.nvmeCommandFetch c sq) s = .next (ioFetched s c i b) := by
  have hgo : ¬(q.frozen = true ∨ s.err.failStop = true) := by
    rw [hlive, hstop]
    decide
  show execNvmeCommandFetch c sq s = _
  unfold execNvmeCommandFetch
  rw [hfind]
  dsimp only
  rw [hwait]
  exact congrArg Host.Outcome.next (if_neg hgo)

theorem ioChecks_badOpcode {s : State} {c : Nat} {b : List Byte} (h : sField b 0 1 ∉ [0x00, 0x01, 0x02, 0x08, 0x09]) :
    ioChecks s c b = (nvInvalidOpcode, [], s) := by
  have hcontains : (!([0x00, 0x01, 0x02, 0x08, 0x09].contains (sField b 0 1))) = true := by simpa using h
  exact if_pos hcontains

section
variable {s : State} {c : Nat} {b : List Byte} (hop : sField b 0 1 ∈ [0x00, 0x01, 0x02, 0x08, 0x09]) (hfuse : sField b 1 1 = 0)
include hop hfuse

theorem ioChecks_noVolume (hvol : volOf s c (sNsid b) = none) : ioChecks s c b = (nvInvalidNs, [], s) := by
  have hcontains : ¬((!([0x00, 0x01, 0x02, 0x08, 0x09].contains (sField b 0 1))) = true) := by
    rw [List.contains_iff_mem.mpr hop]
    decide
  refine (if_neg hcontains).trans ((if_neg (not_not.mpr hfuse)).trans ?_)
  rw [hvol]

variable {v r : Nat} (hvol : volOf s c (sNsid b) = some (v, r))
include hvol

theorem ioChecks_flush (hflush : sField b 0 1 = 0) : ioChecks s c b = (0, [], s) := by
  have hcontains : ¬((!([0x00, 0x01, 0x02, 0x08, 0x09].contains (sField b 0 1))) = true) := by
    rw [List.contains_iff_mem.mpr hop]
    decide
  refine (if_neg hcontains).trans ((if_neg (not_not.mpr hfuse)).trans ?_)
  rw [hvol]
  exact if_pos hflush

/-- A Read without unsupported options and of at most 1 MiB is judged by its range alone. -/
theorem ioChecks_read (hread : sField b 0 1 = 2) (hoptions : ioOptionBad b = false) (hsize : (ioRange b).2 * lbaSize r ≤ 1048576) :
    (ioChecks s c b).1 = if (ioRange b).1 + (ioRange b).2 ≤ volCapacity r then 0 else nvLbaRange := by
  have hcontains : ¬((!([0x00, 0x01, 0x02, 0x08, 0x09].contains (sField b 0 1))) = true) := by
    rw [List.contains_iff_mem.mpr hop]
    decide
  unfold ioChecks
  dsimp only
  rw [if_neg hcontains, if_neg (not_not.mpr hfuse), hvol]
  dsimp only
  rw [if_neg (by omega), if_neg (by omega), hoptions, decide_eq_false (Nat.not_lt.mpr hsize), Bool.and_false, Bool.or_false,
    if_neg Bool.false_ne_true, decide_eq_false (not_not.mpr hread), Bool.false_and, if_neg Bool.false_ne_true]
  have hbeyond : ([ioRange b].any fun x => decide (volCapacity r < x.1 + x.2)) = true ↔ ¬(ioRange b).1 + (ioRange b).2 ≤ volCapacity r := by
    simp
  by_cases hfit : (ioRange b).1 + (ioRange b).2 ≤ volCapacity r
  · rw [if_pos hfit, if_neg (fun h => hbeyond.mp h hfit)]
  · rw [if_neg hfit, if_pos (hbeyond.mpr hfit)]

end

/-- A fetched Flush takes its place among the commands. -/
theorem ioFetched_flush {s : State} {c i v r : Nat} {q : NvQ} {b : List Byte} (hop : sField b 0 1 = 0) (hfuse : sField b 1 1 = 0)
    (hvol : volOf s c (sNsid b) = some (v, r)) (hlocks : rlockUsed s ≤ 16384) (hq : tget s.nv.qs i = some q) : ioFetched s c i b =
      setNvQ { s with nv := { s.nv with
        cmds := tset s.nv.cmds s.nv.nextTag { ctrl := c, sq := i, cid := sCid b, op := 0, bytes := b, vol := v, ranges := [] }
        nextTag := s.nv.nextTag + 1 } } i { q with wait := none } := by
  have hmem : sField b 0 1 ∈ [0x00, 0x01, 0x02, 0x08, 0x09] := by rw [hop]; decide
  unfold ioFetched
  rw [ioChecks_flush hmem hfuse hvol hop]
  dsimp only
  rw [if_neg (by simpa using hlocks), if_neg (not_not.mpr rfl), hop, hvol, if_neg (fun h => absurd h.1 (by decide))]
  unfold modNvQ
  dsimp only
  rw [hq]

theorem flush_fetched {c : Fin 256} {sq i v r : Nat} {q : NvQ} {b : List Byte} {s : State}
    (hexec : exec (.nvmeCommandFetch c sq) s = .next (ioFetched s c i b)) (hop : sField b 0 1 = 0) (hfuse : sField b 1 1 = 0)
    (hvol : volOf s c (sNsid b) = some (v, r)) (hlocks : rlockUsed s ≤ 16384) (hq : tget s.nv.qs i = some q) :
    Completes (.nvmeCommandFetch c sq) s (fun t =>
      tget t.nv.cmds s.nv.nextTag = some { ctrl := c, sq := i, cid := sCid b, op := 0, bytes := b, vol := v, ranges := [] } ∧
      t.nv.nextTag = s.nv.nextTag + 1 ∧ tget t.nv.qs i = some { q with wait := none } ∧ t.dict = s.dict ∧ t.mem = s.mem ∧
      t.hmem = s.hmem ∧ t.host = s.host) := by
  rw [ioFetched_flush hop hfuse hvol hlocks hq] at hexec
  exact ⟨_, hexec, tget_tset_same _ _ _, rfl, tget_tset_same _ _ _, rfl, rfl, rfl, rfl⟩

theorem qePick_nv {s s1 : State} {c k : Nat} (h : qePick s = some (c, k, s1)) : s1.nv = s.nv := by
  unfold qePick at h
  dsimp only at h
  split at h
  · exact nomatch h
  · split at h
    · exact nomatch h
    · cases h
      rfl

theorem qeSettle_nv (s : State) (c k : Nat) (empty : Bool) : (qeSettle s c k empty).nv = s.nv := by
  unfold qeSettle endCliVisit
  dsimp only
  split <;> split <;> rfl

/-- An admin command is fetched: the command is the entry of its queue, whose head moves on. -/
theorem exec_nvmeCommandFetch_admin {c : Fin 256} {i : Nat} {q : NvQ} {s s1 s2 : State} {cl : Nat}
    (hfind : nvFind s c true 0 = some (i, q)) (hwait : q.wait = none) (hpick : qePick s = some (cl, sqKey q, s1))
    (hstop : s.err.failStop = false) (hturn : readTurn s1 (nvFn s c) = some s2)
    (hop : sField (memReadN s.hmem (q.base + 64 * q.head) 64) 0 1 ∈ adminOps) :
    ∃ u e, exec (.nvmeCommandFetch c 0) s =
        .next (qeSettle (setNvQ u i { q with head := (q.head + 1) % max 1 q.size
                                             entry := some (memReadN s.hmem (q.base + 64 * q.head) 64) }) cl (sqKey q) e) ∧
      (∀ j, j ≠ i → tget u.nv.qs j = tget s.nv.qs j) ∧ u.nv.cmds = s.nv.cmds ∧ u.dict = s.dict ∧ u.mem = s.mem ∧ u.hmem = s.hmem := by
  obtain ⟨-, hdict, -, hmem, hhmem⟩ := qePick_keeps hpick
  have hnv := qePick_nv hpick
  obtain ⟨-, -, -, hqid⟩ := nvFind_spec hfind
  have hread : OnlyHost s1 (hostRead s2 (nvFn s c) (q.base + 64 * q.head) 64).2 :=
    (onlyHost_readTurn hturn).trans (onlyHost_hostRead _ _ _ _)
  have hbytes : (hostRead s2 (nvFn s c) (q.base + 64 * q.head) 64).1 = memReadN s.hmem (q.base + 64 * q.head) 64 := by
    have hsame : s2.hmem = s1.hmem := by
      obtain ⟨_, rfl⟩ := onlyHost_readTurn hturn
      rfl
    exact congrArg (fun m => memReadN m (q.base + 64 * q.head) 64) (hsame.trans hhmem)
  have hgo : ¬(sqKey q ≠ sqKey q ∨ s.err.failStop = true ∨ (readTurn s1 (nvFn s c)).isNone = true) := by
    rw [hstop, hturn]
    simp
  obtain ⟨h, hstate⟩ := hread
  refine ⟨setNvQ (hostRead s2 (nvFn s c) (q.base + 64 * q.head) 64).2 i { q with head := (q.head + 1) % max 1 q.size },
    decide ((q.head + 1) % max 1 q.size = q.tail), ?_, ?_⟩
  · show execNvmeCommandFetch c 0 s = _
    unfold execNvmeCommandFetch
    rw [hfind]
    dsimp only
    rw [hwait]
    dsimp only
    rw [hpick]
    refine congrArg Host.Outcome.next ((if_neg hgo).trans ?_)
    rw [hturn, Option.getD_some, if_neg (not_not.mpr hqid), hbytes, if_pos (List.contains_iff_mem.mpr hop)]
  · rw [hstate]
    exact ⟨fun j hj => (tget_tset_other _ _ _ _ hj).trans (congrArg (fun n : NvState => tget n.qs j) hnv), (congrArg NvState.cmds hnv :), hdict,
      hmem, hhmem⟩

theorem admin_fetched {c : Fin 256} {i : Nat} {q : NvQ} {s s1 s2 : State} {cl : Nat}
    (hfind : nvFind s c true 0 = some (i, q)) (hwait : q.wait = none) (hpick : qePick s = some (cl, sqKey q, s1))
    (hstop : s.err.failStop = false) (hturn : readTurn s1 (nvFn s c) = some s2)
    (hop : sField (memReadN s.hmem (q.base + 64 * q.head) 64) 0 1 ∈ adminOps) :
    Completes (.nvmeCommandFetch c 0) s (fun t => tget t.nv.qs i = some { q with
        head := (q.head + 1) % max 1 q.size, entry := some (memReadN s.hmem (q.base + 64 * q.head) 64) } ∧
      (∀ j, j ≠ i → tget t.nv.qs j = tget s.nv.qs j) ∧ t.nv.cmds = s.nv.cmds ∧ t.dict = s.dict ∧ t.mem = s.mem ∧ t.hmem = s.hmem) := by
  obtain ⟨u, e, hexec, hother, hcmds, hdict, hmem, hhmem⟩ := exec_nvmeCommandFetch_admin hfind hwait hpick hstop hturn hop
  refine ⟨_, hexec, ?_⟩
  obtain ⟨-, hdict', hmem', hhmem'⟩ := qeSettle_keeps (setNvQ u i { q with
    head := (q.head + 1) % max 1 q.size
    entry := some (memReadN s.hmem (q.base + 64 * q.head) 64) }) cl (sqKey q) e
  rw [qeSettle_nv, hdict', hmem', hhmem']
  exact ⟨tget_tset_same _ _ _, fun j hj => (tget_tset_other _ _ _ _ hj).trans (hother j hj), hcmds, hdict, hmem, hhmem⟩
/-! ### I/O commands are made ready (R335, R337-R340) -/

theorem ioRow_at {s : State} {c tag op : Nat} {m : NvCmd} (h : IoAt s c tag op m) (run : NvCmd → Nat → State) :
    ioRow s c tag op run = run m (volRec s m.vol) := by
  obtain ⟨hm, hctrl, hop, hready, hcpl, hstop⟩ := h
  have hgo : ¬(m.ctrl ≠ c ∨ m.op ≠ op ∨ m.ready = true ∨ m.cpl.isSome = true ∨ s.err.failStop = true) := by
    rw [hready, hcpl, hstop]
    simp [hctrl, hop]
  unfold ioRow
  rw [hm]
  exact if_neg hgo

/-- The state in which only a command, and perhaps the host interface and memory, has changed. -/
theorem setCmd_others (s : State) (tag : Nat) (m : NvCmd) :
    tget (setCmd s tag m).nv.cmds tag = some m ∧ ∀ j, j ≠ tag → tget (setCmd s tag m).nv.cmds j = tget s.nv.cmds j :=
  ⟨tget_tset_same _ _ _, fun _ hj => tget_tset_other _ _ _ _ hj⟩

theorem exec_nvmeFlush_ready {c : Fin 256} {tag : Nat} {m : NvCmd} {s : State} (h : IoAt s c tag 0x00 m)
    (hfirst : ∀ p ∈ s.nv.cmds, p.1 < tag → p.2.vol = m.vol → writeClass p.2 = false) :
    exec (.nvmeFlush c tag) s = .next (setCmd s tag { m with ready := true }) := by
  have hno : ¬((s.nv.cmds.any fun p => decide (p.1 < tag) && decide (p.2.vol = m.vol) && writeClass p.2) = true) := by
    simp only [List.any_eq_true, Bool.and_eq_true, decide_eq_true_eq, not_exists, not_and]
    intro p hp hlt
    rw [hfirst p hp hlt.1 hlt.2]
    exact Bool.false_ne_true
  exact congrArg Host.Outcome.next ((ioRow_at h _).trans (if_neg hno))

/-- The buffers and keys do not depend on the host interface. -/
theorem allocBuf_onlyHost {s t : State} (h : OnlyHost s t) (n : Nat) : allocBuf t n = allocBuf s n := by
  obtain ⟨_, rfl⟩ := h
  rfl

theorem volKeyMat_onlyHost {s t : State} (h : OnlyHost s t) (r : Nat) : volKeyMat t r = volKeyMat s r := by
  obtain ⟨_, rfl⟩ := h
  rfl

theorem bufferWrite_eq {s : State} {r n a : Nat} {key : List Byte} (tag : Nat) (m : NvCmd) (data : List Byte)
    (hkey : volKeyMat s r = some key) (hbuf : allocBuf s (n * lbaSize r) = some a) : bufferWrite s tag m r data n =
      setCmd (writeInt s a (xtsRun Config.xtsEncrypt key (lbaSize r) (sField m.bytes 40 8) n data)) tag
        { m with ready := true, buffer := a, len := n * lbaSize r } := by
  unfold bufferWrite
  rw [hkey, hbuf]

/-- Data that go into a buffer make their command ready, and change memory alone besides. -/
theorem bufferWrite_ready {s t : State} {r n a : Nat} {key : List Byte} (tag : Nat) (m : NvCmd) (data : List Byte)
    (hhost : OnlyHost s t) (hkey : volKeyMat s r = some key) (hbuf : allocBuf s (n * lbaSize r) = some a) :
    tget (bufferWrite t tag m r data n).nv.cmds tag = some { m with ready := true, buffer := a, len := n * lbaSize r } ∧
      (∀ j, j ≠ tag → tget (bufferWrite t tag m r data n).nv.cmds j = tget s.nv.cmds j) ∧
      (bufferWrite t tag m r data n).dict = s.dict ∧ (bufferWrite t tag m r data n).hmem = s.hmem := by
  rw [bufferWrite_eq tag m data ((volKeyMat_onlyHost hhost r).trans hkey) ((allocBuf_onlyHost hhost _).trans hbuf)]
  obtain ⟨_, rfl⟩ := hhost
  exact ⟨tget_tset_same _ _ _, fun j hj => tget_tset_other _ _ _ _ hj, rfl, rfl⟩

section
variable {c : Fin 256} {tag : Nat} {m : NvCmd} {s : State}

theorem exec_nvmeWrite_badPrp (h : IoAt s c tag 0x01 m) : exec (.nvmeWrite c tag false) s = .next (nvFinish s tag nvDataTransfer 0) :=
  congrArg Host.Outcome.next (ioRow_at h _)

theorem exec_datasetManagement_badPrp (h : IoAt s c tag 0x09 m) :
    exec (.datasetManagement c tag false) s = .next (nvFinish s tag nvDataTransfer 0) := congrArg Host.Outcome.next (ioRow_at h _)

/-- A function that issues and is not held reaches host memory. -/
theorem host_reached {f : Nat} (hissues : fnIssues s f = true) (hheld : fnHeld s f = false) :
    ¬((!fnIssues s f || fnHeld s f) = true) := by
  rw [hissues, hheld]
  exact Bool.false_ne_true

/-- The data of a Write, read from the host by PRP. -/
def writeData (s : State) (c : Nat) (m : NvCmd) (r : Nat) : List Byte × State :=
  spanRead (prpSpans s (nvFn s c) m.bytes ((ioRange m.bytes).2 * lbaSize r)).2 (nvFn s c)
    (prpSpans s (nvFn s c) m.bytes ((ioRange m.bytes).2 * lbaSize r)).1

theorem nvFn_onlyHost {s t : State} (h : OnlyHost s t) (c : Nat) : nvFn t c = nvFn s c := by
  obtain ⟨_, rfl⟩ := h
  rfl

theorem onlyHost_writeData (s : State) (c : Nat) (m : NvCmd) (r : Nat) : OnlyHost s (writeData s c m r).2 :=
  (onlyHost_prpSpans _ _ _ _).trans (onlyHost_spanRead _ _ _)

theorem exec_nvmeWrite_read {s1 : State} (h : IoAt s c tag 0x01 m) (hissues : fnIssues s (nvFn s c) = true)
    (hheld : fnHeld s (nvFn s c) = false) (hturn : readTurn s (nvFn s c) = some s1) : exec (.nvmeWrite c tag true) s =
      .next (bufferWrite (writeData s1 c m (volRec s m.vol)).2 tag m (volRec s m.vol) (writeData s1 c m (volRec s m.vol)).1
        (ioRange m.bytes).2) := by
  refine congrArg Host.Outcome.next ((ioRow_at h _).trans ((if_neg Bool.false_ne_true).trans
    ((if_neg (host_reached hissues hheld)).trans ?_)))
  unfold writeData
  rw [withRead, if_pos rfl, hturn, nvFn_onlyHost (onlyHost_readTurn hturn)]

theorem exec_writeZeroes (h : IoAt s c tag 0x08 m) : exec (.writeZeroes c tag) s = .next (bufferWrite s tag m (volRec s m.vol)
    (List.replicate ((ioRange m.bytes).2 * lbaSize (volRec s m.vol)) 0) (ioRange m.bytes).2) :=
  congrArg Host.Outcome.next (ioRow_at h _)

/-- A Read with a key and a buffer is made ready in the state in which its spans have been read. -/
theorem exec_nvmeRead_ready {a : Nat} {key : List Byte} (h : IoAt s c tag 0x02 m) (hissues : fnIssues s (nvFn s c) = true)
    (hheld : fnHeld s (nvFn s c) = false) (hkey : volKeyMat s (volRec s m.vol) = some key)
    (hbuf : allocBuf s ((ioRange m.bytes).2 * lbaSize (volRec s m.vol)) = some a)
    (hturn : prpReads m.bytes ((ioRange m.bytes).2 * lbaSize (volRec s m.vol)) = false ∨ (readTurn s (nvFn s c)).isSome = true) :
    ∃ s1, OnlyHost s s1 ∧ (prpReads m.bytes ((ioRange m.bytes).2 * lbaSize (volRec s m.vol)) = false → s1 = s) ∧
      exec (.nvmeRead c tag true) s = .next (setCmd
        (prpSpans s1 (nvFn s c) m.bytes ((ioRange m.bytes).2 * lbaSize (volRec s m.vol))).2 tag { m with
          ready := true
          buffer := a
          len := (ioRange m.bytes).2 * lbaSize (volRec s m.vol)
          spans := (prpSpans s1 (nvFn s c) m.bytes ((ioRange m.bytes).2 * lbaSize (volRec s m.vol))).1 }) := by
  have hreached := host_reached hissues hheld
  have hrun : ∃ s1, OnlyHost s s1 ∧ (prpReads m.bytes ((ioRange m.bytes).2 * lbaSize (volRec s m.vol)) = false → s1 = s) ∧
      ∀ run, withRead s (nvFn s c) (prpReads m.bytes ((ioRange m.bytes).2 * lbaSize (volRec s m.vol))) run = run s1 := by
    cases hreads : prpReads m.bytes ((ioRange m.bytes).2 * lbaSize (volRec s m.vol)) with
    | false => exact ⟨s, .refl s, fun _ => rfl, fun _ => if_neg Bool.false_ne_true⟩
    | true =>
      obtain ⟨s1, hs1⟩ := Option.isSome_iff_exists.mp (hturn.resolve_left (by rw [hreads]; exact nofun))
      exact ⟨s1, onlyHost_readTurn hs1, nofun, fun run => by rw [withRead, if_pos rfl, hs1]⟩
  obtain ⟨s1, hhost, hsame, hrun⟩ := hrun
  refine ⟨s1, hhost, hsame, congrArg Host.Outcome.next ((ioRow_at h _).trans ((if_neg Bool.false_ne_true).trans
    ((if_neg hreached).trans ((hrun _).trans ?_))))⟩
  extract_lets n sp
  have hbuf' : allocBuf sp.2 n = some a := (allocBuf_onlyHost (hhost.trans (onlyHost_prpSpans _ _ _ _)) _).trans hbuf
  rw [hkey, hbuf']

theorem read_ready {a : Nat} {key : List Byte} (h : IoAt s c tag 0x02 m) (hissues : fnIssues s (nvFn s c) = true)
    (hheld : fnHeld s (nvFn s c) = false) (hkey : volKeyMat s (volRec s m.vol) = some key)
    (hbuf : allocBuf s ((ioRange m.bytes).2 * lbaSize (volRec s m.vol)) = some a)
    (hturn : prpReads m.bytes ((ioRange m.bytes).2 * lbaSize (volRec s m.vol)) = false ∨ (readTurn s (nvFn s c)).isSome = true) :
    Completes (.nvmeRead c tag true) s (fun t => (∃ sp, tget t.nv.cmds tag = some { m with
        ready := true, buffer := a, len := (ioRange m.bytes).2 * lbaSize (volRec s m.vol), spans := sp } ∧
        (prpReads m.bytes ((ioRange m.bytes).2 * lbaSize (volRec s m.vol)) = false →
          sp = (prpSpans s (nvFn s c) m.bytes ((ioRange m.bytes).2 * lbaSize (volRec s m.vol))).1)) ∧
      (∀ j, j ≠ tag → tget t.nv.cmds j = tget s.nv.cmds j) ∧ t.dict = s.dict ∧ t.mem = s.mem ∧ t.hmem = s.hmem) := by
  obtain ⟨s1, hhost, hsame, hexec⟩ := exec_nvmeRead_ready h hissues hheld hkey hbuf hturn
  have hspans := hhost.trans (onlyHost_prpSpans s1 (nvFn s c) m.bytes ((ioRange m.bytes).2 * lbaSize (volRec s m.vol)))
  refine ⟨_, hexec, ⟨_, tget_tset_same _ _ _, fun hreads => by rw [hsame hreads]⟩, ?_⟩
  obtain ⟨_, hspans⟩ := hspans
  rw [hspans]
  exact ⟨fun j hj => tget_tset_other _ _ _ _ hj, rfl, rfl, rfl⟩

theorem exec_datasetManagement_ring (h : IoAt s c tag 0x09 m) (hback : volBackend (volRec s m.vol) ≠ 1) :
    exec (.datasetManagement c tag true) s = .next (setCmd s tag { m with ready := true }) :=
  congrArg Host.Outcome.next ((ioRow_at h _).trans ((if_neg Bool.false_ne_true).trans (if_pos hback)))

theorem exec_datasetManagement_ssd {a : Nat} (h : IoAt s c tag 0x09 m) (hback : volBackend (volRec s m.vol) = 1)
    (hbuf : allocBuf s (16 * m.ranges.length) = some a) : exec (.datasetManagement c tag true) s =
      .next (setCmd (writeInt s a (dsmList (volRec s m.vol) m.ranges)) tag
        { m with ready := true, buffer := a, len := 16 * m.ranges.length }) := by
  refine congrArg Host.Outcome.next ((ioRow_at h _).trans ((if_neg Bool.false_ne_true).trans ((if_neg (not_not.mpr hback)).trans ?_)))
  rw [hbuf]

end

/-! ### Backends (R339, R345-R347) -/

theorem nvMayStart_iff (s : State) (tag : Nat) (m : NvCmd) : nvMayStart s tag m = true ↔ ∀ p ∈ s.nv.cmds, p.1 < tag → p.2.vol = m.vol →
    writeClass p.2 = true ∨ writeClass m = true → lbasMeet p.2.ranges m.ranges = false := by
  simp only [nvMayStart, Bool.not_eq_true', List.any_eq_false, Bool.and_eq_true, Bool.or_eq_true, decide_eq_true_eq, not_and,
    Bool.not_eq_true, and_imp]

section
variable {tag : Nat} {m : NvCmd} {s : State} (hm : tget s.nv.cmds tag = some m)
include hm

theorem exec_nvmeBackendStart_ssd {d : Ssd} (hready : m.ready = true) (hnew : m.started = false) (hcpl : m.cpl = none)
    (hmay : nvMayStart s tag m = true) (hstop : s.err.failStop = false) (hback : volBackend (volRec s m.vol) ≠ 2)
    (hssd : tget s.nv.ssds (volWhere (volRec s m.vol)) = some d) (hpairs : d.pairs ≠ 0)
    (hopen : pairOpen s (volWhere (volRec s m.vol)) (m.ctrl % d.pairs) < pairDepth d) :
    ∃ sent, exec (.nvmeBackendStart tag) s = .next { setCmd s tag { m with started := true, pair := m.ctrl % d.pairs, left := 1 } with
      nv := { (setCmd s tag { m with started := true, pair := m.ctrl % d.pairs, left := 1 }).nv with
        sent := (volWhere (volRec s m.vol), ssdCommand tag m (volRec s m.vol)) :: sent } } := by
  have hgo : ¬((!m.ready || m.started || m.cpl.isSome || !nvMayStart s tag m || s.err.failStop) = true) := by
    rw [hready, hnew, hcpl, hmay, hstop]
    decide
  refine ⟨s.nv.sent.take 7, ?_⟩
  show execNvmeBackendStart tag s = _
  unfold execNvmeBackendStart
  rw [hm]
  refine congrArg Host.Outcome.next ((if_neg hgo).trans ((if_neg hback).trans ?_))
  rw [hssd]
  exact if_neg (not_or.mpr ⟨hpairs, Nat.not_le.mpr hopen⟩)

theorem exec_backendResponse_ssd {st : U16} (data : List Byte) (hstarted : m.started = true) (hcpl : m.cpl = none)
    (hback : volBackend (volRec s m.vol) ≠ 2) (hop : m.op ≠ 2) :
    exec (.backendResponse tag st data) s = .next (nvAnswered s tag m (ssdStatus st.toNat)) := by
  have hgo : ¬((!m.started || m.cpl.isSome) = true) := by
    rw [hstarted, hcpl]
    decide
  show execBackendResponse tag st data s = _
  unfold execBackendResponse
  rw [hm]
  refine congrArg Host.Outcome.next ((if_neg hgo).trans ((if_neg hback).trans ?_))
  rw [if_neg hop]

omit hm in
/-- A command that is neither a Read nor a Write ends with its last answer. -/
theorem nvAnswered_last (st : Nat) (hread : m.op ≠ 2) (hwrite : m.op ≠ 1) (hleft : m.left ≤ 1) :
    nvAnswered s tag m st = nvFinish s tag st 0 := by
  unfold nvAnswered
  dsimp only
  rw [if_neg (by omega), if_neg (fun h => hread h.2), if_neg (fun h => hwrite h.2)]

theorem exec_rlockWaitLimit_waits (hnew : m.started = false) (hcpl : m.cpl = none) (hmay : nvMayStart s tag m = false) :
    exec (.rlockWaitLimit tag) s = .next (nvFinish (count s (okey 0x6040 3)) tag nvInterrupted 0) := by
  have hgo : ¬((m.started || m.cpl.isSome || nvMayStart s tag m) = true) := by
    rw [hnew, hcpl, hmay]
    decide
  show execRlockWaitLimit tag s = _
  unfold execRlockWaitLimit
  rw [hm]
  exact congrArg Host.Outcome.next (if_neg hgo)

theorem exec_nvmeBackendTimeout_started (hstarted : m.started = true) (hcpl : m.cpl = none) :
    exec (.nvmeBackendTimeout tag) s = .next (nvFinish s tag nvTransport 0) := by
  have hgo : (m.started && decide (m.cpl = none)) = true := by
    rw [hstarted, hcpl]
    decide
  show execNvmeBackendTimeout tag s = _
  unfold execNvmeBackendTimeout
  rw [hm]
  exact congrArg Host.Outcome.next (if_pos hgo)

end

theorem nvmeIo : Claims.NvmeIo := by
  refine ⟨fun c sq i q b s hfind hwait hlive hstop => ?fetch,
    fun c i q s cl s1 s2 hfind hwait hpick hstop hturn hop => admin_fetched hfind hwait hpick hstop hturn hop,
    fun s c b hop => congrArg Prod.fst (ioChecks_badOpcode hop), fun s c b hop hfuse hvol => congrArg Prod.fst (ioChecks_noVolume hop hfuse hvol),
    fun s c b v r hop hfuse hvol hoptions hsize => ?range, fun c tag m s h hfirst => ?flush, fun c tag m s h => ?write,
    fun c tag m s a key h hissues hheld hkey hbuf hturn => read_ready h hissues hheld hkey hbuf hturn, fun c tag m s h => ?zeroes,
    fun s tag m r data n key a hkey hbuf => ?buffer, fun c tag m s h => ?dataset,
    fun tag m d s hm hready hnew hcpl hmay hstop hback hssd hpairs hopen => ?start,
    fun tag m st data s hm hstarted hcpl hback hop => ?answer, fun tag m s hm hnew hcpl hmay => ?interrupted,
    fun tag m s hm hstarted hcpl => ?timeout, nvMayStart_iff⟩
  case fetch =>
    have hexec := exec_nvmeCommandFetch_waiting hfind hwait hlive hstop
    exact ⟨hexec, fun v r hop hfuse hvol hlocks hq => flush_fetched hexec hop hfuse hvol hlocks hq⟩
  case range =>
    rw [ioChecks_read (by rw [hop]; decide) hfuse hvol hop hoptions hsize]
    split
    next h => exact ⟨fun _ => h, fun _ => rfl⟩
    next h => exact ⟨fun h0 => absurd h0 (by decide), fun h' => absurd h' h⟩
  case flush =>
    obtain ⟨hset, hother⟩ := setCmd_others s tag { m with ready := true }
    exact ⟨_, exec_nvmeFlush_ready h hfirst, hset, hother, rfl, rfl, rfl⟩
  case write =>
    have ⟨hm, _⟩ := h
    refine ⟨exec_nvmeWrite_badPrp h, fun hroom => ⟨_, exec_nvmeWrite_badPrp h, nvFinish_ended _ _ hm hroom⟩,
      fun hissues hheld s1 key a hturn => ⟨?_, fun hkey hbuf => ⟨_, exec_nvmeWrite_read h hissues hheld hturn, ?_⟩⟩⟩
    · rintro sp d rfl rfl
      have hexec := exec_nvmeWrite_read h hissues hheld hturn
      rw [writeData, nvFn_onlyHost (onlyHost_readTurn hturn)] at hexec
      exact hexec
    · exact bufferWrite_ready tag m _ ((onlyHost_readTurn hturn).trans (onlyHost_writeData s1 c m _)) hkey hbuf
  case zeroes =>
    exact ⟨exec_writeZeroes h, fun key a hkey hbuf => ⟨_, exec_writeZeroes h, bufferWrite_ready tag m _ (.refl s) hkey hbuf⟩⟩
  case buffer =>
    rw [bufferWrite_eq tag m data hkey hbuf]
    exact ⟨rfl, tget_tset_same _ _ _⟩
  case dataset =>
    refine ⟨exec_datasetManagement_badPrp h, fun hback => ?_, fun a hback hbuf => ?_⟩
    · obtain ⟨hset, hother⟩ := setCmd_others s tag { m with ready := true }
      exact ⟨_, exec_datasetManagement_ring h hback, hset, hother, rfl, rfl, rfl⟩
    · obtain ⟨hset, hother⟩ := setCmd_others (writeInt s a (dsmList (volRec s m.vol) m.ranges)) tag
        { m with ready := true, buffer := a, len := 16 * m.ranges.length }
      exact ⟨_, exec_datasetManagement_ssd h hback hbuf, hset, hother, rfl, rfl, rfl⟩
  case start =>
    obtain ⟨sent, hexec⟩ := exec_nvmeBackendStart_ssd hm hready hnew hcpl hmay hstop hback hssd hpairs hopen
    obtain ⟨hset, hother⟩ := setCmd_others s tag { m with started := true, pair := m.ctrl % d.pairs, left := 1 }
    exact ⟨_, hexec, hset, ⟨_, rfl⟩, hother, rfl, rfl, rfl⟩
  case answer =>
    have hexec := exec_backendResponse_ssd hm (st := st) data hstarted hcpl hback hop
    refine ⟨hexec, fun hwrite hleft hroom => ?_⟩
    obtain ⟨hended, -⟩ := nvFinish_ended (ssdStatus st.toNat) 0 hm hroom
    rw [nvAnswered_last _ hop hwrite hleft] at hexec
    exact ⟨_, hexec, hended⟩
  case interrupted =>
    have hexec := exec_rlockWaitLimit_waits hm hnew hcpl hmay
    exact ⟨hexec, fun hroom => ⟨_, hexec, nvFinish_ended (s := count s (okey 0x6040 3)) _ _ hm hroom⟩⟩
  case timeout =>
    have hexec := exec_nvmeBackendTimeout_started hm hstarted hcpl
    exact ⟨hexec, fun hroom => ⟨_, hexec, nvFinish_ended _ _ hm hroom⟩⟩

/-- Settles O41: a command that reads host memory changes the host interface alone until it is made ready, and one whose result has room
ends (`nvFinish_ended`). -/
theorem storageCommands : Obligations.StorageCommands := nvmeIo

end Sys2Proof.Machine

end

section
/-! NVMe: controllers, doorbells, power states, freezes (R331-R348) -/

namespace Sys2Proof.Machine

/-! ### Controllers are created, freed, reset (R333, R348) -/

theorem tenErrLeave_nv (s : State) (o : Handle) (unit resource : Nat) : (tenErrLeave s o unit resource).nv = s.nv := by
  unfold tenErrLeave modTen
  split
  · rfl
  · split <;> rfl

theorem endObj_nv (s : State) (kind i : Nat) : (endObj s kind i).nv = s.nv := by
  have hsub : ∀ o : Handle, (subUsage s o kind).nv = s.nv := by
    intro o
    unfold subUsage
    split <;> rfl
  unfold endObj
  dsimp only
  split
  · unfold modTen
    split <;> exact hsub _
  · exact hsub _

theorem freeContext_nv (s : State) (i : Nat) (bump : Bool) : (freeContext s i bump).nv = s.nv := by
  unfold freeContext
  rw [endObj_nv]
  split <;> rfl

theorem dropNvQ_nv (s : State) (i : Nat) (bump : Bool) :
    (dropNvQ s i bump).nv.ctrls = s.nv.ctrls ∧ (dropNvQ s i bump).nv.cmds = s.nv.cmds := by
  unfold dropNvQ
  split
  · exact ⟨rfl, rfl⟩
  · dsimp only
    rw [freeContext_nv, tenErrLeave_nv]
    exact ⟨rfl, rfl⟩

/-- A controller after its reset, its registers reset too where `regs`. -/
def resetCtrl (x : NvCtrl) (regs : Bool) : NvCtrl where
  fn := x.fn
  maxQ := x.maxQ
  owner := x.owner
  cc := if regs then 0 else x.cc &&& 0xFFFFFFFE#32
  intms := 0
  aqa := if regs then 0 else x.aqa
  asqLo := if regs then 0 else x.asqLo
  asqHi := if regs then 0 else x.asqHi
  acqLo := if regs then 0 else x.acqLo
  acqHi := if regs then 0 else x.acqHi
  errCount := x.errCount
  reads := x.reads
  writes := x.writes

theorem nvReset_ctrls {s : State} {c : Nat} {x : NvCtrl} (regs : Bool) (hx : nvCtrl s c = some x) :
    nvCtrl (nvReset s c regs) c = some (resetCtrl x regs) ∧ (∀ d, d ≠ c → nvCtrl (nvReset s c regs) d = nvCtrl s d) ∧
      ∀ m ∈ (nvReset s c regs).nv.cmds, m.2.ctrl ≠ c := by
  have hdrop : ∀ l : List Nat, (l.foldl (fun a i => dropNvQ a i true) s).nv.ctrls = s.nv.ctrls := fun l =>
    foldl_keeps (fun u : State => u.nv.ctrls) (f := fun a i => dropNvQ a i true) (fun u i => (dropNvQ_nv u i true).left) l s
  have hleave : ∀ (l : List (Nat × NvQ)) (u : State),
      (l.foldl (fun a p => tenErrLeave a x.owner nvUnit p.1) u).nv.ctrls = u.nv.ctrls := fun l u =>
    foldl_keeps (fun u : State => u.nv.ctrls) (f := fun a (p : Nat × NvQ) => tenErrLeave a x.owner nvUnit p.1)
      (fun u p => congrArg NvState.ctrls (tenErrLeave_nv u x.owner nvUnit p.1)) l u
  unfold nvReset
  rw [hx]
  refine ⟨tget_tset_same _ _ _, fun d hd => (tget_tset_other _ _ _ _ hd).trans
    (congrArg (fun l => tget l d) ((hleave _ _).trans (hdrop _))), fun m hm => ?_⟩
  exact of_decide_eq_true (List.mem_filter.mp hm).right

theorem freeCtrl_ctrls (s : State) (c : Nat) (h : Handle) (bump : Bool) :
    nvCtrl (freeCtrl s c h bump) c = none ∧ ∀ d, d ≠ c → nvCtrl (freeCtrl s c h bump) d = nvCtrl s d := by
  have hdrop : ∀ (l : List (Nat × NvQ)) (u : State), (l.foldl (fun a p => dropNvQ a p.1 bump) u).nv.ctrls = u.nv.ctrls := fun l u =>
    foldl_keeps (fun u : State => u.nv.ctrls) (f := fun a (p : Nat × NvQ) => dropNvQ a p.1 bump)
      (fun u p => (dropNvQ_nv u p.1 bump).left) l u
  have hvols : ∀ (l : List (Nat × Nat)) (u : State), (l.foldl (fun a p =>
      if volCtrl p.2 = h then setNum a (volKey p.1) (recSet 48 4 4 p.2 0) else a) u).nv.ctrls = u.nv.ctrls := fun l u =>
    foldl_keeps (fun u : State => u.nv.ctrls)
      (f := fun a (p : Nat × Nat) => if volCtrl p.2 = h then setNum a (volKey p.1) (recSet 48 4 4 p.2 0) else a)
      (fun u p => by split <;> rfl) l u
  cases hx : nvCtrl s c with
  | none =>
    have hsame : freeCtrl s c h bump = s := by rw [freeCtrl, hx]
    rw [hsame]
    exact ⟨hx, fun _ _ => rfl⟩
  | some x =>
    have hctrls : (freeCtrl s c h bump).nv.ctrls = terase (nvReset s c true).nv.ctrls c := by
      unfold freeCtrl
      rw [hx]
      exact (congrArg NvState.ctrls (endObj_nv _ 4 c)).trans (congrArg (fun l => terase l c) ((hvols _ _).trans (hdrop _ _)))
    obtain ⟨-, hother, -⟩ := nvReset_ctrls true hx
    refine ⟨(congrArg (fun l => tget l c) hctrls).trans (tget_terase_same _ _), fun d hd => ?_⟩
    exact ((congrArg (fun l => tget l d) hctrls).trans (tget_terase_other _ _ _ hd)).trans (hother d hd)

/-- A new queue changes no controller and no command, and the owner of its context alone. -/
theorem nvNewQ_keeps (s : State) (x : NvCtrl) (q : NvQ) :
    ((nvNewQ s x q).getD s).nv.ctrls = s.nv.ctrls ∧ ((nvNewQ s x q).getD s).nv.cmds = s.nv.cmds ∧
      ((nvNewQ s x q).getD s).dict.gens = s.dict.gens ∧
      ∀ k i, ownerOf s k i = some x.owner → ownerOf ((nvNewQ s x q).getD s) k i = some x.owner := by
  unfold nvNewQ
  split
  · exact ⟨rfl, rfl, rfl, fun _ _ h => h⟩
  · split
    · exact ⟨rfl, rfl, rfl, fun _ _ h => h⟩
    next n s1 halloc =>
      obtain ⟨fresh, freed, rfl⟩ := allocIndex_state halloc
      have howner : ∀ k i, ownerOf s k i = some x.owner → tget (tset s.dict.owners (2 * 65536 + n) x.owner) (k * 65536 + i) = some x.owner := by
        intro k i h
        by_cases hk : k * 65536 + i = 2 * 65536 + n
        · rw [hk, tget_tset_same]
        · exact (tget_tset_other _ _ _ _ hk).trans h
      unfold addUsage
      split <;> exact ⟨rfl, rfl, rfl, howner⟩

/-- The controller that a create record describes. -/
def createdCtrl (r : Rec 8) : NvCtrl := { fn := ncFn r.toNat, maxQ := recField 8 2 1 r.toNat, owner := ncOwner r.toNat }

/-- A created controller before its admin queues are. -/
def ctrlEntered (s : State) (c : Nat) (r : Rec 8) : State :=
  setNv (addUsage (setOwner s 4 c (ncOwner r.toNat)) (ncOwner r.toNat) 4) c (createdCtrl r)

theorem ctrlEntered_keeps {s s1 : State} {c : Nat} (r : Rec 8) (halloc : allocIndex s 4 = some (c, s1)) :
    (ctrlEntered s1 c r).nv = (setNv s c (createdCtrl r)).nv ∧ (ctrlEntered s1 c r).dict.gens = s.dict.gens ∧
      ownerOf (ctrlEntered s1 c r) 4 c = some (ncOwner r.toNat) := by
  obtain ⟨fresh, freed, rfl⟩ := allocIndex_state halloc
  unfold ctrlEntered addUsage
  split <;> exact ⟨rfl, rfl, tget_tset_same _ _ _⟩

/-- The two admin queues of a created controller. -/
def adminQueues (s : State) (c : Nat) (x : NvCtrl) : State :=
  let s1 := (nvNewQ s x { ctrl := c, sq := true, qid := 0, base := 0, size := 0 }).getD s
  (nvNewQ s1 x { ctrl := c, sq := false, qid := 0, base := 0, size := 0 }).getD s1

theorem nvmeCtrlCreate_effect {s s1 : State} {c : Nat} (who : Who) (r : Rec 8) (halloc : allocIndex s 4 = some (c, s1)) :
    (nvmeCtrlCreateOp who r).effect s = (adminQueues (ctrlEntered s1 c r) c (createdCtrl r),
      beBytes 4 (handleOf (adminQueues (ctrlEntered s1 c r) c (createdCtrl r)) 4 c).toNat) := by
  show (match allocIndex s 4 with | none => _ | some (c, s1) => _) = _
  rw [halloc]
  rfl

theorem adminQueues_keeps (s : State) (c : Nat) (x : NvCtrl) :
    (adminQueues s c x).nv.ctrls = s.nv.ctrls ∧ (adminQueues s c x).nv.cmds = s.nv.cmds ∧ (adminQueues s c x).dict.gens = s.dict.gens ∧
      ∀ k i, ownerOf s k i = some x.owner → ownerOf (adminQueues s c x) k i = some x.owner := by
  obtain ⟨hctrls, hcmds, hgens, howner⟩ := nvNewQ_keeps s x { ctrl := c, sq := true, qid := 0, base := 0, size := 0 }
  obtain ⟨hctrls', hcmds', hgens', howner'⟩ := nvNewQ_keeps ((nvNewQ s x { ctrl := c, sq := true, qid := 0, base := 0, size := 0 }).getD s) x
    { ctrl := c, sq := false, qid := 0, base := 0, size := 0 }
  exact ⟨hctrls'.trans hctrls, hcmds'.trans hcmds, hgens'.trans hgens, fun k i h => howner' k i (howner k i h)⟩

theorem nvmeCtrlCreate_free {who : Who} {r : Rec 8} {s : State} (h : (nvmeCtrlCreateOp who r).status s = .ok) :
    (allocIndex s 4).isSome = true := by
  obtain ⟨-, hlast⟩ := (firstStatus_append_iff _ _).mp h
  obtain ⟨-, hlast⟩ := (firstStatus_cons_iff (by decide) _ _).mp hlast
  obtain ⟨hfree, -⟩ := (firstStatus_cons_iff (by decide) _ _).mp hlast
  simp only [Bool.or_eq_false_iff, Bool.not_eq_false'] at hfree
  obtain ⟨⟨⟨_, hfree⟩, _⟩, _⟩ := hfree
  exact hfree

theorem nvmeCtrlCreate_completes {who : Who} {r : Rec 8} {s : State} (hglen : glenServes s = true)
    (hok : (nvmeCtrlCreateOp who r).status s = .ok) : Completes (.nvmeCtrlCreate who r) s (fun t => ∃ c,
      (allocIndex s 4).map (·.1) = some c ∧ nvCtrl t c = some (createdCtrl r) ∧ (∀ d, d ≠ c → nvCtrl t d = nvCtrl s d) ∧
      t.nv.cmds = s.nv.cmds ∧ ownerOf t 4 c = some (ncOwner r.toNat) ∧ t.mem = s.mem ∧
      t.resp = { status := .ok, payload := beBytes 4 (handleOf s 4 c).toNat }) := by
  obtain ⟨⟨c, s1⟩, halloc⟩ := Option.isSome_iff_exists.mp (nvmeCtrlCreate_free hok)
  have hrun : exec (.nvmeCtrlCreate who r) s = .next (respond ((nvmeCtrlCreateOp who r).effect s).1 .ok 0
      ((nvmeCtrlCreateOp who r).effect s).2) := congrArg Host.Outcome.next (runOp_ok _ s hglen hok)
  have hmem : ((nvmeCtrlCreateOp who r).effect s).1.mem = s.mem :=
    (mems_of_frame ((opFrame_nvmeCtrlCreateOp who r).effect s)).left
  rw [nvmeCtrlCreate_effect who r halloc] at hrun hmem
  obtain ⟨hnv, hgens, howner⟩ := ctrlEntered_keeps r halloc
  obtain ⟨hctrls, hcmds, hgens', howner'⟩ := adminQueues_keeps (ctrlEntered s1 c r) c (createdCtrl r)
  have htab : (adminQueues (ctrlEntered s1 c r) c (createdCtrl r)).nv.ctrls = tset s.nv.ctrls c (createdCtrl r) :=
    hctrls.trans (congrArg NvState.ctrls hnv)
  refine ⟨_, hrun, c, by rw [halloc]; rfl, ?_, fun d hd => ?_, hcmds.trans ((congrArg NvState.cmds hnv).trans rfl), howner' 4 c howner, hmem, ?_⟩
  · exact (congrArg (fun l => tget l c) htab).trans (tget_tset_same _ _ _)
  · exact (congrArg (fun l => tget l d) htab).trans (tget_tset_other _ _ _ _ hd)
  · rw [handleOf_of_gens (hgens'.trans hgens)]
    rfl
theorem nvmeCtrlDestroy_completes {who : Who} {h : Handle} {s : State} (hglen : glenServes s = true)
    (hok : (nvmeCtrlDestroyOp who h).status s = .ok) : Completes (.nvmeCtrlDestroy who h) s (fun t => nvCtrl t (hIdx h) = none ∧
      (∀ d, d ≠ hIdx h → nvCtrl t d = nvCtrl s d) ∧ t.mem = s.mem ∧ t.hmem = s.hmem ∧ t.resp = { status := .ok }) := by
  obtain ⟨hgone, hother⟩ := freeCtrl_ctrls (bumpGen s 4 (hIdx h)) (hIdx h) h true
  obtain ⟨hmem, hhmem⟩ := mems_of_frame ((opFrame_nvmeCtrlDestroyOp who h).effect s)
  exact ⟨_, congrArg Host.Outcome.next (runOp_ok _ s hglen hok), hgone, hother, hmem, hhmem, rfl⟩

theorem nvmeVolWrite_completes {who : Who} {v : Fin 4096} {r : Rec 48} {s : State} (hglen : glenServes s = true)
    (hok : (nvmeVolOp who v r).status s = .ok) : Completes (.nvmeVolWrite who v r) s (fun t => volRec t v = volIn r.toNat ∧
      (∀ j, j ≠ volKey v → numD t j 0 = numD s j 0) ∧ t.nv = s.nv ∧ t.mem = s.mem) := by
  refine ⟨_, congrArg Host.Outcome.next (runOp_ok _ s hglen hok), ?_, fun j hj => ?_, ?_, ?_⟩
  · exact (numD_persist _ _ _ _).trans (numD_setNum_same _ _ _ _)
  · exact (numD_persist _ _ _ _).trans (numD_setNum_other _ _ _ _ _ hj)
  · obtain ⟨ks, hks⟩ := persist_eq (setNum s (volKey v) (volIn r.toNat)) (volKey v)
    exact (congrArg State.nv hks).trans rfl
  · exact (mems_of_frame ((opFrame_nvmeVolOp who v r).effect s)).left

/-! ### CC.EN (R334) -/

/-- The state in which a controller has been enabled: it is ready, its admin queues as its registers name them. -/
def ctrlEnabled (s : State) (c : Nat) (x : NvCtrl) (cc : U32) : State :=
  { s with nv := { s.nv with
      ctrls := tset s.nv.ctrls c { x with cc := cc, rdy := true }
      qs := tmap s.nv.qs (fun _ q => if q.ctrl = c ∧ q.qid = 0 then adminQueue x q else q) } }

section
variable {c : Fin 256} {x : NvCtrl} {s : State} (hx : nvCtrl s c = some x)
include hx

omit hx in
theorem onlyCtrl_setNv (y : NvCtrl) : OnlyCtrl s (setNv s c y) c :=
  ⟨fun _ hd => nvCtrl_setNv_other _ _ hd, rfl, rfl, rfl, rfl, rfl, rfl⟩

section
variable {cc : U32} (hoff : nvEn x = false) (hserves : fnServes s x.fn = true) (hset : cc.getLsbD 0 = true)
include hoff hserves hset

theorem exec_ccEnSet_invalid (hbad : ccInvalid cc = true) : exec (.ccEnSet c cc) s = .next (setNv s c { x with cc := cc, cfs := true }) := by
  have hgo : ¬((nvEn x || !fnServes s x.fn || !cc.getLsbD 0) = true) := by
    rw [hoff, hserves, hset]
    decide
  show execCcEnSet c cc s = _
  unfold execCcEnSet
  rw [hx]
  exact congrArg Host.Outcome.next ((if_neg hgo).trans (if_pos hbad))

theorem exec_ccEnSet_valid (hgood : ccInvalid cc = false) : exec (.ccEnSet c cc) s = .next (ctrlEnabled s c x cc) := by
  have hgo : ¬((nvEn x || !fnServes s x.fn || !cc.getLsbD 0) = true) := by
    rw [hoff, hserves, hset]
    decide
  show execCcEnSet c cc s = _
  unfold execCcEnSet
  rw [hx]
  exact congrArg Host.Outcome.next ((if_neg hgo).trans (if_neg (ne_true_of_eq_false hgood)))

theorem ccEnSet_valid (hgood : ccInvalid cc = false) : Completes (.ccEnSet c cc) s (fun t => nvCtrl t c = some { x with cc := cc, rdy := true } ∧
    (∀ d, d ≠ c.val → nvCtrl t d = nvCtrl s d) ∧ (∀ i q, tget s.nv.qs i = some q → q.ctrl ≠ c.val ∨ q.qid ≠ 0 → tget t.nv.qs i = some q) ∧
    (∀ i q, tget s.nv.qs i = some q → q.ctrl = c.val → q.qid = 0 → tget t.nv.qs i = some (adminQueue x q)) ∧
    t.dict = s.dict ∧ t.mem = s.mem ∧ t.host = s.host) := by
  have hqs : ∀ i q, tget s.nv.qs i = some q → tget (ctrlEnabled s c x cc).nv.qs i =
      some (if q.ctrl = c.val ∧ q.qid = 0 then adminQueue x q else q) := by
    intro i q hq
    rw [ctrlEnabled, tget_tmap, hq]
    rfl
  refine ⟨_, exec_ccEnSet_valid hx hoff hserves hset hgood, tget_tset_same _ _ _, fun d hd => tget_tset_other _ _ _ _ hd,
    fun i q hq hne => ?_, fun i q hq hctrl hqid => ?_, rfl, rfl, rfl⟩
  · exact (hqs i q hq).trans (congrArg some (if_neg (by omega)))
  · exact (hqs i q hq).trans (congrArg some (if_pos ⟨hctrl, hqid⟩))

end

theorem exec_ccEnClear_enabled (hon : nvEn x = true) (hserves : fnServes s x.fn = true) : exec (.ccEnClear c) s = .next (nvReset s c false) := by
  show execCcEnClear c s = _
  unfold execCcEnClear
  rw [hx]
  exact congrArg Host.Outcome.next (if_pos (Bool.and_eq_true_iff.mpr ⟨hon, hserves⟩))

omit hx in
/-- A reset that keeps the registers disables the controller. -/
theorem nvEn_resetCtrl (x : NvCtrl) : nvEn (resetCtrl x false) = false := by
  show ((x.cc &&& 0xFFFFFFFE#32).getLsbD 0) = false
  rw [BitVec.getLsbD_and, show (0xFFFFFFFE#32).getLsbD 0 = false by decide, Bool.and_false]

theorem ccEnClear_resets (hon : nvEn x = true) (hserves : fnServes s x.fn = true) :
    Completes (.ccEnClear c) s (fun t => (nvCtrl t c).map nvEn = some false ∧ (nvCtrl t c).map (·.rdy) = some false ∧
      (∀ m ∈ t.nv.cmds, m.2.ctrl ≠ c.val) ∧ (∀ d, d ≠ c.val → nvCtrl t d = nvCtrl s d) ∧ t.mem = s.mem ∧ t.hmem = s.hmem) := by
  obtain ⟨hself, hother, hcmds⟩ := nvReset_ctrls false hx
  refine ⟨_, exec_ccEnClear_enabled hx hon hserves, ?_, ?_, hcmds, hother, mems_of_frame (frame_nvReset _ _ _)⟩
  · rw [hself]
    exact congrArg some (nvEn_resetCtrl x)
  · rw [hself]
    rfl

/-! ### Power states (R341-R343) -/

theorem exec_autonomousPowerStateTransition {p : Fin 4} (hrdy : x.rdy = true) (hon : tgetD x.feats 0x0C 0 = 1) (hnone : x.psTo = none)
    (hidle : nvIdle s c = true) (hps : bitsOf (sField x.apst (8 * x.ps) 8) 3 5 = p.val)
    (htime : bitsOf (sField x.apst (8 * x.ps) 8) 8 24 ≠ 0) :
    exec (.autonomousPowerStateTransition c p) s = .next (setNv s c { x with psTo := some p.val }) := by
  show execAutonomousPowerStateTransition c p s = _
  unfold execAutonomousPowerStateTransition
  rw [hx]
  refine congrArg Host.Outcome.next (if_pos ?_)
  rw [hrdy, hon, hnone, hidle, hps, decide_eq_true htime, decide_eq_true (Eq.refl p.val)]
  rfl

theorem exec_powerStateTransitionDone {p : Nat} (hto : x.psTo = some p) : exec (.powerStateTransitionDone c) s =
    .next (setNv s c { x with ps := p, psTo := none, psOp := if p = 3 then x.psOp else p }) := by
  show execPowerStateTransitionDone c s = _
  unfold execPowerStateTransitionDone
  rw [hx]
  dsimp only
  rw [hto]

end

/-! ### SSDs (R345) -/

theorem ssdEnumerated_enters {p : Fin 8} (n : U32) (l : U8) (z : U64) (m : U16) (g : Nat) {s : State} (hodd : p.val % 2 = 1)
    (hlink : (tgetD s.saddle.ports p {}).link = true) (hstop : s.err.failStop = false) :
    Completes (.ssdEnumerated p n l z m g) s (fun t => ∃ d, tget t.nv.ssds p = some d ∧ d.pairs = min 8 g ∧ d.mqes = m.toNat ∧
      tget d.nss n.toNat = some (l.toNat, z.toNat) ∧ t.nv.ctrls = s.nv.ctrls ∧ t.nv.cmds = s.nv.cmds ∧ t.dict = s.dict ∧ t.mem = s.mem) := by
  have hgo : ¬(p.val % 2 = 0 ∨ ¬(tgetD s.saddle.ports p {}).link = true ∨ s.err.failStop = true) := by
    rw [hodd, hlink, hstop]
    decide
  exact ⟨_, congrArg Host.Outcome.next (if_neg hgo), _, tget_tset_same _ _ _, rfl, rfl, tget_tset_same _ _ _, rfl, rfl, rfl, rfl⟩
/-! ### Doorbells (R336, R342) -/

/-- A completion queue after its host has consumed the entries before `v`. -/
def cqMoved (q : NvQ) (v : U16) : NvQ :=
  { q with head := v.toNat, used := q.used - (v.toNat + q.size - q.head) % max 1 q.size }

section
variable {f : Fin 1028} {y c : Nat} {k : NvCtrl} {s : State} (hdoor : doorbellOf s f y = some (c, k))
include hdoor

/-- A doorbell's controller is there. -/
theorem doorbellOf_ctrl : nvCtrl s c = some k := by
  unfold doorbellOf at hdoor
  split at hdoor
  · exact nomatch hdoor
  · split at hdoor
    · exact nomatch hdoor
    · split at hdoor
      next hctrl =>
        split at hdoor
        · cases hdoor
          exact hctrl
        · exact nomatch hdoor
      next => exact nomatch hdoor

theorem exec_nvmeSqDoorbell_none (v : U16) (hnone : nvFind (setNv s c (psTouch k (decide (y ≠ 0)))) c true y = none) :
    exec (.nvmeSqDoorbell f y v) s = .next (nvBadDb (setNv s c (psTouch k (decide (y ≠ 0)))) c) := by
  show execNvmeSqDoorbell f y v s = _
  unfold execNvmeSqDoorbell
  rw [hdoor]
  dsimp only
  rw [hnone]

theorem exec_nvmeCqDoorbell_none (v : U16) (hnone : nvFind (setNv s c (psTouch k (decide (y ≠ 0)))) c false y = none) :
    exec (.nvmeCqDoorbell f y v) s = .next (nvBadDb (setNv s c (psTouch k (decide (y ≠ 0)))) c) := by
  show execNvmeCqDoorbell f y v s = _
  unfold execNvmeCqDoorbell
  rw [hdoor]
  dsimp only
  rw [hnone]

section
variable {i : Nat} {q : NvQ} (hlive : q.frozen = false) (hrun : k.cfs = false)
include hlive hrun

omit hdoor in
theorem doorbell_taken : ¬(q.frozen = true ∨ k.cfs = true) := by
  rw [hlive, hrun]
  decide

section
variable (hfind : nvFind (setNv s c (psTouch k (decide (y ≠ 0)))) c true y = some (i, q))
include hfind

theorem exec_nvmeSqDoorbell_moves {v : U16} (hlow : v.toNat < q.size) (hne : v.toNat ≠ q.head) : exec (.nvmeSqDoorbell f y v) s =
    .next (setNvQ (setNv s c (psTouch k (decide (y ≠ 0)))) i { q with tail := v.toNat }) := by
  show execNvmeSqDoorbell f y v s = _
  unfold execNvmeSqDoorbell
  rw [hdoor]
  dsimp only
  rw [hfind]
  exact congrArg Host.Outcome.next ((if_neg (doorbell_taken hlive hrun)).trans (if_neg (not_or.mpr ⟨Nat.not_le.mpr hlow, hne⟩)))

theorem exec_nvmeSqDoorbell_freezes {v : U16} (hbad : q.size ≤ v.toNat ∨ v.toNat = q.head) : exec (.nvmeSqDoorbell f y v) s =
    .next (nvFreeze (setNv s c (psTouch k (decide (y ≠ 0)))) c i 1 0 v.toNat 0) := by
  show execNvmeSqDoorbell f y v s = _
  unfold execNvmeSqDoorbell
  rw [hdoor]
  dsimp only
  rw [hfind]
  exact congrArg Host.Outcome.next ((if_neg (doorbell_taken hlive hrun)).trans (if_pos hbad))

end

section
variable (hfind : nvFind (setNv s c (psTouch k (decide (y ≠ 0)))) c false y = some (i, q))
include hfind

theorem exec_nvmeCqDoorbell_moves {v : U16} (hlow : v.toNat < q.size) (hused : (v.toNat + q.size - q.head) % max 1 q.size ≤ q.used) :
    exec (.nvmeCqDoorbell f y v) s = .next (nvRetry (setNvQ (setNv s c (psTouch k (decide (y ≠ 0)))) i (cqMoved q v)) c) := by
  show execNvmeCqDoorbell f y v s = _
  unfold execNvmeCqDoorbell
  rw [hdoor]
  dsimp only
  rw [hfind]
  exact congrArg Host.Outcome.next ((if_neg (doorbell_taken hlive hrun)).trans
    (if_neg (not_or.mpr ⟨Nat.not_le.mpr hlow, Nat.not_lt.mpr hused⟩)))

theorem exec_nvmeCqDoorbell_freezes {v : U16} (hbad : q.size ≤ v.toNat) : exec (.nvmeCqDoorbell f y v) s =
    .next (nvFreeze (setNv s c (psTouch k (decide (y ≠ 0)))) c i 2 0 v.toNat 0) := by
  show execNvmeCqDoorbell f y v s = _
  unfold execNvmeCqDoorbell
  rw [hdoor]
  dsimp only
  rw [hfind]
  exact congrArg Host.Outcome.next ((if_neg (doorbell_taken hlive hrun)).trans (if_pos (.inl hbad)))

end
end
end

theorem psTouch_evts (x : NvCtrl) (b : Bool) : (psTouch x b).evts = x.evts := by
  unfold psTouch
  dsimp only
  split <;> split <;> rfl

/-! ### What waits for room in a completion queue (R340, R344) -/

theorem foldl_fixes {α β : Type} (f : α → β → α) {a : α} {l : List β} (h : ∀ b ∈ l, f a b = a) : l.foldl f a = a := by
  induction l with
  | nil => rfl
  | cons b l ih =>
    rw [List.foldl_cons, h b List.mem_cons_self]
    exact ih fun b hb => h b (List.mem_cons_of_mem _ hb)

theorem tryDelete_idle {s : State} (c : Nat) {i : Nat} (hdel : ∀ q, tget s.nv.qs i = some q → q.deleting = none) : tryDelete s c i = s := by
  cases hq : tget s.nv.qs i with
  | none =>
    unfold tryDelete
    rw [hq]
  | some q => exact tryDelete_none hq (hdel q hq)

/-- Where no command, no delete and no event waits, nothing is tried again. -/
theorem nvRetry_idle {s : State} {c : Nat} {x : NvCtrl} (hx : nvCtrl s c = some x) (hcmds : ∀ m ∈ s.nv.cmds, m.2.cpl = none)
    (hdel : ∀ i q, tget s.nv.qs i = some q → q.deleting = none) (hevents : x.aers = [] ∨ x.evts = []) : nvRetry s c = s := by
  unfold nvRetry
  extract_lets s1 s2
  have hfinish : s1 = s := foldl_fixes _ fun m hm => by
    rw [hcmds m (List.mem_filter.mp hm).left]
  have hdelete : s2 = s := (foldl_fixes _ fun q _ => by
    rw [hfinish]
    exact tryDelete_idle c (hdel q.1)).trans hfinish
  rw [hdelete]
  exact nvAens_idle 8 hx hevents

theorem cqDoorbell_moves {f : Fin 1028} {y c i : Nat} {k : NvCtrl} {q : NvQ} {v : U16} {s : State}
    (hdoor : doorbellOf s f y = some (c, k)) (hfind : nvFind (setNv s c (psTouch k (decide (y ≠ 0)))) c false y = some (i, q))
    (hlive : q.frozen = false) (hrun : k.cfs = false) (hlow : v.toNat < q.size)
    (hused : (v.toNat + q.size - q.head) % max 1 q.size ≤ q.used) (hcmds : s.nv.cmds = []) (hevts : k.evts = [])
    (hdel : ∀ p ∈ s.nv.qs, p.2.deleting = none) : Completes (.nvmeCqDoorbell f y v) s (fun t =>
      tget t.nv.qs i = some (cqMoved q v) ∧
      (∀ j, j ≠ i → tget t.nv.qs j = tget s.nv.qs j) ∧ t.dict = s.dict ∧ t.mem = s.mem ∧ t.host = s.host) := by
  have hexec := exec_nvmeCqDoorbell_moves hdoor hlive hrun hfind hlow hused
  obtain ⟨hmem, -⟩ := nvFind_spec hfind
  have hnocmd : ∀ m ∈ s.nv.cmds, m.2.cpl = none := by
    rw [hcmds]
    exact nofun
  have hdel' : ∀ j p, tget (tset s.nv.qs i (cqMoved q v)) j = some p → p.deleting = none := by
    intro j p hp
    by_cases hj : j = i
    · rw [hj, tget_tset_same] at hp
      cases hp
      exact hdel _ hmem
    · rw [tget_tset_other _ _ _ _ hj] at hp
      exact hdel _ (mem_of_tget hp)
  have hidle : nvRetry (setNvQ (setNv s c (psTouch k (decide (y ≠ 0)))) i (cqMoved q v)) c =
      setNvQ (setNv s c (psTouch k (decide (y ≠ 0)))) i (cqMoved q v) :=
    nvRetry_idle (nvCtrl_setNv_same _ _ _) hnocmd hdel' (.inr ((psTouch_evts _ _).trans hevts))
  exact ⟨_, hexec.trans (congrArg Host.Outcome.next hidle), tget_tset_same _ _ _, fun j hj => tget_tset_other _ _ _ _ hj, rfl, rfl, rfl⟩
/-! ### A queue freezes (R343, R348) -/

/-- A submission queue of the completion queue `q` freezes with it. -/
def frozenWith (c : Nat) (q y : NvQ) : NvQ := if y.ctrl = c ∧ y.sq ∧ y.cq = q.qid then { y with frozen := true } else y

theorem frozenWith_spec (c : Nat) (q y : NvQ) :
    (y.frozen = true → (frozenWith c q y).frozen = true) ∧ (frozenWith c q y).deleting = y.deleting := by
  unfold frozenWith
  split
  · exact ⟨fun _ => rfl, rfl⟩
  · exact ⟨id, rfl⟩

/-- The state in which a queue of a controller has been frozen, a completion queue together with its submission queues. -/
def queueFrozen (s : State) (c i : Nat) (x : NvCtrl) (q : NvQ) (e : List Byte) : State :=
  let s2 := setNvQ (setNv s c { x with total := x.total + 1, log := keep 16 (e :: x.log) }) i { q with frozen := true }
  if q.sq then s2 else { s2 with nv := { s2.nv with qs := tmap s2.nv.qs (fun _ => frozenWith c q) } }

theorem queueFrozen_qs (s : State) (c i : Nat) (x : NvCtrl) (q : NvQ) (e : List Byte) (j : Nat) :
    tget (queueFrozen s c i x q e).nv.qs j = tget (tset s.nv.qs i { q with frozen := true }) j ∨
      tget (queueFrozen s c i x q e).nv.qs j = (tget (tset s.nv.qs i { q with frozen := true }) j).map (frozenWith c q) := by
  unfold queueFrozen
  dsimp only
  split
  · exact .inl rfl
  · exact .inr (tget_tmap (tset s.nv.qs i { q with frozen := true }) (fun _ => frozenWith c q) j)

theorem queueFrozen_keeps (s : State) (c i : Nat) (x : NvCtrl) (q : NvQ) (e : List Byte) :
    (queueFrozen s c i x q e).tens = s.tens ∧ (queueFrozen s c i x q e).err = s.err ∧ (queueFrozen s c i x q e).nv.cmds = s.nv.cmds ∧
      nvCtrl (queueFrozen s c i x q e) c = some { x with total := x.total + 1, log := keep 16 (e :: x.log) } := by
  unfold queueFrozen
  split <;> exact ⟨rfl, rfl, rfl, tget_tset_same _ _ _⟩

theorem queueFrozen_frozen (s : State) (c i : Nat) (x : NvCtrl) (q : NvQ) (e : List Byte) :
    (tget (queueFrozen s c i x q e).nv.qs i).map (·.frozen) = some true := by
  rcases queueFrozen_qs s c i x q e i with h | h
  · rw [h, tget_tset_same]
    rfl
  · rw [h, tget_tset_same]
    exact congrArg some ((frozenWith_spec c q _).left rfl)

/-- A freeze begins no delete. -/
theorem queueFrozen_deleting {s : State} (c : Nat) {i : Nat} (x : NvCtrl) {q : NvQ} (e : List Byte) (hq : tget s.nv.qs i = some q)
    (hdel : ∀ j p, tget s.nv.qs j = some p → p.deleting = none) (j : Nat) (p : NvQ)
    (hp : tget (queueFrozen s c i x q e).nv.qs j = some p) : p.deleting = none := by
  have hset : ∀ p, tget (tset s.nv.qs i { q with frozen := true }) j = some p → p.deleting = none := by
    intro p hp
    by_cases hj : j = i
    · rw [hj, tget_tset_same] at hp
      cases hp
      exact hdel i q hq
    · rw [tget_tset_other _ _ _ _ hj] at hp
      exact hdel j p hp
  rcases queueFrozen_qs s c i x q e j with h | h
  · exact hset p (h.symm.trans hp)
  · obtain ⟨p', hp', rfl⟩ := Option.map_eq_some_iff.mp (h.symm.trans hp)
    exact (frozenWith_spec c q p').right.trans (hset p' hp')

theorem taken_nv (d : ErrDesc) (l : Nat) (s : State) : (taken d l s).nv = s.nv := by
  unfold taken
  dsimp only
  split <;> split <;> rfl

/-- An error of a queue whose tenancy does not answer for itself, at an idle handler, becomes an event. -/
theorem storError_nv {s : State} (name : String) (c i : Nat) (o : Handle) (cause detail : Nat) (howner : ownQueue s o = false)
    (hidle : (handlerAt s (handlerKey 2 3 3)).active = none) :
    (ownedError (storAct name i o) (storErr c i o cause detail) s).nv = s.nv := by
  refine (congrArg State.nv (if_neg (ne_true_of_eq_false howner))).trans ?_
  rw [arrive_idle (storAct name i o) (d := storErr c i o cause detail) (l := 2) hidle]
  exact taken_nv _ _ _

section
variable {c i : Nat} {x : NvCtrl} {q : NvQ} {s : State} (hx : nvCtrl s c = some x) (hq : tget s.nv.qs i = some q)
include hx hq

theorem nvFreeze_frozen (cause status door addr : Nat) (hfrozen : q.frozen = true) : nvFreeze s c i cause status door addr = s := by
  unfold nvFreeze
  rw [hx, hq]
  exact if_pos hfrozen

/-- What a freeze leaves: the queue frozen, and an event for the host. -/
theorem nvFreeze_eq (cause status door addr : Nat) (hlive : q.frozen = false) (hio : q.qid ≠ 0) (haers : x.aers = [])
    (howner : ownQueue s x.owner = false) (hidle : (handlerAt s (handlerKey 2 3 3)).active = none) :
    ∃ e u ev, u.nv = (queueFrozen s c i x q e).nv ∧ nvFreeze s c i cause status door addr =
      setNv u c { x with total := x.total + 1, log := keep 16 (e :: x.log), evts := keep 16 (x.evts ++ [ev]) } := by
  have hrun : ∃ e, nvFreeze s c i cause status door addr = nvEvent (ownedError (storAct "NVME_QUEUE_FROZEN" i x.owner)
      (storErr c i x.owner (if cause ≤ 2 then 4 else 3) cause) (queueFrozen s c i x q e)) c (if cause ≤ 2 then 1 else 2) 0xC0 := by
    unfold nvFreeze
    rw [hx, hq]
    exact ⟨_, (if_neg (ne_true_of_eq_false hlive)).trans (if_neg hio)⟩
  obtain ⟨e, hrun⟩ := hrun
  obtain ⟨htens, herr, -, hctrl⟩ := queueFrozen_keeps s c i x q e
  have hidle' : (handlerAt (queueFrozen s c i x q e) (handlerKey 2 3 3)).active = none := by
    rw [handlerAt, herr]
    exact hidle
  have hnv := storError_nv "NVME_QUEUE_FROZEN" c i x.owner (if cause ≤ 2 then 4 else 3) cause
    ((ownQueue_of_tens htens _).trans howner) hidle'
  refine ⟨e, _, (if cause ≤ 2 then 1 else 2, 0xC0), hnv, hrun.trans ?_⟩
  unfold nvEvent modNv nvCtrl
  rw [hnv, show tget (queueFrozen s c i x q e).nv.ctrls c = _ from hctrl]
  exact nvAens_idle 8 (nvCtrl_setNv_same _ _ _) (.inl haers)

/-- What a freeze of a live I/O queue leaves of controllers, queues and commands. -/
theorem nvFreeze_spec (cause status door addr : Nat) (hlive : q.frozen = false) (hio : q.qid ≠ 0) (haers : x.aers = [])
    (howner : ownQueue s x.owner = false) (hidle : (handlerAt s (handlerKey 2 3 3)).active = none) :
    (tget (nvFreeze s c i cause status door addr).nv.qs i).map (·.frozen) = some true ∧
      (∃ y, nvCtrl (nvFreeze s c i cause status door addr) c = some y ∧ y.total = x.total + 1 ∧ y.aers = []) ∧
      (nvFreeze s c i cause status door addr).nv.cmds = s.nv.cmds ∧
      ((∀ j p, tget s.nv.qs j = some p → p.deleting = none) →
        ∀ j p, tget (nvFreeze s c i cause status door addr).nv.qs j = some p → p.deleting = none) := by
  obtain ⟨e, u, ev, hnv, hfreeze⟩ := nvFreeze_eq hx hq cause status door addr hlive hio haers howner hidle
  obtain ⟨-, -, hcmds, -⟩ := queueFrozen_keeps s c i x q e
  rw [hfreeze]
  have hqs : (setNv u c { x with total := x.total + 1, log := keep 16 (e :: x.log), evts := keep 16 (x.evts ++ [ev]) }).nv.qs =
      (queueFrozen s c i x q e).nv.qs := (congrArg NvState.qs hnv :)
  rw [hqs]
  exact ⟨queueFrozen_frozen s c i x q e, ⟨_, nvCtrl_setNv_same _ _ _, rfl, haers⟩, (congrArg NvState.cmds hnv :).trans hcmds,
    queueFrozen_deleting c x e hq⟩

end

theorem exec_nvmeCqFullLimit_full {c : Fin 256} {cq i : Nat} {q : NvQ} {s : State} (hfind : nvFind s c false cq = some (i, q))
    (hfull : q.size ≤ q.used + 1) (hsize : q.size ≠ 0) :
    exec (.nvmeCqFullLimit c cq) s = .next (nvRetry (nvFreeze s c i 4 0 0 0) c) := by
  show execNvmeCqFullLimit c cq s = _
  unfold execNvmeCqFullLimit
  rw [hfind]
  exact congrArg Host.Outcome.next (if_neg (not_or.mpr ⟨Nat.not_lt.mpr hfull, hsize⟩))

/-- A completion queue full for too long is frozen, if it was not, and nothing is tried again where nothing waits. -/
theorem cqFullLimit_frozen {c : Fin 256} {cq i : Nat} {q : NvQ} {x : NvCtrl} {s : State} (hfind : nvFind s c false cq = some (i, q))
    (hfull : q.size ≤ q.used + 1) (hsize : q.size ≠ 0) (hx : nvCtrl s c = some x) (hq : tget s.nv.qs i = some q) (hio : q.qid ≠ 0)
    (haers : x.aers = []) (hcmds : ∀ m ∈ s.nv.cmds, m.2.cpl = none) (hdel : ∀ p ∈ s.nv.qs, p.2.deleting = none)
    (howner : ownQueue s x.owner = false) (hidle : (handlerAt s (handlerKey 2 3 3)).active = none) :
    Completes (.nvmeCqFullLimit c cq) s (fun t => (tget t.nv.qs i).map (·.frozen) = some true ∧ t.mem = s.mem ∧ t.hmem = s.hmem) := by
  have hexec := exec_nvmeCqFullLimit_full hfind hfull hsize
  have hdel' : ∀ j p, tget s.nv.qs j = some p → p.deleting = none := fun _ _ hp => hdel _ (mem_of_tget hp)
  refine ⟨_, hexec, ?_, mems_of_frame ((frame_nvRetry _ _).trans (frame_nvFreeze _ _ _ _ _ _ _))⟩
  cases hfrozen : q.frozen with
  | true =>
    rw [nvFreeze_frozen hx hq 4 0 0 0 hfrozen, nvRetry_idle hx hcmds hdel' (.inl haers), hq]
    exact congrArg some hfrozen
  | false =>
    obtain ⟨hset, ⟨y, hy, -, haers'⟩, hcmds', hdel''⟩ := nvFreeze_spec hx hq 4 0 0 0 hfrozen hio haers howner hidle
    rw [nvRetry_idle hy (fun m hm => hcmds m (by rw [← hcmds']; exact hm)) (hdel'' hdel') (.inl haers')]
    exact hset

section
variable {c : Fin 256} {n i : Nat} {q : NvQ} {s : State} (hfind : nvFind s c true n = some (i, q)) (hready : sqEligible s q = true)
include hfind hready

theorem exec_nvmeSqReadFailed_freezes (timeout : Bool) : exec (.nvmeSqReadFailed c n timeout) s =
    .next (nvFreeze s c i 3 (statusCode (if timeout then .timeout else .access)) 0 (q.base + 64 * q.head)) := by
  show execNvmeSqReadFailed c n timeout s = _
  unfold execNvmeSqReadFailed
  rw [hfind]
  exact congrArg Host.Outcome.next (if_pos hready)

omit hfind in
theorem sqEligible_live : q.frozen = false := by
  unfold sqEligible at hready
  cases hctrl : nvCtrl s q.ctrl with
  | none =>
    rw [hctrl, Bool.and_false] at hready
    exact nomatch hready
  | some x =>
    rw [hctrl] at hready
    simp only [Bool.and_eq_true, Bool.not_eq_true'] at hready
    obtain ⟨-, ⟨⟨⟨⟨⟨⟨⟨⟨_, hlive⟩, _⟩, _⟩, _⟩, _⟩, _⟩, _⟩, _⟩, _⟩ := hready
    exact hlive

theorem sqReadFailed_frozen {x : NvCtrl} (e : Bool) (hx : nvCtrl s c = some x) (hq : tget s.nv.qs i = some q) (hio : q.qid ≠ 0)
    (haers : x.aers = []) (howner : ownQueue s x.owner = false) (hidle : (handlerAt s (handlerKey 2 3 3)).active = none) :
    Completes (.nvmeSqReadFailed c n e) s (fun t => (tget t.nv.qs i).map (·.frozen) = some true ∧
      (nvCtrl t c).map (·.total) = some (x.total + 1) ∧ t.mem = s.mem ∧ t.hmem = s.hmem) := by
  obtain ⟨hset, ⟨y, hy, htotal, -⟩, -⟩ := nvFreeze_spec hx hq 3 (statusCode (if e then .timeout else .access)) 0 (q.base + 64 * q.head)
    (sqEligible_live hready) hio haers howner hidle
  refine ⟨_, exec_nvmeSqReadFailed_freezes hfind hready e, hset, ?_, mems_of_frame (frame_nvFreeze _ _ _ _ _ _ _)⟩
  rw [hy]
  exact congrArg some htotal

end

theorem nvmeControllers : Claims.NvmeControllers := by
  refine ⟨fun who r s hglen hok => congrArg Host.Outcome.next (runOp_ok _ s hglen hok), fun who r s => nvmeCtrlCreate_completes,
    fun who h s hglen hok => congrArg Host.Outcome.next (runOp_ok _ s hglen hok), fun who h s => nvmeCtrlDestroy_completes,
    fun who v r s hglen hok => congrArg Host.Outcome.next (runOp_ok _ s hglen hok), fun who v r s => nvmeVolWrite_completes,
    fun c cc x s hx hoff hserves hset => ⟨fun hbad => ?invalid, fun hgood => ccEnSet_valid hx hoff hserves hset hgood⟩,
    fun c x s hx hon hserves => ⟨exec_ccEnClear_enabled hx hon hserves, ccEnClear_resets hx hon hserves⟩,
    fun f y v c k s hdoor => ⟨exec_nvmeSqDoorbell_none hdoor v, exec_nvmeCqDoorbell_none hdoor v, fun i q hfind hlive hrun => ?sq,
      fun i q hfind hlive hrun => ?cq⟩, fun c p x s hx hrdy hon hnone hidle hps htime => ?apst, fun c x p s hx hto => ?done,
    fun p n l z m g s => ssdEnumerated_enters n l z m g, fun c cq i q s hfind hfull hsize => ?full, fun c n i q s hfind hready => ?failed⟩
  case invalid =>
    exact ⟨_, exec_ccEnSet_invalid hx hoff hserves hset hbad, onlyCtrl_setNv _, nvCtrl_setNv_same _ _ _⟩
  case sq =>
    exact ⟨fun hlow hne => ⟨_, exec_nvmeSqDoorbell_moves hdoor hlive hrun hfind hlow hne, tget_tset_same _ _ _,
      fun j hj => tget_tset_other _ _ _ _ hj, rfl, rfl, rfl⟩, exec_nvmeSqDoorbell_freezes hdoor hlive hrun hfind⟩
  case cq =>
    exact ⟨fun hlow hused => ⟨exec_nvmeCqDoorbell_moves hdoor hlive hrun hfind hlow hused,
      cqDoorbell_moves hdoor hfind hlive hrun hlow hused⟩, exec_nvmeCqDoorbell_freezes hdoor hlive hrun hfind⟩
  case apst =>
    exact ⟨_, exec_autonomousPowerStateTransition hx hrdy hon hnone hidle hps htime, onlyCtrl_setNv _, nvCtrl_setNv_same _ _ _⟩
  case done =>
    exact ⟨_, exec_powerStateTransitionDone hx hto, onlyCtrl_setNv _, nvCtrl_setNv_same _ _ _⟩
  case full =>
    exact ⟨exec_nvmeCqFullLimit_full hfind hfull hsize, fun x => cqFullLimit_frozen hfind hfull hsize⟩
  case failed =>
    exact ⟨exec_nvmeSqReadFailed_freezes hfind hready true, exec_nvmeSqReadFailed_freezes hfind hready false,
      fun x e => sqReadFailed_frozen hfind hready e⟩

end Sys2Proof.Machine

end

section
/-! NVMe: admin commands (R330-R336, R340-R344) -/

namespace Sys2Proof.Machine

/-! ### The row of an admin command (R335, R336) -/

theorem modNvQ_keeps (s : State) (i : Nat) (f : NvQ → NvQ) : (modNvQ s i f).nv.ctrls = s.nv.ctrls ∧ (modNvQ s i f).dict = s.dict ∧
    (modNvQ s i f).mem = s.mem ∧ (modNvQ s i f).hmem = s.hmem ∧ (modNvQ s i f).host = s.host := by
  unfold modNvQ
  split <;> exact ⟨rfl, rfl, rfl, rfl, rfl⟩

/-- The state after admin submission queue `i` has given its command away. -/
def entryTaken (u : State) (i : Nat) : State := modNvQ u i (fun y => { y with entry := none })

section
variable {c : Fin 256} {op i : Nat} {x : NvCtrl} {b : List Byte} {s u : State} {run : NvCtrl → Nat → List Byte → State × Option (Nat × Nat)}
  (h : AdminAt s c op x i b)
include h

theorem adminRow_runs : adminRow s c op run = match (run x i b).2 with
    | none => entryTaken (run x i b).1 i
    | some (st, dw0) => (nvPost (entryTaken (run x i b).1 i) c i (sCid b) st dw0 (sNsid b)).getD s := by
  obtain ⟨hx, ⟨q, hfind, hentry⟩, hop, hfuse, hcfs, hrdy, hissues⟩ := h
  have hgo : ¬(sField b 0 1 ≠ op ∨ x.cfs = true ∨ ¬x.rdy = true ∨ ¬fnIssues s x.fn = true) := by
    simp only [hop, hcfs, hrdy, hissues, ne_eq, not_true_eq_false, Bool.false_eq_true, or_self, not_false_eq_true]
  unfold adminRow
  rw [hx, hfind]
  dsimp only
  rw [hentry]
  exact (if_neg hgo).trans (if_neg (not_not.mpr hfuse))

/-- A command whose row answers ends with the completion of that answer. -/
theorem ends_of_run {cmd : Instr} {st dw0 : Nat} (hexec : exec cmd s = .next (adminRow s c op run)) (hrun : run x i b = (u, some (st, dw0))) :
    Ends cmd s u c i b st dw0 := by
  have hrow : adminRow s c op run = (nvPost (entryTaken u i) c i (sCid b) st dw0 (sNsid b)).getD s := by
    rw [adminRow_runs h, hrun]
  have hposted : ∀ t, Posted u t c i b st dw0 → exec cmd s = .next t := by
    intro t ht
    rw [hexec, hrow]
    exact congrArg (fun o => Host.Outcome.next (Option.getD o s)) ht
  refine ⟨hposted, fun ⟨q, k, cq, hq, hfind, hlive, hroom⟩ => ?_⟩
  obtain ⟨t, ht⟩ := Option.isSome_iff_exists.mp (nvPost_room hq hfind (sCid b) st dw0 (sNsid b) hlive hroom)
  obtain ⟨-, hdict, hmem, -⟩ := nvPost_keeps ht
  obtain ⟨-, hdict', hmem', -⟩ := modNvQ_keeps u i (fun y => { y with entry := none })
  exact ⟨t, hposted t ht, ht, hmem.trans hmem', hdict.trans hdict'⟩

/-- A command whose row answers later leaves no completion. -/
theorem adminRow_later (hrun : run x i b = (u, none)) : adminRow s c op run = entryTaken u i := by
  rw [adminRow_runs h, hrun]

end

/-! ### Queues are created and deleted (R333, R344) -/

section
variable {c : Fin 256} {i : Nat} {x : NvCtrl} {b : List Byte} {s : State}

theorem createIoCq_badQid (h : AdminAt s c 0x05 x i b) (hbad : qidBad s c x false (sDw b 10 % 65536) = true) :
    Ends (.createIoCq c) s s c i b nvBadQid 0 := ends_of_run h rfl (if_pos hbad)

/-- A queue is physically contiguous at a page's start. -/
theorem contiguous {d base : Nat} (hbit : bitOf d 0 = true) (hpage : base % 4096 = 0) : ¬(¬bitOf d 0 = true ∨ base % 4096 ≠ 0) := by
  rw [hbit, hpage]
  decide

theorem createIoCq_creates {u : State} (h : AdminAt s c 0x05 x i b) (hqid : qidBad s c x false (sDw b 10 % 65536) = false)
    (hsize : sizeBad (sDw b 10 / 65536) = false) (hbit : bitOf (sDw b 11) 0 = true) (hpage : sField b 24 8 % 4096 = 0)
    (hvec : sDw b 11 / 65536 < msixSize s x.fn) (hnew : nvNewQ s x {
      ctrl := c, sq := false, qid := sDw b 10 % 65536, base := sField b 24 8, size := sDw b 10 / 65536 + 1, vector := sDw b 11 / 65536,
      ien := bitOf (sDw b 11) 1 } = some u) :
    Ends (.createIoCq c) s u c i b 0 0 := by
  refine ends_of_run h rfl ((if_neg (ne_true_of_eq_false hqid)).trans ((if_neg (ne_true_of_eq_false hsize)).trans
    ((if_neg (contiguous hbit hpage)).trans ((if_neg (Nat.not_le.mpr hvec)).trans ?_))))
  rw [hnew]

theorem createIoSq_noCq (h : AdminAt s c 0x01 x i b) (hcq : sDw b 11 / 65536 = 0 ∨ nvFind s c false (sDw b 11 / 65536) = none) :
    Ends (.createIoSq c) s s c i b nvCqInvalid 0 :=
  ends_of_run h rfl (if_pos (hcq.imp_right Option.isNone_iff_eq_none.mpr))

theorem createIoSq_creates {u : State} (h : AdminAt s c 0x01 x i b) (hne : sDw b 11 / 65536 ≠ 0)
    (hcq : (nvFind s c false (sDw b 11 / 65536)).isSome = true) (hqid : qidBad s c x true (sDw b 10 % 65536) = false)
    (hsize : sizeBad (sDw b 10 / 65536) = false) (hbit : bitOf (sDw b 11) 0 = true) (hpage : sField b 24 8 % 4096 = 0)
    (hnew : nvNewQ s x {
      ctrl := c, sq := true, qid := sDw b 10 % 65536, base := sField b 24 8, size := sDw b 10 / 65536 + 1, cq := sDw b 11 / 65536 } = some u) :
    Ends (.createIoSq c) s u c i b 0 0 := by
  have hthere : ¬(sDw b 11 / 65536 = 0 ∨ (nvFind s c false (sDw b 11 / 65536)).isNone = true) :=
    not_or.mpr ⟨hne, fun hnone => by rw [Option.isNone_iff_eq_none.mp hnone] at hcq; exact nomatch hcq⟩
  refine ends_of_run h rfl ((if_neg hthere).trans ((if_neg (ne_true_of_eq_false hqid)).trans ((if_neg (ne_true_of_eq_false hsize)).trans
    ((if_neg (contiguous hbit hpage)).trans ?_))))
  rw [hnew]

section
variable {k : Nat} {q : NvQ} (hqid : sDw b 10 % 65536 ≠ 0)
include hqid

/-- Queue 0 is not deleted; another is looked up. -/
theorem deleted_found {o : Option (Nat × NvQ)} (hfind : o = some (k, q)) : (if sDw b 10 % 65536 = 0 then none else o) = some (k, q) :=
  (if_neg hqid).trans hfind

theorem deleteIoSq_deletes (h : AdminAt s c 0x00 x i b) (hfind : nvFind s c true (sDw b 10 % 65536) = some (k, q))
    (hdel : q.deleting = none) (hcmds : ∀ m ∈ s.nv.cmds, m.2.sq ≠ k) : Ends (.deleteIoSq c) s (dropNvQ s k true) c i b 0 0 := by
  have hnone : ¬(s.nv.cmds.any (fun m => decide (m.2.sq = k)) = true) := by simpa using hcmds
  refine ends_of_run h rfl ?_
  dsimp only
  rw [deleted_found hqid hfind]
  dsimp only
  rw [hdel]
  exact if_neg hnone

section
variable (h : AdminAt s c 0x04 x i b) (hfind : nvFind s c false (sDw b 10 % 65536) = some (k, q))
include h hfind

theorem deleteIoCq_used (hused : ∃ p ∈ s.nv.qs, p.2.ctrl = c.val ∧ p.2.sq = true ∧ p.2.cq = sDw b 10 % 65536) :
    Ends (.deleteIoCq c) s s c i b nvBadDelete 0 := by
  have hany : s.nv.qs.any (fun p => decide (p.2.ctrl = c.val) && p.2.sq && decide (p.2.cq = sDw b 10 % 65536)) = true := by
    simpa [and_assoc] using hused
  refine ends_of_run h rfl ?_
  dsimp only
  rw [deleted_found hqid hfind]
  exact if_pos hany

theorem deleteIoCq_deletes (hfree : ∀ p ∈ s.nv.qs, p.2.ctrl = c.val → p.2.sq = true → p.2.cq ≠ sDw b 10 % 65536) :
    Ends (.deleteIoCq c) s (dropNvQ s k true) c i b 0 0 := by
  have hany : ¬(s.nv.qs.any (fun p => decide (p.2.ctrl = c.val) && p.2.sq && decide (p.2.cq = sDw b 10 % 65536)) = true) := by
    simpa using hfree
  refine ends_of_run h rfl ?_
  dsimp only
  rw [deleted_found hqid hfind]
  exact if_neg hany

end
end

/-! ### Logs, identification, abort (R330, R332, R340, R343) -/

theorem getLogPage_answers {p : List Byte} (h : AdminAt s c 0x02 x i b) (hpage : logPage s x (sDw b 10 % 256) = some p)
    (hoff : sDw b 12 + sDw b 13 * 2 ^ 32 ≤ p.length) (halign : (sDw b 12 + sDw b 13 * 2 ^ 32) % 4 = 0) (hretain : bitOf (sDw b 10) 15 = true) :
    Ends (.getLogPage c) s (nvAnswer s c b (sliceD p (sDw b 12 + sDw b 13 * 2 ^ 32) (min ((sDw b 10 / 65536 + sDw b 11 % 65536 * 65536 + 1) * 4)
      (p.length - (sDw b 12 + sDw b 13 * 2 ^ 32))) 0)) c i b 0 0 := by
  refine ends_of_run h rfl ?_
  dsimp only
  rw [hpage]
  dsimp only
  rw [if_neg (not_or.mpr ⟨Nat.not_lt.mpr hoff, not_not.mpr halign⟩), if_pos hretain]

theorem identify_controller (h : AdminAt s c 0x06 x i b) (hcns : sDw b 10 % 256 = 1) :
    Ends (.identify c) s (nvAnswer s c b (identifyCtrl s c)) c i b 0 0 :=
  ends_of_run h rfl ((if_neg (by omega)).trans (if_pos hcns))

theorem identify_unknown (h : AdminAt s c 0x06 x i b) (hcns : 3 < sDw b 10 % 256) : Ends (.identify c) s s c i b nvInvalidField 0 :=
  ends_of_run h rfl ((if_neg (by omega)).trans ((if_neg (by omega)).trans ((if_neg (by omega)).trans (if_neg (by omega)))))

/-- The commands that an Abort of `cid` at submission queue `sqid` reaches: waiting for their backend. -/
def abortable (s : State) (c sqid cid : Nat) (m : Nat × NvCmd) : Bool :=
  decide (m.2.ctrl = c) && decide (m.2.cid = cid) && !m.2.started && decide (m.2.cpl = none)
    && (match tget s.nv.qs m.2.sq with | some q => decide (q.qid = sqid) | none => false)

/-- What an Abort does and answers. -/
def abortRow (s : State) (c : Nat) (b : List Byte) : State × Option (Nat × Nat) :=
  match s.nv.cmds.find? (abortable s c (sDw b 10 % 65536) (sDw b 10 / 65536)) with
  | some m => (nvFinish s m.1 nvAborted 0, some (0, 0))
  | none =>
    match headWaits s c (sDw b 10 % 65536) (sDw b 10 / 65536) with
    | some (i, e) => (abortHead s c i (sDw b 10 / 65536) e, some (0, 0))
    | none => (s, some (0, 1))

theorem exec_abort_row (c : Fin 256) (s : State) : exec (.abort c) s = .next (adminRow s c 0x08 (fun _ _ b => abortRow s c b)) := rfl

section
variable (h : AdminAt s c 0x08 x i b)
include h

theorem abort_none (hnone : s.nv.cmds.find? (abortable s c (sDw b 10 % 65536) (sDw b 10 / 65536)) = none)
    (hhead : headWaits s c (sDw b 10 % 65536) (sDw b 10 / 65536) = none) : Ends (.abort c) s s c i b 0 1 := by
  refine ends_of_run h (exec_abort_row c s) ?_
  unfold abortRow
  rw [hnone]
  dsimp only
  rw [hhead]

theorem abort_found {m : Nat × NvCmd} (hfind : s.nv.cmds.find? (abortable s c (sDw b 10 % 65536) (sDw b 10 / 65536)) = some m) :
    Ends (.abort c) s (nvFinish s m.1 nvAborted 0) c i b 0 0 := by
  refine ends_of_run h (exec_abort_row c s) ?_
  unfold abortRow
  rw [hfind]

end

theorem abortable_none {sqid cid : Nat} (hstarted : ∀ m ∈ s.nv.cmds, m.2.ctrl = c.val → m.2.cid = cid → m.2.started = true) :
    s.nv.cmds.find? (abortable s c sqid cid) = none := by
  refine List.find?_eq_none.mpr fun m hm habort => ?_
  simp only [abortable, Bool.and_eq_true, decide_eq_true_eq, Bool.not_eq_true'] at habort
  obtain ⟨⟨⟨⟨hctrl, hcid⟩, hnew⟩, -⟩, -⟩ := habort
  exact Bool.false_ne_true (hnew.symm.trans (hstarted m hm hctrl hcid))

theorem abortable_first {sqid cid : Nat} {m : Nat × NvCmd} {r : List (Nat × NvCmd)} (hcmds : s.nv.cmds = m :: r) (hctrl : m.2.ctrl = c.val)
    (hcid : m.2.cid = cid) (hnew : m.2.started = false) (hcpl : m.2.cpl = none) (hq : (tget s.nv.qs m.2.sq).map (·.qid) = some sqid) :
    s.nv.cmds.find? (abortable s c sqid cid) = some m := by
  obtain ⟨q, hget, rfl⟩ := Option.map_eq_some_iff.mp hq
  have habort : abortable s c q.qid cid m = true := by
    simp only [abortable, hctrl, hcid, hnew, hcpl, hget, decide_true, Bool.not_false, Bool.and_self]
  rw [hcmds]
  exact List.find?_cons_of_pos habort

/-! ### Features, events, format (R341, R343) -/

/-- A Set Features for another feature than the power state transitions reads no host memory. -/
theorem adminReads_plain (h : AdminAt s c 0x09 x i b) (hfid : sDw b 10 % 256 ≠ 0x0C) : adminReads s c = false := by
  obtain ⟨-, ⟨q, hfind, hentry⟩, -⟩ := h
  unfold adminReads
  rw [hfind]
  dsimp only
  rw [hentry]
  dsimp only
  rw [decide_eq_false hfid, Bool.and_false]

section
variable (h : AdminAt s c 0x09 x i b)
include h

theorem setFeatures_coalescing (hfid : sDw b 10 % 256 = 0x08) (hsave : bitOf (sDw b 10) 31 = false) :
    Ends (.setFeatures c) s (setNv s c { x with feats := tset x.feats 8 (sDw b 11 % 65536) }) c i b 0 0 := by
  refine ends_of_run h (congrArg Host.Outcome.next (if_neg (ne_true_of_eq_false (adminReads_plain h (by omega))))) ?_
  dsimp only
  rw [hsave, hfid]
  rfl

theorem setFeatures_power (hfid : sDw b 10 % 256 = 0x02) (hsave : bitOf (sDw b 10) 31 = false) (hlow : sDw b 11 % 32 ≤ 3)
    (hne : sDw b 11 % 32 ≠ x.ps) : Ends (.setFeatures c) s (setNv s c { x with psTo := some (sDw b 11 % 32) }) c i b 0 0 := by
  refine ends_of_run h (congrArg Host.Outcome.next (if_neg (ne_true_of_eq_false (adminReads_plain h (by omega))))) ?_
  dsimp only
  rw [if_neg (ne_true_of_eq_false hsave), if_pos hfid, if_neg (Nat.not_lt.mpr hlow), if_neg (fun ⟨hps, _⟩ => hne hps)]

end

theorem getFeatures_coalescing (h : AdminAt s c 0x0A x i b) (hfid : sDw b 10 % 256 = 0x08) (hsel : bitsOf (sDw b 10) 8 3 = 0) :
    Ends (.getFeatures c) s s c i b 0 (tgetD x.feats 8 0) := by
  refine ends_of_run h rfl ?_
  dsimp only
  rw [hfid, hsel]
  rfl

section
variable (h : AdminAt s c 0x0C x i b)
include h

theorem asynchronousEventRequest_limit (hfull : 4 ≤ x.aers.length) : Ends (.asynchronousEventRequest c) s s c i b nvAerLimit 0 :=
  ends_of_run h rfl (if_pos hfull)

theorem exec_asynchronousEventRequest_waits (hroom : x.aers.length < 4) : exec (.asynchronousEventRequest c) s =
    .next (entryTaken (nvAens 8 c (setNv s c { x with aers := x.aers ++ [sCid b] })) i) :=
  congrArg Host.Outcome.next (adminRow_later h (if_neg (Nat.not_le.mpr hroom)))

theorem asynchronousEventRequest_waits (hroom : x.aers.length < 4) (hevts : x.evts = []) : Completes (.asynchronousEventRequest c) s (fun t =>
    nvCtrl t c = some { x with aers := x.aers ++ [sCid b] } ∧ (∀ d, d ≠ c.val → nvCtrl t d = nvCtrl s d) ∧ t.dict = s.dict ∧
    t.mem = s.mem ∧ t.hmem = s.hmem ∧ t.host = s.host) := by
  have hidle : nvAens 8 c (setNv s c { x with aers := x.aers ++ [sCid b] }) = setNv s c { x with aers := x.aers ++ [sCid b] } :=
    nvAens_idle 8 (nvCtrl_setNv_same _ _ _) (.inr hevts)
  have hexec := exec_asynchronousEventRequest_waits h hroom
  rw [hidle] at hexec
  obtain ⟨hctrls, hdict, hmem, hhmem, hhost⟩ := modNvQ_keeps (setNv s c { x with aers := x.aers ++ [sCid b] }) i (fun y => { y with entry := none })
  exact ⟨_, hexec, (congrArg (fun l => tget l c.val) hctrls).trans (tget_tset_same _ _ _),
    fun d hd => (congrArg (fun l => tget l d) hctrls).trans (tget_tset_other _ _ _ _ hd), hdict, hmem, hhmem, hhost⟩

end

section
variable {v r : Nat} (h : AdminAt s c 0x80 x i b) (hvol : volOf s c (sNsid b) = some (v, r))
include h hvol

theorem formatNvm_protected (hprot : volProtected r = true) : Ends (.formatNvm c) s s c i b nvWriteProtected 0 := by
  refine ends_of_run h rfl ?_
  dsimp only
  rw [hvol]
  exact if_pos hprot

theorem formatNvm_rekeys (hfree : volProtected r = false) (hformat : sDw b 10 % 16 = 0) (hplain : bitsOf (sDw b 10) 4 5 = 0) :
    Ends (.formatNvm c) s (rekeySlot (drawTrng s 512).2 (volSlot r) (beBytes 64 (drawTrng s 512).1)) c i b 0 0 := by
  refine ends_of_run h rfl ?_
  dsimp only
  rw [hvol]
  exact (if_neg (ne_true_of_eq_false hfree)).trans ((if_neg (not_not.mpr hformat)).trans (if_neg (not_not.mpr hplain)))

end
end

theorem nvmeAdmin : Claims.NvmeAdmin := by
  refine ⟨fun c x i b s h => ⟨createIoCq_badQid h, fun u => createIoCq_creates h⟩,
    fun c x i b s h => ⟨createIoSq_noCq h, fun u => createIoSq_creates h⟩,
    fun c x i b s k q h hqid hfind hdel hcmds => deleteIoSq_deletes hqid h hfind hdel hcmds,
    fun c x i b s k q h hqid hfind => ⟨deleteIoCq_used hqid h hfind, deleteIoCq_deletes hqid h hfind⟩,
    fun c x i b s p h hpage hoff halign hretain => getLogPage_answers h hpage hoff halign hretain,
    fun c x i b s h => ⟨identify_controller h, identify_unknown h⟩,
    fun c x i b s h => ⟨fun hstarted hhead => abort_none h (abortable_none hstarted) hhead, fun m r hcmds hctrl hcid hnew hcpl hq => ?abort⟩,
    fun c x i b s h => setFeatures_coalescing h, fun c x i b s h => setFeatures_power h, fun c x i b s h => getFeatures_coalescing h,
    fun c x i b s h => ⟨asynchronousEventRequest_limit h, fun hroom => ⟨exec_asynchronousEventRequest_waits h hroom,
      asynchronousEventRequest_waits h hroom⟩⟩,
    fun c x i b s v r h hvol => ⟨formatNvm_protected h hvol, formatNvm_rekeys h hvol⟩,
    fun s c i sq k cq cid st dw0 ns hctrl hsq hfind => ⟨nvPost_frozen hsq hfind cid st dw0 ns hctrl, nvPost_full hsq hfind cid st dw0 ns hctrl,
      nvPost_room hsq hfind cid st dw0 ns⟩⟩
  case abort => exact abort_found h (abortable_first hcmds hctrl hcid hnew hcpl hq)

/-- Settles O40: an admin command ends as its row answers (`ends_of_run`), a live I/O queue freezes with its submission queues
(`nvFreeze_spec`), and nothing is tried again where nothing waits (`nvRetry_idle`). -/
theorem storageControllers : Obligations.StorageControllers := ⟨nvmeControllers, nvmeAdmin⟩

end Sys2Proof.Machine

end
